-- ==== Sys2Proof/Word.lean ====
section
/-! DEFINITION. The word types of the VT310 model and their plainest arithmetic. -/

namespace Sys2Proof

/-- One octet of the window, of a frame or of the codec port. -/
abbrev Byte := BitVec 8

/-- A value of the Time Base: a 32-bit count of milliseconds (R199). -/
abbrev Time := BitVec 32

/-- A half-word of the local bus port. -/
abbrev Half := BitVec 16

/-- `ms n` is the duration of `n` milliseconds as an addend to a time. -/
abbrev ms (n : Nat) : Time := BitVec.ofNat 32 n

/-- The number of one of the 32 order slots. -/
abbrev SlotNo := Fin 32

/-- The number of one of the eight door channels. -/
abbrev ChannelNo := Fin 8

/-- The number of one of the two voice slots: 0 is V0, 1 is V1. -/
abbrev VoiceNo := Fin 2

end Sys2Proof
end

