-- ==== Sys2Proof/Syntax.lean ====
section
/-! DEFINITION. The commands of the VT310: one constructor of `Instr` per row of spec/opcode_table.json.

An order command (CABIN_REGISTER to UNKNOWN_KIND) is the taking of a posted order by the Order Intake (R193): its operand is
the slot; the order's parameters stand in that slot's octets (R196), where the host has written them with HOST_WRITE.
A field event carries what the field shows the part. A timer event carries nothing but the unit it concerns. -/

namespace Sys2Proof

/-- The levels of the two phases of an encoder (section 2.1). -/
structure Phases where
  a : Bool := false
  b : Bool := false
  deriving DecidableEq, Repr

/-- What the two phases of one encoder show its quadrature decoder (R25): the levels that it observes after the previous sample, in
order, and those that it finds at this sample. -/
structure EncoderInterval where
  between : List Phases
  atSample : Phases
  deriving DecidableEq, Repr

/-- The raw inputs that the part reads at one sample tick: D1 to D7 (bit k-1 is Dk), LOCKSENSE, SW1 to SW8 (bit k-1 is SWk, high
is CLOSED), RETCLOSED, HOOK0 and HOOK1, and the two encoders' intervals. -/
structure SampleInputs where
  detectors : BitVec 7
  lockSense : Bool
  switches : BitVec 8
  retClosed : Bool
  hooks : BitVec 2
  enc1 : EncoderInterval
  enc2 : EncoderInterval
  deriving DecidableEq, Repr

/-- The raw limit and lock inputs of one door channel at one sample (R78). -/
structure ChannelInputs where
  limA : Bool
  limB : Bool
  lockSns : Bool
  deriving DecidableEq, Repr

/-- The eleven answers of one converter scan, C0 to C10: the code of a well-formed answer, `none` for a missing or malformed
one (R51). -/
abbrev ScanAnswers := Vector (Option (BitVec 12)) 11

/-- A summit frame as received in one frame period: the bit period, counted from 1 ms after the start of the valley frame it
answers, at which its sync began (R143), and its octets in the order received. -/
structure SummitFrame where
  offset : Int
  octets : List Byte
  deriving DecidableEq, Repr

/-- The commands. -/
inductive Instr where
  | cabinRegister (slot : SlotNo)
  | cabinUnregister (slot : SlotNo)
  | cabinPlace (slot : SlotNo)
  | cabinSetService (slot : SlotNo)
  | cabinIdentify (slot : SlotNo)
  | rosterLoad (slot : SlotNo)
  | stationQueueLoad (slot : SlotNo)
  | sensorConfigure (slot : SlotNo)
  | doorConfigure (slot : SlotNo)
  | doorMove (slot : SlotNo)
  | doorHalt (slot : SlotNo)
  | doorResetFault (slot : SlotNo)
  | startBudgetSet (slot : SlotNo)
  | doorProgramLoad (slot : SlotNo)
  | cabinDoorConfirm (slot : SlotNo)
  | stationPrepare (slot : SlotNo)
  | stationStart (slot : SlotNo)
  | stationStop (slot : SlotNo)
  | stationFastStop (slot : SlotNo)
  | stationOff (slot : SlotNo)
  | causeAcknowledge (slot : SlotNo)
  | profileWrite (slot : SlotNo)
  | profileSwitch (slot : SlotNo)
  | lineConfigure (slot : SlotNo)
  | lineStart (slot : SlotNo)
  | lineProbe (slot : SlotNo)
  | lineDormant (slot : SlotNo)
  | lineSetIndications (slot : SlotNo)
  | messageSend (slot : SlotNo)
  | callPlace (slot : SlotNo)
  | callClear (slot : SlotNo)
  | callConfigure (slot : SlotNo)
  | unknownKind (slot : SlotNo)
  | orderWithdraw (slot : SlotNo)
  | orderSlotFree (slot : SlotNo)
  | receiveSlotEmpty (slot : Fin 4)
  | softReset
  | softResetDone
  | attnEnable (on : Bool)
  | attentionClear (bits : Half)
  | attentionMask (bits : Half)
  | latchedLowRead (addr : BitVec 13)
  | latchedHighRead (addr : BitVec 13)
  | hostWrite (addr : BitVec 13) (data : Half) (lowEnable : Bool) (highEnable : Bool)
  | powerOnReset
  | sampleTick (inputs : SampleInputs)
  | frameTick (mic0 : List Byte) (mic1 : List Byte)
  | secondTick
  | callDurationSecond (voice : VoiceNo)
  | tagReport (report : Option Nat)
  | d1Passage
  | stationPassage (detector : Nat)
  | exitPassage
  | switchChange (channel : Fin 8)
  | retclosedChange
  | hookEvent (voice : VoiceNo)
  | doorChannelStep (channel : ChannelNo) (inputs : ChannelInputs)
  | converterScan (answers : ScanAnswers)
  | summitAnswer (frame : Option SummitFrame)
  | summitWakeBurst
  | answerBurst
  | tagReportExpiry
  | tagPassageExpiry
  | retainPulseTimeout
  | releaseTimeout
  | closingWindowExpiry
  | lockTimeout (channel : ChannelNo) (inputs : ChannelInputs)
  | travelTimeout (channel : ChannelNo) (inputs : ChannelInputs)
  | reopenDwellEnd (channel : ChannelNo) (inputs : ChannelInputs)
  | obstruction (channel : ChannelNo) (inputs : ChannelInputs)
  | grantWindowExpiry
  | actionDue
  | startFailed
  | linkGraceExpiry
  | standstillByTime
  | standstill (inputs : SampleInputs)
  | encoderFaulted (inputs : SampleInputs)
  | encoderReturned (inputs : SampleInputs)
  | rollback (inputs : SampleInputs)
  | overspeed (inputs : SampleInputs)
  | converterFault (answers : ScanAnswers)
  | gripSamplesReached (answers : ScanAnswers)
  | probeInterval
  | probeListenEnd
  | probesExhausted
  | trainingAttemptFailed
  | trainingSuccess (frame : Option SummitFrame)
  | lineLoss (frame : Option SummitFrame)
  | qualityEvent (frame : Option SummitFrame)
  | backoffExpiry
  | sleepIntervalExpiry
  | transferRefused (frame : Option SummitFrame)
  | ringingOut (voice : VoiceNo) (frame : Option SummitFrame)
  | noAnswerTimeout (voice : VoiceNo)
  | guardExpiry (voice : VoiceNo)
  | ringerCadence (voice : VoiceNo)
  | millisecondCount
  deriving DecidableEq, Repr

end Sys2Proof
end

