-- ==== Sys2Proof/WellFormed.lean ====
section
/-! DEFINITION. Which commands are well formed: the checks that an operand's type does not make. -/

namespace Sys2Proof

/-- A station passage is at D2 to D6; the exit is at D7 and the arrival at D1 (R3, R4, R12). -/
def stationDetectorOk (detector : Nat) : Bool := 2 ≤ detector && detector ≤ 6

/-- Sixteen codec octets pass in one line frame period (R174). -/
def micOk (octets : List Byte) : Bool := octets.length == 16

/-- A tag report names a number of one octet. DESIGN CHOICE (log entry 84): R10 gives the number no width and leaves the framing of the tag port to
the data sheet; the meaning of TAG_REPORT takes any number (`Machine.readTag`). -/
def tagOk (report : Option Nat) : Bool :=
  match report with
  | none => true
  | some n => n < 256

/-- No frame is longer than 48 octets (section 8.1). -/
def frameOk (frame : Option SummitFrame) : Bool :=
  match frame with
  | none => true
  | some f => f.octets.length ≤ 48

/-- The well-formedness of a command. -/
def Instr.wf (i : Instr) : Bool :=
  match i with
  | .stationPassage d => stationDetectorOk d
  | .frameTick mic0 mic1 => micOk mic0 && micOk mic1
  | .tagReport r => tagOk r
  | .summitAnswer f | .trainingSuccess f | .lineLoss f | .qualityEvent f | .transferRefused f | .ringingOut _ f => frameOk f
  | _ => true

end Sys2Proof
end

