-- ==== Sys2Proof/Config.lean ====
section
/-! DEFINITION. What the manual fixes as a number, and the free values: what it leaves open while the part goes on. -/

namespace Sys2Proof

/-- FREE VALUE (R157). The part's pseudo-random sequence, by the number of draws made so far: "any whole number in that range may
be drawn for each interval". Nothing constrains it; `Sys2Proof.Machine.drawInterval` brings it into the range of R157. -/
opaque Config.sleepDraw : Nat → Nat

/-- FREE VALUE (R198). Whether the n-th choice of a half-word read during a software reset falls on the value before the reset
(`true`) or the value after it: "each half-word read of the window returns either its value before the reset or its value after it". -/
opaque Config.readsOldValue : Nat → Bool

/-- FREE VALUE (R174). The octets of the tones: "the octets of each tone are fixed by the part; in this manual a tone is a stream of
octets with the cadence of the table, and no rule reads its octets". By the tone's number and the octet's place in the tone. -/
opaque Config.toneOctet : Nat → Nat → Byte

/-- Silence on a codec slot and in a voice slot (R143, R174). -/
abbrev Config.silence : Byte := 0xD5

/-- The octet that a wake burst repeats (R148). -/
abbrev Config.wakeOctet : Byte := 0xAA

/-- The octet that an answer burst repeats (R148). -/
abbrev Config.answerOctet : Byte := 0xCC

/-- The most entries of the station queue (R2). -/
abbrev Config.queueMax : Nat := 15
/-- The most entries of the line roster (R8). -/
abbrev Config.rosterMax : Nat := 128
/-- The most entries of the stop cause list (R125). -/
abbrev Config.causesMax : Nat := 16
/-- The most pending door actions (R105). -/
abbrev Config.actionsMax : Nat := 16
/-- The most launch notes waiting (R165). -/
abbrev Config.notesMax : Nat := 8
/-- The most octets of a message (section 9.1). -/
abbrev Config.messageMax : Nat := 64
/-- The most long-running orders held (R193). -/
abbrev Config.longOrdersMax : Nat := 24
/-- The saturation of the launch gap accumulator, in µm (R35). -/
abbrev Config.gapMax : Nat := 2000000000
/-- The clamp of the rope speed, in mm/s (R32). -/
abbrev Config.speedMax : Int := 20000
/-- The saturation of the part's 16-bit counts. -/
abbrev Config.countMax : Nat := 65535

end Sys2Proof
end

