-- ==== Sys2Proof/Machine/State.lean ====
section
/-! DEFINITION. The state of the VT310, block by block, as plain data; the state after a power-on reset; faults and refusals.

`Part` holds the fourteen blocks. `State` adds what stands beside them: the part as it stood before a software reset under way, the
data of the host's last read, and the queue of commands that wait. Every field's rule and reset value stands in INVENTORY.md. -/

namespace Sys2Proof.Machine

/-! ## Named values -/

/-- The station modes, in the order of their codes 0 to 6 (section 7.1). -/
inductive Mode where
  | off | ready | starting | run | stoppingService | stoppingFast | stopped
  deriving DecidableEq, Repr

/-- The category of a stop cause (section 7.2). -/
inductive Category where
  | service | fast
  deriving DecidableEq, Repr

/-- A configured fault category, NONE included (R49, R79). -/
inductive FaultCategory where
  | none | service | fast
  deriving DecidableEq, Repr

/-- The cause kinds, in the order of their codes 1 to 21 (section 7.3). -/
inductive CauseKind where
  | ropeSlip | rollback | overspeed | encoderFault | ropePosition | brittleLoop | converterFault | tensionLimit | gripFail
  | gripIncomplete | doorFault | cabinDoorUnlocked | holdOverflow | trackOverflow | sequenceFault | releaseTimeout | summitStop
  | summitFastStop | linkLost | startFailed | hostFastStop
  deriving DecidableEq, Repr

/-- The attention bits, in the order of their numbers 0 to 12 (R191). -/
inductive Attn where
  | orderDone | mode | stopCause | ceiling | track | door | sensor | line | indication | messageIn | call | profile | grip
  deriving DecidableEq, Repr

/-- The states of an order slot, in the order of their codes 0 to 4 (section 11.3). -/
inductive SlotState where
  | free | posted | taken | withdraw | done
  deriving DecidableEq, Repr

/-- The results of an order, in the order of their codes 0 to 9 (R196). -/
inductive Result where
  | ok | clamped | refusedState | refusedRange | busy | withdrawn | superseded | failed | unknownKind | noCapacity
  deriving DecidableEq, Repr

/-- The place of a cabin, coded 0 to 3 (section 1.6). -/
inductive Place where
  | unknown | garaged | inStation | onLine
  deriving DecidableEq, Repr

/-- The door state of a cabin, coded 0 to 5 (section 6.5). -/
inductive CabinDoor where
  | unknown | opened | closed | locked | notLocked | obstructed
  deriving DecidableEq, Repr

/-- The grip result of a cabin, coded 0 to 3 (section 1.6). -/
inductive GripResult where
  | none | pass | fail | incomplete
  deriving DecidableEq, Repr

/-- A summit mark, coded 0 to 2 (section 1.5). -/
inductive SummitMark where
  | none | passed | missed
  deriving DecidableEq, Repr

/-- The launch note of a cabin record, coded 0 to 3 (section 1.6). -/
inductive LaunchNote where
  | notQueued | queued | sent | dropped
  deriving DecidableEq, Repr

/-- An end of a door channel's travel. -/
inductive End where
  | a | b
  deriving DecidableEq, Repr

/-- A debounced input (R1, R46, R64, R78, R175): the raw level of the previous sample and the level last shown by two consecutive
samples, each `none` until it is known. -/
structure Debounce where
  last : Option Bool := none
  settled : Option Bool := none
  deriving DecidableEq, Repr

/-! ## Window Port and Order Intake (chapter 11) -/

/-- An order slot (section 11.6): 8 octets of header and 120 of parameters. -/
structure Slot where
  state : SlotState := .free
  kind : Byte := 0
  tag : Half := 0
  result : Byte := 0
  detail : Byte := 0
  progress : Half := 0
  params : Vector Byte 120 := Vector.replicate 120 0
  deriving DecidableEq, Repr

/-- The half-word read latch when it is not empty (R189): the half-word address and the value it holds. -/
structure Latch where
  addr : BitVec 13
  value : Half
  deriving DecidableEq, Repr

/-- What the Window Port and the Order Intake own. -/
structure Window where
  slots : Vector Slot 32 := Vector.replicate 32 {}
  intake : List SlotNo := []
  latch : Option Latch := none
  attention : Half := 0
  attentionMask : Half := 0
  attnEnable : Bool := false
  /-- The ATTN output is driven low. -/
  attn : Bool := false
  softResets : Nat := 0
  deriving DecidableEq, Repr

/-! ## Time Base (R199) -/

/-- The count, and the model's own notes of which per-tick steps have been taken at its present value (log entry 5). -/
structure Clock where
  now : Time := 0
  sampleTaken : Bool := false
  scanTaken : Bool := false
  frameTaken : Bool := false
  secondTaken : Bool := false
  stepsTaken : Vector Bool 8 := Vector.replicate 8 false
  deriving DecidableEq, Repr

/-! ## Track Monitor (chapter 1) -/

/-- A station queue entry (section 1.2). `serial` is the model's own name of the entry, by which pending actions refer to it
(R104, log entry 13); `heldLock` is the Door Sequencer's held lock result (R112), `some true` for SENSED. -/
structure QueueEntry where
  serial : Nat
  cabin : Nat
  segment : Nat
  entered : Time
  heldLock : Option Bool := none
  deriving DecidableEq, Repr

/-- A line roster entry (section 1.5). -/
structure RosterEntry where
  cabin : Nat
  mark : SummitMark := .none
  seconds : Nat := 0
  deriving DecidableEq, Repr

/-- The tag matcher (section 1.7). A report is a cabin number, or `none` for UNREADABLE. -/
inductive TagMatcher where
  | empty
  | reportHeld (report : Option Nat) (arrived : Time)
  | passageWaiting (passed : Time)
  deriving DecidableEq, Repr

/-- A passage that a sample has shown and no block has taken yet: the passage time, and the debounced LOCKSENSE value of that
sample (R1, R50). -/
structure PassageNote where
  time : Time
  lockSensed : Bool
  deriving DecidableEq, Repr

/-- One detector: its debounced input and its passage not yet taken. -/
structure Detector where
  input : Debounce := {}
  passage : Option PassageNote := none
  deriving DecidableEq, Repr

/-- The Track Monitor. -/
structure Track where
  queue : List QueueEntry := []
  nextSerial : Nat := 0
  roster : List RosterEntry := []
  matcher : TagMatcher := .empty
  detectors : Vector Detector 7 := Vector.replicate 7 {}
  holdOverflow : Bool := false
  trackOverflow : Bool := false
  deriving DecidableEq, Repr

/-- A cabin record (section 1.6). -/
structure CabinRecord where
  registered : Bool := false
  inService : Bool := false
  place : Place := .unknown
  door : CabinDoor := .unknown
  grip : GripResult := .none
  gripMin : Nat := 0
  gripMax : Nat := 0
  mark : SummitMark := .none
  lastRelease : Time := 0
  note : LaunchNote := .notQueued
  deriving DecidableEq, Repr

/-! ## Rope Measurement Unit (chapter 2) -/

/-- One encoder with its quadrature decoder (R25 to R27): the phase levels last observed, the running position, the position taken at the
previous sample, and the error note. -/
structure Encoder where
  phases : Phases := {}
  position : Int := 0
  taken : Int := 0
  errorNoted : Bool := false
  faulted : Bool := false
  faultRun : Nat := 0
  cleanRun : Nat := 0
  tally : Nat := 0
  lastDelta : Int := 0
  deriving DecidableEq, Repr

/-- The source encoder (R29). -/
inductive Source where
  | none | e1 | e2
  deriving DecidableEq, Repr

/-- An increment in the speed window, in µm, and whether it is marked faulty (R31). -/
structure Increment where
  um : Int := 0
  faulty : Bool := false
  deriving DecidableEq, Repr

/-- The rope measurement status view: the results published by one sample (R34, R44). -/
structure RopeView where
  v : Int := 0
  invalid : Bool := false
  substitute : Bool := false
  clamped : Bool := false
  held : Bool := false
  standstill : Bool := false
  slipMade : Bool := false
  source : Source := .e1
  e1Faulted : Bool := false
  e2Faulted : Bool := false
  standRun : Nat := 0
  e1Delta : Int := 0
  e2Delta : Int := 0
  e1Tally : Nat := 0
  e2Tally : Nat := 0
  ceff : Nat := 0
  gap : Nat := 2000000
  slipDiff : Nat := 0
  rollRun : Nat := 0
  overRun : Nat := 0
  sampleTime : Time := 0
  deriving DecidableEq, Repr

/-- The Rope Measurement Unit. -/
structure Rope where
  started : Bool := false
  e1 : Encoder := {}
  e2 : Encoder := {}
  source : Source := .e1
  window : List Increment := List.replicate 8 {}
  v : Int := 0
  clamped : Bool := false
  held : Bool := false
  gapAcc : Nat := Config.gapMax
  slip1 : List Int := []
  slip2 : List Int := []
  slipFill : Nat := 0
  slipPresent : Bool := false
  rollRun : Nat := 0
  overRun : Nat := 0
  ceff : Nat := 0
  standRun : Nat := 0
  standstill : Bool := false
  stopEntry : Option Time := none
  view : RopeView := {}
  deriving DecidableEq, Repr

/-! ## Sensor Scanner and Grip Test Unit (chapter 3) -/

/-- The kind of a switch channel, coded 0 to 2 (R49). -/
inductive SwitchKind where
  | ropePosition | brittleLoop | general
  deriving DecidableEq, Repr

/-- One switch channel (R46 to R49). `value` is the debounced value acted on: `some true` is CLOSED. -/
structure Switch where
  input : Debounce := {}
  value : Option Bool := none
  kind : SwitchKind := .general
  category : FaultCategory := .none
  changes : Nat := 0
  deriving DecidableEq, Repr

/-- The mark of the current converter codes (R52). -/
inductive CodeMark where
  | notRead | fresh | held
  deriving DecidableEq, Repr

/-- The tension state (R54). -/
inductive Tension where
  | gone | below | above
  deriving DecidableEq, Repr

/-- The Sensor Scanner. -/
structure Sensors where
  switches : Vector Switch 8 := Vector.replicate 8 {}
  lockSense : Debounce := {}
  codes : Vector (BitVec 12) 11 := Vector.replicate 11 0
  mark : CodeMark := .notRead
  everGood : Bool := false
  failRun : Nat := 0
  failTally : Nat := 0
  tension : Tension := .gone
  windHigh : Bool := false
  lastWind : BitVec 12 := 0
  deriving DecidableEq, Repr

/-- An open grip test window (section 3.5). -/
structure GripWindow where
  cabin : Nat
  opened : Time
  samples : Nat := 0
  codes : Nat := 0
  forces : Option (Nat × Nat) := none
  faultSeen : Bool
  zero : Nat
  gain : Nat
  gripMin : Nat
  gripMax : Nat
  target : Nat
  deriving DecidableEq, Repr

/-- The last result of the grip status view (R59). -/
structure GripLast where
  result : GripResult := .none
  cabin : Nat := 0
  codes : Nat := 0
  closed : Time := 0
  forceMin : Nat := 0
  forceMax : Nat := 0
  deriving DecidableEq, Repr

/-- The Grip Test Unit: its window (`none` is CLOSED), the last result and the counts of closes. -/
structure Grip where
  window : Option GripWindow := none
  last : GripLast := {}
  passes : Nat := 0
  fails : Nat := 0
  incompletes : Nat := 0
  deriving DecidableEq, Repr

/-! ## Launch Control (chapter 4) -/

/-- The release states, coded 0 to 2. -/
inductive ReleaseState where
  | idle | requested | releasing
  deriving DecidableEq, Repr

/-- The hold reasons, coded 0 to 8 (R65). -/
inductive HoldReason where
  | mode | empty | unidentified | door | s5Occupied | gap | speed | inProgress | none
  deriving DecidableEq, Repr

/-- The retainer watch (R73). CLOSING holds the time at which it ends. -/
inductive Watch where
  | expectClosed
  | openAllowed
  | closing (ends : Time)
  deriving DecidableEq, Repr

/-- Launch Control. `retValue` is the debounced RETCLOSED acted on: `some true` is CLOSED. `gapRestarted` says that a D5 passage
has come since the last publication (R65). -/
structure Launch where
  state : ReleaseState := .idle
  requested : Nat := 0
  requestTime : Time := 0
  grantTime : Time := 0
  retain : Bool := false
  hold : HoldReason := .mode
  retInput : Debounce := {}
  retValue : Option Bool := none
  retChanged : Time := 0
  watch : Watch := .expectClosed
  watchFault : Bool := false
  gapRestarted : Bool := false
  lastMoved : Nat := 0
  lastNoted : Nat := 0
  lastPassage : Time := 0
  releases : Nat := 0
  timeouts : Nat := 0
  uncommanded : Nat := 0
  deriving DecidableEq, Repr

/-! ## Door Drive Unit (chapter 5) -/

/-- The kind of a door channel, coded 0 to 3. -/
inductive DoorKind where
  | none | cabinOpener | cabinCloser | platformGate
  deriving DecidableEq, Repr

/-- The state of a door channel, coded 0 to 11. -/
inductive DoorState where
  | unknown | atA | atB | unlocking | waitingStart | movingToA | movingToB | reversing | reopenDwell | locking | halted | fault
  deriving DecidableEq, Repr

/-- The reason of a channel's last departure from the ordinary path, coded 0 to 5. -/
inductive DoorReason where
  | none | travelTimeout | lockTimeout | obstruction | bothLimits | leftEnd
  deriving DecidableEq, Repr

/-- The owner of a channel's operation (section 5.3). -/
inductive Owner where
  | none
  | order (slot : SlotNo)
  | action
  | automatic
  deriving DecidableEq, Repr

/-- The motion a channel waits for in WAITING_START, coded 0 to 2. -/
inductive Motion where
  | none | move | reversal
  deriving DecidableEq, Repr

/-- The configuration of a door channel (R79). -/
structure DoorConfig where
  kind : DoorKind := .none
  closingEnd : End := .a
  travelLimit : Nat := 4000
  reopenDwell : Nat := 1000
  retries : Nat := 2
  lock : Bool := false
  lockTime : Nat := 300
  threshold : Nat := 2000
  reach : Nat := 2
  category : FaultCategory := .service
  capOnFault : Bool := false
  deriving DecidableEq, Repr

/-- A door channel (section 5.3). `motor` is the energised motor output, if any, named by the end it runs toward. `since` is the
time at which the lock time or the dwell began. -/
structure Channel where
  config : DoorConfig := {}
  state : DoorState := .unknown
  target : Option End := none
  owner : Owner := .none
  waits : Motion := .none
  retriesUsed : Nat := 0
  lastGrant : Time := 0
  since : Time := 0
  obstructionRun : Nat := 0
  lastReason : DoorReason := .none
  faults : Nat := 0
  starts : Nat := 0
  motor : Option End := none
  lockRel : Bool := false
  started : Bool := false
  limA : Debounce := {}
  limB : Debounce := {}
  lockSns : Debounce := {}
  deriving DecidableEq, Repr

/-- A requester of the motor start arbiter (R95). -/
inductive Requester where
  | door (channel : ChannelNo)
  | retainer
  deriving DecidableEq, Repr

/-- A grant of the grant history (R96). -/
structure Grant where
  time : Time
  requester : Requester
  deriving DecidableEq, Repr

/-- The Door Drive Unit: the eight channels and the motor start arbiter. -/
structure Doors where
  channels : Vector Channel 8 := Vector.replicate 8 {}
  queue : List Requester := []
  history : List Grant := []
  budget : Nat := 4
  window : Nat := 1000
  grants : Nat := 0
  deriving DecidableEq, Repr

/-! ## Door Sequencer (chapter 6) -/

/-- The condition of a door program entry, coded 0 to 2. -/
inductive Condition where
  | always | ifRun | ifInService
  deriving DecidableEq, Repr

/-- A used door program entry (section 6.1). -/
structure ProgramEntry where
  trigger : Nat
  channel : ChannelNo
  action : End
  delay : Nat
  condition : Condition
  deriving DecidableEq, Repr

/-- A pending door action (section 6.2). `ref` is the serial of the cabin's station queue entry as it was when the action was made;
the reference is lost when no entry of that serial stands in the queue. -/
structure Action where
  entry : Nat
  channel : ChannelNo
  target : End
  condition : Condition
  isCabin : Bool
  due : Time
  cabin : Nat
  ref : Option Nat
  dueWaiting : Bool := false
  deriving DecidableEq, Repr

/-- The record of an action in flight on a channel (R107, R110). -/
structure Flight where
  entry : Nat
  target : End
  isCabin : Bool
  cabin : Nat
  ref : Option Nat
  issued : Time
  late : Bool := false
  deriving DecidableEq, Repr

/-- The last confirmation (R115). -/
structure Confirmation where
  cabin : Nat
  attendant : Nat
  time : Time
  deriving DecidableEq, Repr

/-- The Door Sequencer. `unlocked` lists the cabins whose CABIN_DOOR_UNLOCKED condition is present (R113). -/
structure Sequencer where
  program : Vector (Option ProgramEntry) 24 := Vector.replicate 24 none
  made : Vector Nat 24 := Vector.replicate 24 0
  actions : List Action := []
  flights : Vector (Option Flight) 8 := Vector.replicate 8 none
  unlocked : List Nat := []
  fullDrops : Nat := 0
  conditionDrops : Nat := 0
  removals : Nat := 0
  lates : Nat := 0
  notTaken : Nat := 0
  dones : Nat := 0
  reachedB : Nat := 0
  gaveUp : Nat := 0
  failed : Nat := 0
  interrupted : Nat := 0
  confirmations : Nat := 0
  lastConfirmation : Option Confirmation := none
  deriving DecidableEq, Repr

/-! ## Station Supervisor (chapter 7) -/

/-- An operating profile (section 7.5), the fields in the table's order. -/
structure Profile where
  vmax : Nat := 5000
  l1 : Nat := 997
  l2 : Nat := 1003
  sMin : Nat := 60000
  vLaunchMin : Nat := 1000
  decelStep : Nat := 6
  overspeedMargin : Nat := 300
  rollbackThreshold : Nat := 150
  slipLimit : Nat := 500
  windThreshold : Nat := 2400
  windHysteresis : Nat := 200
  vWind : Nat := 3000
  vHold : Nat := 2500
  vLink : Nat := 2000
  vDoor : Nat := 3000
  linkGrace : Nat := 500
  gripZero : Nat := 200
  gripGain : Nat := 2500
  gripMin : Nat := 4500
  gripMax : Nat := 8500
  gripSamples : Nat := 16
  tensionLow : Nat := 800
  tensionHigh : Nat := 3300
  tensionHysteresis : Nat := 50
  alertCall : Bool := true
  deriving DecidableEq, Repr

/-- The name of a profile: A is coded 0, B is coded 1. -/
inductive ProfileName where
  | a | b
  deriving DecidableEq, Repr

/-- An entry of the stop cause list (section 7.2). -/
structure Cause where
  kind : CauseKind
  source : Nat
  category : Category
  firstTime : Time
  repeats : Nat := 1
  present : Bool
  deriving DecidableEq, Repr

/-- A row of the present condition table (section 7.2). -/
structure PresentCause where
  kind : CauseKind
  source : Nat
  category : Category
  firstTime : Time
  listed : Bool
  deriving DecidableEq, Repr

/-- The cap cause set (R131). -/
structure Caps where
  wind : Bool := false
  hold : Bool := false
  door : Bool := false
  link : Bool := true
  deriving DecidableEq, Repr

/-- A ceiling word of the drive port (R133). -/
structure DriveWord where
  ceiling : Nat
  sequence : Nat
  deriving DecidableEq, Repr

/-- The Station Supervisor. Timers hold the time at which they end; `none` is stopped. -/
structure Supervisor where
  mode : Mode := .off
  causes : List Cause := []
  present : List PresentCause := []
  overflow : Bool := false
  overflowCount : Nat := 0
  fastNote : Bool := false
  caps : Caps := {}
  ceiling : Nat := 0
  svcStop : Bool := false
  fastStop : Bool := false
  profileA : Profile := {}
  profileB : Profile := {}
  active : ProfileName := .a
  pendingSwitch : Option ProfileName := none
  startTimer : Option Time := none
  graceTimer : Option Time := none
  stopServiceStands : Bool := false
  stopFastStands : Bool := false
  driveSequence : Nat := 0
  driveWord : Option DriveWord := none
  deriving DecidableEq, Repr

/-! ## Summit Line Interface (chapter 8) -/

/-- The line states, coded 0 to 4. -/
inductive LineState where
  | down | probing | training | up | dormant
  deriving DecidableEq, Repr

/-- The diagnosis, coded 0 to 5. -/
inductive Diagnosis where
  | none | summitUnpowered | lineOpen | trainingFailed | lost | quality
  deriving DecidableEq, Repr

/-- The last probe result, coded 0 to 3. -/
inductive ProbeResult where
  | none | answered | echo | silent
  deriving DecidableEq, Repr

/-- The line configuration (R158). -/
structure LineConfig where
  rateCeiling : Nat := 3
  attempts : Nat := 3
  qualityThreshold : Nat := 25
  sleepSeconds : Nat := 2
  pattern1 : Byte := 0xC6
  pattern2 : Byte := 0x39
  mask : Byte := 0x0F
  glarePriority : Nat := 4
  autoStart : Bool := true
  deriving DecidableEq, Repr

/-- A running probe (R148): when its burst began, whether the LINE_PROBE order owns it, and what has been heard. -/
structure Probe where
  start : Time
  forOrder : Bool
  echoHeard : Bool := false
  answerHeard : Bool := false
  deriving DecidableEq, Repr

/-- What the interface notes of a valley frame whose answer has not been judged (R142, R150, R163, R176). -/
structure FrameNote where
  start : Time
  number : Byte
  rate : Nat
  pattern1 : Byte
  pattern2 : Byte
  priority : Nat
  offered : Option Nat
  ownSeize0 : Bool
  ownSeize1 : Bool
  deriving DecidableEq, Repr

/-- The Summit Line Interface. -/
structure Line where
  state : LineState := .down
  rate : Nat := 0
  diagnosis : Diagnosis := .none
  config : LineConfig := {}
  autoStartDue : Bool := true
  probeCount : Nat := 0
  probeStart : Time := 0
  probe : Option Probe := none
  backoff : Option Time := none
  sleepDue : Option Time := none
  draws : Nat := 0
  attemptsUsed : Nat := 0
  attemptPending : Bool := false
  attemptEnds : Option Time := none
  attemptPattern1 : Byte := 0
  attemptPattern2 : Byte := 0
  attemptMask : Byte := 0
  echoRun : Nat := 0
  syncKnown : Bool := false
  lineDelay : Nat := 0
  frameNumber : Byte := 0
  notes : List FrameNote := []
  summitPriority : Nat := 0
  valleyPriority : Nat := 0
  generalBits : BitVec 4 := 0
  sentWord : Half := 0
  lastWord : Half := 0
  accepted : Half := 0
  candidate : Option Half := none
  lossRun : Nat := 0
  qualityWindow : List Bool := []
  farErrored : Nat := 0
  goodAnswers : BitVec 32 := 0
  erroredAnswers : BitVec 32 := 0
  losses : Nat := 0
  qualityEvents : Nat := 0
  probesSent : Nat := 0
  wakesHeard : Nat := 0
  lastProbe : ProbeResult := .none
  upSince : Time := 0
  startOrder : Option SlotNo := none
  probeOrder : Option SlotNo := none
  /-- The octets of the latest valley frame, as sent. -/
  sentFrame : List Byte := []
  /-- The octets of the latest wake burst, as sent (R148). -/
  sentBurst : List Byte := []
  deriving DecidableEq, Repr

/-! ## Message Channel (chapter 9) -/

/-- The marks of a message octet, coded 0 to 3. -/
inductive MsgMark where
  | middle | first | last | abandon
  deriving DecidableEq, Repr

/-- Where a message in transfer comes from: a launch note or a MESSAGE_SEND order. -/
inductive MsgSource where
  | note (cabin : Nat)
  | order (slot : SlotNo)
  deriving DecidableEq, Repr

/-- A message in transfer and the count of its accepted octets (R164). -/
structure Transfer where
  source : MsgSource
  octets : List Byte
  accepted : Nat := 0
  deriving DecidableEq, Repr

/-- The transmitter (section 9.2). In PAUSE the message in transfer is held until it is whole. -/
inductive Transmitter where
  | idle
  | offering (t : Transfer)
  | pause (t : Option Transfer)
  | abandoning
  deriving DecidableEq, Repr

/-- A message waiting for a MESSAGE_SEND order (R165). -/
structure WaitingMessage where
  slot : SlotNo
  octets : List Byte
  deriving DecidableEq, Repr

/-- The receiver's assembly (section 9.4): the octets taken so far stand in the slot, in the note buffer, or are counted. -/
inductive Receiver where
  | idle
  | slot (index : Fin 4)
  | note (octets : List Byte)
  | discarding (length : Nat)
  deriving DecidableEq, Repr

/-- The states of a receive slot, coded 0 to 2. -/
inductive ReceiveState where
  | empty | assembling | full
  deriving DecidableEq, Repr

/-- A receive slot (section 9.4). -/
structure ReceiveSlot where
  state : ReceiveState := .empty
  type : Byte := 0
  length : Nat := 0
  octets : Vector Byte 64 := Vector.replicate 64 0
  deriving DecidableEq, Repr

/-- The offer judged at the latest answer, for the recognition of its repeat (R169). -/
structure JudgedOffer where
  octet : Byte
  mark : MsgMark
  taken : Bool
  deriving DecidableEq, Repr

/-- The Message Channel. `offerSerial` is the model's own name of the octet on offer, by which an answer is matched to the frames
that offered it (log entry 13). -/
structure Messages where
  transmitter : Transmitter := .idle
  offerSerial : Nat := 0
  refusals : Nat := 0
  notes : List Nat := []
  waiting : List WaitingMessage := []
  receiver : Receiver := .idle
  lastOffer : Option JudgedOffer := none
  acceptNext : Bool := false
  slots : Vector ReceiveSlot 4 := Vector.replicate 4 {}
  deriving DecidableEq, Repr

/-! ## Call Unit (chapter 10) -/

/-- The call states, coded 0 to 6. -/
inductive CallState where
  | unavailable | idle | seizing | ringingOut | ringingIn | connected | clearing
  deriving DecidableEq, Repr

/-- The originator of a call, coded 0 to 4. -/
inductive Originator where
  | none | handset | order | alert | far
  deriving DecidableEq, Repr

/-- The role of the valley in a call, coded 0 to 2. -/
inductive Role where
  | none | caller | answerer
  deriving DecidableEq, Repr

/-- The last clear reason, coded 0 to 6 (R186). -/
inductive ClearReason where
  | none | noAnswer | lineLost | noCapacity | localClear | farClear | orderClear
  deriving DecidableEq, Repr

/-- What the codec slot of a handset is given (R174). -/
inductive Tone where
  | silence | ringback | busy | clear | voice
  deriving DecidableEq, Repr

/-- A call machine (section 10.2). `hook` is the debounced hook value acted on: `some true` is OFF_HOOK. `goodSinceUp` counts the
good answers since the entry into UP, up to 2 (R176). -/
structure CallSlot where
  state : CallState := .unavailable
  originator : Originator := .none
  role : Role := .none
  order : Option SlotNo := none
  clearedBySummit : Bool := false
  noAnswer : Option Time := none
  guardEnds : Option Time := none
  freeRun : Nat := 0
  seizeTaken : Bool := false
  answerTaken : Bool := false
  goodSinceUp : Nat := 0
  seizeAnswers : Nat := 0
  duration : Nat := 0
  nextSecond : Time := 0
  reason : ClearReason := .none
  hookInput : Debounce := {}
  hook : Option Bool := none
  pickedUp : Bool := false
  ringing : Bool := false
  ringer : Bool := false
  ringNext : Time := 0
  micOctets : List Byte := []
  voiceOctets : List Byte := []
  tone : Tone := .silence
  toneSince : Time := 0
  deriving DecidableEq, Repr

/-- The Call Unit. -/
structure Calls where
  slots : Vector CallSlot 2 := Vector.replicate 2 {}
  limit : Nat := 60
  connects : Nat := 0
  glareWon : Nat := 0
  glareLost : Nat := 0
  alertLapses : Nat := 0
  deriving DecidableEq, Repr

/-! ## The part and the state -/

/-- Judgements that an event has called for and not yet made: Launch Control's (R65), the motor start arbiter's (R96) and the Door
Sequencer's (R108). The model's own; clear between steps (log entry 4). -/
structure Work where
  launch : Bool := false
  arbiter : Bool := false
  sequencer : Bool := false
  deriving DecidableEq, Repr

/-- The fourteen blocks of the part and the cabin table. -/
structure Part where
  window : Window := {}
  clock : Clock := {}
  track : Track := {}
  cabins : Vector CabinRecord 128 := Vector.replicate 128 {}
  rope : Rope := {}
  sensors : Sensors := {}
  grip : Grip := {}
  launch : Launch := {}
  doors : Doors := {}
  sequencer : Sequencer := {}
  sup : Supervisor := {}
  line : Line := {}
  messages : Messages := {}
  calls : Calls := {}
  work : Work := {}
  deriving DecidableEq, Repr

/-- The state of the VT310: the part, the part as it stood before a software reset that is under way (`none` when none is), the data
of the host's last read, the number of free choices of reads made so far, and the commands that wait, first in, first out. -/
structure State where
  part : Part := {}
  before : Option Part := none
  busData : Half := 0
  readChoices : Nat := 0
  pending : List Instr := []
  deriving DecidableEq, Repr

/-- A fault of the part. The manual gives no behaviour that stops the part: a wrong order is answered, a wrong input is reported as a
stop cause, a host write that is not permitted is discarded. There is therefore no fault, and no command ends in one. -/
inductive Fault where
  deriving DecidableEq, Repr

/-- A refusal of the model. -/
inductive Refusal where
  /-- Raised by the arm of a command that has no meaning yet, with the command's mnemonic; safe. No arm raises it. -/
  | notModelled (mnemonic : String)
  deriving DecidableEq, Repr

/-- The state right after a power-on reset: every field at the default written beside it above, as R24, R45, R63, R77, R102, R117,
R141, R162, R173, R187 and R197 give them. -/
def State.reset : State := {}

end Sys2Proof.Machine
end

