-- ==== Sys2Proof/Machine/Clock.lean ====
section
/-! DEFINITION. Comparisons of times, saturating counts, clamps, debouncing and tables: the arithmetic every block uses. -/

namespace Sys2Proof.Machine

/-! ## Times (R199) -/

/-- "A time a is earlier than a time b when b - a, taken modulo 4,294,967,296, lies from 1 to 2,147,483,647" (R199). -/
def earlier (a b : Time) : Bool := 1 ≤ (b - a).toNat && (b - a).toNat ≤ 2147483647

/-- The time `due` has been reached at `now`: it is now, or it is earlier than now (R199). -/
def reached (now due : Time) : Bool := due == now || earlier due now

/-- A timer that holds the time at which it ends has ended; a stopped timer never has. -/
def ended (now : Time) (timer : Option Time) : Bool :=
  match timer with
  | none => false
  | some due => reached now due

/-- The milliseconds that have passed since `start`, modulo 4,294,967,296 (R199). -/
def elapsed (now start : Time) : Nat := (now - start).toNat

/-- A sample tick falls at each value of the count that is a multiple of 10 (R199). -/
def isSampleTime (now : Time) : Bool := now.toNat % 10 == 0

/-- A frame tick falls at each value of the count that is a multiple of 2 (R199). -/
def isFrameTime (now : Time) : Bool := now.toNat % 2 == 0

/-- A whole second of the Time Base, 0 not among them (R8, log entry 17). -/
def isSecondTime (now : Time) : Bool := now.toNat % 1000 == 0 && now != 0

/-! ## Counts and clamps -/

/-- A count that rises by one and stops at `top`. -/
def countTo (top n : Nat) : Nat := if n < top then n + 1 else n

/-- A 16-bit count that stops at 65535. -/
def count16 (n : Nat) : Nat := countTo Config.countMax n

/-- "A value outside its range is replaced by the nearer end of the range" (section Conventions). -/
def clampNat (lo hi n : Nat) : Nat := if n < lo then lo else if hi < n then hi else n

/-- As `clampNat`, for a signed value. -/
def clampInt (lo hi n : Int) : Int := if n < lo then lo else if hi < n then hi else n

/-! ## Debouncing (R1, R46) -/

/-- One sample of a debounced input: the level is settled when two consecutive samples have shown it. -/
def Debounce.sample (d : Debounce) (raw : Bool) : Debounce :=
  { last := some raw, settled := if d.last == some raw then some raw else d.settled }

/-- The input is known and high. DESIGN CHOICE (log entry 86): the limits and the lock sense of a door channel have no value between a reset and the
first sample (R78, R102), and then read as inactive. -/
def Debounce.high (d : Debounce) : Bool := d.settled == some true

/-! ## Tables -/

/-- Every entry of a table changed alike. -/
def mapTable {α β : Type} {n : Nat} (f : α → β) (t : Vector α n) : Vector β n :=
  ⟨⟨t.toList.map f⟩, by simp⟩

/-- The entry `i` of a table changed. -/
def modTable {α : Type} {n : Nat} (t : Vector α n) (i : Fin n) (f : α → α) : Vector α n :=
  t.set i (f (t.get i))

end Sys2Proof.Machine
end

