-- ==== Sys2Proof/Machine/Ops.lean ====
section
/-! DEFINITION. The operations that every block shares: attention, order slots and their answers, cabin records, and the octets of an
order's parameters. -/

namespace Sys2Proof.Machine

/-! ## Attention (R191) -/

/-- The bit of the ATTENTION register that an area has. -/
def Attn.bit (a : Attn) : Half :=
  match a with
  | .orderDone => 0x0001
  | .mode => 0x0002
  | .stopCause => 0x0004
  | .ceiling => 0x0008
  | .track => 0x0010
  | .door => 0x0020
  | .sensor => 0x0040
  | .line => 0x0080
  | .indication => 0x0100
  | .messageIn => 0x0200
  | .call => 0x0400
  | .profile => 0x0800
  | .grip => 0x1000

/-- A block sets its attention bit; a bit already set stays set (R191). -/
def attend (a : Attn) (p : Part) : Part :=
  { p with window := { p.window with attention := p.window.attention ||| a.bit } }

/-! ## Order slots (R194, R195) -/

/-- Change one order slot. -/
def modSlot (i : SlotNo) (f : Slot → Slot) (p : Part) : Part :=
  { p with window := { p.window with slots := modTable p.window.slots i f } }

/-- The code of a result (R196). -/
def Result.code (r : Result) : Nat :=
  match r with
  | .ok => 0
  | .clamped => 1
  | .refusedState => 2
  | .refusedRange => 3
  | .busy => 4
  | .withdrawn => 5
  | .superseded => 6
  | .failed => 7
  | .unknownKind => 8
  | .noCapacity => 9

/-- A block answers an order: result, detail, the slot DONE and ORDER_DONE, in one event (R194). The progress field keeps what the
block has last written to it. DESIGN CHOICE (log entry 78): where no block has written it, as for a LINE_START, a LINE_PROBE and a long-running
order turned away, it keeps the octets that the host left there. -/
def answer (i : SlotNo) (r : Result) (detail : Nat) (p : Part) : Part :=
  attend .orderDone
    (modSlot i (fun s => { s with state := .done, result := BitVec.ofNat 8 r.code, detail := BitVec.ofNat 8 detail }) p)

/-- A block writes the progress field of a long-running order it holds (R194). -/
def setProgress (i : SlotNo) (n : Nat) (p : Part) : Part :=
  modSlot i (fun s => { s with progress := BitVec.ofNat 16 n }) p

/-- The answer of an order that some slot may hold: nothing is answered where no order is in flight. -/
def answerHeld (i : Option SlotNo) (r : Result) (detail : Nat) (p : Part) : Part :=
  match i with
  | none => p
  | some i => answer i r detail p

/-- A slot is in state TAKEN or WITHDRAW: its order is held by a block. -/
def Slot.held (s : Slot) : Bool := s.state == .taken || s.state == .withdraw

/-- The kind codes of the long-running orders (R193). -/
def isLongKind (k : Byte) : Bool := k == 0x31 || k == 0x51 || k == 0x52 || k == 0x60 || k == 0x70

/-- The long-running orders held: the slots in TAKEN or WITHDRAW whose kind is a long-running one (R193). -/
def longOrdersHeld (w : Window) : Nat := w.slots.toList.countP (fun s => s.held && isLongKind s.kind)

/-- The DONE map: one bit per slot, set while the slot is DONE (R194). -/
def doneMap (w : Window) : BitVec 32 :=
  BitVec.ofNat 32 (w.slots.toList.foldr (fun s acc => 2 * acc + (if s.state == .done then 1 else 0)) 0)

/-! ## Cabin records -/

/-- A cabin number from 1 to 128. -/
def isCabin (k : Nat) : Bool := 1 ≤ k && k ≤ 128

/-- The record of cabin `k`; a record that is not registered where `k` is no cabin number. -/
def cabin (p : Part) (k : Nat) : CabinRecord :=
  if h : 1 ≤ k ∧ k ≤ 128 then p.cabins.get ⟨k - 1, by omega⟩ else {}

/-- Change the record of cabin `k`; nothing is written where `k` is no cabin number (number 0 has no record). -/
def modCabin (k : Nat) (f : CabinRecord → CabinRecord) (p : Part) : Part :=
  if h : 1 ≤ k ∧ k ≤ 128 then { p with cabins := modTable p.cabins ⟨k - 1, by omega⟩ f } else p

/-- Set the place in a cabin's record (R9). -/
def setPlace (k : Nat) (pl : Place) (p : Part) : Part := modCabin k (fun r => { r with place := pl }) p

/-- Set the door state in a cabin's record. Launch Control judges at every change of the head cabin's door state (R65). -/
def setDoor (k : Nat) (d : CabinDoor) (p : Part) : Part :=
  let q := modCabin k (fun r => { r with door := d }) p
  { q with work := { q.work with launch := true } }

/-- Call for Launch Control's judgement at the end of the event (R65). -/
def callLaunch (p : Part) : Part := { p with work := { p.work with launch := true } }

/-- Call for the arbiter's judgement of the start queue (R96). -/
def callArbiter (p : Part) : Part := { p with work := { p.work with arbiter := true } }

/-- Call for the Door Sequencer's judgement of its DUE_WAITING actions (R108). -/
def callSequencer (p : Part) : Part := { p with work := { p.work with sequencer := true } }

/-! ## The octets of an order's parameters (R196) -/

/-- Octet `j` of a slot's parameters, counted from slot octet 8; octets beyond the slot read 0. -/
def octet (s : Slot) (j : Nat) : Nat := (s.params.toList.getD j 0).toNat

/-- A two-octet field, least significant octet first. -/
def word16 (s : Slot) (j : Nat) : Nat := octet s j + 256 * octet s (j + 1)

/-- A four-octet field, least significant octet first. -/
def word32 (s : Slot) (j : Nat) : Nat := word16 s j + 65536 * word16 s (j + 2)

/-- "A non-zero flag is taken as yes." -/
def flag (s : Slot) (j : Nat) : Bool := octet s j != 0

end Sys2Proof.Machine
end

