-- ==== Sys2Proof/Machine/Operands.lean ====
section
/-! DEFINITION. The operand forms of the orders (R196): how each order's parameters are read from its slot's octets. Parameter octet j
stands at slot octet 8 + j. "A named value that appears in a view of section 11.6 is coded as it is there. Any other named value is
coded from 0 in the order in which its rule lists the values." -/

namespace Sys2Proof.Machine

/-- A target, A or B, coded as the target of the door channel entry: 1 is A, 2 is B (R98, R196). -/
def readTarget (n : Nat) : Option End :=
  match n with
  | 1 => some .a
  | 2 => some .b
  | _ => none

/-- A closing end or a program action, coded 0 A, 1 B (section 11.6, R196). -/
def readEnd (n : Nat) : Option End :=
  match n with
  | 0 => some .a
  | 1 => some .b
  | _ => none

/-- A switch kind (section 11.6). -/
def readSwitchKind (n : Nat) : Option SwitchKind :=
  match n with
  | 0 => some .ropePosition
  | 1 => some .brittleLoop
  | 2 => some .general
  | _ => none

/-- A fault category (section 11.6). -/
def readCategory (n : Nat) : Option FaultCategory :=
  match n with
  | 0 => some .none
  | 1 => some .service
  | 2 => some .fast
  | _ => none

/-- A door channel kind (section 11.6). -/
def readDoorKind (n : Nat) : Option DoorKind :=
  match n with
  | 0 => some .none
  | 1 => some .cabinOpener
  | 2 => some .cabinCloser
  | 3 => some .platformGate
  | _ => none

/-- A door program condition (R196). -/
def readCondition (n : Nat) : Option Condition :=
  match n with
  | 0 => some .always
  | 1 => some .ifRun
  | 2 => some .ifInService
  | _ => none

/-- A profile, coded 0 for A and 1 for B (R196). -/
def readProfileName (n : Nat) : Option ProfileName :=
  match n with
  | 0 => some .a
  | 1 => some .b
  | _ => none

/-- A door channel number 0 to 7. -/
def readChannel (n : Nat) : Option ChannelNo := if h : n < 8 then some ⟨n, h⟩ else none

/-- A switch channel number 1 to 8, as an index. -/
def readSwitch (n : Nat) : Option (Fin 8) := if h : 1 ≤ n ∧ n ≤ 8 then some ⟨n - 1, by omega⟩ else none

/-- A voice slot number 0 or 1. -/
def readVoice (n : Nat) : Option VoiceNo := if h : n < 2 then some ⟨n, h⟩ else none

/-- The list of a ROSTER_LOAD: one octet each after the action and the count (R22). -/
def readNumbers (s : Slot) (first n : Nat) : List Nat := (List.range n).map (fun j => octet s (first + j))

/-- The pairs of a STATION_QUEUE_LOAD: cabin number and segment (R23). -/
def readPairs (s : Slot) (first n : Nat) : List (Nat × Nat) :=
  (List.range n).map (fun j => (octet s (first + 2 * j), octet s (first + 2 * j + 1)))

/-- A door program entry as written: trigger, channel, action, condition, delay (R196). -/
structure RawEntry where
  trigger : Nat
  channel : Nat
  action : Nat
  condition : Nat
  delay : Nat
  deriving DecidableEq, Repr

/-- The four octets of a door program entry: the trigger in bits 3-0 and the channel in bits 7-4 of the first, the action in bits 1-0
and the condition in bits 5-4 of the second, then the delay (R196). -/
def readEntry (s : Slot) (first : Nat) : RawEntry :=
  { trigger := octet s first % 16
    channel := octet s first / 16
    action := octet s (first + 1) % 4
    condition := octet s (first + 1) / 16 % 4
    delay := word16 s (first + 2) }

/-- The entries of a DOOR_PROGRAM_LOAD, four octets each after the count (R196). -/
def readEntries (s : Slot) (n : Nat) : List RawEntry := (List.range n).map (fun j => readEntry s (1 + 4 * j))

/-- One clamped field and the number of fields clamped so far. -/
def clampField (lo hi n : Nat) (count : Nat) : Nat × Nat :=
  let c := clampNat lo hi n
  (c, if c == n then count else count + 1)

/-- The 25 fields of a PROFILE_WRITE after the profile octet, as written, with their sizes: two octets each, S_min four, grip samples
and the alert flag one (R136, R196). DESIGN CHOICE (log entry 87): the decel step, which R196 lists under neither size, takes two octets. The fields are unclamped; the alert flag is already taken as yes or no. -/
def readProfile (s : Slot) (j : Nat) : Profile :=
  { vmax := word16 s j
    l1 := word16 s (j + 2)
    l2 := word16 s (j + 4)
    sMin := word32 s (j + 6)
    vLaunchMin := word16 s (j + 10)
    decelStep := word16 s (j + 12)
    overspeedMargin := word16 s (j + 14)
    rollbackThreshold := word16 s (j + 16)
    slipLimit := word16 s (j + 18)
    windThreshold := word16 s (j + 20)
    windHysteresis := word16 s (j + 22)
    vWind := word16 s (j + 24)
    vHold := word16 s (j + 26)
    vLink := word16 s (j + 28)
    vDoor := word16 s (j + 30)
    linkGrace := word16 s (j + 32)
    gripZero := word16 s (j + 34)
    gripGain := word16 s (j + 36)
    gripMin := word16 s (j + 38)
    gripMax := word16 s (j + 40)
    gripSamples := octet s (j + 42)
    tensionLow := word16 s (j + 43)
    tensionHigh := word16 s (j + 45)
    tensionHysteresis := word16 s (j + 47)
    alertCall := flag s (j + 49) }

/-- Each field of a profile brought into its range (section 7.5). -/
def clampProfile (p : Profile) : Profile :=
  { vmax := clampNat 0 12000 p.vmax
    l1 := clampNat 1 65535 p.l1
    l2 := clampNat 1 65535 p.l2
    sMin := clampNat 10000 200000 p.sMin
    vLaunchMin := clampNat 0 3000 p.vLaunchMin
    decelStep := clampNat 1 50 p.decelStep
    overspeedMargin := clampNat 50 2000 p.overspeedMargin
    rollbackThreshold := clampNat 20 1000 p.rollbackThreshold
    slipLimit := clampNat 50 5000 p.slipLimit
    windThreshold := clampNat 0 4095 p.windThreshold
    windHysteresis := clampNat 0 1000 p.windHysteresis
    vWind := clampNat 0 12000 p.vWind
    vHold := clampNat 0 12000 p.vHold
    vLink := clampNat 0 12000 p.vLink
    vDoor := clampNat 0 12000 p.vDoor
    linkGrace := clampNat 0 2000 p.linkGrace
    gripZero := clampNat 0 4095 p.gripZero
    gripGain := clampNat 1 65535 p.gripGain
    gripMin := clampNat 0 65535 p.gripMin
    gripMax := clampNat 0 65535 p.gripMax
    gripSamples := clampNat 4 64 p.gripSamples
    tensionLow := clampNat 0 4095 p.tensionLow
    tensionHigh := clampNat 0 4095 p.tensionHigh
    tensionHysteresis := clampNat 0 500 p.tensionHysteresis
    alertCall := p.alertCall }

/-- The numeric fields of a profile, in the table's order. -/
def profileNumbers (p : Profile) : List Nat :=
  [p.vmax, p.l1, p.l2, p.sMin, p.vLaunchMin, p.decelStep, p.overspeedMargin, p.rollbackThreshold, p.slipLimit, p.windThreshold,
    p.windHysteresis, p.vWind, p.vHold, p.vLink, p.vDoor, p.linkGrace, p.gripZero, p.gripGain, p.gripMin, p.gripMax, p.gripSamples,
    p.tensionLow, p.tensionHigh, p.tensionHysteresis]

/-- The number of fields in which two lists of numbers differ. -/
def countDiffers (xs ys : List Nat) : Nat := (xs.zip ys).countP (fun xy => xy.1 != xy.2)

/-- The number of fields of a profile that clamping changes (R136). -/
def profileClamped (p : Profile) : Nat := countDiffers (profileNumbers p) (profileNumbers (clampProfile p))

/-- The sleep interval taken for a value written: 1, 2, 4 or 8 s, or "the next of those values above it, or 8 s if it is above 8"
(R158). -/
def sleepValue (n : Nat) : Nat := if n ≤ 1 then 1 else if n ≤ 2 then 2 else if n ≤ 4 then 4 else 8

/-- The fields of a LINE_CONFIGURE in the table's order, one octet each, clamped (R158, R196). -/
def readLineConfig (s : Slot) : LineConfig :=
  { rateCeiling := clampNat 1 3 (octet s 0)
    attempts := clampNat 1 8 (octet s 1)
    qualityThreshold := clampNat 5 250 (octet s 2)
    sleepSeconds := sleepValue (octet s 3)
    pattern1 := BitVec.ofNat 8 (octet s 4)
    pattern2 := BitVec.ofNat 8 (octet s 5)
    mask := BitVec.ofNat 8 (octet s 6)
    glarePriority := clampNat 0 7 (octet s 7)
    autoStart := flag s 8 }

/-- The number of fields of a LINE_CONFIGURE clamped (R158). -/
def lineConfigClamped (s : Slot) : Nat :=
  let c := readLineConfig s
  countDiffers [octet s 0, octet s 1, octet s 2, octet s 3, octet s 7]
    [c.rateCeiling, c.attempts, c.qualityThreshold, c.sleepSeconds, c.glarePriority]

/-- A cabin operator: CABIN_OPENER or CABIN_CLOSER. -/
def DoorKind.isCabin (k : DoorKind) : Bool := k == .cabinOpener || k == .cabinCloser

/-- The configuration of a DOOR_CONFIGURE as stored, and the number of its fields clamped or adjusted (R79). `none` with the position
of the first field outside the values named. -/
def readDoorConfig (s : Slot) : Except Nat (DoorConfig × Nat) :=
  match readDoorKind (octet s 1), readEnd (octet s 2), readCategory (octet s 14) with
  | none, _, _ => .error 1
  | some _, none, _ => .error 2
  | some kind, some closing, category =>
    let reach := octet s 13
    if !(1 ≤ reach && reach ≤ 6) then .error 9 else
    match category with
    | none => .error 10
    | some category =>
      let closing' := if kind.isCabin then End.b else closing
      let lock := flag s 8
      let lock' := lock && !kind.isCabin && !(kind == .platformGate && closing' == .b)
      let given := [word16 s 3, word16 s 5, octet s 7, word16 s 9, word16 s 11]
      let stored := [clampNat 200 10000 (word16 s 3), clampNat 0 5000 (word16 s 5), clampNat 0 3 (octet s 7),
        clampNat 50 2000 (word16 s 9), clampNat 1 4095 (word16 s 11)]
      let adjusted := (if closing' == closing then 0 else 1) + (if lock' == lock then 0 else 1)
      .ok ({ kind := kind
             closingEnd := closing'
             travelLimit := clampNat 200 10000 (word16 s 3)
             reopenDwell := clampNat 0 5000 (word16 s 5)
             retries := clampNat 0 3 (octet s 7)
             lock := lock'
             lockTime := clampNat 50 2000 (word16 s 9)
             threshold := clampNat 1 4095 (word16 s 11)
             reach := reach
             category := category
             capOnFault := flag s 15 },
        countDiffers given stored + adjusted)

end Sys2Proof.Machine
end

