-- ==== Sys2Proof/Machine/Flags.lean ====
section
/-! DEFINITION. Flags, output pins and words that follow from the rest of the state: the stop-request outputs, ATTN, the valley
indication word, the speed ceiling, and the codes of the named values that answers and views show. -/

namespace Sys2Proof.Machine

/-! ## Codes -/

/-- The mode codes (section 7.1). -/
def Mode.code (m : Mode) : Nat :=
  match m with
  | .off => 0
  | .ready => 1
  | .starting => 2
  | .run => 3
  | .stoppingService => 4
  | .stoppingFast => 5
  | .stopped => 6

/-- The codes of the door channel states (section 11.6). -/
def DoorState.code (s : DoorState) : Nat :=
  match s with
  | .unknown => 0
  | .atA => 1
  | .atB => 2
  | .unlocking => 3
  | .waitingStart => 4
  | .movingToA => 5
  | .movingToB => 6
  | .reversing => 7
  | .reopenDwell => 8
  | .locking => 9
  | .halted => 10
  | .fault => 11

/-- The codes of a channel's last reason, which are also the details of a failed DOOR_MOVE (R98, section 11.6). -/
def DoorReason.code (r : DoorReason) : Nat :=
  match r with
  | .none => 0
  | .travelTimeout => 1
  | .lockTimeout => 2
  | .obstruction => 3
  | .bothLimits => 4
  | .leftEnd => 5

/-- The codes of the diagnosis (section 11.6). -/
def Diagnosis.code (d : Diagnosis) : Nat :=
  match d with
  | .none => 0
  | .summitUnpowered => 1
  | .lineOpen => 2
  | .trainingFailed => 3
  | .lost => 4
  | .quality => 5

/-- The codes of the call states (section 10.2). -/
def CallState.code (s : CallState) : Nat :=
  match s with
  | .unavailable => 0
  | .idle => 1
  | .seizing => 2
  | .ringingOut => 3
  | .ringingIn => 4
  | .connected => 5
  | .clearing => 6

/-! ## Modes and stop requests (sections 7.1, R124) -/

/-- STOPPING_SERVICE and STOPPING_FAST are the stopping modes. -/
def Mode.isStopping (m : Mode) : Bool := m == .stoppingService || m == .stoppingFast

/-- The modes in which the drive may run and C is composed: STARTING and RUN (R132). -/
def Mode.isRunning (m : Mode) : Bool := m == .starting || m == .run

/-- A FAST cause is listed, or the overflow record notes a FAST cause not listed (R124). -/
def fastHeld (s : Supervisor) : Bool := s.causes.any (fun c => c.category == .fast) || s.fastNote

/-- SVC_STOP is asserted while the mode is STOPPING_SERVICE (R124). -/
def svcStopFor (s : Supervisor) : Bool := s.mode == .stoppingService

/-- FAST_STOP is asserted in STOPPING_FAST, and in STOPPED and OFF while a FAST cause is listed or noted (R124). -/
def fastStopFor (s : Supervisor) : Bool :=
  s.mode == .stoppingFast || ((s.mode == .stopped || s.mode == .off) && fastHeld s)

/-- "ATTN is driven low while ATTN_ENABLE is 1 and at least one bit is set in both ATTENTION and ATTENTION_MASK" (R191). -/
def attnFor (w : Window) : Bool := w.attnEnable && (w.attention &&& w.attentionMask) != 0

/-- The stop requests and ATTN brought to what the state asks for: "it changes in the event that changes" any of what it follows
(R124, R191). -/
def refreshPins (p : Part) : Part :=
  { p with
    sup := { p.sup with svcStop := svcStopFor p.sup, fastStop := fastStopFor p.sup }
    window := { p.window with attn := attnFor p.window } }

/-! ## The speed ceiling (R132) -/

/-- The active profile. -/
def activeProfile (s : Supervisor) : Profile :=
  match s.active with
  | .a => s.profileA
  | .b => s.profileB

/-- A cap's speed, or Vmax where the cap is not in the set. -/
def capSpeed (inSet : Bool) (speed vmax : Nat) : Nat := if inSet then min speed vmax else vmax

/-- "In STARTING and RUN, C is the least of the active profile's Vmax and the profile speeds of the caps in the cap cause set. In every
other mode C is 0" (R132). -/
def composedCeiling (s : Supervisor) : Nat :=
  let p := activeProfile s
  if s.mode.isRunning then
    min (min (capSpeed s.caps.wind p.vWind p.vmax) (capSpeed s.caps.hold p.vHold p.vmax))
      (min (capSpeed s.caps.door p.vDoor p.vmax) (capSpeed s.caps.link p.vLink p.vmax))
  else 0

/-! ## The valley indication word (R147) -/

/-- Own SEIZE: set in SEIZING and RINGING_OUT, and in CONNECTED for the caller (section 10.2). -/
def CallSlot.ownSeize (c : CallSlot) : Bool :=
  c.state == .seizing || c.state == .ringingOut || (c.state == .connected && c.role == .caller)

/-- Own ANSWER: set in CONNECTED for the answerer (section 10.2). -/
def CallSlot.ownAnswer (c : CallSlot) : Bool := c.state == .connected && c.role == .answerer

/-- A half-word with one bit, set or clear. -/
def bitIf (b : Bool) (n : Nat) : Half := if b then BitVec.ofNat 16 (2 ^ n) else 0

/-- The valley's indication word as its sources stand: the mode, the Call Unit's own bits and the general bits (R147). -/
def valleyWord (p : Part) : Half :=
  bitIf (p.sup.mode == .run) 0 ||| bitIf p.sup.mode.isStopping 1 ||| bitIf (p.sup.mode == .stopped) 2 |||
  bitIf (p.calls.slots.get 0).ownSeize 4 ||| bitIf (p.calls.slots.get 0).ownAnswer 5 |||
  bitIf (p.calls.slots.get 1).ownSeize 6 ||| bitIf (p.calls.slots.get 1).ownAnswer 7 |||
  (p.line.generalBits.setWidth 16 <<< 8)

/-! ## The summit's accepted indications (R147) -/

/-- SUMMIT_READY, STOP_SERVICE, STOP_FAST and WIND_WARNING as accepted: bits 0 to 3 of the summit's word. -/
def summitBit (l : Line) (n : Nat) : Bool := l.accepted.getLsbD n

/-- "SUMMIT_READY is taken as standing while the line is UP and its accepted value is set" (R130). -/
def summitReady (l : Line) : Bool := l.state == .up && summitBit l 0

/-! ## Other readings of one block by another -/

/-- The CONVERTER_FAULT condition is present from the third consecutive failed scan until a good one (R52). -/
def converterFaultPresent (s : Sensors) : Bool := s.failRun == 3

/-- "The converter is healthy when at least one good scan has been taken since the last reset and the CONVERTER_FAULT condition is
gone" (R53). -/
def converterHealthy (s : Sensors) : Bool := s.everGood && !converterFaultPresent s

/-- A converter code counts as fresh at this sample: this sample's scan has been taken, and it was good (R52, R78, log entry 6). -/
def codesFresh (p : Part) : Bool := p.sensors.mark == .fresh && p.clock.scanTaken

end Sys2Proof.Machine
end

