-- ==== Sys2Proof/Machine/Calls.lean ====
section
/-! DEFINITION. The Call Unit: the two call machines, glare, clearing, ringers and tones (chapter 10). -/

namespace Sys2Proof.Machine

/-- One call machine. -/
def callSlot (p : Part) (v : VoiceNo) : CallSlot := p.calls.slots.get v

/-- Change one call machine. -/
def modCall (v : VoiceNo) (f : CallSlot → CallSlot) (p : Part) : Part :=
  { p with calls := { p.calls with slots := modTable p.calls.slots v f } }

/-- A slot enters a call state: the CALL attention bit is set at every change of state (R186), and the progress field of an order that
owns the slot shows the new state's code (R183). -/
def enterCall (v : VoiceNo) (st : CallState) (p : Part) : Part :=
  let old := callSlot p v
  let p := modCall v (fun c => { c with state := st }) p
  let p := if old.state == st then p else attend .call p
  match old.order with
  | none => p
  | some i => setProgress i st.code p

/-- Answer the CALL_PLACE that owns the slot, if any; the order then no longer owns it. -/
def answerCall (v : VoiceNo) (r : Result) (detail : Nat) (p : Part) : Part :=
  let held := (callSlot p v).order
  modCall v (fun c => { c with order := none }) (answerHeld held r detail p)

/-- Ringing in cadence begins: the ringer is energised for 1 s first (R175). -/
def startRinging (v : VoiceNo) (p : Part) : Part :=
  modCall v (fun c => { c with ringing := true, ringer := true, ringNext := p.clock.now + ms 1000 }) p

/-- "The output is released at once whenever ringing ends" (R175). -/
def stopRinging (v : VoiceNo) (p : Part) : Part := modCall v (fun c => { c with ringing := false, ringer := false }) p

/-- The slot returns to IDLE and holds no call: both timers stop and the ringer is released. -/
def callToIdle (v : VoiceNo) (p : Part) : Part :=
  let p := enterCall v .idle p
  stopRinging v (modCall v (fun c => { c with originator := .none, role := .none, noAnswer := none, guardEnds := none }) p)

/-- A new seize of the slot is allowed while the free run is 2 (R176). -/
def seizeAllowed (c : CallSlot) : Bool := c.freeRun == 2

/-- A call is originated on an IDLE slot whose seize is allowed: SEIZING, role CALLER, duration 0, and the no-answer timer starts with
the configured unanswered limit (R177). -/
def originate (v : VoiceNo) (o : Originator) (order : Option SlotNo) (p : Part) : Part :=
  let p := modCall v (fun c => { c with
    originator := o, role := .caller, order := order, clearedBySummit := false, duration := 0, seizeAnswers := 0,
    pickedUp := false, noAnswer := some (p.clock.now + ms (1000 * p.calls.limit)) }) p
  enterCall v .seizing p

/-- The call is CONNECTED (R179, R180): the no-answer timer stops, the duration begins to count, and a CALL_PLACE is answered OK. An
ORDER or ALERT call whose handset is not OFF_HOOK starts ringing; any other call stops it. -/
def connect (v : VoiceNo) (p : Part) : Part :=
  let c := callSlot p v
  let offHook := c.hook == some true
  let rings := c.role == .caller && (c.originator == .order || c.originator == .alert) && !offHook
  let p := modCall v (fun c => { c with
    noAnswer := none, nextSecond := p.clock.now + ms 1000, pickedUp := !rings, voiceOctets := [] }) p
  let p := enterCall v .connected p
  let p := { p with calls := { p.calls with connects := count16 p.calls.connects } }
  let p := answerCall v .ok 0 p
  if rings then startRinging v p else stopRinging v p

/-- The bit of the summit that a valley clearing waits for stands: its ANSWER for a caller, its SEIZE for an answerer (R181). -/
def awaitedStands (c : CallSlot) : Bool :=
  match c.role with
  | .answerer => c.seizeTaken
  | _ => c.answerTaken

/-- The valley clears first (R181): the slot enters CLEARING with the guard timer of 2 s, or IDLE at once where the summit's bit that
the valley waits for is already clear. DEDUCED (log entry 76): so also for a withdrawn CALL_PLACE, whose call R183 has clearing. -/
def clearByValley (v : VoiceNo) (why : ClearReason) (p : Part) : Part :=
  let p := modCall v (fun c => { c with
    reason := why, clearedBySummit := false, noAnswer := none, guardEnds := some (p.clock.now + ms 2000) }) p
  let p := stopRinging v (enterCall v .clearing p)
  if awaitedStands (callSlot p v) then p else callToIdle v p

/-- The summit clears first (R181): CLEARING with the clear tone where the handset is OFF_HOOK, IDLE at once otherwise. -/
def clearBySummit (v : VoiceNo) (p : Part) : Part :=
  let p := modCall v (fun c => { c with reason := .farClear }) p
  if (callSlot p v).hook == some true then
    stopRinging v (enterCall v .clearing (modCall v (fun c => { c with clearedBySummit := true }) p))
  else callToIdle v p

/-- An incoming call (R180): RINGING_IN with originator FAR and role ANSWERER; it rings, or is answered at once where the handset is
already OFF_HOOK. -/
def incoming (v : VoiceNo) (p : Part) : Part :=
  let p := modCall v (fun c => { c with
    originator := .far, role := .answerer, order := none, clearedBySummit := false, duration := 0, noAnswer := none }) p
  let p := enterCall v .ringingIn p
  if (callSlot p v).hook == some true then connect v p else startRinging v p

/-- Glare (R178): "the valley wins when its priority is greater than the summit's or equal to it, and loses when it is less". -/
def glare (v : VoiceNo) (p : Part) : Part :=
  if p.line.summitPriority ≤ p.line.valleyPriority then
    { p with calls := { p.calls with glareWon := count16 p.calls.glareWon } }
  else
    let p := { p with calls := { p.calls with glareLost := count16 p.calls.glareLost } }
    incoming v (answerCall v .failed 4 p)

/-- The summit's SEIZE comes to stand (R178, R180). -/
def seizeStands (v : VoiceNo) (p : Part) : Part :=
  match (callSlot p v).state with
  | .idle => incoming v p
  | .seizing => glare v p
  | .ringingOut => glare v p
  | _ => p

/-- The summit's SEIZE drops (R180, R181). -/
def seizeDrops (v : VoiceNo) (p : Part) : Part :=
  let c := callSlot p v
  match c.state with
  | .ringingIn => callToIdle v (modCall v (fun c => { c with reason := .farClear }) p)
  | .connected => if c.role == .answerer then clearBySummit v p else p
  | .clearing => if !c.clearedBySummit && c.role == .answerer then callToIdle v p else p
  | _ => p

/-- The summit's ANSWER comes to stand (R179). -/
def answerStands (v : VoiceNo) (p : Part) : Part :=
  match (callSlot p v).state with
  | .seizing => connect v p
  | .ringingOut => connect v p
  | _ => p

/-- The summit's ANSWER drops (R181). -/
def answerDrops (v : VoiceNo) (p : Part) : Part :=
  let c := callSlot p v
  match c.state with
  | .connected => if c.role == .caller then clearBySummit v p else p
  | .clearing => if !c.clearedBySummit && c.role == .caller then callToIdle v p else p
  | _ => p

/-- The number of the summit's SEIZE bit for a slot: 4 for V0, 6 for V1; its ANSWER bit is the next one (R147). -/
def seizeBit (v : VoiceNo) : Nat := 4 + 2 * v.val

/-- The machine takes the summit's bits (R176): clear until the second good answer after an entry into UP, and as accepted from then
on. A bit that comes to stand or drops is acted on, SEIZE before ANSWER (log entry 19). -/
def takeSummitBits (v : VoiceNo) (p : Part) : Part :=
  let old := callSlot p v
  let n := min 2 (old.goodSinceUp + 1)
  let seize := n == 2 && summitBit p.line (seizeBit v)
  let ans := n == 2 && summitBit p.line (seizeBit v + 1)
  let p := modCall v (fun c => { c with goodSinceUp := n, seizeTaken := seize, answerTaken := ans }) p
  let p := if seize && !old.seizeTaken then seizeStands v p else if !seize && old.seizeTaken then seizeDrops v p else p
  if ans && !old.answerTaken then answerStands v p else if !ans && old.answerTaken then answerDrops v p else p

/-- The count of good answers in SEIZING to valley frames that carried own SEIZE: at the second, with no glare at it, the slot enters
RINGING_OUT (R177, log entry 19). -/
def countSeizing (v : VoiceNo) (carriedSeize glareNow : Bool) (p : Part) : Part :=
  if (callSlot p v).state == .seizing && carriedSeize then
    let p := modCall v (fun c => { c with seizeAnswers := min 2 (c.seizeAnswers + 1) }) p
    if (callSlot p v).seizeAnswers == 2 && !glareNow then enterCall v .ringingOut p else p
  else p

/-- The free run (R176): it rises, up to 2, at a good answer whose own SEIZE and ANSWER bits of the slot are clear to a valley frame
that carried the slot's own SEIZE clear, and becomes 0 at any other good answer. -/
def updateFreeRun (v : VoiceNo) (word : Half) (carriedSeize : Bool) (p : Part) : Part :=
  let free := !word.getLsbD (seizeBit v) && !word.getLsbD (seizeBit v + 1) && !carriedSeize
  modCall v (fun c => { c with freeRun := if free then min 2 (c.freeRun + 1) else 0 }) p

/-- The work of one good answer in UP on one slot, in the order of R176: the summit's bits, then the count for SEIZING, then the free
run. -/
def callGoodAnswer (v : VoiceNo) (word : Half) (carriedSeize : Bool) (p : Part) : Part :=
  let before := callSlot p v
  let p := takeSummitBits v p
  let glareNow := (callSlot p v).seizeTaken && !before.seizeTaken
  updateFreeRun v word carriedSeize (countSeizing v carriedSeize glareNow p)

/-- The sixteen voice octets of an answer are played while the call is CONNECTED (R174). -/
def playVoice (v : VoiceNo) (octets : List Byte) (p : Part) : Part :=
  if (callSlot p v).state == .connected then modCall v (fun c => { c with voiceOctets := octets }) p else p

/-- V0 is carried at rates 2 and 3 and V1 at rate 3 (R182). -/
def carries (rate : Nat) (v : VoiceNo) : Bool := if v == 0 then 2 ≤ rate else rate == 3

/-- An entry into UP at rate `rate` (R176, R182): the taken bits and the free run are set afresh, and a slot the rate carries enters
IDLE. -/
def callLineUp (rate : Nat) (v : VoiceNo) (p : Part) : Part :=
  let p := modCall v (fun c => { c with seizeTaken := false, answerTaken := false, goodSinceUp := 0, freeRun := 0 }) p
  if carries rate v then enterCall v .idle p else p

/-- A departure from UP (R182): a slot that is not UNAVAILABLE ends what it holds; a CALL_PLACE is answered, and the slot then enters
UNAVAILABLE. `training` is the rate at which training now runs, `none` where the departure is into another state. -/
def callLineDown (training : Option Nat) (v : VoiceNo) (p : Part) : Part :=
  let p := modCall v (fun c => { c with seizeTaken := false, answerTaken := false, goodSinceUp := 0 }) p
  let c := callSlot p v
  let noCapacity :=
    match training with
    | none => false
    | some r => !carries r v
  let why : ClearReason := if noCapacity then .noCapacity else .lineLost
  match c.state with
  | .unavailable => p
  | .idle => enterCall v .unavailable p
  | .clearing =>
    stopRinging v (modCall v (fun c => { c with originator := .none, role := .none, noAnswer := none, guardEnds := none })
      (enterCall v .unavailable p))
  | _ =>
    let p := enterCall v .unavailable (answerCall v .failed (if noCapacity then 3 else 2) p)
    stopRinging v (modCall v (fun c => { c with
      reason := why, originator := .none, role := .none, noAnswer := none, guardEnds := none }) p)

/-- The local handset goes OFF_HOOK (R177, R179, R180). -/
def handsetLifted (v : VoiceNo) (p : Part) : Part :=
  let c := callSlot p v
  match c.state with
  | .idle => if seizeAllowed c then originate v .handset none p else p
  | .ringingIn => connect v p
  | .connected => stopRinging v (modCall v (fun c => { c with pickedUp := true }) p)
  | _ => p

/-- The local handset goes ON_HOOK (R177, R181). -/
def handsetHungUp (v : VoiceNo) (p : Part) : Part :=
  let c := callSlot p v
  match c.state with
  | .seizing => if c.originator == .handset then clearByValley v .localClear p else p
  | .ringingOut => if c.originator == .handset then clearByValley v .localClear p else p
  | .connected => if c.role == .answerer || c.originator == .handset || c.pickedUp then clearByValley v .localClear p else p
  | .clearing => if c.clearedBySummit then callToIdle v p else p
  | _ => p

/-- An alert call request (R139, R177): an ALERT call on V0 where that slot is IDLE and a seize is allowed; otherwise the request lapses
and is counted. -/
def alertRequest (p : Part) : Part :=
  let c := callSlot p 0
  if c.state == .idle && seizeAllowed c then originate 0 .alert none p
  else { p with calls := { p.calls with alertLapses := count16 p.calls.alertLapses } }

/-- What a handset's codec slot is given, by the call state and the hook (the table of R174). -/
def toneFor (c : CallSlot) : Tone :=
  if c.hook == some true then
    match c.state with
    | .unavailable => .busy
    | .idle => .busy
    | .seizing => .silence
    | .ringingOut => if c.originator == .handset then .ringback else .silence
    | .ringingIn => .silence
    | .connected => .voice
    | .clearing => if c.clearedBySummit then .clear else .silence
  else if c.state == .connected then .voice else .silence

/-- The tone of one slot brought up to date: "its cadence starts at the moment the tone begins" (R174). -/
def refreshTone (v : VoiceNo) (p : Part) : Part :=
  let c := callSlot p v
  if toneFor c == c.tone then p
  else modCall v (fun c => { c with tone := toneFor c, toneSince := p.clock.now }) p

/-- Whether a tone is switched on at a time, by the cadence of its table row (R174): ringback 1 s on and 2 s off, busy 0.5 s and 0.5 s,
clear 0.25 s and 0.25 s. -/
def toneOn (c : CallSlot) (now : Time) : Bool :=
  match c.tone with
  | .silence => false
  | .voice => false
  | .ringback => elapsed now c.toneSince % 3000 < 1000
  | .busy => elapsed now c.toneSince % 1000 < 500
  | .clear => elapsed now c.toneSince % 500 < 250

/-- The number by which a tone's octets are known to `Config.toneOctet`. -/
def Tone.number (t : Tone) : Nat :=
  match t with
  | .silence => 0
  | .ringback => 1
  | .busy => 2
  | .clear => 3
  | .voice => 4

/-- Octet `n` of the sixteen that a codec slot plays in the line frame period that begins at `now` (R174): the summit's voice octet,
silence, or the tone's own octet. Eight octets pass in a millisecond, so the cadence is judged at the octet's own millisecond. A voice octet
not handed over yet is not stated; log entry 20. -/
def codecOctet (c : CallSlot) (now : Time) (n : Nat) : Byte :=
  match c.tone with
  | .voice => c.voiceOctets.getD n Config.silence
  | t => if toneOn c (now + ms (n / 8)) then Config.toneOctet t.number (8 * elapsed now c.toneSince + n) else Config.silence

/-- The sixteen voice octets that the Call Unit presents for the next valley frame (R174): those gathered from the codec slot while the
call is CONNECTED, silence in every other state. -/
def presentedVoice (c : CallSlot) : List Byte :=
  if c.state == .connected then (c.micOctets ++ List.replicate 16 Config.silence).take 16
  else List.replicate 16 Config.silence

end Sys2Proof.Machine
end

