-- ==== Sys2Proof/Machine/Supervisor.lean ====
section
/-! DEFINITION. The Station Supervisor: modes, stop causes, caps, the ceiling, profile switches (chapter 7). -/

namespace Sys2Proof.Machine

/-- Change the Supervisor's own state. -/
def modSup (f : Supervisor → Supervisor) (p : Part) : Part := { p with sup := f p.sup }

/-! ## The ceiling (R40, R131, R132) -/

/-- A change of C reaches the Rope Measurement Unit: a C at or above C_eff is taken at once, a lower one leaves C_eff as it is (R40). -/
def ropeCeiling (c : Nat) (r : Rope) : Rope := if r.ceff ≤ c then { r with ceff := c } else r

/-- "At each composition whose result differs from the C that stood before, it hands the new C to the Rope Measurement Unit, writes it
to the window header and sets the CEILING attention bit. A composition that gives the same value hands nothing on" (R132). -/
def composeCeiling (p : Part) : Part :=
  let c := composedCeiling p.sup
  if c == p.sup.ceiling then p
  else attend .ceiling { p with sup := { p.sup with ceiling := c }, rope := ropeCeiling c p.rope }

/-- Set the cap cause set; every change of the set sets the CEILING attention bit and composes C afresh (R131, R132). -/
def setCaps (caps : Caps) (p : Part) : Part :=
  if caps == p.sup.caps then p else composeCeiling (attend .ceiling (modSup (fun s => { s with caps := caps }) p))

/-- Put the HOLD cap in or take it out (R7). -/
def setHoldCap (b : Bool) (p : Part) : Part := setCaps { p.sup.caps with hold := b } p

/-- Put the DOOR cap in or take it out (R93). -/
def setDoorCap (b : Bool) (p : Part) : Part := setCaps { p.sup.caps with door := b } p

/-- Put the LINK cap in or take it out (R131). -/
def setLinkCap (b : Bool) (p : Part) : Part := setCaps { p.sup.caps with link := b } p

/-- The WIND cap is in the set while the local wind state is HIGH or the summit's WIND_WARNING is accepted set (R131). -/
def refreshWindCap (p : Part) : Part := setCaps { p.sup.caps with wind := p.sensors.windHigh || summitBit p.line 3 } p

/-! ## Profile switches (R138) -/

/-- A profile switch takes effect: the named profile becomes active, none is pending, C is composed afresh and PROFILE is set (R138).
Launch Control judges afresh at each switch that takes effect (R65). -/
def applySwitch (n : ProfileName) (p : Part) : Part :=
  callLaunch (composeCeiling (attend .profile (modSup (fun s => { s with active := n, pendingSwitch := none }) p)))

/-- The pending switch, if any, takes effect. -/
def applyPendingSwitch (p : Part) : Part :=
  match p.sup.pendingSwitch with
  | none => p
  | some n => applySwitch n p

/-! ## Changes of mode (R121 to R123) -/

/-- An entry into a stopping mode from a mode that is not one is noted by the Rope Measurement Unit with its time (R43, R123). -/
def noteStopEntry (old : Mode) (p : Part) : Part :=
  if p.sup.mode.isStopping && !old.isStopping then { p with rope := { p.rope with stopEntry := some p.clock.now } } else p

/-- An entry into STOPPING_FAST makes an alert call request where the active profile asks for one (R139). -/
def alertOnFastStop (p : Part) : Part :=
  if p.sup.mode == .stoppingFast && (activeProfile p.sup).alertCall then alertRequest p else p

/-- The timers that a new mode stops: the start-up timer on leaving STARTING, the link grace timer outside STARTING and RUN (R119,
R123). -/
def stopModeTimers (s : Supervisor) : Supervisor :=
  { s with
    startTimer := if s.mode == .starting then s.startTimer else none
    graceTimer := if s.mode.isRunning then s.graceTimer else none }

/-- One change of mode, in the order of R123. The stop outputs follow the mode at the end of the event (`refreshPins`), and the valley
indications follow it in the next frame composed (`valleyWord`). -/
def enterMode (m : Mode) (p : Part) : Part :=
  let old := p.sup.mode
  if m == old then p else
  let p := modSup (fun s => { s with mode := m }) p
  let p := if old == .run then applyPendingSwitch p else p
  let p := callLaunch (composeCeiling p)
  let p := alertOnFastStop (noteStopEntry old p)
  attend .mode (modSup stopModeTimers p)

/-- The list holds an entry or a condition is held unlisted (R122, R127). -/
def causesStand (s : Supervisor) : Bool := !s.causes.isEmpty || s.present.any (fun c => !c.listed)

/-- The standstill event (R122): in a stopping mode the stop ends in STOPPED where causes stand and in READY otherwise. -/
def standstillEvent (p : Part) : Part :=
  if p.sup.mode.isStopping then enterMode (if causesStand p.sup then .stopped else .ready) p else p

/-- A change of mode, and the end of the stop in the same event where a stopping mode is entered from another mode while standstill
stands declared (R122). DESIGN CHOICE (log entry 85): for a cause that a sample reports, this is the standstill that the sample has computed. -/
def changeMode (m : Mode) (p : Part) : Part :=
  let old := p.sup.mode
  let p := enterMode m p
  if m.isStopping && !old.isStopping && p.rope.standstill then standstillEvent p else p

/-- The mode to which a cause's category moves the station (the table of R121). -/
def modeAfterCause (m : Mode) (c : Category) : Mode :=
  match m, c with
  | .off, _ => .off
  | .ready, _ => .stopped
  | .starting, .service => .stoppingService
  | .starting, .fast => .stoppingFast
  | .run, .service => .stoppingService
  | .run, .fast => .stoppingFast
  | .stoppingService, .service => .stoppingService
  | .stoppingService, .fast => .stoppingFast
  | .stoppingFast, _ => .stoppingFast
  | .stopped, _ => .stopped

/-! ## The stop cause list (R125 to R127) -/

/-- An entry names this kind and source. -/
def Cause.names (c : Cause) (k : CauseKind) (src : Nat) : Bool := c.kind == k && c.source == src

/-- A row of the present condition table names this kind and source. -/
def PresentCause.names (c : PresentCause) (k : CauseKind) (src : Nat) : Bool := c.kind == k && c.source == src

/-- The higher of two categories. -/
def Category.max (a b : Category) : Category := if a == .fast || b == .fast then .fast else .service

/-- A present condition is placed in the present condition table, or found there: it takes the higher category, and is marked as listed
where the report's entry stands in the list (R125, R127). -/
def placePresent (k : CauseKind) (src : Nat) (cat : Category) (now : Time) (listed : Bool) (t : List PresentCause) : List PresentCause :=
  if t.any (fun c => c.names k src) then
    t.map (fun c => if c.names k src then { c with category := c.category.max cat, listed := c.listed || listed } else c)
  else t ++ [{ kind := k, source := src, category := cat, firstTime := now, listed := listed }]

/-- The list after a repeated report of a listed cause (R125). -/
def repeatCause (k : CauseKind) (src : Nat) (cat : Category) (present : Bool) (l : List Cause) : List Cause :=
  l.map (fun c => if c.names k src then
    { c with category := c.category.max cat, repeats := countTo 255 c.repeats, present := c.present || present } else c)

/-- A report is entered: as a repeat of a listed cause, as a new entry where the list has room, or as an overflow (R125, R127). -/
def enterCause (k : CauseKind) (src : Nat) (cat : Category) (present : Bool) (now : Time) (s : Supervisor) : Supervisor :=
  if s.causes.any (fun c => c.names k src) then
    { s with
      causes := repeatCause k src cat present s.causes
      present := if present then placePresent k src cat now true s.present else s.present }
  else if s.causes.length < Config.causesMax then
    { s with
      causes := s.causes ++ [{ kind := k, source := src, category := cat, firstTime := now, present := present }]
      present := if present then placePresent k src cat now true s.present else s.present }
  else
    { s with
      overflow := true
      overflowCount := countTo 255 s.overflowCount
      fastNote := s.fastNote || cat == .fast
      present := if present then placePresent k src cat now false s.present else s.present }

/-- A stop cause reported to the Supervisor: entered, announced, and its category applied to the mode (R121, R125, R127). -/
def report (k : CauseKind) (src : Nat) (cat : Category) (present : Bool) (p : Part) : Part :=
  let p := attend .stopCause (modSup (enterCause k src cat present p.clock.now) p)
  changeMode (modeAfterCause p.sup.mode cat) p

/-- A condition is gone: it leaves the present condition table and a listed entry becomes GONE, which sets STOP_CAUSE (R126). -/
def gone (k : CauseKind) (src : Nat) (p : Part) : Part :=
  let becomes := p.sup.causes.any (fun c => c.names k src && c.present)
  let p := modSup (fun s => { s with
    causes := s.causes.map (fun c => if c.names k src then { c with present := false } else c)
    present := s.present.filter (fun c => !c.names k src) }) p
  if becomes then attend .stopCause p else p

/-- What a block tells the Supervisor: a report, or that a condition is gone. -/
inductive Notice where
  | report (kind : CauseKind) (source : Nat) (category : Category) (present : Bool)
  | gone (kind : CauseKind) (source : Nat)
  deriving DecidableEq, Repr

/-- Deliver a notice. -/
def deliver (p : Part) (n : Notice) : Part :=
  match n with
  | .report k src cat present => report k src cat present p
  | .gone k src => gone k src p

/-- A configured category as a report's category; NONE reports nothing (R47, R93). -/
def FaultCategory.toCategory (c : FaultCategory) : Option Category :=
  match c with
  | .none => Option.none
  | .service => some .service
  | .fast => some .fast

/-! ## Acknowledgement (R128) -/

/-- Append conditions held unlisted, oldest first report first, while the list has room. The present condition table stands in the order
of first reports, so its order is the order of age. -/
def listUnlisted : List PresentCause → List Cause → List PresentCause × List Cause
  | [], l => ([], l)
  | c :: t, l =>
    if !c.listed && l.length < Config.causesMax then
      let r := listUnlisted t (l ++ [{ kind := c.kind, source := c.source, category := c.category, firstTime := c.firstTime, present := true }])
      ({ c with listed := true } :: r.1, r.2)
    else
      let r := listUnlisted t l
      (c :: r.1, r.2)

/-- The list, the table and the overflow record after CAUSE_ACKNOWLEDGE (R128). DESIGN CHOICE (log entry 63): where conditions stay unlisted,
the note of a FAST cause is dropped here if none of them is FAST, and no gone notice drops it. -/
def acknowledge (s : Supervisor) : Supervisor :=
  let r := listUnlisted s.present (s.causes.filter (fun c => c.present))
  let unlisted := r.1.filter (fun c => !c.listed)
  if unlisted.isEmpty then
    { s with causes := r.2, present := r.1, overflow := false, overflowCount := 0, fastNote := false }
  else { s with causes := r.2, present := r.1, fastNote := s.fastNote && unlisted.any (fun c => c.category == .fast) }

/-! ## The summit's stops and the link (R130, R134) -/

/-- SUMMIT_STOP and SUMMIT_FAST_STOP follow the summit's indications: reported when the indication comes to stand, gone when it ceases
(R130). -/
def refreshSummitStops (p : Part) : Part :=
  let up := p.line.state == .up
  let svc := up && summitBit p.line 1
  let fast := up && summitBit p.line 2
  let wasSvc := p.sup.stopServiceStands
  let wasFast := p.sup.stopFastStands
  let p := modSup (fun s => { s with stopServiceStands := svc, stopFastStands := fast }) p
  let p := if svc && !wasSvc then report .summitStop 0 .service true p else if !svc && wasSvc then gone .summitStop 0 p else p
  if fast && !wasFast then report .summitFastStop 0 .fast true p else if !fast && wasFast then gone .summitFastStop 0 p else p

/-- The link grace starts when the line leaves UP in STARTING or RUN, with the active profile's link grace; with a grace of 0 LINK_LOST
is reported in the same event (R134). -/
def startGrace (p : Part) : Part :=
  if p.sup.mode.isRunning then
    let g := (activeProfile p.sup).linkGrace
    if g == 0 then report .linkLost 0 .service true p
    else modSup (fun s => { s with graceTimer := some (p.clock.now + ms g) }) p
  else p

/-- A change of line state handed to the Supervisor: the LINK cap, the link grace and the summit's stops (R130, R131, R134). -/
def supLineChange (wasUp : Bool) (p : Part) : Part :=
  let isUp := p.line.state == .up
  let p := setLinkCap (!isUp) p
  let p :=
    if wasUp && !isUp then startGrace p
    else if isUp && !wasUp then gone .linkLost 0 (modSup (fun s => { s with graceTimer := none }) p)
    else p
  refreshSummitStops p

/-! ## Start conditions (R118, R119) -/

/-- Conditions 2 to 5 of R118 in their order: the number of the first that does not hold. -/
def startConditionFails (p : Part) : Option Nat :=
  if p.line.state != .up then some 2
  else if !summitReady p.line then some 3
  else if p.rope.view.invalid then some 4
  else if !converterHealthy p.sensors then some 5
  else none

/-- The number of the first of the five conditions of R118 that does not hold. -/
def prepareConditionFails (p : Part) : Option Nat := if causesStand p.sup then some 1 else startConditionFails p

/-- A publication of the Rope Measurement Unit's results: in STARTING a valid speed of 50 mm/s or more moves the mode to RUN (R119). -/
def startComplete (p : Part) : Part :=
  if p.sup.mode == .starting && !p.rope.view.invalid && 50 ≤ p.rope.view.v then changeMode .run p else p

end Sys2Proof.Machine
end

