-- ==== Sys2Proof/Machine/RopeUnit.lean ====
section
/-! DEFINITION. The Rope Measurement Unit: one sample's computation in its stages, and what it reports and publishes (chapter 2). -/

namespace Sys2Proof.Machine

/-! ## Encoders (R25 to R27) -/

/-- A change of one phase is in the order of the running direction. DESIGN CHOICE (log entry 55): A leads B, so that the levels of A and B
run 00, 10, 11, 01, 00; section 2.1 speaks of "the order that corresponds to the rope's running direction" and does not name it. -/
def advances (old new : Phases) : Bool := if old.a == new.a then new.a == new.b else new.a != new.b

/-- One observation of the decoder (R25): +1 or -1 for the change of one phase, a quadrature error noted where both have changed. -/
def Encoder.observe (e : Encoder) (x : Phases) : Encoder :=
  if x == e.phases then e
  else if x.a != e.phases.a && x.b != e.phases.b then { e with phases := x, errorNoted := true }
  else { e with phases := x, position := e.position + (if advances e.phases x then 1 else -1) }

/-- The decoder over one interval up to the sample (R25). "The first sample after each reset takes the phase levels as its starting
reference and gives d = 0 with no error". -/
def Encoder.watch (started : Bool) (i : EncoderInterval) (e : Encoder) : Encoder :=
  if started then (i.between ++ [i.atSample]).foldl Encoder.observe e
  else { e with phases := i.atSample, taken := e.position, errorNoted := false }

/-- The signed change d of the running position since the previous sample (R25). -/
def Encoder.delta (e : Encoder) : Int := e.position - e.taken

/-- "A sample of one encoder is faulty when its |d| is greater than 2047, or when a quadrature error was noted in its interval" (R26). -/
def Encoder.sampleFaulty (e : Encoder) : Bool := 2047 < e.delta.natAbs || e.errorNoted

/-- One encoder after a sample: its position taken and the error note cleared (R25), the tally of faulty samples (R26), the last delta as
read, and its health (the table of R27). -/
def settleEncoder (e : Encoder) : Encoder :=
  let faulty := e.sampleFaulty
  let e := { e with
    taken := e.position, errorNoted := false, lastDelta := e.delta, tally := if faulty then count16 e.tally else e.tally }
  if e.faulted then
    if faulty then { e with cleanRun := 0 }
    else if e.cleanRun + 1 < 100 then { e with cleanRun := e.cleanRun + 1 }
    else { e with faulted := false, cleanRun := 0 }
  else if faulty then
    if e.faultRun + 1 < 3 then { e with faultRun := e.faultRun + 1 }
    else { e with faulted := true, faultRun := 0, cleanRun := 0 }
  else { e with faultRun := 0 }

/-- The delta used for a sample: 0 for a faulty one (R26). -/
def Encoder.usedDelta (e : Encoder) : Int := if e.sampleFaulty then 0 else e.delta

/-- The ENCODER_FAULT situation by the health of the two encoders: its source, 0 where there is none (R30). -/
def faultSituation (f1 f2 : Bool) : Nat := if f1 && f2 then 3 else if f1 then 1 else if f2 then 2 else 0

/-- The notices of a change of situation: the first ends and the second is reported (R30). -/
def encoderNotices (before after : Nat) : List Notice :=
  if before == after then [] else
    (if before == 0 then [] else [.gone .encoderFault before]) ++
    (if after == 0 then [] else [.report .encoderFault after (if after == 3 then .fast else .service) true])

/-! ## Source and speed (R28 to R33) -/

/-- The source encoder (the table of R29). -/
def chooseSource (f1 f2 : Bool) : Source := if !f1 then .e1 else if !f2 then .e2 else .none

/-- The speed of eight clean increments: their sum divided by 80, truncated toward zero, in mm/s (R31), before the clamp of R32. -/
def windowSpeed (w : List Increment) : Int := Int.tdiv ((w.map (fun i => i.um)).sum) 80

/-- V, HELD and CLAMPED after a sample whose window is `w` (R31 to R33). HELD is shown whenever an increment of the window is faulty, while
the speed is INVALID too, when each sample enters a faulty zero. DEDUCED (log entry 57): V is then 0, which is no clamped value, and CLAMPED is
not shown. -/
def settleSpeed (invalid : Bool) (w : List Increment) (r : Rope) : Rope :=
  let held := w.any (fun i => i.faulty)
  if invalid then { r with v := 0, held := held, clamped := false }
  else if held then { r with held := true }
  else
    let v := windowSpeed w
    let c := clampInt (-Config.speedMax) Config.speedMax v
    { r with v := c, held := false, clamped := c != v }

/-- The launch gap accumulator after a source increment, kept from 0 to 2,000,000,000 µm (R35). -/
def settleGap (inc : Int) (acc : Nat) : Nat := min Config.gapMax ((acc : Int) + inc).toNat

/-! ## Slip (R37, R38) -/

/-- A slip window takes an increment and keeps the last 100. -/
def pushSlip (inc : Int) (w : List Int) : List Int := (inc :: w).take 100

/-- The fill count after a sample (R37). -/
def settleFill (anyFaulted anyReturned : Bool) (n : Nat) : Nat := if anyFaulted || anyReturned then 0 else countTo 100 n

/-- |Σi1 − Σi2| in µm. -/
def slipMicrons (r : Rope) : Nat := (r.slip1.sum - r.slip2.sum).natAbs

/-! ## Runs (R39, R41, R42) -/

/-- The C_eff after the ramp of one sample (R40). -/
def rampCeiling (step c ceff : Nat) : Nat := if c < ceff then max c (ceff - step) else ceff

/-- The notices of a run that reports at `n`, with the condition present while the run continues (R39, R41). -/
def runNotices (k : CauseKind) (n before after : Nat) : List Notice :=
  if before < n && n ≤ after then [.report k 0 .fast true]
  else if n ≤ before && after == 0 then [.gone k 0]
  else []

/-! ## One sample -/

/-- What one sample of the unit leaves: its state, its notices in the order of its stages, and whether it declares standstill. -/
structure RopeResult where
  rope : Rope
  notices : List Notice
  standstill : Bool
  deriving DecidableEq, Repr

/-- Standstill by speed (R42): the run, and whether standstill stands declared. -/
def settleStandstill (invalid : Bool) (v : Int) (run : Nat) (declared : Bool) : Nat × Bool :=
  if invalid then (0, declared)
  else if v.natAbs < 20 then
    let n := countTo 100 run
    (n, declared || (run < 100 && n == 100))
  else (0, false)

/-- Standstill by time (R43): in a stopping mode with the speed INVALID, 30 s after the noted entry. -/
def standstillByTimeDue (invalid : Bool) (m : Mode) (entry : Option Time) (now : Time) : Bool :=
  invalid && m.isStopping && (match entry with
    | none => false
    | some t => reached now (t + ms 30000))

/-- A delta as the view shows it: the nearer end of −32,768 to 32,767 (R44). -/
def shownDelta (d : Int) : Int := clampInt (-32768) 32767 d

/-- The view written at the end of a sample (R44). -/
def ropeViewOf (r : Rope) (invalid slipMade : Bool) (now : Time) : RopeView :=
  { v := r.v
    invalid := invalid
    substitute := r.source == .e2
    clamped := r.clamped
    held := r.held
    standstill := r.standstill
    slipMade := slipMade
    source := r.source
    e1Faulted := r.e1.faulted
    e2Faulted := r.e2.faulted
    standRun := r.standRun
    e1Delta := shownDelta r.e1.lastDelta
    e2Delta := shownDelta r.e2.lastDelta
    e1Tally := r.e1.tally
    e2Tally := r.e2.tally
    ceff := r.ceff
    gap := r.gapAcc / 1000
    slipDiff := min 2000000 (slipMicrons r / 1000)
    rollRun := r.rollRun
    overRun := r.overRun
    sampleTime := now }

/-- The computation of one sample, in its stages: health, source, speed, launch gap, slip, rollback, C_eff and overspeed, standstill,
publication (R25 to R44). `c` is the speed ceiling and `m` the mode that stand when the sample is taken. -/
def ropeSample (prof : Profile) (c : Nat) (m : Mode) (now : Time) (i1 i2 : EncoderInterval) (r : Rope) : RopeResult :=
  let seen1 := r.e1.watch r.started i1
  let seen2 := r.e2.watch r.started i2
  let faulty1 := seen1.sampleFaulty
  let faulty2 := seen2.sampleFaulty
  let e1 := settleEncoder seen1
  let e2 := settleEncoder seen2
  let situation := encoderNotices (faultSituation r.e1.faulted r.e2.faulted) (faultSituation e1.faulted e2.faulted)
  let inc1 := seen1.usedDelta * (prof.l1 : Int)
  let inc2 := seen2.usedDelta * (prof.l2 : Int)
  let source := chooseSource e1.faulted e2.faulted
  let invalid := source == .none
  let inc : Increment :=
    match source with
    | .e1 => { um := inc1, faulty := faulty1 }
    | .e2 => { um := inc2, faulty := faulty2 }
    | .none => { um := 0, faulty := true }
  let w := (inc :: r.window).take 8
  let anyFaulty := faulty1 || faulty2
  let s := settleSpeed invalid w { r with
    started := true, e1 := e1, e2 := e2, source := source, window := w
    gapAcc := settleGap inc.um r.gapAcc
    slip1 := pushSlip (if anyFaulty then 0 else inc1) r.slip1
    slip2 := pushSlip (if anyFaulty then 0 else inc2) r.slip2
    slipFill := settleFill (e1.faulted || e2.faulted) ((r.e1.faulted && !e1.faulted) || (r.e2.faulted && !e2.faulted)) r.slipFill }
  let slipMade := !e1.faulted && !e2.faulted && !invalid && 500 ≤ s.v.natAbs && s.slipFill == 100
  let slip := slipMade && prof.slipLimit * 1000 < slipMicrons s
  let slipNotices : List Notice :=
    if slip && !r.slipPresent then [.report .ropeSlip 0 .fast true]
    else if !slip && r.slipPresent then [.gone .ropeSlip 0] else []
  let roll := if !invalid && s.v < -(prof.rollbackThreshold : Int) then count16 r.rollRun else 0
  let ceff := rampCeiling prof.decelStep c r.ceff
  let overs := if !invalid && (ceff : Int) + (prof.overspeedMargin : Int) < s.v then count16 r.overRun else 0
  let stand := settleStandstill invalid s.v r.standRun r.standstill
  let declared := stand.2 || standstillByTimeDue invalid m r.stopEntry now
  let t := { s with
    slipPresent := slip, rollRun := roll, ceff := ceff, overRun := overs, standRun := stand.1, standstill := declared }
  { rope := { t with view := ropeViewOf t invalid slipMade now }
    notices := situation ++ slipNotices ++ runNotices .rollback 5 r.rollRun roll ++ runNotices .overspeed 50 r.overRun overs
    standstill := declared && !r.standstill }

/-- One sample of the unit on the part: the computation, then its notices in stage order, then the publication to the Supervisor and
to Launch Control, then the standstill event (R34, log entry 8). DESIGN CHOICE (log entry 85): the computation is stored before its notices are
delivered, so that a stop which one of them asks for finds the standstill of this sample, not the last one published. -/
def ropeTick (i1 i2 : EncoderInterval) (p : Part) : Part :=
  let res := ropeSample (activeProfile p.sup) p.sup.ceiling p.sup.mode p.clock.now i1 i2 p.rope
  let p := { p with rope := res.rope, launch := { p.launch with gapRestarted := false } }
  let p := callLaunch (startComplete (res.notices.foldl deliver p))
  if res.standstill then standstillEvent p else p

/-- A D5 passage restarts the launch gap (R36). -/
def restartGap (p : Part) : Part := { p with rope := { p.rope with gapAcc := 0 } }

end Sys2Proof.Machine
end

