-- ==== Sys2Proof/Machine/SensorUnit.lean ====
section
/-! DEFINITION. The Sensor Scanner and the Grip Test Unit: switch channels, the converter scan, tension, wind and the grip test
(chapter 3). -/

namespace Sys2Proof.Machine

/-! ## Switch channels (R46 to R49) -/

/-- Change one switch channel. -/
def modSwitch (i : Fin 8) (f : Switch → Switch) (p : Part) : Part :=
  { p with sensors := { p.sensors with switches := modTable p.sensors.switches i f } }

/-- "A channel of kind ROPE_POSITION or BRITTLE_LOOP is in fault while its debounced value is OPEN" (R47). -/
def Switch.inFault (s : Switch) : Bool := s.kind != .general && s.value == some false

/-- The cause a channel has present: its kind and category, where it is in fault and its category is not NONE (R47). -/
def Switch.condition (s : Switch) : Option (CauseKind × Category) :=
  if s.inFault then
    match s.category.toCategory with
    | none => none
    | some cat => some (if s.kind == .ropePosition then .ropePosition else .brittleLoop, cat)
  else none

/-- Report the condition a channel has entered, if any, with the channel number 1 to 8 as source (R47). -/
def reportSwitch (i : Fin 8) (c : Option (CauseKind × Category)) (p : Part) : Part :=
  match c with
  | none => p
  | some (k, cat) => report k (i.val + 1) cat true p

/-- End the condition a channel has left, if any (R47). -/
def endSwitch (i : Fin 8) (c : Option (CauseKind × Category)) (p : Part) : Part :=
  match c with
  | none => p
  | some (k, _) => gone k (i.val + 1) p

/-- A change of a switch channel's debounced value: counted, announced, and its fault entered or left (R46 to R48). -/
def switchChange (i : Fin 8) (p : Part) : Part :=
  let old := p.sensors.switches.get i
  let p := attend .sensor (modSwitch i (fun s => { s with value := s.input.settled, changes := count16 s.changes }) p)
  let new := p.sensors.switches.get i
  if old.inFault == new.inFault then p
  else reportSwitch i new.condition (endSwitch i old.condition p)

/-- SENSOR_CONFIGURE is taken (R49): the old condition ends, the channel is judged afresh under the new configuration, and SENSOR is
set. -/
def configureSwitch (i : Fin 8) (k : SwitchKind) (cat : FaultCategory) (p : Part) : Part :=
  let old := p.sensors.switches.get i
  let p := modSwitch i (fun s => { s with kind := k, category := if k == .general then .none else cat }) (endSwitch i old.condition p)
  attend .sensor (reportSwitch i (p.sensors.switches.get i).condition p)

/-! ## The grip test (R56 to R61) -/

/-- The force of a code, in N: less the zero, times the gain in mN per code, divided by 1000 toward zero, kept from 0 to 65535 (R58). -/
def gripForce (zeroCode gain code : Nat) : Nat :=
  (clampInt 0 65535 (Int.tdiv (((code : Int) - (zeroCode : Int)) * (gain : Int)) 1000)).toNat

/-- The result of a window that closes, in the order of checks of R59. `doubled` says that a second D6 passage closes it. -/
def gripResult (w : GripWindow) (doubled : Bool) : GripResult :=
  if w.codes < 4 || w.faultSeen || doubled then .incomplete
  else
    match w.forces with
    | none => .incomplete
    | some (lo, hi) => if w.gripMin ≤ lo && hi ≤ w.gripMax then .pass else .fail

/-- The counts of closes by result, each stopping at 65535 (R61). -/
def countGrip (r : GripResult) (g : Grip) : Grip :=
  match r with
  | .pass => { g with passes := count16 g.passes }
  | .fail => { g with fails := count16 g.fails }
  | .incomplete => { g with incompletes := count16 g.incompletes }
  | .none => g

/-- An OPEN window closes: its result is decided, reported where it is not PASS, written to the cabin's record and to the view, and GRIP
is set (R59). -/
def closeGrip (doubled : Bool) (p : Part) : Part :=
  match p.grip.window with
  | none => p
  | some w =>
    let r := gripResult w doubled
    let lo := (w.forces.getD (0, 0)).1
    let hi := (w.forces.getD (0, 0)).2
    let p := { p with grip := countGrip r { p.grip with
      window := none
      last := { result := r, cabin := w.cabin, codes := w.codes, closed := p.clock.now, forceMin := lo, forceMax := hi } } }
    let p := modCabin w.cabin (fun c => { c with grip := r, gripMin := lo, gripMax := hi }) p
    let p := attend .grip p
    match r with
    | .fail => report .gripFail w.cabin .fast false p
    | .incomplete => report .gripIncomplete w.cabin .service false p
    | _ => p

/-- A passage at D6 opens the window for the cabin it has moved into S6, after closing an open one as INCOMPLETE; the profile's grip
fields are copied (R56). -/
def openGrip (k : Nat) (passed : Time) (p : Part) : Part :=
  let p := closeGrip true p
  let prof := activeProfile p.sup
  { p with grip := { p.grip with window := some {
      cabin := k, opened := passed, faultSeen := converterFaultPresent p.sensors
      zero := prof.gripZero, gain := prof.gripGain, gripMin := prof.gripMin, gripMax := prof.gripMax, target := prof.gripSamples } } }

/-- A passage at D7 closes an OPEN window of the same cabin number, 0 counting as equal to 0 (R60). -/
def gripExit (k : Nat) (p : Part) : Part :=
  match p.grip.window with
  | none => p
  | some w => if w.cabin == k then closeGrip false p else p

/-- The least and greatest force with one more force taken. -/
def widen (f : Nat) (forces : Option (Nat × Nat)) : Option (Nat × Nat) :=
  match forces with
  | none => some (f, f)
  | some (lo, hi) => some (min lo f, max hi f)

/-- One counted sample of an open window: a fresh code is taken as a force, and a present CONVERTER_FAULT is noted (R57). -/
def countGripSample (fresh fault : Bool) (code : Nat) (w : GripWindow) : GripWindow :=
  let w := { w with samples := w.samples + 1, faultSeen := w.faultSeen || fault }
  if fresh then { w with codes := w.codes + 1, forces := widen (gripForce w.zero w.gain code) w.forces } else w

/-- The grip test at a converter result (R57): the sample is counted where its Time Base value is later than the opening, and the window
closes when the samples counted reach grip samples. -/
def gripSample (p : Part) : Part :=
  match p.grip.window with
  | none => p
  | some w =>
    if earlier w.opened p.clock.now then
      let w := countGripSample (p.sensors.mark == .fresh) (converterFaultPresent p.sensors) (p.sensors.codes.get 8).toNat w
      let p := { p with grip := { p.grip with window := some w } }
      if w.target ≤ w.samples then closeGrip false p else p
    else p

/-! ## The converter scan (R51 to R55) -/

/-- The scan is good when all eleven answers are well formed (R51). -/
def scanGood (a : ScanAnswers) : Bool := a.toList.all (fun c => c.isSome)

/-- The Scanner's codes, mark and counts after a scan (R51, R52). -/
def scanSensors (a : ScanAnswers) (s : Sensors) : Sensors :=
  if scanGood a then { s with codes := mapTable (fun c => c.getD 0) a, mark := .fresh, everGood := true, failRun := 0 }
  else { s with
    mark := if s.mark == .notRead then .notRead else .held
    failRun := countTo 3 s.failRun
    failTally := count16 s.failTally }

/-- The tension state after a check with code `c` (the table of R54). DESIGN CHOICE (log entry 58): with tension low above tension high a code
may meet both rows of a condition that is gone; "below" is tested first. -/
def tensionAfter (prof : Profile) (c : Nat) (t : Tension) : Tension :=
  let inside := prof.tensionLow + prof.tensionHysteresis ≤ c && c + prof.tensionHysteresis ≤ prof.tensionHigh
  match t with
  | .gone => if c < prof.tensionLow then .below else if prof.tensionHigh < c then .above else .gone
  | .below => if inside then .gone else if prof.tensionHigh < c then .above else .below
  | .above => if inside then .gone else if c < prof.tensionLow then .below else .above

/-- The source by which a tension state is reported: 1 below the band, 2 above it, none when gone (R54). -/
def Tension.source (t : Tension) : Option Nat :=
  match t with
  | .gone => none
  | .below => some 1
  | .above => some 2

/-- The tension check at a fresh C9 (R54): every change sets SENSOR, ends the old source's condition and reports the new one's. -/
def tensionCheck (p : Part) : Part :=
  let old := p.sensors.tension
  let new := tensionAfter (activeProfile p.sup) (p.sensors.codes.get 9).toNat old
  if new == old then p else
  let p := attend .sensor { p with sensors := { p.sensors with tension := new } }
  let p :=
    match old.source with
    | none => p
    | some src => gone .tensionLimit src p
  match new.source with
  | none => p
  | some src => report .tensionLimit src .service true p

/-- The local wind state after a check with code `c` (R55). -/
def windAfter (prof : Profile) (c : Nat) (high : Bool) : Bool :=
  if high then !((c : Int) < (prof.windThreshold : Int) - (prof.windHysteresis : Int)) else prof.windThreshold ≤ c

/-- The wind check at a fresh C10 (R55): every change sets SENSOR and is handed to the Supervisor. -/
def windCheck (p : Part) : Part :=
  let code := p.sensors.codes.get 10
  let new := windAfter (activeProfile p.sup) code.toNat p.sensors.windHigh
  let changed := new != p.sensors.windHigh
  let p := { p with sensors := { p.sensors with windHigh := new, lastWind := code } }
  if changed then refreshWindCap (attend .sensor p) else p

/-- One converter scan (R51 to R55, R57): the codes, CONVERTER_FAULT reported at the third failure in a row or ended at a good scan, the
tension and wind checks on fresh codes, and the grip test's sample. DESIGN CHOICE (log entry 59): the tension check comes first, then the
wind check, then the grip test. -/
def scanTick (a : ScanAnswers) (p : Part) : Part :=
  let before := p.sensors
  let p := { p with sensors := scanSensors a before, clock := { p.clock with scanTaken := true } }
  let p :=
    if converterFaultPresent p.sensors && !converterFaultPresent before then
      report .converterFault 0 .service true (attend .sensor p)
    else if converterFaultPresent before && !converterFaultPresent p.sensors then gone .converterFault 0 (attend .sensor p)
    else p
  let p := if scanGood a then windCheck (tensionCheck p) else p
  gripSample p

end Sys2Proof.Machine
end

