-- ==== Sys2Proof/Machine/DoorUnit.lean ====
section
/-! DEFINITION. The Door Drive Unit's channels: operations, motions, obstruction, halts, faults, and the handing back of outcomes to their
owners (chapter 5, and R111 for the outcomes of the Door Sequencer's actions). Starts are granted in Machine/Arbiter.lean. -/

namespace Sys2Proof.Machine

/-- One channel. -/
def channel (p : Part) (n : ChannelNo) : Channel := p.doors.channels.get n

/-- Change one channel. -/
def modChannel (n : ChannelNo) (f : Channel → Channel) (p : Part) : Part :=
  { p with doors := { p.doors with channels := modTable p.doors.channels n f } }

/-- The other end. -/
def End.other (e : End) : End :=
  match e with
  | .a => .b
  | .b => .a

/-- "The channel's open end is the end that is not its closing end" (R79). -/
def DoorConfig.openEnd (c : DoorConfig) : End := c.closingEnd.other

/-- A gate with a lock at its shut end A (R79, R86). -/
def DoorConfig.locking (c : DoorConfig) : Bool := c.kind == .platformGate && c.lock

/-- The debounced limit of an end. -/
def Channel.limit (c : Channel) (e : End) : Bool :=
  match e with
  | .a => c.limA.high
  | .b => c.limB.high

/-- Whether a channel is at rest: AT_A, AT_B, UNKNOWN, HALTED or FAULT (R79). -/
def DoorState.atRest (s : DoorState) : Bool :=
  match s with
  | .atA => true
  | .atB => true
  | .unknown => true
  | .halted => true
  | .fault => true
  | _ => false

/-- The state of standing at an end. -/
def End.atState (e : End) : DoorState :=
  match e with
  | .a => .atA
  | .b => .atB

/-- The state of moving to an end. -/
def End.movingState (e : End) : DoorState :=
  match e with
  | .a => .movingToA
  | .b => .movingToB

/-! ## Outcomes of the Door Sequencer's actions (R100, R111) -/

/-- The outcome of an operation, as its owner is told it (R98, R100). -/
inductive DoorOutcome where
  | notTaken
  | done
  | reachedB
  | gaveUp
  | failed (reason : DoorReason)
  | interrupted
  deriving DecidableEq, Repr

/-- "Each outcome raises its own count in the pending action view, stopping at 65535" (R111). -/
def countOutcome (o : DoorOutcome) (s : Sequencer) : Sequencer :=
  match o with
  | .notTaken => { s with notTaken := count16 s.notTaken }
  | .done => { s with dones := count16 s.dones }
  | .reachedB => { s with reachedB := count16 s.reachedB }
  | .gaveUp => { s with gaveUp := count16 s.gaveUp }
  | .failed _ => { s with failed := count16 s.failed }
  | .interrupted => { s with interrupted := count16 s.interrupted }

/-- The door state that an outcome of a cabin action gives the bound cabin, by the operator's kind (the table of R111). DONE
is not handed back for a cabin action, which asks for end B and ends there in REACHED_B (R100, log entry 62): no run reaches its arm. -/
def doorAfterOutcome (k : DoorKind) (o : DoorOutcome) : CabinDoor :=
  match o with
  | .notTaken => .unknown
  | .done => .unknown
  | .reachedB => if k == .cabinOpener then .opened else .closed
  | .gaveUp => .obstructed
  | .failed _ => .unknown
  | .interrupted => .unknown

/-- The outcome of an action that is not late is written to the bound cabin, and announced where it is UNKNOWN or OBSTRUCTED (R111). -/
def writeOutcome (k : DoorKind) (o : DoorOutcome) (cab : Nat) (p : Part) : Part :=
  let d := doorAfterOutcome k o
  let p := setDoor cab d p
  if d == .unknown || d == .obstructed then attend .door p else p

/-- The Door Drive Unit hands the outcome of the action in flight on a channel back to the Door Sequencer: it is counted, the record in
flight ends, and a cabin action that is not late sets the door state of a bound cabin 1 to 128 (R110, R111). -/
def handOutcome (n : ChannelNo) (o : DoorOutcome) (p : Part) : Part :=
  match p.sequencer.flights.get n with
  | none => p
  | some f =>
    let p := { p with sequencer := countOutcome o { p.sequencer with flights := modTable p.sequencer.flights n (fun _ => none) } }
    if f.isCabin && !f.late && isCabin f.cabin then writeOutcome (channel p n).config.kind o f.cabin p else p

/-! ## Telling an owner (R98, R100) -/

/-- The answer of a DOOR_MOVE by the outcome of its operation (the table of R98). -/
def moveAnswer (o : DoorOutcome) : Result × Nat :=
  match o with
  | .notTaken => (.failed, 0)
  | .done => (.ok, 0)
  | .reachedB => (.ok, 0)
  | .gaveUp => (.failed, 3)
  | .failed r => (.failed, r.code)
  | .interrupted => (.superseded, 0)

/-- The owner of a channel is told the outcome of its operation; the channel then has no owner. The automatic return has nobody to tell. -/
def tellOwner (n : ChannelNo) (o : DoorOutcome) (p : Part) : Part :=
  let owner := (channel p n).owner
  let p := modChannel n (fun c => { c with owner := .none }) p
  match owner with
  | .none => p
  | .automatic => p
  | .order i => answer i (moveAnswer o).1 (moveAnswer o).2 p
  | .action => handOutcome n o p

/-- The operation of a channel ends: its owner is told, and no target or motion is left. -/
def endOperation (n : ChannelNo) (o : DoorOutcome) (p : Part) : Part :=
  modChannel n (fun c => { c with target := none, waits := .none }) (tellOwner n o p)

/-! ## The start queue (R95) -/

/-- An entry for a channel joins the tail of the start queue, and the arbiter judges the queue (R95, R96). -/
def joinQueue (n : ChannelNo) (p : Part) : Part :=
  callArbiter { p with doors := { p.doors with queue := p.doors.queue ++ [.door n] } }

/-- A channel's entry leaves the start queue (R95). -/
def leaveQueue (n : ChannelNo) (p : Part) : Part :=
  { p with doors := { p.doors with queue := p.doors.queue.filter (fun r => r != .door n) } }

/-! ## Entering states -/

/-- Motor and lock release de-energised. -/
def stopOutputs (n : ChannelNo) (p : Part) : Part := modChannel n (fun c => { c with motor := none, lockRel := false }) p

/-- "The Door Drive Unit keeps DOOR in the cap cause set while at least one channel is in FAULT with cap on fault yes" (R93). -/
def refreshDoorCap (p : Part) : Part :=
  setDoorCap (p.doors.channels.toList.any (fun c => c.state == .fault && c.config.capOnFault)) p

/-- A channel takes a state of rest. Entering AT_A is an event for the Door Sequencer's waiting actions, whatever the channel's kind
(R108). -/
def restIn (n : ChannelNo) (st : DoorState) (p : Part) : Part :=
  let old := (channel p n).state
  let p := modChannel n (fun c => { c with state := st }) p
  if st == .atA && old != .atA then callSequencer p else p

/-- A channel stands at an end. -/
def standAt (n : ChannelNo) (e : End) (p : Part) : Part := restIn n e.atState p

/-- A channel enters FAULT (R93): motor and lock release off, its start queue entry removed, the reason recorded, the fault counted and
announced, the owner told, DOOR_FAULT reported by the configured category, and the DOOR cap kept. -/
def enterFault (n : ChannelNo) (why : DoorReason) (p : Part) : Part :=
  let p := leaveQueue n (stopOutputs n p)
  let p := modChannel n (fun c => { c with state := .fault, lastReason := why, faults := count16 c.faults }) p
  let p := attend .door (endOperation n (.failed why) p)
  let p :=
    match (channel p n).config.category.toCategory with
    | none => p
    | some cat => report .doorFault n.val cat true p
  refreshDoorCap p

/-- A channel enters WAITING_START for a motion and asks the arbiter for a start (R84). -/
def enterWaiting (n : ChannelNo) (m : Motion) (p : Part) : Part :=
  joinQueue n (modChannel n (fun c => { c with state := .waitingStart, waits := m, motor := none }) p)

/-- The operation is done: the channel stands at its target and the owner is told (R82). -/
def finishAt (n : ChannelNo) (e : End) (o : DoorOutcome) (p : Part) : Part := endOperation n o (standAt n e p)

/-- LOCKING (R86): the time is noted; the channel is AT_A at once where the lock is already sensed. -/
def enterLocking (n : ChannelNo) (p : Part) : Part :=
  let p := modChannel n (fun c => { c with state := .locking, waits := .none, motor := none, lockRel := false, since := p.clock.now }) p
  if (channel p n).lockSns.high then finishAt n .a .done p else p

/-- UNLOCKING (R83): LOCKREL is energised and the time noted; the channel waits for a move toward B at once where the lock is already
released. -/
def enterUnlocking (n : ChannelNo) (p : Part) : Part :=
  let p := modChannel n (fun c => { c with state := .unlocking, lockRel := true, since := p.clock.now }) p
  if (channel p n).lockSns.high then p else enterWaiting n .move p

/-- The automatic return of a cabin operator (R85): a new operation toward A with no owner to tell. -/
def automaticReturn (n : ChannelNo) (p : Part) : Part :=
  enterWaiting n .move (modChannel n (fun c => { c with state := .atB, target := some .a, owner := .automatic, retriesUsed := 0 }) p)

/-- A move arrives at its target end (R85): a locking gate at A enters LOCKING; a cabin operator at B hands its arrival on and takes the
automatic return; any other channel stands at its target, done. -/
def arriveMove (n : ChannelNo) (e : End) (p : Part) : Part :=
  let p := stopOutputs n p
  let cfg := (channel p n).config
  if cfg.locking && e == .a then enterLocking n p
  else if cfg.kind.isCabin && e == .b then automaticReturn n (endOperation n .reachedB p)
  else finishAt n e .done p

/-- A retry: the retries used rise by one, shown in the progress of an owning order, and the channel waits for a move toward its target
(R89, R98). -/
def retryMove (n : ChannelNo) (p : Part) : Part :=
  let p := modChannel n (fun c => { c with retriesUsed := c.retriesUsed + 1 }) p
  let p :=
    match (channel p n).owner with
    | .order i => setProgress i (channel p n).retriesUsed p
    | _ => p
  enterWaiting n .move p

/-- REOPEN_DWELL (R89): the time is noted; the dwell ends at once where it is 0. -/
def enterDwell (n : ChannelNo) (p : Part) : Part :=
  let p := modChannel n (fun c => { c with state := .reopenDwell, waits := .none, since := p.clock.now }) p
  if (channel p n).config.reopenDwell == 0 then retryMove n p else p

/-- A reversal arrives at the open end (R89): a channel with retries left dwells there; one that gives up faults (a gate) or stands AT_A
with its operation given up (a cabin operator). -/
def arriveReversal (n : ChannelNo) (p : Part) : Part :=
  let p := stopOutputs n p
  let c := channel p n
  if c.retriesUsed < c.config.retries then enterDwell n p
  else if c.config.kind.isCabin then
    attend .door (finishAt n .a .gaveUp (modChannel n (fun c => { c with lastReason := .obstruction }) p))
  else enterFault n .obstruction p

/-- The end toward which the motion waited for, or under way, heads. -/
def headingOf (c : Channel) : End :=
  match c.waits with
  | .reversal => c.config.openEnd
  | _ => c.target.getD .a

/-- The motion waited for begins at its grant (R84): the grant time is noted, the start counted, the output toward the heading energised;
it ends at once where the limit of that end is already active. -/
def startMotion (n : ChannelNo) (p : Part) : Part :=
  let c := channel p n
  let heading := headingOf c
  let reversal := c.waits == .reversal
  let p := modChannel n (fun c => { c with
    state := if reversal then .reversing else heading.movingState
    waits := .none, lastGrant := p.clock.now, starts := count16 c.starts, obstructionRun := 0, motor := some heading }) p
  if (channel p n).limit heading then
    if reversal then arriveReversal n p else arriveMove n heading p
  else p

/-! ## Operations (R82, R90) -/

/-- A resting channel takes an operation with target `t` (the table of R82). -/
def operateFromRest (n : ChannelNo) (t : End) (p : Part) : Part :=
  let c := channel p n
  if c.state == t.atState then finishAt n t .done p
  else if c.state == .atA && c.config.locking then enterUnlocking n p
  else enterWaiting n .move p

/-- A motion toward the other end is ended by a takeover (R90): arrival where the limit of the target is active, otherwise WAITING_START
at the tail of the queue. -/
def turnBack (n : ChannelNo) (t : End) (p : Part) : Part :=
  let p := stopOutputs n p
  if (channel p n).limit t then arriveMove n t p else enterWaiting n .move p

/-- A takeover in WAITING_START (R90): where the limit of the target is active the entry leaves the queue and the channel arrives;
otherwise the entry keeps its place and waits for a move toward the target. -/
def retarget (n : ChannelNo) (t : End) (p : Part) : Part :=
  if (channel p n).limit t then arriveMove n t (leaveQueue n p) else modChannel n (fun c => { c with waits := .move }) p

/-- A channel whose operation is under way acts by its state on a takeover with target `t` (the table of R90). -/
def operateTakeover (n : ChannelNo) (t : End) (p : Part) : Part :=
  let c := channel p n
  match c.state with
  | .unlocking => if t == .b then p else enterLocking n p
  | .waitingStart => retarget n t p
  | .movingToA => if t == .a then p else turnBack n t p
  | .movingToB => if t == .b then p else turnBack n t p
  | .reversing =>
    if t == c.config.openEnd then modChannel n (fun c => { c with state := t.movingState }) p else turnBack n t p
  | .reopenDwell => if t == c.config.openEnd then finishAt n t .done p else enterWaiting n .move p
  | .locking => if t == .a then p else enterUnlocking n p
  | _ => operateFromRest n t p

/-- A channel takes a new operation (R82, R90): the owner before is superseded, the retries used become 0 and the owner becomes the one
that asked, given by `claim`, which also makes the record of an action in flight (R107). -/
def takeOperation (n : ChannelNo) (t : End) (claim : Part → Part) (p : Part) : Part :=
  let p := claim (tellOwner n .interrupted p)
  operateTakeover n t (modChannel n (fun c => { c with retriesUsed := 0, target := some t }) p)

/-- A channel takes no operation: its kind is NONE, or it is in FAULT (R81, R93). -/
def Channel.closed (c : Channel) : Bool := c.config.kind == .none || c.state == .fault

/-! ## Halts (R91) -/

/-- The state a halted channel takes from its limits (R91). -/
def haltedState (a b : Bool) : DoorState := if a && !b then .atA else if b && !a then .atB else .halted

/-- A channel whose owner has been told is halted (R91): the operation ends, with its target; the channel settles by its limits, and in
LOCKING it stays, with no owner. -/
def haltChannel (n : ChannelNo) (p : Part) : Part :=
  let c := channel p n
  if c.state.atRest then p
  else
    let p := modChannel n (fun c => { c with target := none, waits := .none }) p
    if c.state == .locking then p
    else restIn n (haltedState c.limA.high c.limB.high) (leaveQueue n (stopOutputs n p))

/-! ## One step of a channel (R78) -/

/-- The debounced inputs of a channel after a sample; at the first sample after a reset the raw values are taken at once (R78). -/
def debounceDoor (started : Bool) (raw : Bool) (d : Debounce) : Debounce :=
  if started then d.sample raw else { last := some raw, settled := some raw }

/-- A channel takes the inputs of a sample (R78). -/
def sampleChannel (n : ChannelNo) (x : ChannelInputs) (p : Part) : Part :=
  modChannel n (fun c => { c with
    started := true
    limA := debounceDoor c.started x.limA c.limA
    limB := debounceDoor c.started x.limB c.limB
    lockSns := debounceDoor c.started x.lockSns c.lockSns }) p

/-- The state that the limits of a channel of kind NONE show (R81). -/
def noneState (a b : Bool) : DoorState := if a && !b then .atA else if b && !a then .atB else .unknown

/-- The door has left its end without a command (R92): UNKNOWN with reason LEFT_END, announced; an owner in LOCKING is told. -/
def leaveEnd (n : ChannelNo) (p : Part) : Part :=
  attend .door (endOperation n (.failed .leftEnd) (modChannel n (fun c => { c with state := .unknown, lastReason := .leftEnd }) p))

/-- A limit found in UNKNOWN or HALTED (R92): exactly one limit active puts the channel at that end. -/
def findLimit (n : ChannelNo) (p : Part) : Part :=
  let c := channel p n
  if c.limA.high && !c.limB.high then standAt n .a p
  else if c.limB.high && !c.limA.high then standAt n .b p
  else p

/-- LOCKREL is released at the sample at which LIMA is inactive once the motion has started (R83). DESIGN CHOICE (log entry 68): where LIMA has
dropped before the motion is granted, LOCKREL stays on at the grant and is released at the motion's first step. -/
def dropLockRel (n : ChannelNo) (p : Part) : Part :=
  if (channel p n).limA.high then p else modChannel n (fun c => { c with lockRel := false }) p

/-- The limits are judged (R85, R89, R92). DESIGN CHOICE (log entry 60): the limit of its end is judged as it stands at the sample, so that a
channel brought into AT_A, AT_B or LOCKING with that limit inactive already has left its end at its next step. -/
def judgeLimits (n : ChannelNo) (p : Part) : Part :=
  let c := channel p n
  if c.state == .fault then p
  else if c.limA.high && c.limB.high then enterFault n .bothLimits p
  else
    match c.state with
    | .atA => if c.limA.high then p else leaveEnd n p
    | .locking => if c.limA.high then p else leaveEnd n p
    | .atB => if c.limB.high then p else leaveEnd n p
    | .unknown => findLimit n p
    | .halted => findLimit n p
    | .movingToA => if c.limA.high then arriveMove n .a p else dropLockRel n p
    | .movingToB => if c.limB.high then arriveMove n .b p else dropLockRel n p
    | .reversing => if c.limit c.config.openEnd then arriveReversal n p else p
    | _ => p

/-- The lock is judged (R83, R86): a sensed lock ends LOCKING, a released one ends UNLOCKING. -/
def judgeLock (n : ChannelNo) (p : Part) : Part :=
  let c := channel p n
  match c.state with
  | .locking => if c.lockSns.high then finishAt n .a .done p else p
  | .unlocking => if c.lockSns.high then p else enterWaiting n .move p
  | _ => p

/-- A motion is under way: the travel limit timer runs (R87). -/
def DoorState.inMotion (s : DoorState) : Bool := s == .movingToA || s == .movingToB || s == .reversing

/-- The lock time has passed in UNLOCKING or LOCKING (R83, R86). -/
def lockTimeOver (c : Channel) (now : Time) : Bool :=
  (c.state == .unlocking || c.state == .locking) && reached now (c.since + ms c.config.lockTime)

/-- The travel limit has passed since the motion's grant (R87). -/
def travelOver (c : Channel) (now : Time) : Bool := c.state.inMotion && reached now (c.lastGrant + ms c.config.travelLimit)

/-- The reopen dwell has passed (R89). -/
def dwellOver (c : Channel) (now : Time) : Bool := c.state == .reopenDwell && reached now (c.since + ms c.config.reopenDwell)

/-- The timers are judged (R83, R86, R87, R89). -/
def judgeTimers (n : ChannelNo) (p : Part) : Part :=
  let c := channel p n
  if travelOver c p.clock.now then enterFault n .travelTimeout p
  else if lockTimeOver c p.clock.now then enterFault n .lockTimeout p
  else if dwellOver c p.clock.now then retryMove n p
  else p

/-- A motion toward the closing end, which watches its current (R88). -/
def watchesCurrent (c : Channel) : Bool := c.state == c.config.closingEnd.movingState && c.owner != .automatic

/-- The obstruction run after a sample (R88): blanked for 100 ms after the grant, held by a held code. -/
def obstructionAfter (c : Channel) (fresh : Bool) (code : Nat) (now : Time) : Nat :=
  if !reached now (c.lastGrant + ms 100) then 0
  else if !fresh then c.obstructionRun
  else if c.config.threshold < code then c.obstructionRun + 1 else 0

/-- The current code of a channel: C0 to C7 (R53). -/
def channelCode (p : Part) (n : ChannelNo) : Nat := (p.sensors.codes.get (n.castLE (by omega))).toNat

/-- The current is judged (R88, R89): a run of 2 is an obstruction, at which the motor stops and the channel waits for a reversal. The run
keeps its 2 until the next grant makes it 0 (R84). -/
def judgeCurrent (n : ChannelNo) (p : Part) : Part :=
  let c := channel p n
  if watchesCurrent c then
    let run := obstructionAfter c (codesFresh p) (channelCode p n) p.clock.now
    let p := modChannel n (fun c => { c with obstructionRun := run }) p
    if 2 ≤ run then enterWaiting n .reversal (stopOutputs n p) else p
  else p

/-- One step of a channel: limits, lock, timers, current, each on the state the one before it has left (R78); a channel of kind NONE
follows its limits (R81). -/
def channelStep (n : ChannelNo) (x : ChannelInputs) (p : Part) : Part :=
  let p := sampleChannel n x { p with clock := { p.clock with stepsTaken := p.clock.stepsTaken.set n true } }
  let c := channel p n
  if c.config.kind == .none then restIn n (noneState c.limA.high c.limB.high) p
  else judgeCurrent n (judgeTimers n (judgeLock n (judgeLimits n p)))

end Sys2Proof.Machine
end

