-- ==== Sys2Proof/Machine/TrackLists.lean ====
section
/-! DEFINITION. The Track Monitor's lists as every block reads them: the station queue, the segments, the line roster, and the summit's
passage notes (chapter 1). -/

namespace Sys2Proof.Machine

/-! ## The station queue (R2, R3) -/

/-- The number of entries in a segment. -/
def segmentCount (p : Part) (seg : Nat) : Nat := p.track.queue.countP (fun e => e.segment == seg)

/-- The oldest entry in a segment. -/
def oldestIn (p : Part) (seg : Nat) : Option QueueEntry := p.track.queue.find? (fun e => e.segment == seg)

/-- The oldest entry in a segment whose entry time is earlier than a passage time (R3). -/
def oldestBefore (p : Part) (seg : Nat) (passed : Time) : Option QueueEntry :=
  p.track.queue.find? (fun e => e.segment == seg && earlier e.entered passed)

/-- The entry that a reference names, while it stands in the queue. -/
def entryOf (p : Part) (ref : Option Nat) : Option QueueEntry :=
  match ref with
  | none => none
  | some serial => p.track.queue.find? (fun e => e.serial == serial)

/-- The entry of cabin `k`. -/
def entryOfCabin (p : Part) (k : Nat) : Option QueueEntry := p.track.queue.find? (fun e => e.cabin == k)

/-- The position of an entry from 1 at the oldest, 0 where the reference is lost (section 11.6). -/
def positionOf (p : Part) (ref : Option Nat) : Nat :=
  match ref with
  | none => 0
  | some serial =>
    match p.track.queue.findIdx? (fun e => e.serial == serial) with
    | none => 0
    | some i => i + 1

/-- Change the station queue. "Every change of the station queue" is an event at which Launch Control judges (R65). -/
def setQueue (q : List QueueEntry) (p : Part) : Part := callLaunch { p with track := { p.track with queue := q } }

/-- Change the entry of a serial. -/
def modEntry (serial : Nat) (f : QueueEntry → QueueEntry) (p : Part) : Part :=
  setQueue (p.track.queue.map (fun e => if e.serial == serial then f e else e)) p

/-- Remove the entry of a serial. -/
def removeEntry (serial : Nat) (p : Part) : Part := setQueue (p.track.queue.filter (fun e => e.serial != serial)) p

/-! ## The line roster (R8, R16) -/

/-- Cabin `k` is in the line roster. -/
def onRoster (p : Part) (k : Nat) : Bool := p.track.roster.any (fun e => e.cabin == k)

/-- Cabin `k` is in the station queue. -/
def inQueue (p : Part) (k : Nat) : Bool := p.track.queue.any (fun e => e.cabin == k)

/-- Change the line roster. -/
def setRoster (r : List RosterEntry) (p : Part) : Part := { p with track := { p.track with roster := r } }

/-- Remove cabin `k` from the roster; the entries ahead of it and behind it stay in order. -/
def leaveRoster (k : Nat) (p : Part) : Part := setRoster (p.track.roster.filter (fun e => e.cabin != k)) p

/-- Append a cabin at the roster's tail with summit mark NONE and 0 seconds; its record takes place ON_LINE and mark NONE (R4, R22). -/
def joinRoster (k : Nat) (p : Part) : Part :=
  modCabin k (fun c => { c with place := .onLine, mark := .none })
    (setRoster (p.track.roster ++ [{ cabin := k }]) p)

/-- The roster after a passage note for cabin `k`: the entries ahead of `k` marked NONE become MISSED, that of `k` PASSED (R16). -/
def noteRoster (k : Nat) : List RosterEntry → List RosterEntry
  | [] => []
  | e :: t =>
    if e.cabin == k then { e with mark := .passed } :: t
    else (if e.mark == .none then { e with mark := .missed } else e) :: noteRoster k t

/-- Write a changed roster entry's mark to its cabin's record. -/
def copyMark (p : Part) (e : RosterEntry) : Part := modCabin e.cabin (fun c => { c with mark := e.mark }) p

/-- A passage note of the summit for the number `k` (R16). A note whose number is not in the roster changes no list and no record, and
sets TRACK. -/
def passageNote (k : Nat) (p : Part) : Part :=
  if onRoster p k then
    let r := noteRoster k p.track.roster
    (r.filter (fun e => e.cabin == k || !p.track.roster.contains e)).foldl copyMark (setRoster r p)
  else attend .track p

end Sys2Proof.Machine
end

