-- ==== Sys2Proof/Machine/LaunchControl.lean ====
section
/-! DEFINITION. Launch Control: the release conditions, the request, the release and the retainer watch (chapter 4). -/

namespace Sys2Proof.Machine

/-- Change Launch Control's own state. -/
def modLaunch (f : Launch → Launch) (p : Part) : Part := { p with launch := f p.launch }

/-! ## The release conditions (R65) -/

/-- The launch gap against which condition 6 is judged: the published G, taken as 0 from a D5 passage until the next publication
(R65). -/
def judgedGap (p : Part) : Nat := if p.launch.gapRestarted then 0 else p.rope.view.gap

/-- The first unmet release condition, in the order of R65, or NONE. -/
def holdReason (p : Part) : HoldReason :=
  let prof := activeProfile p.sup
  if p.sup.mode != .run then .mode
  else
    match oldestIn p 4 with
    | none => .empty
    | some e =>
      if !isCabin e.cabin then .unidentified
      else if (cabin p e.cabin).door != .locked then .door
      else if segmentCount p 5 != 0 then .s5Occupied
      else if judgedGap p < prof.sMin then .gap
      else if p.rope.view.invalid || p.rope.view.v < (prof.vLaunchMin : Int) then .speed
      else if p.launch.state == .releasing then .inProgress
      else .none

/-! ## Request and removal (R66, R67, R95) -/

/-- The number of the cabin at the head of S4. -/
def headCabin (p : Part) : Nat :=
  match oldestIn p 4 with
  | none => 0
  | some e => e.cabin

/-- A release request: the head cabin and the time are noted, and the retainer's entry joins the start queue at the head (R66, R95). -/
def requestRelease (p : Part) : Part :=
  let p := modLaunch (fun l => { l with state := .requested, requested := headCabin p, requestTime := p.clock.now }) p
  callArbiter { p with doors := { p.doors with queue := .retainer :: p.doors.queue } }

/-- A waiting request is removed: the retainer's entry leaves the start queue and Launch Control is IDLE (R67). -/
def removeRequest (p : Part) : Part :=
  let p := modLaunch (fun l => { l with state := .idle, requested := 0 }) p
  { p with doors := { p.doors with queue := p.doors.queue.filter (fun r => r != .retainer) } }

/-- Launch Control judges the release conditions afresh: the hold reason is set, and a request is made or removed (R65 to R67). -/
def judgeLaunch (p : Part) : Part :=
  let why := holdReason p
  let p := modLaunch (fun l => { l with hold := why }) p
  match p.launch.state with
  | .idle => if why == .none then requestRelease p else p
  | .requested => if why == .none then p else removeRequest p
  | .releasing => p

/-! ## The retainer watch (R73) -/

/-- The watch's fault: RETCLOSED is OPEN while the watch expects it closed. -/
def watchFaulty (l : Launch) : Bool := l.watch == .expectClosed && l.retValue == some false

/-- The watch is judged: a fault that begins is reported as RELEASE_TIMEOUT source 2, present; the condition is gone when RETCLOSED is
CLOSED or the watch is in OPEN_ALLOWED (R73). -/
def judgeWatch (p : Part) : Part :=
  if watchFaulty p.launch && !p.launch.watchFault then
    report .releaseTimeout 2 .service true (modLaunch (fun l => { l with watchFault := true }) p)
  else if p.launch.watchFault && !watchFaulty p.launch then
    gone .releaseTimeout 2 (modLaunch (fun l => { l with watchFault := false }) p)
  else p

/-! ## The release (R68 to R71) -/

/-- The grant for the retainer commands the release: RELEASING, RETAIN energised, the watch in OPEN_ALLOWED (R68, R73). -/
def grantRetainer (p : Part) : Part :=
  if p.launch.state == .requested then
    callLaunch (judgeWatch (modLaunch (fun l => { l with
      state := .releasing, grantTime := p.clock.now, retain := true, watch := .openAllowed }) p))
  else p

/-- The release ends: RETAIN is de-energised, the watch enters its closing window of 2 s, and Launch Control is IDLE and judges afresh
(R69, R70, R73). -/
def endRelease (p : Part) : Part :=
  callLaunch (modLaunch (fun l => { l with
    state := .idle, requested := 0, retain := false, watch := .closing (p.clock.now + ms 2000) }) p)

/-- A D5 passage that ends a release (R69). `k` is the cabin that the Track Monitor moved, 0 for an unidentified one or a phantom. -/
def releasePassage (k : Nat) (passed : Time) (p : Part) : Part :=
  let p := modCabin k (fun c => { c with lastRelease := passed }) p
  endRelease (modLaunch (fun l => { l with
    releases := count16 l.releases, lastMoved := k, lastNoted := l.requested, lastPassage := passed }) p)

/-- A D5 passage as Launch Control takes it, with a cabin or as a phantom (`none`): it ends a release, or is uncommanded, and is then
handed on to the Supervisor, which applies a pending profile switch (R69, R71, R72, R138). -/
def retainerPassage (k : Option Nat) (passed : Time) (p : Part) : Part :=
  let p := modLaunch (fun l => { l with gapRestarted := true }) p
  let p :=
    if p.launch.state == .releasing then releasePassage (k.getD 0) passed p
    else
      match k with
      | none => p
      | some _ =>
        report .sequenceFault 5 .service false (modLaunch (fun l => { l with uncommanded := count16 l.uncommanded }) p)
  callLaunch (applyPendingSwitch p)

/-- The release has timed out (R70). -/
def releaseTimesOut (p : Part) : Part :=
  endRelease (modLaunch (fun l => { l with timeouts := count16 l.timeouts }) (report .releaseTimeout 1 .service false p))

/-- RETCLOSED has changed (R64, R68, R73): OPEN ends the RETAIN pulse, CLOSED ends the closing window, and the watch is judged. -/
def retainerChange (p : Part) : Part :=
  let v := p.launch.retInput.settled
  judgeWatch (modLaunch (fun l => { l with
    retValue := v
    retChanged := p.clock.now
    retain := if v == some false then false else l.retain
    watch :=
      match l.watch with
      | .closing ends => if v == some true then .expectClosed else .closing ends
      | w => w }) p)

end Sys2Proof.Machine
end

