-- ==== Sys2Proof/Machine/Arbiter.lean ====
section
/-! DEFINITION. The motor start arbiter: the count of grants, the grants, and the judgement of the start queue (R95, R96). -/

namespace Sys2Proof.Machine

/-- The grants of the history whose times g satisfy t - g < W (R96). -/
def grantsCounted (d : Doors) (now : Time) : Nat := d.history.countP (fun g => elapsed now g.time < d.window)

/-- A counted grant has left the window, at its time plus W (R96). -/
def grantLeft (d : Doors) (now : Time) : Bool := d.history.any (fun g => d.window ≤ elapsed now g.time)

/-- The budget has room for one more start (R96). -/
def budgetRoom (d : Doors) (now : Time) : Bool := grantsCounted d now < d.budget

/-- A grant is recorded: the history holds the last eight, newest first, and the total rises (R96, R101). -/
def recordGrant (r : Requester) (now : Time) (d : Doors) : Doors :=
  { d with history := ({ time := now, requester := r } :: d.history).take 8, grants := count16 d.grants }

/-- A grant reaches its requester (R68, R84). -/
def handGrant (r : Requester) (p : Part) : Part :=
  match r with
  | .door n => startMotion n p
  | .retainer => grantRetainer p

/-- The arbiter judges the queue once: while the count is below the budget the head entry is granted (R96). A further judgement is
called for where entries are left. -/
def judgeArbiter (p : Part) : Part :=
  match p.doors.queue with
  | [] => p
  | r :: rest =>
    if budgetRoom p.doors p.clock.now then
      callArbiter (handGrant r { p with doors := recordGrant r p.clock.now { p.doors with queue := rest } })
    else p

end Sys2Proof.Machine
end

