-- ==== Sys2Proof/Machine/SequencerUnit.lean ====
section
/-! DEFINITION. The Door Sequencer: the making, placing, judging, issuing, removing and lateness of door actions, and the lock check
(chapter 6). -/

namespace Sys2Proof.Machine

/-- Change the Door Sequencer's own state. -/
def modSeq (f : Sequencer → Sequencer) (p : Part) : Part := { p with sequencer := f p.sequencer }

/-! ## Placing, dropping and removing (R105, R109) -/

/-- The list with an action placed by its due time, after those of equal due time (R105). -/
def placeAction (a : Action) : List Action → List Action
  | [] => [a]
  | b :: t => if earlier a.due b.due then a :: b :: t else b :: placeAction a t

/-- The door state of a cabin action's bound cabin becomes UNKNOWN where its number is 1 to 128 (R105, R109, R110). -/
def loseDoor (isCabinAction : Bool) (k : Nat) (p : Part) : Part :=
  if isCabinAction && isCabin k then setDoor k .unknown p else p

/-- A new action that finds 16 in the list is dropped (R105). -/
def dropFull (a : Action) (p : Part) : Part :=
  attend .door (modSeq (fun s => { s with fullDrops := count16 s.fullDrops }) (loseDoor a.isCabin a.cabin p))

/-- A pending action is removed (R80, R109): the door state becomes UNKNOWN and the removal is counted. -/
def countRemoval (p : Part) (a : Action) : Part :=
  modSeq (fun s => { s with removals := count16 s.removals }) (loseDoor a.isCabin a.cabin p)

/-- Every pending action of a kind named by `which` is removed; `quiet` says that no DOOR bit is set (R109, R114). -/
def removeActions (which : Action → Bool) (quiet : Bool) (p : Part) : Part :=
  let gone := p.sequencer.actions.filter which
  if gone.isEmpty then p
  else
    let p := gone.foldl countRemoval (modSeq (fun s => { s with actions := s.actions.filter (fun a => !which a) }) p)
    if quiet then p else attend .door p

/-- The reach segment of a channel. -/
def reachOf (p : Part) (n : ChannelNo) : Nat := (channel p n).config.reach

/-- A pending cabin action whose bound entry `serial` now stands in segment `seg`, 7 for out of the queue, beyond the reach segment
(R109). -/
def beyondReach (p : Part) (serial seg : Nat) (a : Action) : Bool :=
  a.isCabin && a.ref == some serial && reachOf p a.channel < seg

/-! ## Lateness (R110) -/

/-- The action in flight on a channel becomes late (R110). -/
def makeLate (n : ChannelNo) (f : Flight) (p : Part) : Part :=
  loseDoor true f.cabin (modSeq (fun s => { s with
    flights := modTable s.flights n (fun _ => some { f with late := true }), lates := count16 s.lates }) p)

/-- The action in flight on channel `n` becomes late where it is a cabin action, not late yet, that `which` names (R110). -/
def lateOn (which : ChannelNo → Flight → Bool) (quiet : Bool) (p : Part) (n : ChannelNo) : Part :=
  match p.sequencer.flights.get n with
  | none => p
  | some f =>
    if f.isCabin && !f.late && which n f then
      if quiet then makeLate n f p else attend .door (makeLate n f p)
    else p

/-- Lateness judged on every channel. -/
def judgeLate (which : ChannelNo → Flight → Bool) (quiet : Bool) (p : Part) : Part :=
  (List.finRange 8).foldl (lateOn which quiet) p

/-! ## Conditions and issuing (R106 to R108) -/

/-- The number by which an action's cabin is judged: that of its entry while it stands in the queue, else that which the action holds
(R106). -/
def judgedCabin (p : Part) (a : Action) : Nat :=
  match entryOf p a.ref with
  | some e => e.cabin
  | none => a.cabin

/-- The condition of an action holds (R106). -/
def conditionHolds (p : Part) (a : Action) : Bool :=
  match a.condition with
  | .always => true
  | .ifRun => p.sup.mode == .run
  | .ifInService => (cabin p (judgedCabin p a)).registered && (cabin p (judgedCabin p a)).inService

/-- A cabin action is issuable when its channel is AT_A and its bound cabin's entry stands in the reach segment (R108). -/
def issuable (p : Part) (a : Action) : Bool :=
  (channel p a.channel).state == .atA &&
    (match entryOf p a.ref with
     | none => false
     | some e => e.segment == reachOf p a.channel)

/-- The record of an action in flight, made at its issue (R107). -/
def flightOf (a : Action) (now : Time) : Flight :=
  { entry := a.entry, target := a.target, isCabin := a.isCabin, cabin := a.cabin, ref := a.ref, issued := now }

/-- The channel is claimed for an action: its record in flight is made and the action owns the channel (R107). -/
def claimForAction (a : Action) (p : Part) : Part :=
  modChannel a.channel (fun c => { c with owner := .action })
    (modSeq (fun s => { s with flights := modTable s.flights a.channel (fun _ => some (flightOf a p.clock.now)) }) p)

/-- An action is issued (R100, R107): a channel of kind NONE or in FAULT hands it back as NOT_TAKEN in the same event; any other takes it
as a new operation. -/
def issueAction (a : Action) (p : Part) : Part :=
  if (channel p a.channel).closed then
    handOutcome a.channel .notTaken
      (modSeq (fun s => { s with flights := modTable s.flights a.channel (fun _ => some (flightOf a p.clock.now)) }) p)
  else takeOperation a.channel a.target (claimForAction a) p

/-- An action dropped because its condition does not hold (R106). -/
def dropCondition (p : Part) : Part := modSeq (fun s => { s with conditionDrops := count16 s.conditionDrops }) p

/-- An action is taken up by this judgement: it is DUE_WAITING, or `takeDue` and its due time has been reached. -/
def takenUp (takeDue : Bool) (now : Time) (a : Action) : Bool := a.dueWaiting || (takeDue && reached now a.due)

/-- The judgement of the actions in list order, each dropped where its condition does not hold, issued, or kept as DUE_WAITING: the actions
kept, and the part after it (R106 to R108). `served` lists the channels to which this judgement has issued a cabin action: "it issues at
most one action to a channel at one judgement". A DUE_WAITING action whose condition no longer holds is dropped, issuable or not (log
entry 24). -/
def judgeActions (takeDue : Bool) : List ChannelNo → List Action → Part → List Action × Part
  | _, [], p => ([], p)
  | served, a :: t, p =>
    if !takenUp takeDue p.clock.now a then
      let r := judgeActions takeDue served t p
      (a :: r.1, r.2)
    else if !conditionHolds p a then judgeActions takeDue served t (dropCondition p)
    else if !a.isCabin then judgeActions takeDue served t (issueAction a p)
    else if issuable p a && !served.contains a.channel then judgeActions takeDue (a.channel :: served) t (issueAction a p)
    else
      let r := judgeActions takeDue served t p
      ({ a with dueWaiting := true } :: r.1, r.2)

/-- The Door Sequencer judges its list, taking due actions where `takeDue` (R104, R106, R108). -/
def judgeSequencer (takeDue : Bool) (p : Part) : Part :=
  let r := judgeActions takeDue [] p.sequencer.actions p
  modSeq (fun s => { s with actions := r.1 }) r.2

/-! ## Passages (R104, R109, R110, R112, R113) -/

/-- A passage as the Door Sequencer is handed it: the detector, the cabin's number, the serial of its entry, the segment in which it now
stands, 7 where it has left the station, and the LOCKSENSE value of a D4 passage. -/
structure Passage where
  detector : Nat
  cabin : Nat
  serial : Nat
  lockSensed : Bool := false
  deriving DecidableEq, Repr

/-- The action that an entry makes for a passage (R104): "a cabin action always asks for end B" (section 6.1), a gate action for the end that its
entry names. DEDUCED (log entry 62): so does an entry TO_A whose channel has become a cabin operator since the program was loaded. -/
def actionOf (i : Nat) (e : ProgramEntry) (g : Passage) (p : Part) : Action :=
  let isCabin := (channel p e.channel).config.kind.isCabin
  { entry := i, channel := e.channel, target := if isCabin then .b else e.action, condition := e.condition, isCabin := isCabin
    due := p.clock.now + ms e.delay, cabin := g.cabin
    ref := if g.detector == 7 then none else some g.serial }

/-- A new action is placed or dropped (R105), and a cabin action made beyond its reach segment is removed at once (R109). -/
def makeAction (g : Passage) (a : Action) (p : Part) : Part :=
  if Config.actionsMax ≤ p.sequencer.actions.length then dropFull a p
  else if a.isCabin && reachOf p a.channel < g.detector then attend .door (countRemoval p a)
  else modSeq (fun s => { s with actions := placeAction a s.actions }) p

/-- One entry of the program on a passage: its trigger makes an action and raises its count (R104). -/
def triggerEntry (g : Passage) (p : Part) (i : Fin 24) : Part :=
  match p.sequencer.program.get i with
  | none => p
  | some e =>
    if e.trigger == g.detector then
      makeAction g (actionOf (i.val + 1) e g p) (modSeq (fun s => { s with made := modTable s.made i count16 }) p)
    else p

/-- The CABIN_DOOR_UNLOCKED condition of cabin `k` ends, where it is present (R113). -/
def endUnlocked (k : Nat) (p : Part) : Part :=
  if p.sequencer.unlocked.contains k then
    gone .cabinDoorUnlocked k (modSeq (fun s => { s with unlocked := s.unlocked.filter (fun j => j != k) }) p)
  else p

/-- CABIN_DOOR_UNLOCKED is reported for cabin `k`, with DOOR set (R112, R114). -/
def reportUnlocked (k : Nat) (present : Bool) (p : Part) : Part :=
  let p := attend .door p
  let p := if present && !p.sequencer.unlocked.contains k then modSeq (fun s => { s with unlocked := s.unlocked ++ [k] }) p else p
  report .cabinDoorUnlocked k .service present p

/-- The lock check at D4 (R112). -/
def lockCheck (g : Passage) (p : Part) : Part :=
  if isCabin g.cabin then
    let p := setDoor g.cabin (if g.lockSensed then .locked else .notLocked) p
    if g.lockSensed then p else reportUnlocked g.cabin true p
  else modEntry g.serial (fun e => { e with heldLock := some g.lockSensed }) p

/-- The Door Sequencer's work on a passage: removal and lateness, the actions made, the lock check, the end of an unlocked condition,
then the due actions (R104, R109, R110, R112, R113). A passage at Dk leaves the cabin in Sk, at D7 out of the station. DESIGN CHOICE (log
entry 61): the lock check, whose report may leave RUN, comes before the due actions are taken. DESIGN CHOICE (log entry 69): the removals and
the lateness of the passage come before its new actions, so that a list of 16 that a removal has shortened takes a new action. -/
def sequencerPassage (g : Passage) (p : Part) : Part :=
  let p := removeActions (beyondReach p g.serial g.detector) false p
  let p := judgeLate (fun n f => f.ref == some g.serial && reachOf p n < g.detector) false p
  let p := (List.finRange 24).foldl (triggerEntry g) p
  let p := if g.detector == 4 then lockCheck g p else p
  let p := if g.detector == 5 then endUnlocked g.cabin p else p
  judgeSequencer true p

/-- An entry is identified as cabin `k` (R114): its door state follows the held lock result, which is then discarded. -/
def identifyLock (e : QueueEntry) (k : Nat) (p : Part) : Part :=
  let d : CabinDoor :=
    match e.heldLock with
    | none => .unknown
    | some true => .locked
    | some false => .notLocked
  let p := modEntry e.serial (fun e => { e with heldLock := none }) (setDoor k d p)
  if d == .notLocked then reportUnlocked k (e.segment == 4) p else p

/-- STATION_QUEUE_LOAD at the Door Sequencer (R114): the pending cabin actions of old entries are removed, their actions in flight become
late, their unlocked conditions end, and every numbered cabin of the new queue takes door state UNKNOWN. No DOOR bit is set. -/
def sequencerLoad (old : List QueueEntry) (cabins : List Nat) (p : Part) : Part :=
  let wasIn (ref : Option Nat) : Bool := old.any (fun e => ref == some e.serial)
  let p := removeActions (fun a => a.isCabin && wasIn a.ref) true p
  let p := judgeLate (fun _ f => wasIn f.ref) true p
  let p := old.foldl (fun p e => endUnlocked e.cabin p) p
  cabins.foldl (fun p k => setDoor k .unknown p) p

end Sys2Proof.Machine
end

