-- ==== Sys2Proof/Machine/MessageChannel.lean ====
section
/-! DEFINITION. The Message Channel: launch notes, the transmitter, the receiver and its slots (chapter 9). -/

namespace Sys2Proof.Machine

/-- Change the Message Channel's own state. -/
def modMsg (f : Messages → Messages) (p : Part) : Part := { p with messages := f p.messages }

/-! ## Launch notes (R166) -/

/-- Write the launch note field of a cabin's record. -/
def setNote (k : Nat) (n : LaunchNote) (p : Part) : Part := modCabin k (fun c => { c with note := n }) p

/-- The exit of cabin `k` makes a launch note: an older note of the cabin leaves the list first; the note is appended, or dropped where 8
notes wait (R166). -/
def exitNote (k : Nat) (p : Part) : Part :=
  let l := p.messages.notes.filter (fun j => j != k)
  if Config.notesMax ≤ l.length then setNote k .dropped (modMsg (fun m => { m with notes := l }) p)
  else setNote k .queued (modMsg (fun m => { m with notes := l ++ [k] }) p)

/-- The outcome of a note in transfer is written only while the cabin is registered and no newer note for it stands in the list (R166). -/
def noteOutcome (k : Nat) (n : LaunchNote) (p : Part) : Part :=
  if (cabin p k).registered && !p.messages.notes.contains k then setNote k n p else p

/-! ## The transmitter (R163 to R168) -/

/-- What a valley frame offers: the serial of the octet on offer where it offers one, the octet and its mark. -/
structure Offer where
  serial : Option Nat := none
  octet : Byte := 0
  mark : MsgMark := .middle
  deriving DecidableEq, Repr

/-- The mark of octet `i` of a message of `n` octets: the last LAST, the first FIRST, those between MIDDLE; one octet alone is LAST
(R163). -/
def markOf (i n : Nat) : MsgMark := if i + 1 == n then .last else if i == 0 then .first else .middle

/-- The mark codes (section 8.1). -/
def MsgMark.code (m : MsgMark) : Nat :=
  match m with
  | .middle => 0
  | .first => 1
  | .last => 2
  | .abandon => 3

/-- The mark of a code in bits 3-2 of a frame's control octet. -/
def readMark (n : Nat) : MsgMark :=
  match n with
  | 0 => .middle
  | 1 => .first
  | 2 => .last
  | _ => .abandon

/-- The octet that the transfer offers now. -/
def Transfer.current (t : Transfer) : Byte := t.octets.getD t.accepted 0

/-- A new octet comes on offer in state `s`: its serial is new and its refusal run is 0. -/
def offerNew (s : Transmitter) (m : Messages) : Messages :=
  { m with transmitter := s, offerSerial := m.offerSerial + 1, refusals := 0 }

/-- An idle transmitter begins a transfer at a frame tick with the line UP: the head of the note list, otherwise the head of the message
waiting list (R165). -/
def beginTransfer (m : Messages) : Messages :=
  match m.transmitter, m.notes, m.waiting with
  | .idle, k :: rest, _ =>
    offerNew (.offering { source := .note k, octets := [0x81, BitVec.ofNat 8 k] }) { m with notes := rest }
  | .idle, [], w :: rest => offerNew (.offering { source := .order w.slot, octets := w.octets }) { m with waiting := rest }
  | _, _, _ => m

/-- What the transmitter presents for a frame composed now (R163, R164, R168). -/
def offerOf (m : Messages) : Offer :=
  match m.transmitter with
  | .idle => {}
  | .offering t => { serial := some m.offerSerial, octet := t.current, mark := markOf t.accepted t.octets.length }
  | .pause _ => {}
  | .abandoning => { serial := some m.offerSerial, octet := 0, mark := .abandon }

/-- The transmitter after a frame has been composed: a PAUSE ends with its one frame, and the next octet comes on offer, or the
transmitter is IDLE (R164). -/
def afterFrame (m : Messages) : Messages :=
  match m.transmitter with
  | .pause (some t) => offerNew (.offering t) m
  | .pause none => { m with transmitter := .idle }
  | _ => m

/-- A transfer ends without its LAST octet accepted: a note is dropped, an order fails with detail 1 REFUSED or 2 LINE_LOST (R166,
R167). -/
def failTransfer (t : Transfer) (detail : Nat) (p : Part) : Part :=
  match t.source with
  | .note k => noteOutcome k .dropped p
  | .order i => answer i .failed detail p

/-- The octet on offer is accepted: the count rises, shown in an order's progress; with the LAST octet the message has been sent
(R164, R166, R167). -/
def acceptOctet (t : Transfer) (p : Part) : Part :=
  let t' := { t with accepted := t.accepted + 1 }
  let whole := t'.accepted == t.octets.length
  let p := modMsg (fun m => { m with transmitter := .pause (if whole then none else some t'), refusals := 0 }) p
  match t.source with
  | .note k => if whole then noteOutcome k .sent p else p
  | .order i =>
    let p := setProgress i t'.accepted p
    if whole then answer i .ok 0 p else p

/-- A refusal of the octet on offer: the second in a row ends the transfer, or the abandon, as refused (R164, R168). -/
def refuseOctet (p : Part) : Part :=
  if p.messages.refusals == 0 then modMsg (fun m => { m with refusals := 1 }) p
  else
    let tr := p.messages.transmitter
    let p := modMsg (fun m => { m with transmitter := .idle, refusals := 0 }) p
    match tr with
    | .offering t => failTransfer t 1 p
    | _ => p

/-- The transmitter at a good answer to a frame that offered `serial`: it acts where that is the octet still on offer (R164). -/
def judgeAccept (serial : Option Nat) (accepted : Bool) (p : Part) : Part :=
  if serial != some p.messages.offerSerial then p
  else
    match p.messages.transmitter with
    | .offering t => if accepted then acceptOctet t p else refuseOctet p
    | .abandoning => if accepted then modMsg (fun m => { m with transmitter := .pause none, refusals := 0 }) p else refuseOctet p
    | _ => p

/-! ## The receiver (R169 to R171) -/

/-- Change one receive slot. -/
def modReceive (i : Fin 4) (f : ReceiveSlot → ReceiveSlot) (m : Messages) : Messages := { m with slots := modTable m.slots i f }

/-- The lowest-numbered EMPTY receive slot (R170). -/
def emptySlot (m : Messages) : Option (Fin 4) := (List.finRange 4).find? (fun i => (m.slots.get i).state == .empty)

/-- A slot with its octet `j` written; an octet beyond the 64 is not written. -/
def ReceiveSlot.put (s : ReceiveSlot) (j : Nat) (b : Byte) : ReceiveSlot :=
  if h : j < 64 then { s with octets := s.octets.set j b } else s

/-- The assembly is discarded: its slot becomes EMPTY and the receiver IDLE (R170, R172). DESIGN CHOICE (log entry 75): the slot keeps the type,
the length and the octets that it had. -/
def discardAssembly (m : Messages) : Messages :=
  match m.receiver with
  | .slot i => { modReceive i (fun s => { s with state := .empty }) m with receiver := .idle }
  | _ => { m with receiver := .idle }

/-- "Start" of R170, from an IDLE receiver, with whether the octet is taken. DESIGN CHOICE (log entry 83): the slot taken keeps the octets
beyond the first that it had, until each is written. -/
def startAssembly (b : Byte) (m : Messages) : Bool × Messages :=
  let ty := b.toNat
  if 1 ≤ ty && ty ≤ 0x7F then
    match emptySlot m with
    | none => (false, { m with receiver := .idle })
    | some i =>
      (true, { modReceive i (fun s => ReceiveSlot.put { s with state := .assembling, type := b, length := 1 } 0 b) m with
        receiver := .slot i })
  else if ty == 0x80 then (true, { m with receiver := .note [b] })
  else (true, { m with receiver := .discarding 1 })

/-- The octets of the assembly so far. -/
def assemblyLength (m : Messages) : Nat :=
  match m.receiver with
  | .idle => 0
  | .slot i => (m.slots.get i).length
  | .note l => l.length
  | .discarding n => n

/-- "Appended" of R170, with whether the octet is taken: a 65th octet is refused and the assembly discarded. -/
def appendOctet (b : Byte) (m : Messages) : Bool × Messages :=
  if Config.messageMax ≤ assemblyLength m then (false, discardAssembly m)
  else
    match m.receiver with
    | .idle => (true, m)
    | .slot i => (true, modReceive i (fun s => { s.put s.length b with length := s.length + 1 }) m)
    | .note l => (true, { m with receiver := .note (l ++ [b]) })
    | .discarding n => (true, { m with receiver := .discarding (n + 1) })

/-- A passage note that ends is delivered to the Track Monitor, whatever its length (R16, R171). -/
def deliverNote (octets : List Byte) (p : Part) : Part :=
  match octets with
  | [_, k] => passageNote k.toNat p
  | _ => attend .track p

/-- "End" of R170: the slot becomes FULL and MESSAGE_IN is set, the note is delivered, or the octets are thrown away. -/
def endAssembly (p : Part) : Part :=
  let r := p.messages.receiver
  let p := modMsg (fun m => { m with receiver := .idle }) p
  match r with
  | .idle => p
  | .slot i => attend .messageIn (modMsg (modReceive i (fun s => { s with state := .full })) p)
  | .note l => deliverNote l p
  | .discarding _ => p

/-- Take a result of a start or an append into the part. -/
def takeAssembly (r : Bool × Messages) (p : Part) : Bool × Part := (r.1, { p with messages := r.2 })

/-- A new offered octet acts on the assembly by its mark (the table of R170), with whether it is taken. -/
def receiveOctet (b : Byte) (mark : MsgMark) (p : Part) : Bool × Part :=
  let idle := p.messages.receiver == .idle
  match mark with
  | .first => takeAssembly (startAssembly b (discardAssembly p.messages)) p
  | .middle => if idle then (true, p) else takeAssembly (appendOctet b p.messages) p
  | .last =>
    let r := takeAssembly (if idle then startAssembly b p.messages else appendOctet b p.messages) p
    if r.1 then (true, endAssembly r.2) else r
  | .abandon => (true, modMsg discardAssembly p)

/-- The octet is the 65th of an assembly, which R170 refuses. -/
def overfills (mark : MsgMark) (m : Messages) : Bool :=
  (mark == .middle || mark == .last) && m.receiver != .idle && decide (Config.messageMax ≤ assemblyLength m)

/-- An offer that is no repeat is judged by R170, and noted for the recognition of its repeat; a refused 65th octet is not noted, since
"the repeat of it and the octets that follow are taken as in IDLE" (R170, log entry 67). -/
def judgeNewOffer (b : Byte) (mark : MsgMark) (p : Part) : Part :=
  let tooLong := overfills mark p.messages
  let r := receiveOctet b mark p
  modMsg (fun m => { m with
    lastOffer := if tooLong then none else some { octet := b, mark := mark, taken := r.1 }, acceptNext := r.1 }) r.2

/-- The offer judged at the answer before that this offer repeats, if it does: "an offer in the answer to frame f + 1 with the same octet and
mark is the repeat of it" (R169). -/
def repeated (b : Byte) (mark : MsgMark) (m : Messages) : Option JudgedOffer :=
  m.lastOffer.filter (fun o => o.octet == b && o.mark == mark)

/-- The receiver at a good answer whose offer is `some (octet, mark)` or none (R169): a repeat of the offer judged at the answer before is
answered alike, any other offer is new. The decision is the ACCEPT of the next frame composed. -/
def judgeOffer (offer : Option (Byte × MsgMark)) (p : Part) : Part :=
  match offer with
  | none => modMsg (fun m => { m with lastOffer := none, acceptNext := false }) p
  | some (b, mark) =>
    match repeated b mark p.messages with
    | some o => modMsg (fun m => { m with lastOffer := none, acceptNext := o.taken }) p
    | none => judgeNewOffer b mark p

/-- An errored answer at the Message Channel (R164, R169): it breaks a run of refusals and leaves ACCEPT clear. -/
def messagesErrored (p : Part) : Part := modMsg (fun m => { m with refusals := 0, lastOffer := none, acceptNext := false }) p

/-- A good answer in UP at the Message Channel (R164, R169). -/
def messagesGood (serial : Option Nat) (accepted : Bool) (offer : Option (Byte × MsgMark)) (p : Part) : Part :=
  judgeOffer offer (judgeAccept serial accepted p)

/-- The line has left UP (R172): every transfer ends, and every assembly is discarded. -/
def messagesLineDown (p : Part) : Part :=
  let tr := p.messages.transmitter
  let p := modMsg (fun m =>
    { discardAssembly m with transmitter := .idle, refusals := 0, lastOffer := none, acceptNext := false }) p
  match tr with
  | .offering t => failTransfer t 2 p
  | .pause (some t) => failTransfer t 2 p
  | _ => p

/-- A message is in transfer, for LINE_DORMANT (R156, R172). -/
def messageInTransfer (m : Messages) : Bool := m.transmitter != .idle || m.receiver != .idle

/-- The transfer of the order of a slot, where it is under way (R168). -/
def transferring (i : SlotNo) (m : Messages) : Bool :=
  match m.transmitter with
  | .offering t => t.source == .order i
  | .pause (some t) => t.source == .order i
  | _ => false

/-- The withdraw of a MESSAGE_SEND (R168): a waiting message leaves the list; for one in transfer the transmitter enters ABANDONING. -/
def withdrawMessage (i : SlotNo) (p : Part) : Part :=
  if transferring i p.messages then answer i .withdrawn 0 (modMsg (offerNew .abandoning) p)
  else answer i .withdrawn 0 (modMsg (fun m => { m with waiting := m.waiting.filter (fun w => w.slot != i) }) p)

end Sys2Proof.Machine
end

