-- ==== Sys2Proof/Machine/TrackUnit.lean ====
section
/-! DEFINITION. The Track Monitor: the tag matcher, the arrival decision, the passages at D2 to D7, the filling of the hold section
(chapter 1). -/

namespace Sys2Proof.Machine

/-- Change the Track Monitor's own state. -/
def modTrack (f : Track → Track) (p : Part) : Part := { p with track := f p.track }

/-- A stop cause of the Track Monitor, with TRACK set (R17). -/
def reportTrack (k : CauseKind) (src : Nat) (cat : Category) (present : Bool) (p : Part) : Part :=
  report k src cat present (attend .track p)

/-! ## The hold section and the full queue (R7, R15) -/

/-- HOLD_OVERFLOW reported, its condition present (R7). -/
def reportHoldOverflow (p : Part) : Part :=
  reportTrack .holdOverflow 4 .service true (modTrack (fun t => { t with holdOverflow := true }) p)

/-- The count in S4 after a change of the queue (R7): the HOLD cap follows it, HOLD_OVERFLOW is gone below 4, and at 4 or more it is
reported where `always` (an entry has entered S4) or the condition was gone. -/
def recountHold (always : Bool) (p : Part) : Part :=
  let n := segmentCount p 4
  let p := setHoldCap (3 ≤ n) p
  if 4 ≤ n then (if always || !p.track.holdOverflow then reportHoldOverflow p else p)
  else if p.track.holdOverflow then gone .holdOverflow 4 (modTrack (fun t => { t with holdOverflow := false }) p)
  else p

/-- TRACK_OVERFLOW is gone once the queue holds fewer than 15 entries (R15, R17). -/
def recountQueue (p : Part) : Part :=
  if p.track.trackOverflow && p.track.queue.length < Config.queueMax then
    gone .trackOverflow 1 (modTrack (fun t => { t with trackOverflow := false }) p)
  else p

/-! ## The arrival decision (R14, R15) -/

/-- The roster cabin that an arrival identifies, by the rows of R14 that remove an entry: the number reported, where it is in the roster,
or the head for an unreadable report. -/
def identified (p : Part) (report : Option Nat) : Option Nat :=
  match report with
  | some n => if onRoster p n then some n else none
  | none => (p.track.roster.head?).map (fun e => e.cabin)

/-- The arrival is out of turn: SEQUENCE_FAULT source 1 (the last four rows of R14). -/
def outOfTurn (p : Part) (report : Option Nat) : Bool :=
  match report, p.track.roster with
  | none, [] => true
  | none, _ :: _ => false
  | some n, e :: _ => e.cabin != n
  | some _, [] => true

/-- An arrival at a full station queue (R15). -/
def refuseArrival (rep : Option Nat) (p : Part) : Part :=
  let p :=
    match identified p rep with
    | none => p
    | some n => setPlace n .unknown (leaveRoster n p)
  reportTrack .trackOverflow 1 .fast true (modTrack (fun t => { t with trackOverflow := true }) p)

/-- An entry is appended at the queue's tail, in S1, with the D1 passage time; a numbered cabin takes place IN_STATION (R14). -/
def appendArrival (k : Nat) (passed : Time) (p : Part) : Part :=
  let e : QueueEntry := { serial := p.track.nextSerial, cabin := k, segment := 1, entered := passed }
  setPlace k .inStation (setQueue (p.track.queue ++ [e]) (modTrack (fun t => { t with nextSerial := t.nextSerial + 1 }) p))

/-- The arrival decision (R14), with a report (a cabin number, or `none` for UNREADABLE) and the D1 passage time. -/
def decideArrival (rep : Option Nat) (passed : Time) (p : Part) : Part :=
  if Config.queueMax ≤ p.track.queue.length then refuseArrival rep p
  else
    let who := identified p rep
    let fault := outOfTurn p rep
    let positional := rep == none && who != none
    let p :=
      match who with
      | none => p
      | some n => leaveRoster n p
    let serial := p.track.nextSerial
    let p := appendArrival (who.getD 0) passed p
    let p := if positional then attend .track p else p
    let p := if fault then reportTrack .sequenceFault 1 .service false p else p
    sequencerPassage { detector := 1, cabin := who.getD 0, serial := serial } p

/-! ## The tag matcher (R10 to R13) -/

/-- A report as the matcher takes it: a number outside 1 to 128 is UNREADABLE (R10). -/
def readTag (report : Option Nat) : Option Nat :=
  match report with
  | none => none
  | some n => if isCabin n then some n else none

/-- Set the tag matcher. -/
def setMatcher (m : TagMatcher) (p : Part) : Part := modTrack (fun t => { t with matcher := m }) p

/-- A tag report arrives at the matcher (R11). -/
def tagArrives (report : Option Nat) (p : Part) : Part :=
  match p.track.matcher with
  | .passageWaiting passed => decideArrival (readTag report) passed (setMatcher .empty p)
  | _ => setMatcher (.reportHeld (readTag report) p.clock.now) p

/-- A D1 passage arrives at the matcher (R12). -/
def d1Arrives (passed : Time) (p : Part) : Part :=
  match p.track.matcher with
  | .empty => setMatcher (.passageWaiting passed) p
  | .reportHeld report _ => decideArrival report passed (setMatcher .empty p)
  | .passageWaiting old => setMatcher (.passageWaiting passed) (decideArrival none old p)

/-- A waiting passage is decided as UNREADABLE and the matcher returns to EMPTY (R13). -/
def endWait (p : Part) : Part :=
  match p.track.matcher with
  | .passageWaiting passed => decideArrival none passed (setMatcher .empty p)
  | _ => p

/-! ## Passages at D2 to D7 (R3 to R7) -/

/-- A phantom passage at Dk (R5): SEQUENCE_FAULT source k; at D5 the launch gap restarts and Launch Control takes it. -/
def phantomPassage (k : Nat) (passed : Time) (p : Part) : Part :=
  let p := reportTrack .sequenceFault k .service false p
  if k == 5 then retainerPassage none passed (restartGap p) else p

/-- An entry moves into segment k with the passage time (R3). -/
def moveEntry (serial k : Nat) (passed : Time) (p : Part) : Part :=
  modEntry serial (fun e => { e with segment := k, entered := passed }) p

/-- A recorded passage at Dk, k from 2 to 6, handed on (R6): at D5 the launch gap restarts and Launch Control takes it, at D6 the grip
window opens, and the Door Sequencer takes every one. -/
def handPassage (k : Nat) (e : QueueEntry) (n : PassageNote) (p : Part) : Part :=
  let p := if k == 5 then retainerPassage (some e.cabin) n.time (restartGap p) else p
  let p := if k == 6 then openGrip e.cabin n.time p else p
  sequencerPassage { detector := k, cabin := e.cabin, serial := e.serial, lockSensed := n.lockSensed } p

/-- A passage at Dk, k from 2 to 6 (R3, R5, R7, R13). -/
def takePassage (k : Nat) (n : PassageNote) (p : Part) : Part :=
  let p := if k == 2 then endWait p else p
  match oldestBefore p (k - 1) n.time with
  | none => phantomPassage k n.time p
  | some e =>
    let p := moveEntry e.serial k n.time p
    handPassage k e n (recountHold (k == 4) p)

/-- A cabin with number k exits onto the rope (R4). -/
def exitCabin (k : Nat) (p : Part) : Part :=
  if isCabin k then exitNote k (joinRoster k p) else reportTrack .sequenceFault 7 .service false p

/-- A passage at D7 (R4, R5). -/
def takeExit (passed : Time) (p : Part) : Part :=
  match oldestBefore p 6 passed with
  | none => phantomPassage 7 passed p
  | some e =>
    let p := exitCabin e.cabin (recountQueue (removeEntry e.serial p))
    sequencerPassage { detector := 7, cabin := e.cabin, serial := e.serial } (gripExit e.cabin p)

end Sys2Proof.Machine
end

