-- ==== Sys2Proof/Machine/SummitLine.lean ====
section
/-! DEFINITION. The Summit Line Interface: frames and their check, indications, probing, training, loss and quality, rest and dormancy
(chapter 8). -/

namespace Sys2Proof.Machine

/-- Change the Summit Line Interface's own state. -/
def modLine (f : Line → Line) (p : Part) : Part := { p with line := f p.line }

/-! ## Frames (section 8.1) -/

/-- The fixed sync value. -/
def syncOctets : List Byte := [0x4E, 0x1D, 0x37, 0xB2]

/-- The octets of a frame at a rate: 16 of control part, 16 more for each voice slot carried. -/
def frameLength (rate : Nat) : Nat := 16 * rate

/-- One bit of an octet taken by the check register. -/
def checkBit (reg : Half) (b : Bool) : Half :=
  let out := reg.msb != b
  let r := reg <<< 1
  if out then r ^^^ 0x1021 else r

/-- One octet taken by the check register, most significant bit first. -/
def checkOctet (reg : Half) (b : Byte) : Half :=
  [7, 6, 5, 4, 3, 2, 1, 0].foldl (fun r i => checkBit r (b.getLsbD i)) reg

/-- The 16-bit check over a list of octets, generator x^16 + x^12 + x^5 + 1, the register set to all ones first (section 8.1). -/
def checkOf (octets : List Byte) : Half := octets.foldl checkOctet 0xFFFF

/-- The two octets of a half-word, most significant first. -/
def bigEndian (h : Half) : List Byte := [h.extractLsb' 8 8, h.extractLsb' 0 8]

/-- A half-word of two octets of a list, most significant first. -/
def readBig (l : List Byte) (j : Nat) : Half := (l.getD j 0) ++ (l.getD (j + 1) 0)

/-- The content of a frame: what section 8.1 lays out between the sync and the check. -/
structure FrameContent where
  kind : Nat
  rate : Nat
  mark : Nat
  offer : Bool
  accept : Bool
  number : Byte
  word : Half
  octet : Byte
  pattern1 : Byte
  pattern2 : Byte
  priority : Byte
  errored : Nat
  voice0 : List Byte
  voice1 : List Byte
  deriving DecidableEq, Repr

/-- The control octet: kind in bits 7-6, rate in 5-4, mark in 3-2, OFFER in bit 1, ACCEPT in bit 0. -/
def controlOctet (f : FrameContent) : Byte :=
  BitVec.ofNat 8 (64 * (f.kind % 4) + 16 * (f.rate % 4) + 4 * (f.mark % 4) + (if f.offer then 2 else 0) + (if f.accept then 1 else 0))

/-- The octets of a frame from octet 4 up to the last voice octet (section 8.1). -/
def frameBody (f : FrameContent) : List Byte :=
  [controlOctet f, f.number] ++ bigEndian f.word ++ [f.octet, f.pattern1, f.pattern2, f.priority] ++
    bigEndian (BitVec.ofNat 16 f.errored) ++ (if 2 ≤ f.rate then f.voice0 else []) ++ (if f.rate == 3 then f.voice1 else [])

/-- The octets of a frame, sync and check included. -/
def frameOctets (f : FrameContent) : List Byte := syncOctets ++ frameBody f ++ bigEndian (checkOf (frameBody f))

/-- The content read from the octets of a received frame (section 8.1). -/
def readFrame (rate : Nat) (l : List Byte) : FrameContent :=
  let c := (l.getD 4 0).toNat
  { kind := c / 64
    rate := c / 16 % 4
    mark := c / 4 % 4
    offer := c / 2 % 2 == 1
    accept := c % 2 == 1
    number := l.getD 5 0
    word := readBig l 6
    octet := l.getD 8 0
    pattern1 := l.getD 9 0
    pattern2 := l.getD 10 0
    priority := l.getD 11 0
    errored := (readBig l 12).toNat
    voice0 := if 2 ≤ rate then (l.drop 14).take 16 else []
    voice1 := if rate == 3 then (l.drop 30).take 16 else [] }

/-- The check of a received frame at a rate is right: its last two octets are the check of the octets from octet 4 on. -/
def checkRight (rate : Nat) (l : List Byte) : Bool :=
  l.length == frameLength rate && readBig l (frameLength rate - 2) == checkOf ((l.take (frameLength rate - 2)).drop 4)

/-- The sync is at its place (R143): before the attempt's first correct echo from 0 to 64 bit periods after 1 ms from the start of the
valley frame, afterwards within 2 bit periods of the line delay. -/
def syncInPlace (l : Line) (offset : Int) : Bool :=
  if l.syncKnown then (offset - (l.lineDelay : Int)).natAbs ≤ 2 else 0 ≤ offset && offset ≤ 64

/-- A summit frame is good "when its sync is at its place and its check is right" (R143). -/
def frameGood (l : Line) (note : FrameNote) (f : SummitFrame) : Bool :=
  syncInPlace l f.offset && f.octets.take 4 == syncOctets && checkRight note.rate f.octets

/-! ## Changes of line state and rate (R154) -/

/-- The neighbours are handed a change of line state or rate: the Message Channel each departure from UP, the Call Unit the state and
rate, the Supervisor the state (R130, R131, R134, R172, R182). -/
def handLine (wasUp : Bool) (p : Part) : Part :=
  let isUp := p.line.state == .up
  let training := if p.line.state == .training then some p.line.rate else none
  let p :=
    if wasUp && !isUp then callLineDown training 1 (callLineDown training 0 (messagesLineDown p))
    else if isUp && !wasUp then callLineUp p.line.rate 1 (callLineUp p.line.rate 0 p)
    else p
  supLineChange wasUp p

/-- The line takes a state and a rate. Where either changes, LINE is set and the neighbours are handed the change (R154). -/
def changeLine (st : LineState) (rate : Nat) (p : Part) : Part :=
  let old := p.line
  if old.state == st && old.rate == rate then p
  else handLine (old.state == .up) (attend .line (modLine (fun l => { l with state := st, rate := rate }) p))

/-- What stops when the line leaves TRAINING and UP, or a state of rest: the attempt, the probe, the backoff and the sleep schedule. DESIGN
CHOICE (log entry 74): the attempts used, the run of correct echoes, the loss run and the quality window keep their last values, which the
view goes on showing (R161), until training or UP sets them afresh. DESIGN CHOICE (log entry 82): a probe that still runs is dropped
unclassified: no result is written and no count rises. -/
def stopLine (l : Line) : Line :=
  { l with probe := none, backoff := none, sleepDue := none, attemptPending := false, attemptEnds := none }

/-- Frames stop: the answers outstanding are not judged (R142). -/
def stopFrames (l : Line) : Line := { stopLine l with notes := [] }

/-! ## Probes (R148, R149) -/

/-- A wake burst: 128 bits of its octet repeated, which at 64 kbit/s last 2 ms. -/
def wakeBurst : List Byte := List.replicate 16 Config.wakeOctet

/-- A probe is sent: its wake burst begins now. -/
def sendProbe (forOrder : Bool) (p : Part) : Part :=
  modLine (fun l => { l with
    probe := some { start := p.clock.now, forOrder := forOrder }, probeStart := p.clock.now, sentBurst := wakeBurst }) p

/-- The interface listens for bursts in DOWN, PROBING and DORMANT (R148). -/
def listensForBursts (l : Line) : Bool := l.state == .down || l.state == .probing || l.state == .dormant

/-- 32 bits of a burst of the octet, from its first bit. -/
def burstBits (octet : Byte) : BitVec 32 := octet ++ octet ++ octet ++ octet

/-- The bits are 32 consecutive bits of the octet repeated (R148). DEDUCED (log entry 80): they may begin at any bit of the octet. -/
def isBurstOf (octet : Byte) (received : BitVec 32) : Bool :=
  (List.range 8).any (fun k => received == (burstBits octet).rotateLeft k)

/-- Entry into PROBING: the probe count is 0 and a probe is sent at once (R149). -/
def enterProbing (p : Part) : Part :=
  sendProbe false (changeLine .probing 0 (modLine (fun l => { stopFrames l with probeCount := 0 }) p))

/-! ## Training (R150, R151) -/

/-- A training attempt is to begin at the next frame tick: the run and the place of the sync are set afresh (R150), so that an answer still
outstanding is judged as the new attempt's first (R151). -/
def nextAttempt (l : Line) : Line :=
  { l with attemptPending := true, attemptEnds := none, echoRun := 0, syncKnown := false }

/-- The line enters TRAINING at a rate, with attempts used 0, and an attempt begins at the next frame tick (R150). Answers to frames
already sent in TRAINING or UP are still judged. -/
def enterTraining (rate : Nat) (p : Part) : Part :=
  changeLine .training rate (modLine (fun l => { nextAttempt (stopLine l) with attemptsUsed := 0 }) p)

/-- The line enters TRAINING at the configured rate ceiling (R149, R155, R157). -/
def trainAtCeiling (p : Part) : Part := enterTraining p.line.config.rateCeiling p

/-- Answer the LINE_START in flight, if any (R159). -/
def answerStart (r : Result) (detail : Nat) (p : Part) : Part :=
  let held := p.line.startOrder
  answerHeld held r detail (modLine (fun l => { l with startOrder := none }) p)

/-- Answer the LINE_PROBE in flight, if any (R160). -/
def answerProbe (detail : Nat) (p : Part) : Part :=
  let held := p.line.probeOrder
  answerHeld held .ok detail (modLine (fun l => { l with probeOrder := none }) p)

/-- The backoff of 5 s, with auto-start on (R155, R160). -/
def startBackoff (p : Part) : Part :=
  modLine (fun l => { l with backoff := if l.config.autoStart then some (p.clock.now + ms 5000) else none }) p

/-- The line enters DOWN with a diagnosis; a LINE_START in flight fails with it (R155, R159). -/
def enterDown (d : Diagnosis) (p : Part) : Part :=
  let p := changeLine .down 0 (modLine (fun l => { stopFrames l with diagnosis := d }) p)
  answerStart .failed d.code p

/-- The line enters DOWN and waits the backoff with auto-start on (R155). -/
def enterDownWaiting (d : Diagnosis) (p : Part) : Part := startBackoff (enterDown d p)

/-- The line enters UP at the rate trained (R151), by the sixteenth correct echo with the summit's priority `prio`, to a frame that
carried the valley's priority `own`. -/
def enterUp (prio own : Nat) (p : Part) : Part :=
  let p := modLine (fun l => { stopLine l with
    summitPriority := prio, valleyPriority := own, lossRun := 0, qualityWindow := [], candidate := none
    upSince := p.clock.now }) p
  answerStart .ok 0 (changeLine .up p.line.rate p)

/-- A training attempt begins at a frame tick (R150): the rate is lowered to the ceiling with attempts used 0, the frame number is 0, the
attempt timer starts, and the patterns and the mask are those configured. -/
def beginAttempt (p : Part) : Part :=
  let ceiling := p.line.config.rateCeiling
  let p :=
    if ceiling < p.line.rate then changeLine .training ceiling (modLine (fun l => { nextAttempt l with attemptsUsed := 0 }) p)
    else p
  modLine (fun l => { l with
    attemptPending := false, attemptEnds := some (p.clock.now + ms 300), frameNumber := 0
    attemptPattern1 := l.config.pattern1, attemptPattern2 := l.config.pattern2, attemptMask := l.config.mask }) p

/-- A failed attempt (R151): a new attempt at the rate, at the next rate down, or DOWN with TRAINING_FAILED. -/
def attemptFails (p : Part) : Part :=
  let used := p.line.attemptsUsed + 1
  let p := modLine (fun l => { l with attemptsUsed := used, attemptEnds := none }) p
  if used < p.line.config.attempts then modLine nextAttempt p
  else if 1 < p.line.rate then
    changeLine .training (p.line.rate - 1) (modLine (fun l => { nextAttempt l with attemptsUsed := 0 }) p)
  else enterDownWaiting .trainingFailed p

/-! ## Classification (R148, R149, R157, R160) -/

/-- A probe's classification is written as the last result and counted (R148). -/
def recordProbe (r : ProbeResult) (p : Part) : Part :=
  modLine (fun l => { l with probe := none, lastProbe := r, probesSent := count16 l.probesSent }) p

/-- A probe is ANSWERED: the line enters TRAINING at the ceiling, and a LINE_PROBE is answered (R149, R157, R160). -/
def probeAnswered (pr : Probe) (p : Part) : Part :=
  let p := recordProbe .answered p
  let p := if pr.forOrder then answerProbe 0 p else p
  trainAtCeiling p

/-- The diagnosis of an unanswered probe: SUMMIT_UNPOWERED for ECHO, LINE_OPEN for SILENT (R148). -/
def diagnosisOf (echo : Bool) : Diagnosis := if echo then .summitUnpowered else .lineOpen

/-- An unanswered LINE_PROBE (R160): the diagnosis is set, the order answered, and in DOWN with auto-start on the backoff starts again. -/
def orderProbeFails (echo : Bool) (p : Part) : Part :=
  let p := answerProbe (if echo then 1 else 2) (modLine (fun l => { l with diagnosis := diagnosisOf echo }) p)
  if p.line.state == .down then startBackoff p else p

/-- An unanswered probe of the sleep schedule (R157): LINE is set where the diagnosis changes. -/
def sleepProbeFails (echo : Bool) (p : Part) : Part :=
  let d := diagnosisOf echo
  if p.line.diagnosis == d then p else attend .line (modLine (fun l => { l with diagnosis := d }) p)

/-- An unanswered probe in PROBING (R149): the count rises, and at 10 the line enters DOWN with its diagnosis. -/
def probingProbeFails (echo : Bool) (p : Part) : Part :=
  let n := p.line.probeCount + 1
  let p := modLine (fun l => { l with probeCount := n }) p
  if 10 ≤ n then enterDownWaiting (diagnosisOf echo) p else p

/-- A probe classified ECHO or SILENT (R148, R149, R157, R160). -/
def probeFails (pr : Probe) (p : Part) : Part :=
  let echo := pr.echoHeard
  let p := recordProbe (if echo then .echo else .silent) p
  if pr.forOrder then orderProbeFails echo p
  else if p.line.state == .probing then probingProbeFails echo p
  else sleepProbeFails echo p

/-- The listen of a probe ends, 20 ms after its burst of 2 ms (R148). -/
def listenEnds (p : Part) : Part :=
  match p.line.probe with
  | none => p
  | some pr => if pr.answerHeard then probeAnswered pr p else probeFails pr p

/-- The listen of the running probe has ended. -/
def listenOver (l : Line) (now : Time) : Bool :=
  match l.probe with
  | none => false
  | some pr => reached now (pr.start + ms 22)

/-- A burst that counts as an answer is heard during a probe: in the listen it ends the probe at once, before it it is noted (R148). -/
def hearAnswer (pr : Probe) (p : Part) : Part :=
  if elapsed p.clock.now pr.start < 2 then modLine (fun l => { l with probe := some { pr with answerHeard := true } }) p
  else probeAnswered pr p

/-- An answer burst is recognised (R148, R155): outside a probe it is ignored. -/
def answerBurstHeard (p : Part) : Part :=
  match p.line.probe with
  | none => p
  | some pr => hearAnswer pr p

/-- A wake burst heard in DOWN outside a probe (R155). -/
def wakeInDown (p : Part) : Part :=
  if p.line.config.autoStart then trainAtCeiling p
  else attend .line (modLine (fun l => { l with wakesHeard := count16 l.wakesHeard }) p)

/-- A wake burst is recognised (R148, R155, R157): in a probe it is the valley's own echo within 1 ms of the burst's start and the summit's
call later; outside a probe it starts training, or in DOWN with auto-start off is counted. DESIGN CHOICE (log entry 81): the valley sends no answer
burst for it in any state. -/
def wakeBurstHeard (p : Part) : Part :=
  match p.line.probe with
  | some pr =>
    if elapsed p.clock.now pr.start ≤ 1 then modLine (fun l => { l with probe := some { pr with echoHeard := true } }) p
    else hearAnswer pr p
  | none =>
    match p.line.state with
    | .down => wakeInDown p
    | .probing => trainAtCeiling p
    | .dormant => trainAtCeiling p
    | _ => p

/-- The latest 32 bits received are judged (R148): bits of the pattern of a wake burst or of an answer burst are such a burst recognised, and
"received bits that make up neither pattern are not a burst". -/
def hearBits (received : BitVec 32) (p : Part) : Part :=
  if isBurstOf Config.wakeOctet received then wakeBurstHeard p
  else if isBurstOf Config.answerOctet received then answerBurstHeard p
  else p

/-! ## Dormancy (R156, R157) -/

/-- The n-th sleep interval in ms: the configured interval I with an offset drawn from -I/8 to +I/8 (R157). -/
def drawInterval (l : Line) : Nat :=
  let i := 1000 * l.config.sleepSeconds
  i - i / 8 + Config.sleepDraw l.draws % (2 * (i / 8) + 1)

/-- The next sleep interval is drawn and runs from now (R157). -/
def drawSleep (p : Part) : Part :=
  modLine (fun l => { l with sleepDue := some (p.clock.now + ms (drawInterval l)), draws := l.draws + 1 }) p

/-- The line enters DORMANT: framing, probing and any backoff stop, and the diagnosis is kept (R156). -/
def enterDormant (p : Part) : Part := drawSleep (changeLine .dormant 0 (modLine stopFrames p))

/-- A sleep interval ends (R157): a probe is sent, or skipped while a LINE_PROBE's probe runs (R160). -/
def sleepEnds (p : Part) : Part := if p.line.probe.isSome then drawSleep p else drawSleep (sendProbe false p)

/-! ## Composing a valley frame (R144) -/

/-- The errored answers in the quality window (R153). -/
def qualityCount (l : Line) : Nat := l.qualityWindow.countP (fun b => b)

/-- A pattern octet of a TRAINING frame: combined with the mask in a frame of odd number (R150). -/
def trainingPattern (l : Line) (pattern : Byte) : Byte :=
  if l.frameNumber.getLsbD 0 then pattern ^^^ l.attemptMask else pattern

/-- The content of the valley frame composed now, in UP or in TRAINING (R144). DESIGN CHOICE (log entry 71): a frame sent in UP carries the
pattern octets and the glare priority configured when it is composed, those of a LINE_CONFIGURE taken in UP among them. DESIGN CHOICE (log
entry 72): the errored count sent is that of the quality window, which starts afresh at each entry into UP and after a quality event. -/
def frameContent (p : Part) : FrameContent :=
  let l := p.line
  let up := l.state == .up
  let o : Offer := if up then offerOf p.messages else {}
  { kind := if up then 2 else 1
    rate := l.rate
    mark := o.mark.code
    offer := o.serial.isSome
    accept := up && p.messages.acceptNext
    number := l.frameNumber
    word := valleyWord p
    octet := o.octet
    pattern1 := if up then l.config.pattern1 else trainingPattern l l.attemptPattern1
    pattern2 := if up then l.config.pattern2 else trainingPattern l l.attemptPattern2
    priority := BitVec.ofNat 8 l.config.glarePriority
    errored := if up then qualityCount l else 0
    voice0 := if up then presentedVoice (callSlot p 0) else List.replicate 16 Config.silence
    voice1 := if up then presentedVoice (callSlot p 1) else List.replicate 16 Config.silence }

/-- A valley frame is composed and begins (R142, R144): it is noted for the judgement of its answer, the frame number rises, and the
Message Channel's PAUSE and ACCEPT have had their frame. -/
def composeFrame (p : Part) : Part :=
  let p := if p.line.state == .up then modMsg beginTransfer p else p
  let up := p.line.state == .up
  let f := frameContent p
  let note : FrameNote :=
    { start := p.clock.now, number := f.number, rate := f.rate, pattern1 := f.pattern1, pattern2 := f.pattern2
      priority := f.priority.toNat, offered := if up then (offerOf p.messages).serial else none
      ownSeize0 := f.word.getLsbD 4, ownSeize1 := f.word.getLsbD 6 }
  let p := modLine (fun l => { l with
    frameNumber := l.frameNumber + 1, notes := l.notes ++ [note], sentWord := f.word, sentFrame := frameOctets f }) p
  modMsg (fun m => { (if up then afterFrame m else m) with acceptNext := false }) p

/-- Frames are sent in TRAINING, once an attempt has begun, and in UP (R142, R150). -/
def sendsFrames (l : Line) : Bool := l.state == .up || (l.state == .training && !l.attemptPending)

/-- The first frame tick after a reset: a line with auto-start on enters PROBING (R162). DESIGN CHOICE (log entry 73): only from DOWN with no
probe running; a line that has left DOWN by then, or on which a LINE_PROBE probes, stays as it is. -/
def autoStart (p : Part) : Part :=
  if p.line.autoStartDue then
    let p := modLine (fun l => { l with autoStartDue := false }) p
    if p.line.config.autoStart && p.line.state == .down && p.line.probe.isNone then enterProbing p else p
  else p

/-- One frame tick at the line (R142, R144, R150, R162). -/
def lineTick (p : Part) : Part :=
  let p := autoStart p
  let p := if p.line.attemptPending then beginAttempt p else p
  if sendsFrames p.line then composeFrame p else p

/-! ## Judging an answer (R143, R145, R150 to R153) -/

/-- The answer is a correct echo of the frame it answers (R150). -/
def correctEcho (l : Line) (note : FrameNote) (f : FrameContent) : Bool :=
  f.kind == 1 && f.rate == l.rate && f.number == note.number && f.pattern1 == note.pattern1 && f.pattern2 == note.pattern2 &&
    f.priority.toNat ≤ 7

/-- A correct echo (R143, R150, R151): the first of the attempt sets the line delay, and the sixteenth in a row brings the line UP. -/
def takeEcho (note : FrameNote) (f : FrameContent) (offset : Int) (p : Part) : Part :=
  let p := modLine (fun l => { l with
    echoRun := l.echoRun + 1
    lineDelay := if l.syncKnown then l.lineDelay else offset.toNat
    syncKnown := true }) p
  if 16 ≤ p.line.echoRun then enterUp f.priority.toNat note.priority p else p

/-- An answer judged in TRAINING (R145, R150): while an attempt waits for its frame tick the answer counts toward it as its first ones. -/
def judgeTraining (note : FrameNote) (f : FrameContent) (offset : Int) (good : Bool) (p : Part) : Part :=
  if good && correctEcho p.line note f then takeEcho note f offset p else modLine (fun l => { l with echoRun := 0 }) p

/-- The line is lost (R152): DOWN with diagnosis LOST, and PROBING at once with auto-start on (R155). -/
def loseLine (p : Part) : Part :=
  let p := enterDown .lost (modLine (fun l => { l with losses := count16 l.losses }) p)
  if p.line.config.autoStart then enterProbing p else p

/-- A quality event (R153): TRAINING at the next rate down, or at rate 1 the diagnosis and a fresh window. -/
def qualityFails (p : Part) : Part :=
  let p := modLine (fun l => { l with qualityEvents := count16 l.qualityEvents, diagnosis := .quality }) p
  if 1 < p.line.rate then enterTraining (p.line.rate - 1) p
  else attend .line (modLine (fun l => { l with qualityWindow := [] }) p)

/-- The quality window and the loss run after an answer in UP (R152, R153). -/
def countAnswer (errored : Bool) (l : Line) : Line :=
  { l with lossRun := if errored then l.lossRun + 1 else 0, qualityWindow := (errored :: l.qualityWindow).take 500 }

/-- Loss and quality judged after an answer in UP; a loss is acted on and a quality event of the same answer is not (R152, R153). -/
def judgeQuality (p : Part) : Part :=
  if 50 ≤ p.line.lossRun then loseLine p
  else if p.line.config.qualityThreshold < qualityCount p.line then qualityFails p
  else p

/-- The accepted word and the candidate after a good word (R146): a bit is accepted when it is as in the good frame before. -/
def acceptWord (word : Half) (l : Line) : Line :=
  let agreed := match l.candidate with
    | none => (0 : Half)
    | some c => ~~~(c ^^^ word)
  { l with accepted := (l.accepted &&& ~~~agreed) ||| (word &&& agreed), candidate := some word, lastWord := word }

/-- The indication word of a good answer in UP (R146): at an accepted change INDICATION is set and the Supervisor takes the change
(R130, R131). DESIGN CHOICE (log entry 66): of the indications accepted in one answer STOP_SERVICE is acted on first, then STOP_FAST, then
WIND_WARNING. -/
def takeWord (word : Half) (p : Part) : Part :=
  let old := p.line.accepted
  let p := modLine (acceptWord word) p
  if p.line.accepted == old then p else refreshWindCap (refreshSummitStops (attend .indication p))

/-- What the Call Unit plays of an answer: the voice octets of each slot carried (R145, R174). -/
def playVoices (rate : Nat) (v0 v1 : List Byte) (p : Part) : Part :=
  let p := if carries rate 0 then playVoice 0 v0 p else p
  if carries rate 1 then playVoice 1 v1 p else p

/-- A good answer in UP hands its contents on (R145). DESIGN CHOICE (log entry 77): the indication word comes first, so that an alert call
request that it sets off (R139) meets V0 before V0 takes this answer's bits and free run. -/
def useAnswer (note : FrameNote) (f : FrameContent) (p : Part) : Part :=
  let p := modLine (fun l => { l with farErrored := f.errored }) p
  let p := takeWord f.word p
  let p := messagesGood note.offered f.accept (if f.offer then some (f.octet, readMark f.mark) else none) p
  let p := callGoodAnswer 1 f.word note.ownSeize1 (callGoodAnswer 0 f.word note.ownSeize0 p)
  playVoices note.rate f.voice0 f.voice1 p

/-- An errored answer in UP (R143): the Message Channel is handed the note, each voice slot carried sixteen silence octets. -/
def useErrored (note : FrameNote) (p : Part) : Part :=
  let silence := List.replicate 16 Config.silence
  playVoices note.rate silence silence (messagesErrored p)

/-- The answer to a valley frame, or its absence, is judged (R143). -/
def judgeAnswer (note : FrameNote) (frame : Option SummitFrame) (p : Part) : Part :=
  let got := frame.getD { offset := 0, octets := [] }
  let good := frameGood p.line note got
  let f := readFrame note.rate got.octets
  let p := modLine (fun l => { l with
    goodAnswers := if good then l.goodAnswers + 1 else l.goodAnswers
    erroredAnswers := if good then l.erroredAnswers else l.erroredAnswers + 1 }) p
  if p.line.state == .up then
    let p := modLine (countAnswer (!good)) p
    judgeQuality (if good then useAnswer note f p else useErrored note p)
  else judgeTraining note f got.offset good p

/-- An answer is due: a valley frame has been out for 3 ms and its answer has not been judged (R142). -/
def answerDue (l : Line) (now : Time) : Bool :=
  (l.state == .training || l.state == .up) &&
    (match l.notes with
     | [] => false
     | n :: _ => 3 ≤ elapsed now n.start)

/-- The answer to the oldest valley frame outstanding is judged. -/
def takeAnswer (frame : Option SummitFrame) (p : Part) : Part :=
  match p.line.notes with
  | [] => p
  | n :: rest => judgeAnswer n frame (modLine (fun l => { l with notes := rest }) p)

end Sys2Proof.Machine
end

