-- ==== Sys2Proof/Machine/Settle.lean ====
section
/-! DEFINITION. The end of every event: the judgements that it has called for, the tones and the output pins; and the form in which every
event and every order acts on the state. -/

namespace Sys2Proof.Machine

/-! ## The judgements an event calls for (R65, R96, R108) -/

/-- One judgement called for: Launch Control's first, then the arbiter's, then the Door Sequencer's (log entry 4). -/
def settleOnce (p : Part) : Part :=
  if p.work.launch then judgeLaunch { p with work := { p.work with launch := false } }
  else if p.work.arbiter then judgeArbiter { p with work := { p.work with arbiter := false } }
  else if p.work.sequencer then judgeSequencer false { p with work := { p.work with sequencer := false } }
  else p

/-- No judgement is called for. -/
def Work.quiet (w : Work) : Bool := !w.launch && !w.arbiter && !w.sequencer

/-- The judgements called for, until none is. An event calls for few: a judgement of Launch Control makes at most one request, the arbiter
gives at most eight grants, and the Door Sequencer issues at most one action to a channel (log entry 4). Where the bound is met, which no
reached state does, Launch Control still judges. -/
def settle : Nat → Part → Part
  | 0, p => if p.work.launch then judgeLaunch p else p
  | n + 1, p => if p.work.quiet then p else settle n (settleOnce p)

/-- The end of an event: what it has called for is judged, the tones begin that the call states ask for (R174), and the output pins follow
the state (R124, R191). -/
def finish (p : Part) : Part :=
  refreshPins (refreshTone 1 (refreshTone 0 { settle 64 p with work := {} }))

/-! ## Events -/

/-- The outcome of a command that changes nothing or changes the part. -/
abbrev Answered := Host.Outcome State Fault Refusal

/-- An event acts on the part. While a software reset is carried out no block acts (R198); and where what the command names has not come
about (`guard` is false), nothing happens (log entry 1). -/
def occurs (guard : Part → Bool) (f : Part → Part) (s : State) : Answered :=
  if s.before.isSome || !guard s.part then .next s else .next { s with part := finish (f s.part) }

/-! ## The taking of an order (R193) -/

/-- The order slot. -/
def slotOf (p : Part) (i : SlotNo) : Slot := p.window.slots.get i

/-- The slot is the head of the intake list and its kind octet is one that `kinds` names: the Order Intake takes this order next. -/
def orderNext (i : SlotNo) (kinds : Byte → Bool) (p : Part) : Bool :=
  p.window.intake.head? == some i && kinds (slotOf p i).kind

/-- The head leaves the intake list and its slot becomes TAKEN (R193). -/
def takeHead (i : SlotNo) (p : Part) : Part :=
  modSlot i (fun s => { s with state := .taken }) { p with window := { p.window with intake := p.window.intake.tail } }

/-- An order that its block answers at once, with a result, a detail and the part as the order leaves it. -/
structure Reply where
  result : Result
  detail : Nat := 0
  part : Part

/-- A refusal changes nothing. -/
def refuse (r : Result) (detail : Nat) (p : Part) : Reply := { result := r, detail := detail, part := p }

/-- OK with detail 0. -/
def ok (p : Part) : Reply := { result := .ok, part := p }

/-- CLAMPED with the count of what was clamped, or OK with detail 0. -/
def clampedBy (n : Nat) (p : Part) : Reply := if n == 0 then ok p else { result := .clamped, detail := n, part := p }

/-- An order answered at once (R193, R194): taken from the head of the intake list, carried out, and answered. -/
def atOnce (i : SlotNo) (kind : Byte) (body : Slot → Part → Reply) (s : State) : Answered :=
  occurs (orderNext i (fun k => k == kind)) (fun p =>
    let r := body (slotOf p i) (takeHead i p)
    answer i r.result r.detail r.part) s

/-- A long-running order (R193): answered NO_CAPACITY where 24 are held already, otherwise handed to its block, which answers or holds
it. -/
def longRunning (i : SlotNo) (kind : Byte) (body : Slot → Part → Part) (s : State) : Answered :=
  occurs (orderNext i (fun k => k == kind)) (fun p =>
    if Config.longOrdersMax ≤ longOrdersHeld p.window then answer i .noCapacity 0 (takeHead i p)
    else body (slotOf p i) (takeHead i p)) s

end Sys2Proof.Machine
end

