-- ==== Sys2Proof/Machine/TrackOrders.lean ====
section
/-! DEFINITION. The orders to the Track Monitor (R18 to R23). -/

namespace Sys2Proof.Machine

/-- The mode is OFF. -/
def isOff (p : Part) : Bool := p.sup.mode == .off

/-- A cabin in one of the two lists: its place is IN_STATION or ON_LINE. -/
def CabinRecord.listed (c : CabinRecord) : Bool := c.place == .inStation || c.place == .onLine

/-! ## CABIN_REGISTER (R18) -/

/-- A registered cabin's in-service flag is set; an unregistered one's record is set up fresh (R18). -/
def registerCabin (k : Nat) (service : Bool) (p : Part) : Part :=
  modCabin k (fun c => if c.registered then { c with inService := service } else { registered := true, inService := service }) p

/-- CABIN_REGISTER (R18). -/
def orderCabinRegister (s : Slot) (p : Part) : Reply :=
  let k := octet s 0
  if !isCabin k then refuse .refusedRange 0 p
  else if !isOff p then refuse .refusedState 0 p
  else ok (registerCabin k (flag s 1) p)

/-- CABIN_REGISTER. -/
def execCabinRegister (i : SlotNo) (s : State) : Answered := atOnce i 0x10 orderCabinRegister s

/-! ## CABIN_UNREGISTER, CABIN_PLACE (R19) -/

/-- CABIN_UNREGISTER (R19). -/
def orderCabinUnregister (s : Slot) (p : Part) : Reply :=
  let k := octet s 0
  if !isCabin k then refuse .refusedRange 0 p
  else if !isOff p || !(cabin p k).registered || (cabin p k).listed then refuse .refusedState 0 p
  else ok (modCabin k (fun c => { c with registered := false, inService := false, place := .unknown, mark := .none }) p)

/-- CABIN_UNREGISTER. -/
def execCabinUnregister (i : SlotNo) (s : State) : Answered := atOnce i 0x11 orderCabinUnregister s

/-- A place that CABIN_PLACE may give: UNKNOWN coded 0, GARAGED coded 1 (R19, section 11.6). -/
def readPlace (n : Nat) : Option Place :=
  match n with
  | 0 => some .unknown
  | 1 => some .garaged
  | _ => none

/-- CABIN_PLACE (R19). -/
def orderCabinPlace (s : Slot) (p : Part) : Reply :=
  let k := octet s 0
  if !isCabin k then refuse .refusedRange 0 p
  else
    match readPlace (octet s 1) with
    | none => refuse .refusedRange 0 p
    | some pl =>
      if !isOff p || !(cabin p k).registered || (cabin p k).listed then refuse .refusedState 0 p
      else ok (setPlace k pl p)

/-- CABIN_PLACE. -/
def execCabinPlace (i : SlotNo) (s : State) : Answered := atOnce i 0x12 orderCabinPlace s

/-! ## CABIN_SET_SERVICE (R20) -/

/-- CABIN_SET_SERVICE (R20). -/
def orderCabinSetService (s : Slot) (p : Part) : Reply :=
  let k := octet s 0
  if !isCabin k then refuse .refusedRange 0 p
  else if !(cabin p k).registered then refuse .refusedState 0 p
  else ok (modCabin k (fun c => { c with inService := flag s 1 }) p)

/-- CABIN_SET_SERVICE. -/
def execCabinSetService (i : SlotNo) (s : State) : Answered := atOnce i 0x13 orderCabinSetService s

/-! ## CABIN_IDENTIFY (R21) -/

/-- The entry of a position counted from 1 at the oldest. -/
def entryAt (p : Part) (pos : Nat) : Option QueueEntry := if pos == 0 then none else p.track.queue[pos - 1]?

/-- An entry is identified as cabin `k` (R21, R114). -/
def identifyEntry (e : QueueEntry) (k : Nat) (p : Part) : Part :=
  identifyLock e k (attend .track (setPlace k .inStation (modEntry e.serial (fun x => { x with cabin := k }) p)))

/-- CABIN_IDENTIFY (R21). -/
def orderCabinIdentify (s : Slot) (p : Part) : Reply :=
  let k := octet s 1
  match entryAt p (octet s 0) with
  | none => refuse .refusedRange 0 p
  | some e =>
    if !isCabin k then refuse .refusedRange 0 p
    else if e.cabin != 0 || !(cabin p k).registered || inQueue p k || onRoster p k then refuse .refusedState 0 p
    else ok (identifyEntry e k p)

/-- CABIN_IDENTIFY. -/
def execCabinIdentify (i : SlotNo) (s : State) : Answered := atOnce i 0x14 orderCabinIdentify s

/-! ## ROSTER_LOAD (R22) -/

/-- The position, from 1, of the first item of a list that fails a check given the items before it; none where all pass. -/
def firstFailing {α : Type} (bad : List α → α → Bool) : List α → List α → Nat → Option Nat
  | _, [], _ => none
  | before, x :: t, n => if bad before x then some n else firstFailing bad (before ++ [x]) t (n + 1)

/-- The position of the item that refuses a list order by one group of checks: the checks are made in the order in which the rule names them
(R196), each over the whole list, and the first that fails gives the first item that fails it (section 1.11, log entry 16). -/
def firstRefused {α : Type} (checks : List (List α → α → Bool)) (l : List α) : Option Nat :=
  checks.findSome? (fun bad => firstFailing bad [] l 1)

/-- The checks of a ROSTER_LOAD's numbers that answer REFUSED_RANGE, as R22 names them: a number of 0 or above 128; a number that occurs twice.
DESIGN CHOICE (log entry 56): of two occurrences of a number the second is the item that fails. -/
def badRosterNumber : List (List Nat → Nat → Bool) := [fun _ k => !isCabin k, fun before k => before.contains k]

/-- The checks of a ROSTER_LOAD's numbers that answer REFUSED_STATE, as R22 names them: not registered; in the station queue; with APPEND, in
the roster; with APPEND, beyond the 128 that the roster holds. -/
def badRosterCabin (p : Part) (append : Bool) : List (List Nat → Nat → Bool) :=
  [fun _ k => !(cabin p k).registered, fun _ k => inQueue p k, fun _ k => append && onRoster p k,
    fun before _ => append && decide (Config.rosterMax ≤ p.track.roster.length + before.length)]

/-- REPLACE empties the roster; a cabin removed that is not in the new list takes place UNKNOWN (R22). -/
def emptyRoster (new : List Nat) (p : Part) : Part :=
  let gone := p.track.roster.filter (fun e => !new.contains e.cabin)
  gone.foldl (fun p e => setPlace e.cabin .unknown p) (setRoster [] p)

/-- The listed numbers are appended at the roster's tail (R22). -/
def loadRoster (append : Bool) (new : List Nat) (p : Part) : Part :=
  new.foldl (fun p k => joinRoster k p) (if append then p else emptyRoster new p)

/-- ROSTER_LOAD (R22): action (0 REPLACE, 1 APPEND), count, and the numbers in launch order. -/
def orderRosterLoad (s : Slot) (p : Part) : Reply :=
  let append := octet s 0 == 1
  let n := octet s 1
  if 1 < octet s 0 || 118 < n then refuse .refusedRange 0 p
  else
    let l := readNumbers s 2 n
    match firstRefused badRosterNumber l with
    | some j => refuse .refusedRange j p
    | none =>
      if !isOff p then refuse .refusedState 0 p
      else
        match firstRefused (badRosterCabin p append) l with
        | some j => refuse .refusedState j p
        | none => ok (loadRoster append l p)

/-- ROSTER_LOAD. -/
def execRosterLoad (i : SlotNo) (s : State) : Answered := atOnce i 0x15 orderRosterLoad s

/-! ## STATION_QUEUE_LOAD (R23) -/

/-- A pair's segment is higher than that of the pair before it (R23). -/
def outOfOrder (before : List (Nat × Nat)) (x : Nat × Nat) : Bool :=
  match before.getLast? with
  | none => false
  | some y => y.2 < x.2

/-- The checks of a STATION_QUEUE_LOAD's pairs that answer REFUSED_RANGE, as R23 names them: a number above 128; a segment outside S1 to S6; a
number from 1 to 128 that occurs twice; a segment higher than that of the pair before it. DESIGN CHOICE (log entry 56): of two pairs with one
number the second is the item that fails. -/
def badPair : List (List (Nat × Nat) → Nat × Nat → Bool) :=
  [fun _ x => 128 < x.1, fun _ x => !(1 ≤ x.2 && x.2 ≤ 6), fun before x => x.1 != 0 && before.any (fun y => y.1 == x.1), outOfOrder]

/-- The checks of a pair that answer REFUSED_STATE, as R23 names them: a numbered cabin that is not registered; one in the line roster. -/
def badPairCabin (p : Part) : List (List (Nat × Nat) → Nat × Nat → Bool) :=
  [fun _ x => x.1 != 0 && !(cabin p x.1).registered, fun _ x => x.1 != 0 && onRoster p x.1]

/-- The entries of the listed pairs, with serials from `first` on and the present time (R23). -/
def newEntries (now : Time) : Nat → List (Nat × Nat) → List QueueEntry
  | _, [] => []
  | first, x :: t => { serial := first, cabin := x.1, segment := x.2, entered := now } :: newEntries now (first + 1) t

/-- The station queue is replaced as a whole (R7, R15, R23, R114). -/
def loadQueue (l : List (Nat × Nat)) (p : Part) : Part :=
  let old := p.track.queue
  let new := l.map (fun x => x.1)
  let first := p.track.nextSerial
  let p := (old.filter (fun e => !new.contains e.cabin)).foldl (fun p e => setPlace e.cabin .unknown p) p
  let p := setQueue (newEntries p.clock.now first l) (modTrack (fun t => { t with nextSerial := first + l.length, matcher := .empty }) p)
  let p := new.foldl (fun p k => setPlace k .inStation p) p
  recountQueue (recountHold false (sequencerLoad old new p))

/-- STATION_QUEUE_LOAD (R23): count, and the pairs oldest first. -/
def orderStationQueueLoad (s : Slot) (p : Part) : Reply :=
  let n := octet s 0
  if Config.queueMax < n then refuse .refusedRange 0 p
  else
    let l := readPairs s 1 n
    match firstRefused badPair l with
    | some j => refuse .refusedRange j p
    | none =>
      if !isOff p then refuse .refusedState 0 p
      else
        match firstRefused (badPairCabin p) l with
        | some j => refuse .refusedState j p
        | none => ok (loadQueue l p)

/-- STATION_QUEUE_LOAD. -/
def execStationQueueLoad (i : SlotNo) (s : State) : Answered := atOnce i 0x16 orderStationQueueLoad s

end Sys2Proof.Machine
end

