-- ==== Sys2Proof/Machine/DoorOrders.lean ====
section
/-! DEFINITION. The orders to the Sensor Scanner, the Door Drive Unit and the Door Sequencer (R49, R79, R80, R94, R97 to R99, R103, R115). -/

namespace Sys2Proof.Machine

/-! ## SENSOR_CONFIGURE (R49) -/

/-- SENSOR_CONFIGURE (R49): channel 1 to 8, kind, category. -/
def orderSensorConfigure (s : Slot) (p : Part) : Reply :=
  match readSwitch (octet s 0), readSwitchKind (octet s 1), readCategory (octet s 2) with
  | none, _, _ => refuse .refusedRange 1 p
  | some _, none, _ => refuse .refusedRange 2 p
  | some _, some _, none => refuse .refusedRange 3 p
  | some i, some k, some cat =>
    if !isOff p then refuse .refusedState 0 p
    else clampedBy (if k == .general && cat != .none then 1 else 0) (configureSwitch i k cat p)

/-- SENSOR_CONFIGURE. -/
def execSensorConfigure (i : SlotNo) (s : State) : Answered := atOnce i 0x20 orderSensorConfigure s

/-! ## DOOR_CONFIGURE (R79, R80) -/

/-- A channel in FAULT whose new kind is NONE leaves FAULT by its limits and its DOOR_FAULT condition is gone (R80, R81). -/
def leaveFaultAsNone (n : ChannelNo) (p : Part) : Part :=
  let c := channel p n
  if c.state == .fault && c.config.kind == .none then
    gone .doorFault n.val (restIn n (noneState c.limA.high c.limB.high) p)
  else p

/-- A DOOR_CONFIGURE that is taken (R80): the configuration is replaced, a change of kind removes the pending actions of the channel, and
the DOOR cap follows. -/
def configureDoor (n : ChannelNo) (cfg : DoorConfig) (p : Part) : Part :=
  let kindChanged := (channel p n).config.kind != cfg.kind
  let p := attend .door (modChannel n (fun c => { c with config := cfg }) p)
  let p := if kindChanged then removeActions (fun a => a.channel == n) false p else p
  refreshDoorCap (leaveFaultAsNone n p)

/-- DOOR_CONFIGURE (R79): the channel and the fields of its table. -/
def orderDoorConfigure (s : Slot) (p : Part) : Reply :=
  match readChannel (octet s 0) with
  | none => refuse .refusedRange 0 p
  | some n =>
    match readDoorConfig s with
    | .error j => refuse .refusedRange j p
    | .ok (cfg, clamped) =>
      if !isOff p || !(channel p n).state.atRest then refuse .refusedState 0 p
      else clampedBy clamped (configureDoor n cfg p)

/-- DOOR_CONFIGURE. -/
def execDoorConfigure (i : SlotNo) (s : State) : Answered := atOnce i 0x30 orderDoorConfigure s

/-! ## DOOR_MOVE (R98) -/

/-- A DOOR_MOVE owns the channel; its progress field shows the retries used. -/
def claimForOrder (i : SlotNo) (n : ChannelNo) (p : Part) : Part :=
  setProgress i 0 (modChannel n (fun c => { c with owner := .order i }) p)

/-- DOOR_MOVE (R98): channel and target (1 A, 2 B). -/
def orderDoorMove (i : SlotNo) (s : Slot) (p : Part) : Part :=
  match readChannel (octet s 0), readTarget (octet s 1) with
  | none, _ => answer i .refusedRange 1 p
  | some _, none => answer i .refusedRange 2 p
  | some n, some t =>
    if (channel p n).config.kind == .none then answer i .refusedState 1 p
    else if (channel p n).state == .fault then answer i .refusedState 2 p
    else if (channel p n).config.kind.isCabin && !isOff p then answer i .refusedState 3 p
    else takeOperation n t (claimForOrder i n) p

/-- DOOR_MOVE. -/
def execDoorMove (i : SlotNo) (s : State) : Answered := longRunning i 0x31 (orderDoorMove i) s

/-! ## DOOR_HALT (R91, R99) -/

/-- A channel is halted whatever its owner, which is superseded (R91, R98 to R100). -/
def haltDoor (n : ChannelNo) (p : Part) : Part := haltChannel n (tellOwner n .interrupted p)

/-- DOOR_HALT (R99): the answer's detail is the channel's state after the halt. -/
def orderDoorHalt (s : Slot) (p : Part) : Reply :=
  match readChannel (octet s 0) with
  | none => refuse .refusedRange 0 p
  | some n =>
    if (channel p n).config.kind == .none then refuse .refusedState 0 p
    else
      let p := haltDoor n p
      { result := .ok, detail := (channel p n).state.code, part := p }

/-- DOOR_HALT. -/
def execDoorHalt (i : SlotNo) (s : State) : Answered := atOnce i 0x32 orderDoorHalt s

/-! ## DOOR_RESET_FAULT (R94) -/

/-- A channel leaves FAULT to the state that its limits show (R94). -/
def resetFault (n : ChannelNo) (p : Part) : Part :=
  let c := channel p n
  let p :=
    if c.limA.high then standAt n .a p
    else if c.limB.high then standAt n .b p
    else modChannel n (fun c => { c with state := .unknown }) p
  attend .door (refreshDoorCap (gone .doorFault n.val p))

/-- DOOR_RESET_FAULT (R94). -/
def orderDoorResetFault (s : Slot) (p : Part) : Reply :=
  match readChannel (octet s 0) with
  | none => refuse .refusedRange 0 p
  | some n =>
    let c := channel p n
    if c.state != .fault then refuse .refusedState 1 p
    else if c.limA.high && c.limB.high then refuse .refusedState 2 p
    else ok (resetFault n p)

/-- DOOR_RESET_FAULT. -/
def execDoorResetFault (i : SlotNo) (s : State) : Answered := atOnce i 0x33 orderDoorResetFault s

/-! ## START_BUDGET_SET (R97) -/

/-- The start budget is set, and the arbiter judges the queue at once (R97). -/
def setBudget (b w : Nat) (p : Part) : Part := callArbiter { p with doors := { p.doors with budget := b, window := w } }

/-- START_BUDGET_SET (R97): B and W, two octets each. -/
def orderStartBudgetSet (s : Slot) (p : Part) : Reply :=
  let b := clampNat 1 8 (word16 s 0)
  let w := clampNat 200 5000 (word16 s 2)
  clampedBy (countDiffers [word16 s 0, word16 s 2] [b, w]) (setBudget b w p)

/-- START_BUDGET_SET. -/
def execStartBudgetSet (i : SlotNo) (s : State) : Answered := atOnce i 0x34 orderStartBudgetSet s

/-! ## DOOR_PROGRAM_LOAD (R103) -/

/-- A program entry as loaded: its fields within their values, its channel not of kind NONE, and for a cabin operator TO_B with a trigger
not beyond the reach segment; the delay clamped to 5,000 ms (R103). -/
def loadEntry (p : Part) (r : RawEntry) : Option ProgramEntry :=
  match readChannel r.channel, readEnd r.action, readCondition r.condition with
  | some n, some e, some c =>
    let cfg := (channel p n).config
    if !(1 ≤ r.trigger && r.trigger ≤ 7) || cfg.kind == .none then none
    else if cfg.kind.isCabin && (e == .a || cfg.reach < r.trigger) then none
    else some { trigger := r.trigger, channel := n, action := e, delay := clampNat 0 5000 r.delay, condition := c }
  | _, _, _ => none

/-- The table of 24 entries of a list; those beyond it are unused (R103). -/
def programOf (p : Part) (l : List RawEntry) : Vector (Option ProgramEntry) 24 :=
  Vector.ofFn (fun i : Fin 24 => (l[i.val]?).bind (loadEntry p))

/-- DOOR_PROGRAM_LOAD (R103): count, and the entries in program order. -/
def orderDoorProgramLoad (s : Slot) (p : Part) : Reply :=
  let n := octet s 0
  if 24 < n then refuse .refusedRange 0 p
  else
    let l := readEntries s n
    match firstFailing (fun _ r => (loadEntry p r).isNone) [] l 1 with
    | some j => refuse .refusedRange j p
    | none =>
      if !isOff p then refuse .refusedState 0 p
      else clampedBy (l.countP (fun r => 5000 < r.delay)) (attend .door (modSeq (fun q => { q with program := programOf p l }) p))

/-- DOOR_PROGRAM_LOAD. -/
def execDoorProgramLoad (i : SlotNo) (s : State) : Answered := atOnce i 0x35 orderDoorProgramLoad s

/-! ## CABIN_DOOR_CONFIRM (R115) -/

/-- The attendant's confirmation (R113, R115): LOCKED, the CABIN_DOOR_UNLOCKED condition gone, and the confirmation recorded. -/
def confirmDoor (k attendant : Nat) (p : Part) : Part :=
  endUnlocked k (setDoor k .locked (modSeq (fun q => { q with
    lastConfirmation := some { cabin := k, attendant := attendant, time := p.clock.now }
    confirmations := count16 q.confirmations }) p))

/-- CABIN_DOOR_CONFIRM (R115): cabin number and attendant code. -/
def orderCabinDoorConfirm (s : Slot) (p : Part) : Reply :=
  let k := octet s 0
  let attendant := word16 s 1
  if !isCabin k then refuse .refusedRange 1 p
  else if attendant == 0 then refuse .refusedRange 2 p
  else
    match entryOfCabin p k with
    | none => refuse .refusedState 1 p
    | some e => if e.segment != 4 then refuse .refusedState 2 p else ok (confirmDoor k attendant p)

/-- CABIN_DOOR_CONFIRM. -/
def execCabinDoorConfirm (i : SlotNo) (s : State) : Answered := atOnce i 0x36 orderCabinDoorConfirm s

end Sys2Proof.Machine
end

