-- ==== Sys2Proof/Machine/StationOrders.lean ====
section
/-! DEFINITION. The orders to the Station Supervisor (R118 to R120, R128, R129, R136, R137). -/

namespace Sys2Proof.Machine

/-- An OK with a detail. -/
def okDetail (d : Nat) (p : Part) : Reply := { result := .ok, detail := d, part := p }

/-! ## Mode orders (R118 to R120, R129) -/

/-- STATION_PREPARE (R118). -/
def orderStationPrepare (_ : Slot) (p : Part) : Reply :=
  if !isOff p then refuse .refusedState 0 p
  else
    match prepareConditionFails p with
    | some n => refuse .refusedState n p
    | none => okDetail 1 (changeMode .ready p)

/-- STATION_PREPARE. -/
def execStationPrepare (i : SlotNo) (s : State) : Answered := atOnce i 0x40 orderStationPrepare s

/-- The mode becomes STARTING and the start-up timer of 10 s starts (R119). -/
def beginStarting (p : Part) : Part :=
  modSup (fun u => { u with startTimer := some (p.clock.now + ms 10000) }) (changeMode .starting p)

/-- STATION_START (R119). -/
def orderStationStart (_ : Slot) (p : Part) : Reply :=
  if p.sup.mode != .ready then refuse .refusedState 0 p
  else
    match startConditionFails p with
    | some n => refuse .refusedState n p
    | none => okDetail 2 (beginStarting p)

/-- STATION_START. -/
def execStationStart (i : SlotNo) (s : State) : Answered := atOnce i 0x41 orderStationStart s

/-- STATION_STOP (R120). DEDUCED (log entry 70): the detail is 4 also where the stop ends in the same event (R122), as R120 says; the opening
of section 7.1 would have the code of the mode after the order. -/
def orderStationStop (_ : Slot) (p : Part) : Reply :=
  if p.sup.mode.isRunning then okDetail 4 (changeMode .stoppingService p)
  else if p.sup.mode.isStopping then okDetail p.sup.mode.code p
  else refuse .refusedState 0 p

/-- STATION_STOP. -/
def execStationStop (i : SlotNo) (s : State) : Answered := atOnce i 0x42 orderStationStop s

/-- STATION_FAST_STOP (R129): the answer's detail is the mode after the order. -/
def orderStationFastStop (_ : Slot) (p : Part) : Reply :=
  let p := report .hostFastStop 0 .fast false p
  okDetail p.sup.mode.code p

/-- STATION_FAST_STOP. -/
def execStationFastStop (i : SlotNo) (s : State) : Answered := atOnce i 0x43 orderStationFastStop s

/-- STATION_OFF (R120). -/
def orderStationOff (_ : Slot) (p : Part) : Reply :=
  match p.sup.mode with
  | .off => ok p
  | .ready => ok (changeMode .off p)
  | .stopped => ok (changeMode .off p)
  | _ => refuse .refusedState 0 p

/-- STATION_OFF. -/
def execStationOff (i : SlotNo) (s : State) : Answered := atOnce i 0x44 orderStationOff s

/-! ## CAUSE_ACKNOWLEDGE (R128) -/

/-- CAUSE_ACKNOWLEDGE (R128): the answer's detail is the number of entries left. -/
def orderCauseAcknowledge (_ : Slot) (p : Part) : Reply :=
  let p := attend .stopCause (modSup acknowledge p)
  let n := p.sup.causes.length
  okDetail n (if p.sup.mode == .stopped && n == 0 then changeMode .off p else p)

/-- CAUSE_ACKNOWLEDGE. -/
def execCauseAcknowledge (i : SlotNo) (s : State) : Answered := atOnce i 0x45 orderCauseAcknowledge s

/-! ## Profiles (R136, R137) -/

/-- A profile is replaced as a whole. -/
def writeProfile (n : ProfileName) (f : Profile) (p : Part) : Part :=
  modSup (fun u =>
    match n with
    | .a => { u with profileA := f }
    | .b => { u with profileB := f }) p

/-- PROFILE_WRITE (R136): the profile (0 A, 1 B) and its 25 fields. -/
def orderProfileWrite (s : Slot) (p : Part) : Reply :=
  match readProfileName (octet s 0) with
  | none => refuse .refusedRange 0 p
  | some n =>
    if p.sup.active == n && !isOff p then refuse .refusedState 1 p
    else if p.sup.pendingSwitch == some n then refuse .refusedState 2 p
    else clampedBy (profileClamped (readProfile s 1)) (writeProfile n (clampProfile (readProfile s 1)) p)

/-- PROFILE_WRITE. -/
def execProfileWrite (i : SlotNo) (s : State) : Answered := atOnce i 0x46 orderProfileWrite s

/-- A switch asked for in RUN (R137): pending, or cancelled by a switch to the active profile. -/
def switchInRun (n : ProfileName) (p : Part) : Reply :=
  if p.sup.active == n then ok (modSup (fun u => { u with pendingSwitch := none }) p)
  else okDetail 1 (modSup (fun u => { u with pendingSwitch := some n }) p)

/-- PROFILE_SWITCH (R137). -/
def orderProfileSwitch (s : Slot) (p : Part) : Reply :=
  match readProfileName (octet s 0) with
  | none => refuse .refusedRange 0 p
  | some n =>
    match p.sup.mode with
    | .starting => refuse .busy 0 p
    | .stoppingService => refuse .busy 0 p
    | .stoppingFast => refuse .busy 0 p
    | .run => switchInRun n p
    | _ => if p.sup.active == n then ok p else ok (applySwitch n p)

/-- PROFILE_SWITCH. -/
def execProfileSwitch (i : SlotNo) (s : State) : Answered := atOnce i 0x47 orderProfileSwitch s

end Sys2Proof.Machine
end

