-- ==== Sys2Proof/Machine/LineOrders.lean ====
section
/-! DEFINITION. The orders to the Summit Line Interface, the Message Channel and the Call Unit, and the order of unknown kind (R147, R156,
R158 to R160, R167, R183 to R185, R193). -/

namespace Sys2Proof.Machine

/-! ## LINE_CONFIGURE (R158) -/

/-- The configuration is stored: auto-start turned off stops the backoff, auto-start turned on in DOWN enters PROBING, but not while a
LINE_PROBE's probe runs (R158). -/
def configureLine (c : LineConfig) (p : Part) : Part :=
  let was := p.line.config.autoStart
  let p := modLine (fun l => { l with config := c, backoff := if c.autoStart then l.backoff else none }) p
  if c.autoStart && !was && p.line.state == .down && p.line.probe.isNone then enterProbing p else p

/-- LINE_CONFIGURE (R158). -/
def orderLineConfigure (s : Slot) (p : Part) : Reply := clampedBy (lineConfigClamped s) (configureLine (readLineConfig s) p)

/-- LINE_CONFIGURE. -/
def execLineConfigure (i : SlotNo) (s : State) : Answered := atOnce i 0x50 orderLineConfigure s

/-! ## LINE_START (R159) -/

/-- A LINE_START or a LINE_PROBE is in flight. -/
def lineBusy (l : Line) : Bool := l.startOrder.isSome || l.probeOrder.isSome

/-- LINE_START acts by the line state (the sentences of R159 from "In DOWN"), with the ceiling and the diagnosis already set and the order
in flight. -/
def startLine (p : Part) : Part :=
  match p.line.state with
  | .down => enterProbing p
  | .probing => modLine (fun l => { l with probeCount := 0 }) p
  | .training => trainAtCeiling p
  | .up => if p.line.rate == p.line.config.rateCeiling then answerStart .ok 0 p else trainAtCeiling p
  | .dormant => trainAtCeiling p

/-- LINE_START (R159): a rate ceiling from 1 to 3, or 0 to keep the configured one. -/
def orderLineStart (i : SlotNo) (s : Slot) (p : Part) : Part :=
  let c := octet s 0
  if 3 < c then answer i .refusedRange 0 p
  else if lineBusy p.line then answer i .busy 0 p
  else startLine (modLine (fun l => { l with
    config := if c == 0 then l.config else { l.config with rateCeiling := c }
    diagnosis := .none, startOrder := some i }) p)

/-- LINE_START. -/
def execLineStart (i : SlotNo) (s : State) : Answered := longRunning i 0x51 (orderLineStart i) s

/-! ## LINE_PROBE (R160) -/

/-- LINE_PROBE (R160): a probe for the order; a backoff under way ends. -/
def orderLineProbe (i : SlotNo) (_ : Slot) (p : Part) : Part :=
  if p.line.state != .down && p.line.state != .dormant then answer i .refusedState 0 p
  else if lineBusy p.line then answer i .busy 0 p
  else sendProbe true (modLine (fun l => { l with backoff := none, probeOrder := some i }) p)

/-- LINE_PROBE. -/
def execLineProbe (i : SlotNo) (s : State) : Answered := longRunning i 0x52 (orderLineProbe i) s

/-! ## LINE_DORMANT (R156) -/

/-- A voice slot has a call: it is neither IDLE nor UNAVAILABLE. -/
def hasCall (c : CallSlot) : Bool := c.state != .idle && c.state != .unavailable

/-- The detail of the first condition of LINE_DORMANT that does not hold (R156). -/
def dormantFails (p : Part) : Option Nat :=
  if !isOff p then some 1
  else if hasCall (callSlot p 0) || hasCall (callSlot p 1) then some 2
  else if messageInTransfer p.messages then some 3
  else if p.line.startOrder.isSome then some 4
  else if p.line.probeOrder.isSome then some 5
  else none

/-- LINE_DORMANT (R156). -/
def orderLineDormant (_ : Slot) (p : Part) : Reply :=
  match dormantFails p with
  | some n => refuse .refusedState n p
  | none => if p.line.state == .dormant then ok p else ok (enterDormant p)

/-- LINE_DORMANT. -/
def execLineDormant (i : SlotNo) (s : State) : Answered := atOnce i 0x53 orderLineDormant s

/-! ## LINE_SET_INDICATIONS (R147) -/

/-- LINE_SET_INDICATIONS (R147). -/
def orderLineSetIndications (s : Slot) (p : Part) : Reply :=
  if 15 < octet s 0 then refuse .refusedRange 0 p
  else ok (modLine (fun l => { l with generalBits := BitVec.ofNat 4 (octet s 0) }) p)

/-- LINE_SET_INDICATIONS. -/
def execLineSetIndications (i : SlotNo) (s : State) : Answered := atOnce i 0x54 orderLineSetIndications s

/-! ## MESSAGE_SEND (R167) -/

/-- The octets of a message: `n` octets from parameter octet 2 on. -/
def messageOctets (s : Slot) (n : Nat) : List Byte := (List.range n).map (fun j => BitVec.ofNat 8 (octet s (2 + j)))

/-- MESSAGE_SEND (R167): a length in two octets and that many octets, the type first. -/
def orderMessageSend (i : SlotNo) (s : Slot) (p : Part) : Part :=
  let n := word16 s 0
  if n == 0 || Config.messageMax < n then answer i .refusedRange 1 p
  else if !(1 ≤ octet s 2 && octet s 2 ≤ 0x7F) then answer i .refusedRange 2 p
  else setProgress i 0 (modMsg (fun m => { m with waiting := m.waiting ++ [{ slot := i, octets := messageOctets s n }] }) p)

/-- MESSAGE_SEND. -/
def execMessageSend (i : SlotNo) (s : State) : Answered := longRunning i 0x60 (orderMessageSend i) s

/-! ## Calls (R183 to R185) -/

/-- CALL_PLACE (R183). -/
def orderCallPlace (i : SlotNo) (s : Slot) (p : Part) : Part :=
  match readVoice (octet s 0) with
  | none => answer i .refusedRange 0 p
  | some v =>
    if (callSlot p v).state != .idle || !seizeAllowed (callSlot p v) then answer i .busy 0 p
    else originate v .order (some i) p

/-- CALL_PLACE. -/
def execCallPlace (i : SlotNo) (s : State) : Answered := longRunning i 0x70 (orderCallPlace i) s

/-- The call on a slot is cleared by order (R181, R184); a CALL_PLACE that owned it is superseded. -/
def clearCall (v : VoiceNo) (p : Part) : Part :=
  if (callSlot p v).state == .clearing then
    if (callSlot p v).clearedBySummit then callToIdle v p else p
  else answerCall v .superseded 0 (clearByValley v .orderClear p)

/-- CALL_CLEAR (R184): the answer's detail is the slot's state code after the order. -/
def orderCallClear (s : Slot) (p : Part) : Reply :=
  match readVoice (octet s 0) with
  | none => refuse .refusedRange 0 p
  | some v =>
    if !hasCall (callSlot p v) then refuse .refusedState 0 p
    else
      let p := clearCall v p
      okDetail (callSlot p v).state.code p

/-- CALL_CLEAR. -/
def execCallClear (i : SlotNo) (s : State) : Answered := atOnce i 0x71 orderCallClear s

/-- CALL_CONFIGURE (R185): the unanswered limit in seconds, two octets. -/
def orderCallConfigure (s : Slot) (p : Part) : Reply :=
  let n := clampNat 10 180 (word16 s 0)
  clampedBy (if n == word16 s 0 then 0 else 1) { p with calls := { p.calls with limit := n } }

/-- CALL_CONFIGURE. -/
def execCallConfigure (i : SlotNo) (s : State) : Answered := atOnce i 0x72 orderCallConfigure s

/-! ## The order of unknown kind (R193) -/

/-- The kind codes that name an order of the part (section 11.4). -/
def knownKind (k : Byte) : Bool :=
  let n := k.toNat
  (0x10 ≤ n && n ≤ 0x16) || n == 0x20 || (0x30 ≤ n && n ≤ 0x36) || (0x40 ≤ n && n ≤ 0x47) || (0x50 ≤ n && n ≤ 0x54) ||
    n == 0x60 || (0x70 ≤ n && n ≤ 0x72)

/-- UNKNOWN_KIND (R193): a kind code that names no order is answered at once. -/
def execUnknownKind (i : SlotNo) (s : State) : Answered :=
  occurs (orderNext i (fun k => !knownKind k)) (fun p => answer i .unknownKind 0 (takeHead i p)) s

end Sys2Proof.Machine
end

