-- ==== Sys2Proof/Machine/WindowViews.lean ====
section
/-! DEFINITION. The window as the host reads it: the octets of every view, record and register, worked out from the state by the layouts of
section 11.6. -/

namespace Sys2Proof.Machine

/-! ## Octets -/

/-- The octets of a field of one octet. -/
def o8 (n : Nat) : List Byte := [BitVec.ofNat 8 n]

/-- The octets of a field of two octets, least significant first. -/
def o16 (n : Nat) : List Byte := [BitVec.ofNat 8 n, BitVec.ofNat 8 (n / 256)]

/-- The octets of a signed field of two octets. -/
def o16s (n : Int) : List Byte := o16 (BitVec.ofInt 16 n).toNat

/-- The octets of a field of four octets, least significant first. -/
def o32 (n : Nat) : List Byte := o16 n ++ o16 (n / 65536)

/-- The octets of a time. -/
def oTime (t : Time) : List Byte := o32 t.toNat

/-- Unnamed octets, which read 0. -/
def pad (n : Nat) : List Byte := List.replicate n 0

/-- A flag in one bit of an octet. -/
def bitAt (b : Bool) (n : Nat) : Nat := if b then 2 ^ n else 0

/-- A list of records, in a view with room for `room` of them. -/
def table {α : Type} (f : α → List Byte) (l : List α) (room size : Nat) : List Byte :=
  (l.take room).flatMap f ++ pad (size * (room - l.length))

/-! ## Header (0x0000) -/

/-- The header. -/
def headerView (p : Part) : List Byte :=
  o16 1 ++ o8 p.sup.mode.code ++ o8 (bitAt (p.sup.active == .b) 0 + bitAt p.sup.pendingSwitch.isSome 1) ++
  o8 (match p.line.state with | .down => 0 | .probing => 1 | .training => 2 | .up => 3 | .dormant => 4) ++
  o8 p.line.rate ++ o8 p.line.diagnosis.code ++ o8 (bitAt p.sup.svcStop 0 + bitAt p.sup.fastStop 1) ++
  oTime p.clock.now ++ o16 p.window.softResets ++
  o8 (bitAt p.sup.caps.wind 0 + bitAt p.sup.caps.hold 1 + bitAt p.sup.caps.door 2 + bitAt p.sup.caps.link 3) ++ pad 1 ++
  o32 (doneMap p.window).toNat ++ o16 p.sup.ceiling ++ o16s p.rope.view.v ++ o8 (longOrdersHeld p.window)

/-! ## Order slots (0x0040) -/

/-- The codes of the slot states (section 11.3). -/
def SlotState.code (s : SlotState) : Nat :=
  match s with
  | .free => 0
  | .posted => 1
  | .taken => 2
  | .withdraw => 3
  | .done => 4

/-- An order slot. -/
def slotView (s : Slot) : List Byte :=
  o8 s.state.code ++ [s.kind] ++ o16 s.tag.toNat ++ [s.result, s.detail] ++ o16 s.progress.toNat ++ s.params.toList

/-! ## Cabin table (0x1040) -/

/-- The codes of a summit mark. -/
def SummitMark.code (m : SummitMark) : Nat :=
  match m with
  | .none => 0
  | .passed => 1
  | .missed => 2

/-- The codes of a grip result. -/
def GripResult.code (g : GripResult) : Nat :=
  match g with
  | .none => 0
  | .pass => 1
  | .fail => 2
  | .incomplete => 3

/-- A cabin record. -/
def cabinView (c : CabinRecord) : List Byte :=
  o8 (bitAt c.registered 0 + bitAt c.inService 1) ++
  o8 (match c.place with | .unknown => 0 | .garaged => 1 | .inStation => 2 | .onLine => 3) ++
  o8 (match c.door with | .unknown => 0 | .opened => 1 | .closed => 2 | .locked => 3 | .notLocked => 4 | .obstructed => 5) ++
  o8 c.grip.code ++ o16 c.gripMin ++ o16 c.gripMax ++ o8 c.mark.code ++
  o8 (match c.note with | .notQueued => 0 | .queued => 1 | .sent => 2 | .dropped => 3) ++ pad 2 ++ oTime c.lastRelease

/-! ## Station queue and line roster (0x1840, 0x1880) -/

/-- Two segment counts in one octet, the lower segment in the low half. -/
def segmentPair (p : Part) (lower : Nat) : List Byte := o8 (segmentCount p lower + 16 * segmentCount p (lower + 1))

/-- The station queue view. -/
def queueView (p : Part) : List Byte :=
  o8 p.track.queue.length ++ segmentPair p 1 ++ segmentPair p 3 ++ segmentPair p 5 ++
  table (fun e => o8 e.cabin ++ o8 e.segment ++ o16 e.entered.toNat) p.track.queue Config.queueMax 4

/-- The line roster view. -/
def rosterView (p : Part) : List Byte :=
  o8 p.track.roster.length ++ o8 (p.track.roster.countP (fun e => e.mark == .missed)) ++ pad 6 ++
  table (fun e => o8 e.cabin ++ o8 e.mark.code ++ o16 e.seconds) p.track.roster Config.rosterMax 4

/-! ## Door channels (0x1B00) -/

/-- The codes of a fault category. -/
def FaultCategory.code (c : FaultCategory) : Nat :=
  match c with
  | .none => 0
  | .service => 1
  | .fast => 2

/-- The target of a channel or action: 0 none, 1 A, 2 B. -/
def targetCode (t : Option End) : Nat :=
  match t with
  | none => 0
  | some .a => 1
  | some .b => 2

/-- The owner codes of a door channel. -/
def Owner.code (o : Owner) : Nat :=
  match o with
  | .none => 0
  | .order _ => 1
  | .action => 2
  | .automatic => 3

/-- The owning order slot. DESIGN CHOICE (log entry 79): the octet reads 0 where no order owns the channel. -/
def Owner.slot (o : Owner) : Nat :=
  match o with
  | .order i => i.val
  | _ => 0

/-- The codes of the motion waited for. -/
def Motion.code (m : Motion) : Nat :=
  match m with
  | .none => 0
  | .move => 1
  | .reversal => 2

/-- The place of a channel in the start queue, from 1 at the head; 0 when not queued (R101). -/
def queuePlace (d : Doors) (n : ChannelNo) : Nat :=
  match d.queue.findIdx? (fun r => r == .door n) with
  | none => 0
  | some i => i + 1

/-- A door channel entry. -/
def channelView (p : Part) (n : ChannelNo) : List Byte :=
  let c := channel p n
  o8 (match c.config.kind with | .none => 0 | .cabinOpener => 1 | .cabinCloser => 2 | .platformGate => 3) ++
  o8 (match c.config.closingEnd with | .a => 0 | .b => 1) ++ o16 c.config.travelLimit ++ o16 c.config.reopenDwell ++
  o8 c.config.retries ++ o8 (bitAt c.config.lock 0) ++ o16 c.config.lockTime ++ o16 c.config.threshold ++
  o8 c.config.reach ++ o8 c.config.category.code ++ o8 (bitAt c.config.capOnFault 0) ++ o8 c.state.code ++
  o8 (targetCode c.target) ++ o8 (c.owner.code + 16 * c.waits.code) ++ o8 c.owner.slot ++
  o8 (queuePlace p.doors n + 16 * c.lastReason.code) ++ o8 (c.retriesUsed + 4 * c.obstructionRun) ++
  o8 (bitAt c.limA.high 0 + bitAt c.limB.high 1 + bitAt c.lockSns.high 2 + bitAt (c.motor == some .a) 3 +
    bitAt (c.motor == some .b) 4 + bitAt c.lockRel 5) ++
  o16 c.starts ++ o16 (channelCode p n + bitAt (p.sensors.mark == .fresh) 12) ++ o16 c.faults ++ oTime c.lastGrant

/-! ## Door program and pending actions (0x1C00, 0x20E0) -/

/-- A door program entry with its count of actions made. -/
def programView (e : Option ProgramEntry) (made : Nat) : List Byte :=
  match e with
  | none => pad 6 ++ o16 made
  | some e =>
    o8 e.trigger ++ o8 e.channel.val ++ o8 (match e.action with | .a => 0 | .b => 1) ++
    o8 (match e.condition with | .always => 0 | .ifRun => 1 | .ifInService => 2) ++ o16 e.delay ++ o16 made

/-- An action of the pending action list. -/
def actionView (p : Part) (a : Action) : List Byte :=
  o8 a.entry ++ o8 a.channel.val ++ o8 (targetCode (some a.target)) ++ o8 (bitAt a.isCabin 0) ++ oTime a.due ++ o8 a.cabin ++
  o8 (positionOf p a.ref) ++ o8 (bitAt a.dueWaiting 0) ++ pad 1

/-- An action in flight. -/
def flightView (f : Option Flight) : List Byte :=
  match f with
  | none => pad 8
  | some f => o8 f.entry ++ o8 f.cabin ++ o8 (bitAt f.late 0) ++ pad 1 ++ oTime f.issued

/-- The last confirmation. -/
def confirmationView (c : Option Confirmation) : List Byte :=
  match c with
  | none => pad 10
  | some c => o8 c.cabin ++ pad 1 ++ o16 c.attendant ++ pad 2 ++ oTime c.time

/-- The pending action view. -/
def actionsView (p : Part) : List Byte :=
  let s := p.sequencer
  o8 s.actions.length ++ pad 3 ++ table (actionView p) s.actions Config.actionsMax 12 ++ s.flights.toList.flatMap flightView ++
  o16 s.fullDrops ++ o16 s.conditionDrops ++ o16 s.removals ++ o16 s.lates ++ o16 s.notTaken ++ o16 s.dones ++ o16 s.reachedB ++
  o16 s.gaveUp ++ o16 s.failed ++ o16 s.interrupted ++ o16 s.confirmations ++ confirmationView s.lastConfirmation

/-! ## Sensors and rope (0x1CC0, 0x1D00) -/

/-- A debounced value, 0 while not known, 1 when high, 2 when low. -/
def settledCode (v : Option Bool) : Nat :=
  match v with
  | none => 0
  | some true => 1
  | some false => 2

/-- A switch channel. -/
def switchView (s : Switch) : List Byte :=
  o8 (settledCode s.value + 4 * (match s.kind with | .ropePosition => 0 | .brittleLoop => 1 | .general => 2) +
    16 * s.category.code + bitAt s.inFault 6)

/-- The mark of the current codes. -/
def CodeMark.code (m : CodeMark) : Nat :=
  match m with
  | .notRead => 0
  | .fresh => 1
  | .held => 2

/-- The sensor status view. -/
def sensorView (p : Part) : List Byte :=
  let s := p.sensors
  s.switches.toList.flatMap switchView ++ s.switches.toList.flatMap (fun c => o16 c.changes) ++
  s.codes.toList.flatMap (fun c => o16 (c.toNat + 4096 * s.mark.code)) ++ o8 (settledCode s.lockSense.settled) ++
  o8 (bitAt (converterHealthy s) 0 + 2 * s.failRun) ++ o16 s.failTally ++
  o8 (match s.tension with | .gone => 0 | .below => 1 | .above => 2) ++ o8 (bitAt s.windHigh 0) ++ o16 s.lastWind.toNat

/-- The rope measurement status view. -/
def ropeView (v : RopeView) : List Byte :=
  o16s v.v ++
  o8 (bitAt v.invalid 0 + bitAt v.substitute 1 + bitAt v.clamped 2 + bitAt v.held 3 + bitAt v.standstill 4 + bitAt v.slipMade 5) ++
  o8 (match v.source with | .none => 0 | .e1 => 1 | .e2 => 2) ++ o8 (bitAt v.e1Faulted 0 + bitAt v.e2Faulted 1) ++ o8 v.standRun ++
  o16s v.e1Delta ++ o16s v.e2Delta ++ o16 v.e1Tally ++ o16 v.e2Tally ++ o16 v.ceff ++ o32 v.gap ++ o32 v.slipDiff ++
  o16 v.rollRun ++ o16 v.overRun ++ oTime v.sampleTime

/-! ## Stop causes and profiles (0x1D40, 0x1E10, 0x1E50) -/

/-- The cause kind codes (section 7.3). -/
def CauseKind.code (k : CauseKind) : Nat :=
  match k with
  | .ropeSlip => 1
  | .rollback => 2
  | .overspeed => 3
  | .encoderFault => 4
  | .ropePosition => 5
  | .brittleLoop => 6
  | .converterFault => 7
  | .tensionLimit => 8
  | .gripFail => 9
  | .gripIncomplete => 10
  | .doorFault => 11
  | .cabinDoorUnlocked => 12
  | .holdOverflow => 13
  | .trackOverflow => 14
  | .sequenceFault => 15
  | .releaseTimeout => 16
  | .summitStop => 17
  | .summitFastStop => 18
  | .linkLost => 19
  | .startFailed => 20
  | .hostFastStop => 21

/-- An entry of the stop cause list. -/
def causeView (c : Cause) : List Byte :=
  o8 c.kind.code ++ o8 c.source ++ o8 (match c.category with | .service => 1 | .fast => 2) ++ o8 (bitAt c.present 0) ++
  oTime c.firstTime ++ o8 c.repeats ++ pad 3

/-- The stop cause list view. -/
def causesView (s : Supervisor) : List Byte :=
  o8 s.causes.length ++ o8 (bitAt s.overflow 0 + bitAt s.fastNote 1) ++ o8 s.overflowCount ++
  o8 (s.present.countP (fun c => !c.listed)) ++ pad 4 ++ table causeView s.causes Config.causesMax 12

/-- A profile area: the 25 fields in the order and sizes of the PROFILE_WRITE parameters, the decel step in two octets (DESIGN CHOICE, log entry
87). -/
def profileView (f : Profile) : List Byte :=
  o16 f.vmax ++ o16 f.l1 ++ o16 f.l2 ++ o32 f.sMin ++ o16 f.vLaunchMin ++ o16 f.decelStep ++ o16 f.overspeedMargin ++
  o16 f.rollbackThreshold ++ o16 f.slipLimit ++ o16 f.windThreshold ++ o16 f.windHysteresis ++ o16 f.vWind ++ o16 f.vHold ++
  o16 f.vLink ++ o16 f.vDoor ++ o16 f.linkGrace ++ o16 f.gripZero ++ o16 f.gripGain ++ o16 f.gripMin ++ o16 f.gripMax ++
  o8 f.gripSamples ++ o16 f.tensionLow ++ o16 f.tensionHigh ++ o16 f.tensionHysteresis ++ o8 (bitAt f.alertCall 0)

/-! ## Line, calls, messages (0x1E90, 0x1EC0, 0x1F00) -/

/-- The line status view. -/
def lineView (l : Line) : List Byte :=
  o8 (match l.state with | .down => 0 | .probing => 1 | .training => 2 | .up => 3 | .dormant => 4) ++ o8 l.rate ++
  o8 l.diagnosis.code ++ o8 (match l.lastProbe with | .none => 0 | .answered => 1 | .echo => 2 | .silent => 3) ++
  o8 l.config.rateCeiling ++ o8 l.config.attempts ++ o8 l.config.qualityThreshold ++ o8 l.config.sleepSeconds ++
  [l.config.pattern1, l.config.pattern2, l.config.mask] ++ o8 l.config.glarePriority ++ o8 (bitAt l.config.autoStart 0) ++
  o8 l.attemptsUsed ++ o8 l.echoRun ++ o8 l.lineDelay ++ o8 (l.summitPriority + 16 * l.valleyPriority) ++ o8 l.lossRun ++
  o16 (qualityCount l) ++ o16 l.sentWord.toNat ++ o16 l.lastWord.toNat ++ o16 l.accepted.toNat ++ o16 l.farErrored ++
  o32 l.goodAnswers.toNat ++ o32 l.erroredAnswers.toNat ++ oTime l.upSince ++ o16 l.losses ++ o16 l.qualityEvents ++
  o16 l.probesSent ++ o16 l.wakesHeard

/-- The owning CALL_PLACE order slot, 255 for none. -/
def callOwner (o : Option SlotNo) : Nat :=
  match o with
  | none => 255
  | some i => i.val

/-- The hook codes: 0 not yet known, 1 ON_HOOK, 2 OFF_HOOK. -/
def hookCode (v : Option Bool) : Nat :=
  match v with
  | none => 0
  | some false => 1
  | some true => 2

/-- The first eight octets of a voice slot's area. -/
def callView (c : CallSlot) : List Byte :=
  o8 c.state.code ++
  o8 ((match c.originator with | .none => 0 | .handset => 1 | .order => 2 | .alert => 3 | .far => 4) +
    16 * (match c.role with | .none => 0 | .caller => 1 | .answerer => 2)) ++
  o8 (callOwner c.order) ++
  o8 (match c.reason with
    | .none => 0 | .noAnswer => 1 | .lineLost => 2 | .noCapacity => 3 | .localClear => 4 | .farClear => 5 | .orderClear => 6) ++
  o16 c.duration ++
  o8 (hookCode c.hook + bitAt c.ringer 2 + bitAt c.seizeTaken 3 + bitAt c.answerTaken 4 + bitAt c.ownSeize 5 + bitAt c.ownAnswer 6) ++
  o8 c.freeRun

/-- The call table. -/
def callsView (p : Part) : List Byte :=
  callView (callSlot p 0) ++ o16 p.calls.connects ++ o16 p.calls.glareWon ++ o16 p.calls.glareLost ++ o16 p.calls.alertLapses ++
  callView (callSlot p 1) ++ o16 p.calls.limit

/-- A receive slot. -/
def receiveView (s : ReceiveSlot) : List Byte :=
  o8 (match s.state with | .empty => 0 | .assembling => 1 | .full => 2) ++ [s.type] ++ o8 s.length ++ pad 1 ++ s.octets.toList ++ pad 4

/-! ## Grip, launch, arbiter (0x2020, 0x2060, 0x20A0) -/

/-- The open window as the grip status view shows it; a closed one shows 0 throughout. -/
def windowView (w : Option GripWindow) : List Byte :=
  match w with
  | none => pad 13
  | some w =>
    o8 1 ++ o8 w.cabin ++ o8 w.samples ++ o8 w.codes ++ oTime w.opened ++ o16 (w.forces.getD (0, 0)).1 ++
    o16 (w.forces.getD (0, 0)).2 ++ o8 (bitAt w.faultSeen 0)

/-- The grip status view. -/
def gripView (g : Grip) : List Byte :=
  windowView g.window ++ o8 g.last.result.code ++ o8 g.last.cabin ++ o8 g.last.codes ++ oTime g.last.closed ++ o16 g.last.forceMin ++
  o16 g.last.forceMax ++ o16 g.passes ++ o16 g.fails ++ o16 g.incompletes

/-- The codes of the hold reasons. -/
def HoldReason.code (h : HoldReason) : Nat :=
  match h with
  | .mode => 0
  | .empty => 1
  | .unidentified => 2
  | .door => 3
  | .s5Occupied => 4
  | .gap => 5
  | .speed => 6
  | .inProgress => 7
  | .none => 8

/-- The launch status view. -/
def launchView (l : Launch) : List Byte :=
  o8 (match l.state with | .idle => 0 | .requested => 1 | .releasing => 2) ++ o8 l.requested ++ o8 l.hold.code ++
  o8 (bitAt l.retain 0 + 2 * settledCode l.retValue +
    8 * (match l.watch with | .expectClosed => 0 | .openAllowed => 1 | .closing _ => 2) + bitAt l.watchFault 5) ++
  oTime l.requestTime ++ oTime l.grantTime ++ oTime l.retChanged ++ o8 l.lastMoved ++ o8 l.lastNoted ++ o16 l.releases ++
  oTime l.lastPassage ++ o16 l.timeouts ++ o16 l.uncommanded

/-- A requester: 0 to 7 a door channel, 8 the retainer. -/
def Requester.code (r : Requester) : Nat :=
  match r with
  | .door n => n.val
  | .retainer => 8

/-- The start arbiter view. -/
def arbiterView (d : Doors) : List Byte :=
  o8 d.budget ++ o8 d.queue.length ++ o16 d.window ++ table (fun r => o8 r.code) d.queue 9 1 ++ pad 1 ++ o8 d.history.length ++ pad 1 ++
  table (fun g => oTime g.time) d.history 8 4 ++ table (fun g => o8 g.requester.code) d.history 8 1 ++ o16 d.grants

/-! ## Registers (0x3FF0) -/

/-- The four registers (R190, R191). `resetting` says that a software reset is under way: SOFT_RESET reads 1. -/
def registersView (resetting : Bool) (w : Window) : List Byte :=
  o16 0x0A01 ++ o16 (bitAt resetting 0 + bitAt w.attnEnable 1) ++ o16 w.attention.toNat ++ o16 w.attentionMask.toNat

/-! ## The window map (section 11.1) -/

/-- The octet of a table of records: record `off / size`, octet `off % size`. -/
def recordOctet (size off : Nat) (view : Nat → List Byte) : Byte := (view (off / size)).getD (off % size) 0

/-- The view of record `j` of a table of `n`; no octets beyond it. -/
def recordOf {n : Nat} (f : Fin n → List Byte) (j : Nat) : List Byte := if h : j < n then f ⟨j, h⟩ else []

/-- The octet of the window at an offset, as the host reads it; what the map does not assign reads 0 (R188). -/
def windowOctet (resetting : Bool) (p : Part) (off : Nat) : Byte :=
  if off < 0x40 then (headerView p).getD off 0
  else if off < 0x1040 then recordOctet 128 (off - 0x40) (recordOf (fun i => slotView (p.window.slots.get i)))
  else if off < 0x1840 then recordOctet 16 (off - 0x1040) (recordOf (fun i => cabinView (p.cabins.get i)))
  else if off < 0x1880 then (queueView p).getD (off - 0x1840) 0
  else if off < 0x1A88 then (rosterView p).getD (off - 0x1880) 0
  else if off < 0x1B00 then 0
  else if off < 0x1C00 then recordOctet 32 (off - 0x1B00) (recordOf (channelView p))
  else if off < 0x1CC0 then
    recordOctet 8 (off - 0x1C00) (recordOf (fun i => programView (p.sequencer.program.get i) (p.sequencer.made.get i)))
  else if off < 0x1D00 then (sensorView p).getD (off - 0x1CC0) 0
  else if off < 0x1D40 then (ropeView p.rope.view).getD (off - 0x1D00) 0
  else if off < 0x1E08 then (causesView p.sup).getD (off - 0x1D40) 0
  else if off < 0x1E10 then 0
  else if off < 0x1E50 then (profileView p.sup.profileA).getD (off - 0x1E10) 0
  else if off < 0x1E90 then (profileView p.sup.profileB).getD (off - 0x1E50) 0
  else if off < 0x1EC0 then (lineView p.line).getD (off - 0x1E90) 0
  else if off < 0x1EE0 then (callsView p).getD (off - 0x1EC0) 0
  else if off < 0x1F00 then 0
  else if off < 0x2020 then recordOctet 72 (off - 0x1F00) (recordOf (fun i => receiveView (p.messages.slots.get i)))
  else if off < 0x2060 then (gripView p.grip).getD (off - 0x2020) 0
  else if off < 0x20A0 then (launchView p.launch).getD (off - 0x2060) 0
  else if off < 0x20E0 then (arbiterView p.doors).getD (off - 0x20A0) 0
  else if off < 0x2280 then (actionsView p).getD (off - 0x20E0) 0
  else if off < 0x3FF0 then 0
  else if off < 0x3FF8 then (registersView resetting p.window).getD (off - 0x3FF0) 0
  else 0

/-- A half-word of the window: the octet at the even offset low. -/
def windowHalf (resetting : Bool) (p : Part) (addr : BitVec 13) : Half :=
  windowOctet resetting p (2 * addr.toNat + 1) ++ windowOctet resetting p (2 * addr.toNat)

/-! ## Aligned 32-bit fields (R189) -/

/-- `off` is one of `n` fields of a table that begins at `base`, one each `stride` octets. -/
def fieldOf (off base stride n : Nat) : Bool := base ≤ off && (off - base) % stride == 0 && (off - base) / stride < n

/-- The offset of an aligned 32-bit field of section 11.6: the header's Time Base and DONE map, the times of the cabin records, the door
channels, the stop causes, the rope view, the grip, launch and arbiter views, the pending and issued actions, the last confirmation, and
the counts and the time of the line view. -/
def isLongField (off : Nat) : Bool :=
  off == 8 || off == 16 || fieldOf off (0x1040 + 12) 16 128 || fieldOf off (0x1B00 + 28) 32 8 ||
  off == 0x1D00 + 16 || off == 0x1D00 + 20 || off == 0x1D00 + 28 || fieldOf off (0x1D40 + 12) 12 16 ||
  off == 0x1E90 + 28 || off == 0x1E90 + 32 || off == 0x1E90 + 36 || off == 0x2020 + 4 || off == 0x2020 + 16 ||
  off == 0x2060 + 4 || off == 0x2060 + 8 || off == 0x2060 + 12 || off == 0x2060 + 20 || fieldOf off (0x20A0 + 16) 4 8 ||
  fieldOf off (0x20E0 + 8) 12 16 || fieldOf off (0x20E0 + 200) 8 8 || off == 0x20E0 + 288

end Sys2Proof.Machine
end

