-- ==== Sys2Proof/Machine/HostAccess.lean ====
section
/-! DEFINITION. The Window Port: host reads and their latch, host writes octet by octet, withdraws, attention, and both resets
(chapter 11). -/

namespace Sys2Proof.Machine

/-! ## Reads (R188, R189, R198) -/

/-- The part that a half-word read finds: outside a software reset the part as it is; during one, the part before it or after it, freely
(R198). -/
def readPart (s : State) : Part :=
  match s.before with
  | none => s.part
  | some old => if Config.readsOldValue s.readChoices then old else s.part

/-- The value that a read of a half-word returns where the latch does not hold its address. -/
def readsAs (s : State) (addr : BitVec 13) : Half := windowHalf s.before.isSome (readPart s) addr

/-- Set the half-word read latch. -/
def setLatch (l : Option Latch) (p : Part) : Part := { p with window := { p.window with latch := l } }

/-- The latch after a read of `addr` that it does not hold: the low half of an aligned 32-bit field loads it with the high half (R189). -/
def latchAfter (p : Part) (addr : BitVec 13) : Option Latch :=
  if isLongField (2 * addr.toNat) then some { addr := addr + 1, value := windowHalf false p (addr + 1) } else p.window.latch

/-- A host read of a half-word (R188, R189): the latched value where the latch holds the address, which empties it, and otherwise the value
as it stands. A read during a software reset makes the free choice of R198 and leaves the latch, which the reset has emptied. -/
def hostRead (addr : BitVec 13) (s : State) : State :=
  if s.before.isSome then { s with busData := readsAs s addr, readChoices := s.readChoices + 1 }
  else
    match s.part.window.latch with
    | some l =>
      if l.addr == addr then { s with busData := l.value, part := setLatch none s.part }
      else { s with busData := readsAs s addr, part := setLatch (latchAfter s.part addr) s.part }
    | none => { s with busData := readsAs s addr, part := setLatch (latchAfter s.part addr) s.part }

/-! ## Withdraws (R195) -/

/-- The channel that a DOOR_MOVE order owns. -/
def movedChannel (p : Part) (i : SlotNo) : Option ChannelNo :=
  (List.finRange 8).find? (fun n => (channel p n).owner == .order i)

/-- The withdraw of a DOOR_MOVE that owns a channel: WITHDRAWN, and the channel is halted (R91, R98). -/
def withdrawMove (i : SlotNo) (p : Part) : Part :=
  match movedChannel p i with
  | none => p
  | some n => haltChannel n (answer i .withdrawn 0 (modChannel n (fun c => { c with owner := .none }) p))

/-- The withdraw of the LINE_START in flight: the line returns to DOWN with its diagnosis kept, the backoff applies, and the order is
answered WITHDRAWN (R155, R159). -/
def withdrawStart (i : SlotNo) (p : Part) : Part :=
  if p.line.startOrder == some i then
    let p := answerStart .withdrawn 0 p
    startBackoff (changeLine .down 0 (modLine stopFrames p))
  else p

/-- The voice slot whose call a CALL_PLACE owns. -/
def placedCall (p : Part) (i : SlotNo) : Option VoiceNo := (List.finRange 2).find? (fun v => (callSlot p v).order == some i)

/-- The withdraw of a CALL_PLACE that owns its call: the valley clears with reason ORDER_CLEAR, "and the order is answered WITHDRAWN" (R181,
R183, log entry 47). DEDUCED (log entry 76): the slot is IDLE at once where the awaited ANSWER is already clear, as R181 says, although R183
speaks of a call that is clearing. -/
def withdrawCall (i : SlotNo) (p : Part) : Part :=
  match placedCall p i with
  | none => p
  | some v => answerCall v .withdrawn 0 (clearByValley v .orderClear p)

/-- The block that holds the order of a slot is told of its withdraw, by the order's kind. A LINE_PROBE goes on and is answered when its
probe ends (R160, R195). -/
def tellWithdraw (i : SlotNo) (p : Part) : Part :=
  let k := (slotOf p i).kind
  if k == 0x31 then withdrawMove i p
  else if k == 0x51 then withdrawStart i p
  else if k == 0x60 then withdrawMessage i p
  else if k == 0x70 then withdrawCall i p
  else p

/-- Set the state of a slot. -/
def setSlotState (i : SlotNo) (st : SlotState) (p : Part) : Part := modSlot i (fun s => { s with state := st }) p

/-- A slot leaves the intake list; those behind it keep their order (R195). -/
def leaveIntake (i : SlotNo) (p : Part) : Part :=
  { p with window := { p.window with intake := p.window.intake.filter (fun j => j != i) } }

/-- A slot's number is appended to the intake list (R193). -/
def joinIntake (i : SlotNo) (p : Part) : Part := { p with window := { p.window with intake := p.window.intake ++ [i] } }

/-- A host write to the state octet of an order slot, judged against the slot's state (the table of R192). -/
def writeStateOctet (i : SlotNo) (b : Byte) (p : Part) : Part :=
  match (slotOf p i).state with
  | .free => if b == 1 then joinIntake i (setSlotState i .posted p) else p
  | .posted => if b == 3 then answer i .withdrawn 0 (leaveIntake i p) else p
  | .taken => if b == 3 then tellWithdraw i (setSlotState i .withdraw p) else p
  | .withdraw => p
  | .done => if b == 0 then setSlotState i .free p else p

/-! ## Slot octets (R188) -/

/-- Write one octet of a half-word, `hi` naming its upper octet. -/
def putHalf (hi : Bool) (b : Byte) (h : Half) : Half :=
  if hi then b ++ h.extractLsb' 0 8 else h.extractLsb' 8 8 ++ b

/-- Write octet `j` of a FREE slot, its state octet apart (section 11.6). -/
def putSlot (j : Nat) (b : Byte) (s : Slot) : Slot :=
  match j with
  | 0 => s
  | 1 => { s with kind := b }
  | 2 => { s with tag := putHalf false b s.tag }
  | 3 => { s with tag := putHalf true b s.tag }
  | 4 => { s with result := b }
  | 5 => { s with detail := b }
  | 6 => { s with progress := putHalf false b s.progress }
  | 7 => { s with progress := putHalf true b s.progress }
  | j + 8 => if h : j < 120 then { s with params := s.params.set j b } else s

/-- A host write to octet `j` of an order slot (R188, R192). -/
def writeSlotOctet (i : SlotNo) (j : Nat) (b : Byte) (p : Part) : Part :=
  if j == 0 then writeStateOctet i b p
  else if (slotOf p i).state == .free then modSlot i (putSlot j b) p
  else p

/-- A host write to the state octet of a receive slot: EMPTY to a FULL one (R171, R188). -/
def writeReceiveState (r : Fin 4) (b : Byte) (p : Part) : Part :=
  if (p.messages.slots.get r).state == .full && b == 0 then modMsg (modReceive r (fun s => { s with state := .empty })) p else p

/-! ## Registers (R190, R191) -/

/-- A host write to an octet of ATTENTION clears each bit written as 1 (R191). -/
def clearAttention (bits : Half) (p : Part) : Part :=
  { p with window := { p.window with attention := p.window.attention &&& ~~~bits } }

/-- ATTENTION_MASK takes the thirteen bits written (R191). -/
def setMask (bits : Half) (p : Part) : Part := { p with window := { p.window with attentionMask := bits &&& 0x1FFF } }

/-- ATTN_ENABLE takes the value written to it (R190). -/
def setAttnEnable (on : Bool) (p : Part) : Part := { p with window := { p.window with attnEnable := on } }

/-- An octet as the upper or the lower octet of a half-word of zeros. -/
def halfOf (hi : Bool) (b : Byte) : Half := putHalf hi b 0

/-- A host write of one octet at an offset, judged alone (R188); the SOFT_RESET bit of PART_CONTROL is judged in `hostWrite`. -/
def writeOctet (off : Nat) (b : Byte) (p : Part) : Part :=
  if h : 0x40 ≤ off ∧ off < 0x1040 then writeSlotOctet ⟨(off - 0x40) / 128, by omega⟩ ((off - 0x40) % 128) b p
  else if h : 0x1F00 ≤ off ∧ off < 0x2020 then
    if (off - 0x1F00) % 72 == 0 then writeReceiveState ⟨(off - 0x1F00) / 72, by omega⟩ b p else p
  else if off == 0x3FF2 then setAttnEnable (b.getLsbD 1) p
  else if off == 0x3FF4 then clearAttention (halfOf false b) p
  else if off == 0x3FF5 then clearAttention (halfOf true b) p
  else if off == 0x3FF6 then setMask (putHalf false b p.window.attentionMask) p
  else if off == 0x3FF7 then setMask (putHalf true b p.window.attentionMask) p
  else p

/-- The octets of a host write that its byte enables select: the octet at the odd offset first, so that the kind octet of a slot is taken
before its state octet is judged (R188). -/
def writeHalf (addr : BitVec 13) (data : Half) (lowEnable highEnable : Bool) (p : Part) : Part :=
  let off := 2 * addr.toNat
  let p := if highEnable then writeOctet (off + 1) (data.extractLsb' 8 8) p else p
  if lowEnable then writeOctet off (data.extractLsb' 0 8) p else p

/-! ## Resets (R24, R45, R63, R77, R102, R117, R141, R162, R173, R187, R197, R198) -/

/-- The window after a software reset: slots FREE with all octets 0, the lists and the latch empty, ATTENTION 0; ATTENTION_MASK and
ATTN_ENABLE kept, and the reset counted (R198). -/
def windowAfterReset (w : Window) : Window :=
  { attentionMask := w.attentionMask, attnEnable := w.attnEnable, softResets := (w.softResets + 1) % 65536 }

/-- A switch channel after a software reset keeps its kind and category (R63). -/
def switchAfterReset (s : Switch) : Switch := { kind := s.kind, category := s.category }

/-- A cabin record after a software reset keeps registered and in service (R24). -/
def cabinAfterReset (c : CabinRecord) : CabinRecord := { registered := c.registered, inService := c.inService }

/-- The part after a software reset (R198): each block in its after-software-reset state. -/
def afterSoftReset (p : Part) : Part :=
  { window := windowAfterReset p.window
    cabins := mapTable cabinAfterReset p.cabins
    sensors := { switches := mapTable switchAfterReset p.sensors.switches }
    doors := { channels := mapTable (fun c => { config := c.config }) p.doors.channels, budget := p.doors.budget, window := p.doors.window }
    sequencer := { program := p.sequencer.program }
    sup := { profileA := p.sup.profileA, profileB := p.sup.profileB, active := p.sup.active }
    line := { config := p.line.config, draws := p.line.draws } }

/-- A software reset begins (R198): the part takes its after-reset state, and the part before it is kept for the reads made until it is
done. -/
def beginSoftReset (s : State) : State := { s with part := refreshPins (afterSoftReset s.part), before := some s.part }

/-- A host write (R188, R190, R198): discarded while a software reset is carried out; a write of 1 to SOFT_RESET starts one, after the
other octets of the write have been taken. -/
def hostWrite (addr : BitVec 13) (data : Half) (lowEnable highEnable : Bool) (s : State) : State :=
  if s.before.isSome then s
  else
    let t := { s with part := finish (writeHalf addr data lowEnable highEnable s.part) }
    if 2 * addr.toNat == 0x3FF2 && lowEnable && data.getLsbD 0 then beginSoftReset t else t

end Sys2Proof.Machine
end

