-- ==== Sys2Proof/Machine/WindowCommands.lean ====
section
/-! DEFINITION. The commands of the window: host reads and writes and both resets (R171, R188 to R192, R195, R197, R198). A row of the table
that names a particular host write is that write; HOST_WRITE is the general one. -/

namespace Sys2Proof.Machine

/-- ORDER_WITHDRAW: the host writes WITHDRAW to a slot's state octet (R192, R195). -/
def execOrderWithdraw (i : SlotNo) (s : State) : Answered := occurs (fun _ => true) (writeStateOctet i 3) s

/-- ORDER_SLOT_FREE: the host writes FREE to a slot's state octet (R192). -/
def execOrderSlotFree (i : SlotNo) (s : State) : Answered := occurs (fun _ => true) (writeStateOctet i 0) s

/-- RECEIVE_SLOT_EMPTY: the host writes EMPTY to a receive slot's state octet (R171). -/
def execReceiveSlotEmpty (r : Fin 4) (s : State) : Answered := occurs (fun _ => true) (writeReceiveState r 0) s

/-- SOFT_RESET: the host writes 1 to SOFT_RESET, ATTN_ENABLE being written as it stands (R190, R198). A write of 1 while it reads 1 is
discarded. -/
def execSoftReset (s : State) : Answered := .next (if s.before.isSome then s else beginSoftReset s)

/-- SOFT_RESET_DONE: the reset is done, the Time Base starts from 0 and the blocks begin again (R198). -/
def execSoftResetDone (s : State) : Answered := .next { s with before := none }

/-- ATTN_ENABLE: the host writes the ATTN_ENABLE bit of PART_CONTROL, SOFT_RESET being written as 0 (R190). -/
def execAttnEnable (on : Bool) (s : State) : Answered := occurs (fun _ => true) (setAttnEnable on) s

/-- ATTENTION_CLEAR: the host writes ATTENTION (R191). -/
def execAttentionClear (bits : Half) (s : State) : Answered := occurs (fun _ => true) (clearAttention bits) s

/-- ATTENTION_MASK: the host writes ATTENTION_MASK (R191). -/
def execAttentionMask (bits : Half) (s : State) : Answered := occurs (fun _ => true) (setMask bits) s

/-- LATCHED_LOW_READ: a host read, by which the low half of an aligned 32-bit field loads the read latch (R189). -/
def execLatchedLowRead (addr : BitVec 13) (s : State) : Answered := .next (hostRead addr s)

/-- LATCHED_HIGH_READ: a host read, by which the latched address returns the latched value and empties the latch (R189). -/
def execLatchedHighRead (addr : BitVec 13) (s : State) : Answered :=
  let t := hostRead addr s
  .next t

/-- HOST_WRITE: a host write of a half-word with its byte enables (R188). -/
def execHostWrite (addr : BitVec 13) (data : Half) (lowEnable highEnable : Bool) (s : State) : Answered :=
  .next (hostWrite addr data lowEnable highEnable s)

/-- POWER_ON_RESET: the window and every block take their power-on values (R197); the commands that wait keep waiting. -/
def execPowerOnReset (s : State) : Answered := .next { s with part := {}, before := none }

end Sys2Proof.Machine
end

