-- ==== Sys2Proof/Machine/FieldEvents.lean ====
section
/-! DEFINITION. The commands of the ticks and of the field: samples, frames, passages, reports, switches, hooks, doors, the converter, the
summit's frames and bursts (R1, R3, R4, R8, R10 to R12, R46, R50, R64, R78, R133, R142, R144, R148, R175, R179, R199). -/

namespace Sys2Proof.Machine

/-- Change the Time Base. -/
def modClock (f : Clock → Clock) (p : Part) : Part := { p with clock := f p.clock }

/-! ## SAMPLE_TICK (R1, R25, R46, R50, R64, R133, R175, R199) -/

/-- A detector takes the input of a sample (R1): a change of the debounced value from low to high is a passage at the sample's time. The
first settled value makes none. -/
def sampleDetector (now : Time) (lockSensed raw : Bool) (d : Detector) : Detector :=
  let i := d.input.sample raw
  { input := i
    passage := if d.input.settled == some false && i.settled == some true then some { time := now, lockSensed := lockSensed }
      else d.passage }

/-- The seven detectors take their inputs. -/
def sampleDetectors (x : SampleInputs) (p : Part) : Part :=
  let lock := p.sensors.lockSense.high
  (List.finRange 7).foldl (fun p i => modTrack (fun t => { t with
    detectors := modTable t.detectors i (sampleDetector p.clock.now lock (x.detectors.getLsbD i.val)) }) p) p

/-- LOCKSENSE and the eight switch inputs are debounced (R46, R50). -/
def sampleSwitches (x : SampleInputs) (p : Part) : Part :=
  let p := { p with sensors := { p.sensors with lockSense := p.sensors.lockSense.sample x.lockSense } }
  (List.finRange 8).foldl (fun p i => modSwitch i (fun s => { s with input := s.input.sample (x.switches.getLsbD i.val) }) p) p

/-- A hook input is debounced; the first settled value makes no hook event, and is taken as it is (R175). -/
def sampleHook (raw : Bool) (c : CallSlot) : CallSlot :=
  let i := c.hookInput.sample raw
  { c with hookInput := i, hook := if c.hook.isNone then i.settled else c.hook }

/-- RETCLOSED and both hooks are debounced (R64, R175). -/
def sampleOthers (x : SampleInputs) (p : Part) : Part :=
  let p := modLaunch (fun l => { l with retInput := l.retInput.sample x.retClosed }) p
  modCall 1 (sampleHook (x.hooks.getLsbD 1)) (modCall 0 (sampleHook (x.hooks.getLsbD 0)) p)

/-- The drive port sends its word with the C that stands, and the sequence count rises (R133). -/
def sendDriveWord (p : Part) : Part :=
  modSup (fun u => { u with
    driveWord := some { ceiling := u.ceiling, sequence := u.driveSequence }, driveSequence := (u.driveSequence + 1) % 4 }) p

/-- One sample tick (R199). DESIGN CHOICE (log entries 64 and 65): the drive word goes out before the rope is measured, and a D5 passage that
this sample shows is taken after it. -/
def sampleStep (x : SampleInputs) (p : Part) : Part :=
  let p := sendDriveWord (modClock (fun c => { c with sampleTaken := true }) p)
  ropeTick x.enc1 x.enc2 (sampleOthers x (sampleDetectors x (sampleSwitches x p)))

/-- A sample tick falls now and has not been taken (R199, log entry 5). -/
def sampleDue (p : Part) : Bool := isSampleTime p.clock.now && !p.clock.sampleTaken

/-- SAMPLE_TICK. -/
def execSampleTick (x : SampleInputs) (s : State) : Answered := occurs sampleDue (sampleStep x) s

/-! ## FRAME_TICK (R142, R144, R174) -/

/-- One frame tick: the sixteen octets of each codec slot are gathered, and the line acts. -/
def frameStep (mic0 mic1 : List Byte) (p : Part) : Part :=
  let p := modClock (fun c => { c with frameTaken := true }) p
  lineTick (modCall 1 (fun c => { c with micOctets := mic1 }) (modCall 0 (fun c => { c with micOctets := mic0 }) p))

/-- A frame tick falls now and has not been taken (R199, log entry 5). -/
def frameDue (p : Part) : Bool := isFrameTime p.clock.now && !p.clock.frameTaken

/-- FRAME_TICK. -/
def execFrameTick (mic0 mic1 : List Byte) (s : State) : Answered := occurs frameDue (frameStep mic0 mic1) s

/-! ## Seconds (R8, R179) -/

/-- The seconds since launch of every roster entry rise by one, stopping at 65535 (R8). -/
def secondStep (p : Part) : Part :=
  setRoster (p.track.roster.map (fun e => { e with seconds := count16 e.seconds }))
    (modClock (fun c => { c with secondTaken := true }) p)

/-- A whole second falls now and has not been taken. -/
def secondDue (p : Part) : Bool := isSecondTime p.clock.now && !p.clock.secondTaken

/-- SECOND_TICK. -/
def execSecondTick (s : State) : Answered := occurs secondDue secondStep s

/-- A whole second of a CONNECTED call has passed (R179). -/
def callSecondDue (v : VoiceNo) (p : Part) : Bool :=
  (callSlot p v).state == .connected && reached p.clock.now (callSlot p v).nextSecond

/-- The duration of a CONNECTED call rises by one (R179). -/
def callSecond (v : VoiceNo) (p : Part) : Part :=
  modCall v (fun c => { c with duration := count16 c.duration, nextSecond := c.nextSecond + ms 1000 }) p

/-- CALL_DURATION_SECOND. -/
def execCallDurationSecond (v : VoiceNo) (s : State) : Answered := occurs (callSecondDue v) (callSecond v) s

/-! ## Tags and passages (R3, R4, R10 to R12) -/

/-- TAG_REPORT. -/
def execTagReport (report : Option Nat) (s : State) : Answered := occurs (fun _ => true) (tagArrives report) s

/-- The passage not yet taken at detector Dk, k from 1 to 7. -/
def passageAt (k : Nat) (p : Part) : Option PassageNote :=
  if h : 1 ≤ k ∧ k ≤ 7 then (p.track.detectors.get ⟨k - 1, by omega⟩).passage else none

/-- The passage at Dk is taken. -/
def clearPassage (k : Nat) (p : Part) : Part :=
  if h : 1 ≤ k ∧ k ≤ 7 then
    modTrack (fun t => { t with detectors := modTable t.detectors ⟨k - 1, by omega⟩ (fun d => { d with passage := none }) }) p
  else p

/-- A passage waits at Dk. -/
def passageDue (k : Nat) (p : Part) : Bool := (passageAt k p).isSome

/-- The passage at Dk is taken by `f`. -/
def withPassage (k : Nat) (f : PassageNote → Part → Part) (p : Part) : Part :=
  match passageAt k p with
  | none => p
  | some n => f n (clearPassage k p)

/-- D1_PASSAGE. -/
def execD1Passage (s : State) : Answered := occurs (passageDue 1) (withPassage 1 (fun n => d1Arrives n.time)) s

/-- A passage waits at one of D2 to D6. -/
def stationPassageDue (k : Nat) (p : Part) : Bool := stationDetectorOk k && passageDue k p

/-- STATION_PASSAGE, at D2 to D6. -/
def execStationPassage (k : Nat) (s : State) : Answered := occurs (stationPassageDue k) (withPassage k (takePassage k)) s

/-- EXIT_PASSAGE, at D7. -/
def execExitPassage (s : State) : Answered := occurs (passageDue 7) (withPassage 7 (fun n => takeExit n.time)) s

/-! ## Switches, retainer, hooks (R47, R73, R175) -/

/-- The debounced value of a switch channel has changed and has not been acted on. -/
def switchChanged (i : Fin 8) (p : Part) : Bool :=
  (p.sensors.switches.get i).input.settled != (p.sensors.switches.get i).value

/-- SWITCH_CHANGE. -/
def execSwitchChange (i : Fin 8) (s : State) : Answered := occurs (switchChanged i) (switchChange i) s

/-- The debounced RETCLOSED has changed and has not been acted on. -/
def retainerChanged (p : Part) : Bool := p.launch.retInput.settled != p.launch.retValue

/-- RETCLOSED_CHANGE. -/
def execRetclosedChange (s : State) : Answered := occurs retainerChanged retainerChange s

/-- The debounced hook of a handset has changed and has not been acted on. -/
def hookChanged (v : VoiceNo) (p : Part) : Bool := (callSlot p v).hookInput.settled != (callSlot p v).hook

/-- A hook event (R175): the slot's call machine acts on the handset's new value. -/
def hookChange (v : VoiceNo) (p : Part) : Part :=
  let p := modCall v (fun c => { c with hook := c.hookInput.settled }) p
  if (callSlot p v).hook == some true then handsetLifted v p else handsetHungUp v p

/-- HOOK_EVENT. -/
def execHookEvent (v : VoiceNo) (s : State) : Answered := occurs (hookChanged v) (hookChange v) s

/-! ## Doors and the converter (R51, R78) -/

/-- A channel's step of this sample has not been taken. -/
def stepDue (n : ChannelNo) (p : Part) : Bool := isSampleTime p.clock.now && !p.clock.stepsTaken.get n

/-- DOOR_CHANNEL_STEP. -/
def execDoorChannelStep (n : ChannelNo) (x : ChannelInputs) (s : State) : Answered := occurs (stepDue n) (channelStep n x) s

/-- The converter scan of this sample has not been taken. -/
def scanDue (p : Part) : Bool := isSampleTime p.clock.now && !p.clock.scanTaken

/-- CONVERTER_SCAN. -/
def execConverterScan (a : ScanAnswers) (s : State) : Answered := occurs scanDue (scanTick a) s

/-! ## The summit (R142, R143, R148) -/

/-- An answer is to be judged. -/
def summitDue (p : Part) : Bool := answerDue p.line p.clock.now

/-- SUMMIT_ANSWER. -/
def execSummitAnswer (frame : Option SummitFrame) (s : State) : Answered := occurs summitDue (takeAnswer frame) s

/-- Bursts are listened for. -/
def burstDue (p : Part) : Bool := listensForBursts p.line

/-- SUMMIT_WAKE_BURST: the latest 32 bits received are bits of a wake burst (log entry 80). -/
def execSummitWakeBurst (s : State) : Answered := occurs burstDue (hearBits (burstBits Config.wakeOctet)) s

/-- ANSWER_BURST: the latest 32 bits received are bits of an answer burst (log entry 80). -/
def execAnswerBurst (s : State) : Answered := occurs burstDue (hearBits (burstBits Config.answerOctet)) s

/-! ## The Time Base (R199) -/

/-- The count rises by one; the ticks of the new count have not been taken. -/
def countMillisecond (p : Part) : Part := modClock (fun c => { now := c.now + 1 }) p

/-- MILLISECOND_COUNT. -/
def execMillisecondCount (s : State) : Answered := occurs (fun _ => true) countMillisecond s

end Sys2Proof.Machine
end

