-- ==== Sys2Proof/Machine/TimerEvents.lean ====
section
/-! DEFINITION. The commands of the timers, and the rows that name a step in which a run or a threshold is reached: each of these is the
step of its parent row, taken where the named thing comes about in it (log entry 7). -/

namespace Sys2Proof.Machine

/-! ## The tag matcher (R13) -/

/-- 200 ms have passed since the held report arrived. -/
def reportExpired (p : Part) : Bool :=
  match p.track.matcher with
  | .reportHeld _ arrived => reached p.clock.now (arrived + ms 200)
  | _ => false

/-- TAG_REPORT_EXPIRY: the held report is discarded. -/
def execTagReportExpiry (s : State) : Answered := occurs reportExpired (setMatcher .empty) s

/-- 200 ms have passed since the waiting D1 passage. -/
def passageExpired (p : Part) : Bool :=
  match p.track.matcher with
  | .passageWaiting passed => reached p.clock.now (passed + ms 200)
  | _ => false

/-- TAG_PASSAGE_EXPIRY: the waiting passage is decided as UNREADABLE. -/
def execTagPassageExpiry (s : State) : Answered := occurs passageExpired endWait s

/-! ## Launch Control (R68, R70, R73) -/

/-- RETAIN has been energised for 500 ms since the grant. -/
def pulseOver (p : Part) : Bool := p.launch.retain && reached p.clock.now (p.launch.grantTime + ms 500)

/-- RETAIN_PULSE_TIMEOUT: RETAIN is de-energised. -/
def execRetainPulseTimeout (s : State) : Answered := occurs pulseOver (modLaunch (fun l => { l with retain := false })) s

/-- 2 s have passed since the grant, and the release goes on. -/
def releaseOver (p : Part) : Bool := p.launch.state == .releasing && reached p.clock.now (p.launch.grantTime + ms 2000)

/-- RELEASE_TIMEOUT. -/
def execReleaseTimeout (s : State) : Answered := occurs releaseOver releaseTimesOut s

/-- The closing window of 2 s has passed. -/
def closingOver (p : Part) : Bool :=
  match p.launch.watch with
  | .closing ends => reached p.clock.now ends
  | _ => false

/-- The watch leaves CLOSING for EXPECT_CLOSED and is judged (R73). -/
def closingEnds (p : Part) : Part := judgeWatch (modLaunch (fun l => { l with watch := .expectClosed }) p)

/-- CLOSING_WINDOW_EXPIRY. -/
def execClosingWindowExpiry (s : State) : Answered := occurs closingOver closingEnds s

/-! ## Doors (R83, R86 to R89, R96, R106) -/

/-- The channel before the timers of a step are judged: its inputs taken, its limits and lock judged (R78). -/
def beforeTimers (n : ChannelNo) (x : ChannelInputs) (p : Part) : Part := judgeLock n (judgeLimits n (sampleChannel n x p))

/-- The channel's kind is not NONE and its step of this sample is to be taken. -/
def stepJudged (n : ChannelNo) (p : Part) : Bool := stepDue n p && (channel p n).config.kind != .none

/-- The lock time passes in this step. -/
def lockTimeDue (n : ChannelNo) (x : ChannelInputs) (p : Part) : Bool :=
  stepJudged n p && lockTimeOver (channel (beforeTimers n x p) n) p.clock.now

/-- LOCK_TIMEOUT: the channel's step, in which its lock time passes. -/
def execLockTimeout (n : ChannelNo) (x : ChannelInputs) (s : State) : Answered := occurs (lockTimeDue n x) (channelStep n x) s

/-- The travel limit passes in this step. -/
def travelDue (n : ChannelNo) (x : ChannelInputs) (p : Part) : Bool :=
  stepJudged n p && travelOver (channel (beforeTimers n x p) n) p.clock.now

/-- TRAVEL_TIMEOUT: the channel's step, in which its travel limit passes. -/
def execTravelTimeout (n : ChannelNo) (x : ChannelInputs) (s : State) : Answered := occurs (travelDue n x) (channelStep n x) s

/-- The reopen dwell ends in this step. -/
def dwellDue (n : ChannelNo) (x : ChannelInputs) (p : Part) : Bool :=
  stepJudged n p && dwellOver (channel (beforeTimers n x p) n) p.clock.now

/-- REOPEN_DWELL_END: the channel's step, in which its dwell ends. -/
def execReopenDwellEnd (n : ChannelNo) (x : ChannelInputs) (s : State) : Answered := occurs (dwellDue n x) (channelStep n x) s

/-- The obstruction run reaches 2 in this step. -/
def obstructionDue (n : ChannelNo) (x : ChannelInputs) (p : Part) : Bool :=
  let q := judgeTimers n (beforeTimers n x p)
  stepJudged n p && watchesCurrent (channel q n) &&
    2 ≤ obstructionAfter (channel q n) (codesFresh q) (channelCode q n) q.clock.now

/-- OBSTRUCTION: the channel's step, in which its obstruction run reaches 2. -/
def execObstruction (n : ChannelNo) (x : ChannelInputs) (s : State) : Answered := occurs (obstructionDue n x) (channelStep n x) s

/-- A counted grant has left the budget window. -/
def grantWindowOver (p : Part) : Bool := grantLeft p.doors p.clock.now

/-- GRANT_WINDOW_EXPIRY: the arbiter judges the start queue. -/
def execGrantWindowExpiry (s : State) : Answered := occurs grantWindowOver callArbiter s

/-- A waiting action has reached its due time. -/
def anyActionDue (p : Part) : Bool := p.sequencer.actions.any (fun a => !a.dueWaiting && reached p.clock.now a.due)

/-- ACTION_DUE: the Door Sequencer judges its due actions. -/
def execActionDue (s : State) : Answered := occurs anyActionDue (judgeSequencer true) s

/-! ## The Supervisor (R119, R134) -/

/-- 10 s have passed since the entry into STARTING, and the mode is STARTING. -/
def startOver (p : Part) : Bool := p.sup.mode == .starting && ended p.clock.now p.sup.startTimer

/-- START_FAILED. -/
def execStartFailed (s : State) : Answered := occurs startOver (report .startFailed 0 .service false) s

/-- The link grace has passed. -/
def graceOver (p : Part) : Bool := p.sup.mode.isRunning && ended p.clock.now p.sup.graceTimer

/-- The link grace ends with the line not UP: LINK_LOST is reported (R134). -/
def graceEnds (p : Part) : Part := report .linkLost 0 .service true (modSup (fun u => { u with graceTimer := none }) p)

/-- LINK_GRACE_EXPIRY. -/
def execLinkGraceExpiry (s : State) : Answered := occurs graceOver graceEnds s

/-! ## The rope (R27, R39, R41 to R43) -/

/-- Standstill falls to be declared by time (R43). -/
def standByTimeDue (p : Part) : Bool :=
  standstillByTimeDue p.rope.view.invalid p.sup.mode p.rope.stopEntry p.clock.now && !p.rope.standstill

/-- Standstill is declared and handed to the Supervisor (R42, R43). -/
def declareStandstill (p : Part) : Part := standstillEvent { p with rope := { p.rope with standstill := true } }

/-- STANDSTILL_BY_TIME. -/
def execStandstillByTime (s : State) : Answered := occurs standByTimeDue declareStandstill s

/-- The unit's results of the sample that would be taken now. -/
def ropeAfter (x : SampleInputs) (p : Part) : Rope :=
  (ropeSample (activeProfile p.sup) p.sup.ceiling p.sup.mode p.clock.now x.enc1 x.enc2 p.rope).rope

/-- The standstill run reaches 100 in this sample. -/
def standstillReached (x : SampleInputs) (p : Part) : Bool :=
  sampleDue p && p.rope.standRun < 100 && (ropeAfter x p).standRun == 100

/-- STANDSTILL: the sample in which the standstill run reaches 100. -/
def execStandstill (x : SampleInputs) (s : State) : Answered := occurs (standstillReached x) (sampleStep x) s

/-- An encoder becomes FAULTED in this sample. -/
def encoderFaults (x : SampleInputs) (p : Part) : Bool :=
  sampleDue p && ((!p.rope.e1.faulted && (ropeAfter x p).e1.faulted) || (!p.rope.e2.faulted && (ropeAfter x p).e2.faulted))

/-- ENCODER_FAULTED: the sample in which an encoder's fault run reaches 3. -/
def execEncoderFaulted (x : SampleInputs) (s : State) : Answered := occurs (encoderFaults x) (sampleStep x) s

/-- A FAULTED encoder returns to health in this sample. -/
def encoderReturns (x : SampleInputs) (p : Part) : Bool :=
  sampleDue p && ((p.rope.e1.faulted && !(ropeAfter x p).e1.faulted) || (p.rope.e2.faulted && !(ropeAfter x p).e2.faulted))

/-- ENCODER_RETURNED: the sample in which an encoder's clean run reaches 100. -/
def execEncoderReturned (x : SampleInputs) (s : State) : Answered := occurs (encoderReturns x) (sampleStep x) s

/-- The rollback run reaches 5 in this sample. -/
def rollbackReached (x : SampleInputs) (p : Part) : Bool := sampleDue p && p.rope.rollRun < 5 && 5 ≤ (ropeAfter x p).rollRun

/-- ROLLBACK: the sample in which the rollback run reaches 5. -/
def execRollback (x : SampleInputs) (s : State) : Answered := occurs (rollbackReached x) (sampleStep x) s

/-- The overspeed run reaches 50 in this sample. -/
def overspeedReached (x : SampleInputs) (p : Part) : Bool := sampleDue p && p.rope.overRun < 50 && 50 ≤ (ropeAfter x p).overRun

/-- OVERSPEED: the sample in which the overspeed run reaches 50. -/
def execOverspeed (x : SampleInputs) (s : State) : Answered := occurs (overspeedReached x) (sampleStep x) s

/-! ## The converter and the grip test (R52, R57) -/

/-- The third failed scan in a row is this one. -/
def converterFails (a : ScanAnswers) (p : Part) : Bool := scanDue p && !scanGood a && p.sensors.failRun == 2

/-- CONVERTER_FAULT: the scan that is the third failure in a row. -/
def execConverterFault (a : ScanAnswers) (s : State) : Answered := occurs (converterFails a) (scanTick a) s

/-- The samples counted reach grip samples at this converter result. -/
def gripReached (p : Part) : Bool :=
  scanDue p &&
    (match p.grip.window with
     | none => false
     | some w => earlier w.opened p.clock.now && w.target ≤ w.samples + 1)

/-- GRIP_SAMPLES_REACHED: the scan at which the open grip window closes. -/
def execGripSamplesReached (a : ScanAnswers) (s : State) : Answered := occurs gripReached (scanTick a) s

/-! ## Probes, training, rest (R149, R151, R155, R157) -/

/-- 100 ms have passed since the start of the earlier probe in PROBING. -/
def probeDue (p : Part) : Bool :=
  p.line.state == .probing && p.line.probe.isNone && reached p.clock.now (p.line.probeStart + ms 100)

/-- PROBE_INTERVAL: a further probe is sent. -/
def execProbeInterval (s : State) : Answered := occurs probeDue (sendProbe false) s

/-- The listen of the running probe has ended. -/
def listenDue (p : Part) : Bool := listenOver p.line p.clock.now

/-- PROBE_LISTEN_END: the probe is classified. -/
def execProbeListenEnd (s : State) : Answered := occurs listenDue listenEnds s

/-- The listen that ends is that of the tenth unanswered probe in PROBING. -/
def probesOver (p : Part) : Bool :=
  listenDue p && p.line.state == .probing && 10 ≤ p.line.probeCount + 1 &&
    (match p.line.probe with
     | none => false
     | some pr => !pr.answerHeard && !pr.forOrder)

/-- PROBES_EXHAUSTED: the end of the tenth listen without an answer. -/
def execProbesExhausted (s : State) : Answered := occurs probesOver listenEnds s

/-- The attempt timer of 300 ms has expired. -/
def attemptOver (p : Part) : Bool := p.line.state == .training && ended p.clock.now p.line.attemptEnds

/-- TRAINING_ATTEMPT_FAILED. -/
def execTrainingAttemptFailed (s : State) : Answered := occurs attemptOver attemptFails s

/-- The backoff of 5 s has ended in DOWN. -/
def backoffOver (p : Part) : Bool := p.line.state == .down && ended p.clock.now p.line.backoff

/-- BACKOFF_EXPIRY: the line enters PROBING. -/
def execBackoffExpiry (s : State) : Answered := occurs backoffOver enterProbing s

/-- A sleep interval has ended in DORMANT. -/
def sleepOver (p : Part) : Bool := p.line.state == .dormant && ended p.clock.now p.line.sleepDue

/-- SLEEP_INTERVAL_EXPIRY: a probe is sent, or skipped. -/
def execSleepIntervalExpiry (s : State) : Answered := occurs sleepOver sleepEnds s

/-! ## Answers in which something comes about (R151 to R153, R164, R177) -/

/-- The answer to the oldest valley frame outstanding is good. -/
def answerGood (frame : Option SummitFrame) (p : Part) : Bool :=
  match p.line.notes with
  | [] => false
  | n :: _ => frameGood p.line n (frame.getD { offset := 0, octets := [] })

/-- The answer brings the line UP. -/
def succeeds (frame : Option SummitFrame) (p : Part) : Bool :=
  summitDue p && p.line.state == .training && (takeAnswer frame p).line.state == .up

/-- TRAINING_SUCCESS: the answer that is the sixteenth correct echo in a row. -/
def execTrainingSuccess (frame : Option SummitFrame) (s : State) : Answered := occurs (succeeds frame) (takeAnswer frame) s

/-- The loss run and the quality window after this answer in UP. -/
def countedAnswer (frame : Option SummitFrame) (p : Part) : Line := countAnswer (!answerGood frame p) p.line

/-- The loss run reaches 50 at this answer. -/
def losesLine (frame : Option SummitFrame) (p : Part) : Bool :=
  summitDue p && p.line.state == .up && 50 ≤ (countedAnswer frame p).lossRun

/-- LINE_LOSS: the errored answer at which the loss run reaches 50. -/
def execLineLoss (frame : Option SummitFrame) (s : State) : Answered := occurs (losesLine frame) (takeAnswer frame) s

/-- The errored count exceeds the threshold at this answer, and the line is not lost at it. -/
def qualityDue (frame : Option SummitFrame) (p : Part) : Bool :=
  summitDue p && p.line.state == .up && (countedAnswer frame p).lossRun < 50 &&
    p.line.config.qualityThreshold < qualityCount (countedAnswer frame p)

/-- QUALITY_EVENT: the answer at which the quality threshold is exceeded. -/
def execQualityEvent (frame : Option SummitFrame) (s : State) : Answered := occurs (qualityDue frame) (takeAnswer frame) s

/-- The transmitter is OFFERING an octet of a message. -/
def isOffering (m : Messages) : Bool :=
  match m.transmitter with
  | .offering _ => true
  | _ => false

/-- The answer is the second refusal in a row of the octet on offer. -/
def refusedNow (frame : Option SummitFrame) (p : Part) : Bool :=
  summitDue p && p.line.state == .up && answerGood frame p && isOffering p.messages && p.messages.refusals == 1 &&
    (match p.line.notes with
     | [] => false
     | n :: _ =>
       n.offered == some p.messages.offerSerial && !(readFrame n.rate (frame.getD { offset := 0, octets := [] }).octets).accept)

/-- TRANSFER_REFUSED: the answer that ends a transfer as refused. -/
def execTransferRefused (frame : Option SummitFrame) (s : State) : Answered := occurs (refusedNow frame) (takeAnswer frame) s

/-- The slot enters RINGING_OUT at this answer. -/
def ringsOut (v : VoiceNo) (frame : Option SummitFrame) (p : Part) : Bool :=
  summitDue p && (callSlot p v).state == .seizing && (callSlot (takeAnswer frame p) v).state == .ringingOut

/-- RINGING_OUT: the second counted good answer in SEIZING. -/
def execRingingOut (v : VoiceNo) (frame : Option SummitFrame) (s : State) : Answered := occurs (ringsOut v frame) (takeAnswer frame) s

/-! ## Call timers (R175, R177, R181) -/

/-- The no-answer timer has expired in SEIZING or RINGING_OUT. -/
def noAnswerOver (v : VoiceNo) (p : Part) : Bool :=
  ((callSlot p v).state == .seizing || (callSlot p v).state == .ringingOut) && ended p.clock.now (callSlot p v).noAnswer

/-- The slot enters IDLE with last clear reason NO_ANSWER; a CALL_PLACE fails with detail 1 (R177, R183). -/
def noAnswer (v : VoiceNo) (p : Part) : Part :=
  answerCall v .failed 1 (callToIdle v (modCall v (fun c => { c with reason := .noAnswer }) p))

/-- NO_ANSWER_TIMEOUT. -/
def execNoAnswerTimeout (v : VoiceNo) (s : State) : Answered := occurs (noAnswerOver v) (noAnswer v) s

/-- The guard timer of 2 s has expired in CLEARING. -/
def guardOver (v : VoiceNo) (p : Part) : Bool := (callSlot p v).state == .clearing && ended p.clock.now (callSlot p v).guardEnds

/-- GUARD_EXPIRY: the slot enters IDLE. -/
def execGuardExpiry (v : VoiceNo) (s : State) : Answered := occurs (guardOver v) (callToIdle v) s

/-- A boundary of the ringer's cadence has come while the slot rings. -/
def cadenceDue (v : VoiceNo) (p : Part) : Bool := (callSlot p v).ringing && reached p.clock.now (callSlot p v).ringNext

/-- The ringer output is released for 2 s after 1 s energised, and energised again (R175). -/
def cadenceStep (v : VoiceNo) (p : Part) : Part :=
  modCall v (fun c => { c with ringer := !c.ringer, ringNext := c.ringNext + ms (if c.ringer then 2000 else 1000) }) p

/-- RINGER_CADENCE. -/
def execRingerCadence (v : VoiceNo) (s : State) : Answered := occurs (cadenceDue v) (cadenceStep v) s

end Sys2Proof.Machine
end

