-- ==== Sys2Proof/Machine/Dispatch.lean ====
section
/-! DEFINITION. The meaning of every command. -/

namespace Sys2Proof.Machine

/-- The effect of a command on everything but the queue of commands that wait. -/
def exec (i : Instr) (s : State) : Host.Outcome State Fault Refusal :=
  match i with
  | .cabinRegister slot => Sys2Proof.Machine.execCabinRegister slot s
  | .cabinUnregister slot => Sys2Proof.Machine.execCabinUnregister slot s
  | .cabinPlace slot => Sys2Proof.Machine.execCabinPlace slot s
  | .cabinSetService slot => Sys2Proof.Machine.execCabinSetService slot s
  | .cabinIdentify slot => Sys2Proof.Machine.execCabinIdentify slot s
  | .rosterLoad slot => Sys2Proof.Machine.execRosterLoad slot s
  | .stationQueueLoad slot => Sys2Proof.Machine.execStationQueueLoad slot s
  | .sensorConfigure slot => Sys2Proof.Machine.execSensorConfigure slot s
  | .doorConfigure slot => Sys2Proof.Machine.execDoorConfigure slot s
  | .doorMove slot => Sys2Proof.Machine.execDoorMove slot s
  | .doorHalt slot => Sys2Proof.Machine.execDoorHalt slot s
  | .doorResetFault slot => Sys2Proof.Machine.execDoorResetFault slot s
  | .startBudgetSet slot => Sys2Proof.Machine.execStartBudgetSet slot s
  | .doorProgramLoad slot => Sys2Proof.Machine.execDoorProgramLoad slot s
  | .cabinDoorConfirm slot => Sys2Proof.Machine.execCabinDoorConfirm slot s
  | .stationPrepare slot => Sys2Proof.Machine.execStationPrepare slot s
  | .stationStart slot => Sys2Proof.Machine.execStationStart slot s
  | .stationStop slot => Sys2Proof.Machine.execStationStop slot s
  | .stationFastStop slot => Sys2Proof.Machine.execStationFastStop slot s
  | .stationOff slot => Sys2Proof.Machine.execStationOff slot s
  | .causeAcknowledge slot => Sys2Proof.Machine.execCauseAcknowledge slot s
  | .profileWrite slot => Sys2Proof.Machine.execProfileWrite slot s
  | .profileSwitch slot => Sys2Proof.Machine.execProfileSwitch slot s
  | .lineConfigure slot => Sys2Proof.Machine.execLineConfigure slot s
  | .lineStart slot => Sys2Proof.Machine.execLineStart slot s
  | .lineProbe slot => Sys2Proof.Machine.execLineProbe slot s
  | .lineDormant slot => Sys2Proof.Machine.execLineDormant slot s
  | .lineSetIndications slot => Sys2Proof.Machine.execLineSetIndications slot s
  | .messageSend slot => Sys2Proof.Machine.execMessageSend slot s
  | .callPlace slot => Sys2Proof.Machine.execCallPlace slot s
  | .callClear slot => Sys2Proof.Machine.execCallClear slot s
  | .callConfigure slot => Sys2Proof.Machine.execCallConfigure slot s
  | .unknownKind slot => Sys2Proof.Machine.execUnknownKind slot s
  | .orderWithdraw slot => Sys2Proof.Machine.execOrderWithdraw slot s
  | .orderSlotFree slot => Sys2Proof.Machine.execOrderSlotFree slot s
  | .receiveSlotEmpty slot => Sys2Proof.Machine.execReceiveSlotEmpty slot s
  | .softReset => Sys2Proof.Machine.execSoftReset s
  | .softResetDone => Sys2Proof.Machine.execSoftResetDone s
  | .attnEnable on => Sys2Proof.Machine.execAttnEnable on s
  | .attentionClear bits => Sys2Proof.Machine.execAttentionClear bits s
  | .attentionMask bits => Sys2Proof.Machine.execAttentionMask bits s
  | .latchedLowRead addr => Sys2Proof.Machine.execLatchedLowRead addr s
  | .latchedHighRead addr => Sys2Proof.Machine.execLatchedHighRead addr s
  | .hostWrite addr data lowEnable highEnable => Sys2Proof.Machine.execHostWrite addr data lowEnable highEnable s
  | .powerOnReset => Sys2Proof.Machine.execPowerOnReset s
  | .sampleTick inputs => Sys2Proof.Machine.execSampleTick inputs s
  | .frameTick mic0 mic1 => Sys2Proof.Machine.execFrameTick mic0 mic1 s
  | .secondTick => Sys2Proof.Machine.execSecondTick s
  | .callDurationSecond voice => Sys2Proof.Machine.execCallDurationSecond voice s
  | .tagReport report => Sys2Proof.Machine.execTagReport report s
  | .d1Passage => Sys2Proof.Machine.execD1Passage s
  | .stationPassage detector => Sys2Proof.Machine.execStationPassage detector s
  | .exitPassage => Sys2Proof.Machine.execExitPassage s
  | .switchChange channel => Sys2Proof.Machine.execSwitchChange channel s
  | .retclosedChange => Sys2Proof.Machine.execRetclosedChange s
  | .hookEvent voice => Sys2Proof.Machine.execHookEvent voice s
  | .doorChannelStep channel inputs => Sys2Proof.Machine.execDoorChannelStep channel inputs s
  | .converterScan answers => Sys2Proof.Machine.execConverterScan answers s
  | .summitAnswer frame => Sys2Proof.Machine.execSummitAnswer frame s
  | .summitWakeBurst => Sys2Proof.Machine.execSummitWakeBurst s
  | .answerBurst => Sys2Proof.Machine.execAnswerBurst s
  | .tagReportExpiry => Sys2Proof.Machine.execTagReportExpiry s
  | .tagPassageExpiry => Sys2Proof.Machine.execTagPassageExpiry s
  | .retainPulseTimeout => Sys2Proof.Machine.execRetainPulseTimeout s
  | .releaseTimeout => Sys2Proof.Machine.execReleaseTimeout s
  | .closingWindowExpiry => Sys2Proof.Machine.execClosingWindowExpiry s
  | .lockTimeout channel inputs => Sys2Proof.Machine.execLockTimeout channel inputs s
  | .travelTimeout channel inputs => Sys2Proof.Machine.execTravelTimeout channel inputs s
  | .reopenDwellEnd channel inputs => Sys2Proof.Machine.execReopenDwellEnd channel inputs s
  | .obstruction channel inputs => Sys2Proof.Machine.execObstruction channel inputs s
  | .grantWindowExpiry => Sys2Proof.Machine.execGrantWindowExpiry s
  | .actionDue => Sys2Proof.Machine.execActionDue s
  | .startFailed => Sys2Proof.Machine.execStartFailed s
  | .linkGraceExpiry => Sys2Proof.Machine.execLinkGraceExpiry s
  | .standstillByTime => Sys2Proof.Machine.execStandstillByTime s
  | .standstill inputs => Sys2Proof.Machine.execStandstill inputs s
  | .encoderFaulted inputs => Sys2Proof.Machine.execEncoderFaulted inputs s
  | .encoderReturned inputs => Sys2Proof.Machine.execEncoderReturned inputs s
  | .rollback inputs => Sys2Proof.Machine.execRollback inputs s
  | .overspeed inputs => Sys2Proof.Machine.execOverspeed inputs s
  | .converterFault answers => Sys2Proof.Machine.execConverterFault answers s
  | .gripSamplesReached answers => Sys2Proof.Machine.execGripSamplesReached answers s
  | .probeInterval => Sys2Proof.Machine.execProbeInterval s
  | .probeListenEnd => Sys2Proof.Machine.execProbeListenEnd s
  | .probesExhausted => Sys2Proof.Machine.execProbesExhausted s
  | .trainingAttemptFailed => Sys2Proof.Machine.execTrainingAttemptFailed s
  | .trainingSuccess frame => Sys2Proof.Machine.execTrainingSuccess frame s
  | .lineLoss frame => Sys2Proof.Machine.execLineLoss frame s
  | .qualityEvent frame => Sys2Proof.Machine.execQualityEvent frame s
  | .backoffExpiry => Sys2Proof.Machine.execBackoffExpiry s
  | .sleepIntervalExpiry => Sys2Proof.Machine.execSleepIntervalExpiry s
  | .transferRefused frame => Sys2Proof.Machine.execTransferRefused frame s
  | .ringingOut voice frame => Sys2Proof.Machine.execRingingOut voice frame s
  | .noAnswerTimeout voice => Sys2Proof.Machine.execNoAnswerTimeout voice s
  | .guardExpiry voice => Sys2Proof.Machine.execGuardExpiry voice s
  | .ringerCadence voice => Sys2Proof.Machine.execRingerCadence voice s
  | .millisecondCount => Sys2Proof.Machine.execMillisecondCount s

end Sys2Proof.Machine
end

