-- ==== Sys2Proof/Safety.lean ====
section
/-! DEFINITION. The terms in which statements speak: states in order, frames, answers, and the agreement of the track's lists. -/

namespace Sys2Proof.Machine

/-! ## States in order -/

/-- The output pins follow the state: SVC_STOP and FAST_STOP as the mode and the stop cause list ask (R124), ATTN as the attention
registers ask (R191). -/
abbrev PinsFollow (p : Part) : Prop :=
  p.sup.svcStop = svcStopFor p.sup ∧ p.sup.fastStop = fastStopFor p.sup ∧ p.window.attn = attnFor p.window

/-- The tone given to each handset is the one that its call state and hook ask for (R174). -/
abbrev TonesFollow (p : Part) : Prop := ∀ v : VoiceNo, (callSlot p v).tone = toneFor (callSlot p v)

/-- The part between two events: the pins and the tones follow the state, and no judgement is called for and not made (log entry 4). Every
step keeps this, and a reset leaves it. -/
abbrev Steady (p : Part) : Prop := p.work = {} ∧ PinsFollow p ∧ TonesFollow p

/-- The part stands between two events and no software reset is under way. -/
abbrev Ready (s : State) : Prop := s.before = none ∧ Steady s.part

/-- No door channel waits for a start, and no door action waits due: a judgement of the arbiter starts no door, and one of the Door
Sequencer issues nothing. -/
abbrev NothingWaits (p : Part) : Prop :=
  (∀ r ∈ p.doors.queue, r = .retainer) ∧ (∀ a ∈ p.sequencer.actions, a.dueWaiting = false)

/-! ## What a command does -/

/-- The command answers a next state, of which `P` holds. -/
abbrev After (c : Instr) (s : State) (P : State → Prop) : Prop := ∃ t, exec c s = .next t ∧ P t

/-- The blocks of the part, and the cabin table. -/
inductive Block where
  | window | clock | track | cabins | rope | sensors | grip | launch | doors | sequencer | sup | line | messages | calls
  deriving DecidableEq, Repr

/-- The list of all of them. -/
def Block.all : List Block :=
  [.window, .clock, .track, .cabins, .rope, .sensors, .grip, .launch, .doors, .sequencer, .sup, .line, .messages, .calls]

/-- One block is the same in two parts. -/
abbrev Part.same (b : Block) (p q : Part) : Prop :=
  match b with
  | .window => q.window = p.window
  | .clock => q.clock = p.clock
  | .track => q.track = p.track
  | .cabins => q.cabins = p.cabins
  | .rope => q.rope = p.rope
  | .sensors => q.sensors = p.sensors
  | .grip => q.grip = p.grip
  | .launch => q.launch = p.launch
  | .doors => q.doors = p.doors
  | .sequencer => q.sequencer = p.sequencer
  | .sup => q.sup = p.sup
  | .line => q.line = p.line
  | .messages => q.messages = p.messages
  | .calls => q.calls = p.calls

/-- The frame: everything is the same but the blocks named, and the part is left between two events. -/
abbrev Frame (changed : List Block) (s t : State) : Prop :=
  t.before = s.before ∧ t.busData = s.busData ∧ t.readChoices = s.readChoices ∧ t.pending = s.pending ∧ Steady t.part ∧
    ∀ b ∈ Block.all, b ∉ changed → Part.same b s.part t.part

/-- The window is the same but for the slot `i`, the intake list, ATTENTION and the ATTN output. -/
abbrev WindowFrame (i : SlotNo) (s t : State) : Prop :=
  (∀ j, j ≠ i → slotOf t.part j = slotOf s.part j) ∧ t.part.window.latch = s.part.window.latch ∧
    t.part.window.attentionMask = s.part.window.attentionMask ∧ t.part.window.attnEnable = s.part.window.attnEnable ∧
    t.part.window.softResets = s.part.window.softResets

/-! ## Orders -/

/-- The order posted in slot `i`, of kind `k`, is the next that the Order Intake takes (R193). -/
abbrev OrderNext (i : SlotNo) (k : Byte) (s : State) : Prop :=
  Ready s ∧ s.part.window.intake.head? = some i ∧ (slotOf s.part i).kind = k

/-- Octet `j` of the parameters of the order in slot `i` (R196). -/
abbrev param (i : SlotNo) (s : State) (j : Nat) : Nat := octet (slotOf s.part i) j

/-- The two-octet field at octet `j` of the parameters of the order in slot `i` (R196). -/
abbrev param16 (i : SlotNo) (s : State) (j : Nat) : Nat := word16 (slotOf s.part i) j

/-- The flag at octet `j` of the parameters of the order in slot `i`: non-zero is yes (R18, R20). -/
abbrev paramFlag (i : SlotNo) (s : State) (j : Nat) : Bool := flag (slotOf s.part i) j

/-- A long-running order of kind `k` is next in slot `i`, and fewer than 24 are held (R193). -/
abbrev LongOrderNext (i : SlotNo) (k : Byte) (s : State) : Prop :=
  OrderNext i k s ∧ longOrdersHeld s.part.window < 24

/-- A number as the result octet and the detail octet hold it. -/
abbrev asOctet (n : Nat) : Byte := BitVec.ofNat 8 n

/-- Slot `i` has left the intake list and is DONE with this result and detail, its kind, tag, progress and parameters unchanged, and
ORDER_DONE is set (R192 to R194). -/
abbrev Answers (i : SlotNo) (r : Result) (detail : Nat) (s t : State) : Prop :=
  slotOf t.part i = { slotOf s.part i with state := .done, result := asOctet r.code, detail := asOctet detail } ∧
    t.part.window.intake = s.part.window.intake.tail ∧ t.part.window.attention.getLsbD 0 = true

/-- The order of slot `i` is answered so, and the window is otherwise as it was but for the attention bits `bits` set with ORDER_DONE. -/
abbrev AnswersOnly (i : SlotNo) (r : Result) (detail : Nat) (bits : Half) (s t : State) : Prop :=
  Answers i r detail s t ∧ WindowFrame i s t ∧ t.part.window.attention = s.part.window.attention ||| 0x0001 ||| bits

/-- A refusal, or another answer that changes nothing but the slot. -/
abbrev Refuses (i : SlotNo) (r : Result) (detail : Nat) (s t : State) : Prop :=
  AnswersOnly i r detail 0 s t ∧ Frame [.window] s t

/-- Slot `i` has left the intake list and is TAKEN: a block holds its order (R193). -/
abbrev Holds (i : SlotNo) (s t : State) : Prop :=
  (slotOf t.part i).state = .taken ∧ (slotOf t.part i).kind = (slotOf s.part i).kind ∧
    (slotOf t.part i).params = (slotOf s.part i).params ∧ t.part.window.intake = s.part.window.intake.tail

/-! ## Cabins -/

/-- The records of all cabins but number `k` are the same. -/
abbrev OtherCabinsKept (k : Nat) (s t : State) : Prop := ∀ j : Fin 128, j.val + 1 ≠ k → t.part.cabins.get j = s.part.cabins.get j

/-- The registered cabins keep their registration and in-service flag, place, summit mark, grip result, release time and launch note: every
record is the same in all but its door state. -/
abbrev OnlyDoorsChange (s t : State) : Prop :=
  ∀ j : Fin 128, t.part.cabins.get j = { s.part.cabins.get j with door := (t.part.cabins.get j).door }

/-- What an entry of the station queue shows: its number, its segment and its entry time (R2). -/
abbrev shownEntry (e : QueueEntry) : Nat × Nat × Time := (e.cabin, e.segment, e.entered)

/-- A stop cause of this kind and source is listed, or held unlisted in the overflow record (R125, R127). -/
abbrev CauseEntered (k : CauseKind) (src : Nat) (u : Supervisor) : Prop :=
  u.causes.any (fun c => c.names k src) = true ∨ u.overflow = true

/-- A cause of this kind, source and FAST category is listed, or a FAST cause is noted in the overflow record (R124, R127). -/
abbrev FastEntered (u : Supervisor) : Prop := fastHeld u = true

/-- The condition of this kind and source stands in the present condition table (R125). -/
abbrev ConditionPresent (k : CauseKind) (src : Nat) (u : Supervisor) : Prop := u.present.any (fun c => c.names k src) = true

/-! ## Arrivals -/

/-- The command decides an arrival with this report (none for UNREADABLE) and this D1 passage time (R11 to R13): a report meets a waiting
passage, a D1 passage meets a held report, a waiting passage has waited 200 ms, or a further D1 passage finds it waiting. -/
abbrev Arrival (c : Instr) (rep : Option Nat) (passed : Time) (s : State) : Prop :=
  (∃ raw, c = .tagReport raw ∧ s.part.track.matcher = .passageWaiting passed ∧ rep = readTag raw) ∨
    (c = .d1Passage ∧ ∃ n arrived, passageAt 1 s.part = some n ∧ n.time = passed ∧ s.part.track.matcher = .reportHeld rep arrived) ∨
    (c = .tagPassageExpiry ∧ s.part.track.matcher = .passageWaiting passed ∧ rep = none ∧
      reached s.part.clock.now (passed + ms 200) = true) ∨
    (c = .d1Passage ∧ (passageAt 1 s.part).isSome = true ∧ s.part.track.matcher = .passageWaiting passed ∧ rep = none)

/-- The tag matcher after an arrival is decided: EMPTY, or, where a D1 passage found another waiting, waiting with the new passage (R11 to
R13). -/
def matcherAfter (c : Instr) (p : Part) : TagMatcher :=
  match c, p.track.matcher, passageAt 1 p with
  | .d1Passage, .passageWaiting _, some n => .passageWaiting n.time
  | _, _, _ => .empty

/-! ## The release -/

/-- The conditions under which a release is requested, waits and is granted (R65). -/
abbrev ReleaseConditions (p : Part) : Prop :=
  p.sup.mode = .run ∧ (∃ e, oldestIn p 4 = some e ∧ isCabin e.cabin = true ∧ (cabin p e.cabin).door = .locked) ∧
    (∀ x ∈ p.track.queue, x.segment ≠ 5) ∧ (activeProfile p.sup).sMin ≤ judgedGap p ∧ p.rope.view.invalid = false ∧
    ((activeProfile p.sup).vLaunchMin : Int) ≤ p.rope.view.v

/-- A release that is requested and not granted has all its conditions (R66, R67). -/
abbrev RequestStands (p : Part) : Prop := p.launch.state = .requested → ReleaseConditions p

/-! ## Positions in a list order -/

/-- `fails` holds at index `n` of a list and at no index before it. -/
abbrev FirstAt (fails : Nat → Prop) (n : Nat) : Prop := fails n ∧ ∀ m, m < n → ¬ fails m

/-! ## Door program entries -/

/-- A door program entry that R103 takes: its fields within the values named, its channel not of kind NONE, and for a cabin operator the action
TO_B and a trigger not beyond the reach segment. -/
abbrev EntryFits (p : Part) (r : RawEntry) : Prop :=
  1 ≤ r.trigger ∧ r.trigger ≤ 7 ∧ r.action ≤ 1 ∧ r.condition ≤ 2 ∧
    ∃ n : ChannelNo, n.val = r.channel ∧ (channel p n).config.kind ≠ .none ∧
      ((channel p n).config.kind.isCabin = true → r.action = 1 ∧ r.trigger ≤ (channel p n).config.reach)

/-! ## Outputs in order -/

/-- RETAIN is energised only while a release is under way (R68 to R70). -/
abbrev RetainSafe (p : Part) : Prop := p.launch.retain = true → p.launch.state = .releasing

/-- A motor is energised only in a moving state; LOCKREL only from UNLOCKING until the motion it opens has left the lock; the start queue
names exactly the channels in WAITING_START, each once; and a channel of kind NONE is at rest (R81 to R85, R95). -/
abbrev DoorsSafe (p : Part) : Prop :=
  ∀ n : ChannelNo,
    ((channel p n).motor.isSome = true → (channel p n).state.inMotion = true) ∧
    ((channel p n).lockRel = true → (channel p n).state ∈ [.unlocking, .movingToA, .movingToB] ∨
      ((channel p n).state = .waitingStart ∧ (channel p n).waits = .move)) ∧
    (.door n ∈ p.doors.queue ↔ (channel p n).state = .waitingStart) ∧ p.doors.queue.count (.door n) ≤ 1 ∧
    ((channel p n).config.kind = .none → (channel p n).state.atRest = true)

/-- A frame that a valley may send: every field within its bits, and sixteen voice octets for each slot that its rate carries (section 8.1). -/
abbrev FrameWellFormed (f : FrameContent) : Prop :=
  f.kind < 4 ∧ 1 ≤ f.rate ∧ f.rate ≤ 3 ∧ f.mark < 4 ∧ f.errored < 65536 ∧
    f.voice0.length = (if 2 ≤ f.rate then 16 else 0) ∧ f.voice1.length = (if f.rate = 3 then 16 else 0)

/-! ## Answers of the summit -/

/-- The content of the summit frame received in answer to the valley frame `n`. -/
abbrev answerRead (fr : Option SummitFrame) (n : FrameNote) : FrameContent :=
  readFrame n.rate (fr.getD { offset := 0, octets := [] }).octets

/-- The answer to the oldest valley frame outstanding, `n`, is judged in UP. -/
abbrev JudgedInUp (n : FrameNote) (rest : List FrameNote) (s : State) : Prop :=
  Ready s ∧ s.part.line.state = .up ∧ s.part.line.notes = n :: rest ∧ 3 ≤ elapsed s.part.clock.now n.start

/-- It is good and leaves the line UP: the errored answers among the last 500 stay within the threshold (R143, R153). -/
abbrev GoodInUp (fr : Option SummitFrame) (n : FrameNote) (rest : List FrameNote) (s : State) : Prop :=
  JudgedInUp n rest s ∧ answerGood fr s.part = true ∧
    ((false :: s.part.line.qualityWindow).take 500).countP (fun errored => errored) ≤ s.part.line.config.qualityThreshold

/-- Bit `b` of the summit's word as it is accepted at this word: as the word has it where the good word before agrees, else as accepted before
(R146). -/
abbrev acceptedAt (l : Line) (word : Half) (b : Nat) : Bool :=
  if l.candidate.any (fun c => c.getLsbD b == word.getLsbD b) then word.getLsbD b else l.accepted.getLsbD b

/-- The order of slot `j` is held by no door channel, and by no call but perhaps that of `v`. -/
abbrev HeldByCallAlone (v : VoiceNo) (j : SlotNo) (s : State) : Prop :=
  (∀ u : VoiceNo, u ≠ v → (callSlot s.part u).order ≠ some j) ∧ (∀ m : ChannelNo, (channel s.part m).owner ≠ .order j)

/-! ## Encoders and the ceiling -/

/-- The health of an encoder after a sample that is faulty or clean (the table of R27): three faulty samples in a row make it FAULTED, and a
hundred clean ones in a row healthy. -/
abbrev HealthAfter (faulty : Bool) (old new : Encoder) : Prop :=
  (old.faulted = false → faulty = false → new.faulted = false ∧ new.faultRun = 0) ∧
  (old.faulted = false → faulty = true → old.faultRun < 2 → new.faulted = false ∧ new.faultRun = old.faultRun + 1) ∧
  (old.faulted = false → faulty = true → 2 ≤ old.faultRun → new.faulted = true ∧ new.cleanRun = 0) ∧
  (old.faulted = true → faulty = true → new.faulted = true ∧ new.cleanRun = 0) ∧
  (old.faulted = true → faulty = false → old.cleanRun < 99 → new.faulted = true ∧ new.cleanRun = old.cleanRun + 1) ∧
  (old.faulted = true → faulty = false → 99 ≤ old.cleanRun → new.faulted = false)

/-- C is the least of the active profile's Vmax and the speeds of the caps in the set in STARTING and RUN, and 0 in every other mode (R132). -/
abbrev CeilingStands (u : Supervisor) : Prop :=
  let f := activeProfile u
  let caps := [(u.caps.wind, f.vWind), (u.caps.hold, f.vHold), (u.caps.door, f.vDoor), (u.caps.link, f.vLink)]
  (u.mode ∉ [.starting, .run] → u.ceiling = 0) ∧
  (u.mode ∈ [.starting, .run] → u.ceiling ≤ f.vmax ∧ (∀ c ∈ caps, c.1 = true → u.ceiling ≤ c.2) ∧
    (u.ceiling = f.vmax ∨ ∃ c ∈ caps, c.1 = true ∧ u.ceiling = c.2))

/-- The sample that would be taken now reports a cause: the ENCODER_FAULT situation changes to another than none (R30), the ROPE_SLIP condition
becomes present (R38), the rollback run reaches 5 (R39), or the overspeed run reaches 50 (R41). -/
abbrev SampleReports (x : SampleInputs) (p : Part) : Prop :=
  let r := ropeAfter x p
  let situation := fun r : Rope => faultSituation r.e1.faulted r.e2.faulted
  (situation r ≠ 0 ∧ situation r ≠ situation p.rope) ∨ (p.rope.slipPresent = false ∧ r.slipPresent = true) ∨
    rollbackReached x p = true ∨ overspeedReached x p = true

/-! ## Octets of the window -/

/-- A half-word by its octets, the lower one first. -/
abbrev pair (lower upper : Nat) : Half := asOctet upper ++ asOctet lower

/-- A half-word after a host write whose byte enables select the lower and the upper octet (R188). -/
abbrev selected (lo hi : Bool) (data old : Half) : Half :=
  (if hi then data.extractLsb' 8 8 else old.extractLsb' 8 8) ++ (if lo then data.extractLsb' 0 8 else old.extractLsb' 0 8)

/-! ## The views, octet by octet (section 11.6)

`o` gives the octets of a view or record from its start; the offsets, codes and bits are those of the layouts. -/

/-- The octet of the window at an offset, in the half-word that the host reads for it (R188). -/
abbrev octetShown (resetting : Bool) (p : Part) (off : Nat) : Byte :=
  if off % 2 = 0 then (windowHalf resetting p (BitVec.ofNat 13 (off / 2))).extractLsb' 0 8
  else (windowHalf resetting p (BitVec.ofNat 13 (off / 2))).extractLsb' 8 8

/-- A field of one octet. -/
abbrev Has8 (o : Nat → Byte) (off n : Nat) : Prop := o off = asOctet n

/-- A field of two octets, least significant first. -/
abbrev Has16 (o : Nat → Byte) (off : Nat) (n : Half) : Prop := o (off + 1) ++ o off = n

/-- A field of four octets, least significant first. -/
abbrev Has32 (o : Nat → Byte) (off : Nat) (n : BitVec 32) : Prop := o (off + 3) ++ o (off + 2) ++ o (off + 1) ++ o off = n

/-- The octets from `a` up to `b` read 0. -/
abbrev Zeros (o : Nat → Byte) (a b : Nat) : Prop := ∀ j : Fin (b - a), o (a + j.val) = 0

/-- Flags in the bits of an octet, bit 0 first. -/
def bitsOf (l : List Bool) : Nat := l.foldr (fun b n => (if b then 1 else 0) + 2 * n) 0

/-- The records of a list stand one after another from `first` on, `size` octets each, in a view with room for `room`; the room left reads 0. -/
abbrev Rows {α : Type} (o : Nat → Byte) (first size room : Nat) (l : List α) (shows : (Nat → Byte) → α → Prop) : Prop :=
  ∀ j : Fin room, match l[j.val]? with
    | none => Zeros o (first + size * j.val) (first + size * j.val + size)
    | some x => shows (fun k => o (first + size * j.val + k)) x

/-- The station queue view. -/
def QueueShown (o : Nat → Byte) (p : Part) : Prop :=
  let inSegment := fun d => p.track.queue.countP (fun e => e.segment == d)
  Has8 o 0 p.track.queue.length ∧ Has8 o 1 (inSegment 1 + 16 * inSegment 2) ∧ Has8 o 2 (inSegment 3 + 16 * inSegment 4) ∧
  Has8 o 3 (inSegment 5 + 16 * inSegment 6) ∧
  Rows o 4 4 15 p.track.queue (fun r e => Has8 r 0 e.cabin ∧ Has8 r 1 e.segment ∧ Has16 r 2 (e.entered.setWidth 16))

/-- The line roster view. -/
def RosterShown (o : Nat → Byte) (p : Part) : Prop :=
  Has8 o 0 p.track.roster.length ∧ Has8 o 1 (p.track.roster.countP (fun e => e.mark == .missed)) ∧ Zeros o 2 8 ∧
  Rows o 8 4 128 p.track.roster (fun r e =>
    Has8 r 0 e.cabin ∧ Has8 r 1 ([SummitMark.none, .passed, .missed].idxOf e.mark) ∧ Has16 r 2 (BitVec.ofNat 16 e.seconds))

/-- The entry of a door channel. Its owning order slot reads 0 where no order owns it (log entry 79), and a limit or lock sense that has no value
yet reads inactive (log entry 86). -/
def ChannelShown (o : Nat → Byte) (p : Part) (n : ChannelNo) : Prop :=
  let c := channel p n
  let place := if .door n ∈ p.doors.queue then p.doors.queue.idxOf (.door n) + 1 else 0
  Has8 o 0 ([DoorKind.none, .cabinOpener, .cabinCloser, .platformGate].idxOf c.config.kind) ∧
  Has8 o 1 ([End.a, .b].idxOf c.config.closingEnd) ∧ Has16 o 2 (BitVec.ofNat 16 c.config.travelLimit) ∧
  Has16 o 4 (BitVec.ofNat 16 c.config.reopenDwell) ∧ Has8 o 6 c.config.retries ∧ Has8 o 7 (bitsOf [c.config.lock]) ∧
  Has16 o 8 (BitVec.ofNat 16 c.config.lockTime) ∧ Has16 o 10 (BitVec.ofNat 16 c.config.threshold) ∧ Has8 o 12 c.config.reach ∧
  Has8 o 13 ([FaultCategory.none, .service, .fast].idxOf c.config.category) ∧ Has8 o 14 (bitsOf [c.config.capOnFault]) ∧
  Has8 o 15 ([DoorState.unknown, .atA, .atB, .unlocking, .waitingStart, .movingToA, .movingToB, .reversing, .reopenDwell, .locking,
    .halted, .fault].idxOf c.state) ∧
  Has8 o 16 ([none, some End.a, some .b].idxOf c.target) ∧
  Has8 o 17 ((match c.owner with | .none => 0 | .order _ => 1 | .action => 2 | .automatic => 3) +
    16 * [Motion.none, .move, .reversal].idxOf c.waits) ∧
  Has8 o 18 (match c.owner with | .order i => i.val | _ => 0) ∧
  Has8 o 19 (place + 16 * [DoorReason.none, .travelTimeout, .lockTimeout, .obstruction, .bothLimits, .leftEnd].idxOf c.lastReason) ∧
  Has8 o 20 (c.retriesUsed + 4 * c.obstructionRun) ∧
  Has8 o 21 (bitsOf [c.limA.settled == some true, c.limB.settled == some true, c.lockSns.settled == some true, c.motor == some .a,
    c.motor == some .b, c.lockRel]) ∧
  Has16 o 22 (BitVec.ofNat 16 c.starts) ∧
  Has16 o 24 (BitVec.ofNat 16 ((p.sensors.codes.toList.getD n.val 0).toNat + (if p.sensors.mark = .fresh then 4096 else 0))) ∧
  Has16 o 26 (BitVec.ofNat 16 c.faults) ∧ Has32 o 28 c.lastGrant

/-- A door program entry. -/
def ProgramEntryShown (o : Nat → Byte) (e : Option ProgramEntry) (made : Nat) : Prop :=
  (match e with
    | none => Zeros o 0 6
    | some e => Has8 o 0 e.trigger ∧ Has8 o 1 e.channel.val ∧ Has8 o 2 ([End.a, .b].idxOf e.action) ∧
      Has8 o 3 ([Condition.always, .ifRun, .ifInService].idxOf e.condition) ∧ Has16 o 4 (BitVec.ofNat 16 e.delay)) ∧
  Has16 o 6 (BitVec.ofNat 16 made)

/-- The sensor status view. -/
def SensorsShown (o : Nat → Byte) (u : Sensors) : Prop :=
  (∀ k : Fin 8, let c := u.switches.get k
    Has8 o k.val ([none, some true, some false].idxOf c.value + 4 * [SwitchKind.ropePosition, .brittleLoop, .general].idxOf c.kind +
      16 * [FaultCategory.none, .service, .fast].idxOf c.category +
      (if c.kind ≠ .general ∧ c.value = some false then 64 else 0)) ∧
    Has16 o (8 + 2 * k.val) (BitVec.ofNat 16 c.changes)) ∧
  (∀ k : Fin 11, Has16 o (24 + 2 * k.val)
    (BitVec.ofNat 16 ((u.codes.get k).toNat + 4096 * [CodeMark.notRead, .fresh, .held].idxOf u.mark))) ∧
  Has8 o 46 ([none, some true, some false].idxOf u.lockSense.settled) ∧
  Has8 o 47 ((if u.everGood = true ∧ u.failRun ≠ 3 then 1 else 0) + 2 * u.failRun) ∧ Has16 o 48 (BitVec.ofNat 16 u.failTally) ∧
  Has8 o 50 ([Tension.gone, .below, .above].idxOf u.tension) ∧ Has8 o 51 (bitsOf [u.windHigh]) ∧
  Has16 o 52 (u.lastWind.setWidth 16) ∧ Zeros o 54 64

/-- The rope measurement status view. -/
def RopeShown (o : Nat → Byte) (v : RopeView) : Prop :=
  Has16 o 0 (BitVec.ofInt 16 v.v) ∧ Has8 o 2 (bitsOf [v.invalid, v.substitute, v.clamped, v.held, v.standstill, v.slipMade]) ∧
  Has8 o 3 ([Source.none, .e1, .e2].idxOf v.source) ∧ Has8 o 4 (bitsOf [v.e1Faulted, v.e2Faulted]) ∧ Has8 o 5 v.standRun ∧
  Has16 o 6 (BitVec.ofInt 16 v.e1Delta) ∧ Has16 o 8 (BitVec.ofInt 16 v.e2Delta) ∧ Has16 o 10 (BitVec.ofNat 16 v.e1Tally) ∧
  Has16 o 12 (BitVec.ofNat 16 v.e2Tally) ∧ Has16 o 14 (BitVec.ofNat 16 v.ceff) ∧ Has32 o 16 (BitVec.ofNat 32 v.gap) ∧
  Has32 o 20 (BitVec.ofNat 32 v.slipDiff) ∧ Has16 o 24 (BitVec.ofNat 16 v.rollRun) ∧ Has16 o 26 (BitVec.ofNat 16 v.overRun) ∧
  Has32 o 28 v.sampleTime ∧ Zeros o 32 64

/-- The stop cause list view, the kinds by the codes 1 to 21 of section 7.3. -/
def CausesShown (o : Nat → Byte) (u : Supervisor) : Prop :=
  Has8 o 0 u.causes.length ∧ Has8 o 1 (bitsOf [u.overflow, u.fastNote]) ∧ Has8 o 2 u.overflowCount ∧
  Has8 o 3 (u.present.countP (fun c => !c.listed)) ∧ Zeros o 4 8 ∧
  Rows o 8 12 16 u.causes (fun r c =>
    Has8 r 0 (1 + [CauseKind.ropeSlip, .rollback, .overspeed, .encoderFault, .ropePosition, .brittleLoop, .converterFault, .tensionLimit,
      .gripFail, .gripIncomplete, .doorFault, .cabinDoorUnlocked, .holdOverflow, .trackOverflow, .sequenceFault, .releaseTimeout,
      .summitStop, .summitFastStop, .linkLost, .startFailed, .hostFastStop].idxOf c.kind) ∧
    Has8 r 1 c.source ∧ Has8 r 2 (1 + [Category.service, .fast].idxOf c.category) ∧ Has8 r 3 (bitsOf [c.present]) ∧
    Has32 r 4 c.firstTime ∧ Has8 r 8 c.repeats ∧ Zeros r 9 12)

/-- A profile area: the 25 fields of the table of section 7.5, S_min in four octets, grip samples and the alert flag in one, and the others in
two, the decel step among them (log entry 87). -/
def ProfileShown (o : Nat → Byte) (f : Profile) : Prop :=
  (∀ x ∈ [(0, f.vmax), (2, f.l1), (4, f.l2), (10, f.vLaunchMin), (12, f.decelStep), (14, f.overspeedMargin), (16, f.rollbackThreshold),
      (18, f.slipLimit), (20, f.windThreshold), (22, f.windHysteresis), (24, f.vWind), (26, f.vHold), (28, f.vLink), (30, f.vDoor),
      (32, f.linkGrace), (34, f.gripZero), (36, f.gripGain), (38, f.gripMin), (40, f.gripMax), (43, f.tensionLow), (45, f.tensionHigh),
      (47, f.tensionHysteresis)], Has16 o x.1 (BitVec.ofNat 16 x.2)) ∧
  Has32 o 6 (BitVec.ofNat 32 f.sMin) ∧ Has8 o 42 f.gripSamples ∧ Has8 o 49 (bitsOf [f.alertCall]) ∧ Zeros o 50 64

/-- The line status view. -/
def LineShown (o : Nat → Byte) (l : Line) : Prop :=
  Has8 o 0 ([LineState.down, .probing, .training, .up, .dormant].idxOf l.state) ∧ Has8 o 1 l.rate ∧
  Has8 o 2 ([Diagnosis.none, .summitUnpowered, .lineOpen, .trainingFailed, .lost, .quality].idxOf l.diagnosis) ∧
  Has8 o 3 ([ProbeResult.none, .answered, .echo, .silent].idxOf l.lastProbe) ∧ Has8 o 4 l.config.rateCeiling ∧
  Has8 o 5 l.config.attempts ∧ Has8 o 6 l.config.qualityThreshold ∧ Has8 o 7 l.config.sleepSeconds ∧ o 8 = l.config.pattern1 ∧
  o 9 = l.config.pattern2 ∧ o 10 = l.config.mask ∧ Has8 o 11 l.config.glarePriority ∧ Has8 o 12 (bitsOf [l.config.autoStart]) ∧
  Has8 o 13 l.attemptsUsed ∧ Has8 o 14 l.echoRun ∧ Has8 o 15 l.lineDelay ∧ Has8 o 16 (l.summitPriority + 16 * l.valleyPriority) ∧
  Has8 o 17 l.lossRun ∧ Has16 o 18 (BitVec.ofNat 16 (l.qualityWindow.count true)) ∧ Has16 o 20 l.sentWord ∧ Has16 o 22 l.lastWord ∧
  Has16 o 24 l.accepted ∧ Has16 o 26 (BitVec.ofNat 16 l.farErrored) ∧ Has32 o 28 l.goodAnswers ∧ Has32 o 32 l.erroredAnswers ∧
  Has32 o 36 l.upSince ∧ Has16 o 40 (BitVec.ofNat 16 l.losses) ∧ Has16 o 42 (BitVec.ofNat 16 l.qualityEvents) ∧
  Has16 o 44 (BitVec.ofNat 16 l.probesSent) ∧ Has16 o 46 (BitVec.ofNat 16 l.wakesHeard)

/-- The first eight octets of a voice slot's area. -/
def CallShown (o : Nat → Byte) (c : CallSlot) : Prop :=
  Has8 o 0 ([CallState.unavailable, .idle, .seizing, .ringingOut, .ringingIn, .connected, .clearing].idxOf c.state) ∧
  Has8 o 1 ([Originator.none, .handset, .order, .alert, .far].idxOf c.originator + 16 * [Role.none, .caller, .answerer].idxOf c.role) ∧
  Has8 o 2 ((c.order.map (fun i => i.val)).getD 255) ∧
  Has8 o 3 ([ClearReason.none, .noAnswer, .lineLost, .noCapacity, .localClear, .farClear, .orderClear].idxOf c.reason) ∧
  Has16 o 4 (BitVec.ofNat 16 c.duration) ∧
  Has8 o 6 ([none, some false, some true].idxOf c.hook + 4 * bitsOf [c.ringer, c.seizeTaken, c.answerTaken,
    decide (c.state ∈ [.seizing, .ringingOut] ∨ c.state = .connected ∧ c.role = .caller),
    decide (c.state = .connected ∧ c.role = .answerer)]) ∧
  Has8 o 7 c.freeRun

/-- The call table, with the counts in V0's area and the unanswered limit in V1's. -/
def CallsShown (o : Nat → Byte) (p : Part) : Prop :=
  CallShown o (callSlot p 0) ∧ Has16 o 8 (BitVec.ofNat 16 p.calls.connects) ∧ Has16 o 10 (BitVec.ofNat 16 p.calls.glareWon) ∧
  Has16 o 12 (BitVec.ofNat 16 p.calls.glareLost) ∧ Has16 o 14 (BitVec.ofNat 16 p.calls.alertLapses) ∧
  CallShown (fun k => o (16 + k)) (callSlot p 1) ∧ Has16 o 24 (BitVec.ofNat 16 p.calls.limit) ∧ Zeros o 26 32

/-- A receive slot. -/
def ReceiveShown (o : Nat → Byte) (s : ReceiveSlot) : Prop :=
  Has8 o 0 ([ReceiveState.empty, .assembling, .full].idxOf s.state) ∧ o 1 = s.type ∧ Has8 o 2 s.length ∧ o 3 = 0 ∧
  (∀ j : Fin 64, o (4 + j.val) = s.octets.get j) ∧ Zeros o 68 72

/-- The grip status view; a CLOSED window shows 0. -/
def GripShown (o : Nat → Byte) (g : Grip) : Prop :=
  (match g.window with
    | none => Zeros o 0 13
    | some w => Has8 o 0 1 ∧ Has8 o 1 w.cabin ∧ Has8 o 2 w.samples ∧ Has8 o 3 w.codes ∧ Has32 o 4 w.opened ∧
      Has16 o 8 (BitVec.ofNat 16 ((w.forces.map (fun x => x.1)).getD 0)) ∧
      Has16 o 10 (BitVec.ofNat 16 ((w.forces.map (fun x => x.2)).getD 0)) ∧ Has8 o 12 (bitsOf [w.faultSeen])) ∧
  Has8 o 13 ([GripResult.none, .pass, .fail, .incomplete].idxOf g.last.result) ∧ Has8 o 14 g.last.cabin ∧ Has8 o 15 g.last.codes ∧
  Has32 o 16 g.last.closed ∧ Has16 o 20 (BitVec.ofNat 16 g.last.forceMin) ∧ Has16 o 22 (BitVec.ofNat 16 g.last.forceMax) ∧
  Has16 o 24 (BitVec.ofNat 16 g.passes) ∧ Has16 o 26 (BitVec.ofNat 16 g.fails) ∧ Has16 o 28 (BitVec.ofNat 16 g.incompletes) ∧
  Zeros o 30 64

/-- The launch status view. -/
def LaunchShown (o : Nat → Byte) (l : Launch) : Prop :=
  Has8 o 0 ([ReleaseState.idle, .requested, .releasing].idxOf l.state) ∧ Has8 o 1 l.requested ∧
  Has8 o 2 ([HoldReason.mode, .empty, .unidentified, .door, .s5Occupied, .gap, .speed, .inProgress, .none].idxOf l.hold) ∧
  Has8 o 3 (bitsOf [l.retain] + 2 * [none, some true, some false].idxOf l.retValue +
    8 * (match l.watch with | .expectClosed => 0 | .openAllowed => 1 | .closing _ => 2) + 32 * bitsOf [l.watchFault]) ∧
  Has32 o 4 l.requestTime ∧ Has32 o 8 l.grantTime ∧ Has32 o 12 l.retChanged ∧ Has8 o 16 l.lastMoved ∧ Has8 o 17 l.lastNoted ∧
  Has16 o 18 (BitVec.ofNat 16 l.releases) ∧ Has32 o 20 l.lastPassage ∧ Has16 o 24 (BitVec.ofNat 16 l.timeouts) ∧
  Has16 o 26 (BitVec.ofNat 16 l.uncommanded) ∧ Zeros o 28 64

/-- A requester of the start queue or of the grant history: a door channel, or 8 for the retainer. -/
abbrev requesterNumber (r : Requester) : Nat :=
  match r with
  | .door n => n.val
  | .retainer => 8

/-- The start arbiter view. -/
def ArbiterShown (o : Nat → Byte) (d : Doors) : Prop :=
  Has8 o 0 d.budget ∧ Has8 o 1 d.queue.length ∧ Has16 o 2 (BitVec.ofNat 16 d.window) ∧
  Rows o 4 1 9 d.queue (fun r x => Has8 r 0 (requesterNumber x)) ∧ o 13 = 0 ∧ Has8 o 14 d.history.length ∧ o 15 = 0 ∧
  Rows o 16 4 8 d.history (fun r g => Has32 r 0 g.time) ∧ Rows o 48 1 8 d.history (fun r g => Has8 r 0 (requesterNumber g.requester)) ∧
  Has16 o 56 (BitVec.ofNat 16 d.grants) ∧ Zeros o 58 64

/-- The position of a station queue entry from 1 at the oldest; 0 where the reference is lost. -/
def positionShown (p : Part) (ref : Option Nat) : Nat :=
  match ref with
  | none => 0
  | some serial =>
    let serials := p.track.queue.map (fun e => e.serial)
    if serial ∈ serials then serials.idxOf serial + 1 else 0

/-- The pending action view. -/
def ActionsShown (o : Nat → Byte) (p : Part) : Prop :=
  let u := p.sequencer
  Has8 o 0 u.actions.length ∧ Zeros o 1 4 ∧
  Rows o 4 12 16 u.actions (fun r a =>
    Has8 r 0 a.entry ∧ Has8 r 1 a.channel.val ∧ Has8 r 2 (1 + [End.a, .b].idxOf a.target) ∧ Has8 r 3 (bitsOf [a.isCabin]) ∧
    Has32 r 4 a.due ∧ Has8 r 8 a.cabin ∧ Has8 r 9 (positionShown p a.ref) ∧ Has8 r 10 (bitsOf [a.dueWaiting]) ∧ r 11 = 0) ∧
  (∀ n : ChannelNo, match u.flights.get n with
    | none => Zeros o (196 + 8 * n.val) (204 + 8 * n.val)
    | some f => Has8 o (196 + 8 * n.val) f.entry ∧ Has8 o (197 + 8 * n.val) f.cabin ∧ Has8 o (198 + 8 * n.val) (bitsOf [f.late]) ∧
      o (199 + 8 * n.val) = 0 ∧ Has32 o (200 + 8 * n.val) f.issued) ∧
  (∀ x ∈ [(260, u.fullDrops), (262, u.conditionDrops), (264, u.removals), (266, u.lates), (268, u.notTaken), (270, u.dones),
      (272, u.reachedB), (274, u.gaveUp), (276, u.failed), (278, u.interrupted), (280, u.confirmations)],
    Has16 o x.1 (BitVec.ofNat 16 x.2)) ∧
  (match u.lastConfirmation with
    | none => Zeros o 282 292
    | some c => Has8 o 282 c.cabin ∧ o 283 = 0 ∧ Has16 o 284 (BitVec.ofNat 16 c.attendant) ∧ Zeros o 286 288 ∧ Has32 o 288 c.time) ∧
  Zeros o 292 416

/-- Every view of the window but the header, the order slots and the cabin table, `o` giving the octets of the window by their offsets (sections
11.1 and 11.6). -/
abbrev ViewsShown (o : Nat → Byte) (p : Part) : Prop :=
  let view := fun base k : Nat => o (base + k)
  QueueShown (view 0x1840) p ∧ RosterShown (view 0x1880) p ∧ (∀ n : ChannelNo, ChannelShown (view (0x1B00 + 32 * n.val)) p n) ∧
  (∀ e : Fin 24, ProgramEntryShown (view (0x1C00 + 8 * e.val)) (p.sequencer.program.get e) (p.sequencer.made.get e)) ∧
  SensorsShown (view 0x1CC0) p.sensors ∧ RopeShown (view 0x1D00) p.rope.view ∧ CausesShown (view 0x1D40) p.sup ∧
  ProfileShown (view 0x1E10) p.sup.profileA ∧ ProfileShown (view 0x1E50) p.sup.profileB ∧ LineShown (view 0x1E90) p.line ∧
  CallsShown (view 0x1EC0) p ∧ (∀ r : Fin 4, ReceiveShown (view (0x1F00 + 72 * r.val)) (p.messages.slots.get r)) ∧
  GripShown (view 0x2020) p.grip ∧ LaunchShown (view 0x2060) p.launch ∧ ArbiterShown (view 0x20A0) p.doors ∧
  ActionsShown (view 0x20E0) p

/-! ## Door actions at a passage (R104, R105, R109, R110) -/

/-- A 16-bit count raised `n` times, stopping at 65535. -/
def raised (n x : Nat) : Nat := if 65535 ≤ x then x else min 65535 (x + n)

/-- The actions that a passage at detector `d` makes for the cabin number `k` whose entry is `ref`, in program order (R104); a cabin
action asks for end B (section 6.1). -/
def madeAt (p : Part) (d k : Nat) (ref : Option Nat) : List Action :=
  (List.finRange 24).filterMap (fun j =>
    match p.sequencer.program.get j with
    | none => none
    | some e =>
      if e.trigger = d then
        some { entry := j.val + 1, channel := e.channel, condition := e.condition
               target := if (channel p e.channel).config.kind.isCabin then .b else e.action
               isCabin := (channel p e.channel).config.kind.isCabin, due := p.clock.now + ms e.delay, cabin := k, ref := ref }
      else none)

/-- A cabin action on channel `n` whose cabin stands in segment `d` is beyond its reach segment; segment 7 is out of the station (R109). -/
def pastReach (p : Part) (d : Nat) (cabinAction : Bool) (n : ChannelNo) : Bool :=
  cabinAction && decide ((channel p n).config.reach < d)

/-- A pending action whose cabin, by its entry's serial, leaves its reach segment at a passage at `d` (R109). -/
def leavesAt (p : Part) (d serial : Nat) (a : Action) : Bool := decide (a.ref = some serial) && pastReach p d a.isCabin a.channel

/-- An action in flight that such a passage makes late (R110). -/
def lateAt (p : Part) (d serial : Nat) (n : ChannelNo) (f : Flight) : Bool :=
  decide (f.ref = some serial) && pastReach p d f.isCabin n && !f.late

/-- A list with an action placed by its due time, after those of equal due time (R105). -/
def placedIn (l : List Action) (a : Action) : List Action :=
  l.takeWhile (fun b => !earlier a.due b.due) ++ a :: l.dropWhile (fun b => !earlier a.due b.due)

/-- The pending action list after such a passage, before any due action is taken: those that leave are removed, and each new action is placed
unless the list holds 16 or its cabin is beyond its reach segment (R104, R105, R109). -/
def actionsAfter (p : Part) (d k serial : Nat) (ref : Option Nat) : List Action :=
  (madeAt p d k ref).foldl
    (fun l a => if 16 ≤ l.length ∨ pastReach p d a.isCabin a.channel = true then l else placedIn l a)
    (p.sequencer.actions.filter (fun a => !leavesAt p d serial a))

/-- No action waits, and none of the list after such a passage is due. -/
abbrev NoneDueAt (d k serial : Nat) (ref : Option Nat) (p : Part) : Prop :=
  NothingWaits p ∧ ∀ a ∈ actionsAfter p d k serial ref, reached p.clock.now a.due = false

/-- The Door Sequencer's work on a passage at `d` of the cabin number `k` with this entry (R104, R105, R109, R110): every triggered entry counts
an action made; and where no action is due, the list is `actionsAfter`, removals and full-list drops are counted, actions in flight beyond their
reach segment become late, each of these sets DOOR, and the door state of a cabin 1 to 128 that loses an action or has one late is UNKNOWN, but
for the cabin whose lock a D4 passage has shown. -/
abbrev ActionsMade (d k serial : Nat) (ref : Option Nat) (s t : State) : Prop :=
  (∀ j : Fin 24, t.part.sequencer.made.get j =
    if (s.part.sequencer.program.get j).any (fun e => e.trigger == d) then count16 (s.part.sequencer.made.get j)
    else s.part.sequencer.made.get j) ∧
  (NoneDueAt d k serial ref s.part →
    let made := madeAt s.part d k ref
    let kept := s.part.sequencer.actions.filter (fun a => !leavesAt s.part d serial a)
    let gone := s.part.sequencer.actions.filter (leavesAt s.part d serial)
    let past := made.filter (fun a => pastReach s.part d a.isCabin a.channel)
    let lost := gone ++ past ++ (if 16 ≤ kept.length then made else [])
    let late := fun n : ChannelNo => (s.part.sequencer.flights.get n).any (lateAt s.part d serial n)
    t.part.sequencer.actions = actionsAfter s.part d k serial ref ∧
    (kept.length + made.length ≤ 16 → t.part.sequencer.fullDrops = s.part.sequencer.fullDrops ∧
      t.part.sequencer.removals = raised (gone.length + past.length) s.part.sequencer.removals) ∧
    (16 ≤ kept.length → t.part.sequencer.fullDrops = raised made.length s.part.sequencer.fullDrops ∧
      t.part.sequencer.removals = raised gone.length s.part.sequencer.removals) ∧
    (∀ n : ChannelNo, t.part.sequencer.flights.get n =
      (s.part.sequencer.flights.get n).map (fun f => if lateAt s.part d serial n f then { f with late := true } else f)) ∧
    t.part.sequencer.lates = raised ((List.finRange 8).countP late) s.part.sequencer.lates ∧
    (lost ≠ [] ∨ (∃ n : ChannelNo, late n = true) → t.part.window.attention.getLsbD 5 = true) ∧
    (∀ a ∈ lost, a.isCabin = true → isCabin a.cabin = true → (d = 4 → a.cabin ≠ k) → (cabin t.part a.cabin).door = .unknown) ∧
    (∀ n : ChannelNo, ∀ f ∈ s.part.sequencer.flights.get n, late n = true → isCabin f.cabin = true → (d = 4 → f.cabin ≠ k) →
      (cabin t.part f.cabin).door = .unknown))

/-! ## The agreement of the lists and the cabin table (R2, R8, R9) -/

/-- The cabin numbers in the station queue, 0 left out. -/
def queueNumbers (p : Part) : List Nat := (p.track.queue.map (fun e => e.cabin)).filter (fun k => k != 0)

/-- The cabin numbers in the line roster. -/
def rosterNumbers (p : Part) : List Nat := p.track.roster.map (fun e => e.cabin)

/-- The Track Monitor's lists agree with each other and with the cabin table (R2, R8, R9): at most 15 entries in the queue, no number twice
in a list or in both, a place IN_STATION or ON_LINE exactly for the cabins of the queue or the roster, only registered cabins listed, and
an unregistered record with place UNKNOWN, in service no and mark NONE. The serials, the model's own, name the entries apart. -/
structure TrackAgrees (p : Part) : Prop where
  queueLength : p.track.queue.length ≤ 15
  queueOnce : (queueNumbers p).Nodup
  rosterOnce : (rosterNumbers p).Nodup
  numbers : ∀ k ∈ queueNumbers p ++ rosterNumbers p, 1 ≤ k ∧ k ≤ 128
  inStation : ∀ k, 1 ≤ k → k ≤ 128 → ((cabin p k).place = .inStation ↔ k ∈ queueNumbers p)
  onLine : ∀ k, 1 ≤ k → k ≤ 128 → ((cabin p k).place = .onLine ↔ k ∈ rosterNumbers p)
  registered : ∀ k ∈ queueNumbers p ++ rosterNumbers p, (cabin p k).registered = true
  unregistered : ∀ k, (cabin p k).registered = false →
    (cabin p k).place = .unknown ∧ (cabin p k).inService = false ∧ (cabin p k).mark = .none
  serialsOnce : (p.track.queue.map (fun e => e.serial)).Nodup
  serialsBelow : ∀ e ∈ p.track.queue, e.serial < p.track.nextSerial

end Sys2Proof.Machine
end

