-- ==== Sys2Proof/Certificates/Slice0/Obligations.lean ====
section
/-! DEFINITION. The statements for the provers. Every statement holds for every state and operands that meet its hypotheses, reached or not.
`After c s P` says that the command `c` answers a next state of which `P` holds; `Frame bs s t` that nothing but the blocks `bs` differs.
A clause that rests on a choice of the model names its log entry. -/

open Sys2Proof Sys2Proof.Machine

/-- The command at the front of the queue is run with the queue's rest, and on an empty queue the block idles (log entry 2). -/
def Obligations.StepRunsTheFrontCommand : Prop :=
  (∀ (c : Instr) (rest : List Instr) (s : State), s.pending = c :: rest → step s = exec c { s with pending := rest }) ∧
  (∀ s : State, s.pending = [] → step s = .next s)

/-- Every command answers a next state: no command faults and none is refused. -/
def Obligations.EveryCommandAnswersNext : Prop :=
  ∀ (c : Instr) (s : State), ∃ t, exec c s = .next t ∧ t.pending = s.pending

/-- The state after a power-on reset is steady, nothing waits in it, its lists agree with the cabin table, RETAIN is off, no release
is requested, the door outputs are in order, and C is 0 as R132 has it in OFF. -/
def Obligations.ResetMeetsTheInvariants : Prop :=
  Ready State.reset ∧ NothingWaits State.reset.part ∧ TrackAgrees State.reset.part ∧ RetainSafe State.reset.part ∧
    DoorsSafe State.reset.part ∧ RequestStands State.reset.part ∧ CeilingStands State.reset.part.sup

/-- Every step keeps the outputs in step with the state: SVC_STOP and FAST_STOP as R124 asks, ATTN as R191 asks, the tones as R174 asks, and no
judgement is left over (the judgements are noted and made within the event, the model's choice of log entry 4). -/
def Obligations.EveryStepKeepsOutputsSteady : Prop :=
  ∀ s t : State, Steady s.part → step s = .next t → Steady t.part

/-- Every step keeps the station queue, the line roster and the cabin table in agreement (R2, R8, R9). -/
def Obligations.EveryStepKeepsTrackAgreement : Prop :=
  ∀ s t : State, TrackAgrees s.part → step s = .next t → TrackAgrees t.part

/-- A door motor is energised only in a moving state and LOCKREL only on the way from a lock; the start queue names the waiting channels, each
once; a channel of kind NONE rests (R82 to R85, R91, R93, R95). RETAIN is energised only while a release is under way (R66 to R70, R73).
Every step keeps both. -/
def Obligations.DoorOutputsOnlyInMotion : Prop :=
  ∀ s t : State, step s = .next t →
    (DoorsSafe s.part → DoorsSafe t.part) ∧ (RetainSafe s.part → RetainSafe t.part)

/-- The frame round trip (section 8.1): the octets of a frame read back as the frame they were made of, their check is right, and their length
is that of the rate. -/
def Obligations.FrameOctetsReadBack : Prop :=
  ∀ f : FrameContent, FrameWellFormed f →
    readFrame f.rate (frameOctets f) = f ∧ checkRight f.rate (frameOctets f) = true ∧ (frameOctets f).take 4 = syncOctets

/-- While a software reset is carried out no block acts: every command but the end of the reset, a power-on reset and the host's reads leaves
the state as it is (R198). A host read during a software reset returns the half-word as it was before the reset or as it is after it, and
changes nothing in the part (R198); which of the two is a free value. That such a read loads no latch is the model's reading (log entry 37),
as is that the commands waiting and the Time Base stand meanwhile (log entry 40). -/
def Obligations.NothingActsDuringSoftReset : Prop :=
  (∀ (c : Instr) (s : State), s.before.isSome = true → c ≠ .softResetDone → c ≠ .powerOnReset →
     (∀ a, c ≠ .latchedLowRead a) → (∀ a, c ≠ .latchedHighRead a) → exec c s = .next s) ∧
  (∀ (a : BitVec 13) (s : State) (old : Part), s.before = some old →
     After (.latchedLowRead a) s (fun t => t.part = s.part ∧ t.before = s.before ∧
       (t.busData = windowHalf true old a ∨ t.busData = windowHalf true s.part a)) ∧
     After (.latchedHighRead a) s (fun t => t.part = s.part ∧ t.before = s.before ∧
       (t.busData = windowHalf true old a ∨ t.busData = windowHalf true s.part a)))

/-- POWER_ON_RESET: every order slot FREE with all octets 0, DONE map, ATTENTION, ATTENTION_MASK and ATTN_ENABLE 0, the software reset count 0,
the Time Base 0, the read latch empty, ATTN released, and every block at its after-reset values (R197, and the reset tables of the
chapters). SOFT_RESET: the orders are abandoned and every slot is FREE with all octets 0; ATTENTION is 0, ATTENTION_MASK and ATTN_ENABLE are
kept, the latch empties and the count rises, from 65535 to 0; motors and RETAIN are off; profiles, registrations, door configuration, door
program, start budget, sensor configuration and line configuration are kept, and the Time Base is 0 (R24, R102, R141, R198). A second
SOFT_RESET changes nothing, and SOFT_RESET_DONE ends the reset. That a reset keeps the commands waiting, and the Time Base 0 at the software
reset's start, is the model's reading (log entry 40), as are the receive slots' octets (log entry 54); the values of the fields for which
the manual states none at reset are its choice (log entry 51). -/
def Obligations.ResetsSetTheState : Prop :=
  (∀ s : State, After .powerOnReset s (fun t =>
     t.part = State.reset.part ∧ t.before = none ∧ t.pending = s.pending ∧
     (∀ i : SlotNo, slotOf t.part i = {}) ∧ doneMap t.part.window = 0 ∧ t.part.window.attention = 0 ∧ t.part.window.attentionMask = 0 ∧
     t.part.window.attnEnable = false ∧ t.part.window.attn = false ∧ t.part.window.softResets = 0 ∧ t.part.window.latch = none ∧
     t.part.window.intake = [] ∧ t.part.clock.now = 0 ∧ t.part.track.queue = [] ∧ t.part.track.roster = [] ∧
     t.part.track.matcher = .empty ∧ (∀ j : Fin 128, t.part.cabins.get j = {}) ∧ t.part.rope.gapAcc = 2000000000 ∧
     t.part.rope.source = .e1 ∧ t.part.sup.mode = .off ∧ t.part.sup.causes = [] ∧ t.part.sup.ceiling = 0 ∧ t.part.sup.svcStop = false ∧
     t.part.sup.fastStop = false ∧ t.part.sup.active = .a ∧ t.part.doors.budget = 4 ∧ t.part.doors.window = 1000 ∧
     t.part.line.state = .down ∧ t.part.line.accepted = 0 ∧ t.part.launch.retain = false ∧ t.part.calls.limit = 60)) ∧
  (∀ s : State,
     (s.before = none → After .softReset s (fun t =>
       t.before = some s.part ∧ t.pending = s.pending ∧ Steady t.part ∧
       (∀ i : SlotNo, slotOf t.part i = {}) ∧ t.part.window.intake = [] ∧ t.part.window.attention = 0 ∧ t.part.window.latch = none ∧
       t.part.window.attentionMask = s.part.window.attentionMask ∧ t.part.window.attnEnable = s.part.window.attnEnable ∧
       t.part.window.softResets = (s.part.window.softResets + 1) % 65536 ∧ t.part.clock = {} ∧
       (∀ j : Fin 128, t.part.cabins.get j =
         { registered := (s.part.cabins.get j).registered, inService := (s.part.cabins.get j).inService }) ∧
       t.part.track = {} ∧ t.part.rope = {} ∧ t.part.launch = {} ∧ t.part.grip = {} ∧ t.part.messages = {} ∧ t.part.calls = {} ∧
       (∀ n : ChannelNo, channel t.part n = { config := (channel s.part n).config }) ∧
       t.part.doors.budget = s.part.doors.budget ∧ t.part.doors.window = s.part.doors.window ∧ t.part.doors.queue = [] ∧
       t.part.sequencer = { program := s.part.sequencer.program } ∧
       (∀ j : Fin 8, (t.part.sensors.switches.get j).kind = (s.part.sensors.switches.get j).kind ∧
         (t.part.sensors.switches.get j).category = (s.part.sensors.switches.get j).category) ∧
       t.part.sup = { profileA := s.part.sup.profileA, profileB := s.part.sup.profileB, active := s.part.sup.active } ∧
       t.part.line.config = s.part.line.config ∧ t.part.line.state = .down)) ∧
     (s.before.isSome = true → exec .softReset s = .next s) ∧
     exec .softResetDone s = .next { s with before := none })

/-- The motor start budget (R96): every step whose grant history gains a grant leaves no more grants counted in the window than the budget in
force, and a grant that the history gains carries the present time. Every step keeps the history within the last 8 grants. -/
def Obligations.GrantsStayWithinTheBudget : Prop :=
  ∀ s t : State, step s = .next t →
    (t.part.doors.history ≠ s.part.doors.history →
      t.part.doors.history.countP (fun g => decide (elapsed t.part.clock.now g.time < t.part.doors.window)) ≤ t.part.doors.budget) ∧
    (∀ g ∈ t.part.doors.history, g ∈ s.part.doors.history ∨ g.time = t.part.clock.now) ∧
    (s.part.doors.history.length ≤ 8 → t.part.doors.history.length ≤ 8)

/-- One sample of the Rope Measurement Unit: with eight clean increments in the window the speed is their sum divided by 80, truncated toward
zero and clamped to 20,000 mm/s, CLAMPED shown where the clamp acts; with a faulty increment in the window the speed and CLAMPED are kept and
HELD is shown; while the speed is INVALID it is 0 with HELD shown (R31 to R33), and CLAMPED not shown (log entry 57); the gap accumulator is
the old one plus the source's increment, brought into 0 to 2,000,000,000 um; C_eff above C falls by the step and not below C (R31, R32, R35,
R40). The window takes the source's increment, d times its length per count; a sample is faulty where |d| is above 2047 or its interval held a
quadrature error, and then counts 0, for either encoder, as for both slip sums; the first sample gives d = 0 with no error (R25, R26, R28). The
health of each encoder follows the table of R27 and chooses the source (R29). The rollback run counts samples of a valid speed below the
negative threshold, the overspeed run those above C_eff and the margin, and the standstill run those below 20 mm/s, up to 100, where standstill
is declared; a sample of 20 mm/s or more ends it, and while the speed is INVALID all three runs are 0 and only the 30 s of a stopping mode
declare it (R39, R41 to R43). Each slip window takes its encoder's increment, 0 for both where either sample is faulty, and keeps the last 100;
the fill count rises to 100, and is 0 while an encoder is FAULTED and where one returns to health (R37). The slip check is made with both encoders
healthy, |V| of 500 or more and full windows, and ROPE_SLIP is present in a sample whose check finds the sums further apart than the slip limit
times 1000 (R38). The view holds all of this as the sample leaves it, the deltas as read (R44). The decoder (R25): no change leaves it, a change of both phases is noted as an error, and a change of one phase
moves its running position by 1, back again where the change is undone; which order of the phases counts up is the model's choice (log entry
55). -/
def Obligations.RopeSampleSpeedGapAndCeiling : Prop :=
  (∀ (prof : Profile) (c : Nat) (m : Mode) (now : Time) (i1 i2 : EncoderInterval) (r : Rope),
    let t := (ropeSample prof c m now i1 i2 r).rope
    let seen1 := r.e1.watch r.started i1
    let seen2 := r.e2.watch r.started i2
    let faulty := fun e : Encoder => decide (2047 < (e.position - e.taken).natAbs) || e.errorNoted
    let taken := fun (e : Encoder) (l : Nat) => ({ um := if faulty e then 0 else (e.position - e.taken) * l, faulty := faulty e } : Increment)
    let inc : Increment := match t.source with
      | .e1 => taken seen1 prof.l1
      | .e2 => taken seen2 prof.l2
      | .none => { um := 0, faulty := true }
    let slipTake := fun (e : Encoder) (l : Nat) => if faulty seen1 || faulty seen2 then (0 : Int) else (e.position - e.taken) * l
    let apart := (t.slip1.sum - t.slip2.sum).natAbs
    let checked := t.view.slipMade
    let shown := fun e : Encoder => max (-32768) (min 32767 (e.position - e.taken))
    (t.source ≠ .none → (∀ x ∈ t.window, x.faulty = false) →
      t.v = max (-20000) (min 20000 (Int.tdiv ((t.window.map (fun x => x.um)).sum) 80)) ∧ t.held = false ∧
      t.clamped = decide (20000 < (Int.tdiv ((t.window.map (fun x => x.um)).sum) 80).natAbs)) ∧
    (t.source ≠ .none → (∃ x ∈ t.window, x.faulty = true) → t.v = r.v ∧ t.held = true ∧ t.clamped = r.clamped) ∧
    (t.source = .none → t.v = 0 ∧ t.held = true ∧ t.clamped = false) ∧ t.window = (inc :: r.window).take 8 ∧
    (t.gapAcc : Int) = max 0 (min 2000000000 ((r.gapAcc : Int) + inc.um)) ∧
    (c < r.ceff → t.ceff = max c (r.ceff - prof.decelStep)) ∧ (r.ceff ≤ c → t.ceff = r.ceff) ∧
    HealthAfter (faulty seen1) r.e1 t.e1 ∧ HealthAfter (faulty seen2) r.e2 t.e2 ∧
    t.source = (if t.e1.faulted = false then .e1 else if t.e2.faulted = false then .e2 else .none) ∧
    t.rollRun = (if t.source ≠ .none ∧ t.v < -(prof.rollbackThreshold : Int) then count16 r.rollRun else 0) ∧
    t.overRun = (if t.source ≠ .none ∧ (t.ceff : Int) + prof.overspeedMargin < t.v then count16 r.overRun else 0) ∧
    (t.source ≠ .none → t.v.natAbs < 20 →
      t.standRun = (if r.standRun < 100 then r.standRun + 1 else r.standRun) ∧
      t.standstill = (r.standstill || decide (r.standRun = 99))) ∧
    (t.source ≠ .none → 20 ≤ t.v.natAbs → t.standRun = 0 ∧ t.standstill = false) ∧
    (t.source = .none → t.standRun = 0 ∧
      t.standstill = (r.standstill || (m.isStopping && r.stopEntry.any (fun e => reached now (e + ms 30000))))) ∧
    (faulty seen1 = true ∨ faulty seen2 = true → t.slip1.head? = some 0 ∧ t.slip2.head? = some 0) ∧
    t.slip1 = (slipTake seen1 prof.l1 :: r.slip1).take 100 ∧ t.slip2 = (slipTake seen2 prof.l2 :: r.slip2).take 100 ∧
    t.slipFill = (if t.e1.faulted ∨ t.e2.faulted ∨ r.e1.faulted ∨ r.e2.faulted then 0
      else if r.slipFill < 100 then r.slipFill + 1 else r.slipFill) ∧
    checked = decide (t.e1.faulted = false ∧ t.e2.faulted = false ∧ t.source ≠ .none ∧ 500 ≤ t.v.natAbs ∧ t.slipFill = 100) ∧
    t.slipPresent = (checked && decide (prof.slipLimit * 1000 < apart)) ∧
    t.e1.tally = (if faulty seen1 then count16 r.e1.tally else r.e1.tally) ∧
    t.e2.tally = (if faulty seen2 then count16 r.e2.tally else r.e2.tally) ∧
    t.e1.position = seen1.position ∧ t.e1.taken = seen1.position ∧ t.e1.errorNoted = false ∧
    t.e2.position = seen2.position ∧ t.e2.taken = seen2.position ∧ t.e2.errorNoted = false ∧
    (r.started = false → seen1.position = seen1.taken ∧ seen2.position = seen2.taken ∧ faulty seen1 = false ∧ faulty seen2 = false ∧
      seen1.phases = i1.atSample ∧ seen2.phases = i2.atSample) ∧
    t.view = { v := t.v, invalid := t.source == .none, substitute := t.source == .e2, clamped := t.clamped, held := t.held
               standstill := t.standstill, slipMade := checked, source := t.source, e1Faulted := t.e1.faulted, e2Faulted := t.e2.faulted
               standRun := t.standRun, e1Delta := shown seen1, e2Delta := shown seen2, e1Tally := t.e1.tally, e2Tally := t.e2.tally
               ceff := t.ceff, gap := t.gapAcc / 1000, slipDiff := min 2000000 (apart / 1000), rollRun := t.rollRun
               overRun := t.overRun, sampleTime := now }) ∧
  (∀ (e : Encoder) (x : Phases),
    (x.a = e.phases.a → x.b = e.phases.b → e.observe x = e) ∧
    (x.a ≠ e.phases.a → x.b ≠ e.phases.b → e.observe x = { e with phases := x, errorNoted := true }) ∧
    ((x.a ≠ e.phases.a ∧ x.b = e.phases.b ∨ x.a = e.phases.a ∧ x.b ≠ e.phases.b) →
      ((e.observe x).position = e.position + 1 ∨ (e.observe x).position = e.position - 1) ∧
      e.observe x = { e with phases := x, position := (e.observe x).position } ∧ (e.observe x).observe e.phases = e) ∧
    (e.phases = { a := false, b := false } →
      ([{ a := true, b := false }, { a := true, b := true }, { a := false, b := true }, { a := false, b := false }].foldl
        Encoder.observe e) = { e with position := e.position + 4 }))

/-- A force is the code less the zero, times the gain in mN, divided by 1000 and truncated toward zero; a negative result is 0 and one above
65535 is 65535 (R58, with its examples). -/
def Obligations.GripForceOfACode : Prop :=
  (∀ z g c : Nat, (gripForce z g c : Int) = max 0 (min 65535 (Int.tdiv (((c : Int) - z) * g) 1000))) ∧
  gripForce 200 2500 2050 = 4625 ∧ gripForce 200 2500 150 = 0 ∧ gripForce 200 2500 4095 = 9737

/-- CABIN_REGISTER (R18): a number outside 1 to 128 is refused, then a mode other than OFF; otherwise a new record is set up fresh, and a
registered cabin's in-service flag is set with every other field kept. Nothing else changes. -/
def Obligations.CabinRegisterSetsTheRecord : Prop :=
  ∀ (i : SlotNo) (s : State), OrderNext i 0x10 s →
    (isCabin (param i s 0) = false → After (.cabinRegister i) s (Refuses i .refusedRange 0 s)) ∧
    (isCabin (param i s 0) = true → s.part.sup.mode ≠ .off → After (.cabinRegister i) s (Refuses i .refusedState 0 s)) ∧
    (isCabin (param i s 0) = true → s.part.sup.mode = .off → After (.cabinRegister i) s (fun t =>
      AnswersOnly i .ok 0 0 s t ∧ Frame [.window, .cabins] s t ∧ OtherCabinsKept (param i s 0) s t ∧
      cabin t.part (param i s 0) =
        (if (cabin s.part (param i s 0)).registered then { cabin s.part (param i s 0) with inService := paramFlag i s 1 }
         else { registered := true, inService := paramFlag i s 1, place := .unknown, mark := .none, door := .unknown, grip := .none,
                gripMin := 0, gripMax := 0, lastRelease := 0, note := .notQueued })))

/-- CABIN_UNREGISTER and CABIN_PLACE (R19): their refusals; otherwise the record becomes unregistered with in service no, place UNKNOWN and
summit mark NONE, or takes the place given. Nothing else changes. -/
def Obligations.CabinUnregisterAndPlace : Prop :=
  ∀ (i : SlotNo) (s : State),
    (OrderNext i 0x11 s →
      (isCabin (param i s 0) = false → After (.cabinUnregister i) s (Refuses i .refusedRange 0 s)) ∧
      (isCabin (param i s 0) = true →
        (s.part.sup.mode ≠ .off ∨ (cabin s.part (param i s 0)).registered = false ∨
          (cabin s.part (param i s 0)).place = .inStation ∨ (cabin s.part (param i s 0)).place = .onLine) →
        After (.cabinUnregister i) s (Refuses i .refusedState 0 s)) ∧
      (isCabin (param i s 0) = true → s.part.sup.mode = .off → (cabin s.part (param i s 0)).registered = true →
        (cabin s.part (param i s 0)).place ≠ .inStation → (cabin s.part (param i s 0)).place ≠ .onLine →
        After (.cabinUnregister i) s (fun t =>
          AnswersOnly i .ok 0 0 s t ∧ Frame [.window, .cabins] s t ∧ OtherCabinsKept (param i s 0) s t ∧
          cabin t.part (param i s 0) =
            { cabin s.part (param i s 0) with registered := false, inService := false, place := .unknown, mark := .none }))) ∧
    (OrderNext i 0x12 s →
      (isCabin (param i s 0) = false ∨ 1 < param i s 1 → After (.cabinPlace i) s (Refuses i .refusedRange 0 s)) ∧
      (isCabin (param i s 0) = true → param i s 1 ≤ 1 →
        (s.part.sup.mode ≠ .off ∨ (cabin s.part (param i s 0)).registered = false ∨
          (cabin s.part (param i s 0)).place = .inStation ∨ (cabin s.part (param i s 0)).place = .onLine) →
        After (.cabinPlace i) s (Refuses i .refusedState 0 s)) ∧
      (isCabin (param i s 0) = true → param i s 1 ≤ 1 → s.part.sup.mode = .off → (cabin s.part (param i s 0)).registered = true →
        (cabin s.part (param i s 0)).place ≠ .inStation → (cabin s.part (param i s 0)).place ≠ .onLine →
        After (.cabinPlace i) s (fun t =>
          AnswersOnly i .ok 0 0 s t ∧ Frame [.window, .cabins] s t ∧ OtherCabinsKept (param i s 0) s t ∧
          cabin t.part (param i s 0) =
            { cabin s.part (param i s 0) with place := if param i s 1 = 1 then .garaged else .unknown })))

/-- CABIN_SET_SERVICE (R20), in every mode: the refusals; otherwise the in-service flag is set as given, non-zero being yes, and nothing else
changes. -/
def Obligations.CabinSetServiceSetsTheFlag : Prop :=
  ∀ (i : SlotNo) (s : State), OrderNext i 0x13 s →
    (isCabin (param i s 0) = false → After (.cabinSetService i) s (Refuses i .refusedRange 0 s)) ∧
    (isCabin (param i s 0) = true → (cabin s.part (param i s 0)).registered = false →
      After (.cabinSetService i) s (Refuses i .refusedState 0 s)) ∧
    (isCabin (param i s 0) = true → (cabin s.part (param i s 0)).registered = true → After (.cabinSetService i) s (fun t =>
      AnswersOnly i .ok 0 0 s t ∧ Frame [.window, .cabins] s t ∧ OtherCabinsKept (param i s 0) s t ∧
      cabin t.part (param i s 0) = { cabin s.part (param i s 0) with inService := (param i s 1 != 0) }))

/-- CABIN_IDENTIFY (R21), in every mode: the refusals; otherwise the entry at the position takes the number with its segment and entry time
kept, the cabin's place is IN_STATION, TRACK is set, and no other entry and no other record's place changes. In a state in which no channel
waits for a start and no action waits due, the order is answered OK, the cabin's door state follows the lock result that the entry held, LOCKED
or NOT_LOCKED, or is UNKNOWN where it held none; the entry's result is discarded; and NOT_LOCKED sets DOOR and reports CABIN_DOOR_UNLOCKED
with the cabin as source, present where the entry stands in S4 (R114). Any other held result leaves the mode, and leaves the stop causes and the
present conditions as they are; but a release that the new number lets Launch Control request and the arbiter grant opens the retainer watch
(R68, R73), and so ends a RELEASE_TIMEOUT condition where one is present in RUN, as no run of the station leaves one. -/
def Obligations.CabinIdentifyNumbersTheEntry : Prop :=
  ∀ (i : SlotNo) (s : State), OrderNext i 0x14 s →
    (entryAt s.part (param i s 0) = none ∨ isCabin (param i s 1) = false →
      After (.cabinIdentify i) s (Refuses i .refusedRange 0 s)) ∧
    (∀ e ∈ entryAt s.part (param i s 0), isCabin (param i s 1) = true →
      (e.cabin ≠ 0 ∨ (cabin s.part (param i s 1)).registered = false ∨ param i s 1 ∈ queueNumbers s.part ∨
        param i s 1 ∈ rosterNumbers s.part) →
      After (.cabinIdentify i) s (Refuses i .refusedState 0 s)) ∧
    (∀ e ∈ entryAt s.part (param i s 0), isCabin (param i s 1) = true → e.cabin = 0 →
      (cabin s.part (param i s 1)).registered = true → param i s 1 ∉ queueNumbers s.part → param i s 1 ∉ rosterNumbers s.part →
      TrackAgrees s.part →
      After (.cabinIdentify i) s (fun t =>
        t.part.track.queue.map shownEntry =
          (s.part.track.queue.map shownEntry).set (param i s 0 - 1) (param i s 1, e.segment, e.entered) ∧
        t.part.track.roster = s.part.track.roster ∧ (cabin t.part (param i s 1)).place = .inStation ∧
        (∀ j : Fin 128, j.val + 1 ≠ param i s 1 → (t.part.cabins.get j).place = (s.part.cabins.get j).place) ∧
        t.part.window.attention.getLsbD 4 = true ∧
        Frame [.window, .track, .cabins, .rope, .launch, .doors, .sequencer, .sup] s t ∧
        (NothingWaits s.part → Answers i .ok 0 s t ∧
          (cabin t.part (param i s 1)).door = (match e.heldLock with
            | none => .unknown
            | some true => .locked
            | some false => .notLocked) ∧
          t.part.track.queue.map (fun x => x.heldLock) =
            (s.part.track.queue.map (fun x => x.heldLock)).set (param i s 0 - 1) none ∧
          (e.heldLock = some false → t.part.window.attention.getLsbD 5 = true ∧
            CauseEntered .cabinDoorUnlocked (param i s 1) t.part.sup ∧ t.part.sup.mode.isRunning = false ∧
            (e.segment = 4 → ConditionPresent .cabinDoorUnlocked (param i s 1) t.part.sup)) ∧
          (e.heldLock ≠ some false → t.part.sup.mode = s.part.sup.mode ∧
            t.part.sup.causes.filter (fun c => c.kind != .releaseTimeout) =
              s.part.sup.causes.filter (fun c => c.kind != .releaseTimeout) ∧
            t.part.sup.present.filter (fun c => c.kind != .releaseTimeout) =
              s.part.sup.present.filter (fun c => c.kind != .releaseTimeout) ∧
            (s.part.launch.watchFault = false ∨ s.part.sup.mode ≠ .run →
              t.part.sup.causes = s.part.sup.causes ∧ t.part.sup.present = s.part.sup.present)))))

/-- ROSTER_LOAD (R22, R196): the refusals, with the position of the first number that fails: an action above 1 or a count above 118; then a
number of 0 or above 128, then a number that stood in the list before, REFUSED_RANGE; then another mode than OFF, then an unregistered
cabin, one in the station queue, and with APPEND one in the roster and one beyond the 128 that the roster holds, REFUSED_STATE. Each check
is made over the whole list before the next (log entry 16), and of two occurrences of a number the second is the one that fails (log entry
56). Otherwise REPLACE (0) starts from an empty roster and APPEND (1) from the present one, the numbers join at the tail in order with mark
NONE and 0 seconds, each listed cabin is ON_LINE with mark NONE, and a cabin that REPLACE removes and does not list has place UNKNOWN. -/
def Obligations.RosterLoadPlacesTheList : Prop :=
  ∀ (i : SlotNo) (s : State), OrderNext i 0x15 s →
    let append := param i s 0 == 1
    let l := readNumbers (slotOf s.part i) 2 (param i s 1)
    let outside := fun n : Nat => ∃ k ∈ l[n]?, isCabin k = false
    let again := fun n : Nat => ∃ k ∈ l[n]?, k ∈ l.take n
    let unregistered := fun n : Nat => ∃ k ∈ l[n]?, (cabin s.part k).registered = false
    let queued := fun n : Nat => ∃ k ∈ l[n]?, inQueue s.part k = true
    let listed := fun n : Nat => append = true ∧ ∃ k ∈ l[n]?, onRoster s.part k = true
    let beyond := fun n : Nat => append = true ∧ n < l.length ∧ 128 ≤ s.part.track.roster.length + n
    (1 < param i s 0 ∨ 118 < param i s 1 → After (.rosterLoad i) s (Refuses i .refusedRange 0 s)) ∧
    (param i s 0 ≤ 1 → param i s 1 ≤ 118 →
      (∀ n : Fin 118,
        (FirstAt outside n.val → After (.rosterLoad i) s (Refuses i .refusedRange (n.val + 1) s)) ∧
        ((∀ x ∈ l, isCabin x = true) → FirstAt again n.val → After (.rosterLoad i) s (Refuses i .refusedRange (n.val + 1) s)) ∧
        ((∀ x ∈ l, isCabin x = true) → l.Nodup → s.part.sup.mode = .off →
          (FirstAt unregistered n.val → After (.rosterLoad i) s (Refuses i .refusedState (n.val + 1) s)) ∧
          ((∀ x ∈ l, (cabin s.part x).registered = true) →
            (FirstAt queued n.val → After (.rosterLoad i) s (Refuses i .refusedState (n.val + 1) s)) ∧
            ((∀ x ∈ l, inQueue s.part x = false) →
              (FirstAt listed n.val → After (.rosterLoad i) s (Refuses i .refusedState (n.val + 1) s)) ∧
              ((∀ x ∈ l, onRoster s.part x = false) → FirstAt beyond n.val →
                After (.rosterLoad i) s (Refuses i .refusedState (n.val + 1) s)))))) ∧
      ((∀ x ∈ l, isCabin x = true) → l.Nodup → s.part.sup.mode ≠ .off →
        After (.rosterLoad i) s (Refuses i .refusedState 0 s)) ∧
      ((∀ x ∈ l, isCabin x = true) → l.Nodup → s.part.sup.mode = .off →
        (∀ x ∈ l, (cabin s.part x).registered = true ∧ inQueue s.part x = false ∧ (append = true → onRoster s.part x = false)) →
        (append = true → s.part.track.roster.length + l.length ≤ 128) →
        After (.rosterLoad i) s (fun t =>
          AnswersOnly i .ok 0 0 s t ∧ Frame [.window, .track, .cabins] s t ∧
          t.part.track = { s.part.track with
            roster := (if append then s.part.track.roster else []) ++ l.map (fun k => { cabin := k, mark := .none, seconds := 0 }) } ∧
          (∀ j : Fin 128, t.part.cabins.get j =
            if j.val + 1 ∈ l then { s.part.cabins.get j with place := .onLine, mark := .none }
            else if append = false ∧ onRoster s.part (j.val + 1) = true then { s.part.cabins.get j with place := .unknown }
            else s.part.cabins.get j))))

/-- STATION_QUEUE_LOAD (R23, R196): the refusals: a count above 15; then, with the position of the first pair that fails, a number above 128, a
segment outside S1 to S6, a number that stood in the list before and a segment higher than that of the pair before, REFUSED_RANGE; then
another mode than OFF, then an unregistered cabin and a cabin in the line roster, REFUSED_STATE. Each check is made over the whole list
before the next (log entry 16), and of two pairs with one number the second is the one that fails (log entry 56). Otherwise the queue is the
listed pairs, oldest first, with the present time, each listed cabin is IN_STATION with door state UNKNOWN (R114), a cabin that leaves the
queue has place UNKNOWN, the tag matcher is EMPTY, and the HOLD cap and the two overflow conditions follow the new queue (R7, R15). -/
def Obligations.StationQueueLoadReplacesTheQueue : Prop :=
  ∀ (i : SlotNo) (s : State), OrderNext i 0x16 s →
    let l := readPairs (slotOf s.part i) 1 (param i s 0)
    let above := fun n : Nat => ∃ x ∈ l[n]?, 128 < x.1
    let outside := fun n : Nat => ∃ x ∈ l[n]?, ¬ (1 ≤ x.2 ∧ x.2 ≤ 6)
    let again := fun n : Nat => ∃ x ∈ l[n]?, x.1 ≠ 0 ∧ x.1 ∈ (l.take n).map (fun y => y.1)
    let higher := fun n : Nat => 0 < n ∧ ∃ x ∈ l[n]?, ∃ y ∈ l[n - 1]?, y.2 < x.2
    let unregistered := fun n : Nat => ∃ x ∈ l[n]?, x.1 ≠ 0 ∧ (cabin s.part x.1).registered = false
    let onLine := fun n : Nat => ∃ x ∈ l[n]?, x.1 ≠ 0 ∧ onRoster s.part x.1 = true
    (15 < param i s 0 → After (.stationQueueLoad i) s (Refuses i .refusedRange 0 s)) ∧
    (param i s 0 ≤ 15 → ∀ n : Fin 15,
      (FirstAt above n.val → After (.stationQueueLoad i) s (Refuses i .refusedRange (n.val + 1) s)) ∧
      ((∀ x ∈ l, x.1 ≤ 128) → FirstAt outside n.val → After (.stationQueueLoad i) s (Refuses i .refusedRange (n.val + 1) s)) ∧
      ((∀ x ∈ l, x.1 ≤ 128 ∧ 1 ≤ x.2 ∧ x.2 ≤ 6) → FirstAt again n.val →
        After (.stationQueueLoad i) s (Refuses i .refusedRange (n.val + 1) s)) ∧
      ((∀ x ∈ l, x.1 ≤ 128 ∧ 1 ≤ x.2 ∧ x.2 ≤ 6) → ((l.map (fun x => x.1)).filter (fun k => k != 0)).Nodup → FirstAt higher n.val →
        After (.stationQueueLoad i) s (Refuses i .refusedRange (n.val + 1) s)) ∧
      ((∀ x ∈ l, x.1 ≤ 128 ∧ 1 ≤ x.2 ∧ x.2 ≤ 6) → ((l.map (fun x => x.1)).filter (fun k => k != 0)).Nodup →
        l.Pairwise (fun x y => y.2 ≤ x.2) → s.part.sup.mode = .off →
        (FirstAt unregistered n.val → After (.stationQueueLoad i) s (Refuses i .refusedState (n.val + 1) s)) ∧
        ((∀ x ∈ l, x.1 ≠ 0 → (cabin s.part x.1).registered = true) → FirstAt onLine n.val →
          After (.stationQueueLoad i) s (Refuses i .refusedState (n.val + 1) s)))) ∧
    (param i s 0 ≤ 15 → (∀ x ∈ l, x.1 ≤ 128 ∧ 1 ≤ x.2 ∧ x.2 ≤ 6) → ((l.map (fun x => x.1)).filter (fun k => k != 0)).Nodup →
      l.Pairwise (fun x y => y.2 ≤ x.2) →
      (s.part.sup.mode ≠ .off → After (.stationQueueLoad i) s (Refuses i .refusedState 0 s)) ∧
      (s.part.sup.mode = .off → (∀ x ∈ l, x.1 ≠ 0 → (cabin s.part x.1).registered = true ∧ onRoster s.part x.1 = false) →
        After (.stationQueueLoad i) s (fun t =>
          Answers i .ok 0 s t ∧ WindowFrame i s t ∧
          Frame [.window, .track, .cabins, .rope, .launch, .doors, .sequencer, .sup] s t ∧
          t.part.track.queue.map shownEntry = l.map (fun x => (x.1, x.2, s.part.clock.now)) ∧
          t.part.track.roster = s.part.track.roster ∧ t.part.track.matcher = .empty ∧
          t.part.track.detectors = s.part.track.detectors ∧
          (∀ j : Fin 128, (t.part.cabins.get j).place =
            if j.val + 1 ∈ l.map (fun x => x.1) then .inStation
            else if inQueue s.part (j.val + 1) = true then .unknown else (s.part.cabins.get j).place) ∧
          (∀ j : Fin 128, j.val + 1 ∈ l.map (fun x => x.1) → (t.part.cabins.get j).door = .unknown) ∧
          t.part.sup.caps.hold = decide (3 ≤ l.countP (fun x => x.2 == 4)) ∧
          t.part.track.holdOverflow = decide (4 ≤ l.countP (fun x => x.2 == 4)) ∧
          t.part.track.trackOverflow = (s.part.track.trackOverflow && decide (l.length = 15)) ∧ t.part.sup.mode = .off)))

/-- SENSOR_CONFIGURE (R49): the refusals with the position of the field; otherwise the channel takes the kind, and the category (NONE for kind
GENERAL, CLAMPED with detail 1 where another was given), keeping its values and count; SENSOR is set, and the channel's condition is present
by the new configuration exactly where it is in fault with a category. SWITCH_CHANGE (R46 to R48): the channel takes its new debounced
value, counts the change and sets SENSOR; a channel of a fault kind that opens reports its cause with its category and number, and one that
had opened and closes tells that the condition is gone. -/
def Obligations.SensorConfigureAndSwitchChange : Prop :=
  (∀ (i : SlotNo) (s : State), OrderNext i 0x20 s →
     (readSwitch (param i s 0) = none → After (.sensorConfigure i) s (Refuses i .refusedRange 1 s)) ∧
     (∀ c ∈ readSwitch (param i s 0),
       (2 < param i s 1 → After (.sensorConfigure i) s (Refuses i .refusedRange 2 s)) ∧
       (param i s 1 ≤ 2 → 2 < param i s 2 → After (.sensorConfigure i) s (Refuses i .refusedRange 3 s)) ∧
       (∀ k ∈ readSwitchKind (param i s 1), ∀ cat ∈ readCategory (param i s 2),
         (s.part.sup.mode ≠ .off → After (.sensorConfigure i) s (Refuses i .refusedState 0 s)) ∧
         (s.part.sup.mode = .off → After (.sensorConfigure i) s (fun t =>
           Answers i (if k = .general ∧ cat ≠ .none then .clamped else .ok) (if k = .general ∧ cat ≠ .none then 1 else 0) s t ∧
           WindowFrame i s t ∧ t.part.window.attention.getLsbD 6 = true ∧ Frame [.window, .sensors, .sup] s t ∧
           t.part.sensors.switches.get c =
             { s.part.sensors.switches.get c with kind := k, category := if k = .general then .none else cat } ∧
           (∀ d, d ≠ c → t.part.sensors.switches.get d = s.part.sensors.switches.get d) ∧ t.part.sup.mode = .off ∧
           (∀ x ∈ (t.part.sensors.switches.get c).condition,
             CauseEntered x.1 (c.val + 1) t.part.sup ∧ ConditionPresent x.1 (c.val + 1) t.part.sup) ∧
           (∀ x ∈ (s.part.sensors.switches.get c).condition, (t.part.sensors.switches.get c).condition = none →
             ¬ ConditionPresent x.1 (c.val + 1) t.part.sup)))))) ∧
  (∀ (k : Fin 8) (s : State), Ready s → switchChanged k s.part = true →
     After (.switchChange k) s (fun t =>
       let old := s.part.sensors.switches.get k
       Frame [.window, .rope, .sensors, .launch, .doors, .sup, .calls] s t ∧ t.part.window.attention.getLsbD 6 = true ∧
       t.part.sensors.switches.get k = { old with value := old.input.settled, changes := count16 old.changes } ∧
       (∀ j, j ≠ k → t.part.sensors.switches.get j = s.part.sensors.switches.get j) ∧
       t.part.sensors = { s.part.sensors with switches := t.part.sensors.switches } ∧
       (∀ kind : CauseKind, (old.kind = .ropePosition ∧ kind = .ropePosition) ∨ (old.kind = .brittleLoop ∧ kind = .brittleLoop) →
         (old.input.settled = some false → old.category ≠ .none →
           CauseEntered kind (k.val + 1) t.part.sup ∧ ConditionPresent kind (k.val + 1) t.part.sup ∧
           t.part.sup.mode.isRunning = false ∧ (old.category = .fast → t.part.sup.fastStop = true)) ∧
         (old.input.settled = some true → old.value = some false → old.category ≠ .none →
           ¬ ConditionPresent kind (k.val + 1) t.part.sup)) ∧
       (old.category = .none ∨ old.kind = .general → t.part.sup = s.part.sup)))

/-- DOOR_CONFIGURE (R79, R80): the refusals; otherwise the channel takes the configuration read from the table's fields, the answer tells how
many were clamped or adjusted, DOOR is set, no channel keeps a pending action made under another kind, and the other channels are untouched. A
channel that leaves FAULT because its kind becomes NONE may enter AT_A, and the waiting actions are then judged (R80, R81, R108): of that case
the answer, the frame and the channel's state are stated where no action and no other door waits. -/
def Obligations.DoorConfigureSetsTheChannel : Prop :=
  ∀ (i : SlotNo) (s : State), OrderNext i 0x30 s →
    (7 < param i s 0 → After (.doorConfigure i) s (Refuses i .refusedRange 0 s)) ∧
    (∀ n ∈ readChannel (param i s 0),
      (3 < param i s 1 → After (.doorConfigure i) s (Refuses i .refusedRange 1 s)) ∧
      (param i s 1 ≤ 3 → 1 < param i s 2 → After (.doorConfigure i) s (Refuses i .refusedRange 2 s)) ∧
      (param i s 1 ≤ 3 → param i s 2 ≤ 1 → (param i s 13 < 1 ∨ 6 < param i s 13) →
        After (.doorConfigure i) s (Refuses i .refusedRange 9 s)) ∧
      (param i s 1 ≤ 3 → param i s 2 ≤ 1 → 1 ≤ param i s 13 → param i s 13 ≤ 6 → 2 < param i s 14 →
        After (.doorConfigure i) s (Refuses i .refusedRange 10 s)) ∧
      (∀ cfg clamped, readDoorConfig (slotOf s.part i) = .ok (cfg, clamped) →
        (200 ≤ cfg.travelLimit ∧ cfg.travelLimit ≤ 10000 ∧ cfg.reopenDwell ≤ 5000 ∧ cfg.retries ≤ 3 ∧ 50 ≤ cfg.lockTime ∧
          cfg.lockTime ≤ 2000 ∧ 1 ≤ cfg.threshold ∧ cfg.threshold ≤ 4095 ∧ 1 ≤ cfg.reach ∧ cfg.reach ≤ 6 ∧
          (cfg.kind.isCabin = true → cfg.closingEnd = .b ∧ cfg.lock = false) ∧
          (cfg.closingEnd = .b → cfg.kind = .platformGate → cfg.lock = false)) ∧
        (s.part.sup.mode ≠ .off ∨ (channel s.part n).state.atRest = false →
          After (.doorConfigure i) s (Refuses i .refusedState 0 s)) ∧
        (s.part.sup.mode = .off → (channel s.part n).state.atRest = true → After (.doorConfigure i) s (fun t =>
          t.part.window.attention.getLsbD 5 = true ∧ (channel t.part n).config = cfg ∧
          (cfg.kind ≠ .none ∨ (channel s.part n).state ≠ .fault →
            channel t.part n = { channel s.part n with config := cfg }) ∧
          (cfg.kind = .none → (channel s.part n).state = .fault → NothingWaits s.part →
            channel t.part n = { channel s.part n with
              config := cfg
              state := if (channel s.part n).limA.high = true ∧ (channel s.part n).limB.high = false then .atA
                else if (channel s.part n).limB.high = true ∧ (channel s.part n).limA.high = false then .atB else .unknown } ∧
            ¬ ConditionPresent .doorFault n.val t.part.sup) ∧
          (cfg.kind ≠ (channel s.part n).config.kind → ∀ a ∈ t.part.sequencer.actions, a.channel ≠ n) ∧
          (cfg.kind ≠ .none ∨ (channel s.part n).state ≠ .fault ∨ NothingWaits s.part →
            Answers i (if clamped = 0 then .ok else .clamped) clamped s t ∧ WindowFrame i s t ∧
            Frame [.window, .cabins, .rope, .launch, .doors, .sequencer, .sup] s t ∧ OnlyDoorsChange s t ∧
            (∀ m, m ≠ n → channel t.part m = channel s.part m) ∧
            (cfg.kind = (channel s.part n).config.kind → t.part.sequencer.actions = s.part.sequencer.actions))))))

/-- UNKNOWN_KIND (R193): an order whose kind code names no order of the part is answered UNKNOWN_KIND with detail 0, and nothing else changes.
The five long-running orders are answered NO_CAPACITY, and nothing else happens, where 24 are held already (R193). That a NO_CAPACITY answer
leaves the progress octets as they were is the model's choice (log entry 78). -/
def Obligations.OrdersTurnedAwayByTheIntake : Prop :=
  (∀ (i : SlotNo) (s : State), Ready s → s.part.window.intake.head? = some i → knownKind (slotOf s.part i).kind = false →
     After (.unknownKind i) s (Refuses i .unknownKind 0 s)) ∧
  (∀ (i : SlotNo) (s : State), Ready s → s.part.window.intake.head? = some i → 24 ≤ longOrdersHeld s.part.window →
     ((slotOf s.part i).kind = 0x31 → After (.doorMove i) s (Refuses i .noCapacity 0 s)) ∧
     ((slotOf s.part i).kind = 0x51 → After (.lineStart i) s (Refuses i .noCapacity 0 s)) ∧
     ((slotOf s.part i).kind = 0x52 → After (.lineProbe i) s (Refuses i .noCapacity 0 s)) ∧
     ((slotOf s.part i).kind = 0x60 → After (.messageSend i) s (Refuses i .noCapacity 0 s)) ∧
     ((slotOf s.part i).kind = 0x70 → After (.callPlace i) s (Refuses i .noCapacity 0 s)))

/-- DOOR_MOVE (R98) is refused with REFUSED_RANGE for the channel (detail 1) or the target (detail 2), and with REFUSED_STATE for a channel of
kind NONE (1), a channel in FAULT (2), and a cabin channel outside OFF (3). The target is coded 1 for A and 2 for B (log entry 14). DOOR_MOVE
(R82, R84, R96, R98) on a resting channel that it may move, with no owner: at its target it is answered OK at once; elsewhere it waits for a
start where the budget has none left; with an empty queue, a start left and the limit of the target inactive it moves, its motor toward the
target and the grant recorded; a locked gate at A first releases its lock. A motion toward the other end is turned back, and the DOOR_MOVE that
owned it is SUPERSEDED (R90). That a refused DOOR_MOVE keeps the progress octets is the model's choice (log entry 78). -/
def Obligations.DoorMoveIsRefusedOrStarts : Prop :=
  (∀ (i : SlotNo) (s : State), LongOrderNext i 0x31 s →
     (7 < param i s 0 → After (.doorMove i) s (Refuses i .refusedRange 1 s)) ∧
     (∀ n ∈ readChannel (param i s 0),
       (param i s 1 ≠ 1 → param i s 1 ≠ 2 → After (.doorMove i) s (Refuses i .refusedRange 2 s)) ∧
       (∀ e ∈ readTarget (param i s 1),
         ((channel s.part n).config.kind = .none → After (.doorMove i) s (Refuses i .refusedState 1 s)) ∧
         ((channel s.part n).config.kind ≠ .none → (channel s.part n).state = .fault →
           After (.doorMove i) s (Refuses i .refusedState 2 s)) ∧
         ((channel s.part n).config.kind.isCabin = true → (channel s.part n).state ≠ .fault → s.part.sup.mode ≠ .off →
           After (.doorMove i) s (Refuses i .refusedState 3 s))))) ∧
  (∀ (i : SlotNo) (s : State), LongOrderNext i 0x31 s →
     ∀ n ∈ readChannel (param i s 0), ∀ e ∈ readTarget (param i s 1),
       (channel s.part n).config.kind ≠ .none → (channel s.part n).state ≠ .fault →
       ((channel s.part n).config.kind.isCabin = true → s.part.sup.mode = .off) → NothingWaits s.part →
       ((channel s.part n).owner = .none → (channel s.part n).state = e.atState → After (.doorMove i) s (fun t =>
         (slotOf t.part i).state = .done ∧ (slotOf t.part i).result = 0 ∧ (slotOf t.part i).detail = 0 ∧
         channel t.part n = { channel s.part n with retriesUsed := 0, target := none, waits := .none } ∧
         t.part.doors.queue = s.part.doors.queue ∧ Frame [.window, .doors] s t)) ∧
       ((channel s.part n).owner = .none → (channel s.part n).state.atRest = true → (channel s.part n).state ≠ e.atState →
         ¬ ((channel s.part n).state = .atA ∧ (channel s.part n).config.locking = true) → budgetRoom s.part.doors s.part.clock.now = false →
         After (.doorMove i) s (fun t => Holds i s t ∧ Frame [.window, .doors] s t ∧
           channel t.part n = { channel s.part n with
             state := .waitingStart, waits := .move, target := some e, owner := .order i, retriesUsed := 0, motor := none } ∧
           t.part.doors.queue = s.part.doors.queue ++ [.door n])) ∧
       ((channel s.part n).owner = .none → (channel s.part n).state.atRest = true → (channel s.part n).state ≠ e.atState →
         ¬ ((channel s.part n).state = .atA ∧ (channel s.part n).config.locking = true) → budgetRoom s.part.doors s.part.clock.now = true →
         s.part.doors.queue = [] → (channel s.part n).limit e = false →
         After (.doorMove i) s (fun t => Holds i s t ∧ Frame [.window, .doors] s t ∧
           channel t.part n = { channel s.part n with
             state := e.movingState, waits := .none, target := some e, owner := .order i, retriesUsed := 0, motor := some e
             lastGrant := s.part.clock.now, starts := count16 (channel s.part n).starts, obstructionRun := 0 } ∧
           t.part.doors.queue = [] ∧ t.part.doors.history.head? = some { time := s.part.clock.now, requester := .door n } ∧
           t.part.doors.grants = count16 s.part.doors.grants)) ∧
       ((channel s.part n).owner = .none → (channel s.part n).state = .atA → (channel s.part n).config.locking = true → e = .b →
         (channel s.part n).lockSns.high = true →
         After (.doorMove i) s (fun t => Holds i s t ∧ Frame [.window, .doors] s t ∧
           channel t.part n = { channel s.part n with
             state := .unlocking, lockRel := true, since := s.part.clock.now, target := some e, owner := .order i, retriesUsed := 0 })) ∧
       (∀ j : SlotNo, j ≠ i → (channel s.part n).owner = .order j → (channel s.part n).state = e.other.movingState →
         (channel s.part n).limit e = false →
         After (.doorMove i) s (fun t =>
           (slotOf t.part j).state = .done ∧ (slotOf t.part j).result = asOctet Result.superseded.code ∧ Holds i s t ∧
           (channel t.part n).owner = .order i ∧ (channel t.part n).target = some e ∧ (channel t.part n).motor ≠ some e.other)))

/-- DOOR_HALT (R91, R99) and DOOR_RESET_FAULT (R94), in a state in which no other channel waits for a start and no action waits due: the
refusals; a halt de-energises motor and LOCKREL, takes the channel's entry out of the start queue, ends its operation and target, and the channel
settles by its limits, HALTED where both are active (log entry 22); it changes nothing but the owner at rest, and in LOCKING ends the operation
and leaves the state; a reset leaves FAULT for the state that the limits show, with the DOOR_FAULT condition gone and DOOR set. Each answers OK,
the halt with the state's code. -/
def Obligations.DoorHaltAndResetFault : Prop :=
  ∀ (i : SlotNo) (s : State), (∀ a ∈ s.part.sequencer.actions, a.dueWaiting = false) →
    (OrderNext i 0x32 s →
      (7 < param i s 0 → After (.doorHalt i) s (Refuses i .refusedRange 0 s)) ∧
      (∀ n ∈ readChannel (param i s 0),
        ((channel s.part n).config.kind = .none → After (.doorHalt i) s (Refuses i .refusedState 0 s)) ∧
        ((channel s.part n).config.kind ≠ .none → (channel s.part n).owner ≠ .order i →
          (∀ r ∈ s.part.doors.queue, r = .retainer ∨
            (r = .door n ∧ (channel s.part n).state.atRest = false ∧ (channel s.part n).state ≠ .locking)) →
          After (.doorHalt i) s (fun t =>
          Answers i .ok (channel t.part n).state.code s t ∧
          Frame [.window, .cabins, .launch, .doors, .sequencer, .sup] s t ∧ OnlyDoorsChange s t ∧
          (∀ m, m ≠ n → channel t.part m = channel s.part m) ∧
          (∀ j, j ≠ i → (channel s.part n).owner = .order j →
            (slotOf t.part j).state = .done ∧ (slotOf t.part j).result = asOctet Result.superseded.code) ∧
          ((channel s.part n).state.atRest = true → channel t.part n = { channel s.part n with owner := .none }) ∧
          ((channel s.part n).state = .locking →
            channel t.part n = { channel s.part n with owner := .none, target := none, waits := .none }) ∧
          ((channel s.part n).state.atRest = false → (channel s.part n).state ≠ .locking →
            channel t.part n = { channel s.part n with
              owner := .none, motor := none, lockRel := false, target := none, waits := .none
              state := if (channel s.part n).limA.high = true ∧ (channel s.part n).limB.high = false then .atA
                else if (channel s.part n).limB.high = true ∧ (channel s.part n).limA.high = false then .atB else .halted } ∧
            .door n ∉ t.part.doors.queue))))) ∧
    (OrderNext i 0x33 s →
      (7 < param i s 0 → After (.doorResetFault i) s (Refuses i .refusedRange 0 s)) ∧
      (∀ n ∈ readChannel (param i s 0),
        ((channel s.part n).state ≠ .fault → After (.doorResetFault i) s (Refuses i .refusedState 1 s)) ∧
        ((channel s.part n).state = .fault → (channel s.part n).limA.high = true → (channel s.part n).limB.high = true →
          After (.doorResetFault i) s (Refuses i .refusedState 2 s)) ∧
        ((channel s.part n).state = .fault → ¬ ((channel s.part n).limA.high = true ∧ (channel s.part n).limB.high = true) →
          After (.doorResetFault i) s (fun t =>
            Answers i .ok 0 s t ∧ WindowFrame i s t ∧ t.part.window.attention.getLsbD 5 = true ∧
            Frame [.window, .rope, .doors, .sup] s t ∧ (∀ m, m ≠ n → channel t.part m = channel s.part m) ∧
            channel t.part n = { channel s.part n with
              state := if (channel s.part n).limA.high = true then .atA else if (channel s.part n).limB.high = true then .atB
                else .unknown } ∧
            ¬ ConditionPresent .doorFault n.val t.part.sup ∧
            t.part.sup.caps.door =
              t.part.doors.channels.toList.any (fun c => c.state == .fault && c.config.capOnFault)))))

/-- START_BUDGET_SET (R97): B is clamped to 1 to 8 and W to 200 to 5,000 ms, CLAMPED tells how many were; the history keeps the grants given.
With no entry waiting nothing else changes. GRANT_WINDOW_EXPIRY (R84, R96): when a counted grant has left the window the arbiter judges the
queue. An empty queue leaves everything; a waiting channel alone in the queue, with a start left and the limit of its heading inactive,
starts its motion, and the grant is recorded. The budget and the window are read as two octets each (log entry 15). -/
def Obligations.BudgetSetAndGrantWindow : Prop :=
  (∀ (i : SlotNo) (s : State), OrderNext i 0x34 s →
     After (.startBudgetSet i) s (fun t =>
       t.part.doors.budget = max 1 (min 8 (param16 i s 0)) ∧ t.part.doors.window = max 200 (min 5000 (param16 i s 2)) ∧
       (s.part.doors.queue = [] →
         (let n := (if max 1 (min 8 (param16 i s 0)) = param16 i s 0 then 0 else 1) +
             (if max 200 (min 5000 (param16 i s 2)) = param16 i s 2 then 0 else 1)
          AnswersOnly i (if n = 0 then .ok else .clamped) n 0 s t) ∧
         Frame [.window, .doors] s t ∧
         t.part.doors = { s.part.doors with
           budget := max 1 (min 8 (param16 i s 0)), window := max 200 (min 5000 (param16 i s 2)) }))) ∧
  (∀ (s : State), Ready s → grantLeft s.part.doors s.part.clock.now = true →
     (s.part.doors.queue = [] → exec .grantWindowExpiry s = .next s) ∧
     (budgetRoom s.part.doors s.part.clock.now = false → exec .grantWindowExpiry s = .next s) ∧
     (∀ n : ChannelNo, s.part.doors.queue = [.door n] → budgetRoom s.part.doors s.part.clock.now = true →
       (channel s.part n).limit (headingOf (channel s.part n)) = false → After .grantWindowExpiry s (fun t =>
         Frame [.doors] s t ∧ (∀ m, m ≠ n → channel t.part m = channel s.part m) ∧
         channel t.part n = { channel s.part n with
           state := if (channel s.part n).waits = .reversal then .reversing else (headingOf (channel s.part n)).movingState
           waits := .none, lastGrant := s.part.clock.now, starts := count16 (channel s.part n).starts, obstructionRun := 0
           motor := some (headingOf (channel s.part n)) } ∧
         t.part.doors.queue = [] ∧ t.part.doors.history.head? = some { time := s.part.clock.now, requester := .door n })))

/-- DOOR_PROGRAM_LOAD (R103): a count above 24 and the first entry that fails are refused, then a mode other than OFF; otherwise the program is
the listed entries, each delay clamped to 5,000 ms, the entries beyond the count are unused, DOOR is set, and nothing else changes: that the
counts of actions made are kept is the model's reading (log entry 44). -/
def Obligations.DoorProgramLoadReplacesTheProgram : Prop :=
  ∀ (i : SlotNo) (s : State), OrderNext i 0x35 s →
    let entry := fun j : Nat => readEntry (slotOf s.part i) (1 + 4 * j)
    (24 < param i s 0 → After (.doorProgramLoad i) s (Refuses i .refusedRange 0 s)) ∧
    (param i s 0 ≤ 24 →
      (∀ n : Fin 24, n.val < param i s 0 → (∀ m : Fin 24, m < n → EntryFits s.part (entry m.val)) → ¬ EntryFits s.part (entry n.val) →
        After (.doorProgramLoad i) s (Refuses i .refusedRange (n.val + 1) s)) ∧
      ((∀ m : Fin 24, m.val < param i s 0 → EntryFits s.part (entry m.val)) →
        (s.part.sup.mode ≠ .off → After (.doorProgramLoad i) s (Refuses i .refusedState 0 s)) ∧
        (s.part.sup.mode = .off → After (.doorProgramLoad i) s (fun t =>
          (let n := (List.range (param i s 0)).countP (fun j => decide (5000 < (entry j).delay))
           AnswersOnly i (if n = 0 then .ok else .clamped) n 0x0020 s t) ∧
          Frame [.window, .sequencer] s t ∧
          t.part.sequencer = { s.part.sequencer with program := t.part.sequencer.program } ∧
          (∀ m : Fin 24,
            (param i s 0 ≤ m.val → t.part.sequencer.program.get m = none) ∧
            (m.val < param i s 0 → ∀ c ∈ readChannel (entry m.val).channel, ∀ e ∈ readEnd (entry m.val).action,
              ∀ k ∈ readCondition (entry m.val).condition,
              t.part.sequencer.program.get m = some { trigger := (entry m.val).trigger, channel := c, action := e
                                                      delay := min 5000 (entry m.val).delay, condition := k }))))))

/-- CABIN_DOOR_CONFIRM (R115), in every mode: the refusals; otherwise the cabin's door state is LOCKED, the confirmation is recorded with its
attendant and time and counted, a CABIN_DOOR_UNLOCKED condition of the cabin is gone, and the order is answered OK, in a state in which
nothing waits. No other record changes. -/
def Obligations.CabinDoorConfirmLocksTheCabin : Prop :=
  ∀ (i : SlotNo) (s : State), OrderNext i 0x36 s →
    (isCabin (param i s 0) = false → After (.cabinDoorConfirm i) s (Refuses i .refusedRange 1 s)) ∧
    (isCabin (param i s 0) = true → param16 i s 1 = 0 → After (.cabinDoorConfirm i) s (Refuses i .refusedRange 2 s)) ∧
    (isCabin (param i s 0) = true → param16 i s 1 ≠ 0 →
      (inQueue s.part (param i s 0) = false → After (.cabinDoorConfirm i) s (Refuses i .refusedState 1 s)) ∧
      (∀ e ∈ entryOfCabin s.part (param i s 0),
        (e.segment ≠ 4 → After (.cabinDoorConfirm i) s (Refuses i .refusedState 2 s)) ∧
        (e.segment = 4 → NothingWaits s.part → After (.cabinDoorConfirm i) s (fun t =>
          Answers i .ok 0 s t ∧ OtherCabinsKept (param i s 0) s t ∧
          cabin t.part (param i s 0) = { cabin s.part (param i s 0) with door := .locked } ∧
          Frame [.window, .cabins, .launch, .doors, .sequencer, .sup] s t ∧
          t.part.sequencer.lastConfirmation =
            some { cabin := param i s 0, attendant := param16 i s 1, time := s.part.clock.now } ∧
          t.part.sequencer.confirmations = count16 s.part.sequencer.confirmations ∧
          param i s 0 ∉ t.part.sequencer.unlocked ∧
          (param i s 0 ∈ s.part.sequencer.unlocked → ¬ ConditionPresent .cabinDoorUnlocked (param i s 0) t.part.sup)))))

/-- STATION_PREPARE (R118): taken in OFF, where the first condition that does not hold refuses it with its number: 1 a cause listed or held
unlisted, 2 the line not UP, 3 SUMMIT_READY not standing, 4 the speed INVALID, 5 the converter not healthy; otherwise the mode is READY and
the answer OK with detail 1. STATION_START (R119): taken in READY, with conditions 2 to 5; otherwise the mode is STARTING, the start-up
timer ends after 10 s, C is composed, and the answer is OK with detail 2. The ceiling (R132): every step keeps C the least of the active
profile's Vmax and the profile speeds of the caps in the cap cause set in STARTING and RUN, and 0 in every other mode. -/
def Obligations.StationPrepareAndStart : Prop :=
  (∀ (s t : State), CeilingStands s.part.sup → step s = .next t → CeilingStands t.part.sup) ∧
  (∀ (i : SlotNo) (s : State),
    let failing := fun n : Nat =>
      (n = 1 ∧ (s.part.sup.causes ≠ [] ∨ ∃ c ∈ s.part.sup.present, c.listed = false)) ∨ (n = 2 ∧ s.part.line.state ≠ .up) ∨
        (n = 3 ∧ ¬ (s.part.line.state = .up ∧ s.part.line.accepted.getLsbD 0 = true)) ∨ (n = 4 ∧ s.part.rope.view.invalid = true) ∨
        (n = 5 ∧ ¬ (s.part.sensors.everGood = true ∧ s.part.sensors.failRun ≠ 3))
    (OrderNext i 0x40 s →
      (s.part.sup.mode ≠ .off → After (.stationPrepare i) s (Refuses i .refusedState 0 s)) ∧
      (s.part.sup.mode = .off →
        (∀ n ∈ [1, 2, 3, 4, 5], failing n → (∀ m ∈ [1, 2, 3, 4, 5], m < n → ¬ failing m) →
          After (.stationPrepare i) s (Refuses i .refusedState n s)) ∧
        ((∀ n ∈ [1, 2, 3, 4, 5], ¬ failing n) → After (.stationPrepare i) s (fun t =>
          Answers i .ok 1 s t ∧ WindowFrame i s t ∧ t.part.window.attention.getLsbD 1 = true ∧ t.part.sup.mode = .ready ∧
          t.part.sup.causes = [] ∧ t.part.sup.ceiling = 0 ∧ Frame [.window, .rope, .launch, .doors, .sup] s t)))) ∧
    (OrderNext i 0x41 s →
      (s.part.sup.mode ≠ .ready → After (.stationStart i) s (Refuses i .refusedState 0 s)) ∧
      (s.part.sup.mode = .ready →
        (∀ n ∈ [2, 3, 4, 5], failing n → (∀ m ∈ [2, 3, 4, 5], m < n → ¬ failing m) →
          After (.stationStart i) s (Refuses i .refusedState n s)) ∧
        ((∀ n ∈ [2, 3, 4, 5], ¬ failing n) → After (.stationStart i) s (fun t =>
          Answers i .ok 2 s t ∧ WindowFrame i s t ∧ t.part.window.attention.getLsbD 1 = true ∧ t.part.sup.mode = .starting ∧
          t.part.sup.startTimer = some (s.part.clock.now + ms 10000) ∧ CeilingStands t.part.sup ∧
          t.part.sup.causes = s.part.sup.causes ∧ t.part.sup.caps = s.part.sup.caps ∧
          Frame [.window, .rope, .launch, .doors, .sup] s t)))))

/-- STATION_STOP (R120, R122, R124): in STARTING and RUN it enters no cause, C is 0, and the mode is STOPPING_SERVICE with SVC_STOP asserted, or,
where standstill stands declared, READY or STOPPED in the same event, the detail being 4 there too (log entry 70); in a stopping mode nothing
changes; elsewhere it is refused. STATION_OFF (R120): in READY and STOPPED the mode is OFF with the list kept; in OFF nothing changes; elsewhere
it is refused. STATION_FAST_STOP (R129, R124), in every mode: HOST_FAST_STOP is entered, FAST_STOP is asserted, C is 0 where the station ran, and
the answer is OK with the mode after it: STOPPING_FAST from a running or stopping mode, or STOPPED where standstill stands declared as the
station leaves a running mode (R122), STOPPED from READY and STOPPED, OFF from OFF. -/
def Obligations.StationStopOffAndFastStop : Prop :=
  (∀ (i : SlotNo) (s : State),
     (OrderNext i 0x42 s →
       (s.part.sup.mode = .starting ∨ s.part.sup.mode = .run → After (.stationStop i) s (fun t =>
         Answers i .ok 4 s t ∧ WindowFrame i s t ∧ t.part.sup.causes = s.part.sup.causes ∧ t.part.sup.present = s.part.sup.present ∧
         t.part.sup.ceiling = 0 ∧ t.part.rope.stopEntry = some s.part.clock.now ∧ t.part.launch.state ≠ .requested ∧
         t.part.sup.pendingSwitch = (if s.part.sup.mode = .run then none else s.part.sup.pendingSwitch) ∧
         Frame [.window, .rope, .launch, .doors, .sup] s t ∧
         (s.part.rope.standstill = false → t.part.sup.mode = .stoppingService ∧ t.part.sup.svcStop = true) ∧
         (s.part.rope.standstill = true →
           t.part.sup.mode = (if causesStand s.part.sup then .stopped else .ready) ∧ t.part.sup.svcStop = false))) ∧
       (s.part.sup.mode = .stoppingService ∨ s.part.sup.mode = .stoppingFast →
         After (.stationStop i) s (Refuses i .ok s.part.sup.mode.code s)) ∧
       (s.part.sup.mode ∈ [.off, .ready, .stopped] → After (.stationStop i) s (Refuses i .refusedState 0 s))) ∧
     (OrderNext i 0x44 s →
       (s.part.sup.mode = .ready ∨ s.part.sup.mode = .stopped → After (.stationOff i) s (fun t =>
         Answers i .ok 0 s t ∧ WindowFrame i s t ∧ t.part.sup.mode = .off ∧ t.part.sup.causes = s.part.sup.causes ∧
         t.part.sup.present = s.part.sup.present ∧ t.part.window.attention.getLsbD 1 = true ∧
         Frame [.window, .rope, .launch, .doors, .sup] s t)) ∧
       (s.part.sup.mode = .off → After (.stationOff i) s (Refuses i .ok 0 s)) ∧
       (s.part.sup.mode ∈ [.starting, .run, .stoppingService, .stoppingFast] →
         After (.stationOff i) s (Refuses i .refusedState 0 s)))) ∧
  (∀ (i : SlotNo) (s : State), OrderNext i 0x43 s →
     After (.stationFastStop i) s (fun t =>
       Answers i .ok t.part.sup.mode.code s t ∧ WindowFrame i s t ∧ t.part.window.attention.getLsbD 2 = true ∧
       t.part.sup.fastStop = true ∧ CauseEntered .hostFastStop 0 t.part.sup ∧ FastEntered t.part.sup ∧
       Frame [.window, .rope, .launch, .doors, .sup, .calls] s t ∧
       (s.part.sup.mode = .off → t.part.sup.mode = .off) ∧
       (s.part.sup.mode = .ready ∨ s.part.sup.mode = .stopped → t.part.sup.mode = .stopped) ∧
       (s.part.sup.mode.isStopping = true → t.part.sup.mode = .stoppingFast) ∧
       (s.part.sup.mode.isRunning = true → t.part.sup.ceiling = 0 ∧
         t.part.sup.mode = (if s.part.rope.standstill then .stopped else .stoppingFast))))

/-- CAUSE_ACKNOWLEDGE (R128), in every mode: the list is afterwards the entries that were PRESENT, in their order, and behind them the conditions
held unlisted, oldest first report first, while the list has room for 16, each as its first report gave it with repeat count 1; every entry
is PRESENT, the conditions for which there was no room stay unlisted, the answer's detail is the number of entries, the overflow record is
cleared where nothing is held unlisted, STOP_CAUSE is set, and the mode changes only from STOPPED with an empty list, to OFF. What becomes
of the note of a FAST cause where conditions stay unlisted is the model's choice (log entry 63). -/
def Obligations.CauseAcknowledgeKeepsThePresentCauses : Prop :=
  ∀ (i : SlotNo) (s : State), OrderNext i 0x45 s →
    let kept := s.part.sup.causes.filter (fun c => c.present)
    let unlisted := s.part.sup.present.filter (fun x => !x.listed)
    After (.causeAcknowledge i) s (fun t =>
      Answers i .ok t.part.sup.causes.length s t ∧ WindowFrame i s t ∧ t.part.window.attention.getLsbD 2 = true ∧
      t.part.sup.causes = kept ++ (unlisted.take (16 - kept.length)).map (fun x =>
        { kind := x.kind, source := x.source, category := x.category, firstTime := x.firstTime, repeats := 1, present := true }) ∧
      (∀ c ∈ t.part.sup.causes, c.present = true) ∧
      t.part.sup.present.filter (fun x => !x.listed) = unlisted.drop (16 - kept.length) ∧
      t.part.sup.present.map (fun x => { x with listed := true }) = s.part.sup.present.map (fun x => { x with listed := true }) ∧
      ((∀ x ∈ t.part.sup.present, x.listed = true) →
        t.part.sup.overflow = false ∧ t.part.sup.overflowCount = 0 ∧ t.part.sup.fastNote = false) ∧
      ((∃ x ∈ t.part.sup.present, x.listed = false) → t.part.sup.overflow = s.part.sup.overflow ∧
        t.part.sup.overflowCount = s.part.sup.overflowCount ∧
        t.part.sup.fastNote = (s.part.sup.fastNote && t.part.sup.present.any (fun x => !x.listed && x.category == .fast))) ∧
      t.part.sup.mode = (if s.part.sup.mode = .stopped ∧ t.part.sup.causes = [] then .off else s.part.sup.mode) ∧
      Frame [.window, .rope, .launch, .doors, .sup] s t)

/-- PROFILE_WRITE (R136): its refusals; otherwise the named profile is the 25 fields as clamped, the other profile and everything else stay, and
the answer tells how many were clamped. PROFILE_SWITCH (R137, R138): refused for another profile and BUSY in STARTING and the stopping
modes; in RUN the switch becomes pending, or a pending one is cancelled; in OFF, READY and STOPPED it takes effect at once and sets PROFILE. -/
def Obligations.ProfileWriteAndSwitch : Prop :=
  ∀ (i : SlotNo) (s : State),
    (OrderNext i 0x46 s →
      (1 < param i s 0 → After (.profileWrite i) s (Refuses i .refusedRange 0 s)) ∧
      (∀ n ∈ readProfileName (param i s 0),
        (s.part.sup.active = n → s.part.sup.mode ≠ .off → After (.profileWrite i) s (Refuses i .refusedState 1 s)) ∧
        (¬ (s.part.sup.active = n ∧ s.part.sup.mode ≠ .off) → s.part.sup.pendingSwitch = some n →
          After (.profileWrite i) s (Refuses i .refusedState 2 s)) ∧
        (¬ (s.part.sup.active = n ∧ s.part.sup.mode ≠ .off) → s.part.sup.pendingSwitch ≠ some n → After (.profileWrite i) s (fun t =>
          (let f := readProfile (slotOf s.part i) 1
           let clamped := ((profileNumbers f).zip (profileNumbers (clampProfile f))).countP (fun x => x.1 != x.2)
           AnswersOnly i (if clamped = 0 then .ok else .clamped) clamped 0 s t ∧ Frame [.window, .sup] s t ∧
           t.part.sup = (match n with
             | .a => { s.part.sup with profileA := clampProfile f }
             | .b => { s.part.sup with profileB := clampProfile f })))))) ∧
    (OrderNext i 0x47 s →
      (1 < param i s 0 → After (.profileSwitch i) s (Refuses i .refusedRange 0 s)) ∧
      (∀ n ∈ readProfileName (param i s 0),
        (s.part.sup.mode ∈ [.starting, .stoppingService, .stoppingFast] → After (.profileSwitch i) s (Refuses i .busy 0 s)) ∧
        (s.part.sup.mode = .run → s.part.sup.active ≠ n → After (.profileSwitch i) s (fun t =>
          AnswersOnly i .ok 1 0 s t ∧ Frame [.window, .sup] s t ∧ t.part.sup = { s.part.sup with pendingSwitch := some n })) ∧
        (s.part.sup.mode = .run → s.part.sup.active = n → After (.profileSwitch i) s (fun t =>
          AnswersOnly i .ok 0 0 s t ∧ Frame [.window, .sup] s t ∧ t.part.sup = { s.part.sup with pendingSwitch := none })) ∧
        (s.part.sup.mode ∈ [.off, .ready, .stopped] → s.part.sup.active = n →
          After (.profileSwitch i) s (Refuses i .ok 0 s)) ∧
        (s.part.sup.mode ∈ [.off, .ready, .stopped] → s.part.sup.active ≠ n → After (.profileSwitch i) s (fun t =>
          Answers i .ok 0 s t ∧ WindowFrame i s t ∧ t.part.window.attention.getLsbD 11 = true ∧ t.part.sup.active = n ∧
          t.part.sup.pendingSwitch = none ∧ t.part.sup.mode = s.part.sup.mode ∧ t.part.sup.profileA = s.part.sup.profileA ∧
          t.part.sup.profileB = s.part.sup.profileB ∧ Frame [.window, .rope, .launch, .doors, .sup] s t))))

/-- LINE_CONFIGURE (R158): the clamped fields are stored and the answer tells how many were clamped; auto-start turned off stops a backoff;
auto-start turned on in DOWN, with no probe under way, enters PROBING with a probe and its wake burst (R148). LINE_SET_INDICATIONS (R147): a
value above 15 is refused; otherwise the four general bits take it. -/
def Obligations.LineConfigureAndIndications : Prop :=
  ∀ (i : SlotNo) (s : State),
    (OrderNext i 0x50 s →
      let c := readLineConfig (slotOf s.part i)
      let enters := c.autoStart = true ∧ s.part.line.config.autoStart = false ∧ s.part.line.state = .down ∧ s.part.line.probe = none
      After (.lineConfigure i) s (fun t =>
        (let n := lineConfigClamped (slotOf s.part i)
         Answers i (if n = 0 then .ok else .clamped) n s t) ∧ WindowFrame i s t ∧ t.part.line.config = c ∧
        1 ≤ c.rateCeiling ∧ c.rateCeiling ≤ 3 ∧ 1 ≤ c.attempts ∧ c.attempts ≤ 8 ∧ 5 ≤ c.qualityThreshold ∧ c.qualityThreshold ≤ 250 ∧
        c.sleepSeconds ∈ [1, 2, 4, 8] ∧ c.glarePriority ≤ 7 ∧
        (¬ enters → Frame [.window, .line] s t ∧
          t.part.line = { s.part.line with config := c, backoff := if c.autoStart then s.part.line.backoff else none }) ∧
        (enters → Frame [.window, .line, .sup, .rope] s t ∧ t.part.line.state = .probing ∧ t.part.line.probeCount = 0 ∧
          t.part.line.probe = some { start := s.part.clock.now, forOrder := false } ∧
          t.part.line.sentBurst = List.replicate 16 0xAA ∧ t.part.line.backoff = none ∧
          t.part.window.attention.getLsbD 7 = true))) ∧
    (OrderNext i 0x54 s →
      (15 < param i s 0 → After (.lineSetIndications i) s (Refuses i .refusedRange 0 s)) ∧
      (param i s 0 ≤ 15 → After (.lineSetIndications i) s (fun t =>
        AnswersOnly i .ok 0 0 s t ∧ Frame [.window, .line] s t ∧
        t.part.line = { s.part.line with generalBits := BitVec.ofNat 4 (param i s 0) })))

/-- LINE_START (R159): a ceiling above 3 is refused, and a line order in flight answers it BUSY; otherwise the ceiling is configured (0 keeps
it), the diagnosis is NONE, and the order acts by the line state: a probe with its wake burst (R148) from DOWN, the probe count 0 in PROBING,
OK at once in UP at the ceiling, and training at the ceiling from TRAINING, DORMANT and UP at another rate, where every voice slot becomes
UNAVAILABLE and every transfer ends. That the refused, BUSY and OK answers keep the progress octets is the model's choice (log entry 78), as it
is that a probe which runs when training begins is dropped, its result and its count not written (log entry 82). -/
def Obligations.LineStartActsByTheLineState : Prop :=
  ∀ (i : SlotNo) (s : State), LongOrderNext i 0x51 s →
    let ceiling := if param i s 0 = 0 then s.part.line.config.rateCeiling else param i s 0
    (3 < param i s 0 → After (.lineStart i) s (Refuses i .refusedRange 0 s)) ∧
    (param i s 0 ≤ 3 → s.part.line.startOrder.isSome = true ∨ s.part.line.probeOrder.isSome = true →
      After (.lineStart i) s (Refuses i .busy 0 s)) ∧
    (param i s 0 ≤ 3 → s.part.line.startOrder = none → s.part.line.probeOrder = none →
      (s.part.line.state = .down → After (.lineStart i) s (fun t =>
        Holds i s t ∧ WindowFrame i s t ∧ Frame [.window, .line, .sup, .rope] s t ∧
        t.part.line.config = { s.part.line.config with rateCeiling := ceiling } ∧ t.part.line.state = .probing ∧
        t.part.line.probe = some { start := s.part.clock.now, forOrder := false } ∧ t.part.line.probeCount = 0 ∧
        t.part.line.sentBurst = List.replicate 16 0xAA ∧
        t.part.line.backoff = none ∧ t.part.line.diagnosis = .none ∧ t.part.line.startOrder = some i)) ∧
      (s.part.line.state = .probing → After (.lineStart i) s (fun t =>
        Holds i s t ∧ WindowFrame i s t ∧ Frame [.window, .line] s t ∧
        t.part.line = { s.part.line with
          config := { s.part.line.config with rateCeiling := ceiling }, diagnosis := .none, startOrder := some i, probeCount := 0 })) ∧
      (s.part.line.state = .up → s.part.line.rate = ceiling → After (.lineStart i) s (fun t =>
        Answers i .ok 0 s t ∧ WindowFrame i s t ∧ Frame [.window, .line] s t ∧
        t.part.line = { s.part.line with
          config := { s.part.line.config with rateCeiling := ceiling }, diagnosis := .none, startOrder := none })) ∧
      (s.part.line.state = .training ∨ s.part.line.state = .dormant ∨ (s.part.line.state = .up ∧ s.part.line.rate ≠ ceiling) →
        After (.lineStart i) s (fun t =>
          t.part.line.state = .training ∧ t.part.line.rate = ceiling ∧ t.part.line.config.rateCeiling = ceiling ∧
          t.part.line.attemptsUsed = 0 ∧ t.part.line.attemptPending = true ∧ t.part.line.diagnosis = .none ∧
          t.part.line.startOrder = some i ∧ t.part.line.sleepDue = none ∧ t.part.line.probe = none ∧
          t.part.line.lastProbe = s.part.line.lastProbe ∧ t.part.line.probesSent = s.part.line.probesSent ∧
          (s.part.line.state = .up → (∀ v : VoiceNo, (callSlot t.part v).state = .unavailable) ∧
            t.part.messages.transmitter = .idle ∧ t.part.messages.receiver = .idle ∧
            t.part.messages.notes = s.part.messages.notes ∧ t.part.messages.waiting = s.part.messages.waiting) ∧
          t.part.track = s.part.track ∧ t.part.sensors = s.part.sensors ∧ t.part.grip = s.part.grip ∧ t.part.clock = s.part.clock)))

/-- LINE_PROBE (R160): refused outside DOWN and DORMANT, BUSY where a line order is in flight; otherwise the order's probe begins with its wake
burst (R148), a backoff ends, and nothing else changes. LINE_DORMANT (R156): refused with the number of the first condition that does not hold;
in DORMANT it changes nothing; otherwise the line is DORMANT, frames, probes and backoff have stopped, the diagnosis is kept, and the first
sleep interval runs, within I/8 of I (R157). That the order's probe takes the place of a probe that runs, and that LINE is not set for its
diagnosis, is the model's reading (log entry 33); that a refused or BUSY LINE_PROBE keeps the progress octets is its choice (log entry 78), as
it is that a probe which LINE_DORMANT stops leaves no result and no count (log entry 82). -/
def Obligations.LineProbeAndDormant : Prop :=
  ∀ (i : SlotNo) (s : State),
    (LongOrderNext i 0x52 s →
      (s.part.line.state ∉ [.down, .dormant] → After (.lineProbe i) s (Refuses i .refusedState 0 s)) ∧
      (s.part.line.state ∈ [.down, .dormant] → s.part.line.startOrder.isSome = true ∨ s.part.line.probeOrder.isSome = true →
        After (.lineProbe i) s (Refuses i .busy 0 s)) ∧
      (s.part.line.state ∈ [.down, .dormant] → s.part.line.startOrder = none → s.part.line.probeOrder = none →
        After (.lineProbe i) s (fun t => Holds i s t ∧ WindowFrame i s t ∧ Frame [.window, .line] s t ∧
          t.part.line = { s.part.line with
            backoff := none, probeOrder := some i, probeStart := s.part.clock.now
            probe := some { start := s.part.clock.now, forOrder := true }, sentBurst := List.replicate 16 0xAA }))) ∧
    (OrderNext i 0x53 s →
      let failing := fun n : Nat =>
        (n = 1 ∧ s.part.sup.mode ≠ .off) ∨ (n = 2 ∧ ∃ v : VoiceNo, (callSlot s.part v).state ∉ [.idle, .unavailable]) ∨
          (n = 3 ∧ (s.part.messages.transmitter ≠ .idle ∨ s.part.messages.receiver ≠ .idle)) ∨
          (n = 4 ∧ s.part.line.startOrder ≠ none) ∨ (n = 5 ∧ s.part.line.probeOrder ≠ none)
      (∀ n ∈ [1, 2, 3, 4, 5], failing n → (∀ m ∈ [1, 2, 3, 4, 5], m < n → ¬ failing m) →
        After (.lineDormant i) s (Refuses i .refusedState n s)) ∧
      ((∀ n ∈ [1, 2, 3, 4, 5], ¬ failing n) →
        (s.part.line.state = .dormant → After (.lineDormant i) s (Refuses i .ok 0 s)) ∧
        (s.part.line.state ≠ .dormant → s.part.line.config.sleepSeconds ∈ [1, 2, 4, 8] →
          (∀ v : VoiceNo, (callSlot s.part v).order = none) → After (.lineDormant i) s (fun t =>
          Answers i .ok 0 s t ∧ t.part.line.state = .dormant ∧ t.part.line.rate = 0 ∧ t.part.line.notes = [] ∧
          t.part.line.probe = none ∧ t.part.line.backoff = none ∧ t.part.line.diagnosis = s.part.line.diagnosis ∧
          t.part.line.lastProbe = s.part.line.lastProbe ∧ t.part.line.probesSent = s.part.line.probesSent ∧
          t.part.window.attention.getLsbD 7 = true ∧ (∀ v : VoiceNo, s.part.line.state = .up → (callSlot t.part v).state = .unavailable) ∧
          (∃ d : Nat, t.part.line.sleepDue = some (s.part.clock.now + ms d) ∧
            7 * (1000 * s.part.line.config.sleepSeconds) ≤ 8 * d ∧ 8 * d ≤ 9 * (1000 * s.part.line.config.sleepSeconds)) ∧
          t.part.track = s.part.track ∧ t.part.sensors = s.part.sensors ∧ t.part.clock = s.part.clock))))

/-- MESSAGE_SEND (R167): the refusals for the length and the type; otherwise the message joins the tail of the message waiting list, in every
mode and line state, the order is held with progress 0, and nothing else changes. The length is read as two octets (log entry 15). That a
refused MESSAGE_SEND keeps the progress octets is the model's choice (log entry 78). -/
def Obligations.MessageSendJoinsTheList : Prop :=
  ∀ (i : SlotNo) (s : State), LongOrderNext i 0x60 s →
    (param16 i s 0 = 0 ∨ 64 < param16 i s 0 → After (.messageSend i) s (Refuses i .refusedRange 1 s)) ∧
    (1 ≤ param16 i s 0 → param16 i s 0 ≤ 64 → (param i s 2 = 0 ∨ 127 < param i s 2) →
      After (.messageSend i) s (Refuses i .refusedRange 2 s)) ∧
    (1 ≤ param16 i s 0 → param16 i s 0 ≤ 64 → 1 ≤ param i s 2 → param i s 2 ≤ 127 → After (.messageSend i) s (fun t =>
      Holds i s t ∧ (slotOf t.part i).progress = 0 ∧ WindowFrame i s t ∧ t.part.window.attention = s.part.window.attention ∧
      Frame [.window, .messages] s t ∧
      (∃ w : WaitingMessage, w.slot = i ∧ w.octets.length = param16 i s 0 ∧
        (∀ j : Fin 64, j.val < param16 i s 0 → w.octets[j.val]? = some (BitVec.ofNat 8 (param i s (2 + j.val)))) ∧
        t.part.messages.waiting = s.part.messages.waiting ++ [w]) ∧
      t.part.messages = { s.part.messages with waiting := t.part.messages.waiting }))

/-- CALL_PLACE (R183, R177): refused for another slot, BUSY where the slot is not IDLE or a seize is not allowed; otherwise the slot is SEIZING
with originator ORDER, role CALLER, duration 0 and the no-answer timer, owned by the order, whose progress shows 2; CALL is set. CALL_CONFIGURE
(R185): the limit is clamped to 10 to 180 s. CALL_CLEAR (R184, R181): refused for another slot and for a slot with no call; a call in SEIZING,
RINGING_OUT, RINGING_IN or CONNECTED is cleared by the valley with reason ORDER_CLEAR: CLEARING with the guard timer of 2 s where the summit's
awaited bit stands, IDLE otherwise, and a CALL_PLACE that owned it is SUPERSEDED; in CLEARING it ends a clearing of the summit's and leaves one
of the valley's. The answer's detail is the state after it. The limit is read as two octets (log entry 15). That a refused or BUSY CALL_PLACE
keeps the progress octets is the model's choice (log entry 78). -/
def Obligations.CallOrders : Prop :=
  (∀ (i : SlotNo) (s : State),
     (LongOrderNext i 0x70 s →
       (1 < param i s 0 → After (.callPlace i) s (Refuses i .refusedRange 0 s)) ∧
       (∀ v ∈ readVoice (param i s 0),
         ((callSlot s.part v).state ≠ .idle ∨ (callSlot s.part v).freeRun ≠ 2 →
           After (.callPlace i) s (Refuses i .busy 0 s)) ∧
         ((callSlot s.part v).state = .idle → (callSlot s.part v).freeRun = 2 → After (.callPlace i) s (fun t =>
           Holds i s t ∧ (slotOf t.part i).progress = 2 ∧ WindowFrame i s t ∧
           t.part.window.attention = s.part.window.attention ||| 0x0400 ∧ Frame [.window, .calls] s t ∧
           (callSlot t.part v).state = .seizing ∧ (callSlot t.part v).originator = .order ∧ (callSlot t.part v).role = .caller ∧
           (callSlot t.part v).order = some i ∧ (callSlot t.part v).duration = 0 ∧ (callSlot t.part v).seizeAnswers = 0 ∧
           (callSlot t.part v).noAnswer = some (s.part.clock.now + ms (1000 * s.part.calls.limit)) ∧
           (callSlot t.part v).ownSeize = true ∧ (callSlot t.part v).hook = (callSlot s.part v).hook ∧
           (∀ u, u ≠ v → callSlot t.part u = callSlot s.part u) ∧ t.part.calls.limit = s.part.calls.limit)))) ∧
     (OrderNext i 0x72 s → After (.callConfigure i) s (fun t =>
       (let n := max 10 (min 180 (param16 i s 0))
        AnswersOnly i (if n = param16 i s 0 then .ok else .clamped) (if n = param16 i s 0 then 0 else 1) 0 s t ∧
        Frame [.window, .calls] s t ∧ t.part.calls = { s.part.calls with limit := n })))) ∧
  (∀ (i : SlotNo) (s : State), OrderNext i 0x71 s →
     (1 < param i s 0 → After (.callClear i) s (Refuses i .refusedRange 0 s)) ∧
     (∀ v ∈ readVoice (param i s 0),
       ((callSlot s.part v).state ∈ [.idle, .unavailable] → After (.callClear i) s (Refuses i .refusedState 0 s)) ∧
       ((callSlot s.part v).state ∈ [.seizing, .ringingOut, .ringingIn, .connected] → (callSlot s.part v).order ≠ some i →
         After (.callClear i) s (fun t =>
           Answers i .ok (callSlot t.part v).state.code s t ∧ Frame [.window, .calls] s t ∧
           (callSlot t.part v).reason = .orderClear ∧ (callSlot t.part v).ringer = false ∧ (callSlot t.part v).ringing = false ∧
           (callSlot t.part v).ownSeize = false ∧ (callSlot t.part v).ownAnswer = false ∧ (callSlot t.part v).noAnswer = none ∧
           (callSlot t.part v).order = none ∧
           (awaitedStands (callSlot s.part v) = true →
             (callSlot t.part v).state = .clearing ∧ (callSlot t.part v).guardEnds = some (s.part.clock.now + ms 2000)) ∧
           (awaitedStands (callSlot s.part v) = false → (callSlot t.part v).state = .idle ∧ (callSlot t.part v).guardEnds = none) ∧
           (∀ j, (callSlot s.part v).order = some j →
             (slotOf t.part j).state = .done ∧ (slotOf t.part j).result = asOctet Result.superseded.code) ∧
           (∀ u, u ≠ v → callSlot t.part u = callSlot s.part u))) ∧
       ((callSlot s.part v).state = .clearing → (callSlot s.part v).order = none → After (.callClear i) s (fun t =>
         Answers i .ok (if (callSlot s.part v).clearedBySummit then 1 else 6) s t ∧ Frame [.window, .calls] s t ∧
         ((callSlot s.part v).clearedBySummit = false → t.part.calls = s.part.calls) ∧
         ((callSlot s.part v).clearedBySummit = true → (callSlot t.part v).state = .idle ∧ (callSlot t.part v).guardEnds = none)))))

/-- ORDER_WITHDRAW (R192, R195): discarded in FREE, WITHDRAW and DONE; a POSTED order leaves the intake list and is answered WITHDRAWN; a held
LINE_PROBE goes on in WITHDRAW (R160); a MESSAGE_SEND still waiting leaves its list and is answered WITHDRAWN, the messages behind it in order,
and one in transfer is answered so with its transfer ABANDONING (R168); a CALL_PLACE that owns a call clears it with reason ORDER_CLEAR (R183);
a LINE_START in flight returns the line to DOWN with its diagnosis kept and the backoff of 5 s where auto-start is on (R159), a probe that runs
being dropped with no result and no count (log entry 82). That the transfer is abandoned from the next frame on is the reading of log entry 35;
that a withdrawn CALL_PLACE leaves its slot IDLE at once where the awaited bit is clear is that of log entry 76; and that a withdrawn POSTED
long-running order keeps its progress octets is the model's choice (log entry 78). The withdraw of a DOOR_MOVE that owns a channel (R91, R98,
R195): the order is answered WITHDRAWN and the channel, if it was in motion or waiting, stops with motor and LOCKREL off and settles by its
limits, HALTED where both are active (log entry 22); in LOCKING it stays, with no owner and no target; and at rest only the owner goes: in a
state in which no other channel and no action waits. -/
def Obligations.OrderWithdrawActsByTheSlot : Prop :=
  (∀ (i : SlotNo) (s : State), Ready s →
     ((slotOf s.part i).state ∈ [.free, .withdraw, .done] → exec (.orderWithdraw i) s = .next s) ∧
     ((slotOf s.part i).state = .posted → After (.orderWithdraw i) s (fun t =>
       slotOf t.part i = { slotOf s.part i with state := .done, result := asOctet Result.withdrawn.code, detail := 0 } ∧
       t.part.window.intake = s.part.window.intake.filter (fun j => j != i) ∧ WindowFrame i s t ∧
       t.part.window.attention = s.part.window.attention ||| 0x0001 ∧ Frame [.window] s t)) ∧
     ((slotOf s.part i).state = .taken → (slotOf s.part i).kind = 0x52 → After (.orderWithdraw i) s (fun t =>
       slotOf t.part i = { slotOf s.part i with state := .withdraw } ∧ WindowFrame i s t ∧ Frame [.window] s t)) ∧
     ((slotOf s.part i).state = .taken → (slotOf s.part i).kind = 0x60 → After (.orderWithdraw i) s (fun t =>
       slotOf t.part i = { slotOf s.part i with state := .done, result := asOctet Result.withdrawn.code, detail := 0 } ∧
       WindowFrame i s t ∧ Frame [.window, .messages] s t ∧
       (transferring i s.part.messages = false →
         t.part.messages = { s.part.messages with waiting := s.part.messages.waiting.filter (fun w => w.slot != i) }) ∧
       (transferring i s.part.messages = true → t.part.messages.transmitter = .abandoning ∧ t.part.messages.refusals = 0 ∧
         t.part.messages.waiting = s.part.messages.waiting ∧ t.part.messages.notes = s.part.messages.notes))) ∧
     (∀ v : VoiceNo, (slotOf s.part i).state = .taken → (slotOf s.part i).kind = 0x70 → placedCall s.part i = some v →
       After (.orderWithdraw i) s (fun t =>
         (slotOf t.part i).state = .done ∧ (slotOf t.part i).result = asOctet Result.withdrawn.code ∧ Frame [.window, .calls] s t ∧
         (callSlot t.part v).reason = .orderClear ∧ (callSlot t.part v).ownSeize = false ∧ (callSlot t.part v).order = none ∧
         (callSlot t.part v).state = (if awaitedStands (callSlot s.part v) then .clearing else .idle))) ∧
     ((slotOf s.part i).state = .taken → (slotOf s.part i).kind = 0x51 → s.part.line.startOrder = some i →
       s.part.line.state = .probing ∨ s.part.line.state = .training →
       After (.orderWithdraw i) s (fun t =>
         (slotOf t.part i).state = .done ∧ (slotOf t.part i).result = asOctet Result.withdrawn.code ∧
         Frame [.window, .line, .sup, .rope] s t ∧ t.part.line.state = .down ∧ t.part.line.startOrder = none ∧ t.part.line.notes = [] ∧
         t.part.line.probe = none ∧ t.part.line.diagnosis = s.part.line.diagnosis ∧
         t.part.line.lastProbe = s.part.line.lastProbe ∧ t.part.line.probesSent = s.part.line.probesSent ∧
         t.part.line.backoff = (if s.part.line.config.autoStart then some (s.part.clock.now + ms 5000) else none)))) ∧
  (∀ (i : SlotNo) (s : State) (n : ChannelNo), Ready s → (∀ r ∈ s.part.doors.queue, r = .retainer ∨ r = .door n) →
     (∀ a ∈ s.part.sequencer.actions, a.dueWaiting = false) → (slotOf s.part i).state = .taken → (slotOf s.part i).kind = 0x31 →
     movedChannel s.part i = some n →
     After (.orderWithdraw i) s (fun t =>
       slotOf t.part i = { slotOf s.part i with state := .done, result := asOctet Result.withdrawn.code, detail := 0 } ∧
       WindowFrame i s t ∧ Frame [.window, .doors] s t ∧ (∀ m, m ≠ n → channel t.part m = channel s.part m) ∧
       ((channel s.part n).state = .locking → t.part.doors.queue = s.part.doors.queue ∧
         channel t.part n = { channel s.part n with owner := .none, target := none, waits := .none }) ∧
       ((channel s.part n).state.atRest = true → t.part.doors.queue = s.part.doors.queue ∧
         channel t.part n = { channel s.part n with owner := .none }) ∧
       ((channel s.part n).state.atRest = false → (channel s.part n).state ≠ .locking →
         channel t.part n = { channel s.part n with
           owner := .none, motor := none, lockRel := false, target := none, waits := .none
           state := if (channel s.part n).limA.high = true ∧ (channel s.part n).limB.high = false then .atA
             else if (channel s.part n).limB.high = true ∧ (channel s.part n).limA.high = false then .atB else .halted } ∧
         .door n ∉ t.part.doors.queue)))

/-- ORDER_SLOT_FREE (R192): a DONE slot becomes FREE with its other octets kept, any other is left. RECEIVE_SLOT_EMPTY (R171): a FULL receive
slot becomes EMPTY, any other is left. HOST_WRITE (R188, R190 to R193): in a FREE slot the kind octet, the tag, the result and detail, the
progress and the parameters take the octets that the byte enables select, and POSTED written to its state octet posts it at the tail of the
intake list; in a slot that is not FREE all these are discarded, WITHDRAW to a POSTED or TAKEN slot is ORDER_WITHDRAW, FREE to a DONE slot is
ORDER_SLOT_FREE, and any other value is discarded. EMPTY to a receive slot's state octet is RECEIVE_SLOT_EMPTY, and every other write to the
receive slots is discarded. A write to the low octet of PART_CONTROL sets ATTN_ENABLE to its bit 1 and, where bit 0 is 1, starts a software
reset after it; a write to ATTENTION clears the bits written as 1, and one to ATTENTION_MASK takes the octets selected. A write to the header,
the views, PART_ID and the unassigned offsets is discarded. That an emptied receive slot keeps its octets, and that the upper octet of a write
is taken before the lower, are the model's readings (log entries 36 and 39); that ATTN_ENABLE is set first and the software reset starts after
it is its choice (log entry 38). -/
def Obligations.SlotsAndHostWrites : Prop :=
  (∀ (s : State), Ready s →
     (∀ i : SlotNo,
       ((slotOf s.part i).state ≠ .done → exec (.orderSlotFree i) s = .next s) ∧
       ((slotOf s.part i).state = .done → After (.orderSlotFree i) s (fun t =>
         slotOf t.part i = { slotOf s.part i with state := .free } ∧ WindowFrame i s t ∧
         t.part.window.intake = s.part.window.intake ∧ t.part.window.attention = s.part.window.attention ∧
         (doneMap t.part.window).getLsbD i.val = false ∧ Frame [.window] s t))) ∧
     (∀ r : Fin 4,
       ((s.part.messages.slots.get r).state ≠ .full → exec (.receiveSlotEmpty r) s = .next s) ∧
       ((s.part.messages.slots.get r).state = .full → After (.receiveSlotEmpty r) s (fun t =>
         t.part.messages.slots.get r = { s.part.messages.slots.get r with state := .empty } ∧
         (∀ q, q ≠ r → t.part.messages.slots.get q = s.part.messages.slots.get q) ∧
         t.part.messages.receiver = s.part.messages.receiver ∧ Frame [.messages] s t)))) ∧
  (∀ (data : Half) (lo hi : Bool) (s : State), Ready s →
     (∀ i : SlotNo, (slotOf s.part i).state = .free →
       After (.hostWrite (BitVec.ofNat 13 (32 + 64 * i.val)) data lo hi) s (fun t =>
         slotOf t.part i = { slotOf s.part i with
           state := if lo = true ∧ data.extractLsb' 0 8 = 1 then .posted else .free
           kind := if hi then data.extractLsb' 8 8 else (slotOf s.part i).kind } ∧
         t.part.window.intake = s.part.window.intake ++ (if lo = true ∧ data.extractLsb' 0 8 = 1 then [i] else []) ∧ WindowFrame i s t ∧
         t.part.window.attention = s.part.window.attention ∧ Frame [.window] s t)) ∧
     (∀ i : SlotNo, (slotOf s.part i).state ≠ .free →
       let written := exec (.hostWrite (BitVec.ofNat 13 (32 + 64 * i.val)) data lo hi) s
       (lo = true → data.extractLsb' 0 8 = 3 → (slotOf s.part i).state ∈ [.posted, .taken] → written = exec (.orderWithdraw i) s) ∧
       (lo = true → data.extractLsb' 0 8 = 0 → (slotOf s.part i).state = .done → written = exec (.orderSlotFree i) s) ∧
       (lo = false ∨ (¬ (data.extractLsb' 0 8 = 3 ∧ (slotOf s.part i).state ∈ [.posted, .taken]) ∧
         ¬ (data.extractLsb' 0 8 = 0 ∧ (slotOf s.part i).state = .done)) → written = .next s)) ∧
     (∀ (i : SlotNo) (j : Fin 3), After (.hostWrite (BitVec.ofNat 13 (33 + 64 * i.val + j.val)) data lo hi) s (fun t =>
       let old := slotOf s.part i
       let new := slotOf t.part i
       Frame [.window] s t ∧ WindowFrame i s t ∧ t.part.window.intake = s.part.window.intake ∧
       t.part.window.attention = s.part.window.attention ∧ (old.state ≠ .free → t = s) ∧
       (old.state = .free →
         (j = 0 → new = { old with tag := selected lo hi data old.tag }) ∧
         (j = 1 → new = { old with
           result := if lo then data.extractLsb' 0 8 else old.result, detail := if hi then data.extractLsb' 8 8 else old.detail }) ∧
         (j = 2 → new = { old with progress := selected lo hi data old.progress })))) ∧
     (∀ (i : SlotNo) (j : Fin 60), After (.hostWrite (BitVec.ofNat 13 (36 + 64 * i.val + j.val)) data lo hi) s (fun t =>
       Frame [.window] s t ∧ WindowFrame i s t ∧ t.part.window.intake = s.part.window.intake ∧
       ((slotOf s.part i).state ≠ .free → t = s) ∧
       ((slotOf s.part i).state = .free →
         slotOf t.part i = { slotOf s.part i with params := (slotOf t.part i).params } ∧
         octet (slotOf t.part i) (2 * j.val) = (if lo then (data.extractLsb' 0 8).toNat else octet (slotOf s.part i) (2 * j.val)) ∧
         octet (slotOf t.part i) (2 * j.val + 1) =
           (if hi then (data.extractLsb' 8 8).toNat else octet (slotOf s.part i) (2 * j.val + 1)) ∧
         (∀ k : Fin 120, k.val / 2 ≠ j.val → octet (slotOf t.part i) k.val = octet (slotOf s.part i) k.val)))) ∧
     (∀ r : Fin 4,
       let written := exec (.hostWrite (BitVec.ofNat 13 (0xF80 + 36 * r.val)) data lo hi) s
       (lo = true → data.extractLsb' 0 8 = 0 → written = exec (.receiveSlotEmpty r) s) ∧
       (lo = false ∨ data.extractLsb' 0 8 ≠ 0 → written = .next s)) ∧
     (let written := exec (.hostWrite 0x1FF9 data lo hi) s
      (lo = false → written = .next s) ∧
      (lo = true → data.getLsbD 0 = false → written = exec (.attnEnable (data.getLsbD 1)) s) ∧
      (lo = true → data.getLsbD 0 = true →
        ∃ u, exec (.attnEnable (data.getLsbD 1)) s = .next u ∧ written = exec .softReset u)) ∧
     exec (.hostWrite 0x1FFA data lo hi) s = exec (.attentionClear (selected lo hi data 0)) s ∧
     (lo = true ∨ hi = true →
       exec (.hostWrite 0x1FFB data lo hi) s = exec (.attentionMask (selected lo hi data s.part.window.attentionMask)) s) ∧
     (lo = false → hi = false → exec (.hostWrite 0x1FFB data lo hi) s = .next s) ∧
     (∀ a : BitVec 13, a.toNat < 32 ∨ (0x820 ≤ a.toNat ∧ a.toNat < 0xF80) ∨
         (0xF80 ≤ a.toNat ∧ a.toNat < 0x1010 ∧ (a.toNat - 0xF80) % 36 ≠ 0) ∨ (0x1010 ≤ a.toNat ∧ a.toNat < 0x1FF9) ∨ 0x1FFC ≤ a.toNat →
       exec (.hostWrite a data lo hi) s = .next s))

/-- ATTENTION_CLEAR clears each bit written as 1 and leaves each bit written as 0; ATTENTION_MASK takes the thirteen bits written; ATTN_ENABLE
takes the value written; after each of them ATTN is driven exactly while the enable is 1 and a bit stands in both registers (R190, R191). -/
def Obligations.AttentionRegistersAndTheAttnOutput : Prop :=
  ∀ (bits : Half) (on : Bool) (s : State), Ready s →
    After (.attentionClear bits) s (fun t =>
      t.part.window = { s.part.window with attention := s.part.window.attention &&& ~~~bits, attn := t.part.window.attn } ∧
      t.part.window.attn = (t.part.window.attnEnable && (t.part.window.attention &&& t.part.window.attentionMask) != 0) ∧
      Frame [.window] s t) ∧
    After (.attentionMask bits) s (fun t =>
      t.part.window = { s.part.window with attentionMask := bits &&& 0x1FFF, attn := t.part.window.attn } ∧
      t.part.window.attn = (t.part.window.attnEnable && (t.part.window.attention &&& t.part.window.attentionMask) != 0) ∧
      Frame [.window] s t) ∧
    After (.attnEnable on) s (fun t =>
      t.part.window = { s.part.window with attnEnable := on, attn := t.part.window.attn } ∧
      t.part.window.attn = (t.part.window.attnEnable && (t.part.window.attention &&& t.part.window.attentionMask) != 0) ∧
      Frame [.window] s t)

/-- The half-word read latch (R189): a read of the low half of an aligned 32-bit field returns its value and holds the high half as it stands;
the next read of the held address returns the held value and empties the latch; a read of any other half-word returns its value and leaves
the latch; and no read changes anything else. What the window holds (R188, R190, R191, R194, section 11.6), a half-word at a time: the header
with mode, profile, line state, rate, diagnosis, stop outputs, Time Base, software resets, caps, DONE map, C, V and the long-running orders
held; every order slot; every cabin record; octet by octet, every other view of section 11.6: the station queue, the roster, the door channels, the door
program, the sensors, the rope, the stop causes, the two profiles, the line, the calls, the receive slots, the grip test, the launch, the start
arbiter and the pending actions; PART_ID 0x0A01, PART_CONTROL, ATTENTION and ATTENTION_MASK; and 0 at every unassigned offset. The model's choices
in the views are the owning order slot where there is none (log entry 79), an input that has no value yet (log entry 86) and the two octets of the
decel step (log entry 87). -/
def Obligations.LatchedReadsReturnOneMoment : Prop :=
  (∀ (a : BitVec 13) (s : State), s.before = none →
    (isLongField (2 * a.toNat) = true → (∀ l ∈ s.part.window.latch, l.addr ≠ a) → After (.latchedLowRead a) s (fun t =>
      t.busData = windowHalf false s.part a ∧
      t = { s with busData := t.busData, part := { s.part with window := { s.part.window with
        latch := some { addr := a + 1, value := windowHalf false s.part (a + 1) } } } })) ∧
    (isLongField (2 * a.toNat) = false → (∀ l ∈ s.part.window.latch, l.addr ≠ a) → After (.latchedLowRead a) s (fun t =>
      t = { s with busData := windowHalf false s.part a })) ∧
    (∀ l ∈ s.part.window.latch, l.addr = a → After (.latchedHighRead a) s (fun t =>
      t = { s with busData := l.value, part := { s.part with window := { s.part.window with latch := none } } }))) ∧
  (∀ (p : Part) (resetting : Bool),
    let half := fun n : Nat => windowHalf resetting p (BitVec.ofNat 13 n)
    (half 0 = 1 ∧
     half 1 = pair ([Mode.off, .ready, .starting, .run, .stoppingService, .stoppingFast, .stopped].idxOf p.sup.mode)
       ((if p.sup.active = .b then 1 else 0) + (if p.sup.pendingSwitch.isSome then 2 else 0)) ∧
     half 2 = pair ([LineState.down, .probing, .training, .up, .dormant].idxOf p.line.state) p.line.rate ∧
     half 3 = pair ([Diagnosis.none, .summitUnpowered, .lineOpen, .trainingFailed, .lost, .quality].idxOf p.line.diagnosis)
       ((if p.sup.svcStop then 1 else 0) + (if p.sup.fastStop then 2 else 0)) ∧
     half 5 ++ half 4 = p.clock.now ∧ half 6 = BitVec.ofNat 16 p.window.softResets ∧
     half 7 = pair ((if p.sup.caps.wind then 1 else 0) + (if p.sup.caps.hold then 2 else 0) + (if p.sup.caps.door then 4 else 0) +
       (if p.sup.caps.link then 8 else 0)) 0 ∧
     (∀ i : SlotNo, (half 9 ++ half 8).getLsbD i.val = decide ((slotOf p i).state = .done)) ∧
     half 10 = BitVec.ofNat 16 p.sup.ceiling ∧ half 11 = BitVec.ofInt 16 p.rope.view.v ∧
     (half 12).toNat = p.window.slots.toList.countP (fun x => decide
       (x.state ∈ [.taken, .withdraw] ∧ x.kind ∈ [0x31, 0x51, 0x52, 0x60, 0x70])) ∧
     (∀ j : Fin 19, half (13 + j.val) = 0)) ∧
    (∀ i : SlotNo,
     half (32 + 64 * i.val) = (slotOf p i).kind ++
       asOctet ([SlotState.free, .posted, .taken, .withdraw, .done].idxOf (slotOf p i).state) ∧
     half (33 + 64 * i.val) = (slotOf p i).tag ∧ half (34 + 64 * i.val) = (slotOf p i).detail ++ (slotOf p i).result ∧
     half (35 + 64 * i.val) = (slotOf p i).progress ∧
     ∀ j : Fin 60, half (36 + 64 * i.val + j.val) = pair (octet (slotOf p i) (2 * j.val)) (octet (slotOf p i) (2 * j.val + 1))) ∧
    (∀ k : Fin 128,
     let c := p.cabins.get k
     half (0x820 + 8 * k.val) = pair ((if c.registered then 1 else 0) + (if c.inService then 2 else 0))
       ([Place.unknown, .garaged, .inStation, .onLine].idxOf c.place) ∧
     half (0x821 + 8 * k.val) = pair ([CabinDoor.unknown, .opened, .closed, .locked, .notLocked, .obstructed].idxOf c.door)
       ([GripResult.none, .pass, .fail, .incomplete].idxOf c.grip) ∧
     half (0x822 + 8 * k.val) = BitVec.ofNat 16 c.gripMin ∧ half (0x823 + 8 * k.val) = BitVec.ofNat 16 c.gripMax ∧
     half (0x824 + 8 * k.val) = pair ([SummitMark.none, .passed, .missed].idxOf c.mark)
       ([LaunchNote.notQueued, .queued, .sent, .dropped].idxOf c.note) ∧
     half (0x825 + 8 * k.val) = 0 ∧ half (0x827 + 8 * k.val) ++ half (0x826 + 8 * k.val) = c.lastRelease) ∧
    ViewsShown (octetShown resetting p) p ∧
    half 0x1FF8 = 0x0A01 ∧ half 0x1FF9 = pair ((if resetting then 1 else 0) + (if p.window.attnEnable then 2 else 0)) 0 ∧
    half 0x1FFA = p.window.attention ∧ half 0x1FFB = p.window.attentionMask ∧
    (∀ a : BitVec 13, (0xD44 ≤ a.toNat ∧ a.toNat < 0xD80) ∨ (0xF04 ≤ a.toNat ∧ a.toNat < 0xF08) ∨
        (0xF70 ≤ a.toNat ∧ a.toNat < 0xF80) ∨ (0x1140 ≤ a.toNat ∧ a.toNat < 0x1FF8) ∨ 0x1FFC ≤ a.toNat →
      windowHalf resetting p a = 0))

/-- MILLISECOND_COUNT (R199): the count rises by one, from 4,294,967,295 to 0, and nothing else changes but the model's notes of which ticks of
the new count have been taken (log entry 5). SECOND_TICK (R8): at a whole second the seconds since launch of every roster entry rise by one,
stopping at 65535, and no cabin or mark changes. CALL_DURATION_SECOND (R179): the duration of a CONNECTED call rises by one at each whole
second after its entry, stopping at 65535. -/
def Obligations.CountsOfTime : Prop :=
  (∀ s : State, Ready s → After .millisecondCount s (fun t =>
     t.part.clock.now = s.part.clock.now + 1 ∧ t.part.clock = { now := t.part.clock.now } ∧ Frame [.clock] s t)) ∧
  (∀ s : State, Ready s →
     (s.part.clock.now.toNat % 1000 = 0 → s.part.clock.now ≠ 0 → s.part.clock.secondTaken = false → After .secondTick s (fun t =>
       Frame [.clock, .track] s t ∧ t.part.clock = { s.part.clock with secondTaken := true } ∧
       t.part.track = { s.part.track with
         roster := s.part.track.roster.map (fun e => { e with seconds := if e.seconds < 65535 then e.seconds + 1 else e.seconds }) })) ∧
     (∀ v : VoiceNo, (callSlot s.part v).state = .connected → reached s.part.clock.now (callSlot s.part v).nextSecond = true →
       After (.callDurationSecond v) s (fun t =>
         Frame [.calls] s t ∧ (∀ u, u ≠ v → callSlot t.part u = callSlot s.part u) ∧
         callSlot t.part v = { callSlot s.part v with
           duration := if (callSlot s.part v).duration < 65535 then (callSlot s.part v).duration + 1 else (callSlot s.part v).duration
           nextSecond := (callSlot s.part v).nextSecond + 1000 })))

/-- SAMPLE_TICK (R1, R25, R35, R44, R46, R50, R64, R133, R175): at a tick not yet taken, the seven detectors, LOCKSENSE, the eight switches and
RETCLOSED are debounced; a detector whose debounced value goes from low to high keeps a passage at this time; the drive port sends the C
that stood with its sequence count, which rises modulo 4; the two hook inputs are debounced, and the first settled value of a hook is taken
as it is; the rope is as its computation of this sample leaves it, but for what an entry into a stopping mode notes: the launch gap is the
old one plus the source's increment, brought into 0 to 2,000,000,000 um, and the view is that of this time. The lists, the cabin records but
for their doors, the line, the messages and the grip test stay as they are. That the drive word goes out before
the rope is measured is the model's choice (log entry 64). The entry into RUN (R119): in STARTING, a sample that reports no cause and publishes a
valid speed of 50 mm/s or more moves the mode to RUN, with the start-up timer stopped, C composed for RUN and MODE set; one that publishes less, or
an INVALID speed, leaves the mode STARTING with its timer, no other sample moves the mode to RUN, and one that reports a cause leaves it neither
STARTING nor RUN (R121). In a sample that does both, the cause comes first (log entry 8). -/
def Obligations.SampleTickTakesTheInputs : Prop :=
  ∀ (x : SampleInputs) (s : State), Ready s → sampleDue s.part = true →
    After (.sampleTick x) s (fun t =>
      Frame [.window, .clock, .track, .cabins, .rope, .sensors, .launch, .doors, .sequencer, .sup, .calls] s t ∧ OnlyDoorsChange s t ∧
      t.part.clock = { s.part.clock with sampleTaken := true } ∧
      t.part.track = { s.part.track with detectors := t.part.track.detectors } ∧
      (∀ k : Fin 7,
        (t.part.track.detectors.get k).input = (s.part.track.detectors.get k).input.sample (x.detectors.getLsbD k.val) ∧
        (t.part.track.detectors.get k).passage =
          (if (s.part.track.detectors.get k).input.settled = some false ∧ (t.part.track.detectors.get k).input.settled = some true
           then some { time := s.part.clock.now, lockSensed := t.part.sensors.lockSense.high }
           else (s.part.track.detectors.get k).passage)) ∧
      t.part.sensors.lockSense = s.part.sensors.lockSense.sample x.lockSense ∧
      (∀ k : Fin 8, t.part.sensors.switches.get k =
        { s.part.sensors.switches.get k with input := (s.part.sensors.switches.get k).input.sample (x.switches.getLsbD k.val) }) ∧
      t.part.launch.retInput = s.part.launch.retInput.sample x.retClosed ∧
      t.part.sup.driveWord = some { ceiling := s.part.sup.ceiling, sequence := s.part.sup.driveSequence } ∧
      t.part.sup.driveSequence = (s.part.sup.driveSequence + 1) % 4 ∧
      t.part.rope.started = true ∧ t.part.rope.view.sampleTime = s.part.clock.now ∧
      ropeAfter x s.part = (ropeSample (activeProfile s.part.sup) s.part.sup.ceiling s.part.sup.mode s.part.clock.now x.enc1 x.enc2
        s.part.rope).rope ∧
      t.part.rope = { ropeAfter x s.part with ceff := t.part.rope.ceff, stopEntry := t.part.rope.stopEntry } ∧
      (∀ inc ∈ t.part.rope.window.head?,
        (t.part.rope.gapAcc : Int) = max 0 (min 2000000000 ((s.part.rope.gapAcc : Int) + inc.um))) ∧
      (∀ v : VoiceNo,
        (callSlot t.part v).hookInput = (callSlot s.part v).hookInput.sample (x.hooks.getLsbD v.val) ∧
        (callSlot t.part v).hook = (if (callSlot s.part v).hook = none then (callSlot t.part v).hookInput.settled
          else (callSlot s.part v).hook)) ∧
      (s.part.sup.mode = .starting → NothingWaits s.part → ¬ SampleReports x s.part →
        if (ropeAfter x s.part).view.invalid = false ∧ 50 ≤ (ropeAfter x s.part).view.v then
          t.part.sup.mode = .run ∧ t.part.sup.startTimer = none ∧ CeilingStands t.part.sup ∧ t.part.window.attention.getLsbD 1 = true
        else t.part.sup.mode = .starting ∧ t.part.sup.startTimer = s.part.sup.startTimer) ∧
      (t.part.sup.mode = .run → s.part.sup.mode = .run ∨
        (s.part.sup.mode = .starting ∧ t.part.rope.view.invalid = false ∧ 50 ≤ t.part.rope.view.v)) ∧
      (SampleReports x s.part → t.part.sup.mode.isRunning = false))

/-- The samples in which a run is reached, each the whole sample of that moment (R27, R30, R39, R41): an encoder that is FAULTED or that returns
to health, with the ENCODER_FAULT condition of the situation it leaves gone and that of the one it begins present; ROLLBACK at a run of 5 and
OVERSPEED at a run of 50, each entered as a cause with its condition present. Each is the whole of SAMPLE_TICK at that sample (log entry 7). ROPE_SLIP (R38), in every
SAMPLE_TICK: where the condition becomes present the cause is entered, FAST and with its condition present, STOP_CAUSE is set and the mode moves
by the table of R121; where it is gone the condition leaves the present table and a listed cause is GONE, with STOP_CAUSE set where it was PRESENT;
and while it stays present or stays gone nothing is reported and the listed cause stays as it is. -/
def Obligations.RopeRunsAreReported : Prop :=
  ∀ (x : SampleInputs) (s : State), Ready s →
    let situation := fun r : Rope => faultSituation r.e1.faulted r.e2.faulted
    let slip := fun c : Cause => c.names .ropeSlip 0
    (encoderFaults x s.part = true → After (.encoderFaulted x) s (fun t =>
      exec (.sampleTick x) s = .next t ∧ situation t.part.rope ≠ situation s.part.rope ∧
      t.part.rope.source = chooseSource t.part.rope.e1.faulted t.part.rope.e2.faulted ∧
      CauseEntered .encoderFault (situation t.part.rope) t.part.sup ∧
      ConditionPresent .encoderFault (situation t.part.rope) t.part.sup ∧
      (situation s.part.rope ≠ 0 → ¬ ConditionPresent .encoderFault (situation s.part.rope) t.part.sup))) ∧
    (encoderReturns x s.part = true → After (.encoderReturned x) s (fun t =>
      exec (.sampleTick x) s = .next t ∧ ¬ ConditionPresent .encoderFault (situation s.part.rope) t.part.sup ∧
      t.part.rope.source = chooseSource t.part.rope.e1.faulted t.part.rope.e2.faulted)) ∧
    (rollbackReached x s.part = true → After (.rollback x) s (fun t =>
      exec (.sampleTick x) s = .next t ∧ CauseEntered .rollback 0 t.part.sup ∧ ConditionPresent .rollback 0 t.part.sup ∧
      t.part.rope.view.v < 0 ∧ t.part.sup.mode.isRunning = false)) ∧
    (overspeedReached x s.part = true → After (.overspeed x) s (fun t =>
      exec (.sampleTick x) s = .next t ∧ CauseEntered .overspeed 0 t.part.sup ∧ ConditionPresent .overspeed 0 t.part.sup ∧
      0 < t.part.rope.view.v ∧ t.part.sup.mode.isRunning = false)) ∧
    (sampleDue s.part = true → After (.sampleTick x) s (fun t =>
      t.part.rope.slipPresent = (ropeAfter x s.part).slipPresent ∧
      (s.part.rope.slipPresent = false → t.part.rope.slipPresent = true →
        CauseEntered .ropeSlip 0 t.part.sup ∧ ConditionPresent .ropeSlip 0 t.part.sup ∧ FastEntered t.part.sup ∧
        t.part.window.attention.getLsbD 2 = true ∧ t.part.rope.view.slipMade = true ∧
        t.part.sup.mode = (match s.part.sup.mode with
          | .off => .off
          | .ready | .stopped => .stopped
          | .starting | .run | .stoppingService | .stoppingFast => .stoppingFast)) ∧
      (s.part.rope.slipPresent = true → t.part.rope.slipPresent = false →
        ¬ ConditionPresent .ropeSlip 0 t.part.sup ∧
        t.part.sup.causes.filter slip = (s.part.sup.causes.filter slip).map (fun c => { c with present := false }) ∧
        ((s.part.sup.causes.filter slip).any (fun c => c.present) = true → t.part.window.attention.getLsbD 2 = true)) ∧
      (s.part.rope.slipPresent = t.part.rope.slipPresent →
        t.part.sup.causes.filter slip = s.part.sup.causes.filter slip ∧
        (ConditionPresent .ropeSlip 0 t.part.sup ↔ ConditionPresent .ropeSlip 0 s.part.sup))))

/-- Standstill (R42, R43, R122): declared at the sample in which the run of samples below 20 mm/s reaches 100, or by time 30 s after the entry
into a stopping mode with the speed INVALID; in a stopping mode the stop then ends, in STOPPED where a cause stands and in READY otherwise.
START_FAILED (R119): 10 s after the entry into STARTING the cause is reported, SERVICE, and the mode is STOPPING_SERVICE (STOPPED where
standstill stands declared). LINK_GRACE_EXPIRY (R134): LINK_LOST is reported, SERVICE and present, and the station stops. STANDSTILL is the
whole of SAMPLE_TICK at that sample (log entry 7). -/
def Obligations.StandstillStartAndLinkTimers : Prop :=
  (∀ (x : SampleInputs) (s : State), Ready s →
     (standstillReached x s.part = true → After (.standstill x) s (fun t =>
       exec (.sampleTick x) s = .next t ∧ t.part.rope.standstill = true ∧ t.part.rope.view.standstill = true ∧
       (s.part.rope.standstill = false → t.part.sup.mode.isStopping = false))) ∧
     (s.part.rope.view.invalid = true → s.part.sup.mode.isStopping = true → s.part.rope.standstill = false →
       (∀ e ∈ s.part.rope.stopEntry, reached s.part.clock.now (e + ms 30000) = true) → s.part.rope.stopEntry ≠ none →
       After .standstillByTime s (fun t =>
         t.part.rope.standstill = true ∧ t.part.sup.mode = (if causesStand s.part.sup then .stopped else .ready) ∧
         t.part.sup.svcStop = false ∧ t.part.sup.causes = s.part.sup.causes ∧
         Frame [.window, .rope, .launch, .doors, .sup] s t))) ∧
  (∀ s : State, Ready s →
     (s.part.sup.mode = .starting → ended s.part.clock.now s.part.sup.startTimer = true → After .startFailed s (fun t =>
       CauseEntered .startFailed 0 t.part.sup ∧ t.part.sup.mode = (if s.part.rope.standstill then .stopped else .stoppingService) ∧
       t.part.sup.startTimer = none ∧ t.part.sup.ceiling = 0 ∧ t.part.rope.stopEntry = some s.part.clock.now ∧
       t.part.window.attention.getLsbD 2 = true ∧ Frame [.window, .rope, .launch, .doors, .sup] s t)) ∧
     (s.part.sup.mode.isRunning = true → ended s.part.clock.now s.part.sup.graceTimer = true → After .linkGraceExpiry s (fun t =>
       CauseEntered .linkLost 0 t.part.sup ∧ ConditionPresent .linkLost 0 t.part.sup ∧
       t.part.sup.mode = (if s.part.rope.standstill then .stopped else .stoppingService) ∧ t.part.sup.graceTimer = none ∧
       t.part.sup.ceiling = 0 ∧ Frame [.window, .rope, .launch, .doors, .sup] s t)))

/-- FRAME_TICK (R142, R144, R150, R162 to R165, R174): at a tick not yet taken, a line in UP or with a training attempt under way sends one
frame, noted for the judgement of its answer: its check is right, and it reads back as a frame of the kind of the state, of the present rate
and the next frame number, with the indication word as it stands and the configured glare priority; the frame number rises by one. A TRAINING
frame carries the attempt's pattern octets, inverted by the mask where its number is odd, no message and silence. A frame in UP carries the
configured pattern octets (log entry 71), the count of the quality window (log entry 72), the sixteen octets of the codec slot of a CONNECTED
call and silence for any other, and the message octet: an idle transmitter begins with the head of the note list, else of the message waiting
list, the octet on offer goes out again with its mark until it is judged, PAUSE sends one frame without an offer and then offers the next octet
or is IDLE, and ABANDONING offers octet 0 with mark ABANDON. In any other state no frame is sent, and the octets of the codec slots are kept
for the next one (log entry 42). The first tick after a reset sends a line with auto-start on into PROBING with a probe and its wake burst
(R148). An attempt begins with frame number 0 and the configured pattern octets and mask, and a rate above the ceiling is lowered to it with
attempts used 0. -/
def Obligations.FrameTickSendsAFrame : Prop :=
  ∀ (mic0 mic1 : List Byte) (s : State), Ready s → frameDue s.part = true →
    (s.part.line.autoStartDue = false → s.part.line.attemptPending = false →
      s.part.line.state = .up ∨ s.part.line.state = .training → 1 ≤ s.part.line.rate → s.part.line.rate ≤ 3 →
      s.part.line.config.glarePriority ≤ 7 →
      After (.frameTick mic0 mic1) s (fun t =>
        let f := readFrame s.part.line.rate t.part.line.sentFrame
        Frame [.clock, .line, .messages, .calls] s t ∧ t.part.clock = { s.part.clock with frameTaken := true } ∧
        t.part.line.frameNumber = s.part.line.frameNumber + 1 ∧ t.part.line.state = s.part.line.state ∧
        checkRight s.part.line.rate t.part.line.sentFrame = true ∧ t.part.line.sentFrame.take 4 = syncOctets ∧
        f.rate = s.part.line.rate ∧ f.number = s.part.line.frameNumber ∧ f.word = valleyWord s.part ∧
        f.priority.toNat = s.part.line.config.glarePriority ∧
        f.kind = (if s.part.line.state = .up then 2 else 1) ∧
        (s.part.line.state = .training → f.offer = false ∧ f.accept = false ∧ f.octet = 0 ∧ f.mark = 0 ∧ f.errored = 0 ∧
          (let mask := if s.part.line.frameNumber.getLsbD 0 then s.part.line.attemptMask else 0
           f.pattern1 = s.part.line.attemptPattern1 ^^^ mask ∧ f.pattern2 = s.part.line.attemptPattern2 ^^^ mask) ∧
          f.voice0 = (if 2 ≤ f.rate then List.replicate 16 0xD5 else []) ∧ f.voice1 = (if f.rate = 3 then List.replicate 16 0xD5 else []) ∧
          t.part.messages = { s.part.messages with acceptNext := false }) ∧
        (s.part.line.state = .up → f.accept = s.part.messages.acceptNext ∧ f.pattern1 = s.part.line.config.pattern1 ∧
          f.pattern2 = s.part.line.config.pattern2 ∧ f.errored = s.part.line.qualityWindow.countP (fun e => e) % 65536 ∧
          (mic0.length = 16 → f.voice0 = (if 2 ≤ f.rate then
            (if (callSlot s.part 0).state = .connected then mic0 else List.replicate 16 0xD5) else [])) ∧
          (mic1.length = 16 → f.voice1 = (if f.rate = 3 then
            (if (callSlot s.part 1).state = .connected then mic1 else List.replicate 16 0xD5) else [])) ∧
          (let m := s.part.messages
           let g := t.part.messages
           let offers := fun (o : Byte) (mark : Nat) => f.offer = true ∧ f.octet = o ∧ f.mark = mark
           let offersNothing := f.offer = false ∧ f.octet = 0 ∧ f.mark = 0
           (∀ k rest, m.transmitter = .idle → m.notes = k :: rest → offers 0x81 1 ∧ g.notes = rest ∧ g.waiting = m.waiting ∧
             g.refusals = 0 ∧ g.transmitter = .offering { source := .note k, octets := [0x81, asOctet k], accepted := 0 }) ∧
           (∀ w rest, m.transmitter = .idle → m.notes = [] → m.waiting = w :: rest →
             offers (w.octets.getD 0 0) (if w.octets.length = 1 then 2 else 1) ∧ g.notes = [] ∧ g.waiting = rest ∧ g.refusals = 0 ∧
             g.transmitter = .offering { source := .order w.slot, octets := w.octets, accepted := 0 }) ∧
           (m.transmitter = .idle → m.notes = [] → m.waiting = [] → offersNothing ∧ g = { m with acceptNext := false }) ∧
           (∀ tr, m.transmitter = .offering tr →
             offers (tr.octets.getD tr.accepted 0) (if tr.accepted + 1 = tr.octets.length then 2 else if tr.accepted = 0 then 1 else 0) ∧
             g = { m with acceptNext := false }) ∧
           (m.transmitter = .pause none → offersNothing ∧ g = { m with acceptNext := false, transmitter := .idle }) ∧
           (∀ tr, m.transmitter = .pause (some tr) → offersNothing ∧ g.transmitter = .offering tr ∧ g.refusals = 0 ∧
             g.notes = m.notes ∧ g.waiting = m.waiting) ∧
           (m.transmitter = .abandoning → offers 0 3 ∧ g = { m with acceptNext := false }) ∧
           g.acceptNext = false ∧ g.receiver = m.receiver ∧ g.slots = m.slots)) ∧
        (∃ n : FrameNote, t.part.line.notes = s.part.line.notes ++ [n] ∧ n.start = s.part.clock.now ∧ n.number = f.number ∧
          n.pattern1 = f.pattern1 ∧ n.pattern2 = f.pattern2 ∧ n.rate = f.rate))) ∧
    (s.part.line.autoStartDue = false → s.part.line.attemptPending = false → s.part.line.state ∈ [.down, .probing, .dormant] →
      After (.frameTick mic0 mic1) s (fun t =>
        Frame [.clock, .calls] s t ∧ t.part.clock = { s.part.clock with frameTaken := true } ∧
        (callSlot t.part 0).micOctets = mic0 ∧ (callSlot t.part 1).micOctets = mic1)) ∧
    (s.part.line.autoStartDue = true → s.part.line.config.autoStart = true → s.part.line.state = .down → s.part.line.probe = none →
      After (.frameTick mic0 mic1) s (fun t =>
        t.part.line.state = .probing ∧ t.part.line.probe = some { start := s.part.clock.now, forOrder := false } ∧
        t.part.line.sentBurst = List.replicate 16 0xAA ∧
        t.part.line.autoStartDue = false ∧ t.part.line.probeCount = 0 ∧ t.part.window.attention.getLsbD 7 = true)) ∧
    (s.part.line.autoStartDue = false → s.part.line.attemptPending = true → s.part.line.state = .training →
      s.part.line.rate ≤ s.part.line.config.rateCeiling → 1 ≤ s.part.line.rate → s.part.line.rate ≤ 3 →
      After (.frameTick mic0 mic1) s (fun t =>
        t.part.line.attemptPending = false ∧ t.part.line.attemptEnds = some (s.part.clock.now + ms 300) ∧
        t.part.line.frameNumber = 1 ∧ (readFrame s.part.line.rate t.part.line.sentFrame).number = 0 ∧
        (readFrame s.part.line.rate t.part.line.sentFrame).pattern1 = s.part.line.config.pattern1 ∧
        (readFrame s.part.line.rate t.part.line.sentFrame).pattern2 = s.part.line.config.pattern2 ∧
        t.part.line.attemptPattern1 = s.part.line.config.pattern1 ∧ t.part.line.attemptPattern2 = s.part.line.config.pattern2 ∧
        t.part.line.attemptMask = s.part.line.config.mask ∧ t.part.line.rate = s.part.line.rate ∧
        t.part.line.attemptsUsed = s.part.line.attemptsUsed)) ∧
    (s.part.line.autoStartDue = false → s.part.line.attemptPending = true → s.part.line.state = .training →
      s.part.line.config.rateCeiling < s.part.line.rate → 1 ≤ s.part.line.config.rateCeiling → s.part.line.config.rateCeiling ≤ 3 →
      After (.frameTick mic0 mic1) s (fun t =>
        let f := readFrame s.part.line.config.rateCeiling t.part.line.sentFrame
        t.part.line.state = .training ∧ t.part.line.rate = s.part.line.config.rateCeiling ∧ t.part.line.attemptsUsed = 0 ∧
        t.part.line.attemptPending = false ∧ t.part.line.attemptEnds = some (s.part.clock.now + ms 300) ∧ t.part.line.frameNumber = 1 ∧
        f.kind = 1 ∧ f.rate = s.part.line.config.rateCeiling ∧ f.number = 0 ∧ f.pattern1 = s.part.line.config.pattern1 ∧
        f.pattern2 = s.part.line.config.pattern2 ∧ t.part.window.attention.getLsbD 7 = true))

/-- The tag matcher (R10 to R13): a report is held with its time, replacing one held, and a D1 passage waits with its time; the held report is
discarded and the waiting passage decided when 200 ms have passed. The arrival decision (R14, R15), by each command that decides one: a report
for a waiting passage, a D1 passage for a held report, the expiry of a waiting passage as UNREADABLE, and a further D1 passage, which decides
the one that waits as UNREADABLE and then waits itself. With fewer than 15 entries a new entry of segment S1 and the passage time joins the
tail: with the number reported where it is in the roster, the head's for an unreadable report, 0 otherwise; that number leaves the roster and
is IN_STATION; an unreadable report that takes the head sets TRACK, and an arrival out of turn reports SEQUENCE_FAULT source 1. With 15 entries
none joins, the roster entry leaves all the same with place UNKNOWN, and TRACK_OVERFLOW is reported. The door program's entries for D1 make and
place their actions for the new entry (R104, R105, R109, R110), removals coming first (log entry 69), and an action that a full list drops
counting as no removal (log entry 23). -/
def Obligations.ArrivalsAndTheTagMatcher : Prop :=
  (∀ (rep : Option Nat) (s : State), Ready s →
     ((∀ d, s.part.track.matcher ≠ .passageWaiting d) → After (.tagReport rep) s (fun t =>
       Frame [.track] s t ∧ t.part.track = { s.part.track with
         matcher := .reportHeld (match rep with | none => none | some n => if 1 ≤ n ∧ n ≤ 128 then some n else none) s.part.clock.now })) ∧
     (∀ n ∈ passageAt 1 s.part, s.part.track.matcher = .empty → After .d1Passage s (fun t =>
       Frame [.track] s t ∧ t.part.track.matcher = .passageWaiting n.time ∧ passageAt 1 t.part = none ∧
       t.part.track.queue = s.part.track.queue ∧ t.part.track.roster = s.part.track.roster)) ∧
     (∀ held arrived, s.part.track.matcher = .reportHeld held arrived → reached s.part.clock.now (arrived + ms 200) = true →
       After .tagReportExpiry s (fun t => Frame [.track] s t ∧ t.part.track = { s.part.track with matcher := .empty }))) ∧
  (∀ (c : Instr) (rep : Option Nat) (passed : Time) (s : State), Ready s → Arrival c rep passed s →
     let who := match rep with
       | some n => if n ∈ rosterNumbers s.part then some n else none
       | none => (rosterNumbers s.part).head?
     (s.part.track.queue.length < 15 → After c s (fun t =>
       t.part.track.queue.map shownEntry = s.part.track.queue.map shownEntry ++ [(who.getD 0, 1, passed)] ∧
       rosterNumbers t.part = (match who with | none => rosterNumbers s.part | some n => (rosterNumbers s.part).filter (fun k => k != n)) ∧
       t.part.track.matcher = matcherAfter c s.part ∧ (c = .d1Passage → passageAt 1 t.part = none) ∧
       (∀ n ∈ who, isCabin n = true → (cabin t.part n).place = .inStation) ∧
       (∀ j : Fin 128, who ≠ some (j.val + 1) → (t.part.cabins.get j).place = (s.part.cabins.get j).place) ∧
       (rep = none → who ≠ none → t.part.window.attention.getLsbD 4 = true) ∧
       ((who = none ∨ (rep ≠ none ∧ (rosterNumbers s.part).head? ≠ who)) → CauseEntered .sequenceFault 1 t.part.sup ∧
         t.part.sup.mode.isRunning = false) ∧
       ActionsMade 1 (who.getD 0) s.part.track.nextSerial (some s.part.track.nextSerial) s t ∧
       t.part.line = s.part.line ∧ t.part.messages = s.part.messages ∧ t.part.sensors = s.part.sensors ∧ t.part.grip = s.part.grip ∧
       t.part.clock = s.part.clock)) ∧
     (15 ≤ s.part.track.queue.length → After c s (fun t =>
       t.part.track.queue = s.part.track.queue ∧ t.part.track.matcher = matcherAfter c s.part ∧
       rosterNumbers t.part = (match who with | none => rosterNumbers s.part | some n => (rosterNumbers s.part).filter (fun k => k != n)) ∧
       (∀ n ∈ who, isCabin n = true → (cabin t.part n).place = .unknown) ∧ t.part.track.trackOverflow = true ∧
       CauseEntered .trackOverflow 1 t.part.sup ∧ ConditionPresent .trackOverflow 1 t.part.sup ∧ t.part.sup.mode.isRunning = false ∧
       t.part.window.attention.getLsbD 4 = true)))

/-- STATION_PASSAGE at D2 to D6 (R3, R5, R6, R7): at D2 a waiting D1 passage is decided first (R13): it is UNREADABLE, so the roster's head, or
number 0, joins the queue's tail in S1, where fewer than 15 entries stand, and the D2 passage then moves the oldest entry of S1 of the queue so
made, or is a phantom; otherwise the oldest entry of the segment behind the detector with an entry time earlier than the passage moves into the
detector's segment with the passage time and keeps its place in the list; the HOLD cap follows the count in S4; at D5 the launch gap restarts
and at D6 the grip window opens for the cabin. The door program's entries for the detector make and place their actions, and the cabin's
actions beyond their reach segment are removed or late (R104, R105, R109, R110), removals coming first (log entry 69), and an action that a
full list drops counting as no removal (log entry 23). At D4 the lock check (R50, R112), where no door waits and no door action is due: the
LOCKSENSE value of the passage gives a cabin 1 to 128 door state LOCKED or NOT_LOCKED, NOT_LOCKED sets DOOR and reports CABIN_DOOR_UNLOCKED
with the cabin as source, present; an unidentified cabin's entry keeps the value, and no cause is reported. With no such entry the lists and
places stay and SEQUENCE_FAULT is reported with the detector as source. -/
def Obligations.StationPassageMovesTheEntry : Prop :=
  ∀ (k : Nat) (s : State), Ready s → 2 ≤ k → k ≤ 6 → (s.part.track.queue.map (fun e => e.serial)).Nodup →
    ∀ n ∈ passageAt k s.part,
    let unlockedCauses := fun u : State => u.part.sup.causes.filter (fun c => c.kind == .cabinDoorUnlocked)
    (∀ (before after : List QueueEntry) (e : QueueEntry), (k = 2 → ∀ d, s.part.track.matcher ≠ .passageWaiting d) →
      s.part.track.queue = before ++ e :: after → e.segment = k - 1 →
      earlier e.entered n.time = true → (∀ x ∈ before, ¬ (x.segment = k - 1 ∧ earlier x.entered n.time = true)) →
      After (.stationPassage k) s (fun t =>
        t.part.track.queue.map shownEntry =
          before.map shownEntry ++ (e.cabin, k, n.time) :: after.map shownEntry ∧
        t.part.track.roster = s.part.track.roster ∧ passageAt k t.part = none ∧
        (∀ j : Fin 128, (t.part.cabins.get j).place = (s.part.cabins.get j).place) ∧
        t.part.sup.caps.hold = decide (3 ≤ segmentCount t.part 4) ∧
        t.part.track.holdOverflow = decide (4 ≤ segmentCount t.part 4) ∧
        (k = 4 → 4 ≤ segmentCount t.part 4 → CauseEntered .holdOverflow 4 t.part.sup) ∧
        (k = 5 → t.part.rope.gapAcc = 0 ∧ t.part.launch.state = .idle ∧ t.part.launch.retain = (s.part.launch.retain &&
          decide (s.part.launch.state ≠ .releasing))) ∧
        (k = 5 → s.part.launch.state = .releasing → isCabin e.cabin = true → (cabin t.part e.cabin).lastRelease = n.time) ∧
        (k = 5 → s.part.launch.state ≠ .releasing → CauseEntered .sequenceFault 5 t.part.sup) ∧
        (k = 6 → ∃ w : GripWindow, t.part.grip.window = some w ∧ w.cabin = e.cabin ∧ w.opened = n.time ∧ w.samples = 0 ∧ w.codes = 0) ∧
        (k ≠ 6 → t.part.grip = s.part.grip) ∧ t.part.line = s.part.line ∧ t.part.messages = s.part.messages ∧
        t.part.clock = s.part.clock ∧ t.part.sensors = s.part.sensors ∧ ActionsMade k e.cabin e.serial (some e.serial) s t ∧
        (k = 4 → NoneDueAt 4 e.cabin e.serial (some e.serial) s.part →
          (isCabin e.cabin = true →
            (cabin t.part e.cabin).door = (if n.lockSensed then .locked else .notLocked) ∧
            t.part.track.queue.map (fun x => x.heldLock) = s.part.track.queue.map (fun x => x.heldLock) ∧
            (n.lockSensed = false → t.part.window.attention.getLsbD 5 = true ∧ CauseEntered .cabinDoorUnlocked e.cabin t.part.sup ∧
              ConditionPresent .cabinDoorUnlocked e.cabin t.part.sup ∧ t.part.sup.mode.isRunning = false) ∧
            (n.lockSensed = true → unlockedCauses t = unlockedCauses s)) ∧
          (isCabin e.cabin = false → unlockedCauses t = unlockedCauses s ∧ t.part.track.queue.map (fun x => x.heldLock) =
            before.map (fun x => x.heldLock) ++ some n.lockSensed :: after.map (fun x => x.heldLock))))) ∧
    (∀ d, k = 2 → s.part.track.matcher = .passageWaiting d → (∀ e ∈ s.part.track.queue, e.serial < s.part.track.nextSerial) →
      let room := s.part.track.queue.length < 15
      let head := (rosterNumbers s.part).head?
      let arrived := s.part.track.queue.map shownEntry ++ (if room then [(head.getD 0, 1, d)] else [])
      let moves := fun x : Nat × Nat × Time => x.2.1 = 1 ∧ earlier x.2.2 n.time = true
      After (.stationPassage k) s (fun t =>
        t.part.track.matcher = .empty ∧ passageAt k t.part = none ∧
        rosterNumbers t.part = (rosterNumbers s.part).filter (fun j => some j != head) ∧
        (∀ j ∈ head, isCabin j = true → (cabin t.part j).place = (if room then .inStation else .unknown)) ∧
        (∀ j : Fin 128, head ≠ some (j.val + 1) → (t.part.cabins.get j).place = (s.part.cabins.get j).place) ∧
        (head = none → room → CauseEntered .sequenceFault 1 t.part.sup) ∧
        (¬ room → CauseEntered .trackOverflow 1 t.part.sup ∧ t.part.track.trackOverflow = true) ∧
        (∀ (before after : List (Nat × Nat × Time)) (x : Nat × Nat × Time), arrived = before ++ x :: after → moves x →
          (∀ y ∈ before, ¬ moves y) → t.part.track.queue.map shownEntry = before ++ (x.1, 2, n.time) :: after) ∧
        ((∀ y ∈ arrived, ¬ moves y) → t.part.track.queue.map shownEntry = arrived ∧ CauseEntered .sequenceFault 2 t.part.sup ∧
          t.part.sup.mode.isRunning = false))) ∧
    ((k = 2 → ∀ d, s.part.track.matcher ≠ .passageWaiting d) →
      (∀ x ∈ s.part.track.queue, ¬ (x.segment = k - 1 ∧ earlier x.entered n.time = true)) → After (.stationPassage k) s (fun t =>
      t.part.track.queue = s.part.track.queue ∧ t.part.track.roster = s.part.track.roster ∧ passageAt k t.part = none ∧
      (∀ j : Fin 128, (t.part.cabins.get j).place = (s.part.cabins.get j).place) ∧
      CauseEntered .sequenceFault k t.part.sup ∧ t.part.sup.mode.isRunning = false ∧ t.part.window.attention.getLsbD 4 = true ∧
      (k = 5 → t.part.rope.gapAcc = 0) ∧ t.part.grip = s.part.grip ∧ t.part.messages = s.part.messages))

/-- EXIT_PASSAGE at D7 (R4, R5, R166): the oldest entry of S6 with an earlier entry time leaves the queue; a numbered cabin joins the roster's
tail with mark NONE and 0 seconds, is ON_LINE, and has a launch note queued, or dropped where 8 wait; number 0, and a phantom, report
SEQUENCE_FAULT source 7. The door program's entries for D7 make their actions, a cabin action being removed at once, and the cabin's pending
actions are removed and those in flight late (R104, R105, R109, R110), removals coming first (log entry 69), and an action that a full list
drops counting as no removal (log entry 23). -/
def Obligations.ExitPassageLaunchesTheCabin : Prop :=
  ∀ (s : State), Ready s → (s.part.track.queue.map (fun e => e.serial)).Nodup → ∀ n ∈ passageAt 7 s.part,
    (∀ (before after : List QueueEntry) (e : QueueEntry), s.part.track.queue = before ++ e :: after → e.segment = 6 →
      earlier e.entered n.time = true → (∀ x ∈ before, ¬ (x.segment = 6 ∧ earlier x.entered n.time = true)) →
      After .exitPassage s (fun t =>
        t.part.track.queue.map shownEntry = before.map shownEntry ++ after.map shownEntry ∧ passageAt 7 t.part = none ∧
        (isCabin e.cabin = true →
          t.part.track.roster = s.part.track.roster ++ [{ cabin := e.cabin, mark := .none, seconds := 0 }] ∧
          (cabin t.part e.cabin).place = .onLine ∧ (cabin t.part e.cabin).mark = .none ∧
          t.part.messages.notes = (let l := s.part.messages.notes.filter (fun j => j != e.cabin)
            if 8 ≤ l.length then l else l ++ [e.cabin]) ∧
          (cabin t.part e.cabin).note =
            (if 8 ≤ (s.part.messages.notes.filter (fun j => j != e.cabin)).length then .dropped else .queued)) ∧
        (isCabin e.cabin = false → t.part.track.roster = s.part.track.roster ∧ t.part.messages.notes = s.part.messages.notes ∧
          CauseEntered .sequenceFault 7 t.part.sup ∧ t.part.sup.mode.isRunning = false) ∧
        (∀ j : Fin 128, j.val + 1 ≠ e.cabin → (t.part.cabins.get j).place = (s.part.cabins.get j).place) ∧
        (∀ w ∈ s.part.grip.window, w.cabin = e.cabin → t.part.grip.window = none) ∧ ActionsMade 7 e.cabin e.serial none s t ∧
        t.part.line = s.part.line ∧ t.part.clock = s.part.clock ∧ t.part.sensors = s.part.sensors)) ∧
    ((∀ x ∈ s.part.track.queue, ¬ (x.segment = 6 ∧ earlier x.entered n.time = true)) → After .exitPassage s (fun t =>
      t.part.track.queue = s.part.track.queue ∧ t.part.track.roster = s.part.track.roster ∧ passageAt 7 t.part = none ∧
      CauseEntered .sequenceFault 7 t.part.sup ∧ t.part.sup.mode.isRunning = false ∧ t.part.grip = s.part.grip ∧
      t.part.messages = s.part.messages))

/-- The retainer (R64, R68, R70, R73): RETCLOSED OPEN ends the pulse and CLOSED ends the closing window; 500 ms end the pulse; 2 s end the
release with RELEASE_TIMEOUT source 1 and a closing window of 2 s; and an OPEN retainer where the watch expects it closed is reported as
source 2, present. -/
def Obligations.RetainerPulseReleaseAndWatch : Prop :=
  ∀ s : State, Ready s →
    (retainerChanged s.part = true → After .retclosedChange s (fun t =>
      Frame [.window, .rope, .launch, .doors, .sup] s t ∧ t.part.launch.retValue = s.part.launch.retInput.settled ∧
      t.part.launch.retChanged = s.part.clock.now ∧
      t.part.launch.retain = (s.part.launch.retain && decide (s.part.launch.retInput.settled ≠ some false)) ∧
      (∀ e, s.part.launch.watch = .closing e → s.part.launch.retInput.settled = some true → t.part.launch.watch = .expectClosed) ∧
      (s.part.launch.watch = .expectClosed → s.part.launch.retInput.settled = some false → s.part.launch.watchFault = false →
        CauseEntered .releaseTimeout 2 t.part.sup ∧ ConditionPresent .releaseTimeout 2 t.part.sup ∧ t.part.sup.mode.isRunning = false) ∧
      (s.part.launch.retInput.settled = some true → s.part.launch.watchFault = true →
        ¬ ConditionPresent .releaseTimeout 2 t.part.sup ∧ t.part.launch.watchFault = false))) ∧
    (pulseOver s.part = true → After .retainPulseTimeout s (fun t =>
      Frame [.launch] s t ∧ t.part.launch = { s.part.launch with retain := false })) ∧
    (s.part.launch.state = .releasing → reached s.part.clock.now (s.part.launch.grantTime + ms 2000) = true →
      After .releaseTimeout s (fun t =>
        Frame [.window, .rope, .launch, .doors, .sup] s t ∧ t.part.launch.state = .idle ∧ t.part.launch.retain = false ∧
        t.part.launch.watch = .closing (s.part.clock.now + ms 2000) ∧ t.part.launch.timeouts = count16 s.part.launch.timeouts ∧
        t.part.launch.releases = s.part.launch.releases ∧ CauseEntered .releaseTimeout 1 t.part.sup ∧
        t.part.sup.mode.isRunning = false)) ∧
    (∀ e, s.part.launch.watch = .closing e → reached s.part.clock.now e = true → After .closingWindowExpiry s (fun t =>
      Frame [.window, .rope, .launch, .doors, .sup] s t ∧ t.part.launch.watch = .expectClosed ∧
      (s.part.launch.retValue = some false → s.part.launch.watchFault = false →
        CauseEntered .releaseTimeout 2 t.part.sup ∧ ConditionPresent .releaseTimeout 2 t.part.sup)))

/-- Launch Control's judgement (R65 to R67): outside a release it ends REQUESTED exactly where the mode is RUN, the head of S4 is a cabin 1 to
128 whose door is LOCKED, S5 is empty, the launch gap is at least S_min and the speed is valid and at least Vlaunch_min; a new request joins
the start queue at the head, and a removed one leaves it. A grant energises RETAIN only from REQUESTED (R68). Every step keeps: where a
release is REQUESTED, all its conditions hold. And a step that energises RETAIN does so by a grant of the present time to the retainer at the
head of the start queue, in a part in which the release is REQUESTED and all its conditions hold (R68). -/
def Obligations.ReleaseIsRequestedWhileAllConditionsHold : Prop :=
  (∀ p : Part,
    (p.launch.state ≠ .releasing →
      ((judgeLaunch p).launch.state = .requested ↔ ReleaseConditions p) ∧
      ((judgeLaunch p).launch.state = .requested ∨ (judgeLaunch p).launch.state = .idle)) ∧
    (p.launch.state = .idle → (judgeLaunch p).launch.state = .requested →
      (judgeLaunch p).doors.queue = .retainer :: p.doors.queue ∧ (judgeLaunch p).launch.requestTime = p.clock.now) ∧
    (p.launch.state = .requested → (judgeLaunch p).launch.state = .idle → .retainer ∉ (judgeLaunch p).doors.queue) ∧
    (p.launch.state = .requested → (grantRetainer p).launch.retain = true ∧ (grantRetainer p).launch.state = .releasing ∧
      (grantRetainer p).launch.grantTime = p.clock.now ∧ (grantRetainer p).launch.watch = .openAllowed) ∧
    (p.launch.state ≠ .requested → grantRetainer p = p)) ∧
  (∀ s t : State, step s = .next t → RequestStands s.part →
    RequestStands t.part ∧
    (s.part.launch.retain = false → t.part.launch.retain = true →
      t.part.launch.state = .releasing ∧ t.part.launch.grantTime = t.part.clock.now ∧
      ∃ (p : Part) (n : Nat), p.launch.state = .requested ∧ ReleaseConditions p ∧ p.launch.retain = false ∧
        p.doors.queue.head? = some .retainer ∧ (settleOnce p).launch.retain = true ∧
        t.part = refreshPins (refreshTone 1 (refreshTone 0 { settle n (settleOnce p) with work := {} }))))

/-- HOOK_EVENT (R175, R177, R180, R181): the handset's value is taken. Lifted, it originates a HANDSET call from IDLE where a seize is allowed,
answers a ringing call, and hears busy tone where it can seize nothing; in a CONNECTED call it ends the ringer of an ORDER or ALERT call,
and in SEIZING, RINGING_OUT and CLEARING it changes no state. Put down, it clears with reason LOCAL_CLEAR a connected call of the answerer,
and of the caller a HANDSET call in SEIZING, RINGING_OUT or CONNECTED and an ORDER or ALERT call whose handset has been lifted in it: the
slot is CLEARING with the guard timer of 2 s where the summit's awaited bit stands, and IDLE otherwise; an ORDER or ALERT call that is not
answered, or not picked up, goes on; and it ends a clearing of the summit's. -/
def Obligations.HookEventActsOnTheCall : Prop :=
  ∀ (v : VoiceNo) (s : State), Ready s → hookChanged v s.part = true →
    let c := callSlot s.part v
    After (.hookEvent v) s (fun t =>
      let d := callSlot t.part v
      Frame [.window, .calls] s t ∧ d.hook = c.hookInput.settled ∧ (∀ u, u ≠ v → callSlot t.part u = callSlot s.part u) ∧
      (c.hookInput.settled = some true →
        (c.state = .idle → c.freeRun = 2 → d.state = .seizing ∧ d.originator = .handset ∧ d.role = .caller ∧ d.duration = 0 ∧
          d.ownSeize = true ∧ d.noAnswer = some (s.part.clock.now + ms (1000 * s.part.calls.limit)) ∧
          t.part.window.attention.getLsbD 10 = true) ∧
        (c.state = .idle → c.freeRun ≠ 2 → d.state = .idle ∧ d.tone = .busy) ∧
        (c.state = .unavailable → d.state = .unavailable ∧ d.tone = .busy) ∧
        (c.state = .ringingIn → d.state = .connected ∧ d.ringer = false ∧ d.tone = .voice ∧
          d.nextSecond = s.part.clock.now + ms 1000 ∧ (c.role = .answerer → d.ownAnswer = true) ∧
          t.part.calls.connects = count16 s.part.calls.connects) ∧
        (c.state = .connected → d.state = .connected ∧ d.ringing = false ∧ d.ringer = false ∧ d.pickedUp = true ∧ d.tone = .voice ∧
          d.originator = c.originator ∧ d.role = c.role ∧ d.duration = c.duration) ∧
        (c.state ∈ [.seizing, .ringingOut, .clearing] → d.state = c.state ∧ d.originator = c.originator ∧ d.noAnswer = c.noAnswer ∧
          d.guardEnds = c.guardEnds)) ∧
      (c.hookInput.settled = some false →
        (c.role = .caller →
          (c.originator = .handset ∧ c.state ∈ [.seizing, .ringingOut, .connected]) ∨ (c.state = .connected ∧ c.pickedUp = true) →
          d.reason = .localClear ∧ d.ownSeize = false ∧ d.ringer = false ∧ d.ringing = false ∧ d.noAnswer = none ∧
          d.state = (if c.answerTaken then .clearing else .idle) ∧ t.part.window.attention.getLsbD 10 = true ∧
          (c.answerTaken = true → d.guardEnds = some (s.part.clock.now + ms 2000))) ∧
        (c.role = .caller → c.originator ≠ .handset → c.state ∈ [.seizing, .ringingOut] ∨ (c.state = .connected ∧ c.pickedUp = false) →
          d = { c with hook := some false, tone := d.tone, toneSince := d.toneSince }) ∧
        (c.state = .connected → c.role = .answerer → d.reason = .localClear ∧ d.ownAnswer = false ∧ d.ringer = false ∧
          d.state = (if c.seizeTaken then .clearing else .idle) ∧
          (c.seizeTaken = true → d.guardEnds = some (s.part.clock.now + ms 2000))) ∧
        (c.state = .clearing → d.state = (if c.clearedBySummit then .idle else .clearing)) ∧
        (c.state = .idle → d.state = .idle ∧ d.tone = .silence)))

/-- DOOR_CHANNEL_STEP (R78, R81, R85, R92, R93): the channel takes its inputs. A channel of kind NONE follows its limits, stated where no
action waits due that its entry into AT_A would have judged (R108); a gate without a lock at that end stands at the end it reaches, its motor
off, and a DOOR_MOVE that owns it is answered OK; a cabin operator that reaches B tells its owner and takes the automatic return; a door found
away from its end in AT_A, AT_B or LOCKING is UNKNOWN with reason LEFT_END, and a DOOR_MOVE whose locking it ends is answered FAILED with
detail 5, where a limit inactive already counts as one that becomes inactive (log entry 60), stated where no action and no door waits, or where
this one does not and no cabin action is in flight on it; and both limits together are a fault, with the motor and LOCKREL off. -/
def Obligations.DoorChannelStepFollowsTheLimits : Prop :=
  ∀ (n : ChannelNo) (x : ChannelInputs) (s : State), Ready s → stepDue n s.part = true →
    let c := channel s.part n
    let a := debounceDoor c.started x.limA c.limA
    let b := debounceDoor c.started x.limB c.limB
    let l := debounceDoor c.started x.lockSns c.lockSns
    After (.doorChannelStep n x) s (fun t =>
      let d := channel t.part n
      d.limA = a ∧ d.limB = b ∧ d.lockSns = l ∧ d.started = true ∧ d.config = c.config ∧ t.part.clock.stepsTaken.get n = true ∧
      t.part.clock.now = s.part.clock.now ∧ t.part.track = s.part.track ∧ t.part.line = s.part.line ∧ t.part.messages = s.part.messages ∧
      t.part.grip = s.part.grip ∧ t.part.sensors = s.part.sensors ∧ OnlyDoorsChange s t ∧
      (c.config.kind = .none → c.state = .atA ∨ a.high = false ∨ b.high = true ∨ (∀ x ∈ s.part.sequencer.actions, x.dueWaiting = false) →
        Frame [.clock, .doors] s t ∧ d = { c with
        started := true, limA := a, limB := b, lockSns := l
        state := if a.high = true ∧ b.high = false then .atA else if b.high = true ∧ a.high = false then .atB else .unknown }) ∧
      (c.config.kind = .platformGate → NothingWaits s.part → c.state = .movingToA → c.config.locking = false →
        a.high = true → b.high = false →
        d.state = .atA ∧ d.motor = none ∧ d.lockRel = false ∧ d.target = none ∧ d.owner = .none ∧
        (∀ j, c.owner = .order j → (slotOf t.part j).state = .done ∧ (slotOf t.part j).result = 0 ∧ (slotOf t.part j).detail = 0)) ∧
      (c.config.kind = .platformGate → NothingWaits s.part → c.state = .movingToB → b.high = true → a.high = false →
        d.state = .atB ∧ d.motor = none ∧ d.lockRel = false ∧ d.target = none ∧ d.owner = .none ∧
        (∀ j, c.owner = .order j → (slotOf t.part j).state = .done ∧ (slotOf t.part j).result = 0 ∧ (slotOf t.part j).detail = 0)) ∧
      (c.config.kind.isCabin = true → NothingWaits s.part → c.state = .movingToB → b.high = true → a.high = false →
        budgetRoom s.part.doors s.part.clock.now = false →
        d.state = .waitingStart ∧ d.waits = .move ∧ d.target = some .a ∧ d.owner = .automatic ∧ d.motor = none ∧
        .door n ∈ t.part.doors.queue ∧
        (∀ j, c.owner = .order j → (slotOf t.part j).state = .done ∧ (slotOf t.part j).result = 0)) ∧
      (c.config.kind ≠ .none →
        (c.state = .atA ∧ a.high = false) ∨ (c.state = .atB ∧ b.high = false) ∨ (c.state = .locking ∧ a.high = false) →
        NothingWaits s.part ∨ (.door n ∉ s.part.doors.queue ∧ ∀ f ∈ s.part.sequencer.flights.get n, f.isCabin = false) →
        d.state = .unknown ∧ d.lastReason = .leftEnd ∧ d.target = none ∧ d.owner = .none ∧
        d.motor = c.motor ∧ t.part.window.attention.getLsbD 5 = true ∧
        (∀ j, c.owner = .order j → (slotOf t.part j).state = .done ∧ (slotOf t.part j).result = asOctet Result.failed.code ∧
          (slotOf t.part j).detail = 5)) ∧
      (c.config.kind ≠ .none → c.state ≠ .fault → a.high = true → b.high = true →
        d.state = .fault ∧ d.lastReason = .bothLimits ∧ d.motor = none ∧ d.lockRel = false ∧ d.owner = .none ∧
        d.faults = count16 c.faults ∧ .door n ∉ t.part.doors.queue ∧
        (c.config.category ≠ .none → CauseEntered .doorFault n.val t.part.sup ∧ ConditionPresent .doorFault n.val t.part.sup)))

/-- The door timers (R83, R86 to R89), each the channel's whole step at which it passes. A lock time or a travel limit that passes is a FAULT
with its reason, the motor and LOCKREL off, counted, and reported by the configured category; a dwell that ends is a retry toward the
target, which moves at once where the queue is empty and a start is left; a current run of 2 stops the motor and reverses, at once where a
start is left, and stands until the grant makes it 0 (R84, R88). Each is the whole of DOOR_CHANNEL_STEP at that sample (log entry 7). -/
def Obligations.DoorTimersAndObstruction : Prop :=
  ∀ (n : ChannelNo) (x : ChannelInputs) (s : State), Ready s →
    let faulted := fun (why : DoorReason) (t : State) =>
      (channel t.part n).state = .fault ∧ (channel t.part n).lastReason = why ∧ (channel t.part n).motor = none ∧
      (channel t.part n).lockRel = false ∧ (channel t.part n).owner = .none ∧
      (channel t.part n).faults = count16 (channel s.part n).faults ∧ .door n ∉ t.part.doors.queue ∧
      t.part.window.attention.getLsbD 5 = true ∧ exec (.doorChannelStep n x) s = .next t ∧
      ((channel s.part n).config.category ≠ .none →
        CauseEntered .doorFault n.val t.part.sup ∧ ConditionPresent .doorFault n.val t.part.sup) ∧
      ((channel s.part n).config.capOnFault = true → t.part.sup.caps.door = true)
    (lockTimeDue n x s.part = true → After (.lockTimeout n x) s (faulted .lockTimeout)) ∧
    (travelDue n x s.part = true → After (.travelTimeout n x) s (faulted .travelTimeout)) ∧
    (dwellDue n x s.part = true → s.part.doors.queue = [] → After (.reopenDwellEnd n x) s (fun t =>
      exec (.doorChannelStep n x) s = .next t ∧
      (budgetRoom s.part.doors s.part.clock.now = false →
        (channel t.part n).state = .waitingStart ∧ (channel t.part n).waits = .move ∧ t.part.doors.queue = [.door n] ∧
        (channel t.part n).retriesUsed = (channel s.part n).retriesUsed + 1) ∧
      (∀ e, budgetRoom s.part.doors s.part.clock.now = true → (channel s.part n).target = some e →
        (channel (beforeTimers n x s.part) n).limit e = false →
        (channel t.part n).state = e.movingState ∧ (channel t.part n).motor = some e ∧
        (channel t.part n).retriesUsed = (channel s.part n).retriesUsed + 1 ∧
        (channel t.part n).lastGrant = s.part.clock.now))) ∧
    (obstructionDue n x s.part = true → s.part.doors.queue = [] →
      After (.obstruction n x) s (fun t =>
        exec (.doorChannelStep n x) s = .next t ∧
        (budgetRoom s.part.doors s.part.clock.now = false →
          (channel t.part n).state = .waitingStart ∧ (channel t.part n).waits = .reversal ∧ (channel t.part n).motor = none ∧
          2 ≤ (channel t.part n).obstructionRun ∧ t.part.doors.queue = [.door n]) ∧
        (budgetRoom s.part.doors s.part.clock.now = true →
          (channel (beforeTimers n x s.part) n).limit (channel s.part n).config.openEnd = false →
          (channel t.part n).state = .reversing ∧ (channel t.part n).motor = some (channel s.part n).config.openEnd ∧
          (channel t.part n).obstructionRun = 0)))

/-- CONVERTER_SCAN (R51, R52, R54, R55): a good scan gives all eleven codes, marked fresh. The tension state is below the band under tension low,
above it over tension high, gone where the code lies inside both limits by the hysteresis or more, and else as it was, for a profile whose
tension low is not above its tension high; the wind state is HIGH from the threshold on, not HIGH below the threshold less the hysteresis, and
else as it was. A failed scan keeps the codes, marked held, and counts up to 3, where CONVERTER_FAULT is reported, present until the next good
scan. CONVERTER_FAULT (R52): the third failed scan in a row reports it, SERVICE, source 0, with SENSOR set. GRIP_SAMPLES_REACHED (R57, R59): at
the scan that reaches grip samples the window closes, its result goes to the view with the time, and to the record of a cabin 1 to 128, and GRIP
is set. A grip window that closes is INCOMPLETE where fewer than 4 codes were taken, a converter fault was seen or a second D6 passage closes it;
otherwise it is PASS exactly where all its forces lay within its band (R59). CONVERTER_FAULT and GRIP_SAMPLES_REACHED are the whole of
CONVERTER_SCAN at that scan (log entry 7). -/
def Obligations.ConverterScanAndGrip : Prop :=
  (∀ (a : ScanAnswers) (s : State), Ready s → scanDue s.part = true →
     After (.converterScan a) s (fun t =>
       Frame [.window, .clock, .cabins, .rope, .sensors, .grip, .launch, .doors, .sup, .calls] s t ∧
       t.part.clock = { s.part.clock with scanTaken := true } ∧ t.part.sensors.switches = s.part.sensors.switches ∧
       ((∀ k : Fin 11, (a.get k).isSome = true) →
         (∀ k : Fin 11, a.get k = some (t.part.sensors.codes.get k)) ∧ t.part.sensors.mark = .fresh ∧ t.part.sensors.failRun = 0 ∧
         t.part.sensors.everGood = true ∧ t.part.sensors.failTally = s.part.sensors.failTally ∧
         (let f := activeProfile s.part.sup
          let c := (t.part.sensors.codes.get 9).toNat
          f.tensionLow ≤ f.tensionHigh →
            (c < f.tensionLow → t.part.sensors.tension = .below) ∧ (f.tensionHigh < c → t.part.sensors.tension = .above) ∧
            (f.tensionLow + f.tensionHysteresis ≤ c → c + f.tensionHysteresis ≤ f.tensionHigh → t.part.sensors.tension = .gone) ∧
            (f.tensionLow ≤ c → c ≤ f.tensionHigh → (c < f.tensionLow + f.tensionHysteresis ∨ f.tensionHigh < c + f.tensionHysteresis) →
              t.part.sensors.tension = s.part.sensors.tension)) ∧
         (s.part.sup.pendingSwitch = none →
          let f := activeProfile s.part.sup
          let c := (t.part.sensors.codes.get 10).toNat
          (f.windThreshold ≤ c → t.part.sensors.windHigh = true) ∧ (c + f.windHysteresis < f.windThreshold → t.part.sensors.windHigh = false) ∧
          (c < f.windThreshold → f.windThreshold ≤ c + f.windHysteresis → t.part.sensors.windHigh = s.part.sensors.windHigh)) ∧
         (s.part.sensors.failRun = 3 → ¬ ConditionPresent .converterFault 0 t.part.sup)) ∧
       ((∃ k : Fin 11, (a.get k).isSome = false) →
         t.part.sensors.codes = s.part.sensors.codes ∧ t.part.sensors.mark ≠ .fresh ∧
         t.part.sensors.failRun = (if s.part.sensors.failRun < 3 then s.part.sensors.failRun + 1 else s.part.sensors.failRun) ∧
         t.part.sensors.failTally = count16 s.part.sensors.failTally ∧ t.part.sensors.everGood = s.part.sensors.everGood ∧
         t.part.sensors.tension = s.part.sensors.tension ∧ t.part.sensors.windHigh = s.part.sensors.windHigh))) ∧
  (∀ (a : ScanAnswers) (s : State), Ready s →
     (converterFails a s.part = true → After (.converterFault a) s (fun t =>
       exec (.converterScan a) s = .next t ∧ t.part.sensors.failRun = 3 ∧ CauseEntered .converterFault 0 t.part.sup ∧
       ConditionPresent .converterFault 0 t.part.sup ∧ t.part.window.attention.getLsbD 6 = true ∧ t.part.sup.mode.isRunning = false)) ∧
     (gripReached s.part = true → After (.gripSamplesReached a) s (fun t =>
       exec (.converterScan a) s = .next t ∧ t.part.grip.window = none ∧ t.part.window.attention.getLsbD 12 = true ∧
       t.part.grip.last.closed = s.part.clock.now ∧
       t.part.grip.passes + t.part.grip.fails + t.part.grip.incompletes ≤
         s.part.grip.passes + s.part.grip.fails + s.part.grip.incompletes + 1 ∧
       (∀ w ∈ s.part.grip.window, t.part.grip.last.cabin = w.cabin ∧
         (w.codes + 1 < 4 → t.part.grip.last.result = .incomplete) ∧ (w.faultSeen = true → t.part.grip.last.result = .incomplete) ∧
         (t.part.grip.last.result = .fail → CauseEntered .gripFail w.cabin t.part.sup ∧ FastEntered t.part.sup) ∧
         (t.part.grip.last.result = .incomplete → CauseEntered .gripIncomplete w.cabin t.part.sup) ∧
         (isCabin w.cabin = true → (cabin t.part w.cabin).grip = t.part.grip.last.result ∧
           (cabin t.part w.cabin).gripMin = t.part.grip.last.forceMin ∧ (cabin t.part w.cabin).gripMax = t.part.grip.last.forceMax))))) ∧
  (∀ (w : GripWindow) (doubled : Bool) (lo hi : Nat), w.forces = some (lo, hi) →
     (w.codes < 4 ∨ w.faultSeen = true ∨ doubled = true → gripResult w doubled = .incomplete) ∧
     (4 ≤ w.codes → w.faultSeen = false → doubled = false →
       gripResult w doubled = if w.gripMin ≤ lo ∧ hi ≤ w.gripMax then .pass else .fail))

/-- ACTION_DUE (R106 to R108): afterwards every action of the list that has reached its due time is DUE_WAITING, and is a cabin action unless it
waited before. One action alone: dropped and counted where its condition does not hold; a cabin action that is not issuable stays,
DUE_WAITING; a gate action, and a cabin action whose channel is AT_A with its cabin's entry in the reach segment, is issued: it leaves the
list, is in flight on its channel, and a resting channel away from its target, with a start left, moves toward it for the Door Sequencer; a
channel of kind NONE or in FAULT hands it back as not taken, and a bound cabin's door is then UNKNOWN (R111). -/
def Obligations.ActionDueIssuesOrDrops : Prop :=
  ∀ (s : State), Ready s → anyActionDue s.part = true →
    After .actionDue s (fun t =>
      (∀ a ∈ t.part.sequencer.actions, reached s.part.clock.now a.due = true → a.dueWaiting = true) ∧
      (∀ a ∈ t.part.sequencer.actions, a.dueWaiting = true → a.isCabin = false → a ∈ s.part.sequencer.actions) ∧
      t.part.track = s.part.track ∧ t.part.line = s.part.line ∧ t.part.messages = s.part.messages ∧ t.part.clock = s.part.clock ∧
      t.part.sensors = s.part.sensors ∧ OnlyDoorsChange s t) ∧
    (∀ a, s.part.sequencer.actions = [a] → a.dueWaiting = false →
      let meetsItsCabin := (channel s.part a.channel).state = .atA ∧
        ∃ e, entryOf s.part a.ref = some e ∧ e.segment = (channel s.part a.channel).config.reach
      (conditionHolds s.part a = false → After .actionDue s (fun t =>
        Frame [.sequencer] s t ∧ t.part.sequencer = { s.part.sequencer with
          actions := [], conditionDrops := count16 s.part.sequencer.conditionDrops })) ∧
      (conditionHolds s.part a = true → a.isCabin = true → ¬ meetsItsCabin → After .actionDue s (fun t =>
        Frame [.sequencer] s t ∧ t.part.sequencer = { s.part.sequencer with actions := [{ a with dueWaiting := true }] })) ∧
      (conditionHolds s.part a = true → (a.isCabin = true → meetsItsCabin) →
        (channel s.part a.channel).closed = false → (channel s.part a.channel).owner = .none →
        (channel s.part a.channel).state.atRest = true → (channel s.part a.channel).state ≠ a.target.atState →
        (channel s.part a.channel).config.locking = false → s.part.doors.queue = [] →
        budgetRoom s.part.doors s.part.clock.now = true → (channel s.part a.channel).limit a.target = false →
        After .actionDue s (fun t =>
          Frame [.doors, .sequencer] s t ∧ t.part.sequencer.actions = [] ∧
          t.part.sequencer.flights.get a.channel = some (flightOf a s.part.clock.now) ∧
          (channel t.part a.channel).owner = .action ∧ (channel t.part a.channel).target = some a.target ∧
          (channel t.part a.channel).state = a.target.movingState ∧ (channel t.part a.channel).motor = some a.target)) ∧
      (conditionHolds s.part a = true → (a.isCabin = true → meetsItsCabin ∧ ∀ r ∈ s.part.doors.queue, r = .retainer) →
        (channel s.part a.channel).closed = true → After .actionDue s (fun t =>
        Frame [.window, .cabins, .launch, .doors, .sequencer, .sup] s t ∧ t.part.sequencer.actions = [] ∧
        t.part.sequencer.flights.get a.channel = none ∧ t.part.sequencer.notTaken = count16 s.part.sequencer.notTaken ∧
        (a.isCabin = true → isCabin a.cabin = true → (cabin t.part a.cabin).door = .unknown ∧ t.part.window.attention.getLsbD 5 = true))))

/-- SUMMIT_ANSWER (R143, R145, R146, R150, R152): the answer to the oldest valley frame outstanding is judged once, and counted good or
errored. In UP a good answer sets the loss run to 0, and of the summit's word each bit that agrees with the one before is accepted and no other
changes; an errored answer raises the loss run and changes no accepted bit. In TRAINING a correct echo raises the run and any other answer sets
it to 0, and no indication is used. The accepted indications (R130, R131), where the line stays UP: STOP_SERVICE and STOP_FAST coming to stand
report SUMMIT_STOP, SERVICE, and SUMMIT_FAST_STOP, FAST, source 0, present, and their ceasing ends the conditions; the WIND cap follows
WIND_WARNING and the local wind state, and no other cap changes. That the loss run stands where the line leaves UP at the answer is the model's
choice (log entry 74). -/
def Obligations.SummitAnswerIsJudged : Prop :=
  (∀ (fr : Option SummitFrame) (n : FrameNote) (rest : List FrameNote) (s : State), Ready s →
    s.part.line.notes = n :: rest → 3 ≤ elapsed s.part.clock.now n.start →
    let good := answerGood fr s.part
    let f := readFrame n.rate (fr.getD { offset := 0, octets := [] }).octets
    (s.part.line.state ∈ [.training, .up] → After (.summitAnswer fr) s (fun t =>
      (t.part.line.notes = rest ∨ t.part.line.notes = []) ∧ t.part.track.queue = s.part.track.queue ∧ t.part.clock = s.part.clock ∧
      t.part.sensors = s.part.sensors ∧ t.part.line.config = s.part.line.config ∧
      t.part.line.goodAnswers = (if good then s.part.line.goodAnswers + 1 else s.part.line.goodAnswers) ∧
      t.part.line.erroredAnswers = (if good then s.part.line.erroredAnswers else s.part.line.erroredAnswers + 1))) ∧
    (s.part.line.state = .up → After (.summitAnswer fr) s (fun t =>
      t.part.line.lossRun = (if good then 0 else s.part.line.lossRun + 1) ∧
      (good = true → t.part.line.candidate = some f.word ∧ t.part.line.farErrored = f.errored ∧
        (∀ b : Fin 16, t.part.line.accepted.getLsbD b.val =
          match s.part.line.candidate with
          | none => s.part.line.accepted.getLsbD b.val
          | some c => if c.getLsbD b.val = f.word.getLsbD b.val then f.word.getLsbD b.val else s.part.line.accepted.getLsbD b.val) ∧
        (t.part.line.accepted ≠ s.part.line.accepted → t.part.window.attention.getLsbD 8 = true)) ∧
      (good = false → t.part.line.candidate = s.part.line.candidate ∧ t.part.line.accepted = s.part.line.accepted ∧
        t.part.line.farErrored = s.part.line.farErrored ∧ t.part.messages.acceptNext = false))) ∧
    (s.part.line.state = .training → After (.summitAnswer fr) s (fun t =>
      t.part.line.accepted = s.part.line.accepted ∧ t.part.messages = s.part.messages ∧ t.part.track = s.part.track ∧
      (good = true → correctEcho s.part.line n f = true → s.part.line.echoRun < 15 →
        Frame [.line] s t ∧ t.part.line.echoRun = s.part.line.echoRun + 1 ∧ t.part.line.state = .training ∧ t.part.line.syncKnown = true) ∧
      (¬ (good = true ∧ correctEcho s.part.line n f = true) → Frame [.line] s t ∧ t.part.line.echoRun = 0 ∧
        t.part.line.state = .training)))) ∧
  (∀ (fr : Option SummitFrame) (n : FrameNote) (rest : List FrameNote) (s : State), GoodInUp fr n rest s →
    let old := fun b : Nat => s.part.line.accepted.getLsbD b
    let new := fun b : Nat => acceptedAt s.part.line (answerRead fr n).word b
    After (.summitAnswer fr) s (fun t =>
      t.part.line.state = .up ∧ (∀ b : Fin 16, t.part.line.accepted.getLsbD b.val = new b.val) ∧
      (old 1 = false → new 1 = true → s.part.sup.stopServiceStands = false → CauseEntered .summitStop 0 t.part.sup ∧
        ConditionPresent .summitStop 0 t.part.sup ∧ t.part.sup.stopServiceStands = true ∧ t.part.sup.mode.isRunning = false ∧
        t.part.window.attention.getLsbD 2 = true) ∧
      (old 1 = true → new 1 = false → s.part.sup.stopServiceStands = true →
        ¬ ConditionPresent .summitStop 0 t.part.sup ∧ t.part.sup.stopServiceStands = false) ∧
      (old 2 = false → new 2 = true → s.part.sup.stopFastStands = false → CauseEntered .summitFastStop 0 t.part.sup ∧
        FastEntered t.part.sup ∧ ConditionPresent .summitFastStop 0 t.part.sup ∧ t.part.sup.stopFastStands = true ∧
        t.part.sup.mode.isRunning = false ∧ t.part.sup.fastStop = true) ∧
      (old 2 = true → new 2 = false → s.part.sup.stopFastStands = true →
        ¬ ConditionPresent .summitFastStop 0 t.part.sup ∧ t.part.sup.stopFastStands = false) ∧
      ((∃ b : Fin 16, old b.val ≠ new b.val) →
        t.part.sup.caps = { s.part.sup.caps with wind := s.part.sensors.windHigh || new 3 }) ∧
      ((∀ b : Fin 16, old b.val = new b.val) → t.part.sup.caps = s.part.sup.caps)))

/-- TRAINING_SUCCESS (R151, R176, R182): the answer is the sixteenth correct echo in a row; the line is UP at the rate trained with the echo's
priority as the summit's and the valley's as sent, loss run 0, the quality window and the candidate empty; a LINE_START is answered OK; LINK
leaves the caps; and the voice slots that the rate carries are IDLE, their free run 0. LINE_LOSS (R152, R155, R172, R182): at a loss run of 50
the line leaves UP with diagnosis LOST, the loss counted, probing at once with auto-start on and in DOWN otherwise; no frame is outstanding,
every voice slot is UNAVAILABLE, the transmitter and the receiver are IDLE, LINK is in the caps, and the summit's stops are gone. QUALITY_EVENT
(R153): counted, with diagnosis QUALITY; at rate 2 or 3 the line trains at the next rate down with attempts used 0, and at rate 1 it stays UP
with an empty window; that a good answer is judged so too, under a threshold lowered since, is log entry 34. Each is the whole of SUMMIT_ANSWER
at that answer (log entry 7). When they come about: a good answer in TRAINING that echoes kind, rate, number and patterns of its frame with a
priority up to 7, fifteen such answers in a row before it; an errored answer in UP after 49 in a row; and, before that, an errored answer in UP
that brings the errored ones among the last 500 above the threshold. That the run of correct echoes and the loss run show their last values
after the line leaves the state that keeps them is the model's choice (log entry 74). -/
def Obligations.TrainingLossAndQuality : Prop :=
  (∀ (fr : Option SummitFrame) (s : State), Ready s → succeeds fr s.part = true → After (.trainingSuccess fr) s (fun t =>
     exec (.summitAnswer fr) s = .next t ∧ 15 ≤ s.part.line.echoRun ∧ answerGood fr s.part = true ∧
     t.part.line.state = .up ∧ t.part.line.rate = s.part.line.rate ∧ t.part.line.lossRun = 0 ∧ t.part.line.qualityWindow = [] ∧
     t.part.line.candidate = none ∧ t.part.line.accepted = s.part.line.accepted ∧ t.part.line.upSince = s.part.clock.now ∧
     t.part.line.attemptEnds = none ∧ t.part.line.startOrder = none ∧
     (∀ j, s.part.line.startOrder = some j → (slotOf t.part j).state = .done ∧ (slotOf t.part j).result = 0) ∧
     (∀ n ∈ s.part.line.notes.head?, t.part.line.valleyPriority = n.priority ∧
       t.part.line.summitPriority = (readFrame n.rate (fr.getD { offset := 0, octets := [] }).octets).priority.toNat) ∧
     t.part.sup.caps.link = false ∧ t.part.sup.graceTimer = none ∧ t.part.window.attention.getLsbD 7 = true ∧
     (∀ v : VoiceNo, carries s.part.line.rate v = true → (callSlot t.part v).state = .idle ∧ (callSlot t.part v).freeRun = 0))) ∧
  (∀ (fr : Option SummitFrame) (s : State), Ready s →
     (losesLine fr s.part = true → After (.lineLoss fr) s (fun t =>
       exec (.summitAnswer fr) s = .next t ∧
       t.part.line.state = (if s.part.line.config.autoStart then .probing else .down) ∧ t.part.line.rate = 0 ∧
       t.part.line.diagnosis = .lost ∧ t.part.line.losses = count16 s.part.line.losses ∧ t.part.line.notes = [] ∧
       t.part.line.startOrder = none ∧ (∀ v : VoiceNo, (callSlot t.part v).state = .unavailable) ∧
       t.part.messages.transmitter = .idle ∧ t.part.messages.receiver = .idle ∧ t.part.messages.notes = s.part.messages.notes ∧
       t.part.sup.caps.link = true ∧ t.part.sup.stopServiceStands = false ∧ t.part.sup.stopFastStands = false ∧
       (s.part.sup.stopServiceStands = true → ¬ ConditionPresent .summitStop 0 t.part.sup) ∧
       (s.part.sup.stopFastStands = true → ¬ ConditionPresent .summitFastStop 0 t.part.sup))) ∧
     (qualityDue fr s.part = true → After (.qualityEvent fr) s (fun t =>
       exec (.summitAnswer fr) s = .next t ∧ t.part.line.qualityEvents = count16 s.part.line.qualityEvents ∧
       t.part.line.diagnosis = .quality ∧ t.part.window.attention.getLsbD 7 = true ∧
       (1 < s.part.line.rate → t.part.line.state = .training ∧ t.part.line.rate = s.part.line.rate - 1 ∧
         t.part.line.attemptsUsed = 0 ∧ t.part.line.attemptPending = true ∧
         (∀ v : VoiceNo, (callSlot t.part v).state = .unavailable) ∧ t.part.sup.caps.link = true) ∧
       (s.part.line.rate ≤ 1 → t.part.line.state = .up ∧ t.part.line.rate = s.part.line.rate ∧ t.part.line.qualityWindow = [])))) ∧
  (∀ (fr : Option SummitFrame) (n : FrameNote) (rest : List FrameNote) (s : State), Ready s →
     s.part.line.notes = n :: rest → 3 ≤ elapsed s.part.clock.now n.start →
     let f := answerRead fr n
     (s.part.line.state = .training → s.part.line.echoRun = 15 → answerGood fr s.part = true → f.kind = 1 → f.rate = s.part.line.rate →
       f.number = n.number → f.pattern1 = n.pattern1 → f.pattern2 = n.pattern2 → f.priority.toNat ≤ 7 →
       After (.trainingSuccess fr) s (fun t => exec (.summitAnswer fr) s = .next t ∧ t.part.line.state = .up ∧
         t.part.line.rate = s.part.line.rate ∧ t.part.line.echoRun = 16 ∧ t.part.line.summitPriority = f.priority.toNat ∧
         t.part.line.valleyPriority = n.priority ∧ t.part.line.goodAnswers = s.part.line.goodAnswers + 1)) ∧
     (s.part.line.state = .up → answerGood fr s.part = false → 49 ≤ s.part.line.lossRun →
       After (.lineLoss fr) s (fun t => exec (.summitAnswer fr) s = .next t ∧ t.part.line.diagnosis = .lost ∧ t.part.line.rate = 0 ∧
         t.part.line.lossRun = s.part.line.lossRun + 1)) ∧
     (s.part.line.state = .up → answerGood fr s.part = false → s.part.line.lossRun < 49 →
       s.part.line.config.qualityThreshold < ((true :: s.part.line.qualityWindow).take 500).countP (fun errored => errored) →
       After (.qualityEvent fr) s (fun t => exec (.summitAnswer fr) s = .next t ∧ t.part.line.diagnosis = .quality ∧
         t.part.line.state = (if 1 < s.part.line.rate then .training else .up) ∧
         t.part.line.qualityEvents = count16 s.part.line.qualityEvents)))

/-- TRANSFER_REFUSED (R164, R166, R167): a good answer in UP whose ACCEPT bit is clear, to a frame that offered the octet still on offer, one
refusal of it counted already, is the second refusal in a row, and the transfer ends: the transmitter is IDLE, a MESSAGE_SEND is answered
FAILED with detail 1, and a launch note is dropped in the record of its cabin, where that is registered and no newer note stands in the list.
RINGING_OUT (R177, R183): a good answer in UP to a frame that carried the slot's own SEIZE, one such answer counted already in SEIZING, at
which neither the summit's SEIZE nor its ANSWER comes to stand and the line stays UP, is the second counted answer: the slot is RINGING_OUT,
CALL is set, and the order that owns it, held by no other slot or channel, shows 3. Each is the whole of SUMMIT_ANSWER at that answer (log
entry 7). An accepted octet (R164, R166 to R168): a good answer with ACCEPT set to a frame that offered the octet on offer ends its offer with
a PAUSE; the count rises, shown in the order's progress, and after the LAST octet the message has been sent: its order is answered OK, and the
launch note of a registered cabin with no newer note in the list becomes SENT. A first refusal is counted, and an answer to any other frame
leaves the transmitter. The receiver (R169 to R171): the table of R170 for a new offer, and the answer of the offer before for its repeat, in
the cases stated; a slot discarded keeps its octets (log entry 75), a slot taken keeps those beyond the first (log entry 83), a slot taken
keeps those beyond the first (log entry 83), and a refused 65th octet has no repeat (log entry 67). A passage note (R16): the entry that it
names is PASSED and those ahead of it marked NONE are MISSED, in the roster and the records; a note of another length or for a number not in
the roster sets TRACK and changes no mark. -/
def Obligations.RefusedTransfersAndRinging : Prop :=
  (∀ (fr : Option SummitFrame) (n : FrameNote) (rest : List FrameNote) (s : State), Ready s → s.part.line.state = .up →
    s.part.line.notes = n :: rest → 3 ≤ elapsed s.part.clock.now n.start → answerGood fr s.part = true →
    let f := readFrame n.rate (fr.getD { offset := 0, octets := [] }).octets
    (∀ tr, s.part.messages.transmitter = .offering tr → s.part.messages.refusals = 1 →
      n.offered = some s.part.messages.offerSerial → f.accept = false → After (.transferRefused fr) s (fun t =>
      exec (.summitAnswer fr) s = .next t ∧ t.part.messages.transmitter = .idle ∧ t.part.messages.refusals = 0 ∧
      t.part.messages.notes = s.part.messages.notes ∧ t.part.messages.waiting = s.part.messages.waiting ∧
      (∀ j, tr.source = .order j → (∀ v : VoiceNo, (callSlot s.part v).order ≠ some j) →
        (∀ m : ChannelNo, (channel s.part m).owner ≠ .order j) →
        (slotOf t.part j).state = .done ∧ (slotOf t.part j).result = asOctet Result.failed.code ∧ (slotOf t.part j).detail = 1) ∧
      (∀ k, tr.source = .note k → (cabin s.part k).registered = true → k ∉ s.part.messages.notes → isCabin k = true →
        (cabin t.part k).note = .dropped))) ∧
    (∀ v : VoiceNo, (callSlot s.part v).state = .seizing → (if v = 0 then n.ownSeize0 else n.ownSeize1) = true →
      (callSlot s.part v).seizeAnswers = 1 →
      ((acceptWord f.word s.part.line).accepted.getLsbD (4 + 2 * v.val) = true → (callSlot s.part v).seizeTaken = true) →
      ((acceptWord f.word s.part.line).accepted.getLsbD (5 + 2 * v.val) = true → (callSlot s.part v).answerTaken = true) →
      ((false :: s.part.line.qualityWindow).take 500).countP (fun errored => errored) ≤ s.part.line.config.qualityThreshold →
      After (.ringingOut v fr) s (fun t =>
      exec (.summitAnswer fr) s = .next t ∧ (callSlot t.part v).state = .ringingOut ∧ (callSlot t.part v).ownSeize = true ∧
      (callSlot t.part v).noAnswer = (callSlot s.part v).noAnswer ∧ t.part.window.attention.getLsbD 10 = true ∧
      t.part.line.state = .up ∧
      (∀ j, (callSlot s.part v).order = some j → (∀ u : VoiceNo, u ≠ v → (callSlot s.part u).order ≠ some j) →
        (∀ m : ChannelNo, (channel s.part m).owner ≠ .order j) → (slotOf t.part j).progress = 3)))) ∧
  (∀ (fr : Option SummitFrame) (n : FrameNote) (rest : List FrameNote) (s : State), GoodInUp fr n rest s →
    let m := s.part.messages
    let onOffer := n.offered = some m.offerSerial
    let accept := (answerRead fr n).accept
    After (.summitAnswer fr) s (fun t =>
      let g := t.part.messages
      g.notes = m.notes ∧ g.waiting = m.waiting ∧
      (∀ tr, m.transmitter = .offering tr → onOffer → accept = true →
        let last := tr.accepted + 1 = tr.octets.length
        g.transmitter = .pause (if last then none else some { tr with accepted := tr.accepted + 1 }) ∧ g.refusals = 0 ∧
        (∀ j, tr.source = .order j → (∀ v : VoiceNo, (callSlot s.part v).order ≠ some j) →
          (∀ c : ChannelNo, (channel s.part c).owner ≠ .order j) →
          slotOf t.part j = { slotOf s.part j with
            progress := BitVec.ofNat 16 (tr.accepted + 1), state := if last then .done else (slotOf s.part j).state
            result := if last then 0 else (slotOf s.part j).result, detail := if last then 0 else (slotOf s.part j).detail }) ∧
        (∀ k, tr.source = .note k → isCabin k = true → (cabin t.part k).note =
          (if last ∧ (cabin s.part k).registered = true ∧ k ∉ m.notes then .sent else (cabin s.part k).note))) ∧
      (∀ tr, m.transmitter = .offering tr → onOffer → accept = false → m.refusals = 0 →
        g.transmitter = .offering tr ∧ g.refusals = 1 ∧ g.offerSerial = m.offerSerial) ∧
      (m.transmitter = .abandoning → onOffer →
        (accept = true → g.transmitter = .pause none) ∧ (accept = false → m.refusals = 0 → g.transmitter = .abandoning ∧ g.refusals = 1) ∧
        (accept = false → m.refusals ≠ 0 → g.transmitter = .idle)) ∧
      (¬ onOffer ∨ m.transmitter = .idle ∨ (∃ x, m.transmitter = .pause x) → g.transmitter = m.transmitter ∧ g.refusals = m.refusals))) ∧
  (∀ (fr : Option SummitFrame) (n : FrameNote) (rest : List FrameNote) (s : State), GoodInUp fr n rest s →
    let m := s.part.messages
    let f := answerRead fr n
    let marks : List MsgMark := [.middle, .first, .last, .abandon]
    let fresh := f.offer = true ∧ ∀ o ∈ m.lastOffer, ¬ (o.octet = f.octet ∧ marks.idxOf o.mark = f.mark)
    let first := f.mark = 1
    let last := f.mark = 2
    let appends := f.mark = 0 ∨ f.mark = 2
    let left : Fin 4 → ReceiveState := fun q => if m.receiver = .slot q then .empty else (m.slots.get q).state
    let size := match m.receiver with
      | .idle => 0
      | .slot q => (m.slots.get q).length
      | .note l => l.length
      | .discarding k => k
    After (.summitAnswer fr) s (fun t =>
      let g := t.part.messages
      let kept := g.receiver = m.receiver ∧ g.slots = m.slots
      let othersLeft := ∀ q : Fin 4, (g.slots.get q).state = left q
      (f.offer = false → g.acceptNext = false ∧ g.lastOffer = none ∧ kept) ∧
      (∀ o ∈ m.lastOffer, f.offer = true → o.octet = f.octet → marks.idxOf o.mark = f.mark →
        g.acceptNext = o.taken ∧ g.lastOffer = none ∧ kept) ∧
      (fresh → first ∨ (last ∧ m.receiver = .idle) → 1 ≤ f.octet.toNat → f.octet.toNat ≤ 0x7F →
        (∀ q : Fin 4, left q = .empty → (∀ j : Fin 4, j < q → left j ≠ .empty) →
          g.acceptNext = true ∧ g.receiver = (if first then .slot q else .idle) ∧
          (g.slots.get q).state = (if first then .assembling else .full) ∧ (g.slots.get q).type = f.octet ∧ (g.slots.get q).length = 1 ∧
          (g.slots.get q).octets.toList = (m.slots.get q).octets.toList.set 0 f.octet ∧
          (∀ j : Fin 4, j ≠ q → g.slots.get j = { m.slots.get j with state := left j }) ∧
          (last → t.part.window.attention.getLsbD 9 = true)) ∧
        ((∀ q : Fin 4, left q ≠ .empty) → g.acceptNext = false ∧ g.receiver = .idle ∧ othersLeft)) ∧
      (fresh → first → f.octet = 0x80 → g.acceptNext = true ∧ g.receiver = .note [0x80] ∧ othersLeft) ∧
      (fresh → first → f.octet = 0 ∨ 0x80 < f.octet.toNat → g.acceptNext = true ∧ g.receiver = .discarding 1 ∧ othersLeft) ∧
      (fresh → f.mark = 0 → m.receiver = .idle → g.acceptNext = true ∧ kept) ∧
      (∀ q : Fin 4, fresh → appends → m.receiver = .slot q → size < 64 →
        g.acceptNext = true ∧ g.receiver = (if last then .idle else .slot q) ∧ (g.slots.get q).type = (m.slots.get q).type ∧
        (g.slots.get q).state = (if last then .full else (m.slots.get q).state) ∧ (g.slots.get q).length = size + 1 ∧
        (g.slots.get q).octets.toList = (m.slots.get q).octets.toList.set size f.octet ∧
        (∀ j : Fin 4, j ≠ q → g.slots.get j = m.slots.get j) ∧ (last → t.part.window.attention.getLsbD 9 = true)) ∧
      (∀ l, fresh → appends → m.receiver = .note l → size < 64 →
        g.acceptNext = true ∧ g.slots = m.slots ∧ g.receiver = (if last then .idle else .note (l ++ [f.octet]))) ∧
      (∀ k, fresh → appends → m.receiver = .discarding k → size < 64 →
        g.acceptNext = true ∧ g.slots = m.slots ∧ g.receiver = (if last then .idle else .discarding (k + 1))) ∧
      (fresh → appends → m.receiver ≠ .idle → 64 ≤ size →
        g.acceptNext = false ∧ g.receiver = .idle ∧ g.lastOffer = none ∧ othersLeft) ∧
      (fresh → f.mark = 3 → g.acceptNext = true ∧ g.receiver = .idle ∧ othersLeft) ∧
      (fresh → ¬ (appends ∧ m.receiver ≠ .idle ∧ 64 ≤ size) →
        ∀ o ∈ g.lastOffer, o.octet = f.octet ∧ marks.idxOf o.mark = f.mark ∧ o.taken = g.acceptNext) ∧
      (∀ a, fresh → last → m.receiver = .note [a] → ∀ (before after : List RosterEntry) (e : RosterEntry),
        s.part.track.roster = before ++ e :: after → e.cabin = f.octet.toNat → (∀ x ∈ before, x.cabin ≠ f.octet.toNat) →
        t.part.track.roster = before.map (fun x => if x.mark = .none then { x with mark := .missed } else x) ++
          { e with mark := .passed } :: after ∧
        ((rosterNumbers s.part).Nodup → ∀ j : Fin 128, (t.part.cabins.get j).mark =
          if j.val + 1 = e.cabin then .passed
          else if before.any (fun x => x.cabin == j.val + 1 && x.mark == .none) then .missed else (s.part.cabins.get j).mark)) ∧
      (∀ l, fresh → last → m.receiver = .note l → size < 64 → l.length ≠ 1 ∨ f.octet.toNat ∉ rosterNumbers s.part →
        t.part.track.roster = s.part.track.roster ∧ (∀ j : Fin 128, (t.part.cabins.get j).mark = (s.part.cabins.get j).mark) ∧
        t.part.window.attention.getLsbD 4 = true)))

/-- SUMMIT_WAKE_BURST and ANSWER_BURST (R148, R149, R155, R157). A burst is recognised in 32 bits received that are bits of 0xAA or of 0xCC
repeated, from whichever bit of the octet they begin (log entry 80), and any other bits change nothing; the interface listens in DOWN, PROBING
and DORMANT alone. A wake burst within 1 ms of a probe's start is its echo; a burst later in the probe's own burst is noted, and one in the
listen starts training at the ceiling. Outside a probe a wake burst starts training from PROBING, DORMANT, and DOWN with auto-start on, and is
counted in DOWN with auto-start off, no answer burst being sent (log entry 81); an answer burst is ignored. "Within 1 ms" is read as a count
difference of at most 1 (log entry 32). The probe timers (R148, R149, R155, R157, R160). PROBE_INTERVAL begins a further probe 100 ms after the
start of the one before, its wake burst sixteen octets 0xAA. PROBE_LISTEN_END classifies the probe, ECHO or SILENT where no answer was heard:
it answers a LINE_PROBE with 1 or 2 and the diagnosis, and raises the count in PROBING below 10. PROBES_EXHAUSTED: the tenth unanswered probe
leaves the line DOWN with its diagnosis, a LINE_START failed with it, and the backoff of 5 s with auto-start on. The probes sent are counted
when they are classified (log entry 31). PROBES_EXHAUSTED is the whole of PROBE_LISTEN_END at that listen (log entry 7). -/
def Obligations.BurstsAndProbes : Prop :=
  (∀ (bits : BitVec 32) (p : Part),
     (bits ∈ [0xAAAAAAAA, 0x55555555] → hearBits bits p = wakeBurstHeard p) ∧
     (bits ∈ [0xCCCCCCCC, 0x99999999, 0x33333333, 0x66666666] → hearBits bits p = answerBurstHeard p) ∧
     (bits ∉ [0xAAAAAAAA, 0x55555555, 0xCCCCCCCC, 0x99999999, 0x33333333, 0x66666666] → hearBits bits p = p)) ∧
  (∀ s : State, Ready s →
     let listens := s.part.line.state ∈ [.down, .probing, .dormant]
     (¬ listens → exec .summitWakeBurst s = .next s ∧ exec .answerBurst s = .next s) ∧
     (∀ pr, listens → s.part.line.probe = some pr →
       (elapsed s.part.clock.now pr.start ≤ 1 → After .summitWakeBurst s (fun t =>
         Frame [.line] s t ∧ t.part.line = { s.part.line with probe := some { pr with echoHeard := true } }) ∧
         After .answerBurst s (fun t =>
           Frame [.line] s t ∧ t.part.line = { s.part.line with probe := some { pr with answerHeard := true } })) ∧
       (2 ≤ elapsed s.part.clock.now pr.start → ∀ c ∈ [Instr.summitWakeBurst, Instr.answerBurst], After c s (fun t =>
           t.part.line.state = .training ∧ t.part.line.rate = s.part.line.config.rateCeiling ∧ t.part.line.attemptPending = true ∧
           t.part.line.attemptsUsed = 0 ∧ t.part.line.lastProbe = .answered ∧ t.part.line.probe = none ∧
           t.part.line.probesSent = count16 s.part.line.probesSent ∧
           (∀ j, pr.forOrder = true → s.part.line.probeOrder = some j →
             (slotOf t.part j).state = .done ∧ (slotOf t.part j).result = 0 ∧ (slotOf t.part j).detail = 0)))) ∧
     (s.part.line.probe = none →
       exec .answerBurst s = .next s ∧
       (s.part.line.state = .probing ∨ s.part.line.state = .dormant ∨
           (s.part.line.state = .down ∧ s.part.line.config.autoStart = true) → After .summitWakeBurst s (fun t =>
         t.part.line.state = .training ∧ t.part.line.rate = s.part.line.config.rateCeiling ∧ t.part.line.attemptPending = true ∧
         t.part.line.backoff = none ∧ t.part.line.sleepDue = none ∧ t.part.window.attention.getLsbD 7 = true)) ∧
       (s.part.line.state = .down → s.part.line.config.autoStart = false → After .summitWakeBurst s (fun t =>
         Frame [.window, .line] s t ∧ t.part.window.attention.getLsbD 7 = true ∧
         t.part.line = { s.part.line with wakesHeard := count16 s.part.line.wakesHeard })))) ∧
  (∀ s : State, Ready s →
     (probeDue s.part = true → After .probeInterval s (fun t => Frame [.line] s t ∧ t.part.line = { s.part.line with
       probe := some { start := s.part.clock.now, forOrder := false }, probeStart := s.part.clock.now
       sentBurst := List.replicate 16 0xAA })) ∧
     (∀ pr, s.part.line.probe = some pr → reached s.part.clock.now (pr.start + ms 22) = true →
       (pr.answerHeard = true → s.part.line.state ∈ [.down, .probing, .dormant] → After .probeListenEnd s (fun t =>
         t.part.line.state = .training ∧ t.part.line.rate = s.part.line.config.rateCeiling ∧ t.part.line.lastProbe = .answered)) ∧
       (pr.answerHeard = false → pr.forOrder = true → After .probeListenEnd s (fun t =>
         Frame [.window, .line] s t ∧ t.part.line.state = s.part.line.state ∧ t.part.line.probe = none ∧ t.part.line.probeOrder = none ∧
         t.part.line.lastProbe = (if pr.echoHeard then .echo else .silent) ∧
         t.part.line.diagnosis = (if pr.echoHeard then .summitUnpowered else .lineOpen) ∧
         (s.part.line.state = .down → t.part.line.backoff =
           (if s.part.line.config.autoStart then some (s.part.clock.now + ms 5000) else none)) ∧
         (∀ j, s.part.line.probeOrder = some j → (slotOf t.part j).state = .done ∧ (slotOf t.part j).result = 0 ∧
           (slotOf t.part j).detail = (if pr.echoHeard then 1 else 2)))) ∧
       (pr.answerHeard = false → pr.forOrder = false → s.part.line.state = .probing → s.part.line.probeCount < 9 →
         After .probeListenEnd s (fun t => Frame [.line] s t ∧ t.part.line.state = .probing ∧ t.part.line.probe = none ∧
           t.part.line.probeCount = s.part.line.probeCount + 1 ∧ t.part.line.probesSent = count16 s.part.line.probesSent)) ∧
       (pr.answerHeard = false → pr.forOrder = false → s.part.line.state = .dormant → After .probeListenEnd s (fun t =>
         Frame [.window, .line] s t ∧ t.part.line.state = .dormant ∧ t.part.line.sleepDue = s.part.line.sleepDue ∧
         t.part.line.diagnosis = (if pr.echoHeard then .summitUnpowered else .lineOpen))) ∧
       (pr.answerHeard = false → pr.forOrder = false → s.part.line.state = .probing → 9 ≤ s.part.line.probeCount →
         After .probesExhausted s (fun t =>
           exec .probeListenEnd s = .next t ∧ t.part.line.state = .down ∧ t.part.line.startOrder = none ∧
           t.part.line.diagnosis = (if pr.echoHeard then .summitUnpowered else .lineOpen) ∧
           t.part.line.backoff = (if s.part.line.config.autoStart then some (s.part.clock.now + ms 5000) else none) ∧
           (∀ j, s.part.line.startOrder = some j → (slotOf t.part j).state = .done ∧
             (slotOf t.part j).result = asOctet Result.failed.code ∧ (slotOf t.part j).detail = (if pr.echoHeard then 1 else 2))))))

/-- TRAINING_ATTEMPT_FAILED (R151): a new attempt at the rate while attempts are left, the next rate down with attempts used 0, or DOWN with
TRAINING_FAILED at rate 1, where a LINE_START fails with detail 3 and the backoff runs. BACKOFF_EXPIRY (R155): the line enters PROBING with a
probe and its wake burst (R148). SLEEP_INTERVAL_EXPIRY (R157, R160): a probe is sent with its wake burst, or skipped while the order's probe
runs, and the next interval is drawn. That the run of correct echoes is 0 from the event on, not from the frame tick that begins the attempt,
is the model's reading (log entry 30). -/
def Obligations.AttemptsBackoffAndSleep : Prop :=
  ∀ s : State, Ready s →
    (s.part.line.state = .training → ended s.part.clock.now s.part.line.attemptEnds = true →
      (s.part.line.attemptsUsed + 1 < s.part.line.config.attempts → After .trainingAttemptFailed s (fun t =>
        Frame [.line] s t ∧ t.part.line.state = .training ∧ t.part.line.rate = s.part.line.rate ∧
        t.part.line.attemptsUsed = s.part.line.attemptsUsed + 1 ∧ t.part.line.attemptPending = true ∧ t.part.line.echoRun = 0)) ∧
      (s.part.line.config.attempts ≤ s.part.line.attemptsUsed + 1 → 1 < s.part.line.rate → After .trainingAttemptFailed s (fun t =>
        t.part.line.state = .training ∧ t.part.line.rate = s.part.line.rate - 1 ∧ t.part.line.attemptsUsed = 0 ∧
        t.part.line.attemptPending = true ∧ t.part.window.attention.getLsbD 7 = true ∧ t.part.calls = s.part.calls ∧
        t.part.messages = s.part.messages)) ∧
      (s.part.line.config.attempts ≤ s.part.line.attemptsUsed + 1 → s.part.line.rate ≤ 1 → After .trainingAttemptFailed s (fun t =>
        t.part.line.state = .down ∧ t.part.line.diagnosis = .trainingFailed ∧ t.part.line.startOrder = none ∧ t.part.line.notes = [] ∧
        t.part.line.backoff = (if s.part.line.config.autoStart then some (s.part.clock.now + ms 5000) else none) ∧
        (∀ j, s.part.line.startOrder = some j → (slotOf t.part j).state = .done ∧
          (slotOf t.part j).result = asOctet Result.failed.code ∧ (slotOf t.part j).detail = 3)))) ∧
    (s.part.line.state = .down → ended s.part.clock.now s.part.line.backoff = true → After .backoffExpiry s (fun t =>
      Frame [.window, .line, .sup, .rope] s t ∧ t.part.line.state = .probing ∧ t.part.line.backoff = none ∧ t.part.line.probeCount = 0 ∧
      t.part.line.probe = some { start := s.part.clock.now, forOrder := false } ∧ t.part.line.sentBurst = List.replicate 16 0xAA)) ∧
    (s.part.line.state = .dormant → ended s.part.clock.now s.part.line.sleepDue = true → s.part.line.config.sleepSeconds ∈ [1, 2, 4, 8] →
      After .sleepIntervalExpiry s (fun t =>
        Frame [.line] s t ∧ t.part.line.state = .dormant ∧ t.part.line.draws = s.part.line.draws + 1 ∧
        (s.part.line.probe = none → t.part.line.probe = some { start := s.part.clock.now, forOrder := false } ∧
          t.part.line.sentBurst = List.replicate 16 0xAA) ∧
        (∀ pr, s.part.line.probe = some pr → t.part.line.probe = some pr ∧ t.part.line.sentBurst = s.part.line.sentBurst) ∧
        (∃ d : Nat, t.part.line.sleepDue = some (s.part.clock.now + ms d) ∧ 7 * (1000 * s.part.line.config.sleepSeconds) ≤ 8 * d ∧
          8 * d ≤ 9 * (1000 * s.part.line.config.sleepSeconds))))

/-- The call timers (R175, R177, R181, R183): the no-answer timer leaves the slot IDLE with reason NO_ANSWER and its CALL_PLACE failed with
detail 1; the guard timer leaves a clearing slot IDLE; and the ringer turns off for 2 s after 1 s and on again, while the slot rings.
SUMMIT_ANSWER at the Call Unit (R176, R178 to R181): the summit's bits are taken from the second good answer of UP on, SEIZE before ANSWER (log
entry 19). A SEIZE that comes to stand in SEIZING or RINGING_OUT is glare: the valley of the greater or equal priority keeps state, seize and
timer, and the other's call becomes the summit's, its CALL_PLACE failed with detail 4. In IDLE it is an incoming call, RINGING_IN or, with the
handset OFF_HOOK, CONNECTED at once, where no alert call request of the same answer comes first (log entry 77); its dropping in RINGING_IN ends
it with FAR_CLEAR. An ANSWER that comes to stand in SEIZING or RINGING_OUT connects the call, its CALL_PLACE answered OK, and the ringer of an
ORDER or ALERT call rings unless the handset is OFF_HOOK. In CONNECTED the drop of the summit's ANSWER for a caller, or of its SEIZE for an
answerer, clears with FAR_CLEAR, and in a clearing of the valley's it ends it. That a slot shows originator NONE and role NONE when it enters
IDLE is the model's reading (log entry 18). -/
def Obligations.CallTimers : Prop :=
  (∀ (v : VoiceNo) (s : State), Ready s →
    ((callSlot s.part v).state = .seizing ∨ (callSlot s.part v).state = .ringingOut →
      ended s.part.clock.now (callSlot s.part v).noAnswer = true → After (.noAnswerTimeout v) s (fun t =>
        Frame [.window, .calls] s t ∧ (callSlot t.part v).state = .idle ∧ (callSlot t.part v).reason = .noAnswer ∧
        (callSlot t.part v).ownSeize = false ∧ (callSlot t.part v).noAnswer = none ∧ (callSlot t.part v).order = none ∧
        (∀ j, (callSlot s.part v).order = some j → (slotOf t.part j).state = .done ∧
          (slotOf t.part j).result = asOctet Result.failed.code ∧ (slotOf t.part j).detail = 1))) ∧
    ((callSlot s.part v).state = .clearing → ended s.part.clock.now (callSlot s.part v).guardEnds = true →
      After (.guardExpiry v) s (fun t =>
        Frame [.window, .calls] s t ∧ (callSlot t.part v).state = .idle ∧ (callSlot t.part v).guardEnds = none ∧
        (callSlot t.part v).reason = (callSlot s.part v).reason ∧ t.part.window.attention.getLsbD 10 = true)) ∧
    ((callSlot s.part v).ringing = true → reached s.part.clock.now (callSlot s.part v).ringNext = true →
      After (.ringerCadence v) s (fun t =>
        Frame [.calls] s t ∧ callSlot t.part v = { callSlot s.part v with
          ringer := !(callSlot s.part v).ringer
          ringNext := (callSlot s.part v).ringNext + ms (if (callSlot s.part v).ringer then 2000 else 1000) }))) ∧
  (∀ (v : VoiceNo) (fr : Option SummitFrame) (n : FrameNote) (rest : List FrameNote) (s : State), GoodInUp fr n rest s →
    let c := callSlot s.part v
    let accepted := acceptedAt s.part.line (answerRead fr n).word
    let seize := decide (1 ≤ c.goodSinceUp) && accepted (4 + 2 * v.val)
    let answer := decide (1 ≤ c.goodSinceUp) && accepted (5 + 2 * v.val)
    let seizeStands := seize = true ∧ c.seizeTaken = false
    let seizeDrops := seize = false ∧ c.seizeTaken = true
    let answerStands := answer = true ∧ c.answerTaken = false
    let answerDrops := answer = false ∧ c.answerTaken = true
    let valleyWins := s.part.line.summitPriority ≤ s.part.line.valleyPriority
    let otherQuiet := ∀ u : VoiceNo, u ≠ v → (callSlot s.part u).state = .unavailable
    let offHook := c.hook = some true
    After (.summitAnswer fr) s (fun t =>
      let d := callSlot t.part v
      let comesIn := d.originator = .far ∧ d.role = .answerer ∧ d.order = none ∧ d.noAnswer = none ∧ d.duration = 0 ∧
        d.state = (if offHook then .connected else .ringingIn) ∧ d.ringing = decide (¬ offHook) ∧ d.ringer = decide (¬ offHook) ∧
        t.part.window.attention.getLsbD 10 = true
      let endsIdle := d.state = .idle ∧ d.originator = .none ∧ d.role = .none ∧ d.noAnswer = none ∧ d.guardEnds = none ∧
        d.ringing = false ∧ d.ringer = false ∧ t.part.window.attention.getLsbD 10 = true
      d.seizeTaken = seize ∧ d.answerTaken = answer ∧ d.goodSinceUp = min 2 (c.goodSinceUp + 1) ∧ d.hook = c.hook ∧
      (seizeStands → valleyWins → ¬ answerStands → c.state ∈ [.seizing, .ringingOut] →
        d.state = c.state ∧ d.originator = c.originator ∧ d.role = c.role ∧ d.noAnswer = c.noAnswer ∧ d.order = c.order ∧
        (otherQuiet → t.part.calls.glareWon = count16 s.part.calls.glareWon ∧ t.part.calls.glareLost = s.part.calls.glareLost)) ∧
      (seizeStands → ¬ valleyWins → c.state ∈ [.seizing, .ringingOut] → comesIn ∧
        (otherQuiet → t.part.calls.glareLost = count16 s.part.calls.glareLost ∧ t.part.calls.glareWon = s.part.calls.glareWon) ∧
        (∀ j, c.order = some j → HeldByCallAlone v j s → (slotOf t.part j).state = .done ∧
          (slotOf t.part j).result = asOctet Result.failed.code ∧ (slotOf t.part j).detail = 4)) ∧
      (seizeStands → c.state = .idle → v = 1 ∨ accepted 2 = false ∨ s.part.sup.stopFastStands = true → comesIn) ∧
      (seizeDrops → c.state = .ringingIn → endsIdle ∧ d.reason = .farClear) ∧
      (answerStands → ¬ seizeStands → c.state ∈ [.seizing, .ringingOut] →
        d.state = .connected ∧ d.role = c.role ∧ d.originator = c.originator ∧ d.noAnswer = none ∧ d.order = none ∧
        d.nextSecond = s.part.clock.now + ms 1000 ∧ (c.role = .caller → d.ownSeize = true) ∧ d.tone = .voice ∧
        (c.role = .caller → d.ringing = decide (c.originator ∈ [.order, .alert] ∧ ¬ offHook) ∧ d.ringer = d.ringing) ∧
        (otherQuiet → t.part.calls.connects = count16 s.part.calls.connects) ∧
        (∀ j, c.order = some j → HeldByCallAlone v j s →
          (slotOf t.part j).state = .done ∧ (slotOf t.part j).result = 0 ∧ (slotOf t.part j).detail = 0)) ∧
      (c.state = .connected → (c.role = .caller ∧ answerDrops) ∨ (c.role = .answerer ∧ seizeDrops) →
        d.reason = .farClear ∧ d.ownSeize = false ∧ d.ownAnswer = false ∧
        (offHook → d.state = .clearing ∧ d.clearedBySummit = true ∧ d.tone = .clear ∧ d.ringer = false) ∧ (¬ offHook → endsIdle)) ∧
      (c.state = .connected → ¬ ((c.role = .caller ∧ answerDrops) ∨ (c.role = .answerer ∧ seizeDrops)) →
        d.state = .connected ∧ d.role = c.role ∧ d.originator = c.originator ∧ d.reason = c.reason) ∧
      (c.state = .clearing → c.clearedBySummit = false → (c.role = .caller ∧ answerDrops) ∨ (c.role = .answerer ∧ seizeDrops) →
        endsIdle ∧ d.reason = c.reason) ∧
      (c.state = .clearing → c.clearedBySummit = true ∨ ¬ ((c.role = .caller ∧ answerDrops) ∨ (c.role = .answerer ∧ seizeDrops)) →
        d.state = .clearing ∧ d.guardEnds = c.guardEnds ∧ d.reason = c.reason)))
end

