-- ==== Sys2Proof/Laws/State.lean ====
section
/-! SUPPORT. One lemma for each field of the part under each named update: what the update leaves, and what it makes of the field it
changes. -/

namespace Sys2Proof.Machine


/-! ### `attend` -/

@[simp] theorem attend_window (a : Attn) (p : Part) : (attend a p).window = { p.window with attention := p.window.attention ||| a.bit } := rfl
@[simp] theorem attend_clock (a : Attn) (p : Part) : (attend a p).clock = p.clock := rfl
@[simp] theorem attend_track (a : Attn) (p : Part) : (attend a p).track = p.track := rfl
@[simp] theorem attend_cabins (a : Attn) (p : Part) : (attend a p).cabins = p.cabins := rfl
@[simp] theorem attend_rope (a : Attn) (p : Part) : (attend a p).rope = p.rope := rfl
@[simp] theorem attend_sensors (a : Attn) (p : Part) : (attend a p).sensors = p.sensors := rfl
@[simp] theorem attend_grip (a : Attn) (p : Part) : (attend a p).grip = p.grip := rfl
@[simp] theorem attend_launch (a : Attn) (p : Part) : (attend a p).launch = p.launch := rfl
@[simp] theorem attend_doors (a : Attn) (p : Part) : (attend a p).doors = p.doors := rfl
@[simp] theorem attend_sequencer (a : Attn) (p : Part) : (attend a p).sequencer = p.sequencer := rfl
@[simp] theorem attend_sup (a : Attn) (p : Part) : (attend a p).sup = p.sup := rfl
@[simp] theorem attend_line (a : Attn) (p : Part) : (attend a p).line = p.line := rfl
@[simp] theorem attend_messages (a : Attn) (p : Part) : (attend a p).messages = p.messages := rfl
@[simp] theorem attend_calls (a : Attn) (p : Part) : (attend a p).calls = p.calls := rfl
@[simp] theorem attend_work (a : Attn) (p : Part) : (attend a p).work = p.work := rfl

/-! ### `modSlot` -/

@[simp] theorem modSlot_window (i : SlotNo) (f : Slot → Slot) (p : Part) : (modSlot i f p).window = { p.window with slots := modTable p.window.slots i f } := rfl
@[simp] theorem modSlot_clock (i : SlotNo) (f : Slot → Slot) (p : Part) : (modSlot i f p).clock = p.clock := rfl
@[simp] theorem modSlot_track (i : SlotNo) (f : Slot → Slot) (p : Part) : (modSlot i f p).track = p.track := rfl
@[simp] theorem modSlot_cabins (i : SlotNo) (f : Slot → Slot) (p : Part) : (modSlot i f p).cabins = p.cabins := rfl
@[simp] theorem modSlot_rope (i : SlotNo) (f : Slot → Slot) (p : Part) : (modSlot i f p).rope = p.rope := rfl
@[simp] theorem modSlot_sensors (i : SlotNo) (f : Slot → Slot) (p : Part) : (modSlot i f p).sensors = p.sensors := rfl
@[simp] theorem modSlot_grip (i : SlotNo) (f : Slot → Slot) (p : Part) : (modSlot i f p).grip = p.grip := rfl
@[simp] theorem modSlot_launch (i : SlotNo) (f : Slot → Slot) (p : Part) : (modSlot i f p).launch = p.launch := rfl
@[simp] theorem modSlot_doors (i : SlotNo) (f : Slot → Slot) (p : Part) : (modSlot i f p).doors = p.doors := rfl
@[simp] theorem modSlot_sequencer (i : SlotNo) (f : Slot → Slot) (p : Part) : (modSlot i f p).sequencer = p.sequencer := rfl
@[simp] theorem modSlot_sup (i : SlotNo) (f : Slot → Slot) (p : Part) : (modSlot i f p).sup = p.sup := rfl
@[simp] theorem modSlot_line (i : SlotNo) (f : Slot → Slot) (p : Part) : (modSlot i f p).line = p.line := rfl
@[simp] theorem modSlot_messages (i : SlotNo) (f : Slot → Slot) (p : Part) : (modSlot i f p).messages = p.messages := rfl
@[simp] theorem modSlot_calls (i : SlotNo) (f : Slot → Slot) (p : Part) : (modSlot i f p).calls = p.calls := rfl
@[simp] theorem modSlot_work (i : SlotNo) (f : Slot → Slot) (p : Part) : (modSlot i f p).work = p.work := rfl

/-! ### `answer` -/

@[simp] theorem answer_clock (i : SlotNo) (r : Result) (d : Nat) (p : Part) : (answer i r d p).clock = p.clock := rfl
@[simp] theorem answer_track (i : SlotNo) (r : Result) (d : Nat) (p : Part) : (answer i r d p).track = p.track := rfl
@[simp] theorem answer_cabins (i : SlotNo) (r : Result) (d : Nat) (p : Part) : (answer i r d p).cabins = p.cabins := rfl
@[simp] theorem answer_rope (i : SlotNo) (r : Result) (d : Nat) (p : Part) : (answer i r d p).rope = p.rope := rfl
@[simp] theorem answer_sensors (i : SlotNo) (r : Result) (d : Nat) (p : Part) : (answer i r d p).sensors = p.sensors := rfl
@[simp] theorem answer_grip (i : SlotNo) (r : Result) (d : Nat) (p : Part) : (answer i r d p).grip = p.grip := rfl
@[simp] theorem answer_launch (i : SlotNo) (r : Result) (d : Nat) (p : Part) : (answer i r d p).launch = p.launch := rfl
@[simp] theorem answer_doors (i : SlotNo) (r : Result) (d : Nat) (p : Part) : (answer i r d p).doors = p.doors := rfl
@[simp] theorem answer_sequencer (i : SlotNo) (r : Result) (d : Nat) (p : Part) : (answer i r d p).sequencer = p.sequencer := rfl
@[simp] theorem answer_sup (i : SlotNo) (r : Result) (d : Nat) (p : Part) : (answer i r d p).sup = p.sup := rfl
@[simp] theorem answer_line (i : SlotNo) (r : Result) (d : Nat) (p : Part) : (answer i r d p).line = p.line := rfl
@[simp] theorem answer_messages (i : SlotNo) (r : Result) (d : Nat) (p : Part) : (answer i r d p).messages = p.messages := rfl
@[simp] theorem answer_calls (i : SlotNo) (r : Result) (d : Nat) (p : Part) : (answer i r d p).calls = p.calls := rfl
@[simp] theorem answer_work (i : SlotNo) (r : Result) (d : Nat) (p : Part) : (answer i r d p).work = p.work := rfl

/-! ### `setProgress` -/

@[simp] theorem setProgress_clock (i : SlotNo) (n : Nat) (p : Part) : (setProgress i n p).clock = p.clock := rfl
@[simp] theorem setProgress_track (i : SlotNo) (n : Nat) (p : Part) : (setProgress i n p).track = p.track := rfl
@[simp] theorem setProgress_cabins (i : SlotNo) (n : Nat) (p : Part) : (setProgress i n p).cabins = p.cabins := rfl
@[simp] theorem setProgress_rope (i : SlotNo) (n : Nat) (p : Part) : (setProgress i n p).rope = p.rope := rfl
@[simp] theorem setProgress_sensors (i : SlotNo) (n : Nat) (p : Part) : (setProgress i n p).sensors = p.sensors := rfl
@[simp] theorem setProgress_grip (i : SlotNo) (n : Nat) (p : Part) : (setProgress i n p).grip = p.grip := rfl
@[simp] theorem setProgress_launch (i : SlotNo) (n : Nat) (p : Part) : (setProgress i n p).launch = p.launch := rfl
@[simp] theorem setProgress_doors (i : SlotNo) (n : Nat) (p : Part) : (setProgress i n p).doors = p.doors := rfl
@[simp] theorem setProgress_sequencer (i : SlotNo) (n : Nat) (p : Part) : (setProgress i n p).sequencer = p.sequencer := rfl
@[simp] theorem setProgress_sup (i : SlotNo) (n : Nat) (p : Part) : (setProgress i n p).sup = p.sup := rfl
@[simp] theorem setProgress_line (i : SlotNo) (n : Nat) (p : Part) : (setProgress i n p).line = p.line := rfl
@[simp] theorem setProgress_messages (i : SlotNo) (n : Nat) (p : Part) : (setProgress i n p).messages = p.messages := rfl
@[simp] theorem setProgress_calls (i : SlotNo) (n : Nat) (p : Part) : (setProgress i n p).calls = p.calls := rfl
@[simp] theorem setProgress_work (i : SlotNo) (n : Nat) (p : Part) : (setProgress i n p).work = p.work := rfl

/-! ### `takeHead` -/

@[simp] theorem takeHead_clock (i : SlotNo) (p : Part) : (takeHead i p).clock = p.clock := rfl
@[simp] theorem takeHead_track (i : SlotNo) (p : Part) : (takeHead i p).track = p.track := rfl
@[simp] theorem takeHead_cabins (i : SlotNo) (p : Part) : (takeHead i p).cabins = p.cabins := rfl
@[simp] theorem takeHead_rope (i : SlotNo) (p : Part) : (takeHead i p).rope = p.rope := rfl
@[simp] theorem takeHead_sensors (i : SlotNo) (p : Part) : (takeHead i p).sensors = p.sensors := rfl
@[simp] theorem takeHead_grip (i : SlotNo) (p : Part) : (takeHead i p).grip = p.grip := rfl
@[simp] theorem takeHead_launch (i : SlotNo) (p : Part) : (takeHead i p).launch = p.launch := rfl
@[simp] theorem takeHead_doors (i : SlotNo) (p : Part) : (takeHead i p).doors = p.doors := rfl
@[simp] theorem takeHead_sequencer (i : SlotNo) (p : Part) : (takeHead i p).sequencer = p.sequencer := rfl
@[simp] theorem takeHead_sup (i : SlotNo) (p : Part) : (takeHead i p).sup = p.sup := rfl
@[simp] theorem takeHead_line (i : SlotNo) (p : Part) : (takeHead i p).line = p.line := rfl
@[simp] theorem takeHead_messages (i : SlotNo) (p : Part) : (takeHead i p).messages = p.messages := rfl
@[simp] theorem takeHead_calls (i : SlotNo) (p : Part) : (takeHead i p).calls = p.calls := rfl
@[simp] theorem takeHead_work (i : SlotNo) (p : Part) : (takeHead i p).work = p.work := rfl

/-! ### `setSlotState` -/

@[simp] theorem setSlotState_clock (i : SlotNo) (st : SlotState) (p : Part) : (setSlotState i st p).clock = p.clock := rfl
@[simp] theorem setSlotState_track (i : SlotNo) (st : SlotState) (p : Part) : (setSlotState i st p).track = p.track := rfl
@[simp] theorem setSlotState_cabins (i : SlotNo) (st : SlotState) (p : Part) : (setSlotState i st p).cabins = p.cabins := rfl
@[simp] theorem setSlotState_rope (i : SlotNo) (st : SlotState) (p : Part) : (setSlotState i st p).rope = p.rope := rfl
@[simp] theorem setSlotState_sensors (i : SlotNo) (st : SlotState) (p : Part) : (setSlotState i st p).sensors = p.sensors := rfl
@[simp] theorem setSlotState_grip (i : SlotNo) (st : SlotState) (p : Part) : (setSlotState i st p).grip = p.grip := rfl
@[simp] theorem setSlotState_launch (i : SlotNo) (st : SlotState) (p : Part) : (setSlotState i st p).launch = p.launch := rfl
@[simp] theorem setSlotState_doors (i : SlotNo) (st : SlotState) (p : Part) : (setSlotState i st p).doors = p.doors := rfl
@[simp] theorem setSlotState_sequencer (i : SlotNo) (st : SlotState) (p : Part) : (setSlotState i st p).sequencer = p.sequencer := rfl
@[simp] theorem setSlotState_sup (i : SlotNo) (st : SlotState) (p : Part) : (setSlotState i st p).sup = p.sup := rfl
@[simp] theorem setSlotState_line (i : SlotNo) (st : SlotState) (p : Part) : (setSlotState i st p).line = p.line := rfl
@[simp] theorem setSlotState_messages (i : SlotNo) (st : SlotState) (p : Part) : (setSlotState i st p).messages = p.messages := rfl
@[simp] theorem setSlotState_calls (i : SlotNo) (st : SlotState) (p : Part) : (setSlotState i st p).calls = p.calls := rfl
@[simp] theorem setSlotState_work (i : SlotNo) (st : SlotState) (p : Part) : (setSlotState i st p).work = p.work := rfl

/-! ### `leaveIntake` -/

@[simp] theorem leaveIntake_window (i : SlotNo) (p : Part) : (leaveIntake i p).window = { p.window with intake := p.window.intake.filter (fun j => j != i) } := rfl
@[simp] theorem leaveIntake_clock (i : SlotNo) (p : Part) : (leaveIntake i p).clock = p.clock := rfl
@[simp] theorem leaveIntake_track (i : SlotNo) (p : Part) : (leaveIntake i p).track = p.track := rfl
@[simp] theorem leaveIntake_cabins (i : SlotNo) (p : Part) : (leaveIntake i p).cabins = p.cabins := rfl
@[simp] theorem leaveIntake_rope (i : SlotNo) (p : Part) : (leaveIntake i p).rope = p.rope := rfl
@[simp] theorem leaveIntake_sensors (i : SlotNo) (p : Part) : (leaveIntake i p).sensors = p.sensors := rfl
@[simp] theorem leaveIntake_grip (i : SlotNo) (p : Part) : (leaveIntake i p).grip = p.grip := rfl
@[simp] theorem leaveIntake_launch (i : SlotNo) (p : Part) : (leaveIntake i p).launch = p.launch := rfl
@[simp] theorem leaveIntake_doors (i : SlotNo) (p : Part) : (leaveIntake i p).doors = p.doors := rfl
@[simp] theorem leaveIntake_sequencer (i : SlotNo) (p : Part) : (leaveIntake i p).sequencer = p.sequencer := rfl
@[simp] theorem leaveIntake_sup (i : SlotNo) (p : Part) : (leaveIntake i p).sup = p.sup := rfl
@[simp] theorem leaveIntake_line (i : SlotNo) (p : Part) : (leaveIntake i p).line = p.line := rfl
@[simp] theorem leaveIntake_messages (i : SlotNo) (p : Part) : (leaveIntake i p).messages = p.messages := rfl
@[simp] theorem leaveIntake_calls (i : SlotNo) (p : Part) : (leaveIntake i p).calls = p.calls := rfl
@[simp] theorem leaveIntake_work (i : SlotNo) (p : Part) : (leaveIntake i p).work = p.work := rfl

/-! ### `joinIntake` -/

@[simp] theorem joinIntake_window (i : SlotNo) (p : Part) : (joinIntake i p).window = { p.window with intake := p.window.intake ++ [i] } := rfl
@[simp] theorem joinIntake_clock (i : SlotNo) (p : Part) : (joinIntake i p).clock = p.clock := rfl
@[simp] theorem joinIntake_track (i : SlotNo) (p : Part) : (joinIntake i p).track = p.track := rfl
@[simp] theorem joinIntake_cabins (i : SlotNo) (p : Part) : (joinIntake i p).cabins = p.cabins := rfl
@[simp] theorem joinIntake_rope (i : SlotNo) (p : Part) : (joinIntake i p).rope = p.rope := rfl
@[simp] theorem joinIntake_sensors (i : SlotNo) (p : Part) : (joinIntake i p).sensors = p.sensors := rfl
@[simp] theorem joinIntake_grip (i : SlotNo) (p : Part) : (joinIntake i p).grip = p.grip := rfl
@[simp] theorem joinIntake_launch (i : SlotNo) (p : Part) : (joinIntake i p).launch = p.launch := rfl
@[simp] theorem joinIntake_doors (i : SlotNo) (p : Part) : (joinIntake i p).doors = p.doors := rfl
@[simp] theorem joinIntake_sequencer (i : SlotNo) (p : Part) : (joinIntake i p).sequencer = p.sequencer := rfl
@[simp] theorem joinIntake_sup (i : SlotNo) (p : Part) : (joinIntake i p).sup = p.sup := rfl
@[simp] theorem joinIntake_line (i : SlotNo) (p : Part) : (joinIntake i p).line = p.line := rfl
@[simp] theorem joinIntake_messages (i : SlotNo) (p : Part) : (joinIntake i p).messages = p.messages := rfl
@[simp] theorem joinIntake_calls (i : SlotNo) (p : Part) : (joinIntake i p).calls = p.calls := rfl
@[simp] theorem joinIntake_work (i : SlotNo) (p : Part) : (joinIntake i p).work = p.work := rfl

/-! ### `clearAttention` -/

@[simp] theorem clearAttention_window (b : Half) (p : Part) : (clearAttention b p).window = { p.window with attention := p.window.attention &&& ~~~b } := rfl
@[simp] theorem clearAttention_clock (b : Half) (p : Part) : (clearAttention b p).clock = p.clock := rfl
@[simp] theorem clearAttention_track (b : Half) (p : Part) : (clearAttention b p).track = p.track := rfl
@[simp] theorem clearAttention_cabins (b : Half) (p : Part) : (clearAttention b p).cabins = p.cabins := rfl
@[simp] theorem clearAttention_rope (b : Half) (p : Part) : (clearAttention b p).rope = p.rope := rfl
@[simp] theorem clearAttention_sensors (b : Half) (p : Part) : (clearAttention b p).sensors = p.sensors := rfl
@[simp] theorem clearAttention_grip (b : Half) (p : Part) : (clearAttention b p).grip = p.grip := rfl
@[simp] theorem clearAttention_launch (b : Half) (p : Part) : (clearAttention b p).launch = p.launch := rfl
@[simp] theorem clearAttention_doors (b : Half) (p : Part) : (clearAttention b p).doors = p.doors := rfl
@[simp] theorem clearAttention_sequencer (b : Half) (p : Part) : (clearAttention b p).sequencer = p.sequencer := rfl
@[simp] theorem clearAttention_sup (b : Half) (p : Part) : (clearAttention b p).sup = p.sup := rfl
@[simp] theorem clearAttention_line (b : Half) (p : Part) : (clearAttention b p).line = p.line := rfl
@[simp] theorem clearAttention_messages (b : Half) (p : Part) : (clearAttention b p).messages = p.messages := rfl
@[simp] theorem clearAttention_calls (b : Half) (p : Part) : (clearAttention b p).calls = p.calls := rfl
@[simp] theorem clearAttention_work (b : Half) (p : Part) : (clearAttention b p).work = p.work := rfl

/-! ### `setMask` -/

@[simp] theorem setMask_window (b : Half) (p : Part) : (setMask b p).window = { p.window with attentionMask := b &&& 0x1FFF } := rfl
@[simp] theorem setMask_clock (b : Half) (p : Part) : (setMask b p).clock = p.clock := rfl
@[simp] theorem setMask_track (b : Half) (p : Part) : (setMask b p).track = p.track := rfl
@[simp] theorem setMask_cabins (b : Half) (p : Part) : (setMask b p).cabins = p.cabins := rfl
@[simp] theorem setMask_rope (b : Half) (p : Part) : (setMask b p).rope = p.rope := rfl
@[simp] theorem setMask_sensors (b : Half) (p : Part) : (setMask b p).sensors = p.sensors := rfl
@[simp] theorem setMask_grip (b : Half) (p : Part) : (setMask b p).grip = p.grip := rfl
@[simp] theorem setMask_launch (b : Half) (p : Part) : (setMask b p).launch = p.launch := rfl
@[simp] theorem setMask_doors (b : Half) (p : Part) : (setMask b p).doors = p.doors := rfl
@[simp] theorem setMask_sequencer (b : Half) (p : Part) : (setMask b p).sequencer = p.sequencer := rfl
@[simp] theorem setMask_sup (b : Half) (p : Part) : (setMask b p).sup = p.sup := rfl
@[simp] theorem setMask_line (b : Half) (p : Part) : (setMask b p).line = p.line := rfl
@[simp] theorem setMask_messages (b : Half) (p : Part) : (setMask b p).messages = p.messages := rfl
@[simp] theorem setMask_calls (b : Half) (p : Part) : (setMask b p).calls = p.calls := rfl
@[simp] theorem setMask_work (b : Half) (p : Part) : (setMask b p).work = p.work := rfl

/-! ### `setAttnEnable` -/

@[simp] theorem setAttnEnable_window (b : Bool) (p : Part) : (setAttnEnable b p).window = { p.window with attnEnable := b } := rfl
@[simp] theorem setAttnEnable_clock (b : Bool) (p : Part) : (setAttnEnable b p).clock = p.clock := rfl
@[simp] theorem setAttnEnable_track (b : Bool) (p : Part) : (setAttnEnable b p).track = p.track := rfl
@[simp] theorem setAttnEnable_cabins (b : Bool) (p : Part) : (setAttnEnable b p).cabins = p.cabins := rfl
@[simp] theorem setAttnEnable_rope (b : Bool) (p : Part) : (setAttnEnable b p).rope = p.rope := rfl
@[simp] theorem setAttnEnable_sensors (b : Bool) (p : Part) : (setAttnEnable b p).sensors = p.sensors := rfl
@[simp] theorem setAttnEnable_grip (b : Bool) (p : Part) : (setAttnEnable b p).grip = p.grip := rfl
@[simp] theorem setAttnEnable_launch (b : Bool) (p : Part) : (setAttnEnable b p).launch = p.launch := rfl
@[simp] theorem setAttnEnable_doors (b : Bool) (p : Part) : (setAttnEnable b p).doors = p.doors := rfl
@[simp] theorem setAttnEnable_sequencer (b : Bool) (p : Part) : (setAttnEnable b p).sequencer = p.sequencer := rfl
@[simp] theorem setAttnEnable_sup (b : Bool) (p : Part) : (setAttnEnable b p).sup = p.sup := rfl
@[simp] theorem setAttnEnable_line (b : Bool) (p : Part) : (setAttnEnable b p).line = p.line := rfl
@[simp] theorem setAttnEnable_messages (b : Bool) (p : Part) : (setAttnEnable b p).messages = p.messages := rfl
@[simp] theorem setAttnEnable_calls (b : Bool) (p : Part) : (setAttnEnable b p).calls = p.calls := rfl
@[simp] theorem setAttnEnable_work (b : Bool) (p : Part) : (setAttnEnable b p).work = p.work := rfl

/-! ### `setLatch` -/

@[simp] theorem setLatch_window (l : Option Latch) (p : Part) : (setLatch l p).window = { p.window with latch := l } := rfl
@[simp] theorem setLatch_clock (l : Option Latch) (p : Part) : (setLatch l p).clock = p.clock := rfl
@[simp] theorem setLatch_track (l : Option Latch) (p : Part) : (setLatch l p).track = p.track := rfl
@[simp] theorem setLatch_cabins (l : Option Latch) (p : Part) : (setLatch l p).cabins = p.cabins := rfl
@[simp] theorem setLatch_rope (l : Option Latch) (p : Part) : (setLatch l p).rope = p.rope := rfl
@[simp] theorem setLatch_sensors (l : Option Latch) (p : Part) : (setLatch l p).sensors = p.sensors := rfl
@[simp] theorem setLatch_grip (l : Option Latch) (p : Part) : (setLatch l p).grip = p.grip := rfl
@[simp] theorem setLatch_launch (l : Option Latch) (p : Part) : (setLatch l p).launch = p.launch := rfl
@[simp] theorem setLatch_doors (l : Option Latch) (p : Part) : (setLatch l p).doors = p.doors := rfl
@[simp] theorem setLatch_sequencer (l : Option Latch) (p : Part) : (setLatch l p).sequencer = p.sequencer := rfl
@[simp] theorem setLatch_sup (l : Option Latch) (p : Part) : (setLatch l p).sup = p.sup := rfl
@[simp] theorem setLatch_line (l : Option Latch) (p : Part) : (setLatch l p).line = p.line := rfl
@[simp] theorem setLatch_messages (l : Option Latch) (p : Part) : (setLatch l p).messages = p.messages := rfl
@[simp] theorem setLatch_calls (l : Option Latch) (p : Part) : (setLatch l p).calls = p.calls := rfl
@[simp] theorem setLatch_work (l : Option Latch) (p : Part) : (setLatch l p).work = p.work := rfl

/-! ### `modClock` -/

@[simp] theorem modClock_window (f : Clock → Clock) (p : Part) : (modClock f p).window = p.window := rfl
@[simp] theorem modClock_clock (f : Clock → Clock) (p : Part) : (modClock f p).clock = f p.clock := rfl
@[simp] theorem modClock_track (f : Clock → Clock) (p : Part) : (modClock f p).track = p.track := rfl
@[simp] theorem modClock_cabins (f : Clock → Clock) (p : Part) : (modClock f p).cabins = p.cabins := rfl
@[simp] theorem modClock_rope (f : Clock → Clock) (p : Part) : (modClock f p).rope = p.rope := rfl
@[simp] theorem modClock_sensors (f : Clock → Clock) (p : Part) : (modClock f p).sensors = p.sensors := rfl
@[simp] theorem modClock_grip (f : Clock → Clock) (p : Part) : (modClock f p).grip = p.grip := rfl
@[simp] theorem modClock_launch (f : Clock → Clock) (p : Part) : (modClock f p).launch = p.launch := rfl
@[simp] theorem modClock_doors (f : Clock → Clock) (p : Part) : (modClock f p).doors = p.doors := rfl
@[simp] theorem modClock_sequencer (f : Clock → Clock) (p : Part) : (modClock f p).sequencer = p.sequencer := rfl
@[simp] theorem modClock_sup (f : Clock → Clock) (p : Part) : (modClock f p).sup = p.sup := rfl
@[simp] theorem modClock_line (f : Clock → Clock) (p : Part) : (modClock f p).line = p.line := rfl
@[simp] theorem modClock_messages (f : Clock → Clock) (p : Part) : (modClock f p).messages = p.messages := rfl
@[simp] theorem modClock_calls (f : Clock → Clock) (p : Part) : (modClock f p).calls = p.calls := rfl
@[simp] theorem modClock_work (f : Clock → Clock) (p : Part) : (modClock f p).work = p.work := rfl

/-! ### `modTrack` -/

@[simp] theorem modTrack_window (f : Track → Track) (p : Part) : (modTrack f p).window = p.window := rfl
@[simp] theorem modTrack_clock (f : Track → Track) (p : Part) : (modTrack f p).clock = p.clock := rfl
@[simp] theorem modTrack_track (f : Track → Track) (p : Part) : (modTrack f p).track = f p.track := rfl
@[simp] theorem modTrack_cabins (f : Track → Track) (p : Part) : (modTrack f p).cabins = p.cabins := rfl
@[simp] theorem modTrack_rope (f : Track → Track) (p : Part) : (modTrack f p).rope = p.rope := rfl
@[simp] theorem modTrack_sensors (f : Track → Track) (p : Part) : (modTrack f p).sensors = p.sensors := rfl
@[simp] theorem modTrack_grip (f : Track → Track) (p : Part) : (modTrack f p).grip = p.grip := rfl
@[simp] theorem modTrack_launch (f : Track → Track) (p : Part) : (modTrack f p).launch = p.launch := rfl
@[simp] theorem modTrack_doors (f : Track → Track) (p : Part) : (modTrack f p).doors = p.doors := rfl
@[simp] theorem modTrack_sequencer (f : Track → Track) (p : Part) : (modTrack f p).sequencer = p.sequencer := rfl
@[simp] theorem modTrack_sup (f : Track → Track) (p : Part) : (modTrack f p).sup = p.sup := rfl
@[simp] theorem modTrack_line (f : Track → Track) (p : Part) : (modTrack f p).line = p.line := rfl
@[simp] theorem modTrack_messages (f : Track → Track) (p : Part) : (modTrack f p).messages = p.messages := rfl
@[simp] theorem modTrack_calls (f : Track → Track) (p : Part) : (modTrack f p).calls = p.calls := rfl
@[simp] theorem modTrack_work (f : Track → Track) (p : Part) : (modTrack f p).work = p.work := rfl

/-! ### `setRoster` -/

@[simp] theorem setRoster_window (r : List RosterEntry) (p : Part) : (setRoster r p).window = p.window := rfl
@[simp] theorem setRoster_clock (r : List RosterEntry) (p : Part) : (setRoster r p).clock = p.clock := rfl
@[simp] theorem setRoster_track (r : List RosterEntry) (p : Part) : (setRoster r p).track = { p.track with roster := r } := rfl
@[simp] theorem setRoster_cabins (r : List RosterEntry) (p : Part) : (setRoster r p).cabins = p.cabins := rfl
@[simp] theorem setRoster_rope (r : List RosterEntry) (p : Part) : (setRoster r p).rope = p.rope := rfl
@[simp] theorem setRoster_sensors (r : List RosterEntry) (p : Part) : (setRoster r p).sensors = p.sensors := rfl
@[simp] theorem setRoster_grip (r : List RosterEntry) (p : Part) : (setRoster r p).grip = p.grip := rfl
@[simp] theorem setRoster_launch (r : List RosterEntry) (p : Part) : (setRoster r p).launch = p.launch := rfl
@[simp] theorem setRoster_doors (r : List RosterEntry) (p : Part) : (setRoster r p).doors = p.doors := rfl
@[simp] theorem setRoster_sequencer (r : List RosterEntry) (p : Part) : (setRoster r p).sequencer = p.sequencer := rfl
@[simp] theorem setRoster_sup (r : List RosterEntry) (p : Part) : (setRoster r p).sup = p.sup := rfl
@[simp] theorem setRoster_line (r : List RosterEntry) (p : Part) : (setRoster r p).line = p.line := rfl
@[simp] theorem setRoster_messages (r : List RosterEntry) (p : Part) : (setRoster r p).messages = p.messages := rfl
@[simp] theorem setRoster_calls (r : List RosterEntry) (p : Part) : (setRoster r p).calls = p.calls := rfl
@[simp] theorem setRoster_work (r : List RosterEntry) (p : Part) : (setRoster r p).work = p.work := rfl

/-! ### `setMatcher` -/

@[simp] theorem setMatcher_window (m : TagMatcher) (p : Part) : (setMatcher m p).window = p.window := rfl
@[simp] theorem setMatcher_clock (m : TagMatcher) (p : Part) : (setMatcher m p).clock = p.clock := rfl
@[simp] theorem setMatcher_track (m : TagMatcher) (p : Part) : (setMatcher m p).track = { p.track with matcher := m } := rfl
@[simp] theorem setMatcher_cabins (m : TagMatcher) (p : Part) : (setMatcher m p).cabins = p.cabins := rfl
@[simp] theorem setMatcher_rope (m : TagMatcher) (p : Part) : (setMatcher m p).rope = p.rope := rfl
@[simp] theorem setMatcher_sensors (m : TagMatcher) (p : Part) : (setMatcher m p).sensors = p.sensors := rfl
@[simp] theorem setMatcher_grip (m : TagMatcher) (p : Part) : (setMatcher m p).grip = p.grip := rfl
@[simp] theorem setMatcher_launch (m : TagMatcher) (p : Part) : (setMatcher m p).launch = p.launch := rfl
@[simp] theorem setMatcher_doors (m : TagMatcher) (p : Part) : (setMatcher m p).doors = p.doors := rfl
@[simp] theorem setMatcher_sequencer (m : TagMatcher) (p : Part) : (setMatcher m p).sequencer = p.sequencer := rfl
@[simp] theorem setMatcher_sup (m : TagMatcher) (p : Part) : (setMatcher m p).sup = p.sup := rfl
@[simp] theorem setMatcher_line (m : TagMatcher) (p : Part) : (setMatcher m p).line = p.line := rfl
@[simp] theorem setMatcher_messages (m : TagMatcher) (p : Part) : (setMatcher m p).messages = p.messages := rfl
@[simp] theorem setMatcher_calls (m : TagMatcher) (p : Part) : (setMatcher m p).calls = p.calls := rfl
@[simp] theorem setMatcher_work (m : TagMatcher) (p : Part) : (setMatcher m p).work = p.work := rfl

/-! ### `setQueue` -/

@[simp] theorem setQueue_window (q : List QueueEntry) (p : Part) : (setQueue q p).window = p.window := rfl
@[simp] theorem setQueue_clock (q : List QueueEntry) (p : Part) : (setQueue q p).clock = p.clock := rfl
@[simp] theorem setQueue_track (q : List QueueEntry) (p : Part) : (setQueue q p).track = { p.track with queue := q } := rfl
@[simp] theorem setQueue_cabins (q : List QueueEntry) (p : Part) : (setQueue q p).cabins = p.cabins := rfl
@[simp] theorem setQueue_rope (q : List QueueEntry) (p : Part) : (setQueue q p).rope = p.rope := rfl
@[simp] theorem setQueue_sensors (q : List QueueEntry) (p : Part) : (setQueue q p).sensors = p.sensors := rfl
@[simp] theorem setQueue_grip (q : List QueueEntry) (p : Part) : (setQueue q p).grip = p.grip := rfl
@[simp] theorem setQueue_launch (q : List QueueEntry) (p : Part) : (setQueue q p).launch = p.launch := rfl
@[simp] theorem setQueue_doors (q : List QueueEntry) (p : Part) : (setQueue q p).doors = p.doors := rfl
@[simp] theorem setQueue_sequencer (q : List QueueEntry) (p : Part) : (setQueue q p).sequencer = p.sequencer := rfl
@[simp] theorem setQueue_sup (q : List QueueEntry) (p : Part) : (setQueue q p).sup = p.sup := rfl
@[simp] theorem setQueue_line (q : List QueueEntry) (p : Part) : (setQueue q p).line = p.line := rfl
@[simp] theorem setQueue_messages (q : List QueueEntry) (p : Part) : (setQueue q p).messages = p.messages := rfl
@[simp] theorem setQueue_calls (q : List QueueEntry) (p : Part) : (setQueue q p).calls = p.calls := rfl
@[simp] theorem setQueue_work (q : List QueueEntry) (p : Part) : (setQueue q p).work = { p.work with launch := true } := rfl

/-! ### `modEntry` -/

@[simp] theorem modEntry_window (n : Nat) (f : QueueEntry → QueueEntry) (p : Part) : (modEntry n f p).window = p.window := rfl
@[simp] theorem modEntry_clock (n : Nat) (f : QueueEntry → QueueEntry) (p : Part) : (modEntry n f p).clock = p.clock := rfl
@[simp] theorem modEntry_track (n : Nat) (f : QueueEntry → QueueEntry) (p : Part) : (modEntry n f p).track = { p.track with queue := p.track.queue.map (fun e => if e.serial == n then f e else e) } := rfl
@[simp] theorem modEntry_cabins (n : Nat) (f : QueueEntry → QueueEntry) (p : Part) : (modEntry n f p).cabins = p.cabins := rfl
@[simp] theorem modEntry_rope (n : Nat) (f : QueueEntry → QueueEntry) (p : Part) : (modEntry n f p).rope = p.rope := rfl
@[simp] theorem modEntry_sensors (n : Nat) (f : QueueEntry → QueueEntry) (p : Part) : (modEntry n f p).sensors = p.sensors := rfl
@[simp] theorem modEntry_grip (n : Nat) (f : QueueEntry → QueueEntry) (p : Part) : (modEntry n f p).grip = p.grip := rfl
@[simp] theorem modEntry_launch (n : Nat) (f : QueueEntry → QueueEntry) (p : Part) : (modEntry n f p).launch = p.launch := rfl
@[simp] theorem modEntry_doors (n : Nat) (f : QueueEntry → QueueEntry) (p : Part) : (modEntry n f p).doors = p.doors := rfl
@[simp] theorem modEntry_sequencer (n : Nat) (f : QueueEntry → QueueEntry) (p : Part) : (modEntry n f p).sequencer = p.sequencer := rfl
@[simp] theorem modEntry_sup (n : Nat) (f : QueueEntry → QueueEntry) (p : Part) : (modEntry n f p).sup = p.sup := rfl
@[simp] theorem modEntry_line (n : Nat) (f : QueueEntry → QueueEntry) (p : Part) : (modEntry n f p).line = p.line := rfl
@[simp] theorem modEntry_messages (n : Nat) (f : QueueEntry → QueueEntry) (p : Part) : (modEntry n f p).messages = p.messages := rfl
@[simp] theorem modEntry_calls (n : Nat) (f : QueueEntry → QueueEntry) (p : Part) : (modEntry n f p).calls = p.calls := rfl
@[simp] theorem modEntry_work (n : Nat) (f : QueueEntry → QueueEntry) (p : Part) : (modEntry n f p).work = { p.work with launch := true } := rfl

/-! ### `removeEntry` -/

@[simp] theorem removeEntry_window (n : Nat) (p : Part) : (removeEntry n p).window = p.window := rfl
@[simp] theorem removeEntry_clock (n : Nat) (p : Part) : (removeEntry n p).clock = p.clock := rfl
@[simp] theorem removeEntry_cabins (n : Nat) (p : Part) : (removeEntry n p).cabins = p.cabins := rfl
@[simp] theorem removeEntry_rope (n : Nat) (p : Part) : (removeEntry n p).rope = p.rope := rfl
@[simp] theorem removeEntry_sensors (n : Nat) (p : Part) : (removeEntry n p).sensors = p.sensors := rfl
@[simp] theorem removeEntry_grip (n : Nat) (p : Part) : (removeEntry n p).grip = p.grip := rfl
@[simp] theorem removeEntry_launch (n : Nat) (p : Part) : (removeEntry n p).launch = p.launch := rfl
@[simp] theorem removeEntry_doors (n : Nat) (p : Part) : (removeEntry n p).doors = p.doors := rfl
@[simp] theorem removeEntry_sequencer (n : Nat) (p : Part) : (removeEntry n p).sequencer = p.sequencer := rfl
@[simp] theorem removeEntry_sup (n : Nat) (p : Part) : (removeEntry n p).sup = p.sup := rfl
@[simp] theorem removeEntry_line (n : Nat) (p : Part) : (removeEntry n p).line = p.line := rfl
@[simp] theorem removeEntry_messages (n : Nat) (p : Part) : (removeEntry n p).messages = p.messages := rfl
@[simp] theorem removeEntry_calls (n : Nat) (p : Part) : (removeEntry n p).calls = p.calls := rfl
@[simp] theorem removeEntry_work (n : Nat) (p : Part) : (removeEntry n p).work = { p.work with launch := true } := rfl

/-! ### `modSwitch` -/

@[simp] theorem modSwitch_window (i : Fin 8) (f : Switch → Switch) (p : Part) : (modSwitch i f p).window = p.window := rfl
@[simp] theorem modSwitch_clock (i : Fin 8) (f : Switch → Switch) (p : Part) : (modSwitch i f p).clock = p.clock := rfl
@[simp] theorem modSwitch_track (i : Fin 8) (f : Switch → Switch) (p : Part) : (modSwitch i f p).track = p.track := rfl
@[simp] theorem modSwitch_cabins (i : Fin 8) (f : Switch → Switch) (p : Part) : (modSwitch i f p).cabins = p.cabins := rfl
@[simp] theorem modSwitch_rope (i : Fin 8) (f : Switch → Switch) (p : Part) : (modSwitch i f p).rope = p.rope := rfl
@[simp] theorem modSwitch_sensors (i : Fin 8) (f : Switch → Switch) (p : Part) : (modSwitch i f p).sensors = { p.sensors with switches := modTable p.sensors.switches i f } := rfl
@[simp] theorem modSwitch_grip (i : Fin 8) (f : Switch → Switch) (p : Part) : (modSwitch i f p).grip = p.grip := rfl
@[simp] theorem modSwitch_launch (i : Fin 8) (f : Switch → Switch) (p : Part) : (modSwitch i f p).launch = p.launch := rfl
@[simp] theorem modSwitch_doors (i : Fin 8) (f : Switch → Switch) (p : Part) : (modSwitch i f p).doors = p.doors := rfl
@[simp] theorem modSwitch_sequencer (i : Fin 8) (f : Switch → Switch) (p : Part) : (modSwitch i f p).sequencer = p.sequencer := rfl
@[simp] theorem modSwitch_sup (i : Fin 8) (f : Switch → Switch) (p : Part) : (modSwitch i f p).sup = p.sup := rfl
@[simp] theorem modSwitch_line (i : Fin 8) (f : Switch → Switch) (p : Part) : (modSwitch i f p).line = p.line := rfl
@[simp] theorem modSwitch_messages (i : Fin 8) (f : Switch → Switch) (p : Part) : (modSwitch i f p).messages = p.messages := rfl
@[simp] theorem modSwitch_calls (i : Fin 8) (f : Switch → Switch) (p : Part) : (modSwitch i f p).calls = p.calls := rfl
@[simp] theorem modSwitch_work (i : Fin 8) (f : Switch → Switch) (p : Part) : (modSwitch i f p).work = p.work := rfl

/-! ### `modLaunch` -/

@[simp] theorem modLaunch_window (f : Launch → Launch) (p : Part) : (modLaunch f p).window = p.window := rfl
@[simp] theorem modLaunch_clock (f : Launch → Launch) (p : Part) : (modLaunch f p).clock = p.clock := rfl
@[simp] theorem modLaunch_track (f : Launch → Launch) (p : Part) : (modLaunch f p).track = p.track := rfl
@[simp] theorem modLaunch_cabins (f : Launch → Launch) (p : Part) : (modLaunch f p).cabins = p.cabins := rfl
@[simp] theorem modLaunch_rope (f : Launch → Launch) (p : Part) : (modLaunch f p).rope = p.rope := rfl
@[simp] theorem modLaunch_sensors (f : Launch → Launch) (p : Part) : (modLaunch f p).sensors = p.sensors := rfl
@[simp] theorem modLaunch_grip (f : Launch → Launch) (p : Part) : (modLaunch f p).grip = p.grip := rfl
@[simp] theorem modLaunch_launch (f : Launch → Launch) (p : Part) : (modLaunch f p).launch = f p.launch := rfl
@[simp] theorem modLaunch_doors (f : Launch → Launch) (p : Part) : (modLaunch f p).doors = p.doors := rfl
@[simp] theorem modLaunch_sequencer (f : Launch → Launch) (p : Part) : (modLaunch f p).sequencer = p.sequencer := rfl
@[simp] theorem modLaunch_sup (f : Launch → Launch) (p : Part) : (modLaunch f p).sup = p.sup := rfl
@[simp] theorem modLaunch_line (f : Launch → Launch) (p : Part) : (modLaunch f p).line = p.line := rfl
@[simp] theorem modLaunch_messages (f : Launch → Launch) (p : Part) : (modLaunch f p).messages = p.messages := rfl
@[simp] theorem modLaunch_calls (f : Launch → Launch) (p : Part) : (modLaunch f p).calls = p.calls := rfl
@[simp] theorem modLaunch_work (f : Launch → Launch) (p : Part) : (modLaunch f p).work = p.work := rfl

/-! ### `modChannel` -/

@[simp] theorem modChannel_window (n : ChannelNo) (f : Channel → Channel) (p : Part) : (modChannel n f p).window = p.window := rfl
@[simp] theorem modChannel_clock (n : ChannelNo) (f : Channel → Channel) (p : Part) : (modChannel n f p).clock = p.clock := rfl
@[simp] theorem modChannel_track (n : ChannelNo) (f : Channel → Channel) (p : Part) : (modChannel n f p).track = p.track := rfl
@[simp] theorem modChannel_cabins (n : ChannelNo) (f : Channel → Channel) (p : Part) : (modChannel n f p).cabins = p.cabins := rfl
@[simp] theorem modChannel_rope (n : ChannelNo) (f : Channel → Channel) (p : Part) : (modChannel n f p).rope = p.rope := rfl
@[simp] theorem modChannel_sensors (n : ChannelNo) (f : Channel → Channel) (p : Part) : (modChannel n f p).sensors = p.sensors := rfl
@[simp] theorem modChannel_grip (n : ChannelNo) (f : Channel → Channel) (p : Part) : (modChannel n f p).grip = p.grip := rfl
@[simp] theorem modChannel_launch (n : ChannelNo) (f : Channel → Channel) (p : Part) : (modChannel n f p).launch = p.launch := rfl
@[simp] theorem modChannel_doors (n : ChannelNo) (f : Channel → Channel) (p : Part) : (modChannel n f p).doors = { p.doors with channels := modTable p.doors.channels n f } := rfl
@[simp] theorem modChannel_sequencer (n : ChannelNo) (f : Channel → Channel) (p : Part) : (modChannel n f p).sequencer = p.sequencer := rfl
@[simp] theorem modChannel_sup (n : ChannelNo) (f : Channel → Channel) (p : Part) : (modChannel n f p).sup = p.sup := rfl
@[simp] theorem modChannel_line (n : ChannelNo) (f : Channel → Channel) (p : Part) : (modChannel n f p).line = p.line := rfl
@[simp] theorem modChannel_messages (n : ChannelNo) (f : Channel → Channel) (p : Part) : (modChannel n f p).messages = p.messages := rfl
@[simp] theorem modChannel_calls (n : ChannelNo) (f : Channel → Channel) (p : Part) : (modChannel n f p).calls = p.calls := rfl
@[simp] theorem modChannel_work (n : ChannelNo) (f : Channel → Channel) (p : Part) : (modChannel n f p).work = p.work := rfl

/-! ### `joinQueue` -/

@[simp] theorem joinQueue_window (n : ChannelNo) (p : Part) : (joinQueue n p).window = p.window := rfl
@[simp] theorem joinQueue_clock (n : ChannelNo) (p : Part) : (joinQueue n p).clock = p.clock := rfl
@[simp] theorem joinQueue_track (n : ChannelNo) (p : Part) : (joinQueue n p).track = p.track := rfl
@[simp] theorem joinQueue_cabins (n : ChannelNo) (p : Part) : (joinQueue n p).cabins = p.cabins := rfl
@[simp] theorem joinQueue_rope (n : ChannelNo) (p : Part) : (joinQueue n p).rope = p.rope := rfl
@[simp] theorem joinQueue_sensors (n : ChannelNo) (p : Part) : (joinQueue n p).sensors = p.sensors := rfl
@[simp] theorem joinQueue_grip (n : ChannelNo) (p : Part) : (joinQueue n p).grip = p.grip := rfl
@[simp] theorem joinQueue_launch (n : ChannelNo) (p : Part) : (joinQueue n p).launch = p.launch := rfl
@[simp] theorem joinQueue_doors (n : ChannelNo) (p : Part) : (joinQueue n p).doors = { p.doors with queue := p.doors.queue ++ [.door n] } := rfl
@[simp] theorem joinQueue_sequencer (n : ChannelNo) (p : Part) : (joinQueue n p).sequencer = p.sequencer := rfl
@[simp] theorem joinQueue_sup (n : ChannelNo) (p : Part) : (joinQueue n p).sup = p.sup := rfl
@[simp] theorem joinQueue_line (n : ChannelNo) (p : Part) : (joinQueue n p).line = p.line := rfl
@[simp] theorem joinQueue_messages (n : ChannelNo) (p : Part) : (joinQueue n p).messages = p.messages := rfl
@[simp] theorem joinQueue_calls (n : ChannelNo) (p : Part) : (joinQueue n p).calls = p.calls := rfl
@[simp] theorem joinQueue_work (n : ChannelNo) (p : Part) : (joinQueue n p).work = { p.work with arbiter := true } := rfl

/-! ### `leaveQueue` -/

@[simp] theorem leaveQueue_window (n : ChannelNo) (p : Part) : (leaveQueue n p).window = p.window := rfl
@[simp] theorem leaveQueue_clock (n : ChannelNo) (p : Part) : (leaveQueue n p).clock = p.clock := rfl
@[simp] theorem leaveQueue_track (n : ChannelNo) (p : Part) : (leaveQueue n p).track = p.track := rfl
@[simp] theorem leaveQueue_cabins (n : ChannelNo) (p : Part) : (leaveQueue n p).cabins = p.cabins := rfl
@[simp] theorem leaveQueue_rope (n : ChannelNo) (p : Part) : (leaveQueue n p).rope = p.rope := rfl
@[simp] theorem leaveQueue_sensors (n : ChannelNo) (p : Part) : (leaveQueue n p).sensors = p.sensors := rfl
@[simp] theorem leaveQueue_grip (n : ChannelNo) (p : Part) : (leaveQueue n p).grip = p.grip := rfl
@[simp] theorem leaveQueue_launch (n : ChannelNo) (p : Part) : (leaveQueue n p).launch = p.launch := rfl
@[simp] theorem leaveQueue_doors (n : ChannelNo) (p : Part) : (leaveQueue n p).doors = { p.doors with queue := p.doors.queue.filter (fun r => r != .door n) } := rfl
@[simp] theorem leaveQueue_sequencer (n : ChannelNo) (p : Part) : (leaveQueue n p).sequencer = p.sequencer := rfl
@[simp] theorem leaveQueue_sup (n : ChannelNo) (p : Part) : (leaveQueue n p).sup = p.sup := rfl
@[simp] theorem leaveQueue_line (n : ChannelNo) (p : Part) : (leaveQueue n p).line = p.line := rfl
@[simp] theorem leaveQueue_messages (n : ChannelNo) (p : Part) : (leaveQueue n p).messages = p.messages := rfl
@[simp] theorem leaveQueue_calls (n : ChannelNo) (p : Part) : (leaveQueue n p).calls = p.calls := rfl
@[simp] theorem leaveQueue_work (n : ChannelNo) (p : Part) : (leaveQueue n p).work = p.work := rfl

/-! ### `modSeq` -/

@[simp] theorem modSeq_window (f : Sequencer → Sequencer) (p : Part) : (modSeq f p).window = p.window := rfl
@[simp] theorem modSeq_clock (f : Sequencer → Sequencer) (p : Part) : (modSeq f p).clock = p.clock := rfl
@[simp] theorem modSeq_track (f : Sequencer → Sequencer) (p : Part) : (modSeq f p).track = p.track := rfl
@[simp] theorem modSeq_cabins (f : Sequencer → Sequencer) (p : Part) : (modSeq f p).cabins = p.cabins := rfl
@[simp] theorem modSeq_rope (f : Sequencer → Sequencer) (p : Part) : (modSeq f p).rope = p.rope := rfl
@[simp] theorem modSeq_sensors (f : Sequencer → Sequencer) (p : Part) : (modSeq f p).sensors = p.sensors := rfl
@[simp] theorem modSeq_grip (f : Sequencer → Sequencer) (p : Part) : (modSeq f p).grip = p.grip := rfl
@[simp] theorem modSeq_launch (f : Sequencer → Sequencer) (p : Part) : (modSeq f p).launch = p.launch := rfl
@[simp] theorem modSeq_doors (f : Sequencer → Sequencer) (p : Part) : (modSeq f p).doors = p.doors := rfl
@[simp] theorem modSeq_sequencer (f : Sequencer → Sequencer) (p : Part) : (modSeq f p).sequencer = f p.sequencer := rfl
@[simp] theorem modSeq_sup (f : Sequencer → Sequencer) (p : Part) : (modSeq f p).sup = p.sup := rfl
@[simp] theorem modSeq_line (f : Sequencer → Sequencer) (p : Part) : (modSeq f p).line = p.line := rfl
@[simp] theorem modSeq_messages (f : Sequencer → Sequencer) (p : Part) : (modSeq f p).messages = p.messages := rfl
@[simp] theorem modSeq_calls (f : Sequencer → Sequencer) (p : Part) : (modSeq f p).calls = p.calls := rfl
@[simp] theorem modSeq_work (f : Sequencer → Sequencer) (p : Part) : (modSeq f p).work = p.work := rfl

/-! ### `modSup` -/

@[simp] theorem modSup_window (f : Supervisor → Supervisor) (p : Part) : (modSup f p).window = p.window := rfl
@[simp] theorem modSup_clock (f : Supervisor → Supervisor) (p : Part) : (modSup f p).clock = p.clock := rfl
@[simp] theorem modSup_track (f : Supervisor → Supervisor) (p : Part) : (modSup f p).track = p.track := rfl
@[simp] theorem modSup_cabins (f : Supervisor → Supervisor) (p : Part) : (modSup f p).cabins = p.cabins := rfl
@[simp] theorem modSup_rope (f : Supervisor → Supervisor) (p : Part) : (modSup f p).rope = p.rope := rfl
@[simp] theorem modSup_sensors (f : Supervisor → Supervisor) (p : Part) : (modSup f p).sensors = p.sensors := rfl
@[simp] theorem modSup_grip (f : Supervisor → Supervisor) (p : Part) : (modSup f p).grip = p.grip := rfl
@[simp] theorem modSup_launch (f : Supervisor → Supervisor) (p : Part) : (modSup f p).launch = p.launch := rfl
@[simp] theorem modSup_doors (f : Supervisor → Supervisor) (p : Part) : (modSup f p).doors = p.doors := rfl
@[simp] theorem modSup_sequencer (f : Supervisor → Supervisor) (p : Part) : (modSup f p).sequencer = p.sequencer := rfl
@[simp] theorem modSup_sup (f : Supervisor → Supervisor) (p : Part) : (modSup f p).sup = f p.sup := rfl
@[simp] theorem modSup_line (f : Supervisor → Supervisor) (p : Part) : (modSup f p).line = p.line := rfl
@[simp] theorem modSup_messages (f : Supervisor → Supervisor) (p : Part) : (modSup f p).messages = p.messages := rfl
@[simp] theorem modSup_calls (f : Supervisor → Supervisor) (p : Part) : (modSup f p).calls = p.calls := rfl
@[simp] theorem modSup_work (f : Supervisor → Supervisor) (p : Part) : (modSup f p).work = p.work := rfl

/-! ### `modLine` -/

@[simp] theorem modLine_window (f : Line → Line) (p : Part) : (modLine f p).window = p.window := rfl
@[simp] theorem modLine_clock (f : Line → Line) (p : Part) : (modLine f p).clock = p.clock := rfl
@[simp] theorem modLine_track (f : Line → Line) (p : Part) : (modLine f p).track = p.track := rfl
@[simp] theorem modLine_cabins (f : Line → Line) (p : Part) : (modLine f p).cabins = p.cabins := rfl
@[simp] theorem modLine_rope (f : Line → Line) (p : Part) : (modLine f p).rope = p.rope := rfl
@[simp] theorem modLine_sensors (f : Line → Line) (p : Part) : (modLine f p).sensors = p.sensors := rfl
@[simp] theorem modLine_grip (f : Line → Line) (p : Part) : (modLine f p).grip = p.grip := rfl
@[simp] theorem modLine_launch (f : Line → Line) (p : Part) : (modLine f p).launch = p.launch := rfl
@[simp] theorem modLine_doors (f : Line → Line) (p : Part) : (modLine f p).doors = p.doors := rfl
@[simp] theorem modLine_sequencer (f : Line → Line) (p : Part) : (modLine f p).sequencer = p.sequencer := rfl
@[simp] theorem modLine_sup (f : Line → Line) (p : Part) : (modLine f p).sup = p.sup := rfl
@[simp] theorem modLine_line (f : Line → Line) (p : Part) : (modLine f p).line = f p.line := rfl
@[simp] theorem modLine_messages (f : Line → Line) (p : Part) : (modLine f p).messages = p.messages := rfl
@[simp] theorem modLine_calls (f : Line → Line) (p : Part) : (modLine f p).calls = p.calls := rfl
@[simp] theorem modLine_work (f : Line → Line) (p : Part) : (modLine f p).work = p.work := rfl

/-! ### `modMsg` -/

@[simp] theorem modMsg_window (f : Messages → Messages) (p : Part) : (modMsg f p).window = p.window := rfl
@[simp] theorem modMsg_clock (f : Messages → Messages) (p : Part) : (modMsg f p).clock = p.clock := rfl
@[simp] theorem modMsg_track (f : Messages → Messages) (p : Part) : (modMsg f p).track = p.track := rfl
@[simp] theorem modMsg_cabins (f : Messages → Messages) (p : Part) : (modMsg f p).cabins = p.cabins := rfl
@[simp] theorem modMsg_rope (f : Messages → Messages) (p : Part) : (modMsg f p).rope = p.rope := rfl
@[simp] theorem modMsg_sensors (f : Messages → Messages) (p : Part) : (modMsg f p).sensors = p.sensors := rfl
@[simp] theorem modMsg_grip (f : Messages → Messages) (p : Part) : (modMsg f p).grip = p.grip := rfl
@[simp] theorem modMsg_launch (f : Messages → Messages) (p : Part) : (modMsg f p).launch = p.launch := rfl
@[simp] theorem modMsg_doors (f : Messages → Messages) (p : Part) : (modMsg f p).doors = p.doors := rfl
@[simp] theorem modMsg_sequencer (f : Messages → Messages) (p : Part) : (modMsg f p).sequencer = p.sequencer := rfl
@[simp] theorem modMsg_sup (f : Messages → Messages) (p : Part) : (modMsg f p).sup = p.sup := rfl
@[simp] theorem modMsg_line (f : Messages → Messages) (p : Part) : (modMsg f p).line = p.line := rfl
@[simp] theorem modMsg_messages (f : Messages → Messages) (p : Part) : (modMsg f p).messages = f p.messages := rfl
@[simp] theorem modMsg_calls (f : Messages → Messages) (p : Part) : (modMsg f p).calls = p.calls := rfl
@[simp] theorem modMsg_work (f : Messages → Messages) (p : Part) : (modMsg f p).work = p.work := rfl

/-! ### `modCall` -/

@[simp] theorem modCall_window (v : VoiceNo) (f : CallSlot → CallSlot) (p : Part) : (modCall v f p).window = p.window := rfl
@[simp] theorem modCall_clock (v : VoiceNo) (f : CallSlot → CallSlot) (p : Part) : (modCall v f p).clock = p.clock := rfl
@[simp] theorem modCall_track (v : VoiceNo) (f : CallSlot → CallSlot) (p : Part) : (modCall v f p).track = p.track := rfl
@[simp] theorem modCall_cabins (v : VoiceNo) (f : CallSlot → CallSlot) (p : Part) : (modCall v f p).cabins = p.cabins := rfl
@[simp] theorem modCall_rope (v : VoiceNo) (f : CallSlot → CallSlot) (p : Part) : (modCall v f p).rope = p.rope := rfl
@[simp] theorem modCall_sensors (v : VoiceNo) (f : CallSlot → CallSlot) (p : Part) : (modCall v f p).sensors = p.sensors := rfl
@[simp] theorem modCall_grip (v : VoiceNo) (f : CallSlot → CallSlot) (p : Part) : (modCall v f p).grip = p.grip := rfl
@[simp] theorem modCall_launch (v : VoiceNo) (f : CallSlot → CallSlot) (p : Part) : (modCall v f p).launch = p.launch := rfl
@[simp] theorem modCall_doors (v : VoiceNo) (f : CallSlot → CallSlot) (p : Part) : (modCall v f p).doors = p.doors := rfl
@[simp] theorem modCall_sequencer (v : VoiceNo) (f : CallSlot → CallSlot) (p : Part) : (modCall v f p).sequencer = p.sequencer := rfl
@[simp] theorem modCall_sup (v : VoiceNo) (f : CallSlot → CallSlot) (p : Part) : (modCall v f p).sup = p.sup := rfl
@[simp] theorem modCall_line (v : VoiceNo) (f : CallSlot → CallSlot) (p : Part) : (modCall v f p).line = p.line := rfl
@[simp] theorem modCall_messages (v : VoiceNo) (f : CallSlot → CallSlot) (p : Part) : (modCall v f p).messages = p.messages := rfl
@[simp] theorem modCall_calls (v : VoiceNo) (f : CallSlot → CallSlot) (p : Part) : (modCall v f p).calls = { p.calls with slots := modTable p.calls.slots v f } := rfl
@[simp] theorem modCall_work (v : VoiceNo) (f : CallSlot → CallSlot) (p : Part) : (modCall v f p).work = p.work := rfl

/-! ### `callLaunch` -/

@[simp] theorem callLaunch_window (p : Part) : (callLaunch p).window = p.window := rfl
@[simp] theorem callLaunch_clock (p : Part) : (callLaunch p).clock = p.clock := rfl
@[simp] theorem callLaunch_track (p : Part) : (callLaunch p).track = p.track := rfl
@[simp] theorem callLaunch_cabins (p : Part) : (callLaunch p).cabins = p.cabins := rfl
@[simp] theorem callLaunch_rope (p : Part) : (callLaunch p).rope = p.rope := rfl
@[simp] theorem callLaunch_sensors (p : Part) : (callLaunch p).sensors = p.sensors := rfl
@[simp] theorem callLaunch_grip (p : Part) : (callLaunch p).grip = p.grip := rfl
@[simp] theorem callLaunch_launch (p : Part) : (callLaunch p).launch = p.launch := rfl
@[simp] theorem callLaunch_doors (p : Part) : (callLaunch p).doors = p.doors := rfl
@[simp] theorem callLaunch_sequencer (p : Part) : (callLaunch p).sequencer = p.sequencer := rfl
@[simp] theorem callLaunch_sup (p : Part) : (callLaunch p).sup = p.sup := rfl
@[simp] theorem callLaunch_line (p : Part) : (callLaunch p).line = p.line := rfl
@[simp] theorem callLaunch_messages (p : Part) : (callLaunch p).messages = p.messages := rfl
@[simp] theorem callLaunch_calls (p : Part) : (callLaunch p).calls = p.calls := rfl
@[simp] theorem callLaunch_work (p : Part) : (callLaunch p).work = { p.work with launch := true } := rfl

/-! ### `callArbiter` -/

@[simp] theorem callArbiter_window (p : Part) : (callArbiter p).window = p.window := rfl
@[simp] theorem callArbiter_clock (p : Part) : (callArbiter p).clock = p.clock := rfl
@[simp] theorem callArbiter_track (p : Part) : (callArbiter p).track = p.track := rfl
@[simp] theorem callArbiter_cabins (p : Part) : (callArbiter p).cabins = p.cabins := rfl
@[simp] theorem callArbiter_rope (p : Part) : (callArbiter p).rope = p.rope := rfl
@[simp] theorem callArbiter_sensors (p : Part) : (callArbiter p).sensors = p.sensors := rfl
@[simp] theorem callArbiter_grip (p : Part) : (callArbiter p).grip = p.grip := rfl
@[simp] theorem callArbiter_launch (p : Part) : (callArbiter p).launch = p.launch := rfl
@[simp] theorem callArbiter_doors (p : Part) : (callArbiter p).doors = p.doors := rfl
@[simp] theorem callArbiter_sequencer (p : Part) : (callArbiter p).sequencer = p.sequencer := rfl
@[simp] theorem callArbiter_sup (p : Part) : (callArbiter p).sup = p.sup := rfl
@[simp] theorem callArbiter_line (p : Part) : (callArbiter p).line = p.line := rfl
@[simp] theorem callArbiter_messages (p : Part) : (callArbiter p).messages = p.messages := rfl
@[simp] theorem callArbiter_calls (p : Part) : (callArbiter p).calls = p.calls := rfl
@[simp] theorem callArbiter_work (p : Part) : (callArbiter p).work = { p.work with arbiter := true } := rfl

/-! ### `callSequencer` -/

@[simp] theorem callSequencer_window (p : Part) : (callSequencer p).window = p.window := rfl
@[simp] theorem callSequencer_clock (p : Part) : (callSequencer p).clock = p.clock := rfl
@[simp] theorem callSequencer_track (p : Part) : (callSequencer p).track = p.track := rfl
@[simp] theorem callSequencer_cabins (p : Part) : (callSequencer p).cabins = p.cabins := rfl
@[simp] theorem callSequencer_rope (p : Part) : (callSequencer p).rope = p.rope := rfl
@[simp] theorem callSequencer_sensors (p : Part) : (callSequencer p).sensors = p.sensors := rfl
@[simp] theorem callSequencer_grip (p : Part) : (callSequencer p).grip = p.grip := rfl
@[simp] theorem callSequencer_launch (p : Part) : (callSequencer p).launch = p.launch := rfl
@[simp] theorem callSequencer_doors (p : Part) : (callSequencer p).doors = p.doors := rfl
@[simp] theorem callSequencer_sequencer (p : Part) : (callSequencer p).sequencer = p.sequencer := rfl
@[simp] theorem callSequencer_sup (p : Part) : (callSequencer p).sup = p.sup := rfl
@[simp] theorem callSequencer_line (p : Part) : (callSequencer p).line = p.line := rfl
@[simp] theorem callSequencer_messages (p : Part) : (callSequencer p).messages = p.messages := rfl
@[simp] theorem callSequencer_calls (p : Part) : (callSequencer p).calls = p.calls := rfl
@[simp] theorem callSequencer_work (p : Part) : (callSequencer p).work = { p.work with sequencer := true } := rfl

/-! ### `refreshPins` -/

@[simp] theorem refreshPins_window (p : Part) : (refreshPins p).window = { p.window with attn := attnFor p.window } := rfl
@[simp] theorem refreshPins_clock (p : Part) : (refreshPins p).clock = p.clock := rfl
@[simp] theorem refreshPins_track (p : Part) : (refreshPins p).track = p.track := rfl
@[simp] theorem refreshPins_cabins (p : Part) : (refreshPins p).cabins = p.cabins := rfl
@[simp] theorem refreshPins_rope (p : Part) : (refreshPins p).rope = p.rope := rfl
@[simp] theorem refreshPins_sensors (p : Part) : (refreshPins p).sensors = p.sensors := rfl
@[simp] theorem refreshPins_grip (p : Part) : (refreshPins p).grip = p.grip := rfl
@[simp] theorem refreshPins_launch (p : Part) : (refreshPins p).launch = p.launch := rfl
@[simp] theorem refreshPins_doors (p : Part) : (refreshPins p).doors = p.doors := rfl
@[simp] theorem refreshPins_sequencer (p : Part) : (refreshPins p).sequencer = p.sequencer := rfl
@[simp] theorem refreshPins_sup (p : Part) : (refreshPins p).sup = { p.sup with svcStop := svcStopFor p.sup, fastStop := fastStopFor p.sup } := rfl
@[simp] theorem refreshPins_line (p : Part) : (refreshPins p).line = p.line := rfl
@[simp] theorem refreshPins_messages (p : Part) : (refreshPins p).messages = p.messages := rfl
@[simp] theorem refreshPins_calls (p : Part) : (refreshPins p).calls = p.calls := rfl
@[simp] theorem refreshPins_work (p : Part) : (refreshPins p).work = p.work := rfl

/-! ### `modCabin` -/

@[simp] theorem modCabin_window (k : Nat) (f : CabinRecord → CabinRecord) (p : Part) : (modCabin k f p).window = p.window := by
  unfold modCabin; split <;> rfl
@[simp] theorem modCabin_clock (k : Nat) (f : CabinRecord → CabinRecord) (p : Part) : (modCabin k f p).clock = p.clock := by
  unfold modCabin; split <;> rfl
@[simp] theorem modCabin_track (k : Nat) (f : CabinRecord → CabinRecord) (p : Part) : (modCabin k f p).track = p.track := by
  unfold modCabin; split <;> rfl
@[simp] theorem modCabin_rope (k : Nat) (f : CabinRecord → CabinRecord) (p : Part) : (modCabin k f p).rope = p.rope := by
  unfold modCabin; split <;> rfl
@[simp] theorem modCabin_sensors (k : Nat) (f : CabinRecord → CabinRecord) (p : Part) : (modCabin k f p).sensors = p.sensors := by
  unfold modCabin; split <;> rfl
@[simp] theorem modCabin_grip (k : Nat) (f : CabinRecord → CabinRecord) (p : Part) : (modCabin k f p).grip = p.grip := by
  unfold modCabin; split <;> rfl
@[simp] theorem modCabin_launch (k : Nat) (f : CabinRecord → CabinRecord) (p : Part) : (modCabin k f p).launch = p.launch := by
  unfold modCabin; split <;> rfl
@[simp] theorem modCabin_doors (k : Nat) (f : CabinRecord → CabinRecord) (p : Part) : (modCabin k f p).doors = p.doors := by
  unfold modCabin; split <;> rfl
@[simp] theorem modCabin_sequencer (k : Nat) (f : CabinRecord → CabinRecord) (p : Part) : (modCabin k f p).sequencer = p.sequencer := by
  unfold modCabin; split <;> rfl
@[simp] theorem modCabin_sup (k : Nat) (f : CabinRecord → CabinRecord) (p : Part) : (modCabin k f p).sup = p.sup := by
  unfold modCabin; split <;> rfl
@[simp] theorem modCabin_line (k : Nat) (f : CabinRecord → CabinRecord) (p : Part) : (modCabin k f p).line = p.line := by
  unfold modCabin; split <;> rfl
@[simp] theorem modCabin_messages (k : Nat) (f : CabinRecord → CabinRecord) (p : Part) : (modCabin k f p).messages = p.messages := by
  unfold modCabin; split <;> rfl
@[simp] theorem modCabin_calls (k : Nat) (f : CabinRecord → CabinRecord) (p : Part) : (modCabin k f p).calls = p.calls := by
  unfold modCabin; split <;> rfl
@[simp] theorem modCabin_work (k : Nat) (f : CabinRecord → CabinRecord) (p : Part) : (modCabin k f p).work = p.work := by
  unfold modCabin; split <;> rfl

/-! ### `setPlace` -/

@[simp] theorem setPlace_window (k : Nat) (pl : Place) (p : Part) : (setPlace k pl p).window = p.window := by
  unfold setPlace modCabin; split <;> rfl
@[simp] theorem setPlace_clock (k : Nat) (pl : Place) (p : Part) : (setPlace k pl p).clock = p.clock := by
  unfold setPlace modCabin; split <;> rfl
@[simp] theorem setPlace_track (k : Nat) (pl : Place) (p : Part) : (setPlace k pl p).track = p.track := by
  unfold setPlace modCabin; split <;> rfl
@[simp] theorem setPlace_rope (k : Nat) (pl : Place) (p : Part) : (setPlace k pl p).rope = p.rope := by
  unfold setPlace modCabin; split <;> rfl
@[simp] theorem setPlace_sensors (k : Nat) (pl : Place) (p : Part) : (setPlace k pl p).sensors = p.sensors := by
  unfold setPlace modCabin; split <;> rfl
@[simp] theorem setPlace_grip (k : Nat) (pl : Place) (p : Part) : (setPlace k pl p).grip = p.grip := by
  unfold setPlace modCabin; split <;> rfl
@[simp] theorem setPlace_launch (k : Nat) (pl : Place) (p : Part) : (setPlace k pl p).launch = p.launch := by
  unfold setPlace modCabin; split <;> rfl
@[simp] theorem setPlace_doors (k : Nat) (pl : Place) (p : Part) : (setPlace k pl p).doors = p.doors := by
  unfold setPlace modCabin; split <;> rfl
@[simp] theorem setPlace_sequencer (k : Nat) (pl : Place) (p : Part) : (setPlace k pl p).sequencer = p.sequencer := by
  unfold setPlace modCabin; split <;> rfl
@[simp] theorem setPlace_sup (k : Nat) (pl : Place) (p : Part) : (setPlace k pl p).sup = p.sup := by
  unfold setPlace modCabin; split <;> rfl
@[simp] theorem setPlace_line (k : Nat) (pl : Place) (p : Part) : (setPlace k pl p).line = p.line := by
  unfold setPlace modCabin; split <;> rfl
@[simp] theorem setPlace_messages (k : Nat) (pl : Place) (p : Part) : (setPlace k pl p).messages = p.messages := by
  unfold setPlace modCabin; split <;> rfl
@[simp] theorem setPlace_calls (k : Nat) (pl : Place) (p : Part) : (setPlace k pl p).calls = p.calls := by
  unfold setPlace modCabin; split <;> rfl
@[simp] theorem setPlace_work (k : Nat) (pl : Place) (p : Part) : (setPlace k pl p).work = p.work := by
  unfold setPlace modCabin; split <;> rfl

/-! ### `setDoor` -/

@[simp] theorem setDoor_window (k : Nat) (d : CabinDoor) (p : Part) : (setDoor k d p).window = p.window := by
  unfold setDoor modCabin; split <;> rfl
@[simp] theorem setDoor_clock (k : Nat) (d : CabinDoor) (p : Part) : (setDoor k d p).clock = p.clock := by
  unfold setDoor modCabin; split <;> rfl
@[simp] theorem setDoor_track (k : Nat) (d : CabinDoor) (p : Part) : (setDoor k d p).track = p.track := by
  unfold setDoor modCabin; split <;> rfl
@[simp] theorem setDoor_rope (k : Nat) (d : CabinDoor) (p : Part) : (setDoor k d p).rope = p.rope := by
  unfold setDoor modCabin; split <;> rfl
@[simp] theorem setDoor_sensors (k : Nat) (d : CabinDoor) (p : Part) : (setDoor k d p).sensors = p.sensors := by
  unfold setDoor modCabin; split <;> rfl
@[simp] theorem setDoor_grip (k : Nat) (d : CabinDoor) (p : Part) : (setDoor k d p).grip = p.grip := by
  unfold setDoor modCabin; split <;> rfl
@[simp] theorem setDoor_launch (k : Nat) (d : CabinDoor) (p : Part) : (setDoor k d p).launch = p.launch := by
  unfold setDoor modCabin; split <;> rfl
@[simp] theorem setDoor_doors (k : Nat) (d : CabinDoor) (p : Part) : (setDoor k d p).doors = p.doors := by
  unfold setDoor modCabin; split <;> rfl
@[simp] theorem setDoor_sequencer (k : Nat) (d : CabinDoor) (p : Part) : (setDoor k d p).sequencer = p.sequencer := by
  unfold setDoor modCabin; split <;> rfl
@[simp] theorem setDoor_sup (k : Nat) (d : CabinDoor) (p : Part) : (setDoor k d p).sup = p.sup := by
  unfold setDoor modCabin; split <;> rfl
@[simp] theorem setDoor_line (k : Nat) (d : CabinDoor) (p : Part) : (setDoor k d p).line = p.line := by
  unfold setDoor modCabin; split <;> rfl
@[simp] theorem setDoor_messages (k : Nat) (d : CabinDoor) (p : Part) : (setDoor k d p).messages = p.messages := by
  unfold setDoor modCabin; split <;> rfl
@[simp] theorem setDoor_calls (k : Nat) (d : CabinDoor) (p : Part) : (setDoor k d p).calls = p.calls := by
  unfold setDoor modCabin; split <;> rfl
@[simp] theorem setDoor_work (k : Nat) (d : CabinDoor) (p : Part) : (setDoor k d p).work = { p.work with launch := true } := by
  unfold setDoor modCabin; split <;> rfl

/-! ### `refreshTone` -/

@[simp] theorem refreshTone_window (v : VoiceNo) (p : Part) : (refreshTone v p).window = p.window := by
  simp only [refreshTone]; split <;> rfl
@[simp] theorem refreshTone_clock (v : VoiceNo) (p : Part) : (refreshTone v p).clock = p.clock := by
  simp only [refreshTone]; split <;> rfl
@[simp] theorem refreshTone_track (v : VoiceNo) (p : Part) : (refreshTone v p).track = p.track := by
  simp only [refreshTone]; split <;> rfl
@[simp] theorem refreshTone_cabins (v : VoiceNo) (p : Part) : (refreshTone v p).cabins = p.cabins := by
  simp only [refreshTone]; split <;> rfl
@[simp] theorem refreshTone_rope (v : VoiceNo) (p : Part) : (refreshTone v p).rope = p.rope := by
  simp only [refreshTone]; split <;> rfl
@[simp] theorem refreshTone_sensors (v : VoiceNo) (p : Part) : (refreshTone v p).sensors = p.sensors := by
  simp only [refreshTone]; split <;> rfl
@[simp] theorem refreshTone_grip (v : VoiceNo) (p : Part) : (refreshTone v p).grip = p.grip := by
  simp only [refreshTone]; split <;> rfl
@[simp] theorem refreshTone_launch (v : VoiceNo) (p : Part) : (refreshTone v p).launch = p.launch := by
  simp only [refreshTone]; split <;> rfl
@[simp] theorem refreshTone_doors (v : VoiceNo) (p : Part) : (refreshTone v p).doors = p.doors := by
  simp only [refreshTone]; split <;> rfl
@[simp] theorem refreshTone_sequencer (v : VoiceNo) (p : Part) : (refreshTone v p).sequencer = p.sequencer := by
  simp only [refreshTone]; split <;> rfl
@[simp] theorem refreshTone_sup (v : VoiceNo) (p : Part) : (refreshTone v p).sup = p.sup := by
  simp only [refreshTone]; split <;> rfl
@[simp] theorem refreshTone_line (v : VoiceNo) (p : Part) : (refreshTone v p).line = p.line := by
  simp only [refreshTone]; split <;> rfl
@[simp] theorem refreshTone_messages (v : VoiceNo) (p : Part) : (refreshTone v p).messages = p.messages := by
  simp only [refreshTone]; split <;> rfl
@[simp] theorem refreshTone_work (v : VoiceNo) (p : Part) : (refreshTone v p).work = p.work := by
  simp only [refreshTone]; split <;> rfl

end Sys2Proof.Machine
end

