-- ==== Sys2Proof/Laws/Tables.lean ====
section
/-! SUPPORT. Reading an entry of a table after one entry has changed, or all have; slots, channels, voice slots, switches, cabins. -/

namespace Sys2Proof.Machine

theorem vector_get_eq {α : Type} {n : Nat} (t : Vector α n) (i : Fin n) : t.get i = t[i.val] := rfl

@[simp] theorem modTable_get_same {α : Type} {n : Nat} (t : Vector α n) (i : Fin n) (f : α → α) :
    (modTable t i f).get i = f (t.get i) := by
  simp [modTable, vector_get_eq]

@[simp] theorem modTable_get_ne {α : Type} {n : Nat} (t : Vector α n) (i j : Fin n) (f : α → α) (h : j ≠ i) :
    (modTable t i f).get j = t.get j := by
  have : i.val ≠ j.val := fun e => h (Fin.ext e.symm)
  simp [modTable, vector_get_eq, this]

theorem modTable_get {α : Type} {n : Nat} (t : Vector α n) (i j : Fin n) (f : α → α) :
    (modTable t i f).get j = if j = i then f (t.get j) else t.get j := by
  split
  · subst j; simp
  · simp [*]

@[simp] theorem mapTable_get {α β : Type} {n : Nat} (f : α → β) (t : Vector α n) (i : Fin n) :
    (mapTable f t).get i = f (t.get i) := by
  simp [mapTable, Vector.get]
  rfl

@[simp] theorem slotOf_modSlot_same (i : SlotNo) (f : Slot → Slot) (p : Part) : slotOf (modSlot i f p) i = f (slotOf p i) := by
  simp [slotOf]

@[simp] theorem slotOf_modSlot_ne (i j : SlotNo) (f : Slot → Slot) (p : Part) (h : j ≠ i) :
    slotOf (modSlot i f p) j = slotOf p j := by
  simp [slotOf, h]

@[simp] theorem slotOf_attend (i : SlotNo) (a : Attn) (p : Part) : slotOf (attend a p) i = slotOf p i := rfl

theorem slotOf_answer_same (i : SlotNo) (r : Result) (d : Nat) (p : Part) :
    slotOf (answer i r d p) i =
      { slotOf p i with state := .done, result := BitVec.ofNat 8 r.code, detail := BitVec.ofNat 8 d } := by
  simp [answer]

theorem slotOf_answer_ne (i j : SlotNo) (r : Result) (d : Nat) (p : Part) (h : j ≠ i) :
    slotOf (answer i r d p) j = slotOf p j := by
  simp [answer, h]

/-- What an answer does to the window (R194): the slot, and ORDER_DONE. -/
theorem answer_window (i : SlotNo) (r : Result) (d : Nat) (p : Part) :
    (answer i r d p).window.intake = p.window.intake ∧ (answer i r d p).window.latch = p.window.latch ∧
      (answer i r d p).window.attention = p.window.attention ||| 1 ∧
      (answer i r d p).window.attentionMask = p.window.attentionMask ∧ (answer i r d p).window.attnEnable = p.window.attnEnable ∧
      (answer i r d p).window.attn = p.window.attn ∧ (answer i r d p).window.softResets = p.window.softResets :=
  ⟨rfl, rfl, rfl, rfl, rfl, rfl, rfl⟩

@[simp] theorem slotOf_takeHead_same (i : SlotNo) (p : Part) : slotOf (takeHead i p) i = { slotOf p i with state := .taken } := by
  simp [takeHead, slotOf]

@[simp] theorem slotOf_takeHead_ne (i j : SlotNo) (p : Part) (h : j ≠ i) : slotOf (takeHead i p) j = slotOf p j := by
  simp [takeHead, slotOf, h]

theorem takeHead_window (i : SlotNo) (p : Part) :
    (takeHead i p).window.intake = p.window.intake.tail ∧ (takeHead i p).window.latch = p.window.latch ∧
      (takeHead i p).window.attention = p.window.attention ∧ (takeHead i p).window.attentionMask = p.window.attentionMask ∧
      (takeHead i p).window.attnEnable = p.window.attnEnable ∧ (takeHead i p).window.softResets = p.window.softResets :=
  ⟨rfl, rfl, rfl, rfl, rfl, rfl⟩

/-- The parameters of the order are read from the slot as it was posted (R192, R196). -/
@[simp] theorem octet_takeHead (i : SlotNo) (p : Part) (j : Nat) : octet (slotOf (takeHead i p) i) j = octet (slotOf p i) j := by
  simp [octet]

@[simp] theorem channel_modChannel_same (n : ChannelNo) (f : Channel → Channel) (p : Part) :
    channel (modChannel n f p) n = f (channel p n) := by
  simp [channel]

@[simp] theorem channel_modChannel_ne (n m : ChannelNo) (f : Channel → Channel) (p : Part) (h : m ≠ n) :
    channel (modChannel n f p) m = channel p m := by
  simp [channel, h]

@[simp] theorem callSlot_modCall_same (v : VoiceNo) (f : CallSlot → CallSlot) (p : Part) :
    callSlot (modCall v f p) v = f (callSlot p v) := by
  simp [callSlot]

@[simp] theorem callSlot_modCall_ne (v u : VoiceNo) (f : CallSlot → CallSlot) (p : Part) (h : u ≠ v) :
    callSlot (modCall v f p) u = callSlot p u := by
  simp [callSlot, h]

theorem cabin_modCabin_same (k : Nat) (f : CabinRecord → CabinRecord) (p : Part) (h : isCabin k = true) :
    cabin (modCabin k f p) k = f (cabin p k) := by
  have h' : 1 ≤ k ∧ k ≤ 128 := by simpa [isCabin] using h
  simp [cabin, modCabin, h']

theorem cabin_modCabin_ne (k j : Nat) (f : CabinRecord → CabinRecord) (p : Part) (h : j ≠ k) :
    cabin (modCabin k f p) j = cabin p j := by
  unfold cabin modCabin
  by_cases hk : 1 ≤ k ∧ k ≤ 128
  · by_cases hj : 1 ≤ j ∧ j ≤ 128
    · have e : (⟨j - 1, by omega⟩ : Fin 128) ≠ ⟨k - 1, by omega⟩ := by
        intro e; have := congrArg Fin.val e; simp at this; omega
      simp only [hk, hj, and_self, dite_true]
      exact modTable_get_ne _ _ _ _ e
    · simp [hj]
  · simp [hk]

end Sys2Proof.Machine
end

