-- ==== Sys2Proof/Laws/Frames.lean ====
section
/-! SUPPORT. What the end of an event leaves alone: the judgements, the causes, the doors' work and the calls' work keep the clock, the lists, the line, the messages, the grip test, the sensors, and the records but for their doors. -/

namespace Sys2Proof.Machine

/-- What no judgement and no door work touches: the clock, the track, the sensors, the grip test, the line, the messages, the records but
for their door states, and the window but for its slots, ATTENTION and ATTN. Everything else is blanked. -/
def Part.still (p : Part) : Part :=
  { window := { p.window with slots := Vector.replicate 32 {}, attention := 0, attn := false }
    clock := p.clock, track := p.track, cabins := mapTable (fun r => { r with door := .unknown }) p.cabins
    sensors := p.sensors, grip := p.grip, line := p.line, messages := p.messages }

/-- Two parts with the same still part agree in all of it. -/
theorem still_fields {p q : Part} (h : p.still = q.still) :
    p.clock = q.clock ∧ p.track = q.track ∧ p.sensors = q.sensors ∧ p.grip = q.grip ∧ p.line = q.line ∧ p.messages = q.messages ∧
      p.window.intake = q.window.intake ∧ p.window.latch = q.window.latch ∧ p.window.attentionMask = q.window.attentionMask ∧
      p.window.attnEnable = q.window.attnEnable ∧ p.window.softResets = q.window.softResets := by
  simp only [Part.still, Part.mk.injEq, Window.mk.injEq] at h
  simp [h]

/-- Two parts with the same still part have the same records but for their door states. -/
theorem still_cabins {p q : Part} (h : p.still = q.still) (i : Fin 128) :
    p.cabins.get i = { q.cabins.get i with door := (p.cabins.get i).door } := by
  have e : mapTable (fun r : CabinRecord => { r with door := .unknown }) p.cabins =
      mapTable (fun r : CabinRecord => { r with door := .unknown }) q.cabins := by
    simp only [Part.still, Part.mk.injEq] at h; exact h.2.2.2.1
  have g := congrArg (fun t => t.get i) e
  simp only [mapTable_get, CabinRecord.mk.injEq] at g
  cases hp : p.cabins.get i; cases hq : q.cabins.get i
  simp_all

theorem mapTable_modTable_same {α β : Type} {n : Nat} (f : α → β) (t : Vector α n) (i : Fin n) (g : α → α)
    (h : ∀ x, f (g x) = f x) : mapTable f (modTable t i g) = mapTable f t := by
  ext j hj
  have := mapTable_get f (modTable t i g) ⟨j, hj⟩
  have e := mapTable_get f t ⟨j, hj⟩
  simp only [vector_get_eq] at this e
  rw [this, e]
  have m := modTable_get t i ⟨j, hj⟩ g
  simp only [vector_get_eq] at m
  rw [m]; split <;> simp [h]


/-! ### Attention, slots and calls -/

@[simp] theorem still_attend (a : Attn) (p : Part) : (attend a p).still = p.still := rfl
@[simp] theorem still_modSlot (i : SlotNo) (f : Slot → Slot) (p : Part) : (modSlot i f p).still = p.still := rfl
@[simp] theorem still_answer (i : SlotNo) (r : Result) (d : Nat) (p : Part) : (answer i r d p).still = p.still := rfl
@[simp] theorem still_setProgress (i : SlotNo) (n : Nat) (p : Part) : (setProgress i n p).still = p.still := rfl
@[simp] theorem still_answerHeld (i : Option SlotNo) (r : Result) (d : Nat) (p : Part) : (answerHeld i r d p).still = p.still := by cases i <;> rfl
@[simp] theorem still_callLaunch (p : Part) : (callLaunch p).still = p.still := rfl
@[simp] theorem still_callArbiter (p : Part) : (callArbiter p).still = p.still := rfl
@[simp] theorem still_callSequencer (p : Part) : (callSequencer p).still = p.still := rfl
@[simp] theorem still_modCall (v : VoiceNo) (f : CallSlot → CallSlot) (p : Part) : (modCall v f p).still = p.still := rfl
@[simp] theorem still_enterCall (v : VoiceNo) (st : CallState) (p : Part) : (enterCall v st p).still = p.still := by
  simp only [enterCall]
  (repeat' split) <;> simp
@[simp] theorem still_answerCall (v : VoiceNo) (r : Result) (d : Nat) (p : Part) : (answerCall v r d p).still = p.still := by
  simp only [answerCall, still_modCall, still_answerHeld]
@[simp] theorem still_stopRinging (v : VoiceNo) (p : Part) : (stopRinging v p).still = p.still := rfl
@[simp] theorem still_startRinging (v : VoiceNo) (p : Part) : (startRinging v p).still = p.still := rfl
@[simp] theorem still_callToIdle (v : VoiceNo) (p : Part) : (callToIdle v p).still = p.still := by
  simp only [callToIdle, still_stopRinging, still_modCall, still_enterCall]
@[simp] theorem still_originate (v : VoiceNo) (o : Originator) (i : Option SlotNo) (p : Part) : (originate v o i p).still = p.still := by
  simp only [originate, still_enterCall, still_modCall]
@[simp] theorem still_alertRequest (p : Part) : (alertRequest p).still = p.still := by
  simp only [alertRequest]
  split
  · simp
  · rfl
@[simp] theorem still_refreshTone (v : VoiceNo) (p : Part) : (refreshTone v p).still = p.still := by
  simp only [refreshTone]
  (repeat' split) <;> simp
@[simp] theorem still_refreshPins (p : Part) : (refreshPins p).still = p.still := rfl

/-! ### The Supervisor -/

@[simp] theorem still_modSup (f : Supervisor → Supervisor) (p : Part) : (modSup f p).still = p.still := rfl
@[simp] theorem still_supAndRope (s : Supervisor) (r : Rope) (p : Part) : ({ p with sup := s, rope := r } : Part).still = p.still := rfl
@[simp] theorem still_rope (r : Rope) (p : Part) : ({ p with rope := r } : Part).still = p.still := rfl
@[simp] theorem still_composeCeiling (p : Part) : (composeCeiling p).still = p.still := by
  simp only [composeCeiling]
  (repeat' split) <;> simp
@[simp] theorem still_setCaps (c : Caps) (p : Part) : (setCaps c p).still = p.still := by
  simp only [setCaps]
  (repeat' split) <;> simp
@[simp] theorem still_setDoorCap (b : Bool) (p : Part) : (setDoorCap b p).still = p.still := by
  simp only [setDoorCap, still_setCaps]
@[simp] theorem still_setLinkCap (b : Bool) (p : Part) : (setLinkCap b p).still = p.still := by
  simp only [setLinkCap, still_setCaps]
@[simp] theorem still_setHoldCap (b : Bool) (p : Part) : (setHoldCap b p).still = p.still := by
  simp only [setHoldCap, still_setCaps]
@[simp] theorem still_applySwitch (n : ProfileName) (p : Part) : (applySwitch n p).still = p.still := by
  simp only [applySwitch, still_callLaunch, still_composeCeiling, still_attend, still_modSup]
@[simp] theorem still_applyPendingSwitch (p : Part) : (applyPendingSwitch p).still = p.still := by
  simp only [applyPendingSwitch]
  (repeat' split) <;> simp
@[simp] theorem still_noteStopEntry (m : Mode) (p : Part) : (noteStopEntry m p).still = p.still := by
  simp only [noteStopEntry]
  (repeat' split) <;> simp
@[simp] theorem still_alertOnFastStop (p : Part) : (alertOnFastStop p).still = p.still := by
  simp only [alertOnFastStop]
  (repeat' split) <;> simp
@[simp] theorem still_enterMode (m : Mode) (p : Part) : (enterMode m p).still = p.still := by
  simp only [enterMode]
  (repeat' split) <;> simp
@[simp] theorem still_standstillEvent (p : Part) : (standstillEvent p).still = p.still := by
  simp only [standstillEvent]
  (repeat' split) <;> simp
@[simp] theorem still_changeMode (m : Mode) (p : Part) : (changeMode m p).still = p.still := by
  simp only [changeMode]
  (repeat' split) <;> simp
@[simp] theorem still_report (k : CauseKind) (n : Nat) (c : Category) (b : Bool) (p : Part) : (report k n c b p).still = p.still := by
  simp only [report, still_changeMode, still_attend, still_modSup]
@[simp] theorem still_gone (k : CauseKind) (n : Nat) (p : Part) : (gone k n p).still = p.still := by
  simp only [gone]
  (repeat' split) <;> simp

/-! ### Launch Control -/

@[simp] theorem still_modLaunch (f : Launch → Launch) (p : Part) : (modLaunch f p).still = p.still := rfl
@[simp] theorem still_doors (d : Doors) (p : Part) : ({ p with doors := d } : Part).still = p.still := rfl
@[simp] theorem still_launchAndWork (l : Launch) (x : Work) (p : Part) : ({ p with launch := l, work := x } : Part).still = p.still := rfl
@[simp] theorem still_work (x : Work) (p : Part) : ({ p with work := x } : Part).still = p.still := rfl
@[simp] theorem still_sequencer (x : Sequencer) (p : Part) : ({ p with sequencer := x } : Part).still = p.still := rfl
@[simp] theorem still_requestRelease (p : Part) : (requestRelease p).still = p.still := by
  simp only [requestRelease, still_callArbiter, still_doors, still_modLaunch]
@[simp] theorem still_removeRequest (p : Part) : (removeRequest p).still = p.still := by
  simp only [removeRequest, still_doors, still_modLaunch]
@[simp] theorem still_judgeLaunch (p : Part) : (judgeLaunch p).still = p.still := by
  simp only [judgeLaunch]
  (repeat' split) <;> simp
@[simp] theorem still_judgeWatch (p : Part) : (judgeWatch p).still = p.still := by
  simp only [judgeWatch]
  (repeat' split) <;> simp
@[simp] theorem still_grantRetainer (p : Part) : (grantRetainer p).still = p.still := by
  simp only [grantRetainer]
  (repeat' split) <;> simp
@[simp] theorem still_endRelease (p : Part) : (endRelease p).still = p.still := by
  simp only [endRelease, still_callLaunch, still_modLaunch]

/-! ### The doors -/

@[simp] theorem still_modChannel (n : ChannelNo) (f : Channel → Channel) (p : Part) : (modChannel n f p).still = p.still := rfl
@[simp] theorem still_modSeq (f : Sequencer → Sequencer) (p : Part) : (modSeq f p).still = p.still := rfl
@[simp] theorem still_setDoor (k : Nat) (d : CabinDoor) (p : Part) : (setDoor k d p).still = p.still := by
  by_cases h : 1 ≤ k ∧ k ≤ 128
  · simp only [setDoor, modCabin, h, and_self, dite_true, Part.still, Part.mk.injEq, true_and, and_true]
    exact mapTable_modTable_same _ _ _ _ (fun _ => rfl)
  · simp only [setDoor, modCabin, h, dite_false]; rfl
@[simp] theorem still_writeOutcome (k : DoorKind) (o : DoorOutcome) (c : Nat) (p : Part) : (writeOutcome k o c p).still = p.still := by
  simp only [writeOutcome]
  (repeat' split) <;> simp
@[simp] theorem still_handOutcome (n : ChannelNo) (o : DoorOutcome) (p : Part) : (handOutcome n o p).still = p.still := by
  simp only [handOutcome]
  (repeat' split) <;> simp
@[simp] theorem still_tellOwner (n : ChannelNo) (o : DoorOutcome) (p : Part) : (tellOwner n o p).still = p.still := by
  simp only [tellOwner]
  (repeat' split) <;> simp
@[simp] theorem still_endOperation (n : ChannelNo) (o : DoorOutcome) (p : Part) : (endOperation n o p).still = p.still := by
  simp only [endOperation, still_modChannel, still_tellOwner]
@[simp] theorem still_joinQueue (n : ChannelNo) (p : Part) : (joinQueue n p).still = p.still := rfl
@[simp] theorem still_leaveQueue (n : ChannelNo) (p : Part) : (leaveQueue n p).still = p.still := rfl
@[simp] theorem still_stopOutputs (n : ChannelNo) (p : Part) : (stopOutputs n p).still = p.still := rfl
@[simp] theorem still_refreshDoorCap (p : Part) : (refreshDoorCap p).still = p.still := by
  simp only [refreshDoorCap, still_setDoorCap]
@[simp] theorem still_restIn (n : ChannelNo) (st : DoorState) (p : Part) : (restIn n st p).still = p.still := by
  simp only [restIn]
  (repeat' split) <;> simp
@[simp] theorem still_standAt (n : ChannelNo) (e : End) (p : Part) : (standAt n e p).still = p.still := by
  simp only [standAt, still_restIn]
@[simp] theorem still_enterFault (n : ChannelNo) (r : DoorReason) (p : Part) : (enterFault n r p).still = p.still := by
  simp only [enterFault]
  (repeat' split) <;> simp
@[simp] theorem still_enterWaiting (n : ChannelNo) (m : Motion) (p : Part) : (enterWaiting n m p).still = p.still := by
  simp only [enterWaiting, still_joinQueue, still_modChannel]
@[simp] theorem still_finishAt (n : ChannelNo) (e : End) (o : DoorOutcome) (p : Part) : (finishAt n e o p).still = p.still := by
  simp only [finishAt, still_endOperation, still_standAt]
@[simp] theorem still_enterLocking (n : ChannelNo) (p : Part) : (enterLocking n p).still = p.still := by
  simp only [enterLocking]
  (repeat' split) <;> simp
@[simp] theorem still_enterUnlocking (n : ChannelNo) (p : Part) : (enterUnlocking n p).still = p.still := by
  simp only [enterUnlocking]
  (repeat' split) <;> simp
@[simp] theorem still_automaticReturn (n : ChannelNo) (p : Part) : (automaticReturn n p).still = p.still := by
  simp only [automaticReturn, still_enterWaiting, still_modChannel]
@[simp] theorem still_arriveMove (n : ChannelNo) (e : End) (p : Part) : (arriveMove n e p).still = p.still := by
  simp only [arriveMove]
  (repeat' split) <;> simp
@[simp] theorem still_retryMove (n : ChannelNo) (p : Part) : (retryMove n p).still = p.still := by
  simp only [retryMove]
  (repeat' split) <;> simp
@[simp] theorem still_enterDwell (n : ChannelNo) (p : Part) : (enterDwell n p).still = p.still := by
  simp only [enterDwell]
  (repeat' split) <;> simp
@[simp] theorem still_arriveReversal (n : ChannelNo) (p : Part) : (arriveReversal n p).still = p.still := by
  simp only [arriveReversal]
  (repeat' split) <;> simp
@[simp] theorem still_startMotion (n : ChannelNo) (p : Part) : (startMotion n p).still = p.still := by
  simp only [startMotion]
  (repeat' split) <;> simp
@[simp] theorem still_operateFromRest (n : ChannelNo) (t : End) (p : Part) : (operateFromRest n t p).still = p.still := by
  simp only [operateFromRest]
  (repeat' split) <;> simp
@[simp] theorem still_turnBack (n : ChannelNo) (t : End) (p : Part) : (turnBack n t p).still = p.still := by
  simp only [turnBack]
  (repeat' split) <;> simp
@[simp] theorem still_retarget (n : ChannelNo) (t : End) (p : Part) : (retarget n t p).still = p.still := by
  simp only [retarget]
  (repeat' split) <;> simp
@[simp] theorem still_operateTakeover (n : ChannelNo) (t : End) (p : Part) : (operateTakeover n t p).still = p.still := by
  simp only [operateTakeover]
  (repeat' split) <;> simp
theorem still_takeOperation (n : ChannelNo) (t : End) (claim : Part → Part) (h : ∀ q, (claim q).still = q.still) (p : Part) :
    (takeOperation n t claim p).still = p.still := by
  simp only [takeOperation, still_operateTakeover, still_modChannel, h, still_tellOwner]
@[simp] theorem still_haltChannel (n : ChannelNo) (p : Part) : (haltChannel n p).still = p.still := by
  simp only [haltChannel]
  (repeat' split) <;> simp
@[simp] theorem still_leaveEnd (n : ChannelNo) (p : Part) : (leaveEnd n p).still = p.still := by
  simp only [leaveEnd, still_attend, still_endOperation, still_modChannel]
@[simp] theorem still_findLimit (n : ChannelNo) (p : Part) : (findLimit n p).still = p.still := by
  simp only [findLimit]
  (repeat' split) <;> simp
@[simp] theorem still_dropLockRel (n : ChannelNo) (p : Part) : (dropLockRel n p).still = p.still := by
  simp only [dropLockRel]
  (repeat' split) <;> simp
@[simp] theorem still_judgeLimits (n : ChannelNo) (p : Part) : (judgeLimits n p).still = p.still := by
  simp only [judgeLimits]
  (repeat' split) <;> simp
@[simp] theorem still_judgeLock (n : ChannelNo) (p : Part) : (judgeLock n p).still = p.still := by
  simp only [judgeLock]
  (repeat' split) <;> simp
@[simp] theorem still_judgeTimers (n : ChannelNo) (p : Part) : (judgeTimers n p).still = p.still := by
  simp only [judgeTimers]
  (repeat' split) <;> simp
@[simp] theorem still_judgeCurrent (n : ChannelNo) (p : Part) : (judgeCurrent n p).still = p.still := by
  simp only [judgeCurrent]
  (repeat' split) <;> simp

/-! ### The arbiter, the Door Sequencer and the end of an event -/

@[simp] theorem still_handGrant (r : Requester) (p : Part) : (handGrant r p).still = p.still := by
  simp only [handGrant]
  (repeat' split) <;> simp
@[simp] theorem still_judgeArbiter (p : Part) : (judgeArbiter p).still = p.still := by
  simp only [judgeArbiter]
  (repeat' split) <;> simp
@[simp] theorem still_dropCondition (p : Part) : (dropCondition p).still = p.still := rfl
@[simp] theorem still_claimForAction (a : Action) (p : Part) : (claimForAction a p).still = p.still := rfl
@[simp] theorem still_issueAction (a : Action) (p : Part) : (issueAction a p).still = p.still := by
  simp only [issueAction]
  split
  · simp only [still_handOutcome, still_modSeq]
  · exact still_takeOperation _ _ _ (still_claimForAction a) p
@[simp] theorem still_judgeActions (b : Bool) (c : List ChannelNo) (l : List Action) (p : Part) :
    (judgeActions b c l p).2.still = p.still := by
  induction l generalizing c p with
  | nil => rfl
  | cons a t ih => simp only [judgeActions]; (repeat' split) <;> simp [ih]
@[simp] theorem still_judgeSequencer (b : Bool) (p : Part) : (judgeSequencer b p).still = p.still := by
  simp only [judgeSequencer, still_modSeq, still_judgeActions]
@[simp] theorem still_settleOnce (p : Part) : (settleOnce p).still = p.still := by
  simp only [settleOnce]
  (repeat' split) <;> simp
@[simp] theorem still_settle (n : Nat) (p : Part) : (settle n p).still = p.still := by
  induction n generalizing p with
  | zero => simp only [settle]; split <;> simp
  | succ n ih => simp only [settle]; split <;> simp [ih]

/-- The end of an event leaves the still part as the event left it. -/
@[simp] theorem still_finish (p : Part) : (finish p).still = p.still := by
  simp only [finish, still_refreshPins, still_refreshTone, still_work, still_settle]

end Sys2Proof.Machine
end

