-- ==== Sys2Proof/Laws/Events.lean ====
section
/-! SUPPORT. How every event and every order acts: what `occurs`, `atOnce` and `longRunning` answer, once and whole, and what the end of an event leaves of the window and of the judgements. -/

namespace Sys2Proof.Machine

/-! ### Events -/

/-- An event that has come about outside a software reset acts on the part and ends. -/
theorem occurs_acts {g : Part → Bool} {f : Part → Part} {s : State} (hb : s.before = none) (hg : g s.part = true) :
    occurs g f s = .next { s with part := finish (f s.part) } := by
  simp [occurs, hb, hg]

/-- While a software reset is carried out no event acts (R198). -/
theorem occurs_during_reset {g : Part → Bool} {f : Part → Part} {s : State} (hb : s.before.isSome = true) :
    occurs g f s = .next s := by
  simp [occurs, hb]

/-- What the command names has not come about: nothing happens. -/
theorem occurs_not {g : Part → Bool} {f : Part → Part} {s : State} (hg : g s.part = false) : occurs g f s = .next s := by
  simp [occurs, hg]

/-- All that an event can answer. -/
theorem occurs_cases {g : Part → Bool} {f : Part → Part} {s t : State} (h : occurs g f s = .next t) :
    (t = s ∧ (s.before.isSome = true ∨ g s.part = false)) ∨
      (s.before = none ∧ g s.part = true ∧ t = { s with part := finish (f s.part) }) := by
  simp only [occurs] at h
  split at h
  · rename_i c
    refine .inl ⟨by simpa using h.symm, ?_⟩
    simpa using c
  · rename_i c
    simp only [Bool.or_eq_true, Bool.not_eq_true', not_or, Bool.not_eq_true, Bool.not_eq_false] at c
    exact .inr ⟨by simpa using c.1, c.2, by simpa using h.symm⟩

/-- An event answers a next state. -/
theorem occurs_next (g : Part → Bool) (f : Part → Part) (s : State) :
    ∃ t, occurs g f s = .next t ∧ t.before = s.before ∧ t.busData = s.busData ∧ t.readChoices = s.readChoices ∧ t.pending = s.pending := by
  simp only [occurs]; split
  · exact ⟨s, rfl, rfl, rfl, rfl, rfl⟩
  · exact ⟨_, rfl, rfl, rfl, rfl, rfl⟩

/-! ### Orders -/

theorem orderNext_of {i : SlotNo} {k : Byte} {p : Part} (h : p.window.intake.head? = some i) (hk : (slotOf p i).kind = k) :
    orderNext i (fun j => j == k) p = true := by
  simp [orderNext, h, hk]

/-- An order answered at once: taken from the head, carried out, answered (R193, R194). -/
theorem atOnce_acts {i : SlotNo} {k : Byte} {body : Slot → Part → Reply} {s : State} (hb : s.before = none)
    (hi : s.part.window.intake.head? = some i) (hk : (slotOf s.part i).kind = k) :
    let r := body (slotOf s.part i) (takeHead i s.part)
    atOnce i k body s = .next { s with part := finish (answer i r.result r.detail r.part) } := by
  intro r; rw [atOnce, occurs_acts hb (orderNext_of hi hk)]

/-- A long-running order that finds fewer than 24 held is handed to its block (R193). -/
theorem longRunning_acts {i : SlotNo} {k : Byte} {body : Slot → Part → Part} {s : State} (hb : s.before = none)
    (hi : s.part.window.intake.head? = some i) (hk : (slotOf s.part i).kind = k) (hn : longOrdersHeld s.part.window < 24) :
    longRunning i k body s = .next { s with part := finish (body (slotOf s.part i) (takeHead i s.part)) } := by
  rw [longRunning, occurs_acts hb (orderNext_of hi hk), if_neg (by simpa [Config.longOrdersMax] using hn)]

/-- A long-running order that finds 24 held is answered NO_CAPACITY (R193). -/
theorem longRunning_turned_away {i : SlotNo} {k : Byte} {body : Slot → Part → Part} {s : State} (hb : s.before = none)
    (hi : s.part.window.intake.head? = some i) (hk : (slotOf s.part i).kind = k) (hn : 24 ≤ longOrdersHeld s.part.window) :
    longRunning i k body s = .next { s with part := finish (answer i .noCapacity 0 (takeHead i s.part)) } := by
  rw [longRunning, occurs_acts hb (orderNext_of hi hk), if_pos (by simpa [Config.longOrdersMax] using hn)]

/-! ### The end of an event -/

/-- An event that has called for no judgement ends with the tones and the pins alone. -/
theorem settle_quiet (n : Nat) (p : Part) (h : p.work.quiet = true) : settle n p = p := by
  cases n with
  | zero => simp only [Work.quiet, Bool.and_eq_true, Bool.not_eq_true'] at h; simp [settle, h.1.1]
  | succ n => simp [settle, h]

/-- What each judgement keeps, the judgements called for keep. -/
theorem settle_keeps {P : Part → Prop} (once : ∀ p, P p → P (settleOnce p)) (judge : ∀ p, P p → P (judgeLaunch p)) (n : Nat)
    {p : Part} (h : P p) : P (settle n p) := by
  induction n generalizing p with
  | zero => simp only [settle]; split
            · exact judge p h
            · exact h
  | succ n ih => simp only [settle]; split
                 · exact h
                 · exact ih (once p h)

theorem finish_quiet (p : Part) (h : p.work = {}) : finish p = refreshPins (refreshTone 1 (refreshTone 0 p)) := by
  have e : ({ p with work := ({} : Work) } : Part) = p := by cases p; simp_all
  have q : p.work.quiet = true := by rw [h]; rfl
  rw [finish, settle_quiet 64 p q, e]

/-- Nothing is left to judge after an event. -/
@[simp] theorem finish_work (p : Part) : (finish p).work = {} := by
  simp only [finish, refreshPins_work, refreshTone_work]

/-- Bringing the pins up to date leaves them as the state asks. -/
theorem refreshPins_pins (p : Part) :
    (refreshPins p).sup.svcStop = svcStopFor (refreshPins p).sup ∧ (refreshPins p).sup.fastStop = fastStopFor (refreshPins p).sup ∧
      (refreshPins p).window.attn = attnFor (refreshPins p).window := ⟨rfl, rfl, rfl⟩

/-- The stop outputs and ATTN follow the state after an event (R124, R191). -/
theorem finish_pins (p : Part) :
    (finish p).sup.svcStop = svcStopFor (finish p).sup ∧ (finish p).sup.fastStop = fastStopFor (finish p).sup ∧
      (finish p).window.attn = attnFor (finish p).window := refreshPins_pins _

/-- A tone already in order needs no refreshing. -/
theorem refreshTone_same (v : VoiceNo) (p : Part) (h : (callSlot p v).tone = toneFor (callSlot p v)) : refreshTone v p = p := by
  simp [refreshTone, h]

theorem refreshTone_tone (v : VoiceNo) (p : Part) : (callSlot (refreshTone v p) v).tone = toneFor (callSlot (refreshTone v p) v) := by
  simp only [refreshTone]
  split
  · rename_i h; exact (by simpa using h : toneFor (callSlot p v) = (callSlot p v).tone).symm
  · rw [callSlot_modCall_same]; rfl

theorem refreshTone_other (v u : VoiceNo) (p : Part) (h : u ≠ v) : callSlot (refreshTone v p) u = callSlot p u := by
  simp only [refreshTone]
  split
  · rfl
  · exact callSlot_modCall_ne v u _ p h

/-- The tones follow the call states after an event (R174). -/
theorem finish_tones (p : Part) (v : VoiceNo) : (callSlot (finish p) v).tone = toneFor (callSlot (finish p) v) := by
  have pins : ∀ q : Part, callSlot (refreshPins q) v = callSlot q v := fun _ => rfl
  rw [finish, pins]
  match v with
  | 0 => rw [refreshTone_other 1 0 _ (by decide)]; exact refreshTone_tone 0 _
  | 1 => exact refreshTone_tone 1 _

/-- The pins in order already stay as they are. -/
theorem refreshPins_same (p : Part) (h1 : p.sup.svcStop = svcStopFor p.sup) (h2 : p.sup.fastStop = fastStopFor p.sup)
    (h3 : p.window.attn = attnFor p.window) : refreshPins p = p := by
  simp only [refreshPins, ← h1, ← h2, ← h3]

/-! ### Bursts -/

/-- The bits of a burst are the 32 bits of its octet repeated, from one of the octet's eight bits on. -/
theorem isBurstOf_iff (octet : Byte) (received : BitVec 32) :
    isBurstOf octet received = true ↔ ∃ k < 8, received = (burstBits octet).rotateLeft k := by
  simp [isBurstOf, List.any_eq_true]

/-- Bits of neither burst leave the part. -/
theorem hearBits_neither {received : BitVec 32} (hw : isBurstOf Config.wakeOctet received = false)
    (ha : isBurstOf Config.answerOctet received = false) (p : Part) : hearBits received p = p := by
  rw [hearBits, if_neg (ne_true_of_eq_false hw), if_neg (ne_true_of_eq_false ha)]

/-- A probe sent leaves all but the probe, its start and the burst. -/
theorem sendProbe_line (forOrder : Bool) (p : Part) :
    (sendProbe forOrder p).line = { p.line with
      probe := some { start := p.clock.now, forOrder := forOrder }, probeStart := p.clock.now, sentBurst := wakeBurst } := rfl

end Sys2Proof.Machine
end

