-- ==== Sys2Proof/Laws/PerInstr.lean ====
section
/-! SUPPORT. The family CommandShape: what well-formedness asks of a command's operands, and that no word spells it. -/

namespace Sys2Proof.Laws.CommandShape

open Sys2Proof

/-- The ranges that the manual gives the operands of a command, beyond their types (R3, R4, R10, R174, section 8.1). -/
def OperandsInRange (i : Instr) : Prop :=
  match i with
  | .stationPassage d => d = 2 ∨ d = 3 ∨ d = 4 ∨ d = 5 ∨ d = 6
  | .frameTick mic0 mic1 => mic0.length = 16 ∧ mic1.length = 16
  | .tagReport r => ∀ n, r = some n → n ≤ 255
  | .summitAnswer f | .trainingSuccess f | .lineLoss f | .qualityEvent f | .transferRefused f | .ringingOut _ f =>
    ∀ x, f = some x → x.octets.length ≤ 48
  | _ => True

/-- A command is well formed exactly where its operands lie in their ranges, and no word spells it. -/
def Statement (i : Instr) : Prop := (i.wf = true ↔ OperandsInRange i) ∧ ∀ nbits w, decodeTableWord nbits w ≠ some i

/-- No word spells a command (log entry 49). -/
theorem no_word (i : Instr) (nbits w : Nat) : decodeTableWord nbits w ≠ some i := by simp [decodeTableWord]

/-- A frame operand is well formed where it has at most 48 octets. -/
theorem frameOk_iff (f : Option SummitFrame) : frameOk f = true ↔ ∀ x, f = some x → x.octets.length ≤ 48 := by
  cases f <;> simp [frameOk]

theorem cabinRegister (slot : SlotNo) : Statement (.cabinRegister slot) := ⟨iff_of_true rfl trivial, no_word _⟩
theorem cabinUnregister (slot : SlotNo) : Statement (.cabinUnregister slot) := ⟨iff_of_true rfl trivial, no_word _⟩
theorem cabinPlace (slot : SlotNo) : Statement (.cabinPlace slot) := ⟨iff_of_true rfl trivial, no_word _⟩
theorem cabinSetService (slot : SlotNo) : Statement (.cabinSetService slot) := ⟨iff_of_true rfl trivial, no_word _⟩
theorem cabinIdentify (slot : SlotNo) : Statement (.cabinIdentify slot) := ⟨iff_of_true rfl trivial, no_word _⟩
theorem rosterLoad (slot : SlotNo) : Statement (.rosterLoad slot) := ⟨iff_of_true rfl trivial, no_word _⟩
theorem stationQueueLoad (slot : SlotNo) : Statement (.stationQueueLoad slot) := ⟨iff_of_true rfl trivial, no_word _⟩
theorem sensorConfigure (slot : SlotNo) : Statement (.sensorConfigure slot) := ⟨iff_of_true rfl trivial, no_word _⟩
theorem doorConfigure (slot : SlotNo) : Statement (.doorConfigure slot) := ⟨iff_of_true rfl trivial, no_word _⟩
theorem doorMove (slot : SlotNo) : Statement (.doorMove slot) := ⟨iff_of_true rfl trivial, no_word _⟩
theorem doorHalt (slot : SlotNo) : Statement (.doorHalt slot) := ⟨iff_of_true rfl trivial, no_word _⟩
theorem doorResetFault (slot : SlotNo) : Statement (.doorResetFault slot) := ⟨iff_of_true rfl trivial, no_word _⟩
theorem startBudgetSet (slot : SlotNo) : Statement (.startBudgetSet slot) := ⟨iff_of_true rfl trivial, no_word _⟩
theorem doorProgramLoad (slot : SlotNo) : Statement (.doorProgramLoad slot) := ⟨iff_of_true rfl trivial, no_word _⟩
theorem cabinDoorConfirm (slot : SlotNo) : Statement (.cabinDoorConfirm slot) := ⟨iff_of_true rfl trivial, no_word _⟩
theorem stationPrepare (slot : SlotNo) : Statement (.stationPrepare slot) := ⟨iff_of_true rfl trivial, no_word _⟩
theorem stationStart (slot : SlotNo) : Statement (.stationStart slot) := ⟨iff_of_true rfl trivial, no_word _⟩
theorem stationStop (slot : SlotNo) : Statement (.stationStop slot) := ⟨iff_of_true rfl trivial, no_word _⟩
theorem stationFastStop (slot : SlotNo) : Statement (.stationFastStop slot) := ⟨iff_of_true rfl trivial, no_word _⟩
theorem stationOff (slot : SlotNo) : Statement (.stationOff slot) := ⟨iff_of_true rfl trivial, no_word _⟩
theorem causeAcknowledge (slot : SlotNo) : Statement (.causeAcknowledge slot) := ⟨iff_of_true rfl trivial, no_word _⟩
theorem profileWrite (slot : SlotNo) : Statement (.profileWrite slot) := ⟨iff_of_true rfl trivial, no_word _⟩
theorem profileSwitch (slot : SlotNo) : Statement (.profileSwitch slot) := ⟨iff_of_true rfl trivial, no_word _⟩
theorem lineConfigure (slot : SlotNo) : Statement (.lineConfigure slot) := ⟨iff_of_true rfl trivial, no_word _⟩
theorem lineStart (slot : SlotNo) : Statement (.lineStart slot) := ⟨iff_of_true rfl trivial, no_word _⟩
theorem lineProbe (slot : SlotNo) : Statement (.lineProbe slot) := ⟨iff_of_true rfl trivial, no_word _⟩
theorem lineDormant (slot : SlotNo) : Statement (.lineDormant slot) := ⟨iff_of_true rfl trivial, no_word _⟩
theorem lineSetIndications (slot : SlotNo) : Statement (.lineSetIndications slot) := ⟨iff_of_true rfl trivial, no_word _⟩
theorem messageSend (slot : SlotNo) : Statement (.messageSend slot) := ⟨iff_of_true rfl trivial, no_word _⟩
theorem callPlace (slot : SlotNo) : Statement (.callPlace slot) := ⟨iff_of_true rfl trivial, no_word _⟩
theorem callClear (slot : SlotNo) : Statement (.callClear slot) := ⟨iff_of_true rfl trivial, no_word _⟩
theorem callConfigure (slot : SlotNo) : Statement (.callConfigure slot) := ⟨iff_of_true rfl trivial, no_word _⟩
theorem unknownKind (slot : SlotNo) : Statement (.unknownKind slot) := ⟨iff_of_true rfl trivial, no_word _⟩
theorem orderWithdraw (slot : SlotNo) : Statement (.orderWithdraw slot) := ⟨iff_of_true rfl trivial, no_word _⟩
theorem orderSlotFree (slot : SlotNo) : Statement (.orderSlotFree slot) := ⟨iff_of_true rfl trivial, no_word _⟩
theorem receiveSlotEmpty (slot : Fin 4) : Statement (.receiveSlotEmpty slot) := ⟨iff_of_true rfl trivial, no_word _⟩
theorem softReset : Statement (.softReset) := ⟨iff_of_true rfl trivial, no_word _⟩
theorem softResetDone : Statement (.softResetDone) := ⟨iff_of_true rfl trivial, no_word _⟩
theorem attnEnable (on : Bool) : Statement (.attnEnable on) := ⟨iff_of_true rfl trivial, no_word _⟩
theorem attentionClear (bits : Half) : Statement (.attentionClear bits) := ⟨iff_of_true rfl trivial, no_word _⟩
theorem attentionMask (bits : Half) : Statement (.attentionMask bits) := ⟨iff_of_true rfl trivial, no_word _⟩
theorem latchedLowRead (addr : BitVec 13) : Statement (.latchedLowRead addr) := ⟨iff_of_true rfl trivial, no_word _⟩
theorem latchedHighRead (addr : BitVec 13) : Statement (.latchedHighRead addr) := ⟨iff_of_true rfl trivial, no_word _⟩
theorem hostWrite (addr : BitVec 13) (data : Half) (lowEnable : Bool) (highEnable : Bool) : Statement (.hostWrite addr data lowEnable highEnable) := ⟨iff_of_true rfl trivial, no_word _⟩
theorem powerOnReset : Statement (.powerOnReset) := ⟨iff_of_true rfl trivial, no_word _⟩
theorem sampleTick (inputs : SampleInputs) : Statement (.sampleTick inputs) := ⟨iff_of_true rfl trivial, no_word _⟩
theorem frameTick (mic0 : List Byte) (mic1 : List Byte) : Statement (.frameTick mic0 mic1) := by
  refine ⟨?_, no_word _⟩
  simp [Instr.wf, micOk, OperandsInRange]
theorem secondTick : Statement (.secondTick) := ⟨iff_of_true rfl trivial, no_word _⟩
theorem callDurationSecond (voice : VoiceNo) : Statement (.callDurationSecond voice) := ⟨iff_of_true rfl trivial, no_word _⟩
theorem tagReport (report : Option Nat) : Statement (.tagReport report) := by
  refine ⟨?_, no_word _⟩
  cases report with
  | none => simp [Instr.wf, tagOk, OperandsInRange]
  | some n =>
    simp only [Instr.wf, tagOk, OperandsInRange, decide_eq_true_eq, Option.some.injEq, forall_eq']
    omega
theorem d1Passage : Statement (.d1Passage) := ⟨iff_of_true rfl trivial, no_word _⟩
theorem stationPassage (detector : Nat) : Statement (.stationPassage detector) := by
  refine ⟨?_, no_word _⟩
  simp only [Instr.wf, stationDetectorOk, OperandsInRange, Bool.and_eq_true, decide_eq_true_eq]
  omega
theorem exitPassage : Statement (.exitPassage) := ⟨iff_of_true rfl trivial, no_word _⟩
theorem switchChange (channel : Fin 8) : Statement (.switchChange channel) := ⟨iff_of_true rfl trivial, no_word _⟩
theorem retclosedChange : Statement (.retclosedChange) := ⟨iff_of_true rfl trivial, no_word _⟩
theorem hookEvent (voice : VoiceNo) : Statement (.hookEvent voice) := ⟨iff_of_true rfl trivial, no_word _⟩
theorem doorChannelStep (channel : ChannelNo) (inputs : ChannelInputs) : Statement (.doorChannelStep channel inputs) := ⟨iff_of_true rfl trivial, no_word _⟩
theorem converterScan (answers : ScanAnswers) : Statement (.converterScan answers) := ⟨iff_of_true rfl trivial, no_word _⟩
theorem summitAnswer (frame : Option SummitFrame) : Statement (.summitAnswer frame) := ⟨frameOk_iff frame, no_word _⟩
theorem summitWakeBurst : Statement (.summitWakeBurst) := ⟨iff_of_true rfl trivial, no_word _⟩
theorem answerBurst : Statement (.answerBurst) := ⟨iff_of_true rfl trivial, no_word _⟩
theorem tagReportExpiry : Statement (.tagReportExpiry) := ⟨iff_of_true rfl trivial, no_word _⟩
theorem tagPassageExpiry : Statement (.tagPassageExpiry) := ⟨iff_of_true rfl trivial, no_word _⟩
theorem retainPulseTimeout : Statement (.retainPulseTimeout) := ⟨iff_of_true rfl trivial, no_word _⟩
theorem releaseTimeout : Statement (.releaseTimeout) := ⟨iff_of_true rfl trivial, no_word _⟩
theorem closingWindowExpiry : Statement (.closingWindowExpiry) := ⟨iff_of_true rfl trivial, no_word _⟩
theorem lockTimeout (channel : ChannelNo) (inputs : ChannelInputs) : Statement (.lockTimeout channel inputs) := ⟨iff_of_true rfl trivial, no_word _⟩
theorem travelTimeout (channel : ChannelNo) (inputs : ChannelInputs) : Statement (.travelTimeout channel inputs) := ⟨iff_of_true rfl trivial, no_word _⟩
theorem reopenDwellEnd (channel : ChannelNo) (inputs : ChannelInputs) : Statement (.reopenDwellEnd channel inputs) := ⟨iff_of_true rfl trivial, no_word _⟩
theorem obstruction (channel : ChannelNo) (inputs : ChannelInputs) : Statement (.obstruction channel inputs) := ⟨iff_of_true rfl trivial, no_word _⟩
theorem grantWindowExpiry : Statement (.grantWindowExpiry) := ⟨iff_of_true rfl trivial, no_word _⟩
theorem actionDue : Statement (.actionDue) := ⟨iff_of_true rfl trivial, no_word _⟩
theorem startFailed : Statement (.startFailed) := ⟨iff_of_true rfl trivial, no_word _⟩
theorem linkGraceExpiry : Statement (.linkGraceExpiry) := ⟨iff_of_true rfl trivial, no_word _⟩
theorem standstillByTime : Statement (.standstillByTime) := ⟨iff_of_true rfl trivial, no_word _⟩
theorem standstill (inputs : SampleInputs) : Statement (.standstill inputs) := ⟨iff_of_true rfl trivial, no_word _⟩
theorem encoderFaulted (inputs : SampleInputs) : Statement (.encoderFaulted inputs) := ⟨iff_of_true rfl trivial, no_word _⟩
theorem encoderReturned (inputs : SampleInputs) : Statement (.encoderReturned inputs) := ⟨iff_of_true rfl trivial, no_word _⟩
theorem rollback (inputs : SampleInputs) : Statement (.rollback inputs) := ⟨iff_of_true rfl trivial, no_word _⟩
theorem overspeed (inputs : SampleInputs) : Statement (.overspeed inputs) := ⟨iff_of_true rfl trivial, no_word _⟩
theorem converterFault (answers : ScanAnswers) : Statement (.converterFault answers) := ⟨iff_of_true rfl trivial, no_word _⟩
theorem gripSamplesReached (answers : ScanAnswers) : Statement (.gripSamplesReached answers) := ⟨iff_of_true rfl trivial, no_word _⟩
theorem probeInterval : Statement (.probeInterval) := ⟨iff_of_true rfl trivial, no_word _⟩
theorem probeListenEnd : Statement (.probeListenEnd) := ⟨iff_of_true rfl trivial, no_word _⟩
theorem probesExhausted : Statement (.probesExhausted) := ⟨iff_of_true rfl trivial, no_word _⟩
theorem trainingAttemptFailed : Statement (.trainingAttemptFailed) := ⟨iff_of_true rfl trivial, no_word _⟩
theorem trainingSuccess (frame : Option SummitFrame) : Statement (.trainingSuccess frame) := ⟨frameOk_iff frame, no_word _⟩
theorem lineLoss (frame : Option SummitFrame) : Statement (.lineLoss frame) := ⟨frameOk_iff frame, no_word _⟩
theorem qualityEvent (frame : Option SummitFrame) : Statement (.qualityEvent frame) := ⟨frameOk_iff frame, no_word _⟩
theorem backoffExpiry : Statement (.backoffExpiry) := ⟨iff_of_true rfl trivial, no_word _⟩
theorem sleepIntervalExpiry : Statement (.sleepIntervalExpiry) := ⟨iff_of_true rfl trivial, no_word _⟩
theorem transferRefused (frame : Option SummitFrame) : Statement (.transferRefused frame) := ⟨frameOk_iff frame, no_word _⟩
theorem ringingOut (voice : VoiceNo) (frame : Option SummitFrame) : Statement (.ringingOut voice frame) := ⟨frameOk_iff frame, no_word _⟩
theorem noAnswerTimeout (voice : VoiceNo) : Statement (.noAnswerTimeout voice) := ⟨iff_of_true rfl trivial, no_word _⟩
theorem guardExpiry (voice : VoiceNo) : Statement (.guardExpiry voice) := ⟨iff_of_true rfl trivial, no_word _⟩
theorem ringerCadence (voice : VoiceNo) : Statement (.ringerCadence voice) := ⟨iff_of_true rfl trivial, no_word _⟩
theorem millisecondCount : Statement (.millisecondCount) := ⟨iff_of_true rfl trivial, no_word _⟩

end Sys2Proof.Laws.CommandShape
end

