-- ==== Sys2Proof/Laws/Window.lean ====
section
/-! SUPPORT. The octets of the window by place: which view an offset shows (section 11.1), and which octet of a view a record or a row takes. -/

namespace Sys2Proof.Machine

/-! ## The octet of a half-word -/

theorem upper_of_append (a b : Byte) : (a ++ b).extractLsb' 8 8 = a := by
  ext i hi
  rw [BitVec.getElem_extractLsb', BitVec.getLsbD_append]
  simp [hi]

theorem lower_of_append (a b : Byte) : (a ++ b).extractLsb' 0 8 = b := by
  ext i hi
  rw [BitVec.getElem_extractLsb', BitVec.getLsbD_append]
  simp [hi]

/-- The octet that a read of its half-word shows is the octet of the window at that offset. -/
theorem octetShown_eq (r : Bool) (p : Part) (off : Nat) (h : off < 16384) : octetShown r p off = windowOctet r p off := by
  have e : (BitVec.ofNat 13 (off / 2)).toNat = off / 2 := by simp; omega
  unfold octetShown windowHalf
  rw [e]
  split
  · rw [lower_of_append, show 2 * (off / 2) = off by omega]
  · rw [upper_of_append, show 2 * (off / 2) + 1 = off by omega]

/-! ## Which view an offset shows -/

section
variable (r : Bool) (p : Part) (j : Nat)

theorem windowOctet_header (h : j < 0x40) : windowOctet r p (j) = (headerView p).getD j 0 := by
  unfold windowOctet
  rw [if_pos (by omega)]

theorem windowOctet_slots (h : j < 0x1000) : windowOctet r p (0x40 + j) =
    recordOctet 128 j (recordOf (fun i => slotView (p.window.slots.get i))) := by
  unfold windowOctet
  repeat rw [if_neg (by omega)]
  rw [if_pos (by omega), Nat.add_sub_cancel_left]

theorem windowOctet_cabins (h : j < 0x800) : windowOctet r p (0x1040 + j) =
    recordOctet 16 j (recordOf (fun i => cabinView (p.cabins.get i))) := by
  unfold windowOctet
  repeat rw [if_neg (by omega)]
  rw [if_pos (by omega), Nat.add_sub_cancel_left]

theorem windowOctet_queue (h : j < 0x40) : windowOctet r p (0x1840 + j) = (queueView p).getD j 0 := by
  unfold windowOctet
  repeat rw [if_neg (by omega)]
  rw [if_pos (by omega), Nat.add_sub_cancel_left]

theorem windowOctet_roster (h : j < 0x208) : windowOctet r p (0x1880 + j) = (rosterView p).getD j 0 := by
  unfold windowOctet
  repeat rw [if_neg (by omega)]
  rw [if_pos (by omega), Nat.add_sub_cancel_left]

theorem windowOctet_channels (h : j < 0x100) : windowOctet r p (0x1B00 + j) = recordOctet 32 j (recordOf (channelView p)) := by
  unfold windowOctet
  repeat rw [if_neg (by omega)]
  rw [if_pos (by omega), Nat.add_sub_cancel_left]

theorem windowOctet_program (h : j < 0xC0) : windowOctet r p (0x1C00 + j) =
    recordOctet 8 j (recordOf (fun i => programView (p.sequencer.program.get i) (p.sequencer.made.get i))) := by
  unfold windowOctet
  repeat rw [if_neg (by omega)]
  rw [if_pos (by omega), Nat.add_sub_cancel_left]

theorem windowOctet_sensors (h : j < 0x40) : windowOctet r p (0x1CC0 + j) = (sensorView p).getD j 0 := by
  unfold windowOctet
  repeat rw [if_neg (by omega)]
  rw [if_pos (by omega), Nat.add_sub_cancel_left]

theorem windowOctet_rope (h : j < 0x40) : windowOctet r p (0x1D00 + j) = (ropeView p.rope.view).getD j 0 := by
  unfold windowOctet
  repeat rw [if_neg (by omega)]
  rw [if_pos (by omega), Nat.add_sub_cancel_left]

theorem windowOctet_causes (h : j < 0xC8) : windowOctet r p (0x1D40 + j) = (causesView p.sup).getD j 0 := by
  unfold windowOctet
  repeat rw [if_neg (by omega)]
  rw [if_pos (by omega), Nat.add_sub_cancel_left]

theorem windowOctet_profileA (h : j < 0x40) : windowOctet r p (0x1E10 + j) = (profileView p.sup.profileA).getD j 0 := by
  unfold windowOctet
  repeat rw [if_neg (by omega)]
  rw [if_pos (by omega), Nat.add_sub_cancel_left]

theorem windowOctet_profileB (h : j < 0x40) : windowOctet r p (0x1E50 + j) = (profileView p.sup.profileB).getD j 0 := by
  unfold windowOctet
  repeat rw [if_neg (by omega)]
  rw [if_pos (by omega), Nat.add_sub_cancel_left]

theorem windowOctet_line (h : j < 0x30) : windowOctet r p (0x1E90 + j) = (lineView p.line).getD j 0 := by
  unfold windowOctet
  repeat rw [if_neg (by omega)]
  rw [if_pos (by omega), Nat.add_sub_cancel_left]

theorem windowOctet_calls (h : j < 0x20) : windowOctet r p (0x1EC0 + j) = (callsView p).getD j 0 := by
  unfold windowOctet
  repeat rw [if_neg (by omega)]
  rw [if_pos (by omega), Nat.add_sub_cancel_left]

theorem windowOctet_receive (h : j < 0x120) : windowOctet r p (0x1F00 + j) =
    recordOctet 72 j (recordOf (fun i => receiveView (p.messages.slots.get i))) := by
  unfold windowOctet
  repeat rw [if_neg (by omega)]
  rw [if_pos (by omega), Nat.add_sub_cancel_left]

theorem windowOctet_grip (h : j < 0x40) : windowOctet r p (0x2020 + j) = (gripView p.grip).getD j 0 := by
  unfold windowOctet
  repeat rw [if_neg (by omega)]
  rw [if_pos (by omega), Nat.add_sub_cancel_left]

theorem windowOctet_launch (h : j < 0x40) : windowOctet r p (0x2060 + j) = (launchView p.launch).getD j 0 := by
  unfold windowOctet
  repeat rw [if_neg (by omega)]
  rw [if_pos (by omega), Nat.add_sub_cancel_left]

theorem windowOctet_arbiter (h : j < 0x40) : windowOctet r p (0x20A0 + j) = (arbiterView p.doors).getD j 0 := by
  unfold windowOctet
  repeat rw [if_neg (by omega)]
  rw [if_pos (by omega), Nat.add_sub_cancel_left]

theorem windowOctet_actions (h : j < 0x1A0) : windowOctet r p (0x20E0 + j) = (actionsView p).getD j 0 := by
  unfold windowOctet
  repeat rw [if_neg (by omega)]
  rw [if_pos (by omega), Nat.add_sub_cancel_left]

theorem windowOctet_registers (h : j < 8) : windowOctet r p (0x3FF0 + j) = (registersView r p.window).getD j 0 := by
  unfold windowOctet
  repeat rw [if_neg (by omega)]
  rw [if_pos (by omega), Nat.add_sub_cancel_left]

end

/-! ## Records and rows -/

/-- Octet `k` of record `i` of a table of records. -/
theorem recordOctet_at {n : Nat} (size k : Nat) (f : Fin n → List Byte) (i : Fin n) (h : k < size) :
    recordOctet size (size * i.val + k) (recordOf f) = (f i).getD k 0 := by
  have hd : (size * i.val + k) / size = i.val := by
    rw [Nat.mul_add_div (by omega), Nat.div_eq_of_lt h, Nat.add_zero]
  have hm : (size * i.val + k) % size = k := by rw [Nat.mul_add_mod, Nat.mod_eq_of_lt h]
  simp [recordOctet, recordOf, hd, hm]

/-- An octet of the first of two parts of a view. -/
theorem getD_left (l m : List Byte) (k : Nat) (h : k < l.length) : (l ++ m).getD k 0 = l.getD k 0 := by
  simp [List.getD_eq_getElem?_getD, List.getElem?_append_left h]

/-- An octet of the second of two parts of a view. -/
theorem getD_right (l m : List Byte) (n k : Nat) (h : l.length = n) : (l ++ m).getD (n + k) 0 = m.getD k 0 := by
  subst h
  simp [List.getD_eq_getElem?_getD, List.getElem?_append_right]

@[simp] theorem o8_length (n : Nat) : (o8 n).length = 1 := rfl
@[simp] theorem o16_length (n : Nat) : (o16 n).length = 2 := rfl
@[simp] theorem o16s_length (n : Int) : (o16s n).length = 2 := rfl
@[simp] theorem o32_length (n : Nat) : (o32 n).length = 4 := rfl
@[simp] theorem oTime_length (t : Time) : (oTime t).length = 4 := rfl
@[simp] theorem pad_length (n : Nat) : (pad n).length = n := by simp [pad]
@[simp] theorem pad_getD (n k : Nat) : (pad n).getD k 0 = 0 := by
  simp [pad, List.getD_eq_getElem?_getD, List.getElem?_replicate]
  split <;> rfl

/-- The octets of rows of equal size: octet `k` of row `i`. -/
theorem flatMap_getD {α : Type} (f : α → List Byte) (size k : Nat) (h : k < size) :
    ∀ (l : List α) (i : Nat) (x : α), (∀ y ∈ l, (f y).length = size) → l[i]? = some x →
      (l.flatMap f).getD (size * i + k) 0 = (f x).getD k 0
  | [], _, _, _, hx => by simp at hx
  | y :: t, 0, x, hl, hx => by
    obtain rfl : y = x := by simpa using hx
    rw [List.flatMap_cons, Nat.mul_zero, Nat.zero_add, getD_left _ _ _ (by rw [hl y (by simp)]; exact h)]
  | y :: t, i + 1, x, hl, hx => by
    rw [List.flatMap_cons, show size * (i + 1) + k = size + (size * i + k) by ring, getD_right _ _ _ _ (hl y (by simp))]
    exact flatMap_getD f size k h t i x (fun z hz => hl z (by simp [hz])) (by simpa using hx)

/-- The octets of rows of equal size, in all. -/
theorem flatMap_length_of {α : Type} (f : α → List Byte) (size : Nat) :
    ∀ l : List α, (∀ y ∈ l, (f y).length = size) → (l.flatMap f).length = size * l.length
  | [], _ => by simp
  | y :: t, hl => by
    rw [List.flatMap_cons, List.length_append, hl y (by simp), flatMap_length_of f size t (fun z hz => hl z (by simp [hz]))]
    simp; ring

/-- A table of rows fills the room that it has. -/
theorem table_length {α : Type} (f : α → List Byte) (l : List α) (room size : Nat) (hf : ∀ y, (f y).length = size) :
    (table f l room size).length = size * room := by
  rw [table, List.length_append, flatMap_length_of f size _ (fun y _ => hf y), pad_length, ← Nat.mul_add, List.length_take]
  congr 1; omega

/-- Octet `k` of row `i` of a table: the row's own where the list has one, and 0 in the room left. -/
theorem table_getD {α : Type} (f : α → List Byte) (l : List α) (room size i k : Nat) (hf : ∀ y, (f y).length = size) (hi : i < room)
    (hk : k < size) :
    (table f l room size).getD (size * i + k) 0 = (match l[i]? with
      | none => 0
      | some x => (f x).getD k 0) := by
  have hl := flatMap_length_of f size (l.take room) (fun y _ => hf y)
  cases h : l[i]? with
  | some x =>
    have hn : i < l.length := (List.getElem?_eq_some_iff.mp h).1
    have ht : (l.take room)[i]? = some x := by rw [List.getElem?_take_of_lt hi, h]
    have hb : size * i + k < size * (l.take room).length := by
      have : i + 1 ≤ (l.take room).length := by simp; omega
      calc size * i + k < size * (i + 1) := by rw [Nat.mul_add]; omega
        _ ≤ _ := Nat.mul_le_mul_left _ this
    rw [table, getD_left _ _ _ (by rw [hl]; exact hb)]
    exact flatMap_getD f size k hk _ i x (fun y _ => hf y) ht
  | none =>
    have hn : l.length ≤ i := List.getElem?_eq_none_iff.mp h
    have hb : (l.take room).length ≤ i := by simp; omega
    obtain ⟨m, hm⟩ := Nat.exists_eq_add_of_le (show size * (l.take room).length ≤ size * i + k from
      (Nat.mul_le_mul_left _ hb).trans (Nat.le_add_right _ _))
    rw [table, hm, getD_right _ _ _ _ hl, pad_getD]

end Sys2Proof.Machine
end

