-- ==== Sys2Proof/Tests/Slice0.lean ====
section
/-! SUPPORT. Ill-formed commands that the checks refuse; a witness `witness_X` for each statement `Obligations.X` that has hypotheses, which
lists states and operands that meet all the hypotheses of each of its clauses together, boundary values among them; and one-step tests with
the values of the manual's worked examples. -/

namespace Sys2Proof.Machine.Tests

-- The kernel evaluates one theorem after another here, which keeps the memory of the check small.
set_option Elab.async false

/-! ## Small states -/

/-- All of these hold. -/
abbrev allTrue (l : List Bool) : Prop := l.all (fun b => b) = true

/-- In the state `s` the hypotheses `P` hold. -/
abbrev meets (s : State) (P : State → Prop) : Prop := P s

/-- A part between two events: its tones and pins in order, no reset under way. -/
def ready (p : Part) : State := { part := refreshPins (refreshTone 1 (refreshTone 0 p)) }

/-- The parameter octets that begin with these. -/
def octets (l : List Byte) : Vector Byte 120 := Vector.ofFn (fun j => l.getD j.val 0)

/-- An order of this kind and these octets posted in slot 0, alone in the intake list. -/
def post (k : Byte) (l : List Byte) (p : Part) : Part :=
  { p with window := { p.window with
      slots := p.window.slots.set 0 { state := .posted, kind := k, params := octets l }, intake := [0] } }

/-- The order posted is the next to be taken, and `P` holds. -/
abbrev posts (k : Byte) (l : List Byte) (p : Part) (P : State → Prop) : Prop :=
  OrderNext 0 k (ready (post k l p)) ∧ P (ready (post k l p))

/-- The long-running order posted is the next to be taken, and `P` holds. -/
abbrev postsLong (k : Byte) (l : List Byte) (p : Part) (P : State → Prop) : Prop :=
  LongOrderNext 0 k (ready (post k l p)) ∧ P (ready (post k l p))

/-- The part in a mode. -/
def inMode (m : Mode) (p : Part := {}) : Part := { p with sup := { p.sup with mode := m } }

/-- The part with cabin `k` registered, in this place. -/
def withCabin (k : Nat) (pl : Place) (p : Part := {}) : Part := modCabin k (fun c => { c with registered := true, place := pl }) p

/-- The part with these numbers and segments in the station queue, entered at time 0. -/
def withQueue (l : List (Nat × Nat)) (p : Part := {}) : Part :=
  { p with track := { p.track with
      queue := l.zipIdx.map (fun x => { serial := x.2, cabin := x.1.1, segment := x.1.2, entered := 0 }), nextSerial := l.length } }

/-- The part with these numbers on the roster. -/
def withRoster (l : List Nat) (p : Part := {}) : Part :=
  { p with track := { p.track with roster := l.map (fun k => { cabin := k }) } }

/-- The part at a time. -/
def atTime (n : Nat) (p : Part := {}) : Part := { p with clock := { p.clock with now := ms n } }

theorem witness_StepRunsTheFrontCommand : allTrue [
    ({ State.reset with pending := [.secondTick, .softReset] } : State).pending = .secondTick :: [.softReset],
    State.reset.pending = []] := by decide +kernel

theorem witness_CabinRegisterSetsTheRecord : allTrue [
    posts 0x10 [0, 1] {} (fun s => isCabin (param 0 s 0) = false),
    posts 0x10 [129, 1] {} (fun s => isCabin (param 0 s 0) = false),
    posts 0x10 [1, 1] (inMode .run) (fun s => isCabin (param 0 s 0) = true ∧ s.part.sup.mode ≠ .off),
    posts 0x10 [128, 1] {} (fun s => isCabin (param 0 s 0) = true ∧ s.part.sup.mode = .off)] := by decide +kernel


/-! ## Witnesses: orders to the track -/

theorem witness_CabinUnregisterAndPlace : allTrue [
    posts 0x11 [0] {} (fun s => isCabin (param 0 s 0) = false),
    posts 0x11 [129] {} (fun s => isCabin (param 0 s 0) = false),
    posts 0x11 [1] (inMode .ready) (fun s => isCabin (param 0 s 0) = true ∧ s.part.sup.mode ≠ .off),
    posts 0x11 [128] {} (fun s => isCabin (param 0 s 0) = true ∧ (cabin s.part (param 0 s 0)).registered = false),
    posts 0x11 [5] (withCabin 5 .inStation) (fun s => (cabin s.part (param 0 s 0)).place = .inStation),
    posts 0x11 [5] (withCabin 5 .onLine) (fun s => (cabin s.part (param 0 s 0)).place = .onLine),
    posts 0x11 [128] (withCabin 128 .garaged) (fun s => isCabin (param 0 s 0) = true ∧ s.part.sup.mode = .off ∧
      (cabin s.part (param 0 s 0)).registered = true ∧ (cabin s.part (param 0 s 0)).place ≠ .inStation ∧
      (cabin s.part (param 0 s 0)).place ≠ .onLine),
    posts 0x12 [129, 1] {} (fun s => isCabin (param 0 s 0) = false),
    posts 0x12 [1, 2] {} (fun s => 1 < param 0 s 1),
    posts 0x12 [1, 1] {} (fun s => isCabin (param 0 s 0) = true ∧ param 0 s 1 ≤ 1 ∧ (cabin s.part (param 0 s 0)).registered = false),
    posts 0x12 [1, 0] (withCabin 1 .garaged) (fun s => isCabin (param 0 s 0) = true ∧ param 0 s 1 ≤ 1 ∧ s.part.sup.mode = .off ∧
      (cabin s.part (param 0 s 0)).registered = true ∧ (cabin s.part (param 0 s 0)).place ≠ .inStation ∧
      (cabin s.part (param 0 s 0)).place ≠ .onLine)] := by decide +kernel

theorem witness_CabinSetServiceSetsTheFlag : allTrue [
    posts 0x13 [129] {} (fun s => isCabin (param 0 s 0) = false),
    posts 0x13 [128] {} (fun s => isCabin (param 0 s 0) = true ∧ (cabin s.part (param 0 s 0)).registered = false),
    posts 0x13 [128, 255] (withCabin 128 .unknown) (fun s => isCabin (param 0 s 0) = true ∧
      (cabin s.part (param 0 s 0)).registered = true)] := by decide +kernel

/-- A part in which cabin 7 stands in S2 behind an unidentified cabin in S4, cabin 9 is on the line, and cabin 3 is registered. -/
def station : Part :=
  withCabin 3 .unknown (withCabin 7 .inStation (withCabin 9 .onLine (withQueue [(0, 4), (7, 2)] (withRoster [9]))))

theorem station_agrees : TrackAgrees station where
  queueLength := by decide +kernel
  queueOnce := by decide +kernel
  rosterOnce := by decide +kernel
  numbers := by decide +kernel
  inStation k h1 h2 := by
    have : ∀ j : Fin 128, (cabin station (j.val + 1)).place = .inStation ↔ j.val + 1 ∈ queueNumbers station := by decide +kernel
    have := this ⟨k - 1, by omega⟩
    simpa [Nat.sub_add_cancel h1] using this
  onLine k h1 h2 := by
    have : ∀ j : Fin 128, (cabin station (j.val + 1)).place = .onLine ↔ j.val + 1 ∈ rosterNumbers station := by decide +kernel
    have := this ⟨k - 1, by omega⟩
    simpa [Nat.sub_add_cancel h1] using this
  registered := by decide +kernel
  unregistered k hk := by
    by_cases h : 1 ≤ k ∧ k ≤ 128
    · have : ∀ j : Fin 128, (cabin station (j.val + 1)).registered = false →
          (cabin station (j.val + 1)).place = .unknown ∧ (cabin station (j.val + 1)).inService = false ∧
            (cabin station (j.val + 1)).mark = .none := by decide +kernel
      have := this ⟨k - 1, by omega⟩
      rw [show (⟨k - 1, by omega⟩ : Fin 128).val + 1 = k from by simp; omega] at this
      exact this hk
    · simp [cabin, h]
  serialsOnce := by decide +kernel
  serialsBelow := by decide +kernel

theorem witness_EveryStepKeepsTrackAgreement :
    TrackAgrees ({ ready station with pending := [.millisecondCount] } : State).part ∧
      ∃ t, step { ready station with pending := [.millisecondCount] } = .next t :=
  ⟨station_agrees, _, rfl⟩

theorem witness_CabinIdentifyNumbersTheEntry : allTrue [
    posts 0x14 [0, 1] station (fun s => entryAt s.part (param 0 s 0) = none),
    posts 0x14 [3, 1] station (fun s => entryAt s.part (param 0 s 0) = none),
    posts 0x14 [1, 129] station (fun s => isCabin (param 0 s 1) = false),
    posts 0x14 [2, 3] station (fun s => ∃ e ∈ entryAt s.part (param 0 s 0), isCabin (param 0 s 1) = true ∧ e.cabin ≠ 0),
    posts 0x14 [1, 4] station (fun s => (entryAt s.part (param 0 s 0)).isSome = true ∧ (cabin s.part (param 0 s 1)).registered = false),
    posts 0x14 [1, 7] station (fun s => param 0 s 1 ∈ queueNumbers s.part),
    posts 0x14 [1, 9] station (fun s => param 0 s 1 ∈ rosterNumbers s.part),
    posts 0x14 [1, 3] station (fun s => (entryAt s.part (param 0 s 0)).map (fun e => e.cabin) = some 0 ∧ isCabin (param 0 s 1) = true ∧
      (cabin s.part (param 0 s 1)).registered = true ∧ param 0 s 1 ∉ queueNumbers s.part ∧ param 0 s 1 ∉ rosterNumbers s.part ∧
      NothingWaits s.part)] := by decide +kernel

theorem witness_CabinIdentify_agrees : TrackAgrees (ready (post 0x14 [1, 3] station)).part :=
  ⟨station_agrees.queueLength, station_agrees.queueOnce, station_agrees.rosterOnce, station_agrees.numbers, station_agrees.inStation,
    station_agrees.onLine, station_agrees.registered, station_agrees.unregistered, station_agrees.serialsOnce,
    station_agrees.serialsBelow⟩

/-- The same station where the unidentified entry in S4 holds this lock result. -/
def holding (h : Bool) : Part :=
  { station with track := { station.track with queue := [{ serial := 0, cabin := 0, segment := 4, entered := 0, heldLock := some h },
      { serial := 1, cabin := 7, segment := 2, entered := 0 }] } }

theorem witness_CabinIdentify_heldLock : allTrue [
    posts 0x14 [1, 3] (holding false) (fun s => (entryAt s.part (param 0 s 0)).map (fun e => (e.cabin, e.segment, e.heldLock)) =
      some (0, 4, some false) ∧ isCabin (param 0 s 1) = true ∧ (cabin s.part (param 0 s 1)).registered = true ∧
      param 0 s 1 ∉ queueNumbers s.part ∧ param 0 s 1 ∉ rosterNumbers s.part ∧ NothingWaits s.part),
    posts 0x14 [1, 3] (holding true) (fun s => (entryAt s.part (param 0 s 0)).map (fun e => (e.cabin, e.heldLock)) =
      some (0, some true) ∧ param 0 s 1 ∉ queueNumbers s.part ∧ param 0 s 1 ∉ rosterNumbers s.part ∧ NothingWaits s.part ∧
      s.part.launch.watchFault = false),
    posts 0x14 [1, 3] { holding true with launch := { watchFault := true } } (fun s =>
      (entryAt s.part (param 0 s 0)).map (fun e => (e.cabin, e.heldLock)) = some (0, some true) ∧ NothingWaits s.part ∧
      s.part.launch.watchFault = true ∧ s.part.sup.mode ≠ .run)] := by
  decide +kernel

theorem witness_CabinIdentify_heldLock_agrees (h : Bool) : TrackAgrees (ready (post 0x14 [1, 3] (holding h))).part :=
  ⟨station_agrees.queueLength, station_agrees.queueOnce, station_agrees.rosterOnce, station_agrees.numbers, station_agrees.inStation,
    station_agrees.onLine, station_agrees.registered, station_agrees.unregistered, station_agrees.serialsOnce,
    (by decide +kernel : ∀ h : Bool, ∀ e ∈ (holding h).track.queue, e.serial < 2) h⟩

theorem witness_RosterLoadPlacesTheList : allTrue [
    posts 0x15 [2, 0] {} (fun s => 1 < param 0 s 0),
    posts 0x15 [0, 119] {} (fun s => 118 < param 0 s 1),
    posts 0x15 [0, 2, 5, 129] {} (fun s => param 0 s 0 ≤ 1 ∧ param 0 s 1 ≤ 118 ∧
      readNumbers (slotOf s.part 0) 2 (param 0 s 1) = [5, 129] ∧ isCabin 129 = false),
    posts 0x15 [0, 3, 5, 5, 0] {} (fun s => readNumbers (slotOf s.part 0) 2 (param 0 s 1) = [5, 5, 0] ∧
      FirstAt (fun n => ∃ k ∈ ([5, 5, 0] : List Nat)[n]?, isCabin k = false) 2),
    posts 0x15 [1, 2, 5, 5] {} (fun s => readNumbers (slotOf s.part 0) 2 (param 0 s 1) = [5, 5] ∧ (∀ x ∈ ([5, 5] : List Nat), isCabin x = true) ∧
      FirstAt (fun n => ∃ k ∈ ([5, 5] : List Nat)[n]?, k ∈ ([5, 5] : List Nat).take n) 1),
    posts 0x15 [0, 2, 3, 4] station (fun s => readNumbers (slotOf s.part 0) 2 (param 0 s 1) = [3, 4] ∧
      FirstAt (fun n => ∃ k ∈ ([3, 4] : List Nat)[n]?, (cabin s.part k).registered = false) 1),
    posts 0x15 [0, 2, 3, 7] station (fun s => readNumbers (slotOf s.part 0) 2 (param 0 s 1) = [3, 7] ∧ [3, 7].Nodup ∧
      (∀ x ∈ ([3, 7] : List Nat), (cabin s.part x).registered = true) ∧ FirstAt (fun n => ∃ k ∈ ([3, 7] : List Nat)[n]?, inQueue s.part k = true) 1),
    posts 0x15 [1, 2, 3, 9] station (fun s => param 0 s 0 = 1 ∧
      readNumbers (slotOf s.part 0) 2 (param 0 s 1) = [3, 9] ∧ (∀ x ∈ ([3, 9] : List Nat), (cabin s.part x).registered = true) ∧ (∀ x ∈ ([3, 9] : List Nat), inQueue s.part x = false) ∧
      FirstAt (fun n => ∃ k ∈ ([3, 9] : List Nat)[n]?, onRoster s.part k = true) 1),
    posts 0x15 [1, 2, 1, 2] (withCabin 1 .unknown (withCabin 2 .unknown (withRoster (3 :: List.replicate 126 128)))) (fun s =>
      readNumbers (slotOf s.part 0) 2 (param 0 s 1) = [1, 2] ∧ (∀ x ∈ ([1, 2] : List Nat), (cabin s.part x).registered = true ∧
        inQueue s.part x = false ∧ onRoster s.part x = false) ∧ FirstAt (fun n => n < 2 ∧ 128 ≤ s.part.track.roster.length + n) 1),
    posts 0x15 [0, 1, 128] (inMode .stopped) (fun s =>
      readNumbers (slotOf s.part 0) 2 (param 0 s 1) = [128] ∧ isCabin 128 = true ∧ s.part.sup.mode ≠ .off),
    posts 0x15 [0, 2, 9, 3] station (fun s => param 0 s 0 ≤ 1 ∧ param 0 s 1 ≤ 118 ∧ s.part.sup.mode = .off ∧
      readNumbers (slotOf s.part 0) 2 (param 0 s 1) = [9, 3] ∧ [9, 3].Nodup ∧
      ∀ x ∈ [9, 3], (cabin s.part x).registered = true ∧ inQueue s.part x = false),
    posts 0x15 [1, 1, 3] station (fun s => readNumbers (slotOf s.part 0) 2 (param 0 s 1) = [3] ∧
      (cabin s.part 3).registered = true ∧ inQueue s.part 3 = false ∧ onRoster s.part 3 = false ∧
      s.part.track.roster.length + 1 ≤ 128)] := by decide +kernel

theorem witness_StationQueueLoadReplacesTheQueue : allTrue [
    posts 0x16 [16] {} (fun s => 15 < param 0 s 0),
    posts 0x16 [2, 1, 7, 129, 1] {} (fun s => readPairs (slotOf s.part 0) 1 (param 0 s 0) = [(1, 7), (129, 1)] ∧
      FirstAt (fun n => ∃ x ∈ ([(1, 7), (129, 1)] : List (Nat × Nat))[n]?, 128 < x.1) 1),
    posts 0x16 [1, 1, 0] {} (fun s => readPairs (slotOf s.part 0) 1 (param 0 s 0) = [(1, 0)] ∧
      FirstAt (fun n => ∃ x ∈ ([(1, 0)] : List (Nat × Nat))[n]?, ¬ (1 ≤ x.2 ∧ x.2 ≤ 6)) 0),
    posts 0x16 [1, 1, 7] {} (fun s => readPairs (slotOf s.part 0) 1 (param 0 s 0) = [(1, 7)]),
    posts 0x16 [2, 1, 3, 1, 3] {} (fun s => readPairs (slotOf s.part 0) 1 (param 0 s 0) = [(1, 3), (1, 3)] ∧
      FirstAt (fun n => ∃ x ∈ ([(1, 3), (1, 3)] : List (Nat × Nat))[n]?, x.1 ≠ 0 ∧ x.1 ∈ ([(1, 3), (1, 3)].take n).map (fun y => y.1)) 1),
    posts 0x16 [2, 0, 3, 0, 4] {} (fun s => readPairs (slotOf s.part 0) 1 (param 0 s 0) = [(0, 3), (0, 4)] ∧
      FirstAt (fun n => 0 < n ∧ ∃ x ∈ ([(0, 3), (0, 4)] : List (Nat × Nat))[n]?, ∃ y ∈ ([(0, 3), (0, 4)] : List (Nat × Nat))[n - 1]?, y.2 < x.2) 1),
    posts 0x16 [2, 0, 6, 4, 1] station (fun s => s.part.sup.mode = .off ∧ readPairs (slotOf s.part 0) 1 (param 0 s 0) = [(0, 6), (4, 1)] ∧
      FirstAt (fun n => ∃ x ∈ ([(0, 6), (4, 1)] : List (Nat × Nat))[n]?, x.1 ≠ 0 ∧ (cabin s.part x.1).registered = false) 1),
    posts 0x16 [1, 9, 1] station (fun s => s.part.sup.mode = .off ∧ readPairs (slotOf s.part 0) 1 (param 0 s 0) = [(9, 1)] ∧
      (cabin s.part 9).registered = true ∧
      FirstAt (fun n => ∃ x ∈ ([(9, 1)] : List (Nat × Nat))[n]?, x.1 ≠ 0 ∧ onRoster s.part x.1 = true) 0),
    posts 0x16 [2, 3, 6, 0, 1] (inMode .run) (fun s => readPairs (slotOf s.part 0) 1 (param 0 s 0) = [(3, 6), (0, 1)] ∧
      s.part.sup.mode ≠ .off),
    posts 0x16 [2, 3, 6, 0, 1] station (fun s => param 0 s 0 ≤ 15 ∧ readPairs (slotOf s.part 0) 1 (param 0 s 0) = [(3, 6), (0, 1)] ∧
      [(3, 6), (0, 1)].Pairwise (fun x y : Nat × Nat => y.2 ≤ x.2) ∧ s.part.sup.mode = .off ∧
      (cabin s.part 3).registered = true ∧ onRoster s.part 3 = false)] := by decide +kernel

/-! ## Witnesses: sensors and doors -/

/-- A switch channel of a fault kind, its debounced value changed from one value to another and not acted on. -/
def switchTo (old new : Option Bool) (k : SwitchKind) (cat : FaultCategory) (p : Part := {}) : Part :=
  { p with sensors := { p.sensors with
      switches := modTable p.sensors.switches 7 (fun _ => {
        input := { last := new, settled := new }, value := old, kind := k, category := cat }) } }

theorem witness_SensorConfigureAndSwitchChange : allTrue [
    posts 0x20 [0, 0, 0] {} (fun s => readSwitch (param 0 s 0) = none),
    posts 0x20 [9, 0, 0] {} (fun s => readSwitch (param 0 s 0) = none),
    posts 0x20 [1, 3, 0] {} (fun s => readSwitch (param 0 s 0) = some 0 ∧ 2 < param 0 s 1),
    posts 0x20 [8, 2, 3] {} (fun s => readSwitch (param 0 s 0) = some 7 ∧ param 0 s 1 ≤ 2 ∧ 2 < param 0 s 2),
    posts 0x20 [8, 0, 2] (inMode .run) (fun s => readSwitchKind (param 0 s 1) = some .ropePosition ∧
      readCategory (param 0 s 2) = some .fast ∧ s.part.sup.mode ≠ .off),
    posts 0x20 [8, 2, 2] {} (fun s => readSwitchKind (param 0 s 1) = some .general ∧
      readCategory (param 0 s 2) = some .fast ∧ s.part.sup.mode = .off),
    posts 0x20 [8, 0, 0] (switchTo (some false) (some false) .ropePosition .fast) (fun s => readSwitch (param 0 s 0) = some 7 ∧
      readCategory (param 0 s 2) = some .none ∧ (s.part.sensors.switches.get 7).condition.isSome = true ∧ s.part.sup.mode = .off),
    meets (ready (switchTo none (some true) .general .none)) (fun s => Ready s ∧ switchChanged 7 s.part = true),
    meets (ready (switchTo (some true) (some false) .ropePosition .fast)) (fun s => Ready s ∧ switchChanged 7 s.part = true ∧
      (s.part.sensors.switches.get 7).input.settled = some false ∧ (s.part.sensors.switches.get 7).category ≠ .none),
    meets (ready (switchTo (some false) (some true) .brittleLoop .service)) (fun s => Ready s ∧ switchChanged 7 s.part = true ∧
      (s.part.sensors.switches.get 7).input.settled = some true ∧ (s.part.sensors.switches.get 7).value = some false)] := by decide +kernel

/-- The part with one door channel so. -/
def withDoor (n : ChannelNo) (c : Channel) (p : Part := {}) : Part :=
  { p with doors := { p.doors with channels := p.doors.channels.set n.val c } }

/-- An input whose debounced value is this. -/
def shows (b : Bool) : Debounce := { last := some b, settled := some b }

/-- A platform gate, with a lock or without. -/
def gate (lock : Bool) : DoorConfig := { kind := .platformGate, lock := lock }

/-- A cabin closer. -/
def closer : DoorConfig := { kind := .cabinCloser, closingEnd := .b }

/-- The octets of a DOOR_CONFIGURE: channel, kind, closing end, then the fields within their ranges. -/
def doorOctets (n kind close : Byte) (reach category : Byte) : List Byte :=
  [n, kind, close, 0xA0, 0x0F, 0xE8, 0x03, 2, 0, 0x2C, 0x01, 0xD0, 0x07, reach, category, 0]

theorem witness_DoorConfigureSetsTheChannel : allTrue [
    posts 0x30 (doorOctets 8 0 0 2 1) {} (fun s => 7 < param 0 s 0),
    posts 0x30 (doorOctets 7 4 0 2 1) {} (fun s => readChannel (param 0 s 0) = some 7 ∧ 3 < param 0 s 1),
    posts 0x30 (doorOctets 7 3 2 2 1) {} (fun s => param 0 s 1 ≤ 3 ∧ 1 < param 0 s 2),
    posts 0x30 (doorOctets 7 3 1 0 1) {} (fun s => param 0 s 2 ≤ 1 ∧ param 0 s 13 < 1),
    posts 0x30 (doorOctets 7 3 1 7 1) {} (fun s => param 0 s 2 ≤ 1 ∧ 6 < param 0 s 13),
    posts 0x30 (doorOctets 7 3 1 6 3) {} (fun s => 1 ≤ param 0 s 13 ∧ param 0 s 13 ≤ 6 ∧ 2 < param 0 s 14),
    posts 0x30 (doorOctets 7 3 0 6 2) (inMode .ready) (fun s => s.part.sup.mode ≠ .off ∧
      (readDoorConfig (slotOf s.part 0)).toOption.map (fun x => x.2) = some 0),
    posts 0x30 (doorOctets 7 3 0 6 2) (withDoor 7 { config := gate false, state := .reopenDwell }) (fun s =>
      (channel s.part 7).state.atRest = false ∧ (readDoorConfig (slotOf s.part 0)).toOption.isSome = true),
    posts 0x30 (doorOctets 7 1 0 1 2) (withDoor 7 { config := gate false, state := .atA }) (fun s =>
      readChannel (param 0 s 0) = some 7 ∧ (channel s.part 7).state.atRest = true ∧ s.part.sup.mode = .off ∧
      (readDoorConfig (slotOf s.part 0)).toOption.map (fun x => x.1.kind) = some .cabinOpener),
    posts 0x30 (doorOctets 7 0 0 1 2) (withDoor 7 { config := gate false, state := .fault }) (fun s =>
      (channel s.part 7).state.atRest = true ∧ s.part.sup.mode = .off ∧ NothingWaits s.part ∧ (channel s.part 7).state = .fault ∧
      (readDoorConfig (slotOf s.part 0)).toOption.map (fun x => x.1.kind) = some .none)] := by decide +kernel

/-- Twenty-four MESSAGE_SEND orders held, in slots 1 to 24. -/
def holding24 : Part :=
  { window := { slots := Vector.ofFn (fun i : Fin 32 => if 1 ≤ i.val ∧ i.val ≤ 24 then { state := .taken, kind := 0x60 } else {}) } }

theorem witness_OrdersTurnedAwayByTheIntake : allTrue [
    posts 0xFF [] {} (fun s => knownKind (slotOf s.part 0).kind = false),
    (∀ k ∈ [0x31, 0x51, 0x52, 0x60, 0x70], posts k [] holding24 (fun s => 24 ≤ longOrdersHeld s.part.window))] := by decide +kernel

theorem witness_DoorMoveIsRefusedOrStarts : allTrue [
    postsLong 0x31 [8, 1] {} (fun s => 7 < param 0 s 0),
    postsLong 0x31 [7, 0] {} (fun s => readChannel (param 0 s 0) = some 7 ∧ param 0 s 1 ≠ 1 ∧ param 0 s 1 ≠ 2),
    postsLong 0x31 [7, 3] {} (fun s => param 0 s 1 ≠ 1 ∧ param 0 s 1 ≠ 2),
    postsLong 0x31 [7, 1] {} (fun s => readTarget (param 0 s 1) = some .a ∧ (channel s.part 7).config.kind = .none),
    postsLong 0x31 [7, 2] (withDoor 7 { config := gate false, state := .fault }) (fun s => readTarget (param 0 s 1) = some .b ∧
      (channel s.part 7).config.kind ≠ .none ∧ (channel s.part 7).state = .fault),
    postsLong 0x31 [7, 2] (withDoor 7 { config := closer, state := .atA } (inMode .run)) (fun s =>
      (channel s.part 7).config.kind.isCabin = true ∧ (channel s.part 7).state ≠ .fault ∧ s.part.sup.mode ≠ .off),
    postsLong 0x31 [0, 1] (withDoor 0 { config := closer, state := .atA }) (fun s => NothingWaits s.part ∧ s.part.sup.mode = .off ∧
      (channel s.part 0).owner = .none ∧ (channel s.part 0).state = End.a.atState),
    postsLong 0x31 [0, 2] { withDoor 0 { config := closer, state := .atA } with
        doors := { (withDoor 0 { config := closer, state := .atA }).doors with
          budget := 1, history := [{ time := 0, requester := .retainer }] } } (fun s => NothingWaits s.part ∧
      (channel s.part 0).state.atRest = true ∧ (channel s.part 0).config.locking = false ∧
      budgetRoom s.part.doors s.part.clock.now = false),
    postsLong 0x31 [0, 2] (withDoor 0 { config := closer, state := .halted }) (fun s => NothingWaits s.part ∧
      (channel s.part 0).owner = .none ∧ (channel s.part 0).state.atRest = true ∧ (channel s.part 0).state ≠ End.b.atState ∧
      budgetRoom s.part.doors s.part.clock.now = true ∧ s.part.doors.queue = [] ∧ (channel s.part 0).limit .b = false),
    postsLong 0x31 [0, 2] (withDoor 0 { config := gate true, state := .atA, lockSns := shows true }) (fun s => NothingWaits s.part ∧
      (channel s.part 0).owner = .none ∧ (channel s.part 0).state = .atA ∧ (channel s.part 0).config.locking = true ∧
      (channel s.part 0).lockSns.high = true),
    postsLong 0x31 [0, 1] (withDoor 0 { config := gate false, state := .movingToB, motor := some .b, target := some .b, owner := .order 31 })
      (fun s => NothingWaits s.part ∧ (31 : SlotNo) ≠ 0 ∧ (channel s.part 0).owner = .order 31 ∧
        (channel s.part 0).state = End.a.other.movingState ∧ (channel s.part 0).limit .a = false)] := by decide +kernel

/-- The Door Drive Unit with a queue and a history of grants at time 0. -/
def withStarts (queue : List Requester) (grants budget : Nat) (p : Part := {}) : Part :=
  { p with doors := { p.doors with
      queue := queue, budget := budget, history := List.replicate grants { time := 0, requester := .retainer } } }

theorem witness_DoorHaltAndResetFault : allTrue [
    posts 0x32 [8] {} (fun s => NothingWaits s.part ∧ 7 < param 0 s 0),
    posts 0x32 [7] {} (fun s => NothingWaits s.part ∧ readChannel (param 0 s 0) = some 7 ∧ (channel s.part 7).config.kind = .none),
    posts 0x32 [7] (withDoor 7 { config := gate true, state := .locking, owner := .automatic }) (fun s => NothingWaits s.part ∧
      (channel s.part 7).config.kind ≠ .none ∧ (channel s.part 7).owner ≠ .order 0 ∧ (channel s.part 7).state = .locking),
    posts 0x32 [7] (withDoor 7 { config := gate false, state := .movingToA, motor := some .a, owner := .order 3, limB := shows true })
      (fun s => NothingWaits s.part ∧ (channel s.part 7).owner ≠ .order 0 ∧ (channel s.part 7).state.atRest = false ∧
        (channel s.part 7).state ≠ .locking ∧ (channel s.part 7).limB.high = true),
    posts 0x32 [7] (withStarts [.retainer, .door 7] 0 1 (withDoor 7 { config := closer, state := .waitingStart, waits := .move, owner := .order 31 }))
      (fun s => (∀ r ∈ s.part.doors.queue, r = .retainer ∨ (r = .door 7 ∧ (channel s.part 7).state.atRest = false ∧
        (channel s.part 7).state ≠ .locking)) ∧ (31 : SlotNo) ≠ 0 ∧ (channel s.part 7).owner = .order 31),
    posts 0x33 [8] {} (fun s => 7 < param 0 s 0),
    posts 0x33 [0] {} (fun s => readChannel (param 0 s 0) = some 0 ∧ (channel s.part 0).state ≠ .fault),
    posts 0x33 [0] (withDoor 0 { config := gate false, state := .fault, limA := shows true, limB := shows true }) (fun s =>
      (channel s.part 0).state = .fault ∧ (channel s.part 0).limA.high = true ∧ (channel s.part 0).limB.high = true),
    posts 0x33 [0] (withDoor 0 { config := gate false, state := .fault, limA := shows true }) (fun s => NothingWaits s.part ∧
      (channel s.part 0).state = .fault ∧ ¬ ((channel s.part 0).limA.high = true ∧ (channel s.part 0).limB.high = true))] := by decide +kernel

theorem witness_BudgetSetAndGrantWindow : allTrue [
    posts 0x34 [0, 0, 199, 0] {} (fun s => s.part.doors.queue = [] ∧ param16 0 s 0 = 0 ∧ param16 0 s 2 = 199),
    posts 0x34 [8, 0, 0x88, 0x13] {} (fun s => s.part.doors.queue = [] ∧ param16 0 s 0 = 8 ∧ param16 0 s 2 = 5000),
    meets (ready (atTime 1000 (withStarts [] 1 1))) (fun s => Ready s ∧ grantLeft s.part.doors s.part.clock.now = true ∧
      s.part.doors.queue = []),
    meets (ready (atTime 1000 (withStarts [.retainer] 1 0))) (fun s => Ready s ∧ grantLeft s.part.doors s.part.clock.now = true ∧
      budgetRoom s.part.doors s.part.clock.now = false),
    meets (ready (atTime 1000 (withStarts [.door 3] 1 1
        (withDoor 3 { config := closer, state := .waitingStart, waits := .move, target := some .b })))) (fun s => Ready s ∧
      grantLeft s.part.doors s.part.clock.now = true ∧ s.part.doors.queue = [.door 3] ∧
      budgetRoom s.part.doors s.part.clock.now = true ∧
      (channel s.part 3).limit (headingOf (channel s.part 3)) = false)] := by decide +kernel

/-- A step whose grant history gains a grant: the third grant of the last second, the oldest of which has just left the window. -/
theorem witness_GrantsStayWithinTheBudget : meets { ready (atTime 1000 (withStarts [.door 3] 4 1
        (withDoor 3 { config := closer, state := .waitingStart, waits := .move, target := some .b }))) with
      pending := [.grantWindowExpiry] } (fun s =>
    ∃ t, step s = .next t ∧ t.part.doors.history ≠ s.part.doors.history ∧ s.part.doors.history.length ≤ 8) :=
  ⟨_, rfl, by decide +kernel, by decide +kernel⟩

theorem witness_DoorProgramLoadReplacesTheProgram : allTrue [
    posts 0x35 [25] {} (fun s => 24 < param 0 s 0),
    posts 0x35 [2, 1, 0, 0, 0] (withDoor 0 { config := gate false, state := .atA }) (fun s => param 0 s 0 ≤ 24 ∧
      EntryFits s.part (readEntry (slotOf s.part 0) 1) ∧ ¬ EntryFits s.part (readEntry (slotOf s.part 0) 5)),
    posts 0x35 [0] (inMode .run) (fun s => param 0 s 0 ≤ 24 ∧ s.part.sup.mode ≠ .off),
    posts 0x35 [1, 1, 0, 0, 0] (withDoor 0 { config := gate false, state := .atA }) (fun s => param 0 s 0 ≤ 24 ∧
      s.part.sup.mode = .off ∧ ∀ m : Fin 24, m.val < param 0 s 0 → EntryFits s.part (readEntry (slotOf s.part 0) (1 + 4 * m.val)))] := by decide +kernel

theorem witness_CabinDoorConfirmLocksTheCabin : allTrue [
    posts 0x36 [129, 1, 0] {} (fun s => isCabin (param 0 s 0) = false),
    posts 0x36 [128, 0, 0] {} (fun s => isCabin (param 0 s 0) = true ∧ param16 0 s 1 = 0),
    posts 0x36 [1, 1, 0] {} (fun s => isCabin (param 0 s 0) = true ∧ param16 0 s 1 ≠ 0 ∧ inQueue s.part (param 0 s 0) = false),
    posts 0x36 [7, 1, 0] (withCabin 7 .inStation (withQueue [(7, 3)])) (fun s => isCabin (param 0 s 0) = true ∧ param16 0 s 1 ≠ 0 ∧
      (entryOfCabin s.part (param 0 s 0)).map (fun e => e.segment) = some 3),
    posts 0x36 [7, 0, 1] { withCabin 7 .inStation (withQueue [(7, 4)]) with sequencer := { unlocked := [7] } } (fun s =>
      isCabin (param 0 s 0) = true ∧ param16 0 s 1 ≠ 0 ∧ (entryOfCabin s.part (param 0 s 0)).map (fun e => e.segment) = some 4 ∧
      NothingWaits s.part ∧ param 0 s 0 ∈ s.part.sequencer.unlocked)] := by decide +kernel

/-! ## Witnesses: orders to the Supervisor -/

/-- A part with the line UP, SUMMIT_READY accepted, a valid speed and a healthy converter. -/
def prepared (p : Part := {}) : Part :=
  { p with
    line := { p.line with state := .up, rate := 3, accepted := 1 }
    sensors := { p.sensors with everGood := true } }

/-- A listed cause. -/
def cause (present : Bool) : Cause := { kind := .doorFault, source := 0, category := .fast, firstTime := 0, present := present }

/-- The part with this cause list and these conditions present. -/
def withCauses (l : List Cause) (t : List PresentCause) (p : Part := {}) : Part :=
  { p with sup := { p.sup with causes := l, present := t } }

theorem witness_StationPrepareAndStart : allTrue [
    posts 0x40 [] (inMode .ready) (fun s => s.part.sup.mode ≠ .off),
    posts 0x40 [] (withCauses [cause false] []) (fun s => s.part.sup.mode = .off ∧ s.part.sup.causes ≠ []),
    posts 0x40 [] {} (fun s => s.part.sup.mode = .off ∧ s.part.sup.causes = [] ∧ s.part.sup.present = [] ∧ s.part.line.state ≠ .up),
    posts 0x40 [] { line := { state := .up } } (fun s => s.part.line.state = .up ∧ s.part.line.accepted.getLsbD 0 = false),
    posts 0x40 [] { prepared with rope := { view := { invalid := true } } } (fun s =>
      s.part.line.accepted.getLsbD 0 = true ∧ s.part.rope.view.invalid = true),
    posts 0x40 [] { prepared with sensors := { everGood := true, failRun := 3 } } (fun s =>
      s.part.rope.view.invalid = false ∧ s.part.sensors.failRun = 3),
    posts 0x40 [] prepared (fun s => s.part.sup.mode = .off ∧ s.part.sup.causes = [] ∧ s.part.sup.present = [] ∧
      s.part.line.state = .up ∧ s.part.line.accepted.getLsbD 0 = true ∧ s.part.rope.view.invalid = false ∧
      s.part.sensors.everGood = true ∧ s.part.sensors.failRun ≠ 3),
    posts 0x41 [] {} (fun s => s.part.sup.mode ≠ .ready),
    posts 0x41 [] (inMode .ready) (fun s => s.part.sup.mode = .ready ∧ s.part.line.state ≠ .up),
    posts 0x41 [] (inMode .ready prepared) (fun s => s.part.sup.mode = .ready ∧ s.part.line.state = .up ∧
      s.part.line.accepted.getLsbD 0 = true ∧ s.part.rope.view.invalid = false ∧ s.part.sensors.everGood = true ∧
      s.part.sensors.failRun ≠ 3)] := by decide +kernel

/-- A ceiling that stands in RUN, with the HOLD cap the lowest speed, and in OFF, and a step from each. -/
theorem witness_StationPrepareAndStart_ceiling :
    meets { ready { sup := { mode := .run, caps := { wind := true, hold := true, link := false }, ceiling := 2500 } } with
        pending := [.stationStop 0] } (fun s => CeilingStands s.part.sup ∧ s.part.sup.mode ∈ [.starting, .run] ∧
      ∃ t, step s = .next t) ∧
    meets { ready {} with pending := [.millisecondCount] } (fun s => CeilingStands s.part.sup ∧ s.part.sup.mode ∉ [.starting, .run] ∧
      ∃ t, step s = .next t) :=
  ⟨⟨by decide +kernel, by decide +kernel, _, rfl⟩, by decide +kernel, by decide +kernel, _, rfl⟩

/-- The part with standstill declared. -/
def standing (p : Part := {}) : Part := { p with rope := { p.rope with standstill := true } }

theorem witness_StationStopOffAndFastStop : allTrue [
    posts 0x42 [] (inMode .starting) (fun s => s.part.sup.mode = .starting ∧ s.part.rope.standstill = false),
    posts 0x42 [] (standing (inMode .run)) (fun s => s.part.sup.mode = .run ∧ s.part.rope.standstill = true),
    posts 0x42 [] (inMode .stoppingFast) (fun s => s.part.sup.mode = .stoppingFast),
    posts 0x42 [] (inMode .stopped) (fun s => s.part.sup.mode ∈ [.off, .ready, .stopped]),
    posts 0x44 [] (inMode .stopped) (fun s => s.part.sup.mode = .stopped),
    posts 0x44 [] {} (fun s => s.part.sup.mode = .off),
    posts 0x44 [] (inMode .run) (fun s => s.part.sup.mode ∈ [.starting, .run, .stoppingService, .stoppingFast]),
    posts 0x43 [] {} (fun s => s.part.sup.mode = .off),
    posts 0x43 [] (inMode .ready) (fun s => s.part.sup.mode = .ready),
    posts 0x43 [] (inMode .stoppingService) (fun s => s.part.sup.mode.isStopping = true),
    posts 0x43 [] (standing (inMode .starting)) (fun s => s.part.sup.mode.isRunning = true)] := by decide +kernel

/-- A row of the present condition table. -/
def presentRow (listed : Bool) : PresentCause :=
  { kind := .doorFault, source := 0, category := .fast, firstTime := 0, listed := listed }

theorem witness_CauseAcknowledgeKeepsThePresentCauses : allTrue [
    posts 0x45 [] (inMode .stopped (withCauses [cause true] [presentRow true])) (fun s =>
      ∀ x ∈ s.part.sup.present, x.listed = true),
    posts 0x45 [] (inMode .stopped (withCauses [cause false] [])) (fun s => s.part.sup.mode = .stopped),
    posts 0x45 [] (withCauses (List.replicate 16 (cause true)) [presentRow false]) (fun s =>
      s.part.sup.causes.countP (fun c => c.present) = 16 ∧ ∃ x ∈ s.part.sup.present, x.listed = false),
    posts 0x45 [] (withCauses (cause false :: List.replicate 15 (cause true)) [presentRow false, presentRow false]) (fun s =>
      (s.part.sup.causes.filter (fun c => c.present)).length = 15)] := by decide +kernel

/-- The part with a switch to profile B pending. -/
def pendingB (p : Part := {}) : Part := { p with sup := { p.sup with pendingSwitch := some .b } }

theorem witness_ProfileWriteAndSwitch : allTrue [
    posts 0x46 [2] {} (fun s => 1 < param 0 s 0),
    posts 0x46 [0] (inMode .ready) (fun s => readProfileName (param 0 s 0) = some .a ∧ s.part.sup.active = .a ∧ s.part.sup.mode ≠ .off),
    posts 0x46 [1] (inMode .run pendingB) (fun s => readProfileName (param 0 s 0) = some .b ∧
      ¬ (s.part.sup.active = .b ∧ s.part.sup.mode ≠ .off) ∧ s.part.sup.pendingSwitch = some .b),
    posts 0x46 [1, 0xFF, 0xFF] (inMode .run) (fun s => ¬ (s.part.sup.active = .b ∧ s.part.sup.mode ≠ .off) ∧
      s.part.sup.pendingSwitch ≠ some .b),
    posts 0x46 [0] {} (fun s => s.part.sup.active = .a ∧ s.part.sup.mode = .off ∧ s.part.sup.pendingSwitch ≠ some .a),
    posts 0x47 [2] {} (fun s => 1 < param 0 s 0),
    posts 0x47 [1] (inMode .starting) (fun s => s.part.sup.mode ∈ [.starting, .stoppingService, .stoppingFast]),
    posts 0x47 [1] (inMode .run) (fun s => s.part.sup.mode = .run ∧ s.part.sup.active ≠ .b),
    posts 0x47 [0] (inMode .run pendingB) (fun s => s.part.sup.mode = .run ∧ s.part.sup.active = .a),
    posts 0x47 [0] {} (fun s => s.part.sup.mode ∈ [.off, .ready, .stopped] ∧ s.part.sup.active = .a),
    posts 0x47 [1] (inMode .stopped) (fun s => s.part.sup.mode ∈ [.off, .ready, .stopped] ∧ s.part.sup.active ≠ .b)] := by decide +kernel

/-! ## Witnesses: orders to the line, the Message Channel and the Call Unit -/

/-- The part with the line in a state at a rate. -/
def withLine (st : LineState) (rate : Nat) (p : Part := {}) : Part := { p with line := { p.line with state := st, rate := rate } }

/-- The part with auto-start off. -/
def noAuto (p : Part := {}) : Part := { p with line := { p.line with config := { p.line.config with autoStart := false } } }

theorem witness_LineConfigureAndIndications : allTrue [
    posts 0x50 [0, 0, 0, 0, 3, 0xC6, 0x39, 0x0F, 8, 1] (withLine .up 3) (fun s => lineConfigClamped (slotOf s.part 0) ≠ 0 ∧
      ¬ (s.part.line.state = .down)),
    posts 0x50 [3, 3, 25, 0, 2, 0xC6, 0x39, 0x0F, 4, 1] noAuto (fun s => (readLineConfig (slotOf s.part 0)).autoStart = true ∧
      s.part.line.config.autoStart = false ∧ s.part.line.state = .down ∧ s.part.line.probe = none),
    posts 0x54 [16] {} (fun s => 15 < param 0 s 0),
    posts 0x54 [15] {} (fun s => param 0 s 0 ≤ 15)] := by decide +kernel

/-- The part with a LINE_START of slot 31 in flight. -/
def starting31 (p : Part := {}) : Part := { p with line := { p.line with startOrder := some 31 } }

theorem witness_LineStartActsByTheLineState : allTrue [
    postsLong 0x51 [4] {} (fun s => 3 < param 0 s 0),
    postsLong 0x51 [3] (starting31 (withLine .probing 0)) (fun s => param 0 s 0 ≤ 3 ∧ s.part.line.startOrder.isSome = true),
    postsLong 0x51 [0] {} (fun s => s.part.line.startOrder = none ∧ s.part.line.probeOrder = none ∧ s.part.line.state = .down),
    postsLong 0x51 [3] (withLine .probing 0) (fun s => s.part.line.startOrder = none ∧ s.part.line.state = .probing),
    postsLong 0x51 [0] (withLine .up 3) (fun s => s.part.line.startOrder = none ∧ s.part.line.state = .up ∧
      s.part.line.rate = s.part.line.config.rateCeiling),
    postsLong 0x51 [1] (withLine .up 3) (fun s => s.part.line.state = .up ∧ s.part.line.rate ≠ param 0 s 0),
    postsLong 0x51 [1] (withLine .dormant 0) (fun s => s.part.line.state = .dormant ∧ s.part.line.probeOrder = none),
    postsLong 0x51 [2] (withLine .training 3) (fun s => s.part.line.state = .training)] := by decide +kernel

theorem witness_LineProbeAndDormant : allTrue [
    postsLong 0x52 [] (withLine .up 3) (fun s => s.part.line.state ∉ [.down, .dormant]),
    postsLong 0x52 [] (starting31 (withLine .down 0)) (fun s => s.part.line.state ∈ [.down, .dormant] ∧
      s.part.line.startOrder.isSome = true),
    postsLong 0x52 [] (withLine .dormant 0) (fun s => s.part.line.state ∈ [.down, .dormant] ∧ s.part.line.startOrder = none ∧
      s.part.line.probeOrder = none),
    posts 0x53 [] (inMode .ready) (fun s => s.part.sup.mode ≠ .off),
    posts 0x53 [] { calls := { slots := Vector.replicate 2 { state := .clearing } } } (fun s => s.part.sup.mode = .off ∧
      (callSlot s.part 0).state ∉ [.idle, .unavailable]),
    posts 0x53 [] { messages := { receiver := .note [] } } (fun s => (callSlot s.part 0).state ∈ [.idle, .unavailable] ∧
      (callSlot s.part 1).state ∈ [.idle, .unavailable] ∧ s.part.messages.receiver ≠ .idle),
    posts 0x53 [] (starting31 (withLine .probing 0)) (fun s => s.part.messages.transmitter = .idle ∧
      s.part.messages.receiver = .idle ∧ s.part.line.startOrder ≠ none),
    posts 0x53 [] { line := { probeOrder := some 31 } } (fun s => s.part.line.startOrder = none ∧ s.part.line.probeOrder ≠ none),
    posts 0x53 [] (withLine .dormant 0) (fun s => s.part.sup.mode = .off ∧ s.part.line.startOrder = none ∧
      s.part.line.probeOrder = none ∧ s.part.line.state = .dormant),
    posts 0x53 [] (withLine .up 3) (fun s => s.part.line.state ≠ .dormant ∧ s.part.line.config.sleepSeconds ∈ [1, 2, 4, 8] ∧
      ∀ v : VoiceNo, (callSlot s.part v).order = none)] := by decide +kernel

theorem witness_MessageSendJoinsTheList :
    postsLong 0x60 [0, 0, 1] {} (fun s => param16 0 s 0 = 0) ∧ postsLong 0x60 [65, 0, 1] {} (fun s => 64 < param16 0 s 0) ∧
    postsLong 0x60 [1, 0, 0] {} (fun s => 1 ≤ param16 0 s 0 ∧ param16 0 s 0 ≤ 64 ∧ param 0 s 2 = 0) ∧
    postsLong 0x60 [64, 0, 128] {} (fun s => param16 0 s 0 ≤ 64 ∧ 127 < param 0 s 2) ∧
    postsLong 0x60 [64, 0, 127] {} (fun s => 1 ≤ param16 0 s 0 ∧ param16 0 s 0 ≤ 64 ∧ 1 ≤ param 0 s 2 ∧ param 0 s 2 ≤ 127) := by
  decide +kernel

/-- The part with one voice slot so. -/
def withCall (v : VoiceNo) (c : CallSlot) (p : Part := {}) : Part := modCall v (fun _ => c) p

theorem witness_CallOrders : allTrue [
    postsLong 0x70 [2] {} (fun s => 1 < param 0 s 0),
    postsLong 0x70 [1] (withCall 1 { state := .connected, role := .caller }) (fun s => readVoice (param 0 s 0) = some 1 ∧
      (callSlot s.part 1).state ≠ .idle),
    postsLong 0x70 [1] (withCall 1 { state := .idle, freeRun := 1 }) (fun s => (callSlot s.part 1).freeRun ≠ 2),
    postsLong 0x70 [1] (withCall 1 { state := .idle, freeRun := 2 }) (fun s => (callSlot s.part 1).state = .idle ∧
      (callSlot s.part 1).freeRun = 2),
    posts 0x72 [9, 0] {} (fun s => param16 0 s 0 = 9),
    posts 0x72 [180, 0] {} (fun s => param16 0 s 0 = 180),
    posts 0x71 [2] {} (fun s => 1 < param 0 s 0),
    posts 0x71 [1] {} (fun s => readVoice (param 0 s 0) = some 1 ∧ (callSlot s.part 1).state ∈ [.idle, .unavailable]),
    posts 0x71 [1] (withCall 1 { state := .connected, role := .answerer, seizeTaken := true }) (fun s =>
      (callSlot s.part 1).state ∈ [.seizing, .ringingOut, .ringingIn, .connected] ∧ (callSlot s.part 1).order ≠ some 0 ∧
      awaitedStands (callSlot s.part 1) = true),
    posts 0x71 [1] (withCall 1 { state := .seizing, role := .caller, order := some 31 }) (fun s =>
      (callSlot s.part 1).state ∈ [.seizing, .ringingOut, .ringingIn, .connected] ∧ (callSlot s.part 1).order ≠ some 0 ∧
      awaitedStands (callSlot s.part 1) = false),
    posts 0x71 [1] (withCall 1 { state := .clearing, clearedBySummit := true }) (fun s => (callSlot s.part 1).state = .clearing ∧
      (callSlot s.part 1).order = none ∧ (callSlot s.part 1).clearedBySummit = true),
    posts 0x71 [1] (withCall 1 { state := .clearing }) (fun s => (callSlot s.part 1).clearedBySummit = false)] := by decide +kernel

/-! ## Witnesses: the window -/

/-- A slot in a state, of a kind. -/
def withSlot (i : SlotNo) (st : SlotState) (k : Byte) (p : Part := {}) : Part :=
  modSlot i (fun c => { c with state := st, kind := k }) p

theorem witness_OrderWithdrawActsByTheSlot : allTrue [
    meets (ready (withSlot 31 .done 0x60)) (fun s => Ready s ∧ (slotOf s.part 31).state ∈ [.free, .withdraw, .done]),
    meets (ready (post 0x10 [1] {})) (fun s => Ready s ∧ (slotOf s.part 0).state = .posted),
    meets (ready (withSlot 31 .taken 0x52)) (fun s => Ready s ∧ (slotOf s.part 31).state = .taken ∧ (slotOf s.part 31).kind = 0x52),
    meets (ready { withSlot 31 .taken 0x60 with messages := { waiting := [{ slot := 31, octets := [1] }] } }) (fun s => Ready s ∧
      (slotOf s.part 31).kind = 0x60 ∧ transferring 31 s.part.messages = false),
    meets (ready { withSlot 31 .taken 0x60 with messages := { transmitter := .offering { source := .order 31, octets := [1] } } })
      (fun s => Ready s ∧ (slotOf s.part 31).kind = 0x60 ∧ transferring 31 s.part.messages = true),
    meets (ready (withSlot 31 .taken 0x70 (withCall 1 { state := .ringingOut, role := .caller, order := some 31 }))) (fun s =>
      Ready s ∧ (slotOf s.part 31).state = .taken ∧ (slotOf s.part 31).kind = 0x70 ∧ placedCall s.part 31 = some 1),
    meets (ready (withSlot 31 .taken 0x51 (starting31 (withLine .training 3)))) (fun s => Ready s ∧
      (slotOf s.part 31).kind = 0x51 ∧ s.part.line.startOrder = some 31 ∧ s.part.line.state = .training),
    meets (ready (withSlot 31 .taken 0x31 (withStarts [.door 5] 0 1
        (withDoor 5 { config := gate false, state := .waitingStart, waits := .move, target := some .a, owner := .order 31 })))) (fun s =>
      Ready s ∧ (∀ r ∈ s.part.doors.queue, r = .retainer ∨ r = .door 5) ∧ (slotOf s.part 31).state = .taken ∧
      (slotOf s.part 31).kind = 0x31 ∧ movedChannel s.part 31 = some 5 ∧ (channel s.part 5).state.atRest = false ∧
      (channel s.part 5).state ≠ .locking),
    meets (ready (withSlot 31 .taken 0x31 (withDoor 5 { config := gate true, state := .locking, target := some .a, owner := .order 31 })))
      (fun s => Ready s ∧ NothingWaits s.part ∧ movedChannel s.part 31 = some 5 ∧ (channel s.part 5).state = .locking)] := by decide +kernel

theorem witness_SlotsAndHostWrites : allTrue [
    meets (ready (withSlot 31 .done 0x60)) (fun s => Ready s ∧ (slotOf s.part 31).state = .done),
    meets (ready (withSlot 31 .taken 0x60)) (fun s => Ready s ∧ (slotOf s.part 31).state ≠ .done),
    meets (ready { messages := { slots := Vector.replicate 4 { state := .full } } }) (fun s => Ready s ∧
      (s.part.messages.slots.get 3).state = .full),
    meets (ready {}) (fun s => Ready s ∧ (s.part.messages.slots.get 3).state ≠ .full ∧ (slotOf s.part 31).state = .free ∧
      (0x1001 : Half).extractLsb' 0 8 = 1),
    (0x1FF8 : BitVec 13).toNat < 0x1FF9,
    (0x1010 : BitVec 13).toNat ≥ 0x1010,
    (31 : BitVec 13).toNat < 32] := by decide +kernel

/-- The written forms: WITHDRAW to a slot that holds an order, FREE to a DONE slot, a value that no state takes, and for PART_CONTROL a reset and
none. -/
theorem witness_SlotsAndHostWrites_forms : allTrue [
    meets (ready (post 0x10 [1] {})) (fun s => Ready s ∧ (slotOf s.part 0).state ∈ [.posted, .taken] ∧ (slotOf s.part 0).state ≠ .free ∧
      (0xFF03 : Half).extractLsb' 0 8 = 3),
    meets (ready (withSlot 31 .done 0x60)) (fun s => Ready s ∧ (slotOf s.part 31).state = .done ∧ (0xFF00 : Half).extractLsb' 0 8 = 0 ∧
      ¬ (0xFF03 : Half).extractLsb' 0 8 = 0),
    (1 : Half).getLsbD 0 = true, (2 : Half).getLsbD 0 = false, (0x0100 : Half).extractLsb' 0 8 = 0, (1 : Half).extractLsb' 0 8 ≠ 0,
    (0x820 : BitVec 13).toNat < 0xF80, ((0x100F : BitVec 13).toNat - 0xF80) % 36 ≠ 0, 0x1FFC ≤ (0x1FFF : BitVec 13).toNat] := by
  decide +kernel

theorem witness_AttentionRegistersAndTheAttnOutput : allTrue [
    meets (ready { window := { attention := 1, attentionMask := 1, attnEnable := true } }) (fun s => Ready s ∧
      s.part.window.attn = true)] := by decide +kernel

theorem witness_LatchedReadsReturnOneMoment : allTrue [
    isLongField (2 * (4 : BitVec 13).toNat) = true,
    isLongField (2 * (0 : BitVec 13).toNat) = false,
    meets (ready { window := { latch := some { addr := 5, value := 7 } } }) (fun s => s.before = none ∧
      (∀ l ∈ s.part.window.latch, l.addr ≠ 4) ∧ ∃ l ∈ s.part.window.latch, l.addr = 5)] := by decide +kernel

/-- The bounds of the ranges that no field takes. -/
theorem witness_LatchedReads_unassigned : allTrue [
    (∀ n ∈ ([0xD44, 0xD7F, 0xF04, 0xF07, 0xF70, 0xF7F, 0x1140, 0x1FF7, 0x1FFC, 0x1FFF] : List Nat),
      (BitVec.ofNat 13 n).toNat = n ∧ ((0xD44 ≤ n ∧ n < 0xD80) ∨ (0xF04 ≤ n ∧ n < 0xF08) ∨ (0xF70 ≤ n ∧ n < 0xF80) ∨
        (0x1140 ≤ n ∧ n < 0x1FF8) ∨ 0x1FFC ≤ n))] := by
  decide +kernel

theorem witness_NothingActsDuringSoftReset : allTrue [
    meets { ready {} with before := some {} } (fun s => s.before.isSome = true ∧ Instr.cabinRegister 0 ≠ .softResetDone ∧
      Instr.cabinRegister 0 ≠ .powerOnReset ∧ s.before = some {})] := by decide +kernel

theorem witness_ResetsSetTheState : allTrue [
    meets (ready (withCabin 5 .onLine)) (fun s => s.before = none),
    meets { ready {} with before := some {} } (fun s => s.before.isSome = true)] := by decide +kernel

/-! ## Witnesses: time, samples and the rope -/

theorem witness_EveryStepKeepsOutputsSteady :
    Steady (ready (inMode .stoppingFast)).part ∧
      ∃ t, step { ready (inMode .stoppingFast) with pending := [.millisecondCount] } = .next t :=
  ⟨by decide +kernel, _, rfl⟩

/-- Inputs of a sample in which nothing moves, with these encoder intervals. -/
def still (i1 i2 : EncoderInterval) : SampleInputs :=
  { detectors := 0, lockSense := false, switches := 0xFF, retClosed := true, hooks := 0, enc1 := i1, enc2 := i2 }

/-- The levels of the two phases, `n` changes in the running order on from 00 (log entry 55). -/
def turned (n : Nat) : Phases := { a := n % 4 == 1 || n % 4 == 2, b := 2 ≤ n % 4 }

/-- An interval of `n` changes in the running order, from 00. -/
def forward (n : Nat) : EncoderInterval := { between := (List.range n).map turned, atSample := turned n }

/-- An interval of `n` changes in the other order, from 00. -/
def backward (n : Nat) : EncoderInterval := { between := (List.range n).map (fun k => turned (3 * k)), atSample := turned (3 * n) }

/-- An interval in which both phases change at once, from 00. -/
def quadrature : EncoderInterval := { between := [], atSample := turned 2 }

theorem witness_CountsOfTime : allTrue [
    meets (ready (atTime 4294967295)) (fun s => Ready s),
    meets (ready (atTime 1000 station)) (fun s => Ready s ∧ s.part.clock.now.toNat % 1000 = 0 ∧ s.part.clock.now ≠ 0 ∧
      s.part.clock.secondTaken = false),
    meets (ready (atTime 1000 (withCall 1 { state := .connected, nextSecond := ms 1000 }))) (fun s => Ready s ∧
      (callSlot s.part 1).state = .connected ∧ reached s.part.clock.now (callSlot s.part 1).nextSecond = true)] := by decide +kernel

theorem witness_SampleTickTakesTheInputs : allTrue [
    meets (ready (atTime 10)) (fun s => Ready s ∧ sampleDue s.part = true),
    meets (ready { track := { detectors := Vector.replicate 7 { input := { last := some true, settled := some false } } } }) (fun s =>
      Ready s ∧ sampleDue s.part = true ∧ (s.part.track.detectors.get 6).input.settled = some false ∧
      ((s.part.track.detectors.get 6).input.sample true).settled = some true)] := by decide +kernel

/-- A hook that has not settled and one that has, and a rope window with a newest increment after the sample. -/
theorem witness_SampleTick_hooks : allTrue [
    meets (ready (withCall 1 { hook := none, hookInput := { last := some true } })) (fun s => Ready s ∧ sampleDue s.part = true ∧
      (callSlot s.part 1).hook = none ∧ ((callSlot s.part 1).hookInput.sample true).settled = some true),
    meets (ready (withCall 1 { hook := some false, hookInput := shows false })) (fun s => Ready s ∧ sampleDue s.part = true ∧
      (callSlot s.part 1).hook ≠ none ∧ (ropeAfter (still (forward 0) (forward 0)) s.part).window.head?.isSome = true)] := by
  decide +kernel

/-- The rope after its first sample, with these fields. -/
def started (r : Rope := {}) : Part := { rope := { r with started := true } }

/-- A station in STARTING whose next sample, with no rope moving in it, publishes this sum of increments divided by 80. -/
def starting (um : Int) (r : Rope := {}) : Part :=
  inMode .starting (started { r with window := { um := um } :: List.replicate 7 {} })

/-- The entry into RUN at 50 mm/s, below it, with no valid speed, and at a sample that reports a cause. -/
theorem witness_SampleTick_entersRun :
    let x := still (forward 0) (forward 0)
    allTrue [
      meets (ready (starting 4000)) (fun s => Ready s ∧ sampleDue s.part = true ∧ s.part.sup.mode = .starting ∧ NothingWaits s.part ∧
        ¬ SampleReports x s.part ∧ (ropeAfter x s.part).view.invalid = false ∧ (ropeAfter x s.part).view.v = 50),
      meets (ready (starting 3999)) (fun s => Ready s ∧ sampleDue s.part = true ∧ s.part.sup.mode = .starting ∧ NothingWaits s.part ∧
        ¬ SampleReports x s.part ∧ (ropeAfter x s.part).view.v = 49),
      meets (ready (starting 4000 { e1 := { faulted := true }, e2 := { faulted := true } })) (fun s => Ready s ∧
        sampleDue s.part = true ∧ s.part.sup.mode = .starting ∧ NothingWaits s.part ∧ ¬ SampleReports x s.part ∧
        (ropeAfter x s.part).view.invalid = true),
      meets (ready (starting 4000 { e2 := { faultRun := 2, position := 2048 } })) (fun s => Ready s ∧ sampleDue s.part = true ∧
        SampleReports x s.part ∧ 50 ≤ (ropeAfter x s.part).view.v)] := by decide +kernel

/-- A rope that runs at 60,000 um a sample, its slip sums this far apart, with the last sample's slip condition. -/
def slipping (um : Int) (present : Bool := false) (fill : Nat := 99) : Part :=
  let p := started { slip1 := um :: List.replicate 99 0, slip2 := List.replicate 100 0, slipFill := fill, slipPresent := present
                     window := List.replicate 8 { um := 60000 } }
  { p with sup := { p.sup with profileA := { p.sup.profileA with l1 := 1000, l2 := 1000 } } }

/-- ROPE_SLIP becomes present above the slip limit of 500 mm and not at it, ends there, and ends where the check is not made. -/
theorem witness_RopeRunsAreReported_slip :
    let x := still (forward 60) (forward 60)
    allTrue [
      meets (ready (slipping 500001)) (fun s => Ready s ∧ sampleDue s.part = true ∧ s.part.rope.slipPresent = false ∧
        (ropeAfter x s.part).slipPresent = true),
      meets (ready (slipping (-500000))) (fun s => Ready s ∧ sampleDue s.part = true ∧ s.part.rope.slipPresent = false ∧
        (ropeAfter x s.part).slipPresent = false ∧ (ropeAfter x s.part).view.slipMade = true),
      meets (ready (slipping 500000 true)) (fun s => Ready s ∧ sampleDue s.part = true ∧ s.part.rope.slipPresent = true ∧
        (ropeAfter x s.part).slipPresent = false ∧ (ropeAfter x s.part).view.slipDiff = 500),
      meets (ready (slipping 500001 true 98)) (fun s => Ready s ∧ sampleDue s.part = true ∧ s.part.rope.slipPresent = true ∧
        (ropeAfter x s.part).slipPresent = false ∧ (ropeAfter x s.part).view.slipMade = false),
      meets (ready (slipping 500001 true)) (fun s => Ready s ∧ sampleDue s.part = true ∧ s.part.rope.slipPresent = true ∧
        (ropeAfter x s.part).slipPresent = true)] := by decide +kernel

theorem witness_RopeRunsAreReported : allTrue [
    meets (ready (started { e1 := { faultRun := 2 } })) (fun s => Ready s ∧ encoderFaults (still quadrature (forward 0)) s.part = true),
    meets (ready (started { e1 := { faulted := true }, e2 := { faultRun := 2, position := 2047 } })) (fun s => Ready s ∧
      encoderFaults (still (forward 0) (forward 1)) s.part = true ∧
      faultSituation s.part.rope.e1.faulted s.part.rope.e2.faulted ≠ 0),
    meets (ready (started { e2 := { faulted := true, cleanRun := 99 } })) (fun s => Ready s ∧
      encoderReturns (still (forward 0) (forward 0)) s.part = true),
    meets (ready (started { rollRun := 4, window := List.replicate 8 { um := -2000 } })) (fun s => Ready s ∧
      rollbackReached (still (backward 3) (backward 3)) s.part = true),
    meets (ready (started { overRun := 49, window := List.replicate 8 { um := 60000 } })) (fun s => Ready s ∧
      overspeedReached (still (forward 60) (forward 60)) s.part = true)] := by decide +kernel

theorem witness_RopeSampleSpeedGapAndCeiling :
    let far : Encoder := { position := 2047 }
    let clean := (ropeSample {} 0 .run 0 (forward 5) (forward 5) { started := true }).rope
    let faulty := (ropeSample {} 3000 .run 0 (forward 1) (forward 5) { started := true, ceff := 3006, e1 := far }).rope
    let second := (ropeSample {} 0 .run 0 (forward 5) (forward 1) { started := true, e1 := { faulted := true }, e2 := far }).rope
    let blind := (ropeSample {} 0 .run 0 quadrature quadrature
      { started := true, e1 := { faultRun := 2 }, e2 := { faulted := true } }).rope
    allTrue [clean.source ≠ .none ∧ ∀ x ∈ clean.window, x.faulty = false, faulty.source ≠ .none ∧ ∃ x ∈ faulty.window, x.faulty = true,
      second.source = .e2 ∧ ∃ x ∈ second.window, x.faulty = true, blind.source = .none, (far.watch true (forward 1)).sampleFaulty,
      (far.watch true (forward 0)).sampleFaulty == false, (3000 : Nat) ≤ 3006, ({} : Rope).started = false,
      (turned 1).a ≠ (turned 0).a ∧ (turned 1).b = (turned 0).b, (turned 2).a = (turned 1).a ∧ (turned 2).b ≠ (turned 1).b,
      (turned 2).a ≠ (turned 0).a ∧ (turned 2).b ≠ (turned 0).b, ({} : Encoder).phases = { a := false, b := false }] := by
  decide +kernel

/-- The runs at their bounds: a stopped rope, one above 20 mm/s, and health in each row of the table of R27. -/
theorem witness_RopeSample_runs :
    let after := fun (i1 i2 : EncoderInterval) (r : Rope) => (ropeSample {} 0 .stoppingFast 0 i1 i2 r).rope
    let stopped := after (forward 0) (forward 0) { started := true, standRun := 99 }
    let moving := after (forward 2) (forward 2) { started := true, standRun := 99 }
    let blind := after quadrature quadrature { started := true, stopEntry := some 0, e1 := { faultRun := 2 }, e2 := { faulted := true } }
    let bad := ({} : Encoder).watch true quadrature
    allTrue [stopped.source ≠ .none ∧ stopped.v.natAbs < 20, moving.source ≠ .none ∧ 20 ≤ moving.v.natAbs, blind.source = .none,
      bad.errorNoted = true ∧ bad.faulted = false ∧ bad.faultRun < 2, 2 ≤ ({ faultRun := 2 } : Encoder).faultRun,
      ({ faulted := true, cleanRun := 98 } : Encoder).cleanRun < 99, 99 ≤ ({ faulted := true, cleanRun := 99 } : Encoder).cleanRun,
      0 < ({ ceff := 1 } : Rope).ceff, ({ ceff := 0 } : Rope).ceff ≤ 0] := by decide +kernel

theorem witness_StandstillStartAndLinkTimers : allTrue [
    meets (ready (started { standRun := 99 })) (fun s => Ready s ∧ standstillReached (still (forward 0) (forward 0)) s.part = true ∧
      s.part.rope.standstill = false),
    meets (ready (atTime 30000 (inMode .stoppingFast { rope := { view := { invalid := true }, stopEntry := some 0 } }))) (fun s =>
      Ready s ∧ s.part.rope.view.invalid = true ∧ s.part.sup.mode.isStopping = true ∧ s.part.rope.standstill = false ∧
      s.part.rope.stopEntry = some 0 ∧ reached s.part.clock.now (0 + ms 30000) = true),
    meets (ready (atTime 10000 { sup := { mode := .starting, startTimer := some (ms 10000) } })) (fun s => Ready s ∧
      s.part.sup.mode = .starting ∧ ended s.part.clock.now s.part.sup.startTimer = true),
    meets (ready (atTime 500 { sup := { mode := .run, graceTimer := some (ms 500) } })) (fun s => Ready s ∧
      s.part.sup.mode.isRunning = true ∧ ended s.part.clock.now s.part.sup.graceTimer = true)] := by decide +kernel

/-! ## Witnesses: passages and the retainer -/

/-- A passage noted at detector Dk at a time. -/
def passed (k : Fin 7) (n : Nat) (p : Part := {}) : Part :=
  { p with track := { p.track with
      detectors := modTable p.track.detectors k (fun d => { d with passage := some { time := ms n, lockSensed := true } }) } }

/-- The tag matcher in a state. -/
def matching (m : TagMatcher) (p : Part := {}) : Part := { p with track := { p.track with matcher := m } }

/-- Fifteen unidentified entries in S1. -/
def fullQueue (p : Part := {}) : Part := withQueue (List.replicate 15 (0, 1)) p

theorem witness_ArrivalsAndTheTagMatcher : allTrue [
    meets (ready {}) (fun s => Ready s ∧ s.part.track.matcher = .empty),
    meets (ready (passed 0 10)) (fun s => Ready s ∧ (passageAt 1 s.part).isSome = true ∧ s.part.track.matcher = .empty),
    meets (ready (atTime 200 (matching (.reportHeld (some 9) 0)))) (fun s => Ready s ∧
      s.part.track.matcher = .reportHeld (some 9) 0 ∧ reached s.part.clock.now (0 + ms 200) = true),
    meets (ready (matching (.passageWaiting 5) station)) (fun s => Ready s ∧ s.part.track.matcher = .passageWaiting 5 ∧
      readTag (some 9) = some 9 ∧ readTag none = none ∧ rosterNumbers s.part = [9] ∧ s.part.track.queue.length < 15),
    meets (ready (atTime 205 (matching (.passageWaiting 5) fullQueue))) (fun s => Ready s ∧
      reached s.part.clock.now (5 + ms 200) = true ∧ 15 ≤ s.part.track.queue.length),
    meets (ready (passed 0 10 (matching (.reportHeld none 0) station))) (fun s => Ready s ∧
      (passageAt 1 s.part).map (fun n => n.time) = some 10 ∧ s.part.track.matcher = .reportHeld none 0)] := by decide +kernel

theorem witness_Arrivals_arrive :
    Arrival (.tagReport (some 9)) (some 9) 5 (ready (matching (.passageWaiting 5) station)) ∧
    Arrival .d1Passage none 10 (ready (passed 0 10 (matching (.reportHeld none 0) station))) ∧
    Arrival .tagPassageExpiry none 5 (ready (atTime 205 (matching (.passageWaiting 5) fullQueue))) ∧
    Arrival .d1Passage none 5 (ready (passed 0 10 (matching (.passageWaiting 5) station))) :=
  ⟨.inl ⟨some 9, rfl, rfl, rfl⟩, .inr (.inl ⟨rfl, { time := 10, lockSensed := true }, 0, rfl, rfl, rfl⟩),
    .inr (.inr (.inl ⟨rfl, rfl, rfl, by decide +kernel⟩)), .inr (.inr (.inr ⟨rfl, rfl, rfl, rfl⟩))⟩

theorem witness_StationPassageMovesTheEntry : allTrue [
    meets (ready (passed 1 10 (withQueue [(0, 4), (7, 1)]))) (fun s => Ready s ∧
      (s.part.track.queue.map (fun e => e.serial)).Nodup ∧ (passageAt 2 s.part).map (fun n => n.time) = some 10 ∧
      s.part.track.queue = [{ serial := 0, cabin := 0, segment := 4, entered := 0 }] ++ { serial := 1, cabin := 7, segment := 1, entered := 0 } :: [] ∧
      s.part.track.matcher = .empty ∧ earlier 0 10 = true),
    meets (ready (passed 3 10 (withQueue [(7, 3), (0, 3)]))) (fun s => Ready s ∧
      (passageAt 4 s.part).map (fun n => n.lockSensed) = some true ∧ NothingWaits s.part ∧ s.part.sequencer.actions = [] ∧
      (∀ j : Fin 24, ∀ x ∈ s.part.sequencer.program.get j, x.trigger ≠ 4) ∧ isCabin 7 = true ∧ isCabin 0 = false ∧
      s.part.track.queue = [] ++ { serial := 0, cabin := 7, segment := 3, entered := 0 } ::
        [{ serial := 1, cabin := 0, segment := 3, entered := 0 }]),
    meets (ready (passed 5 10 (withQueue [(7, 5)]))) (fun s => Ready s ∧ (passageAt 6 s.part).isSome = true ∧
      ∃ e ∈ s.part.track.queue, e.segment = 6 - 1),
    meets (ready (passed 1 10 (matching (.passageWaiting 5) station))) (fun s => Ready s ∧ (passageAt 2 s.part).isSome = true ∧
      s.part.track.matcher = .passageWaiting 5 ∧ s.part.track.queue.length < 15),
    meets (ready (passed 4 10 (withQueue [(7, 3)]))) (fun s => Ready s ∧ (passageAt 5 s.part).isSome = true ∧
      ∀ x ∈ s.part.track.queue, ¬ (x.segment = 5 - 1 ∧ earlier x.entered 10 = true))] := by decide +kernel

/-- A D2 passage that finds a D1 passage waiting: it moves the entry that the arrival makes, or an earlier one, or nothing; and a full queue. -/
theorem witness_StationPassage_waiting : allTrue [
    meets (ready (passed 1 10 (matching (.passageWaiting 5) station))) (fun s => (∀ e ∈ s.part.track.queue, e.serial < s.part.track.nextSerial) ∧
      (rosterNumbers s.part).head? = some 9 ∧ earlier 5 10 = true ∧
      s.part.track.queue.map shownEntry ++ [(9, 1, 5)] = [(0, 4, 0), (7, 2, 0)] ++ (9, 1, 5) :: []),
    meets (ready (passed 1 10 (matching (.passageWaiting 10) (withQueue [(7, 2)])))) (fun s => s.part.track.queue.length < 15 ∧
      (rosterNumbers s.part).head? = none ∧ ∀ y ∈ s.part.track.queue.map shownEntry ++ [(0, 1, 10)], ¬ (y.2.1 = 1 ∧ earlier y.2.2 10 = true)),
    meets (ready (passed 1 10 (matching (.passageWaiting 5) (fullQueue (withRoster [9]))))) (fun s =>
      (∀ e ∈ s.part.track.queue, e.serial < s.part.track.nextSerial) ∧ ¬ s.part.track.queue.length < 15 ∧
      (s.part.track.queue.map shownEntry).head? = some (0, 1, 0) ∧ earlier 0 10 = true)] := by decide +kernel

theorem witness_ExitPassageLaunchesTheCabin : allTrue [
    meets (ready (passed 6 10 (withCabin 7 .inStation (withQueue [(7, 6)])))) (fun s => Ready s ∧
      (s.part.track.queue.map (fun e => e.serial)).Nodup ∧ (passageAt 7 s.part).map (fun n => n.time) = some 10 ∧
      s.part.track.queue = [] ++ { serial := 0, cabin := 7, segment := 6, entered := 0 } :: [] ∧ earlier 0 10 = true ∧
      isCabin 7 = true),
    meets (ready (passed 6 10 (withQueue [(0, 6)]))) (fun s => Ready s ∧ (passageAt 7 s.part).isSome = true ∧
      s.part.track.queue.map (fun e => e.cabin) = [0]),
    meets (ready (passed 6 10)) (fun s => Ready s ∧ (passageAt 7 s.part).isSome = true ∧ s.part.track.queue = [])] := by decide +kernel

theorem witness_RetainerPulseReleaseAndWatch : allTrue [
    meets (ready { launch := { retInput := shows true, watch := .closing 0, watchFault := true } }) (fun s => Ready s ∧
      retainerChanged s.part = true ∧ s.part.launch.watch = .closing 0 ∧ s.part.launch.retInput.settled = some true ∧
      s.part.launch.watchFault = true),
    meets (ready { launch := { retInput := shows false } }) (fun s => Ready s ∧ retainerChanged s.part = true ∧
      s.part.launch.watch = .expectClosed ∧ s.part.launch.retInput.settled = some false ∧ s.part.launch.watchFault = false),
    meets (ready (atTime 500 { launch := { state := .releasing, retain := true } })) (fun s => Ready s ∧ pulseOver s.part = true),
    meets (ready (atTime 2000 { launch := { state := .releasing } })) (fun s => Ready s ∧ s.part.launch.state = .releasing ∧
      reached s.part.clock.now (s.part.launch.grantTime + ms 2000) = true),
    meets (ready (atTime 2000 { launch := { watch := .closing (ms 2000), retValue := some false } })) (fun s => Ready s ∧
      s.part.launch.watch = .closing (ms 2000) ∧ reached s.part.clock.now (ms 2000) = true ∧
      s.part.launch.retValue = some false ∧ s.part.launch.watchFault = false)] := by decide +kernel

/-- Every release condition holds: RUN, cabin 7 at the head of S4 with its door locked, S5 empty, the gap and the speed reached. -/
def releasable : Part :=
  inMode .run (setDoor 7 .locked (withCabin 7 .inStation
    (withQueue [(7, 4)] { rope := { view := { v := 1000, gap := 60000 } } })))

theorem witness_ReleaseIsRequestedWhileAllConditionsHold : allTrue [
    meets (ready releasable) (fun s => s.part.launch.state = .idle ∧ (judgeLaunch s.part).launch.state = .requested),
    meets (ready { launch := { state := .requested }, doors := { queue := [.retainer] } }) (fun s =>
      s.part.launch.state = .requested ∧ (judgeLaunch s.part).launch.state = .idle),
    meets (ready {}) (fun s => s.part.launch.state ≠ .requested ∧ s.part.launch.state ≠ .releasing)] := by decide +kernel

/-- A release requested and waiting, its conditions all there, and a step that grants it: the budget has room again. -/
theorem witness_ReleaseIsRequested_granted : meets { ready (atTime 1000 (withStarts [.retainer] 1 1
        { releasable with launch := { state := .requested, requested := 7 } })) with pending := [.grantWindowExpiry] } (fun s =>
    RequestStands s.part ∧ s.part.launch.state = .requested ∧ s.part.launch.retain = false ∧
      ∃ t, step s = .next t ∧ t.part.launch.retain = true) :=
  ⟨by decide +kernel, rfl, rfl, _, rfl, by decide +kernel⟩

theorem witness_HookEventActsOnTheCall : allTrue [
    meets (ready (withCall 0 { state := .idle, freeRun := 2, hook := some false, hookInput := shows true })) (fun s => Ready s ∧
      hookChanged 0 s.part = true ∧ (callSlot s.part 0).hookInput.settled = some true ∧ (callSlot s.part 0).freeRun = 2),
    meets (ready (withCall 1 { state := .idle, freeRun := 1, hook := some false, hookInput := shows true })) (fun s => Ready s ∧
      hookChanged 1 s.part = true ∧ (callSlot s.part 1).freeRun ≠ 2),
    meets (ready (withCall 1 { hook := some false, hookInput := shows true })) (fun s => Ready s ∧ hookChanged 1 s.part = true ∧
      (callSlot s.part 1).state = .unavailable),
    meets (ready (withCall 1 { state := .ringingIn, role := .answerer, hook := some false, hookInput := shows true })) (fun s =>
      Ready s ∧ hookChanged 1 s.part = true ∧ (callSlot s.part 1).state = .ringingIn),
    meets (ready (withCall 1 { state := .connected, role := .answerer, seizeTaken := true, hook := some true, hookInput := shows false }))
      (fun s => Ready s ∧ hookChanged 1 s.part = true ∧ (callSlot s.part 1).hookInput.settled = some false ∧
        (callSlot s.part 1).role = .answerer ∧ (callSlot s.part 1).seizeTaken = true),
    meets (ready (withCall 1 { state := .clearing, clearedBySummit := true, hook := some true, hookInput := shows false })) (fun s =>
      Ready s ∧ hookChanged 1 s.part = true ∧ (callSlot s.part 1).state = .clearing),
    meets (ready (withCall 1 { state := .idle, hook := some true, hookInput := shows false })) (fun s => Ready s ∧
      hookChanged 1 s.part = true ∧ (callSlot s.part 1).state = .idle)] := by decide +kernel

/-- The caller's clauses: a HANDSET call put down in each of its states, an ORDER call answered and picked up, and one that goes on. -/
theorem witness_HookEvent_caller : allTrue [
    (∀ st ∈ ([.seizing, .ringingOut, .connected] : List CallState), meets (ready (withCall 1
        { state := st, role := .caller, originator := .handset, answerTaken := true, hook := some true, hookInput := shows false }))
      (fun s => Ready s ∧ hookChanged 1 s.part = true ∧ (callSlot s.part 1).hookInput.settled = some false ∧
        (callSlot s.part 1).answerTaken = true)),
    meets (ready (withCall 1
        { state := .connected, role := .caller, originator := .order, pickedUp := true, hook := some true, hookInput := shows false }))
      (fun s => Ready s ∧ hookChanged 1 s.part = true ∧ (callSlot s.part 1).pickedUp = true),
    meets (ready (withCall 1 { state := .ringingOut, role := .caller, originator := .alert, hook := some true, hookInput := shows false }))
      (fun s => Ready s ∧ hookChanged 1 s.part = true ∧ (callSlot s.part 1).originator ≠ .handset),
    meets (ready (withCall 1
        { state := .connected, role := .caller, originator := .order, ringing := true, hook := some false, hookInput := shows true })) (fun s =>
      Ready s ∧ hookChanged 1 s.part = true ∧ (callSlot s.part 1).hookInput.settled = some true ∧ (callSlot s.part 1).state = .connected),
    meets (ready (withCall 1 { state := .clearing, hook := some false, hookInput := shows true })) (fun s => Ready s ∧
      hookChanged 1 s.part = true ∧ (callSlot s.part 1).state ∈ [.seizing, .ringingOut, .clearing])] := by decide +kernel

/-! ## Witnesses: door channels, the converter and the grip test -/

/-- A channel that has sampled, with these limits shown. -/
def atLimits (a b : Bool) (c : Channel) : Channel := { c with started := true, limA := shows a, limB := shows b, lockSns := shows false }

theorem witness_DoorOutputsOnlyInMotion :
    meets (ready (withDoor 2 { config := gate true, state := .movingToB, motor := some .b, lockRel := true, target := some .b }))
      (fun s => DoorsSafe s.part ∧ (channel s.part 2).motor.isSome = true) ∧
    meets (ready (withStarts [.door 2] 0 1 (withDoor 2 { config := gate true, state := .waitingStart, waits := .move, lockRel := true })))
      (fun s => DoorsSafe s.part ∧ (channel s.part 2).lockRel = true) ∧
    meets (ready { launch := { state := .releasing, retain := true } }) (fun s => RetainSafe s.part ∧ s.part.launch.retain = true) := by
  decide +kernel

theorem witness_DoorChannelStepFollowsTheLimits : allTrue [
    meets (ready {}) (fun s => Ready s ∧ stepDue 7 s.part = true ∧ (channel s.part 7).config.kind = .none ∧
      ∀ x ∈ s.part.sequencer.actions, x.dueWaiting = false),
    meets (ready (withDoor 7 (atLimits true false { config := gate false, state := .movingToA, motor := some .a, owner := .order 4 })))
      (fun s => Ready s ∧ stepDue 7 s.part = true ∧ NothingWaits s.part ∧ (channel s.part 7).config.locking = false ∧
        (debounceDoor true true (channel s.part 7).limA).high = true ∧ (debounceDoor true false (channel s.part 7).limB).high = false),
    meets (ready (withDoor 7 (atLimits false true { config := gate true, state := .movingToB, motor := some .b })))
      (fun s => Ready s ∧ stepDue 7 s.part = true ∧ NothingWaits s.part ∧
        (debounceDoor true true (channel s.part 7).limB).high = true ∧ (debounceDoor true false (channel s.part 7).limA).high = false),
    meets (ready (withStarts [] 1 1 (withDoor 7 (atLimits false true { config := closer, state := .movingToB, motor := some .b }))))
      (fun s => Ready s ∧ stepDue 7 s.part = true ∧ NothingWaits s.part ∧ (channel s.part 7).config.kind.isCabin = true ∧
        budgetRoom s.part.doors s.part.clock.now = false ∧ (debounceDoor true true (channel s.part 7).limB).high = true),
    meets (ready (withDoor 7 (atLimits false false { config := closer, state := .atA }))) (fun s => Ready s ∧
      stepDue 7 s.part = true ∧ (channel s.part 7).state = .atA ∧ (debounceDoor true false (channel s.part 7).limA).high = false ∧
      .door 7 ∉ s.part.doors.queue),
    meets (ready (withDoor 7 (atLimits true true { config := closer, state := .movingToA, motor := some .a }))) (fun s => Ready s ∧
      stepDue 7 s.part = true ∧ (channel s.part 7).state ≠ .fault ∧ (debounceDoor true true (channel s.part 7).limA).high = true ∧
      (debounceDoor true true (channel s.part 7).limB).high = true ∧ (channel s.part 7).config.category ≠ .none)] := by decide +kernel

/-- LEFT_END in AT_B and in LOCKING, where a DOOR_MOVE owns the channel. -/
theorem witness_DoorChannelStep_leftEnd : allTrue [
    meets (ready (withDoor 7 (atLimits false false { config := gate false, state := .atB }))) (fun s => Ready s ∧
      stepDue 7 s.part = true ∧ (channel s.part 7).state = .atB ∧ (debounceDoor true false (channel s.part 7).limB).high = false ∧
      NothingWaits s.part),
    meets (ready (withDoor 7 (atLimits false false { config := gate true, state := .locking, owner := .order 31 }))) (fun s => Ready s ∧
      stepDue 7 s.part = true ∧ (channel s.part 7).state = .locking ∧ (debounceDoor true false (channel s.part 7).limA).high = false ∧
      .door 7 ∉ s.part.doors.queue ∧ (channel s.part 7).owner = .order 31 ∧
      ∀ f ∈ s.part.sequencer.flights.get 7, f.isCabin = false)] := by decide +kernel

/-- No limit, no lock. -/
def between : ChannelInputs := { limA := false, limB := false, lockSns := false }

theorem witness_DoorTimersAndObstruction : allTrue [
    meets (ready (atTime 300 (withDoor 7 (atLimits true false { config := gate true, state := .locking, owner := .order 4 })))) (fun s =>
      Ready s ∧ lockTimeDue 7 { between with limA := true } s.part = true),
    meets (ready (atTime 4000 (withDoor 7 (atLimits false false { config := closer, state := .movingToB, motor := some .b })))) (fun s =>
      Ready s ∧ travelDue 7 between s.part = true ∧ (channel s.part 7).config.category ≠ .none),
    meets (ready (atTime 1000 (withStarts [] 1 1 (withDoor 7 (atLimits true false {
        config := closer, state := .reopenDwell, target := some .b }))))) (fun s => Ready s ∧ dwellDue 7 { between with limA := true } s.part = true ∧
      s.part.doors.queue = [] ∧ budgetRoom s.part.doors s.part.clock.now = true ∧ (channel s.part 7).target = some .b ∧
      (channel (beforeTimers 7 { between with limA := true } s.part) 7).limit .b = false),
    meets (ready { (atTime 200 (withDoor 7 (atLimits false false
          { config := closer, state := .movingToB, motor := some .b, target := some .b, obstructionRun := 1 }))) with
        clock := { now := ms 200, scanTaken := true }
        sensors := { mark := .fresh, codes := Vector.replicate 11 2001 } }) (fun s =>
      Ready s ∧ obstructionDue 7 between s.part = true ∧ s.part.doors.queue = [] ∧
      budgetRoom s.part.doors s.part.clock.now = true ∧
      (channel (beforeTimers 7 between s.part) 7).limit (channel s.part 7).config.openEnd = false)] := by decide +kernel

/-- An open grip window of 16 samples with this many counted and fresh codes. -/
def gripOpen (n : Nat) : GripWindow :=
  { cabin := 128, opened := 0, samples := n, codes := n, forces := some (4500, 8500), faultSeen := false, zero := 200, gain := 2500
    gripMin := 4500, gripMax := 8500, target := 16 }

theorem witness_ConverterScanAndGrip : allTrue [
    meets (ready (atTime 10 { sensors := { failRun := 3 } })) (fun s => Ready s ∧ scanDue s.part = true ∧ s.part.sensors.failRun = 3 ∧
      s.part.sup.pendingSwitch = none ∧ ∀ k : Fin 11, ((Vector.replicate 11 (some 0xFFF) : ScanAnswers).get k).isSome = true),
    meets (ready { sensors := { failRun := 2 } }) (fun s => Ready s ∧ scanDue s.part = true ∧
      ((Vector.replicate 11 none : ScanAnswers).get 10).isSome = false ∧ converterFails (Vector.replicate 11 none) s.part = true),
    meets (ready (atTime 150 { grip := { window := some (gripOpen 15) } })) (fun s => Ready s ∧ gripReached s.part = true),
    meets (ready (atTime 150 { grip := { window := some { gripOpen 15 with codes := 2, faultSeen := true } } })) (fun s => Ready s ∧
      gripReached s.part = true ∧ ∃ w ∈ s.part.grip.window, w.codes + 1 < 4 ∧ w.faultSeen = true),
    meets (ready { grip := { window := some (gripOpen 4) } }) (fun s => ∃ w ∈ s.part.grip.window, w.forces = some (4500, 8500) ∧
      4 ≤ w.codes ∧ w.faultSeen = false),
    meets (ready { grip := { window := some (gripOpen 3) } }) (fun s => ∃ w ∈ s.part.grip.window, w.codes < 4)] := by decide +kernel

/-- The bounds of tension and wind for the profile after reset, one code each side of every limit. -/
theorem witness_ConverterScan_limits :
    let f : Profile := {}
    let inside := fun c : Nat => f.tensionLow + f.tensionHysteresis ≤ c ∧ c + f.tensionHysteresis ≤ f.tensionHigh
    let between := fun c : Nat => f.tensionLow ≤ c ∧ c ≤ f.tensionHigh ∧
      (c < f.tensionLow + f.tensionHysteresis ∨ f.tensionHigh < c + f.tensionHysteresis)
    allTrue [f.tensionLow ≤ f.tensionHigh, (f.tensionLow - 1 < f.tensionLow), f.tensionHigh < f.tensionHigh + 1,
      inside (f.tensionLow + f.tensionHysteresis), inside (f.tensionHigh - f.tensionHysteresis), between f.tensionLow, between f.tensionHigh,
      f.windThreshold - f.windHysteresis - 1 + f.windHysteresis < f.windThreshold,
      f.windThreshold - 1 < f.windThreshold ∧ f.windThreshold ≤ f.windThreshold - 1 + f.windHysteresis] := by decide +kernel

/-- A gate action due at time 5. -/
def gateAction (c : Condition) : Action :=
  { entry := 1, channel := 3, target := .b, condition := c, isCabin := false, due := 5, cabin := 0, ref := none }

/-- A cabin action due at time 5, bound to cabin 7 and the queue entry of serial 0. -/
def cabinAction : Action :=
  { entry := 1, channel := 3, target := .b, condition := .always, isCabin := true, due := 5, cabin := 7, ref := some 0 }

theorem witness_ActionDueIssuesOrDrops : allTrue [
    meets (ready (atTime 5 { sequencer := { actions := [gateAction .ifRun] } })) (fun s => Ready s ∧ anyActionDue s.part = true ∧
      conditionHolds s.part (gateAction .ifRun) = false ∧ s.part.sequencer.actions = [gateAction .ifRun]),
    meets (ready (atTime 5 { withDoor 3 { config := gate false, state := .atA } with sequencer := { actions := [gateAction .always] } }))
      (fun s => Ready s ∧ anyActionDue s.part = true ∧ conditionHolds s.part (gateAction .always) = true ∧
        (channel s.part 3).closed = false ∧ (channel s.part 3).owner = .none ∧ (channel s.part 3).state.atRest = true ∧
        (channel s.part 3).state ≠ End.b.atState ∧ (channel s.part 3).config.locking = false ∧ s.part.doors.queue = [] ∧
        budgetRoom s.part.doors s.part.clock.now = true ∧ (channel s.part 3).limit .b = false),
    meets (ready (atTime 5 { withDoor 3 { config := gate false, state := .fault } with sequencer := { actions := [gateAction .always] } }))
      (fun s => Ready s ∧ anyActionDue s.part = true ∧ conditionHolds s.part (gateAction .always) = true ∧
        (channel s.part 3).closed = true),
    meets (ready (atTime 5 { withDoor 3 { config := closer, state := .atA } (withQueue [(7, 2)]) with
        sequencer := { actions := [cabinAction] } })) (fun s => Ready s ∧ anyActionDue s.part = true ∧
      conditionHolds s.part cabinAction = true ∧ s.part.sequencer.actions = [cabinAction] ∧ (channel s.part 3).state = .atA ∧
      (∃ e, entryOf s.part cabinAction.ref = some e ∧ e.segment = (channel s.part 3).config.reach) ∧ (channel s.part 3).closed = false ∧
      (channel s.part 3).limit .b = false ∧ budgetRoom s.part.doors s.part.clock.now = true ∧ s.part.doors.queue = []),
    meets (ready (atTime 5 { withDoor 3 { config := closer, state := .movingToA } (withQueue [(7, 2)]) with
        sequencer := { actions := [cabinAction] } })) (fun s => Ready s ∧ anyActionDue s.part = true ∧
      conditionHolds s.part cabinAction = true ∧ (channel s.part 3).state ≠ .atA),
    meets (ready (atTime 5 { withDoor 3 { state := .atA } (withQueue [(7, 2)]) with
        sequencer := { actions := [cabinAction] } })) (fun s => Ready s ∧ anyActionDue s.part = true ∧
      (channel s.part 3).state = .atA ∧ (channel s.part 3).closed = true ∧ (∀ r ∈ s.part.doors.queue, r = .retainer) ∧
      isCabin cabinAction.cabin = true)] := by decide +kernel

/-- A program with an entry for each of these triggers, on channel 3. -/
def programmed (l : List Nat) (p : Part := {}) : Part :=
  { p with sequencer := { p.sequencer with program := Vector.ofFn (fun j : Fin 24 =>
      l[j.val]?.map (fun k => { trigger := k, channel := 3, action := .b, delay := 200, condition := .always })) } }

/-- Channel 3 a cabin closer of this reach segment, with `n` pending actions of cabin 7, whose entry has serial 0, and one in flight. -/
def acting (reach n : Nat) (p : Part := {}) : Part :=
  withDoor 3 { config := { closer with reach := reach } } { p with sequencer := { p.sequencer with
    actions := List.replicate n { cabinAction with due := ms 100 }
    flights := p.sequencer.flights.set 3 (some { entry := 1, target := .b, isCabin := true, cabin := 7, ref := some 0, issued := 0 }) } }

/-- No action is due: one made beyond its reach, one removed and one in flight late at D4; a list that is full at D2; the same at D7 and at an
arrival. -/
theorem witness_ActionsMade : allTrue [
    meets (ready (passed 3 10 (acting 3 1 (programmed [4, 1] (withQueue [(7, 3)]))))) (fun s => Ready s ∧
      (passageAt 4 s.part).isSome = true ∧ NoneDueAt 4 7 0 (some 0) s.part ∧ (madeAt s.part 4 7 (some 0)).length = 1 ∧
      (s.part.sequencer.actions.filter (leavesAt s.part 4 0)).length = 1 ∧ (s.part.sequencer.flights.get 3).any (lateAt s.part 4 0 3) = true),
    meets (ready (passed 1 10 (acting 6 16 (programmed [2] (withQueue [(7, 1)]))))) (fun s => Ready s ∧
      NoneDueAt 2 7 0 (some 0) s.part ∧ 16 ≤ (s.part.sequencer.actions.filter (fun a => !leavesAt s.part 2 0 a)).length),
    meets (ready (passed 1 10 (acting 6 15 (programmed [2] (withQueue [(7, 1)]))))) (fun s => Ready s ∧
      NoneDueAt 2 7 0 (some 0) s.part ∧ s.part.sequencer.actions.length + (madeAt s.part 2 7 (some 0)).length = 16),
    meets (ready (passed 6 10 (acting 6 1 (programmed [7] (withQueue [(7, 6)]))))) (fun s => Ready s ∧
      NoneDueAt 7 7 0 none s.part ∧ (madeAt s.part 7 7 none).length = 1),
    meets (ready (matching (.passageWaiting 5) (acting 6 1 (programmed [1] (withRoster [9]))))) (fun s => Ready s ∧
      NoneDueAt 1 9 0 (some 0) s.part ∧ (madeAt s.part 1 9 (some 0)).length = 1)] := by decide +kernel

/-! ## Witnesses: the line -/

/-- A frame of 16 octets as the summit answers in TRAINING or UP. -/
def answerFrame (kind : Nat) (word : Half) : FrameContent :=
  { kind := kind, rate := 1, mark := 0, offer := false, accept := false, number := 9, word := word, octet := 0
    pattern1 := 0xC6, pattern2 := 0x39, priority := 4, errored := 0, voice0 := [], voice1 := [] }

theorem witness_FrameOctetsReadBack : allTrue [
    allTrue [FrameWellFormed (answerFrame 1 0xFFFF),
      FrameWellFormed { answerFrame 2 0 with
        rate := 3, errored := 65535, voice0 := List.replicate 16 0xD5, voice1 := List.replicate 16 0 },
      FrameWellFormed { answerFrame 3 0 with rate := 2, mark := 3, voice0 := List.replicate 16 0xD5 }]] := by decide +kernel

/-- The summit's answer as received. -/
def heard (kind : Nat) (word : Half) : Option SummitFrame := some { offset := 64, octets := frameOctets (answerFrame kind word) }

/-- The valley frame of number 9 begun at time 0, whose answer is due. -/
def note : FrameNote :=
  { start := 0, number := 9, rate := 1, pattern1 := 0xC6, pattern2 := 0x39, priority := 4, offered := some 3
    ownSeize0 := true, ownSeize1 := false }

/-- The line in a state at rate 1, three milliseconds after that frame. -/
def awaiting (st : LineState) (p : Part := {}) : Part :=
  atTime 3 { p with line := { p.line with state := st, rate := 1, notes := [note] } }

theorem witness_FrameTickSendsAFrame : allTrue [
    meets (ready { line := { state := .up, rate := 3, autoStartDue := false } }) (fun s => Ready s ∧ frameDue s.part = true ∧
      s.part.line.autoStartDue = false ∧ s.part.line.attemptPending = false ∧ s.part.line.state = .up ∧ 1 ≤ s.part.line.rate ∧
      s.part.line.rate ≤ 3 ∧ s.part.line.config.glarePriority ≤ 7),
    meets (ready { line := { state := .training, rate := 1, autoStartDue := false } }) (fun s => Ready s ∧ frameDue s.part = true ∧
      s.part.line.attemptPending = false ∧ s.part.line.state = .training),
    meets (ready { line := { state := .dormant, autoStartDue := false } }) (fun s => Ready s ∧ frameDue s.part = true ∧
      s.part.line.attemptPending = false ∧ s.part.line.state ∈ [.down, .probing, .dormant]),
    meets State.reset (fun s => Ready s ∧ frameDue s.part = true ∧ s.part.line.autoStartDue = true ∧
      s.part.line.config.autoStart = true ∧ s.part.line.state = .down ∧ s.part.line.probe = none),
    meets (ready { line := { state := .training, rate := 3, autoStartDue := false, attemptPending := true } }) (fun s => Ready s ∧
      frameDue s.part = true ∧ s.part.line.attemptPending = true ∧ s.part.line.rate ≤ s.part.line.config.rateCeiling)] := by decide +kernel

/-- A frame in UP for each state of the transmitter and a CONNECTED call, a TRAINING frame of odd number, and an attempt above the ceiling. -/
theorem witness_FrameTick_contents : allTrue [
    (∀ m : Messages, m ∈ ([{ notes := [7] }, { waiting := [{ slot := 31, octets := [1] }] },
        { transmitter := .offering { source := .order 31, octets := [1, 2], accepted := 1 } }, { transmitter := .pause none },
        { transmitter := .pause (some { source := .note 7, octets := [0x81, 7], accepted := 1 }) }, { transmitter := .abandoning }] :
          List Messages) →
      meets (ready { line := { state := .up, rate := 3, autoStartDue := false }, messages := m }) (fun s => Ready s ∧
        frameDue s.part = true ∧ s.part.line.attemptPending = false ∧ s.part.line.config.glarePriority ≤ 7)),
    meets (ready (withCall 1 { state := .connected } { line := { state := .up, rate := 3, autoStartDue := false } })) (fun s => Ready s ∧
      frameDue s.part = true ∧ (callSlot s.part 1).state = .connected ∧ (callSlot s.part 0).state ≠ .connected),
    meets (ready { line := { state := .training, rate := 1, autoStartDue := false, frameNumber := 3 } }) (fun s => Ready s ∧
      frameDue s.part = true ∧ s.part.line.frameNumber.getLsbD 0 = true),
    meets (ready { line := { state := .training, rate := 3, autoStartDue := false, attemptPending := true
                             config := { rateCeiling := 1 } } }) (fun s => Ready s ∧ frameDue s.part = true ∧
      s.part.line.config.rateCeiling < s.part.line.rate ∧ 1 ≤ s.part.line.config.rateCeiling)] := by decide +kernel

theorem witness_SummitAnswerIsJudged : allTrue [
    meets (ready (awaiting .up)) (fun s => Ready s ∧ s.part.line.notes = [note] ∧ 3 ≤ elapsed s.part.clock.now note.start ∧
      answerGood (heard 2 1) s.part = true ∧ s.part.line.state = .up),
    meets (ready (awaiting .up)) (fun s => answerGood none s.part = false),
    meets (ready (awaiting .training { line := { echoRun := 14 } })) (fun s => Ready s ∧ answerGood (heard 1 0) s.part = true ∧
      correctEcho s.part.line note (readFrame 1 ((heard 1 0).getD { offset := 0, octets := [] }).octets) = true ∧
      s.part.line.echoRun < 15),
    meets (ready (awaiting .training)) (fun s => answerGood (heard 2 0) s.part = true ∧
      correctEcho s.part.line note (readFrame 1 ((heard 2 0).getD { offset := 0, octets := [] }).octets) = false)] := by decide +kernel

/-- A good answer in UP whose word the candidate agrees with: the two stops and WIND_WARNING come to stand, and cease. -/
theorem witness_SummitAnswer_indications : allTrue [
    meets (ready (awaiting .up { line := { candidate := some 0xE } })) (fun s => GoodInUp (heard 2 0xE) note [] s ∧
      (∀ b ∈ ([1, 2, 3] : List Nat), s.part.line.accepted.getLsbD b = false ∧
        acceptedAt s.part.line (answerRead (heard 2 0xE) note).word b = true) ∧
      s.part.sup.stopServiceStands = false ∧ s.part.sup.stopFastStands = false),
    meets (ready (awaiting .up { line := { candidate := some 0, accepted := 6 }
                                 sup := { stopServiceStands := true, stopFastStands := true } })) (fun s => GoodInUp (heard 2 0) note [] s ∧
      (∀ b ∈ ([1, 2] : List Nat), s.part.line.accepted.getLsbD b = true ∧ acceptedAt s.part.line (answerRead (heard 2 0) note).word b = false) ∧
      s.part.sup.stopServiceStands = true ∧ s.part.sup.stopFastStands = true),
    meets (ready (awaiting .up)) (fun s => GoodInUp (heard 2 0xE) note [] s ∧
      ∀ b : Fin 16, s.part.line.accepted.getLsbD b.val = acceptedAt s.part.line (answerRead (heard 2 0xE) note).word b.val)] := by
  decide +kernel

theorem witness_TrainingLossAndQuality : allTrue [
    meets (ready (awaiting .training { line := { echoRun := 15, startOrder := some 31 } })) (fun s => Ready s ∧
      succeeds (heard 1 0) s.part = true ∧ s.part.line.startOrder = some 31),
    meets (ready (awaiting .up { line := { lossRun := 49 }, sup := { stopServiceStands := true, stopFastStands := true } })) (fun s =>
      Ready s ∧ losesLine none s.part = true ∧ s.part.sup.stopServiceStands = true ∧ s.part.sup.stopFastStands = true),
    meets (ready (awaiting .up { line := { qualityWindow := List.replicate 25 true } })) (fun s => Ready s ∧
      qualityDue none s.part = true ∧ s.part.line.rate ≤ 1),
    meets (ready { awaiting .up with
        line := { (awaiting .up).line with rate := 2, qualityWindow := List.replicate 25 true } }) (fun s => Ready s ∧
      qualityDue none s.part = true ∧ 1 < s.part.line.rate)] := by decide +kernel

/-- The sixteenth correct echo, the fiftieth errored answer in a row, and an errored answer that brings the count above the threshold. -/
theorem witness_TrainingLossAndQuality_reached : allTrue [
    meets (ready (awaiting .training { line := { echoRun := 15 } })) (fun s => Ready s ∧ s.part.line.notes = [note] ∧
      3 ≤ elapsed s.part.clock.now note.start ∧ s.part.line.echoRun = 15 ∧ answerGood (heard 1 0) s.part = true ∧
      (answerRead (heard 1 0) note).kind = 1 ∧ (answerRead (heard 1 0) note).rate = s.part.line.rate ∧
      (answerRead (heard 1 0) note).number = note.number ∧ (answerRead (heard 1 0) note).pattern1 = note.pattern1 ∧
      (answerRead (heard 1 0) note).pattern2 = note.pattern2 ∧ (answerRead (heard 1 0) note).priority.toNat ≤ 7),
    meets (ready (awaiting .up { line := { lossRun := 49 } })) (fun s => Ready s ∧ s.part.line.state = .up ∧
      answerGood none s.part = false ∧ 49 ≤ s.part.line.lossRun),
    meets (ready (awaiting .up { line := { lossRun := 48, qualityWindow := List.replicate 25 true } })) (fun s => Ready s ∧
      answerGood none s.part = false ∧ s.part.line.lossRun < 49 ∧ s.part.line.config.qualityThreshold <
        ((true :: s.part.line.qualityWindow).take 500).countP (fun errored => errored))] := by decide +kernel

theorem witness_RefusedTransfersAndRinging : allTrue [
    meets (ready (awaiting .up { messages := {
        transmitter := .offering { source := .order 31, octets := [1] }, offerSerial := 3, refusals := 1 } })) (fun s => Ready s ∧
      s.part.line.state = .up ∧ s.part.line.notes = [note] ∧ 3 ≤ elapsed s.part.clock.now note.start ∧ answerGood (heard 2 0) s.part = true ∧
      s.part.messages.transmitter = .offering { source := .order 31, octets := [1] } ∧ s.part.messages.refusals = 1 ∧
      note.offered = some s.part.messages.offerSerial ∧ (readFrame note.rate (frameOctets (answerFrame 2 0))).accept = false ∧
      (∀ v : VoiceNo, (callSlot s.part v).order ≠ some 31) ∧ ∀ m : ChannelNo, (channel s.part m).owner ≠ .order 31),
    meets (ready (awaiting .up { withCabin 7 .onLine with messages := {
        transmitter := .offering { source := .note 7, octets := [2, 7] }, offerSerial := 3, refusals := 1 } })) (fun s => Ready s ∧
      answerGood (heard 2 0) s.part = true ∧ note.offered = some s.part.messages.offerSerial ∧ (cabin s.part 7).registered = true ∧
      7 ∉ s.part.messages.notes ∧ isCabin 7 = true),
    meets (ready (awaiting .up (withCall 0 {
        state := .seizing, role := .caller, originator := .order, order := some 31, seizeAnswers := 1, goodSinceUp := 2 }))) (fun s =>
      Ready s ∧ s.part.line.state = .up ∧ s.part.line.notes = [note] ∧ answerGood (heard 2 0) s.part = true ∧
      (callSlot s.part 0).state = .seizing ∧ note.ownSeize0 = true ∧ (callSlot s.part 0).seizeAnswers = 1 ∧
      (acceptWord (readFrame note.rate (frameOctets (answerFrame 2 0))).word s.part.line).accepted.getLsbD 4 = false ∧
      (acceptWord (readFrame note.rate (frameOctets (answerFrame 2 0))).word s.part.line).accepted.getLsbD 5 = false ∧
      ((false :: s.part.line.qualityWindow).take 500).countP (fun errored => errored) ≤ s.part.line.config.qualityThreshold ∧
      (callSlot s.part 0).order = some 31 ∧ (callSlot s.part 1).order ≠ some 31 ∧ ∀ m : ChannelNo, (channel s.part m).owner ≠ .order 31)] := by
  decide +kernel

/-- An answer of the summit with ACCEPT as said, to be judged in UP. -/
def accepting (b : Bool) : Option SummitFrame := some { offset := 0, octets := frameOctets { answerFrame 2 0 with accept := b } }

/-- The transmitter in a state, its present offer that of the frame noted, with refusals counted. -/
def transmits (t : Transmitter) (refusals : Nat) : Part :=
  awaiting .up { withCabin 7 .onLine with messages := { transmitter := t, offerSerial := 3, refusals := refusals } }

theorem witness_RefusedTransfers_transmitter : allTrue [
    (∀ tr ∈ ([{ source := .order 31, octets := [1, 2], accepted := 1 }, { source := .note 7, octets := [0x81, 7] }] : List Transfer),
      meets (ready (transmits (.offering tr) 0)) (fun s => GoodInUp (accepting true) note [] s ∧
        note.offered = some s.part.messages.offerSerial ∧ (answerRead (accepting true) note).accept = true ∧
        (∀ v : VoiceNo, (callSlot s.part v).order ≠ some 31) ∧ ∀ c : ChannelNo, (channel s.part c).owner ≠ .order 31)),
    meets (ready (transmits (.offering { source := .note 7, octets := [0x81, 7] }) 0)) (fun s => GoodInUp (accepting false) note [] s ∧
      (answerRead (accepting false) note).accept = false ∧ s.part.messages.refusals = 0),
    (∀ n ∈ ([0, 1] : List Nat), meets (ready (transmits .abandoning n)) (fun s => GoodInUp (accepting true) note [] s ∧
      GoodInUp (accepting false) note [] s ∧ note.offered = some s.part.messages.offerSerial)),
    meets (ready (awaiting .up { messages := { offerSerial := 2 } })) (fun s => GoodInUp (accepting true) note [] s ∧
      ¬ note.offered = some s.part.messages.offerSerial)] := by decide +kernel

/-- An answer of the summit that offers an octet with a mark. -/
def offering (o : Byte) (mark : Nat) : Option SummitFrame :=
  some { offset := 0, octets := frameOctets { answerFrame 2 0 with offer := true, octet := o, mark := mark } }

/-- The line in UP with an answer due, the receiver in a state, and the receive slots so. -/
def receives (r : Receiver) (st : ReceiveState) (len : Nat) (p : Part := {}) : Part :=
  awaiting .up { p with messages := { receiver := r, slots := Vector.replicate 4 { state := st, length := len } } }

/-- Every row of the table of R170, at the bounds of the type octet and of the length, and the note of a passage. -/
theorem witness_RefusedTransfers_receiver : allTrue [
    (∀ x ∈ ([(offering 1 1, receives .idle .empty 0), (offering 0x7F 2, receives .idle .empty 0), (offering 1 1, receives .idle .full 9),
        (offering 0x80 1, receives .idle .empty 0), (offering 0 1, receives .idle .empty 0), (offering 0x81 1, receives .idle .empty 0),
        (offering 5 0, receives .idle .empty 0), (offering 5 0, receives (.slot 3) .assembling 63),
        (offering 5 2, receives (.slot 3) .assembling 63), (offering 5 0, receives (.slot 3) .assembling 64),
        (offering 5 0, receives (.note (List.replicate 63 0x80)) .empty 0), (offering 5 2, receives (.discarding 63) .empty 0),
        (offering 5 0, receives (.discarding 64) .empty 0), (offering 0 3, receives (.slot 3) .assembling 5)] : List _),
      meets (ready x.2) (fun s => GoodInUp x.1 note [] s ∧ (answerRead x.1 note).offer = true ∧ s.part.messages.lastOffer = none)),
    meets (ready { receives .idle .empty 0 with
        messages := { lastOffer := some { octet := 5, mark := .middle, taken := false } } }) (fun s => GoodInUp (offering 5 0) note [] s ∧
      (answerRead (offering 5 0) note).octet = 5 ∧ (answerRead (offering 5 0) note).mark = 0),
    meets (ready (receives (.note [0x80]) .empty 0 (withRoster [5, 7]))) (fun s => GoodInUp (offering 7 2) note [] s ∧
      s.part.track.roster = [{ cabin := 5 }] ++ { cabin := 7 } :: [] ∧ (answerRead (offering 7 2) note).octet.toNat = 7 ∧
      (rosterNumbers s.part).Nodup),
    meets (ready (receives (.note [0x80]) .empty 0 (withRoster [5]))) (fun s => GoodInUp (offering 7 2) note [] s ∧
      7 ∉ rosterNumbers s.part)] := by decide +kernel

/-- A probe begun at time 0 in a state of the line. -/
def probing (st : LineState) (pr : Probe) (n : Nat) (p : Part := {}) : Part :=
  atTime n { p with line := { p.line with state := st, probe := some pr } }

theorem witness_BurstsAndProbes : allTrue [
    (0xAAAAAAAA : BitVec 32) ∈ ([0xAAAAAAAA, 0x55555555] : List _),
    (0x66666666 : BitVec 32) ∈ ([0xCCCCCCCC, 0x99999999, 0x33333333, 0x66666666] : List _),
    (0xCCCCCCCD : BitVec 32) ∉ ([0xAAAAAAAA, 0x55555555, 0xCCCCCCCC, 0x99999999, 0x33333333, 0x66666666] : List _),
    meets (ready (probing .probing { start := 0, forOrder := false } 1)) (fun s => Ready s ∧ s.part.line.probe.isSome = true ∧
      s.part.line.state ∈ [.down, .probing, .dormant] ∧ elapsed s.part.clock.now 0 ≤ 1),
    meets (ready (probing .down { start := 0, forOrder := true } 2 { line := { probeOrder := some 31 } })) (fun s => Ready s ∧
      2 ≤ elapsed s.part.clock.now 0 ∧ s.part.line.state ∈ [.down, .probing, .dormant] ∧ s.part.line.probeOrder = some 31),
    meets (ready {}) (fun s => Ready s ∧ s.part.line.probe = none ∧ s.part.line.state = .down ∧ s.part.line.config.autoStart = true),
    meets (ready noAuto) (fun s => Ready s ∧ s.part.line.probe = none ∧ s.part.line.state = .down ∧ s.part.line.config.autoStart = false),
    meets (ready (withLine .up 1)) (fun s => Ready s ∧ s.part.line.probe = none ∧ s.part.line.state = .up),
    meets (ready (atTime 100 (withLine .probing 0))) (fun s => Ready s ∧ probeDue s.part = true),
    meets (ready (probing .probing { start := 0, forOrder := false, answerHeard := true } 22)) (fun s => Ready s ∧
      reached s.part.clock.now (0 + ms 22) = true ∧ s.part.line.state ∈ [.down, .probing, .dormant]),
    meets (ready (probing .down { start := 0, forOrder := true, echoHeard := true } 22 { line := { probeOrder := some 31 } })) (fun s =>
      Ready s ∧ reached s.part.clock.now (0 + ms 22) = true ∧ s.part.line.state = .down ∧ s.part.line.probeOrder = some 31),
    meets (ready (probing .probing { start := 0, forOrder := false } 22 { line := { probeCount := 8 } })) (fun s => Ready s ∧
      s.part.line.state = .probing ∧ s.part.line.probeCount < 9),
    meets (ready (probing .dormant { start := 0, forOrder := false } 22)) (fun s => Ready s ∧ s.part.line.state = .dormant),
    meets (ready (probing .probing { start := 0, forOrder := false } 22 { line := { probeCount := 9, startOrder := some 31 } })) (fun s =>
      Ready s ∧ s.part.line.state = .probing ∧ 9 ≤ s.part.line.probeCount ∧ s.part.line.startOrder = some 31)] := by decide +kernel

/-- R148: 32 consecutive bits of 0xAA or of 0xCC repeated are recognised from whichever bit they begin at, and one wrong bit is not. -/
theorem test_burst_patterns :
    ([0xAAAAAAAA, 0x55555555].all (fun x => isBurstOf 0xAA x && !isBurstOf 0xCC x) &&
      [0xCCCCCCCC, 0x99999999, 0x33333333, 0x66666666].all (fun x => isBurstOf 0xCC x && !isBurstOf 0xAA x) &&
      (List.finRange 32).all (fun k => !isBurstOf 0xAA (0xAAAAAAAA ^^^ BitVec.twoPow 32 k) &&
        !isBurstOf 0xCC (0xCCCCCCCC ^^^ BitVec.twoPow 32 k))) = true := by decide +kernel

/-- The line in TRAINING at a rate, its attempt timer ended, with attempts used. -/
def attempting (rate used : Nat) : Part :=
  atTime 300 { line := { state := .training, rate := rate, attemptsUsed := used, attemptEnds := some (ms 300), startOrder := some 31 } }

theorem witness_AttemptsBackoffAndSleep : allTrue [
    meets (ready (attempting 3 1)) (fun s => Ready s ∧ s.part.line.state = .training ∧
      ended s.part.clock.now s.part.line.attemptEnds = true ∧ s.part.line.attemptsUsed + 1 < s.part.line.config.attempts),
    meets (ready (attempting 2 2)) (fun s => s.part.line.config.attempts ≤ s.part.line.attemptsUsed + 1 ∧ 1 < s.part.line.rate),
    meets (ready (attempting 1 2)) (fun s => s.part.line.config.attempts ≤ s.part.line.attemptsUsed + 1 ∧ s.part.line.rate ≤ 1 ∧
      s.part.line.startOrder = some 31),
    meets (ready (atTime 5000 { line := { backoff := some (ms 5000) } })) (fun s => Ready s ∧ s.part.line.state = .down ∧
      ended s.part.clock.now s.part.line.backoff = true),
    meets (ready (atTime 2000 { line := { state := .dormant, sleepDue := some (ms 2000) } })) (fun s => Ready s ∧
      s.part.line.state = .dormant ∧ ended s.part.clock.now s.part.line.sleepDue = true ∧
      s.part.line.config.sleepSeconds ∈ [1, 2, 4, 8] ∧ s.part.line.probe = none),
    meets (ready (probing .dormant { start := 0, forOrder := true } 5 { line := { sleepDue := some (ms 5) } })) (fun s => Ready s ∧
      ended s.part.clock.now s.part.line.sleepDue = true ∧ s.part.line.probe = some { start := 0, forOrder := true })] := by decide +kernel

theorem witness_CallTimers : allTrue [
    meets (ready (atTime 60000 (withCall 1 { state := .ringingOut, role := .caller, order := some 31, noAnswer := some (ms 60000) })))
      (fun s => Ready s ∧ (callSlot s.part 1).state = .ringingOut ∧ ended s.part.clock.now (callSlot s.part 1).noAnswer = true ∧
        (callSlot s.part 1).order = some 31),
    meets (ready (atTime 2000 (withCall 1 { state := .clearing, guardEnds := some (ms 2000) }))) (fun s => Ready s ∧
      (callSlot s.part 1).state = .clearing ∧ ended s.part.clock.now (callSlot s.part 1).guardEnds = true),
    meets (ready (atTime 1000 (withCall 1 { state := .ringingIn, ringing := true, ringer := true, ringNext := ms 1000 }))) (fun s =>
      Ready s ∧ (callSlot s.part 1).ringing = true ∧ reached s.part.clock.now (callSlot s.part 1).ringNext = true)] := by decide +kernel

/-- A good answer in UP at which the summit's bits of both slots come to stand, for a slot with two good answers behind it. -/
def called (word accepted : Half) (sp : Nat) (c : CallSlot) : Part :=
  awaiting .up (withCall 1 { c with goodSinceUp := 2 } { line := {
    candidate := some word, accepted := accepted, summitPriority := sp, valleyPriority := 4 } })

/-- SUMMIT_ANSWER for voice slot 1: glare at equal and at a greater priority, an incoming call and its end, the connection, and the clearings. -/
theorem witness_CallTimers_summitAnswer : allTrue [
    (∀ st ∈ ([.seizing, .ringingOut] : List CallState), ∀ sp ∈ ([4, 5] : List Nat), meets (ready (called 0x40 0 sp
        { state := st, role := .caller, order := some 31 })) (fun s =>
      GoodInUp (heard 2 0x40) note [] s ∧ acceptedAt s.part.line (answerRead (heard 2 0x40) note).word 6 = true ∧
      acceptedAt s.part.line (answerRead (heard 2 0x40) note).word 7 = false ∧ (callSlot s.part 1).seizeTaken = false ∧
      HeldByCallAlone 1 31 s ∧ ∀ u : VoiceNo, u ≠ 1 → (callSlot s.part u).state = .unavailable)),
    (∀ h ∈ ([none, some true] : List (Option Bool)), meets (ready (called 0x40 0 4 { state := .idle, hook := h })) (fun s =>
      GoodInUp (heard 2 0x40) note [] s ∧
      (callSlot s.part 1).state = .idle ∧ acceptedAt s.part.line (answerRead (heard 2 0x40) note).word 6 = true)),
    meets (ready (called 0 0x40 4 { state := .ringingIn, role := .answerer, seizeTaken := true })) (fun s => GoodInUp (heard 2 0) note [] s ∧
      acceptedAt s.part.line (answerRead (heard 2 0) note).word 6 = false ∧ (callSlot s.part 1).seizeTaken = true),
    (∀ o ∈ ([.handset, .order, .alert] : List Originator), meets (ready (called 0x80 0 4
        { state := .ringingOut, role := .caller, originator := o, order := some 31 }))
      (fun s => GoodInUp (heard 2 0x80) note [] s ∧ acceptedAt s.part.line (answerRead (heard 2 0x80) note).word 7 = true ∧
        acceptedAt s.part.line (answerRead (heard 2 0x80) note).word 6 = false ∧ HeldByCallAlone 1 31 s)),
    (∀ st ∈ ([.connected, .clearing] : List CallState), ∀ h ∈ ([none, some true] : List (Option Bool)),
      meets (ready (called 0 0x80 4 { state := st, role := .caller, answerTaken := true, hook := h })) (fun s => GoodInUp (heard 2 0) note [] s ∧
        acceptedAt s.part.line (answerRead (heard 2 0) note).word 7 = false ∧ (callSlot s.part 1).answerTaken = true ∧
        (callSlot s.part 1).clearedBySummit = false)),
    meets (ready (called 0 0x40 4 { state := .connected, role := .answerer, seizeTaken := true })) (fun s => GoodInUp (heard 2 0) note [] s ∧
      (callSlot s.part 1).seizeTaken = true),
    meets (ready (called 0 0 4 { state := .clearing, role := .caller, clearedBySummit := true })) (fun s => GoodInUp (heard 2 0) note [] s ∧
      (callSlot s.part 1).clearedBySummit = true)] := by decide +kernel

/-! ## Ill-formed commands, which the checks refuse -/

theorem test_wf_refuses_detectors_1_and_7 :
    Instr.wf (.stationPassage 1) = false ∧ Instr.wf (.stationPassage 7) = false ∧ Instr.wf (.stationPassage 2) = true := by decide

theorem test_wf_refuses_a_codec_period_of_15 :
    Instr.wf (.frameTick (List.replicate 15 0) (List.replicate 16 0)) = false ∧
      Instr.wf (.frameTick (List.replicate 16 0) (List.replicate 17 0)) = false := by decide

theorem test_wf_refuses_a_tag_of_two_octets :
    Instr.wf (.tagReport (some 256)) = false ∧ Instr.wf (.tagReport (some 255)) = true ∧ Instr.wf (.tagReport none) = true := by decide

theorem test_wf_refuses_a_frame_of_49_octets :
    Instr.wf (.summitAnswer (some { offset := 0, octets := List.replicate 49 0 })) = false ∧
      Instr.wf (.ringingOut 0 (some { offset := 0, octets := List.replicate 49 0 })) = false := by decide

/-- No word spells a command, and a state with an empty queue idles (log entry 2). -/
theorem test_no_word_spells_a_command :
    decodeTableWord 16 0 = none ∧ (State.reset.withFetchWord 16 0).pending = [] ∧ step State.reset = .next State.reset := ⟨rfl, rfl, rfl⟩

/-! ## One step, with the values that the manual's worked examples and tables give -/

/-- The command answers a next state in which `f` holds. -/
def runs (c : Instr) (s : State) (f : State → Bool) : Bool :=
  match exec c s with
  | .next t => f t
  | .fault _ => false
  | .refused _ => false

/-- Section 2.3, "speed from a steady rope": deltas 50 but for one of 51 give 4,997 mm/s. -/
theorem test_speed_of_a_steady_rope :
    (ropeSample {} 0 .run 0 (forward 50) (forward 50)
      { started := true, window := { um := 50847 } :: List.replicate 7 { um := 49850 } }).rope.v = 4997 := by decide +kernel

/-- Section 2.3, "E1 fails and E2 substitutes", sample 3: V is held at 4,985, E2 is the source, ENCODER_FAULT S source 1. -/
theorem test_e1_fails_and_e2_substitutes :
    runs (.encoderFaulted (still quadrature (forward 50))) (ready (inMode .run (started
        { v := 4985, e1 := { faultRun := 2 }, window := { um := 0, faulty := true } :: List.replicate 7 { um := 49850 } })))
      (fun t => t.part.rope.view.v == 4985 && t.part.rope.view.held && t.part.rope.view.substitute &&
        t.part.sup.causes == [{ kind := .encoderFault, source := 1, category := .service, firstTime := 0, present := true }] &&
        t.part.sup.mode == .stoppingService && t.part.sup.svcStop) = true := by decide +kernel

/-- R25: the first sample takes the levels as its reference and gives d = 0; four changes in the running order give d = 4, and the changes undone
d = -4. -/
theorem test_decoder_counts_the_changes :
    (({} : Encoder).watch false quadrature).sampleFaulty = false ∧ (({} : Encoder).watch true (forward 4)).delta = 4 ∧
      (({} : Encoder).watch true (backward 4)).delta = -4 ∧ (({} : Encoder).watch true quadrature).errorNoted = true := by decide +kernel

/-- R196, R22: the range checks one after another, each over the whole list, so that [5, 5, 0] fails at its third number. -/
theorem test_roster_checks_in_their_order :
    runs (.rosterLoad 0) (ready (post 0x15 [0, 3, 5, 5, 0] {})) (fun t => (slotOf t.part 0).result == 3 && (slotOf t.part 0).detail == 3) =
      true := by decide +kernel

/-- R170: a 65th octet is refused, and its repeat taken as in IDLE: MIDDLE is accepted and thrown away. -/
theorem test_repeat_of_the_65th_octet :
    let p := judgeOffer (some (7, .middle)) { messages := {
      receiver := .slot 0, slots := Vector.replicate 4 { state := .assembling, length := 64 } } }
    p.messages.acceptNext = false ∧ p.messages.receiver = .idle ∧ (judgeOffer (some (7, .middle)) p).messages.acceptNext = true := by
  decide +kernel

/-- Section 2.6, "a stopped rope starts to roll back", sample 1: −1,994 µm give −24 mm/s. -/
theorem test_rollback_first_sample :
    (ropeSample {} 0 .run 0 (backward 2) (backward 2) { started := true }).rope.v = -24 := by decide +kernel

/-- Section 2.7, "the ceiling falls and the drive does not follow", sample 1: C_eff is 4,994. -/
theorem test_ceiling_ramps_down : rampCeiling 6 3000 5000 = 4994 ∧ rampCeiling 6 3000 3002 = 3000 := by decide

/-- Section 3.4, "tension and wind through a gusty hour". -/
theorem test_tension_and_wind :
    tensionAfter {} 3290 .gone = .gone ∧ tensionAfter {} 3310 .gone = .above ∧ tensionAfter {} 3280 .above = .above ∧
      tensionAfter {} 3250 .above = .gone ∧ windAfter {} 2310 false = false ∧ windAfter {} 2400 false = true ∧
      windAfter {} 2200 true = true ∧ windAfter {} 2199 true = false := by decide +kernel

/-- Section 3.3, "the converter stops answering", sample 3. -/
theorem test_third_failed_scan :
    runs (.converterScan (Vector.replicate 11 none)) (ready (inMode .run
        { sensors := { failRun := 2, codes := Vector.replicate 11 1900, mark := .held } }))
      (fun t => t.part.sensors.mark == .held && t.part.sensors.codes.get 10 == 1900 && t.part.sup.mode == .stoppingService &&
        t.part.sup.causes.map (fun c => (c.kind, c.source, c.present)) == [(.converterFault, 0, true)]) = true := by decide +kernel

/-- Section 3.5, "one cabin through the grip test". -/
theorem test_grip_forces : gripForce 200 2500 2210 = 5025 ∧ gripForce 200 2500 2600 = 6000 ∧ gripForce 200 2500 2390 = 5475 := by decide

/-- Section 4.7, "one release": at G = 60,019 the cabin is requested and granted in the same event. -/
theorem test_release_requested_and_granted :
    runs (.sampleTick (still (forward 50) (forward 50))) (ready { inMode .run (setDoor 12 .locked (withCabin 12 .inStation
        (withQueue [(12, 4)]))) with
        rope := { started := true, gapAcc := 59969550, window := List.replicate 8 { um := 49850 } } })
      (fun t => t.part.rope.view.gap == 60019 && t.part.rope.view.v == 4985 && t.part.launch.state == .releasing && t.part.launch.retain &&
        t.part.launch.hold == .inProgress && t.part.launch.watch == .openAllowed && t.part.launch.requested == 12) = true := by
  decide +kernel

/-- Section 4.7, "a stop meets a waiting request": with the budget spent the request waits at the head of the queue. -/
theorem test_request_waits_for_the_budget :
    runs (.sampleTick (still (forward 50) (forward 50))) (ready { inMode .run (setDoor 12 .locked (withCabin 12 .inStation
        (withQueue [(12, 4)] (withStarts [] 4 4)))) with
        rope := { started := true, window := List.replicate 8 { um := 49850 } } })
      (fun t => t.part.launch.state == .requested && t.part.doors.queue == [.retainer] && !t.part.launch.retain) = true := by
  decide +kernel

/-- Section 5.4, "a locking gate closes past an obstruction", at 200,000: asked and granted at once. -/
theorem test_gate_starts_to_close :
    runs (.doorMove 0) (ready (post 0x31 [5, 1] (withDoor 5 (atLimits false true { config := gate true, state := .atB }))))
      (fun t => (channel t.part 5).state == .movingToA && (channel t.part 5).motor == some .a && t.part.doors.grants == 1 &&
        (slotOf t.part 0).state == .taken) = true := by decide +kernel

/-- The same example at 201,510: the second code above the threshold reverses the gate. -/
theorem test_gate_reverses :
    runs (.obstruction 5 between) (ready { atTime 201510 (withDoor 5 (atLimits false false
          { config := gate true, state := .movingToA, motor := some .a, target := some .a, lastGrant := ms 200000, obstructionRun := 1 })) with
        clock := { now := ms 201510, scanTaken := true }, sensors := { mark := .fresh, codes := Vector.replicate 11 2420 } })
      (fun t => (channel t.part 5).state == .reversing && (channel t.part 5).motor == some .b &&
        (channel t.part 5).obstructionRun == 0) = true := by decide +kernel

/-- The same example at 205,900: LIMA active, the motor off, LOCKING. -/
theorem test_gate_enters_locking :
    runs (.doorChannelStep 5 { between with limA := true }) (ready (atTime 205900 (withDoor 5 { atLimits false false
          { config := gate true, state := .movingToA, motor := some .a, target := some .a, lastGrant := ms 203800 } with
        limA := { last := some true, settled := some false } })))
      (fun t => (channel t.part 5).state == .locking && (channel t.part 5).motor == none) = true := by decide +kernel

/-- Section 6.1: "a cabin action always asks for end B", also by an entry TO_A whose channel was a gate at the load. -/
theorem test_cabin_action_asks_for_b :
    runs (.stationPassage 2) (ready (passed 1 10 { withDoor 3 { config := closer } (withQueue [(7, 1)]) with
        sequencer := { program := Vector.ofFn (fun j : Fin 24 =>
          if j.val == 0 then some { trigger := 2, channel := 3, action := .a, delay := 200, condition := .always } else none) } }))
      (fun t => t.part.sequencer.actions.map (fun a => (a.target, a.isCabin)) == [(.b, true)]) = true := by decide +kernel

/-- Section 7.3, "a stop and its acknowledgement", at 460,000: the two GONE entries leave, the brittle loop stays. -/
theorem test_acknowledge :
    runs (.causeAcknowledge 0) (ready (post 0x45 [] (inMode .stopped (withCauses
        [{ kind := .summitStop, source := 0, category := .service, firstTime := 0, present := false },
          { kind := .sequenceFault, source := 5, category := .service, firstTime := 0, repeats := 2, present := false },
          { kind := .brittleLoop, source := 3, category := .fast, firstTime := 0, present := true }]
        [{ kind := .brittleLoop, source := 3, category := .fast, firstTime := 0, listed := true }]))))
      (fun t => t.part.sup.causes.map (fun c => c.kind) == [.brittleLoop] && (slotOf t.part 0).detail == 1 &&
        t.part.sup.mode == .stopped && t.part.sup.fastStop) = true := by decide +kernel

/-- Section 7.4, "ceiling through wind, a full hold section and a line dropout". -/
theorem test_ceiling_composition :
    composedCeiling { mode := .run, caps := { link := false } } = 5000 ∧ composedCeiling { mode := .run, caps := { wind := true, link := false } } = 3000 ∧
      composedCeiling { mode := .run, caps := { wind := true, hold := true, link := false } } = 2500 ∧
      composedCeiling { mode := .run, caps := { wind := true, hold := true, link := true } } = 2000 ∧
      composedCeiling { mode := .stoppingFast } = 0 := by decide

/-- Section 7.5, "a switch applied as the station stops": the pending profile is active before the stop. -/
theorem test_pending_switch_applied_at_the_stop :
    runs (.stationFastStop 0) (ready (post 0x43 [] (inMode .run (pendingB))))
      (fun t => t.part.sup.active == .b && t.part.sup.pendingSwitch == none && t.part.sup.mode == .stoppingFast &&
        t.part.sup.ceiling == 0 && t.part.window.attention.getLsbD 11) = true := by decide +kernel

/-- Section 1.8, "three arrivals and a summit note", at 13,520: cabin 31 is deeper than the head. -/
theorem test_arrival_out_of_turn :
    runs .d1Passage (ready (passed 0 13520 (matching (.reportHeld (some 31) (ms 13400)) (withCabin 31 .onLine
        (withQueue [(44, 3), (19, 2), (12, 2)] (withRoster [7, 31, 5]))))))
      (fun t => rosterNumbers t.part == [7, 5] && t.part.track.queue.map (fun e => (e.cabin, e.segment)) ==
          [(44, 3), (19, 2), (12, 2), (31, 1)] &&
        t.part.sup.causes.map (fun c => (c.kind, c.source)) == [(.sequenceFault, 1)] && t.part.track.matcher == .empty) = true := by
  decide +kernel

/-- The same example at 26,200: decided unreadable, the head's number, with the passage time. -/
theorem test_unreadable_arrival_takes_the_head :
    runs .tagPassageExpiry (ready (atTime 26200 (matching (.passageWaiting (ms 26000)) (withCabin 7 .onLine
        (withQueue [(44, 3)] (withRoster [7, 5]))))))
      (fun t => rosterNumbers t.part == [5] && t.part.track.queue.map (fun e => (e.cabin, e.segment, e.entered)) ==
          [(44, 3, 0), (7, 1, ms 26000)] && t.part.sup.causes == []) = true := by decide +kernel

/-- Section 8.3, "a summit stop through errored frames", at 5,002, 5,006, 5,008 and 5,014: bit 1 is accepted at its second agreeing frame. -/
theorem test_indication_accepted_twice :
    (acceptWord 2 { candidate := some 0 }).accepted = 0 ∧ (acceptWord 2 { candidate := some 2 }).accepted = 2 ∧
      (acceptWord 0 { candidate := some 2, accepted := 2 }).accepted = 2 ∧
      (acceptWord 0 { candidate := some 0, accepted := 2 }).accepted = 0 := by decide +kernel

/-- Section 9.3, "a launch note goes up the line", frame 0: 0x81 is offered, marked FIRST. -/
theorem test_launch_note_offered :
    runs (.frameTick (List.replicate 16 0) (List.replicate 16 0))
        (ready { line := { state := .up, rate := 1, autoStartDue := false }, messages := { notes := [12] } })
      (fun t => (readFrame 1 t.part.line.sentFrame).octet == 0x81 && (readFrame 1 t.part.line.sentFrame).mark == 1 &&
        (readFrame 1 t.part.line.sentFrame).offer && t.part.messages.notes == []) = true := by decide +kernel

/-- Section 10.3, "glare on the operator line", at 1,000,015: 4 is less than 6, the valley loses and answers at once. -/
theorem test_glare_lost :
    let p := glare 0 { withCall 0 { state := .seizing, originator := .handset, role := .caller, hook := some true } with
      line := { summitPriority := 6, valleyPriority := 4 } }
    (callSlot p 0).state = .connected ∧ (callSlot p 0).role = .answerer ∧ (callSlot p 0).originator = .far ∧ p.calls.glareLost = 1 := by
  decide +kernel

/-- R148: the wake burst of a probe is 128 bits of 0xAA repeated. -/
theorem test_wake_burst_sent :
    runs .probeInterval (ready (atTime 100 (withLine .probing 0)))
      (fun t => t.part.line.sentBurst.length * 8 == 128 && t.part.line.sentBurst.all (fun b => b == 0xAA)) = true := by decide +kernel

/-- R31 and R33: while both encoders are FAULTED, V reports 0, INVALID and HELD are shown. -/
theorem test_invalid_speed_is_held :
    let t := (ropeSample {} 0 .run 0 quadrature quadrature
      { started := true, v := 4000, e1 := { faulted := true }, e2 := { faulted := true } }).rope
    (t.view.v, t.view.invalid, t.view.held, t.view.clamped) = (0, true, true, false) := by decide +kernel

/-- R199: "from 4,294,967,295 it goes to 0". -/
theorem test_count_wraps :
    runs .millisecondCount (ready (atTime 4294967295)) (fun t => t.part.clock.now == 0) = true ∧ earlier (ms 4294967295) 0 = true := by
  decide +kernel

/-- R198: the software reset count passes from 65535 to 0, and the attention mask is kept. -/
theorem test_soft_reset_count_wraps :
    runs .softReset (ready { window := { softResets := 65535, attentionMask := 3, attention := 7 } })
      (fun t => t.part.window.softResets == 0 && t.part.window.attentionMask == 3 && t.part.window.attention == 0) = true := by
  decide +kernel

/-- R192: a write of POSTED to a FREE slot takes the kind octet and puts the slot in the intake list. -/
theorem test_post_by_a_host_write :
    runs (.hostWrite 32 0x4301 true true) (ready {})
      (fun t => (slotOf t.part 0).state == .posted && (slotOf t.part 0).kind == 0x43 && t.part.window.intake == [0]) = true := by
  decide +kernel

/-- R193: an order whose kind code names no order is answered UNKNOWN_KIND, code 8. -/
theorem test_unknown_kind :
    runs (.unknownKind 0) (ready (post 0xFF [] {})) (fun t => (slotOf t.part 0).result == 8 && (slotOf t.part 0).state == .done) = true := by
  decide +kernel

/-- Section 8.1: the generator x^16 + x^12 + x^5 + 1 with the register set to all ones; its check of the octets of "123456789" is known as
0x29B1 (from outside the manual). -/
theorem test_check_of_nine_octets : checkOf [0x31, 0x32, 0x33, 0x34, 0x35, 0x36, 0x37, 0x38, 0x39] = 0x29B1 := by decide +kernel

end Sys2Proof.Machine.Tests
end

/-! Orders that a block answers at once without calling for a judgement, and the settlement of the cabin registration (R18). -/

namespace Sys2Proof.Machine

/-! ### What an order answered at once leaves -/

/-- The end of an event leaves the part between two events. -/
theorem finish_steady (p : Part) : Steady (finish p) := ⟨finish_work p, finish_pins p, finish_tones p⟩

/-- Where nothing is to be judged and the tones are in order, the end of an event brings the pins up to date and does nothing else. -/
theorem finish_eq_refreshPins {p : Part} (hwork : p.work = {}) (htones : TonesFollow p) : finish p = refreshPins p := by
  rw [finish_quiet p hwork, refreshTone_same 0 p (htones 0), refreshTone_same 1 p (htones 1)]

/-- Pins in order stay so where the Supervisor's state is the same. -/
theorem refreshPins_sup_same {p q : Part} (hpins : PinsFollow p) (hsup : q.sup = p.sup) : (refreshPins q).sup = p.sup := by
  obtain ⟨hsvc, hfast, -⟩ := hpins
  rw [refreshPins_sup, hsup, ← hsvc, ← hfast]

/-- An answer and the refreshing of the pins change no block but the window. -/
theorem same_refreshPins_answer {p q : Part} {b : Block} (i : SlotNo) (r : Result) (d : Nat) (hpins : PinsFollow p)
    (hwindow : b ≠ .window) (hsame : Part.same b p q) : Part.same b p (refreshPins (answer i r d q)) := by
  cases b with
  | window => exact absurd rfl hwindow
  | sup => exact refreshPins_sup_same hpins hsame
  | _ => exact hsame

/-- The taking of the head changes no block but the window. -/
theorem same_takeHead (i : SlotNo) (p : Part) {b : Block} (hwindow : b ≠ .window) : Part.same b p (takeHead i p) := by
  cases b with
  | window => exact absurd rfl hwindow
  | _ => rfl

/-- The window after the head has been taken and answered (R193, R194), the block having left the window alone. -/
theorem answersOnly_of_taken {i : SlotNo} {r : Result} {d : Nat} {s t : State} {q : Part}
    (hwindow : q.window = (takeHead i s.part).window) (ht : t.part = refreshPins (answer i r d q)) :
    AnswersOnly i r d 0 s t := by
  have hslot (j : SlotNo) : slotOf q j = slotOf (takeHead i s.part) j := by rw [slotOf, hwindow, slotOf]
  have hpins (j : SlotNo) : slotOf t.part j = slotOf (answer i r d q) j := by rw [ht]; rfl
  obtain ⟨hintake, hlatch, hattention, hmask, henable, -, hresets⟩ := answer_window i r d q
  obtain ⟨tintake, tlatch, tattention, tmask, tenable, tresets⟩ := takeHead_window i s.part
  have hattn : t.part.window.attention = s.part.window.attention ||| 1 := by
    rw [ht, refreshPins_window, hattention, hwindow, tattention]
  refine ⟨⟨?slot, ?intake, ?done⟩, ⟨?others, ?latch, ?mask, ?enable, ?resets⟩, ?attention⟩
  case slot => rw [hpins, slotOf_answer_same, hslot, slotOf_takeHead_same]
  case others => intro j hj; rw [hpins, slotOf_answer_ne _ _ _ _ _ hj, hslot, slotOf_takeHead_ne _ _ _ hj]
  case done => simp [hattn]
  case attention => simp [hattn]
  case intake => rw [ht, refreshPins_window, hintake, hwindow, tintake]
  case latch => rw [ht, refreshPins_window, hlatch, hwindow, tlatch]
  case mask => rw [ht, refreshPins_window, hmask, hwindow, tmask]
  case enable => rw [ht, refreshPins_window, henable, hwindow, tenable]
  case resets => rw [ht, refreshPins_window, hresets, hwindow, tresets]

/-- An order whose block calls for no judgement and changes, of all the part, blocks `changed` other than the window, the Supervisor's and
the calls: it is answered, and the rest of the part is kept. -/
theorem atOnce_answersOnly {i : SlotNo} {k : Byte} {body : Slot → Part → Reply} {s : State} {rep : Reply} {changed : List Block}
    (hnext : OrderNext i k s) (hbody : body (slotOf s.part i) (takeHead i s.part) = rep)
    (hwork : rep.part.work = s.part.work) (hwindow : rep.part.window = (takeHead i s.part).window)
    (hkept : ∀ b, b ≠ .window → b ∉ changed → Part.same b s.part rep.part) (hcalls : .calls ∉ changed) :
    ∃ t, atOnce i k body s = .next t ∧ AnswersOnly i rep.result rep.detail 0 s t ∧ Frame (.window :: changed) s t ∧
      t.part.cabins = rep.part.cabins := by
  obtain ⟨⟨hbefore, hquiet, hpins, htones⟩, hhead, hkind⟩ := hnext
  have hsameCalls : rep.part.calls = s.part.calls := hkept .calls (by decide) hcalls
  have hfinish : finish (answer i rep.result rep.detail rep.part) = refreshPins (answer i rep.result rep.detail rep.part) := by
    refine finish_eq_refreshPins (hwork.trans hquiet) fun v => ?_
    have hcall : callSlot (answer i rep.result rep.detail rep.part) v = callSlot s.part v := by
      rw [callSlot, answer_calls, hsameCalls, callSlot]
    rw [hcall]; exact htones v
  refine ⟨_, atOnce_acts hbefore hhead hkind, ?answer, ?frame, ?cabins⟩ <;> rw [hbody]
  case answer => exact answersOnly_of_taken hwindow hfinish
  case frame =>
    refine ⟨rfl, rfl, rfl, rfl, finish_steady _, fun b _ hb => ?_⟩
    rw [List.mem_cons, not_or] at hb
    obtain ⟨hbwindow, hbchanged⟩ := hb
    exact hfinish ▸ same_refreshPins_answer i _ _ hpins hbwindow (hkept b hbwindow hbchanged)
  case cabins => rw [hfinish]; rfl

/-- An order refused changes nothing but the slot (R194). -/
theorem atOnce_refuses {i : SlotNo} {k : Byte} {body : Slot → Part → Reply} {s : State} {r : Result} {d : Nat}
    (hnext : OrderNext i k s) (hbody : body (slotOf s.part i) (takeHead i s.part) = refuse r d (takeHead i s.part)) :
    ∃ t, atOnce i k body s = .next t ∧ Refuses i r d s t := by
  obtain ⟨t, hrun, hanswer, hframe, -⟩ := atOnce_answersOnly (changed := []) hnext hbody rfl rfl
    (fun b hb _ => same_takeHead i s.part hb) (by decide)
  exact ⟨t, hrun, hanswer, hframe⟩

/-! ### The cabin table -/

/-- The record of a cabin is read from the cabin table alone. -/
theorem cabin_of_cabins_eq {p q : Part} (h : p.cabins = q.cabins) (k : Nat) : cabin p k = cabin q k := by
  rw [cabin, h, cabin]

/-- The entry that is not the changed cabin's stays in the table. -/
theorem modCabin_cabins_get_ne (k : Nat) (f : CabinRecord → CabinRecord) (p : Part) {j : Fin 128} (h : j.val + 1 ≠ k) :
    (modCabin k f p).cabins.get j = p.cabins.get j := by
  unfold modCabin
  split
  · refine modTable_get_ne _ _ _ _ fun e => h ?_
    have hval : j.val = k - 1 := congrArg Fin.val e
    omega
  · rfl

/-- A change of a cabin's record changes no block but the cabin table. -/
theorem same_modCabin (k : Nat) (f : CabinRecord → CabinRecord) {p q : Part} {b : Block} (hcabins : b ≠ .cabins)
    (hsame : Part.same b p q) : Part.same b p (modCabin k f q) := by
  cases b with
  | cabins => exact absurd rfl hcabins
  | _ => simpa [Part.same] using hsame

/-- An order answered OK whose one effect is the change of a cabin's record. -/
theorem atOnce_modCabin {i : SlotNo} {n : Byte} {body : Slot → Part → Reply} {s : State} {k : Nat} {f : CabinRecord → CabinRecord}
    (hnext : OrderNext i n s) (hk : isCabin k = true)
    (hbody : body (slotOf s.part i) (takeHead i s.part) = ok (modCabin k f (takeHead i s.part))) :
    ∃ t, atOnce i n body s = .next t ∧ AnswersOnly i .ok 0 0 s t ∧ Frame [.window, .cabins] s t ∧ OtherCabinsKept k s t ∧
      cabin t.part k = f (cabin s.part k) := by
  obtain ⟨t, hrun, hanswer, hframe, hcabins⟩ := atOnce_answersOnly (changed := [.cabins]) hnext hbody
    (modCabin_work k f _) (modCabin_window k f _)
    (fun b hb hc => same_modCabin k f (by simpa using hc) (same_takeHead i s.part hb)) (by decide)
  refine ⟨t, hrun, hanswer, hframe, fun j hj => ?others, ?record⟩
  case others => rw [hcabins]; exact modCabin_cabins_get_ne k f (takeHead i s.part) hj
  case record => rw [cabin_of_cabins_eq hcabins]; exact cabin_modCabin_same k f (takeHead i s.part) hk

/-! ### CABIN_REGISTER (R18) -/

theorem isOff_iff (p : Part) : isOff p = true ↔ p.sup.mode = .off := beq_iff_eq

/-- The first check is that of the number. -/
theorem orderCabinRegister_outside {x : Slot} (p : Part) (hk : isCabin (octet x 0) = false) :
    orderCabinRegister x p = refuse .refusedRange 0 p := by
  simp [orderCabinRegister, hk]

/-- The second check is that of the mode. -/
theorem orderCabinRegister_not_off {x : Slot} {p : Part} (hk : isCabin (octet x 0) = true) (hmode : p.sup.mode ≠ .off) :
    orderCabinRegister x p = refuse .refusedState 0 p := by
  simp [orderCabinRegister, hk, isOff_iff, hmode]

theorem orderCabinRegister_off {x : Slot} {p : Part} (hk : isCabin (octet x 0) = true) (hmode : p.sup.mode = .off) :
    orderCabinRegister x p = ok (registerCabin (octet x 0) (flag x 1) p) := by
  simp [orderCabinRegister, hk, isOff_iff, hmode]

/-- Settles O13: the order is refused by its first failing check, and otherwise its one effect is the change of the cabin's record; a fresh
record has the model's default in every field that R18 lists. -/
theorem cabinRegisterSetsTheRecord : Obligations.CabinRegisterSetsTheRecord := by
  intro i s hnext
  refine ⟨fun hk => ?outside, fun hk hmode => ?notOff, fun hk hmode => ?off⟩
  case outside => exact atOnce_refuses hnext (orderCabinRegister_outside _ hk)
  case notOff => exact atOnce_refuses hnext (orderCabinRegister_not_off hk hmode)
  case off => exact atOnce_modCabin hnext hk (orderCabinRegister_off hk hmode)

end Sys2Proof.Machine

/-! The force of a grip code (R58). -/

namespace Sys2Proof.Machine

/-- Between bounds in order, keeping a value in range is the lattice clamp. -/
theorem clampInt_eq_max_min {lo hi : Int} (hle : lo ≤ hi) (n : Int) : clampInt lo hi n = max lo (min hi n) := by
  unfold clampInt
  split
  case isTrue hbelow => rw [min_eq_right (hbelow.le.trans hle), max_eq_left hbelow.le]
  case isFalse hlo =>
    split
    case isTrue habove => rw [min_eq_left habove.le, max_eq_right hle]
    case isFalse hhi => rw [min_eq_right (not_lt.mp hhi), max_eq_right (not_lt.mp hlo)]

/-- The force as an integer: the lower bound 0 is what lets the model keep it as a natural number. -/
theorem gripForce_cast (z g c : Nat) :
    (gripForce z g c : Int) = max 0 (min 65535 (Int.tdiv (((c : Int) - z) * g) 1000)) := by
  rw [gripForce, clampInt_eq_max_min (by decide)]
  exact Int.toNat_of_nonneg (le_max_left _ _)

/-- Settles O12: the formula for every zero, gain and code, with R58's examples inside the range and below 0. -/
theorem gripForceOfACode : Obligations.GripForceOfACode :=
  ⟨gripForce_cast, by decide, by decide, by decide⟩

end Sys2Proof.Machine

/-! What the operations that the blocks share leave as it was: the blocks kept, one lemma an operation. -/

namespace Sys2Proof.Machine

/-! ### The window but for its slots, ATTENTION and ATTN -/

/-- The intake list, the latch, the registers that the host sets and the reset count are the same. -/
abbrev PortKept (p q : Part) : Prop :=
  q.window.intake = p.window.intake ∧ q.window.latch = p.window.latch ∧ q.window.attentionMask = p.window.attentionMask ∧
    q.window.attnEnable = p.window.attnEnable ∧ q.window.softResets = p.window.softResets

/-! ### What the agreement of the lists reads of a record and of an entry (R2, R8, R9) -/

/-- Of a cabin's record: the registration, the place and the summit mark. -/
def CabinRecord.listing (c : CabinRecord) : Bool × Bool × Place × SummitMark := (c.registered, c.inService, c.place, c.mark)

/-- Of an entry of the station queue: all but the lock result that it holds. -/
def QueueEntry.listing (e : QueueEntry) : Nat × Nat × Nat × Time := (e.serial, e.cabin, e.segment, e.entered)

/-- A change of a record that keeps what is read keeps it in the table. -/
theorem listing_modCabin (k : Nat) (f : CabinRecord → CabinRecord) (p : Part) (h : ∀ c, (f c).listing = c.listing) :
    mapTable CabinRecord.listing (modCabin k f p).cabins = mapTable CabinRecord.listing p.cabins := by
  unfold modCabin
  split
  · exact mapTable_modTable_same _ _ _ _ h
  · rfl

@[simp] theorem listing_setDoor (k : Nat) (d : CabinDoor) (p : Part) :
    mapTable CabinRecord.listing (setDoor k d p).cabins = mapTable CabinRecord.listing p.cabins :=
  listing_modCabin k _ p fun _ => rfl

@[simp] theorem listing_heldLock (n : Nat) (lock : Option Bool) (e : QueueEntry) :
    (if e.serial = n then { e with heldLock := lock } else e).listing = e.listing := by
  split <;> rfl

@[simp] theorem listing_lastRelease (k : Nat) (t : Time) (p : Part) :
    mapTable CabinRecord.listing (modCabin k (fun c => { c with lastRelease := t }) p).cabins =
      mapTable CabinRecord.listing p.cabins := listing_modCabin k _ p fun _ => rfl

@[simp] theorem listing_note (k : Nat) (n : LaunchNote) (p : Part) :
    mapTable CabinRecord.listing (modCabin k (fun c => { c with note := n }) p).cabins =
      mapTable CabinRecord.listing p.cabins := listing_modCabin k _ p fun _ => rfl

@[simp] theorem listing_grip (k : Nat) (r : GripResult) (lo hi : Nat) (p : Part) :
    mapTable CabinRecord.listing (modCabin k (fun c => { c with grip := r, gripMin := lo, gripMax := hi }) p).cabins =
      mapTable CabinRecord.listing p.cabins := listing_modCabin k _ p fun _ => rfl

/-! ### The Call Unit -/

/-- The Call Unit's work changes the calls, and the slots and ATTENTION of the window. -/
abbrev CallKeeps (p q : Part) : Prop :=
  q.clock = p.clock ∧ q.track = p.track ∧ q.cabins = p.cabins ∧ q.rope = p.rope ∧ q.sensors = p.sensors ∧ q.grip = p.grip ∧
    q.launch = p.launch ∧ q.doors = p.doors ∧ q.sequencer = p.sequencer ∧ q.sup = p.sup ∧ q.line = p.line ∧
    q.messages = p.messages ∧ q.work = p.work ∧ PortKept p q

@[simp] theorem attend_port (a : Attn) (p : Part) : PortKept p (attend a p) := ⟨rfl, rfl, rfl, rfl, rfl⟩
@[simp] theorem modSlot_port (i : SlotNo) (f : Slot → Slot) (p : Part) : PortKept p (modSlot i f p) := ⟨rfl, rfl, rfl, rfl, rfl⟩
@[simp] theorem answer_port (i : SlotNo) (r : Result) (d : Nat) (p : Part) : PortKept p (answer i r d p) := ⟨rfl, rfl, rfl, rfl, rfl⟩
@[simp] theorem setProgress_port (i : SlotNo) (n : Nat) (p : Part) : PortKept p (setProgress i n p) := ⟨rfl, rfl, rfl, rfl, rfl⟩

@[simp] theorem answerHeld_kept (i : Option SlotNo) (r : Result) (d : Nat) (p : Part) :
    CallKeeps p (answerHeld i r d p) ∧ (answerHeld i r d p).calls = p.calls := by
  cases i <;> simp [CallKeeps, PortKept, answerHeld]

@[simp] theorem enterCall_kept (v : VoiceNo) (st : CallState) (p : Part) : CallKeeps p (enterCall v st p) := by
  simp only [CallKeeps, PortKept, enterCall]
  (repeat' split) <;> simp

@[simp] theorem answerCall_kept (v : VoiceNo) (r : Result) (d : Nat) (p : Part) : CallKeeps p (answerCall v r d p) := by
  simp [CallKeeps, PortKept, answerCall]

@[simp] theorem startRinging_kept (v : VoiceNo) (p : Part) : CallKeeps p (startRinging v p) := by
  simp [CallKeeps, PortKept, startRinging]

@[simp] theorem stopRinging_kept (v : VoiceNo) (p : Part) : CallKeeps p (stopRinging v p) := by
  simp [CallKeeps, PortKept, stopRinging]

@[simp] theorem callToIdle_kept (v : VoiceNo) (p : Part) : CallKeeps p (callToIdle v p) := by
  simp [CallKeeps, PortKept, callToIdle]

@[simp] theorem originate_kept (v : VoiceNo) (o : Originator) (i : Option SlotNo) (p : Part) : CallKeeps p (originate v o i p) := by
  simp [CallKeeps, PortKept, originate]

@[simp] theorem connect_kept (v : VoiceNo) (p : Part) : CallKeeps p (connect v p) := by
  simp only [CallKeeps, PortKept, connect]
  split <;> simp

@[simp] theorem clearByValley_kept (v : VoiceNo) (why : ClearReason) (p : Part) : CallKeeps p (clearByValley v why p) := by
  simp only [CallKeeps, PortKept, clearByValley]
  split <;> simp

@[simp] theorem clearBySummit_kept (v : VoiceNo) (p : Part) : CallKeeps p (clearBySummit v p) := by
  simp only [CallKeeps, PortKept, clearBySummit]
  split <;> simp

@[simp] theorem incoming_kept (v : VoiceNo) (p : Part) : CallKeeps p (incoming v p) := by
  simp only [CallKeeps, PortKept, incoming]
  split <;> simp

@[simp] theorem glare_kept (v : VoiceNo) (p : Part) : CallKeeps p (glare v p) := by
  simp only [CallKeeps, PortKept, glare]
  split <;> simp

@[simp] theorem seizeStands_kept (v : VoiceNo) (p : Part) : CallKeeps p (seizeStands v p) := by
  simp only [CallKeeps, PortKept, seizeStands]
  split <;> simp

@[simp] theorem seizeDrops_kept (v : VoiceNo) (p : Part) : CallKeeps p (seizeDrops v p) := by
  simp only [CallKeeps, PortKept, seizeDrops]
  (repeat' split) <;> simp

@[simp] theorem answerStands_kept (v : VoiceNo) (p : Part) : CallKeeps p (answerStands v p) := by
  simp only [CallKeeps, PortKept, answerStands]
  split <;> simp

@[simp] theorem answerDrops_kept (v : VoiceNo) (p : Part) : CallKeeps p (answerDrops v p) := by
  simp only [CallKeeps, PortKept, answerDrops]
  (repeat' split) <;> simp

@[simp] theorem takeSummitBits_kept (v : VoiceNo) (p : Part) : CallKeeps p (takeSummitBits v p) := by
  simp only [CallKeeps, PortKept, takeSummitBits]
  (repeat' split) <;> simp

@[simp] theorem countSeizing_kept (v : VoiceNo) (a b : Bool) (p : Part) : CallKeeps p (countSeizing v a b p) := by
  simp only [CallKeeps, PortKept, countSeizing]
  (repeat' split) <;> simp

@[simp] theorem updateFreeRun_kept (v : VoiceNo) (w : Half) (b : Bool) (p : Part) : CallKeeps p (updateFreeRun v w b p) := by
  simp [CallKeeps, PortKept, updateFreeRun]

@[simp] theorem callGoodAnswer_kept (v : VoiceNo) (w : Half) (b : Bool) (p : Part) : CallKeeps p (callGoodAnswer v w b p) := by
  simp [CallKeeps, PortKept, callGoodAnswer]

@[simp] theorem playVoice_kept (v : VoiceNo) (l : List Byte) (p : Part) : CallKeeps p (playVoice v l p) := by
  simp only [CallKeeps, PortKept, playVoice]
  split <;> simp

@[simp] theorem callLineUp_kept (r : Nat) (v : VoiceNo) (p : Part) : CallKeeps p (callLineUp r v p) := by
  simp only [CallKeeps, PortKept, callLineUp]
  split <;> simp

@[simp] theorem callLineDown_kept (r : Option Nat) (v : VoiceNo) (p : Part) : CallKeeps p (callLineDown r v p) := by
  simp only [CallKeeps, PortKept, callLineDown]
  split <;> simp

@[simp] theorem handsetLifted_kept (v : VoiceNo) (p : Part) : CallKeeps p (handsetLifted v p) := by
  simp only [CallKeeps, PortKept, handsetLifted]
  (repeat' split) <;> simp

@[simp] theorem handsetHungUp_kept (v : VoiceNo) (p : Part) : CallKeeps p (handsetHungUp v p) := by
  simp only [CallKeeps, PortKept, handsetHungUp]
  (repeat' split) <;> simp

/-- An alert call request holds no order, so that it leaves the order slots too (R177). -/
@[simp] theorem originate_none_slots (v : VoiceNo) (o : Originator) (p : Part) :
    (originate v o none p).window.slots = p.window.slots := by
  simp only [originate, enterCall, callSlot_modCall_same]
  split <;> rfl

@[simp] theorem alertRequest_kept (p : Part) : CallKeeps p (alertRequest p) ∧ (alertRequest p).window.slots = p.window.slots := by
  simp only [CallKeeps, PortKept, alertRequest]
  split <;> simp

@[simp] theorem refreshTone_port (v : VoiceNo) (p : Part) : PortKept p (refreshTone v p) := by simp [PortKept]

/-! ### The Supervisor -/

/-- The Supervisor's work changes its own state, the rope's ceiling and stop entry, the calls by an alert request, ATTENTION, and what is
called for of Launch Control. -/
abbrev SupKeeps (p q : Part) : Prop :=
  q.clock = p.clock ∧ q.track = p.track ∧ q.cabins = p.cabins ∧ q.sensors = p.sensors ∧ q.grip = p.grip ∧ q.launch = p.launch ∧
    q.doors = p.doors ∧ q.sequencer = p.sequencer ∧ q.line = p.line ∧ q.messages = p.messages ∧ q.window.slots = p.window.slots ∧
    q.work.arbiter = p.work.arbiter ∧ q.work.sequencer = p.work.sequencer ∧ PortKept p q

@[simp] theorem composeCeiling_kept (p : Part) :
    SupKeeps p (composeCeiling p) ∧ (composeCeiling p).calls = p.calls ∧ (composeCeiling p).work = p.work := by
  simp only [SupKeeps, PortKept, composeCeiling]
  split <;> simp

@[simp] theorem setCaps_kept (c : Caps) (p : Part) :
    SupKeeps p (setCaps c p) ∧ (setCaps c p).calls = p.calls ∧ (setCaps c p).work = p.work := by
  simp only [SupKeeps, PortKept, setCaps]
  split <;> simp

@[simp] theorem setHoldCap_kept (b : Bool) (p : Part) :
    SupKeeps p (setHoldCap b p) ∧ (setHoldCap b p).calls = p.calls ∧ (setHoldCap b p).work = p.work := setCaps_kept _ p

@[simp] theorem setDoorCap_kept (b : Bool) (p : Part) :
    SupKeeps p (setDoorCap b p) ∧ (setDoorCap b p).calls = p.calls ∧ (setDoorCap b p).work = p.work := setCaps_kept _ p

@[simp] theorem setLinkCap_kept (b : Bool) (p : Part) :
    SupKeeps p (setLinkCap b p) ∧ (setLinkCap b p).calls = p.calls ∧ (setLinkCap b p).work = p.work := setCaps_kept _ p

@[simp] theorem refreshWindCap_kept (p : Part) :
    SupKeeps p (refreshWindCap p) ∧ (refreshWindCap p).calls = p.calls ∧ (refreshWindCap p).work = p.work := setCaps_kept _ p

@[simp] theorem refreshDoorCap_kept (p : Part) :
    SupKeeps p (refreshDoorCap p) ∧ (refreshDoorCap p).calls = p.calls ∧ (refreshDoorCap p).work = p.work := setCaps_kept _ p

@[simp] theorem applySwitch_kept (n : ProfileName) (p : Part) :
    SupKeeps p (applySwitch n p) ∧ (applySwitch n p).calls = p.calls := by
  simp [SupKeeps, PortKept, applySwitch]

@[simp] theorem applyPendingSwitch_kept (p : Part) :
    SupKeeps p (applyPendingSwitch p) ∧ (applyPendingSwitch p).calls = p.calls := by
  simp only [SupKeeps, PortKept, applyPendingSwitch]
  split <;> simp

@[simp] theorem noteStopEntry_kept (m : Mode) (p : Part) :
    SupKeeps p (noteStopEntry m p) ∧ (noteStopEntry m p).calls = p.calls ∧ (noteStopEntry m p).work = p.work ∧
      (noteStopEntry m p).sup = p.sup ∧ (noteStopEntry m p).window = p.window := by
  simp only [SupKeeps, PortKept, noteStopEntry]
  split <;> simp

@[simp] theorem alertOnFastStop_kept (p : Part) : CallKeeps p (alertOnFastStop p) ∧
    (alertOnFastStop p).window.slots = p.window.slots := by
  simp only [CallKeeps, PortKept, alertOnFastStop]
  split <;> simp

@[simp] theorem enterMode_kept (m : Mode) (p : Part) : SupKeeps p (enterMode m p) := by
  simp only [SupKeeps, PortKept, enterMode]
  (repeat' split) <;> simp

@[simp] theorem standstillEvent_kept (p : Part) : SupKeeps p (standstillEvent p) := by
  simp only [SupKeeps, PortKept, standstillEvent]
  split <;> simp

@[simp] theorem changeMode_kept (m : Mode) (p : Part) : SupKeeps p (changeMode m p) := by
  simp only [SupKeeps, PortKept, changeMode]
  split <;> simp

@[simp] theorem report_kept (k : CauseKind) (n : Nat) (c : Category) (b : Bool) (p : Part) : SupKeeps p (report k n c b p) := by
  simp [SupKeeps, PortKept, report]

@[simp] theorem gone_kept (k : CauseKind) (n : Nat) (p : Part) :
    SupKeeps p (gone k n p) ∧ (gone k n p).calls = p.calls ∧ (gone k n p).rope = p.rope ∧ (gone k n p).work = p.work := by
  simp only [SupKeeps, PortKept, gone]
  split <;> simp

@[simp] theorem deliver_kept (p : Part) (n : Notice) : SupKeeps p (deliver p n) := by
  cases n <;> simp [SupKeeps, PortKept, deliver]

@[simp] theorem refreshSummitStops_kept (p : Part) : SupKeeps p (refreshSummitStops p) := by
  simp only [SupKeeps, PortKept, refreshSummitStops]
  (repeat' split) <;> simp

@[simp] theorem startGrace_kept (p : Part) : SupKeeps p (startGrace p) := by
  simp only [SupKeeps, PortKept, startGrace]
  (repeat' split) <;> simp

@[simp] theorem supLineChange_kept (b : Bool) (p : Part) : SupKeeps p (supLineChange b p) := by
  simp only [SupKeeps, PortKept, supLineChange]
  (repeat' split) <;> simp

@[simp] theorem startComplete_kept (p : Part) : SupKeeps p (startComplete p) := by
  simp only [SupKeeps, PortKept, startComplete]
  split <;> simp

/-- The order slots are read from the window. -/
theorem slotOf_of_slots_eq {p q : Part} (h : q.window.slots = p.window.slots) (i : SlotNo) : slotOf q i = slotOf p i := by
  rw [slotOf, h, slotOf]

/-- The channels are read from the Door Drive Unit's state. -/
theorem channel_of_doors_eq {p q : Part} (h : q.doors = p.doors) (n : ChannelNo) : channel q n = channel p n := by
  rw [channel, h, channel]

/-- The call machines are read from the Call Unit's state. -/
theorem callSlot_of_calls_eq {p q : Part} (h : q.calls = p.calls) (v : VoiceNo) : callSlot q v = callSlot p v := by
  rw [callSlot, h, callSlot]

end Sys2Proof.Machine

namespace Sys2Proof.Machine

/-! ### The Door Drive Unit -/

/-- The doors' work leaves the clock, the lists, the sensors, the grip test, Launch Control, the line, the messages, what the arbiter has
granted, and of the Door Sequencer its program, its list and its confirmations. -/
abbrev DoorKeeps (p q : Part) : Prop :=
  q.clock = p.clock ∧ mapTable CabinRecord.listing q.cabins = mapTable CabinRecord.listing p.cabins ∧
    q.track = p.track ∧ q.sensors = p.sensors ∧ q.grip = p.grip ∧ q.launch = p.launch ∧ q.line = p.line ∧
    q.messages = p.messages ∧ q.doors.history = p.doors.history ∧ q.doors.budget = p.doors.budget ∧
    q.doors.window = p.doors.window ∧ q.doors.grants = p.doors.grants ∧ q.sequencer.program = p.sequencer.program ∧
    q.sequencer.made = p.sequencer.made ∧ q.sequencer.actions = p.sequencer.actions ∧
    q.sequencer.unlocked = p.sequencer.unlocked ∧ q.sequencer.confirmations = p.sequencer.confirmations ∧
    q.sequencer.lastConfirmation = p.sequencer.lastConfirmation ∧ PortKept p q

@[simp] theorem countOutcome_kept (o : DoorOutcome) (s : Sequencer) :
    (countOutcome o s).program = s.program ∧ (countOutcome o s).made = s.made ∧ (countOutcome o s).actions = s.actions ∧
      (countOutcome o s).unlocked = s.unlocked ∧ (countOutcome o s).confirmations = s.confirmations ∧
      (countOutcome o s).lastConfirmation = s.lastConfirmation ∧ (countOutcome o s).flights = s.flights := by
  cases o <;> simp [countOutcome]

@[simp] theorem writeOutcome_kept (k : DoorKind) (o : DoorOutcome) (c : Nat) (p : Part) :
    DoorKeeps p (writeOutcome k o c p) ∧ (writeOutcome k o c p).doors = p.doors ∧ (writeOutcome k o c p).sup = p.sup ∧
      (writeOutcome k o c p).rope = p.rope ∧ (writeOutcome k o c p).calls = p.calls ∧
      (writeOutcome k o c p).window.slots = p.window.slots := by
  simp only [DoorKeeps, PortKept, writeOutcome]
  split <;> simp

@[simp] theorem handOutcome_kept (n : ChannelNo) (o : DoorOutcome) (p : Part) :
    DoorKeeps p (handOutcome n o p) ∧ (handOutcome n o p).doors = p.doors ∧ (handOutcome n o p).sup = p.sup ∧
      (handOutcome n o p).rope = p.rope ∧ (handOutcome n o p).calls = p.calls ∧
      (handOutcome n o p).window.slots = p.window.slots := by
  simp only [DoorKeeps, PortKept, handOutcome]
  (repeat' split) <;> simp

@[simp] theorem tellOwner_kept (n : ChannelNo) (o : DoorOutcome) (p : Part) :
    DoorKeeps p (tellOwner n o p) ∧ (tellOwner n o p).doors = (modChannel n (fun c => { c with owner := .none }) p).doors ∧
      (tellOwner n o p).sup = p.sup ∧ (tellOwner n o p).rope = p.rope ∧ (tellOwner n o p).calls = p.calls := by
  simp only [DoorKeeps, PortKept, tellOwner]
  split <;> simp

@[simp] theorem endOperation_kept (n : ChannelNo) (o : DoorOutcome) (p : Part) :
    DoorKeeps p (endOperation n o p) ∧ (endOperation n o p).sup = p.sup ∧ (endOperation n o p).rope = p.rope ∧
      (endOperation n o p).calls = p.calls := by
  simp [DoorKeeps, PortKept, endOperation]

@[simp] theorem restIn_kept (n : ChannelNo) (st : DoorState) (p : Part) :
    DoorKeeps p (restIn n st p) ∧ (restIn n st p).doors = (modChannel n (fun c => { c with state := st }) p).doors ∧
      (restIn n st p).cabins = p.cabins ∧ (restIn n st p).sup = p.sup ∧ (restIn n st p).rope = p.rope ∧
      (restIn n st p).calls = p.calls ∧ (restIn n st p).window = p.window ∧ (restIn n st p).sequencer = p.sequencer ∧
      (restIn n st p).work.launch = p.work.launch ∧ (restIn n st p).work.arbiter = p.work.arbiter := by
  simp only [DoorKeeps, PortKept, restIn]
  split <;> simp

@[simp] theorem standAt_kept (n : ChannelNo) (e : End) (p : Part) :
    DoorKeeps p (standAt n e p) ∧ (standAt n e p).doors = (modChannel n (fun c => { c with state := e.atState }) p).doors ∧
      (standAt n e p).cabins = p.cabins ∧ (standAt n e p).sup = p.sup ∧ (standAt n e p).rope = p.rope ∧
      (standAt n e p).calls = p.calls ∧ (standAt n e p).window = p.window ∧ (standAt n e p).sequencer = p.sequencer ∧
      (standAt n e p).work.launch = p.work.launch ∧ (standAt n e p).work.arbiter = p.work.arbiter :=
  restIn_kept n _ p

@[simp] theorem stopOutputs_kept (n : ChannelNo) (p : Part) :
    DoorKeeps p (stopOutputs n p) ∧ (stopOutputs n p).sup = p.sup ∧ (stopOutputs n p).rope = p.rope ∧
      (stopOutputs n p).calls = p.calls ∧ (stopOutputs n p).window = p.window ∧ (stopOutputs n p).work = p.work := by
  simp [DoorKeeps, PortKept, stopOutputs]

@[simp] theorem enterFault_kept (n : ChannelNo) (r : DoorReason) (p : Part) : DoorKeeps p (enterFault n r p) := by
  simp only [DoorKeeps, PortKept, enterFault]
  split <;> simp

@[simp] theorem enterWaiting_kept (n : ChannelNo) (m : Motion) (p : Part) :
    DoorKeeps p (enterWaiting n m p) ∧ (enterWaiting n m p).sup = p.sup ∧ (enterWaiting n m p).rope = p.rope ∧
      (enterWaiting n m p).calls = p.calls ∧ (enterWaiting n m p).cabins = p.cabins ∧ (enterWaiting n m p).window = p.window := by
  simp [DoorKeeps, PortKept, enterWaiting]

@[simp] theorem finishAt_kept (n : ChannelNo) (e : End) (o : DoorOutcome) (p : Part) :
    DoorKeeps p (finishAt n e o p) ∧ (finishAt n e o p).sup = p.sup ∧ (finishAt n e o p).rope = p.rope ∧
      (finishAt n e o p).calls = p.calls := by
  simp [DoorKeeps, PortKept, finishAt]

@[simp] theorem enterLocking_kept (n : ChannelNo) (p : Part) :
    DoorKeeps p (enterLocking n p) ∧ (enterLocking n p).sup = p.sup ∧ (enterLocking n p).rope = p.rope ∧
      (enterLocking n p).calls = p.calls := by
  simp only [DoorKeeps, PortKept, enterLocking]
  split <;> simp

@[simp] theorem enterUnlocking_kept (n : ChannelNo) (p : Part) :
    DoorKeeps p (enterUnlocking n p) ∧ (enterUnlocking n p).sup = p.sup ∧ (enterUnlocking n p).rope = p.rope ∧
      (enterUnlocking n p).calls = p.calls := by
  simp only [DoorKeeps, PortKept, enterUnlocking]
  split <;> simp

@[simp] theorem automaticReturn_kept (n : ChannelNo) (p : Part) :
    DoorKeeps p (automaticReturn n p) ∧ (automaticReturn n p).sup = p.sup ∧ (automaticReturn n p).rope = p.rope ∧
      (automaticReturn n p).calls = p.calls := by
  simp [DoorKeeps, PortKept, automaticReturn]

@[simp] theorem arriveMove_kept (n : ChannelNo) (e : End) (p : Part) :
    DoorKeeps p (arriveMove n e p) ∧ (arriveMove n e p).sup = p.sup ∧ (arriveMove n e p).rope = p.rope ∧
      (arriveMove n e p).calls = p.calls := by
  simp only [DoorKeeps, PortKept, arriveMove]
  (repeat' split) <;> simp

@[simp] theorem retryMove_kept (n : ChannelNo) (p : Part) :
    DoorKeeps p (retryMove n p) ∧ (retryMove n p).sup = p.sup ∧ (retryMove n p).rope = p.rope ∧
      (retryMove n p).calls = p.calls := by
  simp only [DoorKeeps, PortKept, retryMove]
  split <;> simp

@[simp] theorem enterDwell_kept (n : ChannelNo) (p : Part) :
    DoorKeeps p (enterDwell n p) ∧ (enterDwell n p).sup = p.sup ∧ (enterDwell n p).rope = p.rope ∧
      (enterDwell n p).calls = p.calls := by
  simp only [DoorKeeps, PortKept, enterDwell]
  split <;> simp

@[simp] theorem arriveReversal_kept (n : ChannelNo) (p : Part) : DoorKeeps p (arriveReversal n p) := by
  simp only [DoorKeeps, PortKept, arriveReversal]
  (repeat' split) <;> simp

@[simp] theorem startMotion_kept (n : ChannelNo) (p : Part) : DoorKeeps p (startMotion n p) := by
  simp only [DoorKeeps, PortKept, startMotion]
  (repeat' split) <;> simp

@[simp] theorem operateFromRest_kept (n : ChannelNo) (t : End) (p : Part) : DoorKeeps p (operateFromRest n t p) := by
  simp only [DoorKeeps, PortKept, operateFromRest]
  (repeat' split) <;> simp

@[simp] theorem turnBack_kept (n : ChannelNo) (t : End) (p : Part) : DoorKeeps p (turnBack n t p) := by
  simp only [DoorKeeps, PortKept, turnBack]
  (repeat' split) <;> simp

@[simp] theorem retarget_kept (n : ChannelNo) (t : End) (p : Part) : DoorKeeps p (retarget n t p) := by
  simp only [DoorKeeps, PortKept, retarget]
  (repeat' split) <;> simp

@[simp] theorem operateTakeover_kept (n : ChannelNo) (t : End) (p : Part) : DoorKeeps p (operateTakeover n t p) := by
  simp only [DoorKeeps, PortKept, operateTakeover]
  (repeat' split) <;> simp

theorem DoorKeeps.trans {p q r : Part} (h : DoorKeeps p q) (g : DoorKeeps q r) : DoorKeeps p r := by
  simp only [DoorKeeps, PortKept] at *
  simp only [g, h, and_self]

theorem takeOperation_kept (n : ChannelNo) (t : End) (claim : Part → Part) (h : ∀ q, DoorKeeps q (claim q)) (p : Part) :
    DoorKeeps p (takeOperation n t claim p) := by
  have told : DoorKeeps p (tellOwner n .interrupted p) := (tellOwner_kept n _ p).1
  refine (told.trans (h _)).trans ?_
  simp [DoorKeeps, PortKept, takeOperation]

@[simp] theorem claimForOrder_kept (i : SlotNo) (n : ChannelNo) (p : Part) : DoorKeeps p (claimForOrder i n p) := by
  simp [DoorKeeps, PortKept, claimForOrder]

@[simp] theorem claimForAction_kept (a : Action) (p : Part) : DoorKeeps p (claimForAction a p) := by
  simp [DoorKeeps, PortKept, claimForAction]

@[simp] theorem takeOperation_order_kept (n : ChannelNo) (t : End) (i : SlotNo) (m : ChannelNo) (p : Part) :
    DoorKeeps p (takeOperation n t (claimForOrder i m) p) := takeOperation_kept n t _ (claimForOrder_kept i m) p

@[simp] theorem takeOperation_action_kept (n : ChannelNo) (t : End) (a : Action) (p : Part) :
    DoorKeeps p (takeOperation n t (claimForAction a) p) := takeOperation_kept n t _ (claimForAction_kept a) p

@[simp] theorem haltChannel_kept (n : ChannelNo) (p : Part) :
    DoorKeeps p (haltChannel n p) ∧ (haltChannel n p).sup = p.sup ∧ (haltChannel n p).rope = p.rope ∧
      (haltChannel n p).calls = p.calls ∧ (haltChannel n p).cabins = p.cabins ∧ (haltChannel n p).window = p.window ∧
      (haltChannel n p).sequencer = p.sequencer := by
  simp only [DoorKeeps, PortKept, haltChannel]
  (repeat' split) <;> simp [stopOutputs]

@[simp] theorem sampleChannel_kept (n : ChannelNo) (x : ChannelInputs) (p : Part) : DoorKeeps p (sampleChannel n x p) := by
  simp [DoorKeeps, PortKept, sampleChannel]

@[simp] theorem leaveEnd_kept (n : ChannelNo) (p : Part) :
    DoorKeeps p (leaveEnd n p) ∧ (leaveEnd n p).sup = p.sup ∧ (leaveEnd n p).rope = p.rope ∧ (leaveEnd n p).calls = p.calls := by
  simp [DoorKeeps, PortKept, leaveEnd]

@[simp] theorem findLimit_kept (n : ChannelNo) (p : Part) : DoorKeeps p (findLimit n p) := by
  simp only [DoorKeeps, PortKept, findLimit]
  (repeat' split) <;> simp

@[simp] theorem dropLockRel_kept (n : ChannelNo) (p : Part) : DoorKeeps p (dropLockRel n p) := by
  simp only [DoorKeeps, PortKept, dropLockRel]
  split <;> simp

@[simp] theorem judgeLimits_kept (n : ChannelNo) (p : Part) : DoorKeeps p (judgeLimits n p) := by
  simp only [DoorKeeps, PortKept, judgeLimits]
  (repeat' split) <;> simp

@[simp] theorem judgeLock_kept (n : ChannelNo) (p : Part) : DoorKeeps p (judgeLock n p) := by
  simp only [DoorKeeps, PortKept, judgeLock]
  (repeat' split) <;> simp

@[simp] theorem judgeTimers_kept (n : ChannelNo) (p : Part) : DoorKeeps p (judgeTimers n p) := by
  simp only [DoorKeeps, PortKept, judgeTimers]
  (repeat' split) <;> simp

@[simp] theorem judgeCurrent_kept (n : ChannelNo) (p : Part) : DoorKeeps p (judgeCurrent n p) := by
  simp only [DoorKeeps, PortKept, judgeCurrent]
  (repeat' split) <;> simp

/-- A channel's step notes that it has been taken (log entry 5), and leaves what the doors' work leaves. -/
@[simp] theorem channelStep_kept (n : ChannelNo) (x : ChannelInputs) (p : Part) :
    DoorKeeps { p with clock := { p.clock with stepsTaken := p.clock.stepsTaken.set n true } } (channelStep n x p) := by
  simp only [DoorKeeps, PortKept, channelStep]
  split <;> simp

@[simp] theorem leaveFaultAsNone_kept (n : ChannelNo) (p : Part) : DoorKeeps p (leaveFaultAsNone n p) := by
  simp only [DoorKeeps, PortKept, leaveFaultAsNone]
  split <;> simp

@[simp] theorem resetFault_kept (n : ChannelNo) (p : Part) : DoorKeeps p (resetFault n p) := by
  simp only [DoorKeeps, PortKept, resetFault]
  (repeat' split) <;> simp

/-! ### Launch Control -/

/-- Launch Control's own work leaves the clock, the lists, the sensors, the grip test, the Door Sequencer, the line, the messages, the
channels, the order slots and what the arbiter has granted. -/
abbrev LaunchKeeps (p q : Part) : Prop :=
  q.clock = p.clock ∧ mapTable CabinRecord.listing q.cabins = mapTable CabinRecord.listing p.cabins ∧
    q.track = p.track ∧ q.sensors = p.sensors ∧ q.grip = p.grip ∧ q.line = p.line ∧ q.messages = p.messages ∧
    q.sequencer = p.sequencer ∧ q.doors.channels = p.doors.channels ∧ q.doors.history = p.doors.history ∧
    q.doors.budget = p.doors.budget ∧ q.doors.window = p.doors.window ∧ q.doors.grants = p.doors.grants ∧
    q.window.slots = p.window.slots ∧ PortKept p q

@[simp] theorem requestRelease_kept (p : Part) :
    LaunchKeeps p (requestRelease p) ∧ (requestRelease p).window = p.window ∧ (requestRelease p).cabins = p.cabins ∧
      (requestRelease p).sup = p.sup ∧ (requestRelease p).rope = p.rope ∧ (requestRelease p).calls = p.calls := by
  simp [LaunchKeeps, PortKept, requestRelease]

@[simp] theorem removeRequest_kept (p : Part) :
    LaunchKeeps p (removeRequest p) ∧ (removeRequest p).window = p.window ∧ (removeRequest p).cabins = p.cabins ∧
      (removeRequest p).sup = p.sup ∧ (removeRequest p).rope = p.rope ∧ (removeRequest p).calls = p.calls ∧
      (removeRequest p).work = p.work := by
  simp [LaunchKeeps, PortKept, removeRequest]

@[simp] theorem judgeLaunch_kept (p : Part) :
    LaunchKeeps p (judgeLaunch p) ∧ (judgeLaunch p).window = p.window ∧ (judgeLaunch p).cabins = p.cabins ∧
      (judgeLaunch p).sup = p.sup ∧ (judgeLaunch p).rope = p.rope ∧ (judgeLaunch p).calls = p.calls ∧
      (judgeLaunch p).work.launch = p.work.launch ∧ (judgeLaunch p).work.sequencer = p.work.sequencer := by
  simp only [LaunchKeeps, PortKept, judgeLaunch]
  (repeat' split) <;> simp [requestRelease]

@[simp] theorem judgeWatch_kept (p : Part) :
    LaunchKeeps p (judgeWatch p) ∧ (judgeWatch p).doors = p.doors ∧ (judgeWatch p).cabins = p.cabins := by
  simp only [LaunchKeeps, PortKept, judgeWatch]
  (repeat' split) <;> simp

@[simp] theorem grantRetainer_kept (p : Part) :
    LaunchKeeps p (grantRetainer p) ∧ (grantRetainer p).doors = p.doors ∧ (grantRetainer p).cabins = p.cabins := by
  simp only [LaunchKeeps, PortKept, grantRetainer]
  split <;> simp

@[simp] theorem endRelease_kept (p : Part) :
    LaunchKeeps p (endRelease p) ∧ (endRelease p).doors = p.doors ∧ (endRelease p).cabins = p.cabins ∧
      (endRelease p).sup = p.sup ∧ (endRelease p).rope = p.rope ∧ (endRelease p).calls = p.calls ∧
      (endRelease p).window = p.window := by
  simp [LaunchKeeps, PortKept, endRelease]

@[simp] theorem releasePassage_kept (k : Nat) (t : Time) (p : Part) :
    LaunchKeeps p (releasePassage k t p) ∧ (releasePassage k t p).doors = p.doors := by
  simp [LaunchKeeps, PortKept, releasePassage]

@[simp] theorem retainerPassage_kept (k : Option Nat) (t : Time) (p : Part) :
    LaunchKeeps p (retainerPassage k t p) ∧ (retainerPassage k t p).doors = p.doors := by
  simp only [LaunchKeeps, PortKept, retainerPassage]
  (repeat' split) <;> simp

@[simp] theorem releaseTimesOut_kept (p : Part) :
    LaunchKeeps p (releaseTimesOut p) ∧ (releaseTimesOut p).doors = p.doors ∧ (releaseTimesOut p).cabins = p.cabins := by
  simp [LaunchKeeps, PortKept, releaseTimesOut]

@[simp] theorem retainerChange_kept (p : Part) :
    LaunchKeeps p (retainerChange p) ∧ (retainerChange p).doors = p.doors ∧ (retainerChange p).cabins = p.cabins := by
  simp [LaunchKeeps, PortKept, retainerChange]

/-! ### The Door Sequencer -/

/-- The Door Sequencer's judgements leave the clock, the lists, the sensors, the grip test, Launch Control, the line, the messages, what
the arbiter has granted, and of its own state the program and the confirmations. -/
abbrev SequencerKeeps (p q : Part) : Prop :=
  q.clock = p.clock ∧ mapTable CabinRecord.listing q.cabins = mapTable CabinRecord.listing p.cabins ∧
    q.track = p.track ∧ q.sensors = p.sensors ∧ q.grip = p.grip ∧ q.launch = p.launch ∧ q.line = p.line ∧
    q.messages = p.messages ∧ q.doors.history = p.doors.history ∧ q.doors.budget = p.doors.budget ∧
    q.doors.window = p.doors.window ∧ q.doors.grants = p.doors.grants ∧ q.sequencer.program = p.sequencer.program ∧
    q.sequencer.confirmations = p.sequencer.confirmations ∧ q.sequencer.lastConfirmation = p.sequencer.lastConfirmation ∧
    PortKept p q

theorem SequencerKeeps.trans {p q r : Part} (h : SequencerKeeps p q) (g : SequencerKeeps q r) : SequencerKeeps p r := by
  simp only [SequencerKeeps, PortKept] at *
  simp only [g, h, and_self]

theorem SequencerKeeps.refl (p : Part) : SequencerKeeps p p := by simp [SequencerKeeps, PortKept]

/-- A fold of operations that each keep these keeps these. -/
theorem SequencerKeeps.foldl {α : Type} {f : Part → α → Part} (h : ∀ p a, SequencerKeeps p (f p a)) (l : List α) (p : Part) :
    SequencerKeeps p (l.foldl f p) := by
  induction l generalizing p with
  | nil => exact .refl p
  | cons a l ih => exact (h p a).trans (ih _)

@[simp] theorem issueAction_kept (a : Action) (p : Part) : DoorKeeps p (issueAction a p) := by
  simp only [DoorKeeps, PortKept, issueAction]
  split <;> simp

@[simp] theorem judgeActions_kept (b : Bool) (c : List ChannelNo) (l : List Action) (p : Part) :
    DoorKeeps p (judgeActions b c l p).2 := by
  induction l generalizing c p with
  | nil => simp [DoorKeeps, PortKept, judgeActions]
  | cons a t ih =>
    simp only [DoorKeeps, PortKept] at ih
    simp only [DoorKeeps, PortKept, judgeActions]
    (repeat' split) <;> simp [ih, dropCondition]

@[simp] theorem judgeSequencer_kept (b : Bool) (p : Part) :
    SequencerKeeps p (judgeSequencer b p) ∧ (judgeSequencer b p).sequencer.made = p.sequencer.made ∧
      (judgeSequencer b p).sequencer.unlocked = p.sequencer.unlocked := by
  simp [SequencerKeeps, PortKept, judgeSequencer]

@[simp] theorem loseDoor_kept (b : Bool) (k : Nat) (p : Part) :
    SequencerKeeps p (loseDoor b k p) ∧ (loseDoor b k p).doors = p.doors ∧ (loseDoor b k p).sequencer = p.sequencer ∧
      (loseDoor b k p).sup = p.sup ∧ (loseDoor b k p).rope = p.rope ∧ (loseDoor b k p).calls = p.calls ∧
      (loseDoor b k p).window = p.window ∧ (loseDoor b k p).work.arbiter = p.work.arbiter ∧
      (loseDoor b k p).work.sequencer = p.work.sequencer := by
  simp only [SequencerKeeps, PortKept, loseDoor]
  split <;> simp

/-- What a work on the actions that only drops, removes or makes late leaves: besides, the doors, the Supervisor, the rope, the calls. -/
abbrev ActionKeeps (p q : Part) : Prop :=
  SequencerKeeps p q ∧ q.doors = p.doors ∧ q.sup = p.sup ∧ q.rope = p.rope ∧ q.calls = p.calls ∧
    q.window.slots = p.window.slots ∧ q.sequencer.unlocked = p.sequencer.unlocked ∧ q.work.arbiter = p.work.arbiter ∧
    q.work.sequencer = p.work.sequencer

theorem ActionKeeps.trans {p q r : Part} (h : ActionKeeps p q) (g : ActionKeeps q r) : ActionKeeps p r := by
  simp only [ActionKeeps, SequencerKeeps, PortKept] at *
  simp only [g, h, and_self]

theorem ActionKeeps.refl (p : Part) : ActionKeeps p p := by simp [ActionKeeps, SequencerKeeps, PortKept]

theorem ActionKeeps.foldl {α : Type} {f : Part → α → Part} (h : ∀ p a, ActionKeeps p (f p a)) (l : List α) (p : Part) :
    ActionKeeps p (l.foldl f p) := by
  induction l generalizing p with
  | nil => exact .refl p
  | cons a l ih => exact (h p a).trans (ih _)

@[simp] theorem dropFull_kept (a : Action) (p : Part) : ActionKeeps p (dropFull a p) := by
  simp [ActionKeeps, SequencerKeeps, PortKept, dropFull]

@[simp] theorem countRemoval_kept (p : Part) (a : Action) : ActionKeeps p (countRemoval p a) := by
  simp [ActionKeeps, SequencerKeeps, PortKept, countRemoval]

@[simp] theorem removeActions_kept (w : Action → Bool) (b : Bool) (p : Part) : ActionKeeps p (removeActions w b p) := by
  have folded (l : List Action) (q : Part) := ActionKeeps.foldl countRemoval_kept l q
  simp only [ActionKeeps, SequencerKeeps, PortKept] at folded
  simp only [ActionKeeps, SequencerKeeps, PortKept, removeActions]
  (repeat' split) <;> simp [folded]

@[simp] theorem makeLate_kept (n : ChannelNo) (f : Flight) (p : Part) : ActionKeeps p (makeLate n f p) := by
  simp [ActionKeeps, SequencerKeeps, PortKept, makeLate]

@[simp] theorem lateOn_kept (w : ChannelNo → Flight → Bool) (b : Bool) (p : Part) (n : ChannelNo) :
    ActionKeeps p (lateOn w b p n) := by
  simp only [ActionKeeps, SequencerKeeps, PortKept, lateOn]
  (repeat' split) <;> simp

@[simp] theorem judgeLate_kept (w : ChannelNo → Flight → Bool) (b : Bool) (p : Part) : ActionKeeps p (judgeLate w b p) := by
  rw [judgeLate]
  exact ActionKeeps.foldl (lateOn_kept w b) _ p

@[simp] theorem makeAction_kept (g : Passage) (a : Action) (p : Part) : ActionKeeps p (makeAction g a p) := by
  simp only [ActionKeeps, SequencerKeeps, PortKept, makeAction]
  (repeat' split) <;> simp

@[simp] theorem triggerEntry_kept (g : Passage) (p : Part) (i : Fin 24) : ActionKeeps p (triggerEntry g p i) := by
  simp only [ActionKeeps, SequencerKeeps, PortKept, triggerEntry]
  (repeat' split) <;> simp

@[simp] theorem endUnlocked_kept (k : Nat) (p : Part) :
    SequencerKeeps p (endUnlocked k p) ∧ (endUnlocked k p).doors = p.doors ∧ (endUnlocked k p).cabins = p.cabins ∧
      (endUnlocked k p).rope = p.rope ∧ (endUnlocked k p).calls = p.calls ∧ (endUnlocked k p).work = p.work ∧
      (endUnlocked k p).window.slots = p.window.slots := by
  simp only [SequencerKeeps, PortKept, endUnlocked]
  split <;> simp

@[simp] theorem reportUnlocked_kept (k : Nat) (b : Bool) (p : Part) :
    SequencerKeeps p (reportUnlocked k b p) ∧ (reportUnlocked k b p).doors = p.doors ∧
      (reportUnlocked k b p).cabins = p.cabins ∧ (reportUnlocked k b p).window.slots = p.window.slots := by
  simp only [SequencerKeeps, PortKept, reportUnlocked]
  split <;> simp

/-- A passage at the Door Sequencer leaves the same, but that the lock check may hold its result in the station queue (R112). -/
abbrev PassageKeeps (p q : Part) : Prop :=
  q.clock = p.clock ∧ mapTable CabinRecord.listing q.cabins = mapTable CabinRecord.listing p.cabins ∧
    q.track.queue.map QueueEntry.listing = p.track.queue.map QueueEntry.listing ∧
    q.track.roster = p.track.roster ∧ q.track.matcher = p.track.matcher ∧
    q.track.detectors = p.track.detectors ∧ q.track.nextSerial = p.track.nextSerial ∧
    q.track.holdOverflow = p.track.holdOverflow ∧ q.track.trackOverflow = p.track.trackOverflow ∧ q.sensors = p.sensors ∧
    q.grip = p.grip ∧ q.launch = p.launch ∧ q.line = p.line ∧ q.messages = p.messages ∧ q.doors.history = p.doors.history ∧
    q.doors.budget = p.doors.budget ∧ q.doors.window = p.doors.window ∧ q.doors.grants = p.doors.grants ∧
    q.sequencer.program = p.sequencer.program ∧ PortKept p q

@[simp] theorem lockCheck_kept (g : Passage) (p : Part) :
    PassageKeeps p (lockCheck g p) ∧ (lockCheck g p).doors = p.doors ∧ (lockCheck g p).window.slots = p.window.slots := by
  simp only [PassageKeeps, PortKept, lockCheck]
  (repeat' split) <;> simp

@[simp] theorem triggered_kept (g : Passage) (p : Part) :
    ActionKeeps p ((List.finRange 24).foldl (triggerEntry g) p) := ActionKeeps.foldl (triggerEntry_kept g) _ p

@[simp] theorem sequencerPassage_kept (g : Passage) (p : Part) : PassageKeeps p (sequencerPassage g p) := by
  have made (q : Part) := triggered_kept g q
  simp only [ActionKeeps, SequencerKeeps, PortKept] at made
  simp only [PassageKeeps, PortKept, sequencerPassage]
  (repeat' split) <;> simp [made]

@[simp] theorem identifyLock_kept (e : QueueEntry) (k : Nat) (p : Part) :
    PassageKeeps p (identifyLock e k p) ∧ (identifyLock e k p).doors = p.doors := by
  simp only [PassageKeeps, PortKept, identifyLock]
  (repeat' split) <;> simp

@[simp] theorem sequencerLoad_kept (old : List QueueEntry) (l : List Nat) (p : Part) :
    SequencerKeeps p (sequencerLoad old l p) := by
  have ended (q : Part) := SequencerKeeps.foldl (f := fun p (e : QueueEntry) => endUnlocked e.cabin p)
    (fun p e => (endUnlocked_kept e.cabin p).1) old q
  have doors (q : Part) := SequencerKeeps.foldl (f := fun p (k : Nat) => setDoor k .unknown p)
    (fun p k => by simp [SequencerKeeps, PortKept]) l q
  refine SequencerKeeps.trans ?_ (doors _)
  refine SequencerKeeps.trans ?_ (ended _)
  simp [SequencerKeeps, PortKept]

end Sys2Proof.Machine

namespace Sys2Proof.Machine

/-! ### The Message Channel -/

/-- The Message Channel's work changes its own state, the launch notes of the records, and the slots and ATTENTION of the window. -/
abbrev MessageKeeps (p q : Part) : Prop :=
  q.clock = p.clock ∧ mapTable CabinRecord.listing q.cabins = mapTable CabinRecord.listing p.cabins ∧
    q.track = p.track ∧ q.rope = p.rope ∧ q.sensors = p.sensors ∧ q.grip = p.grip ∧ q.launch = p.launch ∧
    q.doors = p.doors ∧ q.sequencer = p.sequencer ∧ q.sup = p.sup ∧ q.line = p.line ∧ q.calls = p.calls ∧ q.work = p.work ∧
    PortKept p q

@[simp] theorem setNote_kept (k : Nat) (n : LaunchNote) (p : Part) :
    MessageKeeps p (setNote k n p) ∧ (setNote k n p).window = p.window ∧ (setNote k n p).messages = p.messages := by
  simp [MessageKeeps, PortKept, setNote]

@[simp] theorem exitNote_kept (k : Nat) (p : Part) : MessageKeeps p (exitNote k p) ∧ (exitNote k p).window = p.window := by
  simp only [MessageKeeps, PortKept, exitNote]
  split <;> simp

@[simp] theorem noteOutcome_kept (k : Nat) (n : LaunchNote) (p : Part) :
    MessageKeeps p (noteOutcome k n p) ∧ (noteOutcome k n p).window = p.window ∧ (noteOutcome k n p).messages = p.messages := by
  simp only [MessageKeeps, PortKept, noteOutcome]
  split <;> simp

@[simp] theorem failTransfer_kept (t : Transfer) (d : Nat) (p : Part) :
    MessageKeeps p (failTransfer t d p) ∧ (failTransfer t d p).messages = p.messages := by
  simp only [MessageKeeps, PortKept, failTransfer]
  split <;> simp

@[simp] theorem acceptOctet_kept (t : Transfer) (p : Part) : MessageKeeps p (acceptOctet t p) := by
  simp only [MessageKeeps, PortKept, acceptOctet]
  (repeat' split) <;> simp

@[simp] theorem refuseOctet_kept (p : Part) : MessageKeeps p (refuseOctet p) := by
  simp only [MessageKeeps, PortKept, refuseOctet]
  (repeat' split) <;> simp

@[simp] theorem judgeAccept_kept (n : Option Nat) (b : Bool) (p : Part) : MessageKeeps p (judgeAccept n b p) := by
  simp only [MessageKeeps, PortKept, judgeAccept]
  (repeat' split) <;> simp

@[simp] theorem messagesErrored_kept (p : Part) : MessageKeeps p (messagesErrored p) := by
  simp [MessageKeeps, PortKept, messagesErrored]

@[simp] theorem messagesLineDown_kept (p : Part) : MessageKeeps p (messagesLineDown p) := by
  simp only [MessageKeeps, PortKept, messagesLineDown]
  split <;> simp

@[simp] theorem withdrawMessage_kept (i : SlotNo) (p : Part) : MessageKeeps p (withdrawMessage i p) := by
  simp only [MessageKeeps, PortKept, withdrawMessage]
  split <;> simp

/-- The track but for the roster is the same. -/
abbrev TrackKept (p q : Part) : Prop :=
  q.track.queue = p.track.queue ∧ q.track.nextSerial = p.track.nextSerial ∧ q.track.matcher = p.track.matcher ∧
    q.track.detectors = p.track.detectors ∧ q.track.holdOverflow = p.track.holdOverflow ∧
    q.track.trackOverflow = p.track.trackOverflow

/-- The receiver besides delivers passage notes, which change the marks of the roster and of the records (R16). -/
abbrev ReceiverKeeps (p q : Part) : Prop :=
  q.clock = p.clock ∧ TrackKept p q ∧ q.rope = p.rope ∧ q.sensors = p.sensors ∧
    q.grip = p.grip ∧ q.launch = p.launch ∧ q.doors = p.doors ∧ q.sequencer = p.sequencer ∧ q.sup = p.sup ∧ q.line = p.line ∧
    q.calls = p.calls ∧ q.work = p.work ∧ q.window.slots = p.window.slots ∧ PortKept p q

/-- Copying marks to the records leaves all but the records. -/
theorem copyMarks_kept (l : List RosterEntry) (p : Part) : l.foldl copyMark p = { p with cabins := (l.foldl copyMark p).cabins } := by
  induction l generalizing p with
  | nil => rfl
  | cons e l ih =>
    have one : copyMark p e = { p with cabins := (copyMark p e).cabins } := by
      simp only [copyMark, modCabin]
      split <;> rfl
    rw [List.foldl_cons, ih, one]

@[simp] theorem passageNote_kept (k : Nat) (p : Part) :
    ReceiverKeeps p (passageNote k p) ∧ (passageNote k p).messages = p.messages := by
  simp only [ReceiverKeeps, TrackKept, PortKept, passageNote]
  split
  · rw [copyMarks_kept]; simp
  · simp

@[simp] theorem deliverNote_kept (l : List Byte) (p : Part) :
    ReceiverKeeps p (deliverNote l p) ∧ (deliverNote l p).messages = p.messages := by
  unfold deliverNote
  split
  · exact passageNote_kept _ p
  · simp [ReceiverKeeps, TrackKept, PortKept]

@[simp] theorem endAssembly_kept (p : Part) : ReceiverKeeps p (endAssembly p) := by
  unfold endAssembly
  cases p.messages.receiver with
  | note l => exact (deliverNote_kept l _).1
  | _ => simp [ReceiverKeeps, TrackKept, PortKept]

/-- An octet that ends an assembly, where it is taken. -/
theorem endTaken_kept (r : Bool × Messages) (p : Part) :
    ReceiverKeeps p (if (takeAssembly r p).1 then (true, endAssembly (takeAssembly r p).2) else takeAssembly r p).2 := by
  split
  · exact endAssembly_kept { p with messages := r.2 }
  · simp [ReceiverKeeps, TrackKept, PortKept, takeAssembly]

@[simp] theorem receiveOctet_kept (b : Byte) (m : MsgMark) (p : Part) : ReceiverKeeps p (receiveOctet b m p).2 := by
  cases m with
  | last => exact endTaken_kept _ p
  | middle => simp only [receiveOctet]; split <;> simp [ReceiverKeeps, TrackKept, PortKept, takeAssembly]
  | _ => simp [receiveOctet, ReceiverKeeps, TrackKept, PortKept, takeAssembly]

@[simp] theorem judgeOffer_kept (o : Option (Byte × MsgMark)) (p : Part) : ReceiverKeeps p (judgeOffer o p) := by
  unfold judgeOffer
  split
  · simp [ReceiverKeeps, TrackKept, PortKept]
  · split
    · simp [ReceiverKeeps, TrackKept, PortKept]
    · exact receiveOctet_kept _ _ p

/-! ### The Summit Line Interface -/

/-- The line's work changes its own state, and by the changes that it hands on the messages, the records' launch notes, the calls, the
Supervisor with the rope's ceiling, and the window. -/
abbrev LineKeeps (p q : Part) : Prop :=
  q.clock = p.clock ∧ mapTable CabinRecord.listing q.cabins = mapTable CabinRecord.listing p.cabins ∧
    q.track = p.track ∧ q.sensors = p.sensors ∧ q.grip = p.grip ∧ q.launch = p.launch ∧ q.doors = p.doors ∧
    q.sequencer = p.sequencer ∧ q.work.arbiter = p.work.arbiter ∧ q.work.sequencer = p.work.sequencer ∧ PortKept p q

@[simp] theorem handLine_kept (b : Bool) (p : Part) : LineKeeps p (handLine b p) ∧ (handLine b p).line = p.line := by
  simp only [LineKeeps, PortKept, handLine]
  (repeat' split) <;> simp

@[simp] theorem changeLine_kept (st : LineState) (r : Nat) (p : Part) : LineKeeps p (changeLine st r p) := by
  simp only [LineKeeps, PortKept, changeLine]
  split <;> simp

/-- The line takes the state and the rate, and nothing else of its own changes. -/
@[simp] theorem changeLine_line (st : LineState) (r : Nat) (p : Part) :
    (changeLine st r p).line = { p.line with state := st, rate := r } := by
  simp only [changeLine]
  split
  next h =>
    simp only [Bool.and_eq_true, beq_iff_eq] at h
    obtain ⟨rfl, rfl⟩ := h
    rfl
  next => simp

@[simp] theorem sendProbe_kept (b : Bool) (p : Part) :
    LineKeeps p (sendProbe b p) ∧ (sendProbe b p).calls = p.calls ∧ (sendProbe b p).sup = p.sup ∧ (sendProbe b p).rope = p.rope ∧
      (sendProbe b p).messages = p.messages ∧ (sendProbe b p).cabins = p.cabins ∧ (sendProbe b p).window = p.window ∧
      (sendProbe b p).work = p.work := by
  simp [LineKeeps, PortKept, sendProbe]

@[simp] theorem enterProbing_kept (p : Part) : LineKeeps p (enterProbing p) := by simp [LineKeeps, PortKept, enterProbing]
@[simp] theorem enterTraining_kept (r : Nat) (p : Part) : LineKeeps p (enterTraining r p) := by
  simp [LineKeeps, PortKept, enterTraining]
@[simp] theorem trainAtCeiling_kept (p : Part) : LineKeeps p (trainAtCeiling p) := by simp [LineKeeps, PortKept, trainAtCeiling]

@[simp] theorem answerStart_kept (r : Result) (d : Nat) (p : Part) :
    LineKeeps p (answerStart r d p) ∧ (answerStart r d p).line = { p.line with startOrder := none } ∧
      (answerStart r d p).calls = p.calls ∧ (answerStart r d p).sup = p.sup ∧ (answerStart r d p).rope = p.rope ∧
      (answerStart r d p).messages = p.messages ∧ (answerStart r d p).cabins = p.cabins ∧ (answerStart r d p).work = p.work := by
  simp [LineKeeps, PortKept, answerStart]

@[simp] theorem answerProbe_kept (d : Nat) (p : Part) :
    LineKeeps p (answerProbe d p) ∧ (answerProbe d p).line = { p.line with probeOrder := none } ∧
      (answerProbe d p).calls = p.calls ∧ (answerProbe d p).sup = p.sup ∧ (answerProbe d p).rope = p.rope ∧
      (answerProbe d p).messages = p.messages ∧ (answerProbe d p).cabins = p.cabins ∧ (answerProbe d p).work = p.work := by
  simp [LineKeeps, PortKept, answerProbe]

@[simp] theorem startBackoff_kept (p : Part) :
    LineKeeps p (startBackoff p) ∧ (startBackoff p).calls = p.calls ∧ (startBackoff p).sup = p.sup ∧
      (startBackoff p).rope = p.rope ∧ (startBackoff p).messages = p.messages ∧ (startBackoff p).cabins = p.cabins ∧
      (startBackoff p).window = p.window ∧ (startBackoff p).work = p.work := by
  simp [LineKeeps, PortKept, startBackoff]

@[simp] theorem enterDown_kept (d : Diagnosis) (p : Part) : LineKeeps p (enterDown d p) := by simp [LineKeeps, PortKept, enterDown]
@[simp] theorem enterDownWaiting_kept (d : Diagnosis) (p : Part) : LineKeeps p (enterDownWaiting d p) := by
  simp [LineKeeps, PortKept, enterDownWaiting]
@[simp] theorem enterUp_kept (a b : Nat) (p : Part) : LineKeeps p (enterUp a b p) := by simp [LineKeeps, PortKept, enterUp]

@[simp] theorem beginAttempt_kept (p : Part) : LineKeeps p (beginAttempt p) := by
  simp only [LineKeeps, PortKept, beginAttempt]
  split <;> simp

@[simp] theorem attemptFails_kept (p : Part) : LineKeeps p (attemptFails p) := by
  simp only [LineKeeps, PortKept, attemptFails]
  (repeat' split) <;> simp

@[simp] theorem recordProbe_kept (r : ProbeResult) (p : Part) : LineKeeps p (recordProbe r p) := by
  simp [LineKeeps, PortKept, recordProbe]

@[simp] theorem probeAnswered_kept (pr : Probe) (p : Part) : LineKeeps p (probeAnswered pr p) := by
  simp only [LineKeeps, PortKept, probeAnswered]
  split <;> simp

@[simp] theorem orderProbeFails_kept (b : Bool) (p : Part) : LineKeeps p (orderProbeFails b p) := by
  simp only [LineKeeps, PortKept, orderProbeFails]
  (repeat' split) <;> simp

@[simp] theorem sleepProbeFails_kept (b : Bool) (p : Part) : LineKeeps p (sleepProbeFails b p) := by
  simp only [LineKeeps, PortKept, sleepProbeFails]
  split <;> simp

@[simp] theorem probingProbeFails_kept (b : Bool) (p : Part) : LineKeeps p (probingProbeFails b p) := by
  simp only [LineKeeps, PortKept, probingProbeFails]
  split <;> simp

@[simp] theorem probeFails_kept (pr : Probe) (p : Part) : LineKeeps p (probeFails pr p) := by
  simp only [LineKeeps, PortKept, probeFails]
  (repeat' split) <;> simp

@[simp] theorem listenEnds_kept (p : Part) : LineKeeps p (listenEnds p) := by
  simp only [LineKeeps, PortKept, listenEnds]
  (repeat' split) <;> simp

@[simp] theorem hearAnswer_kept (pr : Probe) (p : Part) : LineKeeps p (hearAnswer pr p) := by
  simp only [LineKeeps, PortKept, hearAnswer]
  split <;> simp

@[simp] theorem answerBurstHeard_kept (p : Part) : LineKeeps p (answerBurstHeard p) := by
  simp only [LineKeeps, PortKept, answerBurstHeard]
  split <;> simp

@[simp] theorem wakeInDown_kept (p : Part) : LineKeeps p (wakeInDown p) := by
  simp only [LineKeeps, PortKept, wakeInDown]
  split <;> simp

@[simp] theorem wakeBurstHeard_kept (p : Part) : LineKeeps p (wakeBurstHeard p) := by
  simp only [LineKeeps, PortKept, wakeBurstHeard]
  (repeat' split) <;> simp

@[simp] theorem hearBits_kept (x : BitVec 32) (p : Part) : LineKeeps p (hearBits x p) := by
  simp only [LineKeeps, PortKept, hearBits]
  (repeat' split) <;> simp

@[simp] theorem drawSleep_kept (p : Part) :
    LineKeeps p (drawSleep p) ∧ (drawSleep p).calls = p.calls ∧ (drawSleep p).sup = p.sup ∧ (drawSleep p).rope = p.rope ∧
      (drawSleep p).messages = p.messages ∧ (drawSleep p).cabins = p.cabins ∧ (drawSleep p).window = p.window ∧
      (drawSleep p).work = p.work := by
  simp [LineKeeps, PortKept, drawSleep]

@[simp] theorem enterDormant_kept (p : Part) : LineKeeps p (enterDormant p) := by simp [LineKeeps, PortKept, enterDormant]

@[simp] theorem sleepEnds_kept (p : Part) : LineKeeps p (sleepEnds p) := by
  simp only [LineKeeps, PortKept, sleepEnds]
  split <;> simp

@[simp] theorem composeFrame_kept (p : Part) :
    LineKeeps p (composeFrame p) ∧ (composeFrame p).calls = p.calls ∧ (composeFrame p).sup = p.sup ∧
      (composeFrame p).rope = p.rope ∧ (composeFrame p).cabins = p.cabins ∧ (composeFrame p).window = p.window ∧
      (composeFrame p).work = p.work := by
  simp only [LineKeeps, PortKept, composeFrame]
  (repeat' split) <;> simp

@[simp] theorem autoStart_kept (p : Part) : LineKeeps p (autoStart p) := by
  simp only [LineKeeps, PortKept, autoStart]
  (repeat' split) <;> simp

@[simp] theorem lineTick_kept (p : Part) : LineKeeps p (lineTick p) := by
  simp only [LineKeeps, PortKept, lineTick]
  (repeat' split) <;> simp

/-- An answer judged in UP besides changes the marks of the roster, by a passage note that it ends (R16). -/
abbrev AnswerKeeps (p q : Part) : Prop :=
  q.clock = p.clock ∧ TrackKept p q ∧ q.sensors = p.sensors ∧ q.grip = p.grip ∧
    q.launch = p.launch ∧ q.doors = p.doors ∧ q.sequencer = p.sequencer ∧ q.work.arbiter = p.work.arbiter ∧
    q.work.sequencer = p.work.sequencer ∧ PortKept p q

theorem AnswerKeeps.trans {p q r : Part} (h : AnswerKeeps p q) (g : AnswerKeeps q r) : AnswerKeeps p r := by
  simp only [AnswerKeeps, TrackKept, PortKept] at *
  simp only [g, h, and_self]

theorem LineKeeps.toAnswer {p q : Part} (h : LineKeeps p q) : AnswerKeeps p q := by
  obtain ⟨hclock, -, htrack, hrest⟩ := h
  exact ⟨hclock, by simp only [TrackKept, htrack, and_self], hrest⟩

@[simp] theorem takeEcho_kept (n : FrameNote) (f : FrameContent) (o : Int) (p : Part) : LineKeeps p (takeEcho n f o p) := by
  simp only [LineKeeps, PortKept, takeEcho]
  split <;> simp

@[simp] theorem judgeTraining_kept (n : FrameNote) (f : FrameContent) (o : Int) (b : Bool) (p : Part) :
    LineKeeps p (judgeTraining n f o b p) := by
  simp only [LineKeeps, PortKept, judgeTraining]
  split <;> simp

@[simp] theorem loseLine_kept (p : Part) : LineKeeps p (loseLine p) := by
  simp only [LineKeeps, PortKept, loseLine]
  split <;> simp

@[simp] theorem qualityFails_kept (p : Part) : LineKeeps p (qualityFails p) := by
  simp only [LineKeeps, PortKept, qualityFails]
  split <;> simp

@[simp] theorem judgeQuality_kept (p : Part) : LineKeeps p (judgeQuality p) := by
  simp only [LineKeeps, PortKept, judgeQuality]
  (repeat' split) <;> simp

@[simp] theorem takeWord_kept (w : Half) (p : Part) : LineKeeps p (takeWord w p) ∧ (takeWord w p).messages = p.messages ∧
    (takeWord w p).cabins = p.cabins ∧ (takeWord w p).window.slots = p.window.slots := by
  simp only [LineKeeps, PortKept, takeWord]
  split <;> simp

@[simp] theorem playVoices_kept (r : Nat) (a b : List Byte) (p : Part) : CallKeeps p (playVoices r a b p) := by
  simp only [CallKeeps, PortKept, playVoices]
  (repeat' split) <;> simp

@[simp] theorem messagesGood_kept (n : Option Nat) (b : Bool) (o : Option (Byte × MsgMark)) (p : Part) :
    AnswerKeeps p (messagesGood n b o p) := by
  simp [AnswerKeeps, TrackKept, PortKept, messagesGood]

@[simp] theorem useAnswer_kept (n : FrameNote) (f : FrameContent) (p : Part) : AnswerKeeps p (useAnswer n f p) := by
  simp [AnswerKeeps, TrackKept, PortKept, useAnswer]

@[simp] theorem useErrored_kept (n : FrameNote) (p : Part) : LineKeeps p (useErrored n p) := by
  simp [LineKeeps, PortKept, useErrored]

@[simp] theorem judgeAnswer_kept (n : FrameNote) (f : Option SummitFrame) (p : Part) : AnswerKeeps p (judgeAnswer n f p) := by
  simp only [AnswerKeeps, TrackKept, PortKept, judgeAnswer]
  (repeat' split) <;> simp

@[simp] theorem takeAnswer_kept (f : Option SummitFrame) (p : Part) : AnswerKeeps p (takeAnswer f p) := by
  simp only [AnswerKeeps, TrackKept, PortKept, takeAnswer]
  split <;> simp

/-! ### The Sensor Scanner, the grip test and the rope -/

/-- The switch channels' work leaves what the Supervisor's leaves, but the sensors. -/
abbrev SwitchKeeps (p q : Part) : Prop :=
  q.clock = p.clock ∧ q.track = p.track ∧ q.cabins = p.cabins ∧ q.grip = p.grip ∧ q.launch = p.launch ∧ q.doors = p.doors ∧
    q.sequencer = p.sequencer ∧ q.line = p.line ∧ q.messages = p.messages ∧ q.window.slots = p.window.slots ∧
    q.work.arbiter = p.work.arbiter ∧ q.work.sequencer = p.work.sequencer ∧ PortKept p q

@[simp] theorem reportSwitch_kept (i : Fin 8) (c : Option (CauseKind × Category)) (p : Part) : SupKeeps p (reportSwitch i c p) := by
  simp only [SupKeeps, PortKept, reportSwitch]
  split <;> simp

@[simp] theorem endSwitch_kept (i : Fin 8) (c : Option (CauseKind × Category)) (p : Part) :
    SupKeeps p (endSwitch i c p) ∧ (endSwitch i c p).calls = p.calls ∧ (endSwitch i c p).rope = p.rope ∧
      (endSwitch i c p).work = p.work := by
  simp only [SupKeeps, PortKept, endSwitch]
  split <;> simp

@[simp] theorem switchChange_kept (i : Fin 8) (p : Part) : SwitchKeeps p (switchChange i p) := by
  simp only [SwitchKeeps, PortKept, switchChange]
  split <;> simp

@[simp] theorem configureSwitch_kept (i : Fin 8) (k : SwitchKind) (c : FaultCategory) (p : Part) :
    SwitchKeeps p (configureSwitch i k c p) := by
  simp [SwitchKeeps, PortKept, configureSwitch]

/-- The grip test's work leaves what the Supervisor's leaves, but the grip test and the grip results of the records. -/
abbrev GripKeeps (p q : Part) : Prop :=
  q.clock = p.clock ∧ mapTable CabinRecord.listing q.cabins = mapTable CabinRecord.listing p.cabins ∧
    q.track = p.track ∧ q.sensors = p.sensors ∧ q.launch = p.launch ∧ q.doors = p.doors ∧
    q.sequencer = p.sequencer ∧ q.line = p.line ∧ q.messages = p.messages ∧ q.window.slots = p.window.slots ∧
    q.work.arbiter = p.work.arbiter ∧ q.work.sequencer = p.work.sequencer ∧ PortKept p q

@[simp] theorem closeGrip_kept (b : Bool) (p : Part) : GripKeeps p (closeGrip b p) := by
  simp only [GripKeeps, PortKept, closeGrip]
  (repeat' split) <;> simp

@[simp] theorem openGrip_kept (k : Nat) (t : Time) (p : Part) : GripKeeps p (openGrip k t p) := by
  simp [GripKeeps, PortKept, openGrip]

@[simp] theorem gripExit_kept (k : Nat) (p : Part) : GripKeeps p (gripExit k p) := by
  simp only [GripKeeps, PortKept, gripExit]
  (repeat' split) <;> simp

@[simp] theorem gripSample_kept (p : Part) : GripKeeps p (gripSample p) := by
  simp only [GripKeeps, PortKept, gripSample]
  (repeat' split) <;> simp

@[simp] theorem tensionCheck_kept (p : Part) : SwitchKeeps p (tensionCheck p) := by
  simp only [SwitchKeeps, PortKept, tensionCheck]
  (repeat' split) <;> simp

@[simp] theorem windCheck_kept (p : Part) : SwitchKeeps p (windCheck p) := by
  simp only [SwitchKeeps, PortKept, windCheck]
  (repeat' split) <;> simp

/-- A scan notes that it has been taken (log entry 5), and changes the sensors, the grip test with the records, and by its reports the
Supervisor, the rope's ceiling and the calls. -/
@[simp] theorem scanTick_kept (a : ScanAnswers) (p : Part) :
    (scanTick a p).clock = { p.clock with scanTaken := true } ∧
      mapTable CabinRecord.listing (scanTick a p).cabins = mapTable CabinRecord.listing p.cabins ∧ (scanTick a p).track = p.track ∧
      (scanTick a p).launch = p.launch ∧ (scanTick a p).doors = p.doors ∧ (scanTick a p).sequencer = p.sequencer ∧
      (scanTick a p).line = p.line ∧ (scanTick a p).messages = p.messages ∧ (scanTick a p).window.slots = p.window.slots ∧
      (scanTick a p).work.arbiter = p.work.arbiter ∧ (scanTick a p).work.sequencer = p.work.sequencer ∧
      PortKept p (scanTick a p) := by
  simp only [PortKept, scanTick]
  (repeat' split) <;> simp

theorem SupKeeps.trans {p q r : Part} (h : SupKeeps p q) (g : SupKeeps q r) : SupKeeps p r := by
  simp only [SupKeeps, PortKept] at *
  simp only [g, h, and_self]

@[simp] theorem delivered_kept (l : List Notice) (p : Part) : SupKeeps p (l.foldl deliver p) := by
  induction l generalizing p with
  | nil => simp [SupKeeps, PortKept]
  | cons n l ih => exact (deliver_kept p n).trans (ih _)

/-- A rope sample changes the rope, ends the restarted gap of Launch Control, and reports. -/
@[simp] theorem ropeTick_kept (a b : EncoderInterval) (p : Part) :
    SupKeeps { p with launch := { p.launch with gapRestarted := false } } (ropeTick a b p) := by
  have delivered (l : List Notice) (q : Part) := delivered_kept l q
  simp only [SupKeeps, PortKept] at delivered
  simp only [SupKeeps, PortKept, ropeTick]
  split <;> simp [delivered]

end Sys2Proof.Machine

namespace Sys2Proof.Machine

/-! ### The Track Monitor -/

/-- The Track Monitor's work leaves the clock, the sensors, the line, the door program, and what the arbiter has granted. -/
abbrev TrackKeeps (p q : Part) : Prop :=
  q.clock = p.clock ∧ q.sensors = p.sensors ∧ q.line = p.line ∧ q.doors.history = p.doors.history ∧
    q.doors.budget = p.doors.budget ∧ q.doors.window = p.doors.window ∧ q.doors.grants = p.doors.grants ∧
    q.sequencer.program = p.sequencer.program ∧ PortKept p q

theorem TrackKeeps.trans {p q r : Part} (h : TrackKeeps p q) (g : TrackKeeps q r) : TrackKeeps p r := by
  simp only [TrackKeeps, PortKept] at *
  simp only [g, h, and_self]

theorem TrackKeeps.refl (p : Part) : TrackKeeps p p := by simp [TrackKeeps, PortKept]

theorem TrackKeeps.foldl {α : Type} {f : Part → α → Part} (h : ∀ p a, TrackKeeps p (f p a)) (l : List α) (p : Part) :
    TrackKeeps p (l.foldl f p) := by
  induction l generalizing p with
  | nil => exact .refl p
  | cons a l ih => exact (h p a).trans (ih _)

@[simp] theorem modTrack_kept (f : Track → Track) (p : Part) :
    TrackKeeps p (modTrack f p) ∧ (modTrack f p).cabins = p.cabins ∧ (modTrack f p).doors = p.doors ∧
      (modTrack f p).launch = p.launch ∧ (modTrack f p).sup = p.sup ∧ (modTrack f p).work = p.work ∧
      (modTrack f p).track = f p.track ∧ (modTrack f p).rope = p.rope ∧ (modTrack f p).calls = p.calls ∧
      (modTrack f p).window = p.window ∧ (modTrack f p).grip = p.grip ∧ (modTrack f p).messages = p.messages ∧
      (modTrack f p).sequencer = p.sequencer := by
  simp [TrackKeeps, PortKept, modTrack]

@[simp] theorem setMatcher_kept (m : TagMatcher) (p : Part) :
    TrackKeeps p (setMatcher m p) ∧ (setMatcher m p).cabins = p.cabins ∧ (setMatcher m p).doors = p.doors ∧
      (setMatcher m p).launch = p.launch ∧ (setMatcher m p).sup = p.sup ∧ (setMatcher m p).work = p.work ∧
      (setMatcher m p).track = { p.track with matcher := m } ∧ (setMatcher m p).sequencer = p.sequencer := by
  simp [TrackKeeps, PortKept, setMatcher]

@[simp] theorem reportTrack_kept (k : CauseKind) (n : Nat) (c : Category) (b : Bool) (p : Part) :
    SupKeeps p (reportTrack k n c b p) := by
  simp [SupKeeps, PortKept, reportTrack]

@[simp] theorem reportHoldOverflow_kept (p : Part) : TrackKeeps p (reportHoldOverflow p) := by
  simp [TrackKeeps, PortKept, reportHoldOverflow]

@[simp] theorem recountHold_kept (b : Bool) (p : Part) :
    TrackKeeps p (recountHold b p) ∧ (recountHold b p).cabins = p.cabins ∧ (recountHold b p).launch = p.launch ∧
      (recountHold b p).doors = p.doors ∧ (recountHold b p).sequencer = p.sequencer ∧ (recountHold b p).grip = p.grip ∧
      (recountHold b p).messages = p.messages ∧ (recountHold b p).track.queue = p.track.queue ∧
      (recountHold b p).track.roster = p.track.roster ∧ (recountHold b p).track.nextSerial = p.track.nextSerial ∧
      (recountHold b p).track.matcher = p.track.matcher ∧ (recountHold b p).track.detectors = p.track.detectors ∧
      (recountHold b p).track.trackOverflow = p.track.trackOverflow ∧ (recountHold b p).window.slots = p.window.slots ∧
      (recountHold b p).work.arbiter = p.work.arbiter ∧ (recountHold b p).work.sequencer = p.work.sequencer := by
  simp only [TrackKeeps, PortKept, recountHold, reportHoldOverflow]
  (repeat' split) <;> simp

@[simp] theorem recountQueue_kept (p : Part) :
    TrackKeeps p (recountQueue p) ∧ (recountQueue p).cabins = p.cabins ∧ (recountQueue p).launch = p.launch ∧
      (recountQueue p).doors = p.doors ∧ (recountQueue p).sequencer = p.sequencer ∧ (recountQueue p).grip = p.grip ∧
      (recountQueue p).messages = p.messages ∧ (recountQueue p).track.queue = p.track.queue ∧
      (recountQueue p).track.roster = p.track.roster ∧ (recountQueue p).track.nextSerial = p.track.nextSerial ∧
      (recountQueue p).track.matcher = p.track.matcher ∧ (recountQueue p).track.detectors = p.track.detectors ∧
      (recountQueue p).track.holdOverflow = p.track.holdOverflow ∧ (recountQueue p).window.slots = p.window.slots ∧
      (recountQueue p).work = p.work ∧ (recountQueue p).rope = p.rope ∧ (recountQueue p).calls = p.calls := by
  simp only [TrackKeeps, PortKept, recountQueue]
  split <;> simp

@[simp] theorem leaveRoster_kept (k : Nat) (p : Part) :
    TrackKeeps p (leaveRoster k p) ∧ (leaveRoster k p).cabins = p.cabins ∧ (leaveRoster k p).doors = p.doors ∧
      (leaveRoster k p).launch = p.launch ∧ (leaveRoster k p).sup = p.sup ∧ (leaveRoster k p).work = p.work ∧
      (leaveRoster k p).calls = p.calls ∧ (leaveRoster k p).window = p.window := by
  simp [TrackKeeps, PortKept, leaveRoster]

@[simp] theorem refuseArrival_kept (r : Option Nat) (p : Part) :
    TrackKeeps p (refuseArrival r p) ∧ (refuseArrival r p).doors = p.doors ∧ (refuseArrival r p).launch = p.launch := by
  simp only [TrackKeeps, PortKept, refuseArrival]
  split <;> simp

@[simp] theorem appendArrival_kept (k : Nat) (t : Time) (p : Part) :
    TrackKeeps p (appendArrival k t p) ∧ (appendArrival k t p).doors = p.doors ∧ (appendArrival k t p).launch = p.launch := by
  simp [TrackKeeps, PortKept, appendArrival]

@[simp] theorem decideArrival_kept (r : Option Nat) (t : Time) (p : Part) :
    TrackKeeps p (decideArrival r t p) ∧ (decideArrival r t p).launch = p.launch := by
  simp only [TrackKeeps, PortKept, decideArrival]
  (repeat' split) <;> simp

@[simp] theorem tagArrives_kept (r : Option Nat) (p : Part) :
    TrackKeeps p (tagArrives r p) ∧ (tagArrives r p).launch = p.launch := by
  simp only [TrackKeeps, PortKept, tagArrives]
  split <;> simp

@[simp] theorem d1Arrives_kept (t : Time) (p : Part) : TrackKeeps p (d1Arrives t p) ∧ (d1Arrives t p).launch = p.launch := by
  simp only [TrackKeeps, PortKept, d1Arrives]
  split <;> simp

@[simp] theorem endWait_kept (p : Part) : TrackKeeps p (endWait p) ∧ (endWait p).launch = p.launch := by
  simp only [TrackKeeps, PortKept, endWait]
  split <;> simp

@[simp] theorem restartGap_kept (p : Part) :
    TrackKeeps p (restartGap p) ∧ (restartGap p).track = p.track ∧ (restartGap p).cabins = p.cabins ∧
      (restartGap p).doors = p.doors ∧ (restartGap p).launch = p.launch ∧ (restartGap p).sup = p.sup ∧
      (restartGap p).sequencer = p.sequencer ∧ (restartGap p).work = p.work ∧ (restartGap p).window = p.window := by
  simp [TrackKeeps, PortKept, restartGap]

@[simp] theorem phantomPassage_kept (k : Nat) (t : Time) (p : Part) : TrackKeeps p (phantomPassage k t p) := by
  simp only [TrackKeeps, PortKept, phantomPassage]
  split <;> simp

@[simp] theorem moveEntry_kept (n k : Nat) (t : Time) (p : Part) :
    TrackKeeps p (moveEntry n k t p) ∧ (moveEntry n k t p).doors = p.doors ∧ (moveEntry n k t p).launch = p.launch ∧
      (moveEntry n k t p).cabins = p.cabins ∧ (moveEntry n k t p).sup = p.sup ∧ (moveEntry n k t p).sequencer = p.sequencer := by
  simp [TrackKeeps, PortKept, moveEntry]

@[simp] theorem handPassage_kept (k : Nat) (e : QueueEntry) (n : PassageNote) (p : Part) : TrackKeeps p (handPassage k e n p) := by
  simp only [TrackKeeps, PortKept, handPassage]
  (repeat' split) <;> simp

@[simp] theorem takePassage_kept (k : Nat) (n : PassageNote) (p : Part) : TrackKeeps p (takePassage k n p) := by
  have waited : TrackKeeps p (if k == 2 then endWait p else p) := by
    split
    · exact (endWait_kept p).1
    · exact .refl p
  refine waited.trans ?_
  rw [takePassage]
  generalize (if k == 2 then endWait p else p) = q
  simp only [TrackKeeps, PortKept]
  split <;> simp

@[simp] theorem exitCabin_kept (k : Nat) (p : Part) :
    TrackKeeps p (exitCabin k p) ∧ (exitCabin k p).doors = p.doors ∧ (exitCabin k p).launch = p.launch := by
  simp only [TrackKeeps, PortKept, exitCabin]
  split <;> simp [joinRoster]

@[simp] theorem takeExit_kept (t : Time) (p : Part) : TrackKeeps p (takeExit t p) := by
  simp only [TrackKeeps, PortKept, takeExit]
  split <;> simp

@[simp] theorem clearPassage_kept (k : Nat) (p : Part) :
    TrackKeeps p (clearPassage k p) ∧ (clearPassage k p).cabins = p.cabins ∧ (clearPassage k p).doors = p.doors ∧
      (clearPassage k p).launch = p.launch ∧ (clearPassage k p).sup = p.sup ∧ (clearPassage k p).work = p.work ∧
      (clearPassage k p).rope = p.rope ∧ (clearPassage k p).calls = p.calls ∧ (clearPassage k p).window = p.window ∧
      (clearPassage k p).sequencer = p.sequencer ∧ (clearPassage k p).grip = p.grip ∧ (clearPassage k p).messages = p.messages ∧
      (clearPassage k p).track.queue = p.track.queue ∧ (clearPassage k p).track.roster = p.track.roster ∧
      (clearPassage k p).track.nextSerial = p.track.nextSerial ∧ (clearPassage k p).track.matcher = p.track.matcher ∧
      (clearPassage k p).track.holdOverflow = p.track.holdOverflow ∧
      (clearPassage k p).track.trackOverflow = p.track.trackOverflow := by
  simp only [TrackKeeps, PortKept, clearPassage]
  split <;> simp

theorem withPassage_kept {f : PassageNote → Part → Part} (h : ∀ n p, TrackKeeps p (f n p)) (k : Nat) (p : Part) :
    TrackKeeps p (withPassage k f p) := by
  unfold withPassage
  split
  · exact .refl p
  · exact (clearPassage_kept k p).1.trans (h _ _)

/-! ### The orders to the Track Monitor -/

@[simp] theorem joinRoster_kept (k : Nat) (p : Part) :
    TrackKeeps p (joinRoster k p) ∧ (joinRoster k p).doors = p.doors ∧ (joinRoster k p).launch = p.launch ∧
      (joinRoster k p).sup = p.sup ∧ (joinRoster k p).work = p.work ∧ (joinRoster k p).calls = p.calls ∧
      (joinRoster k p).window = p.window := by
  simp [TrackKeeps, PortKept, joinRoster]

/-- A list order's work on the roster and the records. -/
abbrev ListKeeps (p q : Part) : Prop :=
  TrackKeeps p q ∧ q.window = p.window ∧ q.rope = p.rope ∧ q.grip = p.grip ∧ q.launch = p.launch ∧ q.doors = p.doors ∧
    q.sequencer = p.sequencer ∧ q.sup = p.sup ∧ q.messages = p.messages ∧ q.calls = p.calls ∧ q.work = p.work

theorem ListKeeps.trans {p q r : Part} (h : ListKeeps p q) (g : ListKeeps q r) : ListKeeps p r := by
  simp only [ListKeeps, TrackKeeps, PortKept] at *
  simp only [g, h, and_self]

theorem ListKeeps.refl (p : Part) : ListKeeps p p := by simp [ListKeeps, TrackKeeps, PortKept]

theorem ListKeeps.foldl {α : Type} {f : Part → α → Part} (h : ∀ p a, ListKeeps p (f p a)) (l : List α) (p : Part) :
    ListKeeps p (l.foldl f p) := by
  induction l generalizing p with
  | nil => exact .refl p
  | cons a l ih => exact (h p a).trans (ih _)

theorem setPlace_list (k : Nat) (pl : Place) (p : Part) : ListKeeps p (setPlace k pl p) := by
  simp [ListKeeps, TrackKeeps, PortKept]

theorem joinRoster_list (k : Nat) (p : Part) : ListKeeps p (joinRoster k p) := by
  simp [ListKeeps, TrackKeeps, PortKept, joinRoster]

@[simp] theorem emptyRoster_kept (l : List Nat) (p : Part) : ListKeeps p (emptyRoster l p) := by
  have cleared : ListKeeps p (setRoster [] p) := by simp [ListKeeps, TrackKeeps, PortKept]
  exact cleared.trans (.foldl (fun p (e : RosterEntry) => setPlace_list e.cabin .unknown p) _ _)

@[simp] theorem loadRoster_kept (b : Bool) (l : List Nat) (p : Part) : ListKeeps p (loadRoster b l p) := by
  have start : ListKeeps p (if b then p else emptyRoster l p) := by
    split
    · exact .refl p
    · exact emptyRoster_kept l p
  exact start.trans (.foldl (fun p k => joinRoster_list k p) _ _)

@[simp] theorem setPlaces_kept (l : List QueueEntry) (p : Part) :
    ListKeeps p (l.foldl (fun p e => setPlace e.cabin .unknown p) p) :=
  .foldl (fun p (e : QueueEntry) => setPlace_list e.cabin .unknown p) l p

@[simp] theorem sequencerLoad_doors (old : List QueueEntry) (l : List Nat) (p : Part) :
    (sequencerLoad old l p).doors = p.doors := by
  have ended (q : Part) : (old.foldl (fun p e => endUnlocked e.cabin p) q).doors = q.doors :=
    List.foldlRecOn (motive := fun (r : Part) => r.doors = q.doors) old _ rfl fun (r : Part) hr e _ => (endUnlocked_kept e.cabin r).2.1.trans hr
  have unknown (q : Part) : (l.foldl (fun p k => setDoor k .unknown p) q).doors = q.doors :=
    List.foldlRecOn (motive := fun (r : Part) => r.doors = q.doors) l _ rfl fun r hr k _ => (setDoor_doors k .unknown r).trans hr
  unfold sequencerLoad
  dsimp only
  rw [unknown, ended]
  simp

@[simp] theorem loadQueue_kept (l : List (Nat × Nat)) (p : Part) :
    TrackKeeps p (loadQueue l p) ∧ (loadQueue l p).launch = p.launch ∧ (loadQueue l p).doors = p.doors := by
  have gone (l : List QueueEntry) (q : Part) := setPlaces_kept l q
  have placed (l : List Nat) (q : Part) := ListKeeps.foldl (f := fun p k => setPlace k .inStation p)
    (fun p k => setPlace_list k .inStation p) l q
  simp only [ListKeeps, TrackKeeps, PortKept] at gone placed
  simp [TrackKeeps, PortKept, loadQueue, gone, placed]

end Sys2Proof.Machine

namespace Sys2Proof.Machine

/-! ### What the commands do: their effects, one for each block's step, and the rule by which a step keeps what they keep -/

/-- An order answered at once does this to the part, before the event ends. -/
def orderEffect (i : SlotNo) (body : Slot → Part → Reply) (p : Part) : Part :=
  let r := body (slotOf p i) (takeHead i p)
  answer i r.result r.detail r.part

/-- A long-running order does this to the part, before the event ends. -/
def heldEffect (i : SlotNo) (body : Slot → Part → Part) (p : Part) : Part :=
  if Config.longOrdersMax ≤ longOrdersHeld p.window then answer i .noCapacity 0 (takeHead i p)
  else body (slotOf p i) (takeHead i p)

/-- The orders answered at once (section 11.4). -/
inductive OrderBody : (Slot → Part → Reply) → Prop where
  | cabinRegister : OrderBody orderCabinRegister
  | cabinUnregister : OrderBody orderCabinUnregister
  | cabinPlace : OrderBody orderCabinPlace
  | cabinSetService : OrderBody orderCabinSetService
  | cabinIdentify : OrderBody orderCabinIdentify
  | rosterLoad : OrderBody orderRosterLoad
  | stationQueueLoad : OrderBody orderStationQueueLoad
  | sensorConfigure : OrderBody orderSensorConfigure
  | doorConfigure : OrderBody orderDoorConfigure
  | doorHalt : OrderBody orderDoorHalt
  | doorResetFault : OrderBody orderDoorResetFault
  | startBudgetSet : OrderBody orderStartBudgetSet
  | doorProgramLoad : OrderBody orderDoorProgramLoad
  | cabinDoorConfirm : OrderBody orderCabinDoorConfirm
  | stationPrepare : OrderBody orderStationPrepare
  | stationStart : OrderBody orderStationStart
  | stationStop : OrderBody orderStationStop
  | stationFastStop : OrderBody orderStationFastStop
  | stationOff : OrderBody orderStationOff
  | causeAcknowledge : OrderBody orderCauseAcknowledge
  | profileWrite : OrderBody orderProfileWrite
  | profileSwitch : OrderBody orderProfileSwitch
  | lineConfigure : OrderBody orderLineConfigure
  | lineDormant : OrderBody orderLineDormant
  | lineSetIndications : OrderBody orderLineSetIndications
  | callClear : OrderBody orderCallClear
  | callConfigure : OrderBody orderCallConfigure

/-- The long-running orders (R193). -/
inductive HeldBody (i : SlotNo) : (Slot → Part → Part) → Prop where
  | doorMove : HeldBody i (orderDoorMove i)
  | lineStart : HeldBody i (orderLineStart i)
  | lineProbe : HeldBody i (orderLineProbe i)
  | messageSend : HeldBody i (orderMessageSend i)
  | callPlace : HeldBody i (orderCallPlace i)

/-- What a host write does at one octet (R188). -/
inductive WriteEffect : (Part → Part) → Prop where
  | state (i : SlotNo) (b : Byte) : WriteEffect (writeStateOctet i b)
  | slot (i : SlotNo) (j : Nat) (b : Byte) : WriteEffect (modSlot i (putSlot j b))
  | receive (r : Fin 4) (b : Byte) : WriteEffect (writeReceiveState r b)
  | enable (on : Bool) : WriteEffect (setAttnEnable on)
  | clear (bits : Half) : WriteEffect (clearAttention bits)
  | mask (bits : Half) : WriteEffect (setMask bits)
  | nothing : WriteEffect id

/-- What a command does that acts by an event, before the event ends. -/
inductive Effect : (Part → Part) → Prop where
  | order (i : SlotNo) {body : Slot → Part → Reply} (h : OrderBody body) : Effect (orderEffect i body)
  | held (i : SlotNo) {body : Slot → Part → Part} (h : HeldBody i body) : Effect (heldEffect i body)
  | unknownKind (i : SlotNo) : Effect (fun p => answer i .unknownKind 0 (takeHead i p))
  | write {f : Part → Part} (h : WriteEffect f) : Effect f
  | sample (x : SampleInputs) : Effect (sampleStep x)
  | frame (mic0 mic1 : List Byte) : Effect (frameStep mic0 mic1)
  | second : Effect secondStep
  | callSecond (v : VoiceNo) : Effect (callSecond v)
  | tag (report : Option Nat) : Effect (tagArrives report)
  | arrival : Effect (withPassage 1 (fun n => d1Arrives n.time))
  | passage (k : Nat) : Effect (withPassage k (takePassage k))
  | exit : Effect (withPassage 7 (fun n => takeExit n.time))
  | switch (i : Fin 8) : Effect (switchChange i)
  | retainer : Effect retainerChange
  | hook (v : VoiceNo) : Effect (hookChange v)
  | door (n : ChannelNo) (x : ChannelInputs) : Effect (channelStep n x)
  | scan (a : ScanAnswers) : Effect (scanTick a)
  | answer (frame : Option SummitFrame) : Effect (takeAnswer frame)
  | burst (bits : BitVec 32) : Effect (hearBits bits)
  | reportExpiry : Effect (setMatcher .empty)
  | passageExpiry : Effect endWait
  | pulseOver : Effect (modLaunch (fun l => { l with retain := false }))
  | releaseOver : Effect releaseTimesOut
  | closingOver : Effect closingEnds
  | grantWindow : Effect callArbiter
  | actionDue : Effect (judgeSequencer true)
  | startFailed : Effect (report .startFailed 0 .service false)
  | graceOver : Effect graceEnds
  | standstill : Effect declareStandstill
  | probe : Effect (sendProbe false)
  | listen : Effect listenEnds
  | attempt : Effect attemptFails
  | backoff : Effect enterProbing
  | sleep : Effect sleepEnds
  | noAnswer (v : VoiceNo) : Effect (noAnswer v)
  | guard (v : VoiceNo) : Effect (callToIdle v)
  | cadence (v : VoiceNo) : Effect (cadenceStep v)
  | millisecond : Effect countMillisecond

/-- The command acts by an event with one of the effects. -/
def ActsByEvent (c : Instr) : Prop := ∃ g f, Effect f ∧ ∀ s, exec c s = occurs g f s

theorem actsByEvent_of {c : Instr} {g : Part → Bool} {f : Part → Part} (hf : Effect f) (h : ∀ s, exec c s = occurs g f s) :
    ActsByEvent c := ⟨g, f, hf, h⟩

/-- Every command acts by an event but the resets, the host's reads and the general host write. -/
theorem exec_cases (c : Instr) : ActsByEvent c ∨ c = .softReset ∨ c = .softResetDone ∨ c = .powerOnReset ∨
    (∃ a, c = .latchedLowRead a) ∨ (∃ a, c = .latchedHighRead a) ∨ ∃ a d lo hi, c = .hostWrite a d lo hi := by
  cases c with
  | softReset | softResetDone | powerOnReset | latchedLowRead | latchedHighRead | hostWrite => simp
  | cabinRegister i => exact .inl (actsByEvent_of (.order i .cabinRegister) fun _ => rfl)
  | cabinUnregister i => exact .inl (actsByEvent_of (.order i .cabinUnregister) fun _ => rfl)
  | cabinPlace i => exact .inl (actsByEvent_of (.order i .cabinPlace) fun _ => rfl)
  | cabinSetService i => exact .inl (actsByEvent_of (.order i .cabinSetService) fun _ => rfl)
  | cabinIdentify i => exact .inl (actsByEvent_of (.order i .cabinIdentify) fun _ => rfl)
  | rosterLoad i => exact .inl (actsByEvent_of (.order i .rosterLoad) fun _ => rfl)
  | stationQueueLoad i => exact .inl (actsByEvent_of (.order i .stationQueueLoad) fun _ => rfl)
  | sensorConfigure i => exact .inl (actsByEvent_of (.order i .sensorConfigure) fun _ => rfl)
  | doorConfigure i => exact .inl (actsByEvent_of (.order i .doorConfigure) fun _ => rfl)
  | doorMove i => exact .inl (actsByEvent_of (.held i .doorMove) fun _ => rfl)
  | doorHalt i => exact .inl (actsByEvent_of (.order i .doorHalt) fun _ => rfl)
  | doorResetFault i => exact .inl (actsByEvent_of (.order i .doorResetFault) fun _ => rfl)
  | startBudgetSet i => exact .inl (actsByEvent_of (.order i .startBudgetSet) fun _ => rfl)
  | doorProgramLoad i => exact .inl (actsByEvent_of (.order i .doorProgramLoad) fun _ => rfl)
  | cabinDoorConfirm i => exact .inl (actsByEvent_of (.order i .cabinDoorConfirm) fun _ => rfl)
  | stationPrepare i => exact .inl (actsByEvent_of (.order i .stationPrepare) fun _ => rfl)
  | stationStart i => exact .inl (actsByEvent_of (.order i .stationStart) fun _ => rfl)
  | stationStop i => exact .inl (actsByEvent_of (.order i .stationStop) fun _ => rfl)
  | stationFastStop i => exact .inl (actsByEvent_of (.order i .stationFastStop) fun _ => rfl)
  | stationOff i => exact .inl (actsByEvent_of (.order i .stationOff) fun _ => rfl)
  | causeAcknowledge i => exact .inl (actsByEvent_of (.order i .causeAcknowledge) fun _ => rfl)
  | profileWrite i => exact .inl (actsByEvent_of (.order i .profileWrite) fun _ => rfl)
  | profileSwitch i => exact .inl (actsByEvent_of (.order i .profileSwitch) fun _ => rfl)
  | lineConfigure i => exact .inl (actsByEvent_of (.order i .lineConfigure) fun _ => rfl)
  | lineStart i => exact .inl (actsByEvent_of (.held i .lineStart) fun _ => rfl)
  | lineProbe i => exact .inl (actsByEvent_of (.held i .lineProbe) fun _ => rfl)
  | lineDormant i => exact .inl (actsByEvent_of (.order i .lineDormant) fun _ => rfl)
  | lineSetIndications i => exact .inl (actsByEvent_of (.order i .lineSetIndications) fun _ => rfl)
  | messageSend i => exact .inl (actsByEvent_of (.held i .messageSend) fun _ => rfl)
  | callPlace i => exact .inl (actsByEvent_of (.held i .callPlace) fun _ => rfl)
  | callClear i => exact .inl (actsByEvent_of (.order i .callClear) fun _ => rfl)
  | callConfigure i => exact .inl (actsByEvent_of (.order i .callConfigure) fun _ => rfl)
  | unknownKind i => exact .inl (actsByEvent_of (.unknownKind i) fun _ => rfl)
  | orderWithdraw i => exact .inl (actsByEvent_of (g := fun _ => true) (.write (.state i 3)) fun _ => rfl)
  | orderSlotFree i => exact .inl (actsByEvent_of (g := fun _ => true) (.write (.state i 0)) fun _ => rfl)
  | receiveSlotEmpty r => exact .inl (actsByEvent_of (g := fun _ => true) (.write (.receive r 0)) fun _ => rfl)
  | attnEnable on => exact .inl (actsByEvent_of (g := fun _ => true) (.write (.enable on)) fun _ => rfl)
  | attentionClear bits => exact .inl (actsByEvent_of (g := fun _ => true) (.write (.clear bits)) fun _ => rfl)
  | attentionMask bits => exact .inl (actsByEvent_of (g := fun _ => true) (.write (.mask bits)) fun _ => rfl)
  | sampleTick x | standstill x | encoderFaulted x | encoderReturned x | rollback x | overspeed x =>
    exact .inl (actsByEvent_of (.sample x) fun _ => rfl)
  | frameTick a b => exact .inl (actsByEvent_of (.frame a b) fun _ => rfl)
  | secondTick => exact .inl (actsByEvent_of .second fun _ => rfl)
  | callDurationSecond v => exact .inl (actsByEvent_of (.callSecond v) fun _ => rfl)
  | tagReport r => exact .inl (actsByEvent_of (g := fun _ => true) (.tag r) fun _ => rfl)
  | d1Passage => exact .inl (actsByEvent_of .arrival fun _ => rfl)
  | stationPassage k => exact .inl (actsByEvent_of (.passage k) fun _ => rfl)
  | exitPassage => exact .inl (actsByEvent_of .exit fun _ => rfl)
  | switchChange i => exact .inl (actsByEvent_of (.switch i) fun _ => rfl)
  | retclosedChange => exact .inl (actsByEvent_of .retainer fun _ => rfl)
  | hookEvent v => exact .inl (actsByEvent_of (.hook v) fun _ => rfl)
  | doorChannelStep n x | lockTimeout n x | travelTimeout n x | reopenDwellEnd n x | obstruction n x =>
    exact .inl (actsByEvent_of (.door n x) fun _ => rfl)
  | converterScan a | converterFault a | gripSamplesReached a => exact .inl (actsByEvent_of (.scan a) fun _ => rfl)
  | summitAnswer f | trainingSuccess f | lineLoss f | qualityEvent f | transferRefused f =>
    exact .inl (actsByEvent_of (.answer f) fun _ => rfl)
  | ringingOut v f => exact .inl (actsByEvent_of (.answer f) fun _ => rfl)
  | summitWakeBurst => exact .inl (actsByEvent_of (.burst (burstBits Config.wakeOctet)) fun _ => rfl)
  | answerBurst => exact .inl (actsByEvent_of (.burst (burstBits Config.answerOctet)) fun _ => rfl)
  | tagReportExpiry => exact .inl (actsByEvent_of .reportExpiry fun _ => rfl)
  | tagPassageExpiry => exact .inl (actsByEvent_of .passageExpiry fun _ => rfl)
  | retainPulseTimeout => exact .inl (actsByEvent_of .pulseOver fun _ => rfl)
  | releaseTimeout => exact .inl (actsByEvent_of .releaseOver fun _ => rfl)
  | closingWindowExpiry => exact .inl (actsByEvent_of .closingOver fun _ => rfl)
  | grantWindowExpiry => exact .inl (actsByEvent_of .grantWindow fun _ => rfl)
  | actionDue => exact .inl (actsByEvent_of .actionDue fun _ => rfl)
  | startFailed => exact .inl (actsByEvent_of .startFailed fun _ => rfl)
  | linkGraceExpiry => exact .inl (actsByEvent_of .graceOver fun _ => rfl)
  | standstillByTime => exact .inl (actsByEvent_of .standstill fun _ => rfl)
  | probeInterval => exact .inl (actsByEvent_of .probe fun _ => rfl)
  | probeListenEnd | probesExhausted => exact .inl (actsByEvent_of .listen fun _ => rfl)
  | trainingAttemptFailed => exact .inl (actsByEvent_of .attempt fun _ => rfl)
  | backoffExpiry => exact .inl (actsByEvent_of .backoff fun _ => rfl)
  | sleepIntervalExpiry => exact .inl (actsByEvent_of .sleep fun _ => rfl)
  | noAnswerTimeout v => exact .inl (actsByEvent_of (.noAnswer v) fun _ => rfl)
  | guardExpiry v => exact .inl (actsByEvent_of (.guard v) fun _ => rfl)
  | ringerCadence v => exact .inl (actsByEvent_of (.cadence v) fun _ => rfl)
  | millisecondCount => exact .inl (actsByEvent_of (g := fun _ => true) .millisecond fun _ => rfl)

/-- What a host write does at an octet is one of the write effects, or nothing. -/
theorem writeOctet_effect (off : Nat) (b : Byte) (p : Part) : ∃ f, WriteEffect f ∧ writeOctet off b p = f p := by
  have slotted (i : SlotNo) (j : Nat) : ∃ f, WriteEffect f ∧ writeSlotOctet i j b p = f p := by
    unfold writeSlotOctet
    (repeat' split)
    · exact ⟨_, .state i b, rfl⟩
    · exact ⟨_, .slot i j b, rfl⟩
    · exact ⟨_, .nothing, rfl⟩
  unfold writeOctet
  (repeat' split)
  · exact slotted _ _
  · exact ⟨_, .receive _ b, rfl⟩
  · exact ⟨_, .nothing, rfl⟩
  · exact ⟨_, .enable _, rfl⟩
  · exact ⟨_, .clear _, rfl⟩
  · exact ⟨_, .clear _, rfl⟩
  · exact ⟨_, .mask _, rfl⟩
  · exact ⟨_, .mask _, rfl⟩
  · exact ⟨_, .nothing, rfl⟩

/-- A host write of a half-word keeps what every write effect keeps. -/
theorem writeHalf_relates {R : Part → Part → Prop} (refl : ∀ p, R p p) (trans : ∀ p q r, R p q → R q r → R p r)
    (write : ∀ f, WriteEffect f → ∀ p, R p (f p)) (a : BitVec 13) (d : Half) (lo hi : Bool) (p : Part) :
    R p (writeHalf a d lo hi p) := by
  have octet (off : Nat) (b : Byte) (q : Part) : R q (writeOctet off b q) := by
    obtain ⟨f, hf, heq⟩ := writeOctet_effect off b q
    exact heq ▸ write f hf q
  have upper : R p (if hi then writeOctet (2 * a.toNat + 1) (d.extractLsb' 8 8) p else p) := by
    split
    · exact octet _ _ p
    · exact refl p
  unfold writeHalf
  dsimp only
  split
  · exact trans _ _ _ upper (octet _ _ _)
  · exact upper

/-- The host's reads change the latch at most. -/
theorem hostRead_part (a : BitVec 13) (s : State) :
    ((hostRead a s).part = s.part ∨ ∃ l, (hostRead a s).part = setLatch l s.part) ∧ (hostRead a s).before = s.before := by
  unfold hostRead
  split
  · exact ⟨.inl rfl, rfl⟩
  · split
    · split
      · exact ⟨.inr ⟨_, rfl⟩, rfl⟩
      · exact ⟨.inr ⟨_, rfl⟩, rfl⟩
    · exact ⟨.inr ⟨_, rfl⟩, rfl⟩

/-- What every effect, every host write, the reads and the resets keep, every command keeps. -/
theorem exec_relates {R : Part → Part → Prop} (refl : ∀ p, R p p) (event : ∀ f, Effect f → ∀ p, R p (finish (f p)))
    (write : ∀ a d lo hi p, R p (finish (writeHalf a d lo hi p))) (latch : ∀ l p, R p (setLatch l p))
    (reset : ∀ p q, R p q → R p (refreshPins (afterSoftReset q))) (power : ∀ p, R p {}) {c : Instr} {s t : State}
    (h : exec c s = .next t) : R s.part t.part := by
  have read (a : BitVec 13) : R s.part (hostRead a s).part := by
    obtain ⟨h | ⟨l, h⟩, -⟩ := hostRead_part a s <;> rw [h]
    · exact refl _
    · exact latch l _
  obtain ⟨g, f, hf, heq⟩ | rfl | rfl | rfl | ⟨a, rfl⟩ | ⟨a, rfl⟩ | ⟨a, d, lo, hi, rfl⟩ := exec_cases c
  · rw [heq] at h
    obtain ⟨rfl, -⟩ | ⟨-, -, rfl⟩ := occurs_cases h
    · exact refl _
    · exact event f hf _
  · obtain rfl := Host.Outcome.next.inj h
    split
    · exact refl _
    · exact reset _ _ (refl _)
  · obtain rfl := Host.Outcome.next.inj h
    exact refl _
  · obtain rfl := Host.Outcome.next.inj h
    exact power _
  · obtain rfl := Host.Outcome.next.inj h
    exact read a
  · obtain rfl := Host.Outcome.next.inj h
    exact read a
  · obtain rfl := Host.Outcome.next.inj h
    unfold hostWrite
    split
    · exact refl _
    · dsimp only
      split
      · exact reset _ _ (write a d lo hi _)
      · exact write a d lo hi _

/-- A step runs a command or idles. -/
theorem step_relates {R : Part → Part → Prop} (refl : ∀ p, R p p) (event : ∀ f, Effect f → ∀ p, R p (finish (f p)))
    (write : ∀ a d lo hi p, R p (finish (writeHalf a d lo hi p))) (latch : ∀ l p, R p (setLatch l p))
    (reset : ∀ p q, R p q → R p (refreshPins (afterSoftReset q))) (power : ∀ p, R p {}) {s t : State}
    (h : step s = .next t) : R s.part t.part := by
  unfold step at h
  split at h
  · obtain rfl := Host.Outcome.next.inj h
    exact refl _
  next c rest _ => exact exec_relates (s := { s with pending := rest }) refl event write latch reset power h

/-! ### A step runs the front command, and every command answers -/

/-- Settles O1. -/
theorem stepRunsTheFrontCommand : Obligations.StepRunsTheFrontCommand :=
  ⟨fun c rest s h => by simp [step, h], fun s h => by simp [step, h]⟩

theorem hostRead_pending (a : BitVec 13) (s : State) : (hostRead a s).pending = s.pending := by
  unfold hostRead
  (repeat' split) <;> rfl

theorem hostWrite_pending (a : BitVec 13) (d : Half) (lo hi : Bool) (s : State) : (hostWrite a d lo hi s).pending = s.pending := by
  unfold hostWrite
  dsimp only
  (repeat' split) <;> rfl

/-- Settles O2: an event answers a next state (`occurs_next`), and so do the resets, the reads and the host write. -/
theorem everyCommandAnswersNext : Obligations.EveryCommandAnswersNext := by
  intro c s
  obtain ⟨g, f, -, heq⟩ | rfl | rfl | rfl | ⟨a, rfl⟩ | ⟨a, rfl⟩ | ⟨a, d, lo, hi, rfl⟩ := exec_cases c
  · obtain ⟨t, hrun, -, -, -, hpending⟩ := occurs_next g f s
    exact ⟨t, (heq s).trans hrun, hpending⟩
  · exact ⟨_, rfl, by split <;> rfl⟩
  · exact ⟨_, rfl, rfl⟩
  · exact ⟨_, rfl, rfl⟩
  · exact ⟨_, rfl, hostRead_pending a s⟩
  · exact ⟨_, rfl, hostRead_pending a s⟩
  · exact ⟨_, rfl, hostWrite_pending a d lo hi s⟩

/-! ### Every step keeps the outputs in step -/

/-- The pins and tones of the part after a software reset follow its state. -/
theorem afterSoftReset_steady (p : Part) : Steady (refreshPins (afterSoftReset p)) := by
  refine ⟨rfl, refreshPins_pins _, fun v => ?_⟩
  match v with
  | 0 => rfl
  | 1 => rfl

theorem default_steady : Steady ({} : Part) := by
  refine ⟨rfl, ⟨rfl, rfl, rfl⟩, fun v => ?_⟩
  match v with
  | 0 => rfl
  | 1 => rfl

/-- Settles O4: the end of every event leaves the part steady (`finish_steady`), the resets do, and the reads touch only the latch. -/
theorem everyStepKeepsOutputsSteady : Obligations.EveryStepKeepsOutputsSteady := fun _ _ hsteady hstep =>
  step_relates (R := fun p q => Steady p → Steady q) (fun _ h => h) (fun _ _ _ _ => finish_steady _)
    (fun _ _ _ _ _ _ => finish_steady _) (fun _ _ h => h) (fun _ q _ _ => afterSoftReset_steady q)
    (fun _ _ => default_steady) hstep hsteady

end Sys2Proof.Machine

namespace Sys2Proof.Machine

/-! ### Withdraws and samples -/

@[simp] theorem withdrawMove_kept (i : SlotNo) (p : Part) : DoorKeeps p (withdrawMove i p) := by
  simp only [DoorKeeps, PortKept, withdrawMove]
  split <;> simp

@[simp] theorem withdrawStart_kept (i : SlotNo) (p : Part) : LineKeeps p (withdrawStart i p) := by
  simp only [LineKeeps, PortKept, withdrawStart]
  split <;> simp

@[simp] theorem withdrawCall_kept (i : SlotNo) (p : Part) : CallKeeps p (withdrawCall i p) := by
  simp only [CallKeeps, PortKept, withdrawCall]
  split <;> simp

/-- A withdraw told to the block that holds the order leaves the clock, the lists, the sensors, the grip test, Launch Control and what the
arbiter has granted. -/
abbrev WithdrawKeeps (p q : Part) : Prop :=
  q.clock = p.clock ∧ mapTable CabinRecord.listing q.cabins = mapTable CabinRecord.listing p.cabins ∧
    q.track = p.track ∧ q.sensors = p.sensors ∧ q.grip = p.grip ∧ q.launch = p.launch ∧
    q.doors.history = p.doors.history ∧ q.doors.budget = p.doors.budget ∧ q.doors.window = p.doors.window ∧
    q.doors.grants = p.doors.grants ∧ q.sequencer.program = p.sequencer.program ∧ q.sequencer.actions = p.sequencer.actions ∧
    PortKept p q

@[simp] theorem tellWithdraw_kept (i : SlotNo) (p : Part) : WithdrawKeeps p (tellWithdraw i p) := by
  simp only [WithdrawKeeps, PortKept, tellWithdraw]
  (repeat' split) <;> simp

@[simp] theorem writeStateOctet_kept (i : SlotNo) (b : Byte) (p : Part) :
    (writeStateOctet i b p).clock = p.clock ∧
      mapTable CabinRecord.listing (writeStateOctet i b p).cabins = mapTable CabinRecord.listing p.cabins ∧ (writeStateOctet i b p).track = p.track ∧
      (writeStateOctet i b p).sensors = p.sensors ∧ (writeStateOctet i b p).grip = p.grip ∧
      (writeStateOctet i b p).launch = p.launch ∧ (writeStateOctet i b p).doors.history = p.doors.history ∧
      (writeStateOctet i b p).doors.budget = p.doors.budget ∧ (writeStateOctet i b p).doors.window = p.doors.window := by
  unfold writeStateOctet
  (repeat' split) <;> simp [setSlotState, joinIntake, leaveIntake]

/-- The sampling of detectors, switches, RETCLOSED and hooks leaves all but the inputs. -/
theorem sampleDetectors_part (x : SampleInputs) (p : Part) :
    sampleDetectors x p = { p with track := { p.track with detectors := (sampleDetectors x p).track.detectors } } := by
  have folded (f : Fin 7 → Detector → Detector) (l : List (Fin 7)) (q : Part) :
      l.foldl (fun p i => modTrack (fun t => { t with detectors := modTable t.detectors i (f i) }) p) q =
        { q with track := { q.track with detectors :=
          (l.foldl (fun p i => modTrack (fun t => { t with detectors := modTable t.detectors i (f i) }) p) q).track.detectors } } := by
    induction l generalizing q with
    | nil => rfl
    | cons i l ih => rw [List.foldl_cons, ih]; rfl
  exact folded (fun i => sampleDetector p.clock.now p.sensors.lockSense.high (x.detectors.getLsbD i.val)) (List.finRange 7) p

theorem sampleSwitches_part (x : SampleInputs) (p : Part) :
    sampleSwitches x p = { p with sensors := (sampleSwitches x p).sensors } := by
  have folded (f : Fin 8 → Switch → Switch) (l : List (Fin 8)) (q : Part) :
      l.foldl (fun p i => modSwitch i (f i) p) q = { q with sensors := (l.foldl (fun p i => modSwitch i (f i) p) q).sensors } := by
    induction l generalizing q with
    | nil => rfl
    | cons i l ih => rw [List.foldl_cons, ih]; rfl
  exact folded _ _ _

@[simp] theorem sampleDetectors_kept (x : SampleInputs) (p : Part) :
    (sampleDetectors x p).window = p.window ∧ (sampleDetectors x p).clock = p.clock ∧ (sampleDetectors x p).cabins = p.cabins ∧
      (sampleDetectors x p).rope = p.rope ∧ (sampleDetectors x p).sensors = p.sensors ∧ (sampleDetectors x p).grip = p.grip ∧
      (sampleDetectors x p).launch = p.launch ∧ (sampleDetectors x p).doors = p.doors ∧
      (sampleDetectors x p).sequencer = p.sequencer ∧ (sampleDetectors x p).sup = p.sup ∧ (sampleDetectors x p).line = p.line ∧
      (sampleDetectors x p).messages = p.messages ∧ (sampleDetectors x p).calls = p.calls ∧ (sampleDetectors x p).work = p.work ∧
      (sampleDetectors x p).track.queue = p.track.queue ∧ (sampleDetectors x p).track.nextSerial = p.track.nextSerial ∧
      (sampleDetectors x p).track.roster = p.track.roster ∧ (sampleDetectors x p).track.matcher = p.track.matcher ∧
      (sampleDetectors x p).track.holdOverflow = p.track.holdOverflow ∧
      (sampleDetectors x p).track.trackOverflow = p.track.trackOverflow := by
  and_intros <;> rw [sampleDetectors_part]

@[simp] theorem sampleSwitches_kept (x : SampleInputs) (p : Part) :
    (sampleSwitches x p).window = p.window ∧ (sampleSwitches x p).clock = p.clock ∧ (sampleSwitches x p).track = p.track ∧
      (sampleSwitches x p).cabins = p.cabins ∧ (sampleSwitches x p).rope = p.rope ∧ (sampleSwitches x p).grip = p.grip ∧
      (sampleSwitches x p).launch = p.launch ∧ (sampleSwitches x p).doors = p.doors ∧
      (sampleSwitches x p).sequencer = p.sequencer ∧ (sampleSwitches x p).sup = p.sup ∧ (sampleSwitches x p).line = p.line ∧
      (sampleSwitches x p).messages = p.messages ∧ (sampleSwitches x p).calls = p.calls ∧ (sampleSwitches x p).work = p.work := by
  and_intros <;> rw [sampleSwitches_part]

/-- The part of a sample before its rope is measured: the tick noted, the drive word sent, the inputs debounced (R199, log entry 64). -/
def sampledInputs (x : SampleInputs) (p : Part) : Part :=
  sampleOthers x (sampleDetectors x (sampleSwitches x (sendDriveWord (modClock (fun c => { c with sampleTaken := true }) p))))

theorem sampleStep_eq (x : SampleInputs) (p : Part) : sampleStep x p = ropeTick x.enc1 x.enc2 (sampledInputs x p) := rfl

@[simp] theorem sampledInputs_kept (x : SampleInputs) (p : Part) :
    (sampledInputs x p).clock = { p.clock with sampleTaken := true } ∧
      (sampledInputs x p).track.queue = p.track.queue ∧ (sampledInputs x p).track.nextSerial = p.track.nextSerial ∧
      (sampledInputs x p).track.roster = p.track.roster ∧ (sampledInputs x p).track.matcher = p.track.matcher ∧
      (sampledInputs x p).track.holdOverflow = p.track.holdOverflow ∧
      (sampledInputs x p).track.trackOverflow = p.track.trackOverflow ∧
      (sampledInputs x p).cabins = p.cabins ∧ (sampledInputs x p).rope = p.rope ∧ (sampledInputs x p).grip = p.grip ∧
      (sampledInputs x p).launch = { p.launch with retInput := p.launch.retInput.sample x.retClosed } ∧
      (sampledInputs x p).doors = p.doors ∧ (sampledInputs x p).sequencer = p.sequencer ∧
      (sampledInputs x p).sup = { p.sup with
        driveWord := some { ceiling := p.sup.ceiling, sequence := p.sup.driveSequence }
        driveSequence := (p.sup.driveSequence + 1) % 4 } ∧
      (sampledInputs x p).line = p.line ∧ (sampledInputs x p).messages = p.messages ∧ (sampledInputs x p).work = p.work ∧
      (sampledInputs x p).window = p.window := by
  simp [sampledInputs, sampleOthers, sendDriveWord, modClock]

/-! ### The grants (R96) -/

/-- The grants given are the same. -/
abbrev HistoryKept (p q : Part) : Prop := q.doors.history = p.doors.history

/-- The grants given and Launch Control are the same. -/
abbrev BodyKept (p q : Part) : Prop := q.doors.history = p.doors.history ∧ q.launch = p.launch

theorem orderBody_kept {body : Slot → Part → Reply} (h : OrderBody body) (x : Slot) (p : Part) :
    BodyKept p (body x p).part := by
  cases h with
  | cabinRegister => simp only [BodyKept, orderCabinRegister, registerCabin]; (repeat' split) <;> simp [refuse, ok]
  | cabinUnregister => simp only [BodyKept, orderCabinUnregister]; (repeat' split) <;> simp [refuse, ok]
  | cabinPlace => simp only [BodyKept, orderCabinPlace]; (repeat' split) <;> simp [refuse, ok]
  | cabinSetService => simp only [BodyKept, orderCabinSetService]; (repeat' split) <;> simp [refuse, ok]
  | cabinIdentify => simp only [BodyKept, orderCabinIdentify, identifyEntry]; (repeat' split) <;> simp [refuse, ok]
  | rosterLoad => simp only [BodyKept, orderRosterLoad]; (repeat' split) <;> simp [refuse, ok]
  | stationQueueLoad => simp only [BodyKept, orderStationQueueLoad]; (repeat' split) <;> simp [refuse, ok]
  | sensorConfigure => simp only [BodyKept, orderSensorConfigure, clampedBy]; (repeat' split) <;> simp [refuse, ok]
  | doorConfigure => simp only [BodyKept, orderDoorConfigure, clampedBy, configureDoor]; (repeat' split) <;> simp [refuse, ok]
  | doorHalt => simp only [BodyKept, orderDoorHalt, haltDoor]; (repeat' split) <;> simp [refuse]
  | doorResetFault => simp only [BodyKept, orderDoorResetFault]; (repeat' split) <;> simp [refuse, ok]
  | startBudgetSet => simp only [BodyKept, orderStartBudgetSet, clampedBy, setBudget]; (repeat' split) <;> simp [ok]
  | doorProgramLoad => simp only [BodyKept, orderDoorProgramLoad, clampedBy]; (repeat' split) <;> simp [refuse, ok]
  | cabinDoorConfirm => simp only [BodyKept, orderCabinDoorConfirm, confirmDoor]; (repeat' split) <;> simp [refuse, ok]
  | stationPrepare => simp only [BodyKept, orderStationPrepare]; (repeat' split) <;> simp [refuse, okDetail]
  | stationStart => simp only [BodyKept, orderStationStart, beginStarting]; (repeat' split) <;> simp [refuse, okDetail]
  | stationStop => simp only [BodyKept, orderStationStop]; (repeat' split) <;> simp [refuse, okDetail]
  | stationFastStop => simp [BodyKept, orderStationFastStop, okDetail]
  | stationOff => simp only [BodyKept, orderStationOff]; (repeat' split) <;> simp [refuse, ok]
  | causeAcknowledge => simp only [BodyKept, orderCauseAcknowledge]; (repeat' split) <;> simp [okDetail]
  | profileWrite => simp only [BodyKept, orderProfileWrite, clampedBy, writeProfile]; (repeat' split) <;> simp [refuse, ok]
  | profileSwitch => simp only [BodyKept, orderProfileSwitch, switchInRun]; (repeat' split) <;> simp [refuse, ok, okDetail]
  | lineConfigure => simp only [BodyKept, orderLineConfigure, clampedBy, configureLine]; (repeat' split) <;> simp [ok]
  | lineDormant => simp only [BodyKept, orderLineDormant]; (repeat' split) <;> simp [refuse, ok]
  | lineSetIndications => simp only [BodyKept, orderLineSetIndications]; (repeat' split) <;> simp [refuse, ok]
  | callClear => simp only [BodyKept, orderCallClear, clearCall]; (repeat' split) <;> simp [refuse, okDetail]
  | callConfigure => simp only [BodyKept, orderCallConfigure, clampedBy]; (repeat' split) <;> simp [ok]

theorem heldBody_kept {i : SlotNo} {body : Slot → Part → Part} (h : HeldBody i body) (x : Slot) (p : Part) :
    BodyKept p (body x p) := by
  cases h with
  | doorMove => simp only [BodyKept, orderDoorMove]; (repeat' split) <;> simp
  | lineStart => simp only [BodyKept, orderLineStart, startLine]; (repeat' split) <;> simp
  | lineProbe => simp only [BodyKept, orderLineProbe]; (repeat' split) <;> simp
  | messageSend => simp only [BodyKept, orderMessageSend]; (repeat' split) <;> simp
  | callPlace => simp only [BodyKept, orderCallPlace]; (repeat' split) <;> simp

theorem writeEffect_kept {f : Part → Part} (h : WriteEffect f) (p : Part) : BodyKept p (f p) := by
  cases h with
  | state i b => simp [BodyKept]
  | receive r b => simp only [BodyKept, writeReceiveState]; split <;> simp
  | _ => exact ⟨rfl, rfl⟩

theorem sampleStep_doors (x : SampleInputs) (p : Part) : (sampleStep x p).doors = p.doors := by
  rw [sampleStep_eq]; simp

theorem effect_history {f : Part → Part} (h : Effect f) (p : Part) : HistoryKept p (f p) := by
  cases h with
  | order i h => exact (orderBody_kept h _ _).1.trans (by simp [takeHead])
  | held i h =>
    unfold heldEffect
    split
    · simp [HistoryKept, takeHead]
    · exact (heldBody_kept h _ _).1.trans (by simp [takeHead])
  | write h => exact (writeEffect_kept h p).1
  | sample x => rw [HistoryKept, sampleStep_doors]
  | frame a b => simp [HistoryKept, frameStep, modClock]
  | second => simp [HistoryKept, secondStep, modClock]
  | arrival => exact (withPassage_kept (fun n q => (d1Arrives_kept n.time q).1) 1 p).2.2.2.1
  | passage k => exact (withPassage_kept (takePassage_kept k) k p).2.2.2.1
  | exit => exact (withPassage_kept (fun n q => takeExit_kept n.time q) 7 p).2.2.2.1
  | hook v => simp only [HistoryKept, hookChange]; split <;> simp
  | _ => simp [HistoryKept, takeHead, graceEnds, declareStandstill, noAnswer, cadenceStep, countMillisecond, modClock, callSecond, closingEnds]

/-- The grants after `q` as R96 bounds them, against those of `p`. -/
def GrantsWithin (p q : Part) : Prop :=
  (q.doors.history ≠ p.doors.history → grantsCounted q.doors q.clock.now ≤ q.doors.budget) ∧
    (∀ g ∈ q.doors.history, g ∈ p.doors.history ∨ g.time = q.clock.now) ∧
    (p.doors.history.length ≤ 8 → q.doors.history.length ≤ 8)

theorem grantsWithin_of_history {p q : Part} (h : q.doors.history = p.doors.history) : GrantsWithin p q :=
  ⟨fun hne => absurd h hne, fun _ hg => .inl (h ▸ hg), fun hlen => h ▸ hlen⟩

theorem grantsWithin_of_empty {p q : Part} (h : q.doors.history = []) : GrantsWithin p q := by
  simp [GrantsWithin, h, grantsCounted]

/-- The time and the budget are the same. -/
def BudgetKept (p q : Part) : Prop := q.clock = p.clock ∧ q.doors.budget = p.doors.budget ∧ q.doors.window = p.doors.window

theorem GrantsWithin.trans {p q r : Part} (h : GrantsWithin p q) (hb : BudgetKept q r) (g : GrantsWithin q r) : GrantsWithin p r := by
  obtain ⟨hcount, htime, hlen⟩ := h
  obtain ⟨gcount, gtime, glen⟩ := g
  obtain ⟨hclock, hbudget, hwindow⟩ := hb
  refine ⟨fun hne => ?count, fun x hx => ?time, fun hp => glen (hlen hp)⟩
  case count =>
    by_cases heq : r.doors.history = q.doors.history
    · have hq := hcount (heq ▸ hne)
      rwa [grantsCounted, heq, hclock, hbudget, hwindow]
    · exact gcount heq
  case time =>
    obtain hq | hq := gtime x hx
    · exact hclock ▸ htime x hq
    · exact .inr hq

/-- Of the grants counted, the newest is one and the rest were counted before. -/
theorem grantsCounted_recordGrant_le (r : Requester) (now : Time) (d : Doors) :
    grantsCounted (recordGrant r now d) now ≤ grantsCounted d now + 1 := by
  calc grantsCounted (recordGrant r now d) now
      ≤ ({ time := now, requester := r } :: d.history).countP (fun g => elapsed now g.time < d.window) :=
        (List.take_sublist 8 _).countP_le
    _ ≤ grantsCounted d now + 1 := by
        rw [List.countP_cons]
        exact Nat.add_le_add_left (by split <;> omega) _

theorem handGrant_kept (r : Requester) (p : Part) : BudgetKept p (handGrant r p) ∧ HistoryKept p (handGrant r p) := by
  cases r <;> simp [BudgetKept, HistoryKept, handGrant]

/-- A grant is given only while the budget has room (R96). -/
theorem judgeArbiter_grants (p : Part) : GrantsWithin p (judgeArbiter p) ∧ BudgetKept p (judgeArbiter p) := by
  unfold judgeArbiter
  split
  · exact ⟨grantsWithin_of_history rfl, rfl, rfl, rfl⟩
  next r rest hqueue =>
    split
    next hroom =>
      obtain ⟨⟨hclock, hbudget, hwindow⟩, hhistory⟩ :=
        handGrant_kept r { p with doors := recordGrant r p.clock.now { p.doors with queue := rest } }
      have hroom : grantsCounted p.doors p.clock.now < p.doors.budget := by simpa [budgetRoom] using hroom
      refine ⟨⟨fun _ => ?count, fun g hg => ?time, fun _ => ?length⟩, hclock, hbudget, hwindow⟩
      case count =>
        have hle := grantsCounted_recordGrant_le r p.clock.now { p.doors with queue := rest }
        simp only [grantsCounted, callArbiter_doors, callArbiter_clock, hhistory, hclock, hbudget, hwindow] at hle hroom ⊢
        exact hle.trans hroom
      case time =>
        rw [callArbiter_doors, hhistory] at hg
        obtain rfl | hg := List.mem_cons.mp (List.mem_of_mem_take hg)
        · exact .inr (by rw [callArbiter_clock, hclock])
        · exact .inl hg
      case length =>
        rw [callArbiter_doors, hhistory]
        exact List.length_take_le 8 _
    next => exact ⟨grantsWithin_of_history rfl, rfl, rfl, rfl⟩

theorem settleOnce_grants (p : Part) : GrantsWithin p (settleOnce p) ∧ BudgetKept p (settleOnce p) := by
  unfold settleOnce
  split
  · exact ⟨grantsWithin_of_history (by simp), by simp [BudgetKept]⟩
  · split
    · exact judgeArbiter_grants { p with work := { p.work with arbiter := false } }
    · split
      · exact ⟨grantsWithin_of_history (by simp), by simp [BudgetKept]⟩
      · exact ⟨grantsWithin_of_history rfl, rfl, rfl, rfl⟩

theorem settle_grants (n : Nat) (p : Part) : GrantsWithin p (settle n p) := by
  refine (settle_keeps (P := fun q => GrantsWithin p q) (fun q h => ?_) (fun q h => ?_) n (grantsWithin_of_history rfl))
  · obtain ⟨hgrants, hbudget⟩ := settleOnce_grants q
    exact h.trans hbudget hgrants
  · exact h.trans (by simp [BudgetKept]) (grantsWithin_of_history (by simp))

/-- The end of an event grants within the budget in force. -/
theorem finish_grants {p q : Part} (h : HistoryKept p q) : GrantsWithin p (finish q) := by
  have settled := settle_grants 64 q
  simp only [HistoryKept] at h
  rw [GrantsWithin, h] at settled
  simpa [GrantsWithin, finish] using settled

/-- Settles O10: no effect of a command gives a grant; the arbiter does, one at a time, while the budget has room. -/
theorem grantsStayWithinTheBudget : Obligations.GrantsStayWithinTheBudget := fun _ _ hstep =>
  step_relates (R := GrantsWithin) (fun _ => grantsWithin_of_history rfl) (fun _ h p => finish_grants (effect_history h p))
    (fun a d lo hi p => finish_grants (writeHalf_relates (R := HistoryKept) (fun _ => rfl) (fun _ _ _ h g => g.trans h)
      (fun _ h q => (writeEffect_kept h q).1) a d lo hi p))
    (fun _ _ => grantsWithin_of_history rfl)
    (fun _ _ _ => grantsWithin_of_empty rfl) (fun _ => grantsWithin_of_empty rfl) hstep

end Sys2Proof.Machine

namespace Sys2Proof.Machine

/-! ### The agreement of the lists and the records (R2, R8, R9) -/

/-- A table that keeps what is read of each record keeps it for each number. -/
theorem cabin_listing {p q : Part} (h : mapTable CabinRecord.listing q.cabins = mapTable CabinRecord.listing p.cabins) (k : Nat) :
    (cabin q k).listing = (cabin p k).listing := by
  unfold cabin
  split
  · have entry := congrArg (fun t => t.get ⟨k - 1, by omega⟩) h
    rwa [mapTable_get, mapTable_get] at entry
  · rfl

/-- The agreement reads of the part the serials and the numbers of the queue, the numbers of the roster, and the records' listings. -/
abbrev ListsKept (p q : Part) : Prop :=
  mapTable CabinRecord.listing q.cabins = mapTable CabinRecord.listing p.cabins ∧
    q.track.queue.map (fun e => (e.serial, e.cabin)) = p.track.queue.map (fun e => (e.serial, e.cabin)) ∧
    q.track.nextSerial = p.track.nextSerial ∧ rosterNumbers q = rosterNumbers p

theorem TrackAgrees.of_kept {p q : Part} (h : TrackAgrees p) (kept : ListsKept p q) : TrackAgrees q := by
  obtain ⟨hcabins, hqueue, hnext, hroster⟩ := kept
  have record (k : Nat) := cabin_listing hcabins k
  simp only [CabinRecord.listing, Prod.mk.injEq] at record
  have numbers : queueNumbers q = queueNumbers p := by
    simpa [queueNumbers, Function.comp_def] using congrArg (fun l => (l.map Prod.snd).filter (fun k => k != 0)) hqueue
  have serials : q.track.queue.map (fun e => e.serial) = p.track.queue.map (fun e => e.serial) := by
    simpa [Function.comp_def] using congrArg (fun l => l.map Prod.fst) hqueue
  have length : q.track.queue.length = p.track.queue.length := by simpa using congrArg List.length hqueue
  constructor
  case queueLength => exact length ▸ h.queueLength
  case queueOnce => exact numbers ▸ h.queueOnce
  case rosterOnce => exact hroster ▸ h.rosterOnce
  case numbers => rw [numbers, hroster]; exact h.numbers
  case inStation => intro k; rw [(record k).2.2.1, numbers]; exact h.inStation k
  case onLine => intro k; rw [(record k).2.2.1, hroster]; exact h.onLine k
  case registered => intro k; rw [(record k).1, numbers, hroster]; exact h.registered k
  case unregistered =>
    intro k
    obtain ⟨hregistered, hservice, hplace, hmark⟩ := record k
    rw [hregistered, hservice, hplace, hmark]
    exact h.unregistered k
  case serialsOnce => exact serials ▸ h.serialsOnce
  case serialsBelow =>
    have below : ∀ n ∈ p.track.queue.map (fun e => e.serial), n < q.track.nextSerial := by
      rw [hnext, List.forall_mem_map]; exact h.serialsBelow
    rwa [← serials, List.forall_mem_map] at below

/-- A change of one record that lists nothing and unlists nothing. -/
theorem TrackAgrees.modCabin {p : Part} (h : TrackAgrees p) (k : Nat) (f : CabinRecord → CabinRecord)
    (hf : ∀ c, cabin p k = c → ((f c).place = .inStation ↔ c.place = .inStation) ∧ ((f c).place = .onLine ↔ c.place = .onLine) ∧
      (c.registered = true → (f c).registered = false → c.place ≠ .inStation ∧ c.place ≠ .onLine) ∧
      ((f c).registered = false → (f c).place = .unknown ∧ (f c).inService = false ∧ (f c).mark = .none)) :
    TrackAgrees (modCabin k f p) := by
  by_cases hk : isCabin k = true
  case neg =>
    have same : Sys2Proof.Machine.modCabin k f p = p := by
      rw [Machine.modCabin, dif_neg (by simpa [isCabin] using hk)]
    rwa [same]
  have hrange : 1 ≤ k ∧ k ≤ 128 := by simpa [isCabin] using hk
  have record (j : Nat) : cabin (Machine.modCabin k f p) j = if j = k then f (cabin p k) else cabin p j := by
    split
    next e => rw [e, cabin_modCabin_same k f p hk]
    next e => exact cabin_modCabin_ne k j f p e
  obtain ⟨hstation, hline, hunlisted, hfresh⟩ := hf _ rfl
  have queue : queueNumbers (Machine.modCabin k f p) = queueNumbers p := by simp [queueNumbers]
  have roster : rosterNumbers (Machine.modCabin k f p) = rosterNumbers p := by simp [rosterNumbers]
  constructor
  case queueLength => simpa using h.queueLength
  case queueOnce => exact queue ▸ h.queueOnce
  case rosterOnce => exact roster ▸ h.rosterOnce
  case numbers => rw [queue, roster]; exact h.numbers
  case inStation =>
    intro j hj1 hj2
    rw [queue, record, ← h.inStation j hj1 hj2]
    split
    next e => rw [e]; exact hstation
    next => rfl
  case onLine =>
    intro j hj1 hj2
    rw [roster, record, ← h.onLine j hj1 hj2]
    split
    next e => rw [e]; exact hline
    next => rfl
  case registered =>
    intro j hj
    rw [queue, roster] at hj
    rw [record]
    split
    next e =>
      subst e
      by_contra hne
      obtain ⟨hnotStation, hnotLine⟩ := hunlisted (h.registered j hj) (Bool.not_eq_true _ ▸ hne)
      obtain hq | hr := List.mem_append.mp hj
      · exact hnotStation ((h.inStation j hrange.1 hrange.2).mpr hq)
      · exact hnotLine ((h.onLine j hrange.1 hrange.2).mpr hr)
    next => exact h.registered j hj
  case unregistered =>
    intro j
    rw [record]
    split
    next => exact hfresh
    next => exact h.unregistered j
  case serialsOnce => simpa using h.serialsOnce
  case serialsBelow => simpa using h.serialsBelow

end Sys2Proof.Machine

namespace Sys2Proof.Machine

/-! ### The lists after a change -/

theorem isCabin_iff (k : Nat) : isCabin k = true ↔ 1 ≤ k ∧ k ≤ 128 := by simp [isCabin]

theorem cabin_setPlace (k : Nat) (pl : Place) (p : Part) (j : Nat) :
    cabin (setPlace k pl p) j = if j = k ∧ isCabin k = true then { cabin p j with place := pl } else cabin p j := by
  by_cases hk : isCabin k = true
  · by_cases hj : j = k
    · subst hj
      simp [setPlace, cabin_modCabin_same j _ p hk, hk]
    · simp [setPlace, cabin_modCabin_ne k j _ p hj, hj]
  · have same : setPlace k pl p = p := by rw [setPlace, modCabin, dif_neg (by simpa [isCabin] using hk)]
    simp [same, hk]

@[simp] theorem rosterNumbers_setRoster (l : List RosterEntry) (p : Part) :
    rosterNumbers (setRoster l p) = l.map (fun e => e.cabin) := rfl

@[simp] theorem queueNumbers_setRoster (l : List RosterEntry) (p : Part) : queueNumbers (setRoster l p) = queueNumbers p := rfl

@[simp] theorem rosterNumbers_setPlace (k : Nat) (pl : Place) (p : Part) : rosterNumbers (setPlace k pl p) = rosterNumbers p := by
  simp [rosterNumbers]

@[simp] theorem queueNumbers_setPlace (k : Nat) (pl : Place) (p : Part) : queueNumbers (setPlace k pl p) = queueNumbers p := by
  simp [queueNumbers]

theorem rosterNumbers_leaveRoster (n : Nat) (p : Part) :
    rosterNumbers (leaveRoster n p) = (rosterNumbers p).filter (fun k => k != n) := by
  simp [rosterNumbers, leaveRoster, List.filter_map, Function.comp_def]

@[simp] theorem queueNumbers_leaveRoster (n : Nat) (p : Part) : queueNumbers (leaveRoster n p) = queueNumbers p := rfl

theorem queueNumbers_appendArrival (k : Nat) (t : Time) (p : Part) :
    queueNumbers (appendArrival k t p) = queueNumbers p ++ if k = 0 then [] else [k] := by
  simp [queueNumbers, appendArrival, List.filter_cons]

@[simp] theorem rosterNumbers_appendArrival (k : Nat) (t : Time) (p : Part) :
    rosterNumbers (appendArrival k t p) = rosterNumbers p := by simp [rosterNumbers, appendArrival]

theorem cabin_appendArrival (k : Nat) (t : Time) (p : Part) (j : Nat) :
    cabin (appendArrival k t p) j = if j = k ∧ isCabin k = true then { cabin p j with place := .inStation } else cabin p j :=
  cabin_setPlace k _ _ j

theorem mem_rosterNumbers (p : Part) (k : Nat) : k ∈ rosterNumbers p ↔ onRoster p k = true := by
  simp [rosterNumbers, onRoster]

theorem mem_queueNumbers (p : Part) (k : Nat) : k ∈ queueNumbers p ↔ k ≠ 0 ∧ inQueue p k = true := by
  simp [queueNumbers, inQueue, and_comm]

/-- The agreement after a change of the lists that lists only numbers listed before, or registered cabins, and places the records so. -/
theorem TrackAgrees.relist {p q : Part} (h : TrackAgrees p) (length : q.track.queue.length ≤ 15)
    (queueOnce : (queueNumbers q).Nodup) (rosterOnce : (rosterNumbers q).Nodup)
    (serialsOnce : (q.track.queue.map (fun e => e.serial)).Nodup) (serialsBelow : ∀ e ∈ q.track.queue, e.serial < q.track.nextSerial)
    (listed : ∀ k ∈ queueNumbers q ++ rosterNumbers q, k ∈ queueNumbers p ++ rosterNumbers p ∨
      isCabin k = true ∧ (cabin p k).registered = true)
    (flags : ∀ k, (cabin q k).registered = (cabin p k).registered ∧ (cabin q k).inService = (cabin p k).inService ∧
      ((cabin p k).registered = false → (cabin q k).place = (cabin p k).place ∧ (cabin q k).mark = (cabin p k).mark))
    (places : ∀ k, isCabin k = true → ((cabin q k).place = .inStation ↔ k ∈ queueNumbers q) ∧
      ((cabin q k).place = .onLine ↔ k ∈ rosterNumbers q)) : TrackAgrees q where
  queueLength := length
  queueOnce := queueOnce
  rosterOnce := rosterOnce
  numbers := fun k hk => (listed k hk).elim (h.numbers k) fun hnew => (isCabin_iff k).mp hnew.1
  inStation := fun k h1 h2 => (places k ((isCabin_iff k).mpr ⟨h1, h2⟩)).1
  onLine := fun k h1 h2 => (places k ((isCabin_iff k).mpr ⟨h1, h2⟩)).2
  registered := fun k hk => by
    rw [(flags k).1]
    exact (listed k hk).elim (h.registered k) And.right
  unregistered := fun k hk => by
    obtain ⟨hregistered, hservice, hkept⟩ := flags k
    rw [hregistered] at hk
    obtain ⟨hplace, hmark⟩ := hkept hk
    rw [hservice, hplace, hmark]
    exact h.unregistered k hk
  serialsOnce := serialsOnce
  serialsBelow := serialsBelow

/-- No number stands in both lists. -/
theorem TrackAgrees.not_mem_roster {p : Part} (h : TrackAgrees p) {k : Nat} (hk : k ∈ queueNumbers p) : k ∉ rosterNumbers p := by
  intro hr
  obtain ⟨h1, h2⟩ := h.numbers k (List.mem_append_left _ hk)
  have station := (h.inStation k h1 h2).mpr hk
  rw [(h.onLine k h1 h2).mpr hr] at station
  exact nomatch station

/-- An identified cabin stands in the roster. -/
theorem identified_mem {p : Part} {rep : Option Nat} {n : Nat} (h : identified p rep = some n) : n ∈ rosterNumbers p := by
  unfold identified at h
  split at h
  next m =>
    split at h
    next hon =>
      obtain rfl := Option.some.inj h
      exact (mem_rosterNumbers p m).mpr hon
    next => exact nomatch h
  next =>
    obtain ⟨e, he, rfl⟩ := Option.map_eq_some_iff.mp h
    exact List.mem_map_of_mem (List.mem_of_mem_head? he)

theorem TrackAgrees.of_sup {p q : Part} (h : TrackAgrees p) (kept : SupKeeps p q) : TrackAgrees q := by
  obtain ⟨-, htrack, hcabins, -⟩ := kept
  exact h.of_kept ⟨by rw [hcabins], by rw [htrack], by rw [htrack], by rw [rosterNumbers, htrack, rosterNumbers]⟩

/-- An arrival at a full queue leaves the roster, its place unknown (R15). -/
theorem agrees_leave {p : Part} (h : TrackAgrees p) {n : Nat} (hn : n ∈ rosterNumbers p) :
    TrackAgrees (setPlace n .unknown (leaveRoster n p)) := by
  obtain ⟨h1, h2⟩ := h.numbers n (List.mem_append_right _ hn)
  have hcabin : isCabin n = true := (isCabin_iff n).mpr ⟨h1, h2⟩
  have record (k : Nat) : cabin (setPlace n .unknown (leaveRoster n p)) k =
      if k = n then { cabin p k with place := .unknown } else cabin p k := by
    rw [cabin_setPlace]; simp [hcabin, cabin_of_cabins_eq (leaveRoster_kept n p).2.1]
  have registered := h.registered n (List.mem_append_right _ hn)
  refine h.relist (by simpa [leaveRoster] using h.queueLength) (by simpa using h.queueOnce) ?_
    (by simpa [leaveRoster] using h.serialsOnce) (by simpa [leaveRoster] using h.serialsBelow) ?_ ?_ ?_
  · rw [rosterNumbers_setPlace, rosterNumbers_leaveRoster]
    exact h.rosterOnce.filter _
  · intro k hk
    simp only [queueNumbers_setPlace, queueNumbers_leaveRoster, rosterNumbers_setPlace, rosterNumbers_leaveRoster, List.mem_append,
      List.mem_filter] at hk ⊢
    exact .inl (hk.imp_right And.left)
  · intro k
    rw [record]
    split
    next e => subst e; simp [registered]
    next => simp
  · intro k hk
    obtain ⟨k1, k2⟩ := (isCabin_iff k).mp hk
    rw [record, queueNumbers_setPlace, queueNumbers_leaveRoster, rosterNumbers_setPlace, rosterNumbers_leaveRoster]
    split
    next e =>
      subst e
      have := fun hq => h.not_mem_roster hq hn
      simpa using this
    next e => simp [e, h.inStation k k1 k2, h.onLine k k1 k2]

theorem agrees_modTrack {p : Part} (h : TrackAgrees p) (f : Track → Track) (hqueue : (f p.track).queue = p.track.queue)
    (hroster : (f p.track).roster = p.track.roster) (hnext : (f p.track).nextSerial = p.track.nextSerial) :
    TrackAgrees (modTrack f p) :=
  h.of_kept ⟨rfl, by simp [hqueue], by simp [hnext], by simp [rosterNumbers, hroster]⟩

theorem agrees_refuseArrival {p : Part} (h : TrackAgrees p) (rep : Option Nat) : TrackAgrees (refuseArrival rep p) := by
  unfold refuseArrival
  dsimp only
  have left : TrackAgrees (match identified p rep with
      | none => p
      | some n => setPlace n .unknown (leaveRoster n p)) := by
    split
    · exact h
    next n hn => exact agrees_leave h (identified_mem hn)
  exact (agrees_modTrack left (fun t => { t with trackOverflow := true }) rfl rfl rfl).of_sup (reportTrack_kept _ _ _ _ _)

/-- A new entry joins the tail, its cabin out of the roster and in the station (R14). -/
theorem agrees_arrive {p : Part} (h : TrackAgrees p) (hroom : p.track.queue.length < 15) (k : Nat) (t : Time)
    (hk : k = 0 ∨ k ∈ rosterNumbers p) : TrackAgrees (appendArrival k t (if k = 0 then p else leaveRoster k p)) := by
  have hcabin : k ≠ 0 → isCabin k = true := fun hne =>
    (isCabin_iff k).mpr (h.numbers k (List.mem_append_right _ (hk.resolve_left hne)))
  have record (j : Nat) : cabin (appendArrival k t (if k = 0 then p else leaveRoster k p)) j =
      if j = k ∧ isCabin k = true then { cabin p j with place := .inStation } else cabin p j := by
    have same : (if k = 0 then p else leaveRoster k p).cabins = p.cabins := by split <;> simp
    rw [cabin_appendArrival, cabin_of_cabins_eq same]
  have queue : queueNumbers (appendArrival k t (if k = 0 then p else leaveRoster k p)) =
      queueNumbers p ++ if k = 0 then [] else [k] := by
    rw [queueNumbers_appendArrival]; split <;> rfl
  have roster : rosterNumbers (appendArrival k t (if k = 0 then p else leaveRoster k p)) =
      if k = 0 then rosterNumbers p else (rosterNumbers p).filter (fun j => j != k) := by
    rw [rosterNumbers_appendArrival]
    split
    · rfl
    · exact rosterNumbers_leaveRoster k p
  have track : (appendArrival k t (if k = 0 then p else leaveRoster k p)).track.queue =
        p.track.queue ++ [{ serial := p.track.nextSerial, cabin := k, segment := 1, entered := t }] ∧
      (appendArrival k t (if k = 0 then p else leaveRoster k p)).track.nextSerial = p.track.nextSerial + 1 := by
    split <;> simp [appendArrival, leaveRoster]
  have hout : ∀ j ∈ queueNumbers p, j ≠ k := by
    rintro j hj rfl
    obtain rfl | hr := hk
    · exact absurd (h.numbers 0 (List.mem_append_left _ hj)).1 (by omega)
    · exact h.not_mem_roster hj hr
  refine h.relist (by rw [track.1]; simpa using hroom) ?_ ?_ ?_ ?_ ?_ ?_ ?_
  · rw [queue]
    split
    · simpa using h.queueOnce
    · exact h.queueOnce.append (List.nodup_singleton k) (by simpa [List.disjoint_singleton] using fun hj => hout k hj rfl)
  · rw [roster]
    split
    · exact h.rosterOnce
    · exact h.rosterOnce.filter _
  · rw [track.1, List.map_append]
    refine h.serialsOnce.append (List.nodup_singleton _) ?_
    simp only [List.map_cons, List.map_nil, List.disjoint_singleton, List.mem_map, not_exists, not_and]
    exact fun e he => (h.serialsBelow e he).ne
  · rw [track.1, track.2]
    intro e he
    obtain he | he := List.mem_append.mp he
    · exact (h.serialsBelow e he).trans (Nat.lt_succ_self _)
    · rw [List.mem_singleton.mp he]; exact Nat.lt_succ_self _
  · rw [queue, roster]
    intro j hj
    left
    grind
  · intro j
    rw [record]
    split
    next e =>
      obtain ⟨rfl, hj⟩ := e
      have hne : j ≠ 0 := by rintro rfl; exact absurd hj (by decide)
      simp [h.registered j (List.mem_append_right _ (hk.resolve_left hne))]
    next => simp
  · intro j hj
    obtain ⟨h1, h2⟩ := (isCabin_iff j).mp hj
    have station := h.inStation j h1 h2
    have line := h.onLine j h1 h2
    rw [record, queue, roster]
    grind

end Sys2Proof.Machine

namespace Sys2Proof.Machine

theorem map_serial_cabin {l m : List QueueEntry} (h : m.map QueueEntry.listing = l.map QueueEntry.listing) :
    m.map (fun e => (e.serial, e.cabin)) = l.map (fun e => (e.serial, e.cabin)) := by
  simpa [QueueEntry.listing, Function.comp_def] using congrArg (fun l => l.map (fun x => (x.1, x.2.1))) h

theorem TrackAgrees.of_passage {p q : Part} (h : TrackAgrees p) (kept : PassageKeeps p q) : TrackAgrees q := by
  obtain ⟨-, hcabins, hqueue, hroster, -, -, hnext, -⟩ := kept
  exact h.of_kept ⟨hcabins, map_serial_cabin hqueue, hnext, by rw [rosterNumbers, hroster, rosterNumbers]⟩

theorem agrees_attend {p : Part} (h : TrackAgrees p) (a : Attn) : TrackAgrees (attend a p) := h.of_kept ⟨rfl, rfl, rfl, rfl⟩

/-! ### The passages and the arrivals -/

theorem agrees_decideArrival {p : Part} (h : TrackAgrees p) (rep : Option Nat) (t : Time) : TrackAgrees (decideArrival rep t p) := by
  unfold decideArrival
  split
  · exact agrees_refuseArrival h rep
  next hroom =>
    have hroom : p.track.queue.length < 15 := Nat.not_le.mp hroom
    have arrived : TrackAgrees (appendArrival ((identified p rep).getD 0) t (match identified p rep with
        | none => p
        | some n => leaveRoster n p)) := by
      cases hid : identified p rep with
      | none => exact agrees_arrive h hroom 0 t (.inl rfl)
      | some n =>
        have hmem := identified_mem hid
        have hne : n ≠ 0 := by
          rintro rfl; exact absurd (h.numbers 0 (List.mem_append_right _ hmem)).1 (by omega)
        simpa [hne] using agrees_arrive h hroom n t (.inr hmem)
    have positioned (b : Bool) {q : Part} (hq : TrackAgrees q) : TrackAgrees (if b then attend .track q else q) := by
      split
      · exact agrees_attend hq .track
      · exact hq
    have faulted (b : Bool) {q : Part} (hq : TrackAgrees q) :
        TrackAgrees (if b then reportTrack .sequenceFault 1 .service false q else q) := by
      split
      · exact hq.of_sup (reportTrack_kept _ _ _ _ _)
      · exact hq
    dsimp only
    refine TrackAgrees.of_passage ?_ (sequencerPassage_kept _ _)
    exact faulted _ (positioned _ arrived)

theorem agrees_setMatcher {p : Part} (h : TrackAgrees p) (m : TagMatcher) : TrackAgrees (setMatcher m p) :=
  agrees_modTrack h _ rfl rfl rfl

theorem agrees_tagArrives {p : Part} (h : TrackAgrees p) (rep : Option Nat) : TrackAgrees (tagArrives rep p) := by
  unfold tagArrives
  split
  · exact agrees_decideArrival (agrees_setMatcher h _) _ _
  · exact agrees_setMatcher h _

theorem agrees_d1Arrives {p : Part} (h : TrackAgrees p) (t : Time) : TrackAgrees (d1Arrives t p) := by
  unfold d1Arrives
  split
  · exact agrees_setMatcher h _
  · exact agrees_decideArrival (agrees_setMatcher h _) _ _
  · exact agrees_setMatcher (agrees_decideArrival h _ _) _

theorem agrees_endWait {p : Part} (h : TrackAgrees p) : TrackAgrees (endWait p) := by
  unfold endWait
  split
  · exact agrees_decideArrival (agrees_setMatcher h _) _ _
  · exact h

theorem TrackAgrees.of_launch {p q : Part} (h : TrackAgrees p) (kept : LaunchKeeps p q) : TrackAgrees q := by
  obtain ⟨-, hcabins, htrack, -⟩ := kept
  exact h.of_kept ⟨hcabins, by rw [htrack], by rw [htrack], by rw [rosterNumbers, htrack, rosterNumbers]⟩

theorem TrackAgrees.of_grip {p q : Part} (h : TrackAgrees p) (kept : GripKeeps p q) : TrackAgrees q := by
  obtain ⟨-, hcabins, htrack, -⟩ := kept
  exact h.of_kept ⟨hcabins, by rw [htrack], by rw [htrack], by rw [rosterNumbers, htrack, rosterNumbers]⟩

theorem agrees_restartGap {p : Part} (h : TrackAgrees p) : TrackAgrees (restartGap p) := h.of_kept ⟨rfl, rfl, rfl, rfl⟩

theorem agrees_phantomPassage {p : Part} (h : TrackAgrees p) (k : Nat) (t : Time) : TrackAgrees (phantomPassage k t p) := by
  unfold phantomPassage
  have reported := h.of_sup (reportTrack_kept .sequenceFault k .service false p)
  dsimp only
  split
  · exact (agrees_restartGap reported).of_launch (retainerPassage_kept _ _ _).1
  · exact reported

theorem agrees_moveEntry {p : Part} (h : TrackAgrees p) (n k : Nat) (t : Time) : TrackAgrees (moveEntry n k t p) := by
  refine h.of_kept ⟨by simp, ?_, by simp [moveEntry], by simp [moveEntry, rosterNumbers]⟩
  simp only [moveEntry, modEntry_track, List.map_map]
  refine List.map_congr_left fun e _ => ?_
  simp only [Function.comp_apply]
  split <;> rfl

theorem agrees_recountHold {p : Part} (h : TrackAgrees p) (b : Bool) : TrackAgrees (recountHold b p) :=
  h.of_kept (by simp [ListsKept, rosterNumbers])

theorem agrees_recountQueue {p : Part} (h : TrackAgrees p) : TrackAgrees (recountQueue p) :=
  h.of_kept (by simp [ListsKept, rosterNumbers])

theorem agrees_handPassage {p : Part} (h : TrackAgrees p) (k : Nat) (e : QueueEntry) (n : PassageNote) :
    TrackAgrees (handPassage k e n p) := by
  unfold handPassage
  refine TrackAgrees.of_passage ?_ (sequencerPassage_kept _ _)
  have released : TrackAgrees (if k == 5 then retainerPassage (some e.cabin) n.time (restartGap p) else p) := by
    split
    · exact (agrees_restartGap h).of_launch (retainerPassage_kept _ _ _).1
    · exact h
  split
  · exact released.of_grip (openGrip_kept _ _ _)
  · exact released

theorem agrees_takePassage {p : Part} (h : TrackAgrees p) (k : Nat) (n : PassageNote) : TrackAgrees (takePassage k n p) := by
  have waited : TrackAgrees (if k == 2 then endWait p else p) := by
    split
    · exact agrees_endWait h
    · exact h
  rw [takePassage]
  generalize (if k == 2 then endWait p else p) = q at waited
  split
  · exact agrees_phantomPassage waited _ _
  · exact agrees_handPassage (agrees_recountHold (agrees_moveEntry waited _ _ _) _) _ _ _

theorem agrees_clearPassage {p : Part} (h : TrackAgrees p) (k : Nat) : TrackAgrees (clearPassage k p) :=
  h.of_kept (by simp [ListsKept, rosterNumbers])

theorem agrees_withPassage {f : PassageNote → Part → Part} (hf : ∀ n q, TrackAgrees q → TrackAgrees (f n q)) {p : Part}
    (h : TrackAgrees p) (k : Nat) : TrackAgrees (withPassage k f p) := by
  unfold withPassage
  split
  · exact h
  · exact hf _ _ (agrees_clearPassage h k)

/-! ### The exit (R4) -/

theorem rosterNumbers_joinRoster (k : Nat) (p : Part) : rosterNumbers (joinRoster k p) = rosterNumbers p ++ [k] := by
  simp [rosterNumbers, joinRoster]

theorem queueNumbers_joinRoster (k : Nat) (p : Part) : queueNumbers (joinRoster k p) = queueNumbers p := by
  simp [queueNumbers, joinRoster]

theorem cabin_joinRoster (k : Nat) (p : Part) (j : Nat) :
    cabin (joinRoster k p) j =
      if j = k ∧ isCabin k = true then { cabin p j with place := .onLine, mark := .none } else cabin p j := by
  by_cases hk : isCabin k = true
  · by_cases hj : j = k
    · subst hj
      simp [joinRoster, cabin_modCabin_same j _ _ hk, hk, cabin_of_cabins_eq (setRoster_cabins _ p)]
    · simp [joinRoster, cabin_modCabin_ne k j _ _ hj, hj, cabin_of_cabins_eq (setRoster_cabins _ p)]
  · have same (f : CabinRecord → CabinRecord) (q : Part) : modCabin k f q = q := by
      rw [modCabin, dif_neg (by simpa [isCabin] using hk)]
    simp [joinRoster, same, hk, cabin_of_cabins_eq (setRoster_cabins _ p)]

theorem removeEntry_queue (n : Nat) (p : Part) : (removeEntry n p).track.queue = p.track.queue.filter (fun e => e.serial != n) := rfl

/-- In a list that names no number twice, taking out one entry takes out its number. -/
theorem mem_filter_serial {l : List QueueEntry} (serials : (l.map (fun e => e.serial)).Nodup) {e : QueueEntry} (he : e ∈ l)
    (x : QueueEntry) : x ∈ l.filter (fun y => y.serial != e.serial) ↔ x ∈ l ∧ x ≠ e := by
  rw [List.mem_filter, bne_iff_ne]
  refine and_congr_right fun hx => not_congr ⟨fun heq => ?_, fun heq => heq ▸ rfl⟩
  exact List.inj_on_of_nodup_map serials hx he heq

theorem queueNumbers_removeEntry (n : Nat) (p : Part) : (queueNumbers (removeEntry n p)).Sublist (queueNumbers p) :=
  ((List.filter_sublist (p := fun e : QueueEntry => e.serial != n)).map _).filter _

theorem mem_queueNumbers_removeEntry {p : Part} (h : TrackAgrees p) {e : QueueEntry} (he : e ∈ p.track.queue) (k : Nat) :
    k ∈ queueNumbers (removeEntry e.serial p) ↔ k ∈ queueNumbers p ∧ k ≠ e.cabin := by
  have once := h.queueOnce
  simp only [queueNumbers, List.mem_filter, List.mem_map, removeEntry_queue, bne_iff_ne] at once ⊢
  constructor
  · rintro ⟨⟨x, ⟨hx, hserial⟩, rfl⟩, hne⟩
    refine ⟨⟨⟨x, hx, rfl⟩, hne⟩, fun heq => hserial ?_⟩
    have nodup : ((p.track.queue.filter (fun e => e.cabin != 0)).map (fun e => e.cabin)).Nodup := by
      simpa [List.filter_map, Function.comp_def] using once
    have hxe : x = e := List.inj_on_of_nodup_map nodup (by simp [hx, hne]) (by simp [he, ← heq, hne]) heq
    rw [hxe]
  · rintro ⟨⟨⟨x, hx, rfl⟩, hne⟩, hcabin⟩
    exact ⟨⟨x, ⟨hx, fun heq => hcabin (by rw [List.inj_on_of_nodup_map h.serialsOnce hx he heq])⟩, rfl⟩, hne⟩

/-- An entry leaves the queue, and its cabin, where it has a number, joins the roster (R4). -/
theorem agrees_exit {p : Part} (h : TrackAgrees p) {e : QueueEntry} (he : e ∈ p.track.queue) :
    TrackAgrees (if isCabin e.cabin then joinRoster e.cabin (removeEntry e.serial p) else removeEntry e.serial p) := by
  have queued : e.cabin ≠ 0 → e.cabin ∈ queueNumbers p := fun hne => by
    simpa [queueNumbers, hne] using ⟨e, he, rfl⟩
  have mem (k : Nat) := mem_queueNumbers_removeEntry h he k
  have common (q : Part) (hqueue : queueNumbers q = queueNumbers (removeEntry e.serial p))
      (htrack : q.track.queue = (removeEntry e.serial p).track.queue) (hnext : q.track.nextSerial = p.track.nextSerial) :
      q.track.queue.length ≤ 15 ∧ (queueNumbers q).Nodup ∧ (q.track.queue.map (fun e => e.serial)).Nodup ∧
        ∀ x ∈ q.track.queue, x.serial < q.track.nextSerial := by
    rw [hqueue, htrack, hnext]
    refine ⟨(List.length_filter_le _ _).trans h.queueLength, (queueNumbers_removeEntry _ p).nodup h.queueOnce,
      (List.filter_sublist.map _).nodup h.serialsOnce, fun x hx => h.serialsBelow x (List.mem_of_mem_filter hx)⟩
  split
  next hk =>
    have hne : e.cabin ≠ 0 := by rintro h0; rw [h0] at hk; exact absurd hk (by decide)
    have hq := queued hne
    obtain ⟨length, once, serials, below⟩ := common _ (queueNumbers_joinRoster e.cabin (removeEntry e.serial p))
      (by simp [joinRoster]) (by simp [joinRoster, removeEntry])
    have roster : rosterNumbers (removeEntry e.serial p) = rosterNumbers p := rfl
    have hout := h.not_mem_roster hq
    have registered := h.registered _ (List.mem_append_left _ hq)
    have record (j : Nat) : cabin (joinRoster e.cabin (removeEntry e.serial p)) j =
        if j = e.cabin then { cabin p j with place := .onLine, mark := .none } else cabin p j := by
      simp [cabin_joinRoster, hk, cabin_of_cabins_eq (removeEntry_cabins e.serial p)]
    refine h.relist length once ?_ serials below ?_ ?_ ?_
    · rw [rosterNumbers_joinRoster, roster]
      exact h.rosterOnce.append (List.nodup_singleton _) (by simpa using hout)
    · rw [queueNumbers_joinRoster, rosterNumbers_joinRoster, roster]
      intro j hj
      left
      simp only [List.mem_append, mem, List.mem_singleton] at hj ⊢
      grind
    · intro j
      rw [record]
      split
      next e1 => subst e1; simp [registered]
      next => simp
    · intro j hj
      obtain ⟨h1, h2⟩ := (isCabin_iff j).mp hj
      have station := h.inStation j h1 h2
      have line := h.onLine j h1 h2
      rw [record, queueNumbers_joinRoster, rosterNumbers_joinRoster, roster, mem]
      simp only [List.mem_append, List.mem_singleton]
      grind
  next hk =>
    have hzero : e.cabin = 0 := by
      by_contra hne
      exact hk ((isCabin_iff _).mpr (h.numbers _ (List.mem_append_left _ (queued hne))))
    obtain ⟨length, once, serials, below⟩ := common (removeEntry e.serial p) rfl rfl rfl
    have mem' (k : Nat) : k ∈ queueNumbers (removeEntry e.serial p) ↔ k ∈ queueNumbers p := by
      rw [mem, hzero]
      exact ⟨And.left, fun hk => ⟨hk, by rintro rfl; exact absurd (h.numbers 0 (List.mem_append_left _ hk)).1 (by omega)⟩⟩
    refine h.relist length once h.rosterOnce serials below ?_ (fun _ => ⟨rfl, rfl, fun _ => ⟨rfl, rfl⟩⟩) ?_
    · intro k hk
      left
      simp only [List.mem_append, mem'] at hk ⊢
      exact hk
    · intro j hj
      obtain ⟨h1, h2⟩ := (isCabin_iff j).mp hj
      rw [mem']
      exact ⟨h.inStation j h1 h2, h.onLine j h1 h2⟩

end Sys2Proof.Machine

namespace Sys2Proof.Machine

/-! ### The exit and the lists that agree -/

theorem mapTable_modTable {α β : Type} {n : Nat} (f : α → β) (g : β → β) (t : Vector α n) (i : Fin n) (h : α → α)
    (hg : ∀ a, f (h a) = g (f a)) : mapTable f (modTable t i h) = modTable (mapTable f t) i g := by
  ext j hj
  have entry : (mapTable f (modTable t i h)).get ⟨j, hj⟩ = (modTable (mapTable f t) i g).get ⟨j, hj⟩ := by
    rw [mapTable_get, modTable_get, modTable_get, mapTable_get]
    split <;> simp [hg]
  simpa only [vector_get_eq] using entry

theorem listing_joinRoster {p q : Part} (h : mapTable CabinRecord.listing q.cabins = mapTable CabinRecord.listing p.cabins) (k : Nat) :
    mapTable CabinRecord.listing (joinRoster k q).cabins = mapTable CabinRecord.listing (joinRoster k p).cabins := by
  unfold joinRoster modCabin
  split
  · rw [mapTable_modTable CabinRecord.listing (fun x => (x.1, x.2.1, .onLine, .none)) _ _ _ fun _ => rfl,
      mapTable_modTable CabinRecord.listing (fun x => (x.1, x.2.1, .onLine, .none)) _ _ _ fun _ => rfl]
    exact congrArg (fun t => modTable t _ _) h
  · exact h

theorem agrees_takeExit {p : Part} (h : TrackAgrees p) (t : Time) : TrackAgrees (takeExit t p) := by
  unfold takeExit
  split
  · exact agrees_phantomPassage h _ _
  next e he =>
    have left := agrees_exit h (List.mem_of_find?_eq_some he)
    have exited : TrackAgrees (exitCabin e.cabin (recountQueue (removeEntry e.serial p))) := by
      unfold exitCabin
      split
      next hk =>
        rw [if_pos hk] at left
        have noted : ListsKept (joinRoster e.cabin (recountQueue (removeEntry e.serial p)))
            (exitNote e.cabin (joinRoster e.cabin (recountQueue (removeEntry e.serial p)))) := by
          simp [ListsKept, rosterNumbers]
        refine TrackAgrees.of_kept ?_ noted
        refine left.of_kept ⟨listing_joinRoster (by simp) _, ?_, ?_, ?_⟩ <;> simp [joinRoster, rosterNumbers, removeEntry]
      next hk =>
        rw [if_neg hk] at left
        exact (agrees_recountQueue left).of_sup (reportTrack_kept _ _ _ _ _)
    exact (exited.of_grip (gripExit_kept _ _)).of_passage (sequencerPassage_kept _ _)

/-! ### The orders to the Track Monitor -/

theorem agrees_registerCabin {p : Part} (h : TrackAgrees p) (k : Nat) (service : Bool) : TrackAgrees (registerCabin k service p) := by
  refine h.modCabin k _ fun c hc => ?_
  cases hr : c.registered
  · obtain ⟨hplace, -⟩ := h.unregistered k (hc ▸ hr)
    rw [hc] at hplace
    simp [hplace]
  · simp

theorem cabin_not_listed {p : Part} {k : Nat} (hl : (cabin p k).listed = false) :
    (cabin p k).place ≠ .inStation ∧ (cabin p k).place ≠ .onLine := by
  simpa [CabinRecord.listed] using hl

theorem agrees_unregister {p : Part} (h : TrackAgrees p) {k : Nat} (hl : (cabin p k).listed = false) :
    TrackAgrees (modCabin k (fun c => { c with registered := false, inService := false, place := .unknown, mark := .none }) p) := by
  refine h.modCabin k _ fun c hc => ?_
  obtain ⟨hstation, hline⟩ := cabin_not_listed hl
  rw [hc] at hstation hline
  simp [hstation, hline]

theorem agrees_setPlace {p : Part} (h : TrackAgrees p) {k : Nat} {pl : Place} (hr : (cabin p k).registered = true)
    (hl : (cabin p k).listed = false) (hpl : pl ≠ .inStation ∧ pl ≠ .onLine) : TrackAgrees (setPlace k pl p) := by
  refine h.modCabin k _ fun c hc => ?_
  obtain ⟨hstation, hline⟩ := cabin_not_listed hl
  rw [hc] at hstation hline hr
  simp [hstation, hline, hr, hpl]

theorem agrees_setService {p : Part} (h : TrackAgrees p) {k : Nat} (hr : (cabin p k).registered = true) (b : Bool) :
    TrackAgrees (modCabin k (fun c => { c with inService := b }) p) := by
  refine h.modCabin k _ fun c hc => ?_
  rw [hc] at hr
  simp [hr]

/-- An entry that no number names takes one, of a registered cabin that neither list holds (R21). -/
theorem agrees_number {p : Part} (h : TrackAgrees p) {e : QueueEntry} (he : e ∈ p.track.queue) (hzero : e.cabin = 0) {k : Nat}
    (hk : isCabin k = true) (hr : (cabin p k).registered = true) (hq : k ∉ queueNumbers p) (hl : k ∉ rosterNumbers p) :
    TrackAgrees (setPlace k .inStation (modEntry e.serial (fun x => { x with cabin := k }) p)) := by
  have hne : k ≠ 0 := by rintro rfl; exact absurd hk (by decide)
  have record (j : Nat) : cabin (setPlace k .inStation (modEntry e.serial (fun x => { x with cabin := k }) p)) j =
      if j = k then { cabin p j with place := .inStation } else cabin p j := by
    simp [cabin_setPlace, hk, cabin_of_cabins_eq (modEntry_cabins e.serial (fun x => { x with cabin := k }) p)]
  obtain ⟨before, after, hsplit⟩ := List.append_of_mem he
  have others : ∀ x ∈ before ++ after, x.serial ≠ e.serial := by
    have once := h.serialsOnce
    rw [hsplit, List.map_append, List.map_cons, List.nodup_middle, List.nodup_cons] at once
    intro x hx heq
    exact once.1 (by rw [← List.map_append, ← heq]; exact List.mem_map_of_mem hx)
  have queue : p.track.queue.map (fun x => if x.serial == e.serial then { x with cabin := k } else x) =
      before ++ { e with cabin := k } :: after := by
    have unchanged (l : List QueueEntry) (hl : ∀ x ∈ l, x.serial ≠ e.serial) :
        l.map (fun x => if x.serial == e.serial then { x with cabin := k } else x) = l := by
      refine (List.map_congr_left fun x hx => ?_).trans (List.map_id l)
      simp [hl x hx]
    rw [hsplit, List.map_append, List.map_cons, unchanged before fun x hx => others x (by simp [hx]),
      unchanged after fun x hx => others x (by simp [hx])]
    simp
  have numbers : queueNumbers (setPlace k .inStation (modEntry e.serial (fun x => { x with cabin := k }) p)) =
      (before.map (fun x => x.cabin)).filter (fun j => j != 0) ++ k :: (after.map (fun x => x.cabin)).filter (fun j => j != 0) := by
    simp only [queueNumbers, setPlace_track, modEntry_track, queue]
    simp [hne]
  have old : queueNumbers p =
      (before.map (fun x => x.cabin)).filter (fun j => j != 0) ++ (after.map (fun x => x.cabin)).filter (fun j => j != 0) := by
    simp [queueNumbers, hsplit, hzero]
  have serials : (before ++ { e with cabin := k } :: after).map (fun x => x.serial) = p.track.queue.map (fun x => x.serial) := by
    simp [hsplit]
  have mem (j : Nat) : j ∈ queueNumbers (setPlace k .inStation (modEntry e.serial (fun x => { x with cabin := k }) p)) ↔
      j = k ∨ j ∈ queueNumbers p := by
    rw [numbers, old]; simp only [List.mem_append, List.mem_cons]; grind
  have track : (setPlace k .inStation (modEntry e.serial (fun x => { x with cabin := k }) p)).track.queue =
      before ++ { e with cabin := k } :: after := by simpa using queue
  have roster : rosterNumbers (setPlace k .inStation (modEntry e.serial (fun x => { x with cabin := k }) p)) = rosterNumbers p := by
    simp [rosterNumbers]
  refine h.relist ?_ ?_ (roster ▸ h.rosterOnce) ?_ ?_ ?_ ?_ ?_
  · have length := h.queueLength
    rw [hsplit] at length
    rw [track]
    simpa using length
  · rw [numbers, List.nodup_middle, List.nodup_cons, ← old]
    exact ⟨hq, h.queueOnce⟩
  · rw [track, serials]; exact h.serialsOnce
  · have below := h.serialsBelow
    rw [track]
    simp only [setPlace_track, modEntry_track]
    rw [hsplit] at below
    grind
  · intro j hj
    rw [roster, List.mem_append, mem] at hj
    rw [List.mem_append]
    grind
  · intro j
    rw [record]
    split
    next e1 => subst e1; simp [hr]
    next => simp
  · intro j hj
    obtain ⟨h1, h2⟩ := (isCabin_iff j).mp hj
    have station := h.inStation j h1 h2
    have line := h.onLine j h1 h2
    rw [record, mem, roster]
    grind

theorem entryAt_mem {p : Part} {n : Nat} {e : QueueEntry} (h : entryAt p n = some e) : e ∈ p.track.queue := by
  unfold entryAt at h
  split at h
  · exact nomatch h
  · exact List.mem_of_getElem? h

theorem agrees_identify {p : Part} (h : TrackAgrees p) (x : Slot) : TrackAgrees (orderCabinIdentify x p).part := by
  unfold orderCabinIdentify
  dsimp only
  split
  · exact h
  next e he =>
    split
    · exact h
    · split
      · exact h
      next hk hfree =>
        simp only [Bool.not_eq_true, Bool.or_eq_true, not_or, bne_iff_ne, ne_eq, not_not, Bool.not_eq_eq_eq_not,
          Bool.not_true] at hk hfree
        obtain ⟨⟨⟨hzero, hr⟩, hq⟩, hl⟩ := hfree
        have numbered := agrees_number h (entryAt_mem he) hzero (k := octet x 1) (by simpa using hk) (by simpa using hr)
          (fun hm => absurd ((mem_queueNumbers p _).mp hm).2 (by simp [hq])) (fun hm => absurd ((mem_rosterNumbers p _).mp hm) (by simp [hl]))
        exact (agrees_attend numbered .track).of_passage (identifyLock_kept _ _ _).1

end Sys2Proof.Machine

namespace Sys2Proof.Machine

/-! ### The checks of a list order (R196, log entry 16) -/

/-- Item `n` of a list fails a check, the items `before` preceding the list. -/
def FailsAt {α : Type} (bad : List α → α → Bool) (before l : List α) (n : Nat) : Prop :=
  ∃ x ∈ l[n]?, bad (before ++ l.take n) x = true

theorem failsAt_cons_zero {α : Type} (bad : List α → α → Bool) (before : List α) (x : α) (t : List α) :
    FailsAt bad before (x :: t) 0 ↔ bad before x = true := by simp [FailsAt]

theorem failsAt_cons_succ {α : Type} (bad : List α → α → Bool) (before : List α) (x : α) (t : List α) (n : Nat) :
    FailsAt bad before (x :: t) (n + 1) ↔ FailsAt bad (before ++ [x]) t n := by simp [FailsAt]

theorem firstFailing_of_firstAt {α : Type} {bad : List α → α → Bool} {before l : List α} {j : Nat}
    (h : FirstAt (FailsAt bad before l) j) (n : Nat) : firstFailing bad before l n = some (n + j) := by
  obtain ⟨hfails, hbefore⟩ := h
  induction l generalizing before n j with
  | nil => simp [FailsAt] at hfails
  | cons x t ih =>
    rw [firstFailing]
    cases j with
    | zero => rw [if_pos ((failsAt_cons_zero bad before x t).mp hfails)]; rfl
    | succ j =>
      have hx : ¬ bad before x = true := fun hx => hbefore 0 (Nat.succ_pos j) ((failsAt_cons_zero bad before x t).mpr hx)
      rw [if_neg hx, ih _ ((failsAt_cons_succ bad before x t j).mp hfails)
        fun m hm hf => hbefore (m + 1) (Nat.succ_lt_succ hm) ((failsAt_cons_succ bad before x t m).mpr hf)]
      congr 1; omega

theorem firstFailing_eq_none_iff {α : Type} {bad : List α → α → Bool} {before l : List α} {n : Nat} :
    firstFailing bad before l n = none ↔ ∀ j, ¬ FailsAt bad before l j := by
  constructor
  · intro h j hj
    classical
    have hfirst : FirstAt (FailsAt bad before l) (Nat.find ⟨j, hj⟩) := ⟨Nat.find_spec ⟨j, hj⟩, fun m hm => Nat.find_min ⟨j, hj⟩ hm⟩
    rw [firstFailing_of_firstAt hfirst] at h
    exact nomatch h
  · intro h
    induction l generalizing before n with
    | nil => rfl
    | cons x t ih =>
      rw [firstFailing, if_neg fun hx => h 0 ((failsAt_cons_zero bad before x t).mpr hx)]
      exact ih fun j hj => h (j + 1) ((failsAt_cons_succ bad before x t j).mpr hj)

/-- A check that looks at no item before. -/
theorem failsAt_alone {α : Type} (bad : α → Bool) (before l : List α) (n : Nat) :
    FailsAt (fun _ x => bad x) before l n ↔ ∃ x ∈ l[n]?, bad x = true := Iff.rfl

theorem forall_not_failsAt_alone {α : Type} (bad : α → Bool) (before l : List α) :
    (∀ n, ¬ FailsAt (fun _ x => bad x) before l n) ↔ ∀ x ∈ l, bad x = false := by
  simp only [failsAt_alone, not_exists, not_and, Bool.not_eq_true]
  constructor
  · intro h x hx
    obtain ⟨n, hn⟩ := List.mem_iff_getElem?.mp hx
    exact h n x hn
  · exact fun h n x hx => h x (List.mem_of_getElem? hx)

theorem nodup_iff_forall_not_mem_take {α : Type} (l : List α) :
    l.Nodup ↔ ∀ n, ¬ ∃ x ∈ l[n]?, x ∈ l.take n := by
  induction l using List.reverseRecOn with
  | nil => simp
  | append_singleton l a ih =>
    rw [List.nodup_append_comm, List.singleton_append, List.nodup_cons, ih]
    constructor
    · rintro ⟨ha, hl⟩ n ⟨x, hx, hmem⟩
      obtain hn | rfl | hn := lt_trichotomy n l.length
      · rw [List.getElem?_append_left hn] at hx
        rw [List.take_append_of_le_length hn.le] at hmem
        exact hl n ⟨x, hx, hmem⟩
      · simp only [List.getElem?_concat_length, Option.mem_def, Option.some.injEq, List.take_left'] at hx hmem
        exact ha (hx ▸ hmem)
      · rw [List.getElem?_eq_none (by simp; omega)] at hx
        exact nomatch hx
    · intro h
      refine ⟨fun ha => h l.length ⟨a, by simp, by simpa using ha⟩, fun n ⟨x, hx, hmem⟩ => h n ⟨x, ?_, ?_⟩⟩
      · obtain ⟨hn, -⟩ := List.getElem?_eq_some_iff.mp hx
        rwa [List.getElem?_append_left hn]
      · rw [List.take_append]; exact List.mem_append_left _ hmem

/-! ### The loads -/

theorem cabin_foldl_setPlace {α : Type} (g : α → Nat) (pl : Place) (l : List α) (p : Part) {k : Nat} (hk : isCabin k = true) :
    cabin (l.foldl (fun p a => setPlace (g a) pl p) p) k =
      if k ∈ l.map g then { cabin p k with place := pl } else cabin p k := by
  induction l generalizing p with
  | nil => simp
  | cons a l ih =>
    rw [List.foldl_cons, ih, cabin_setPlace]
    by_cases ha : k = g a
    · subst ha; simp [hk]
    · simp [ha]

theorem foldl_setPlace_track {α : Type} (g : α → Nat) (pl : Place) (l : List α) (p : Part) :
    (l.foldl (fun p a => setPlace (g a) pl p) p).track = p.track := by
  induction l generalizing p with
  | nil => rfl
  | cons a l ih => rw [List.foldl_cons, ih, setPlace_track]

theorem foldl_joinRoster_track (l : List Nat) (p : Part) :
    (l.foldl (fun p k => joinRoster k p) p).track =
      { p.track with roster := p.track.roster ++ l.map (fun k => { cabin := k, mark := .none, seconds := 0 }) } := by
  induction l generalizing p with
  | nil => simp
  | cons a l ih => rw [List.foldl_cons, ih]; simp [joinRoster]

theorem cabin_foldl_joinRoster (l : List Nat) (p : Part) {k : Nat} (hk : isCabin k = true) :
    cabin (l.foldl (fun p k => joinRoster k p) p) k =
      if k ∈ l then { cabin p k with place := .onLine, mark := .none } else cabin p k := by
  induction l generalizing p with
  | nil => simp
  | cons a l ih =>
    rw [List.foldl_cons, ih, cabin_joinRoster]
    by_cases ha : k = a
    · subst ha; simp [hk]
    · simp [ha]

theorem loadRoster_track (append : Bool) (l : List Nat) (p : Part) :
    (loadRoster append l p).track = { p.track with
      roster := (if append then p.track.roster else []) ++ l.map (fun k => { cabin := k, mark := .none, seconds := 0 }) } := by
  rw [loadRoster, foldl_joinRoster_track]
  cases append
  · simp [emptyRoster, foldl_setPlace_track]
  · simp

theorem cabin_loadRoster (append : Bool) (l : List Nat) (p : Part) {k : Nat} (hk : isCabin k = true) :
    cabin (loadRoster append l p) k =
      if k ∈ l then { cabin p k with place := .onLine, mark := .none }
      else if append = false ∧ onRoster p k = true then { cabin p k with place := .unknown } else cabin p k := by
  have empty : cabin (emptyRoster l p) k =
      if k ∉ l ∧ onRoster p k = true then { cabin p k with place := .unknown } else cabin p k := by
    rw [emptyRoster, cabin_foldl_setPlace _ _ _ _ hk, cabin_of_cabins_eq (setRoster_cabins _ p)]
    congr 1
    simp only [List.mem_map, List.mem_filter, ← mem_rosterNumbers, rosterNumbers, eq_iff_iff, Bool.not_eq_true', List.contains_eq_mem,
      decide_eq_false_iff_not]
    grind
  rw [loadRoster, cabin_foldl_joinRoster _ _ hk]
  cases append
  · simp only [Bool.false_eq_true, if_false, empty, true_and]
    split <;> simp_all
  · simp

/-- A roster loaded with registered cabins that the queue does not hold, each once (R22). -/
theorem agrees_loadRoster {p : Part} (h : TrackAgrees p) {append : Bool} {l : List Nat} (hcabins : ∀ k ∈ l, isCabin k = true)
    (honce : l.Nodup) (hregistered : ∀ k ∈ l, (cabin p k).registered = true) (hqueue : ∀ k ∈ l, inQueue p k = false)
    (hroster : append = true → ∀ k ∈ l, onRoster p k = false) : TrackAgrees (loadRoster append l p) := by
  have track := loadRoster_track append l p
  have queue : queueNumbers (loadRoster append l p) = queueNumbers p := by rw [queueNumbers, track, queueNumbers]
  have roster : rosterNumbers (loadRoster append l p) = (if append then rosterNumbers p else []) ++ l := by
    rw [rosterNumbers, track]
    cases append <;> simp [rosterNumbers, Function.comp_def]
  have onRoster_iff (k : Nat) := mem_rosterNumbers p k
  have inQueue_iff (k : Nat) := mem_queueNumbers p k
  refine h.relist ?_ (queue ▸ h.queueOnce) ?_ ?_ ?_ ?_ ?_ ?_
  · rw [track]; exact h.queueLength
  · rw [roster]
    cases append
    · simpa using honce
    · refine h.rosterOnce.append honce fun k hk hl => ?_
      rw [onRoster_iff, hroster rfl k hl] at hk
      exact nomatch hk
  · rw [track]; exact h.serialsOnce
  · rw [track]; exact h.serialsBelow
  · rw [queue, roster]
    intro k hk
    cases append <;> grind
  · intro k
    by_cases hk : isCabin k = true
    · rw [cabin_loadRoster append l p hk]
      have line := h.onLine k
      have unregistered := h.unregistered k
      have registered := h.registered k
      split
      · next hl => simp [hregistered k hl]
      · split
        · next hr => simp [registered (List.mem_append_right _ ((onRoster_iff k).mpr hr.2))]
        · simp
    · rw [cabin, cabin, dif_neg (by simpa [isCabin] using hk), dif_neg (by simpa [isCabin] using hk)]
      simp
  · intro k hk
    obtain ⟨h1, h2⟩ := (isCabin_iff k).mp hk
    have station := h.inStation k h1 h2
    have line := h.onLine k h1 h2
    have disjoint := h.not_mem_roster (k := k)
    have notQueued := hqueue k
    rw [queue, roster, cabin_loadRoster append l p hk]
    cases append <;> grind

end Sys2Proof.Machine

namespace Sys2Proof.Machine

/-! ### The queue loaded (R23) -/

theorem newEntries_cabin (now : Time) (n : Nat) (l : List (Nat × Nat)) :
    (newEntries now n l).map (fun e => e.cabin) = l.map (fun x => x.1) := by
  induction l generalizing n with
  | nil => rfl
  | cons x t ih => simp [newEntries, ih]

theorem newEntries_serial (now : Time) (n : Nat) (l : List (Nat × Nat)) :
    (newEntries now n l).map (fun e => e.serial) = List.range' n l.length := by
  induction l generalizing n with
  | nil => rfl
  | cons x t ih => simp [newEntries, ih, List.range'_succ]

theorem newEntries_shown (now : Time) (n : Nat) (l : List (Nat × Nat)) :
    (newEntries now n l).map shownEntry = l.map (fun x => (x.1, x.2, now)) := by
  induction l generalizing n with
  | nil => rfl
  | cons x t ih => simp [newEntries, ih, shownEntry]

/-- The queue replaced and its cabins placed, before the Door Sequencer and the counts of the hold section take it. -/
def placeQueue (l : List (Nat × Nat)) (p : Part) : Part :=
  let new := l.map (fun x => x.1)
  let q := (p.track.queue.filter (fun e => !new.contains e.cabin)).foldl (fun p e => setPlace e.cabin .unknown p) p
  let q := setQueue (newEntries q.clock.now p.track.nextSerial l)
    (modTrack (fun t => { t with nextSerial := p.track.nextSerial + l.length, matcher := .empty }) q)
  new.foldl (fun p k => setPlace k .inStation p) q

theorem loadQueue_eq (l : List (Nat × Nat)) (p : Part) :
    loadQueue l p = recountQueue (recountHold false (sequencerLoad p.track.queue (l.map (fun x => x.1)) (placeQueue l p))) := rfl

theorem placeQueue_track (l : List (Nat × Nat)) (p : Part) :
    (placeQueue l p).track = { p.track with
      queue := newEntries p.clock.now p.track.nextSerial l, nextSerial := p.track.nextSerial + l.length, matcher := .empty } := by
  have clock : ∀ m : List QueueEntry, (m.foldl (fun p e => setPlace e.cabin .unknown p) p).clock = p.clock := fun m =>
    (setPlaces_kept m p).1.1
  have placed := foldl_setPlace_track (fun k : Nat => k) .inStation (l.map (fun x => x.1))
  rw [placeQueue, placed, setQueue_track]
  simp [foldl_setPlace_track (fun e : QueueEntry => e.cabin), clock]

theorem cabin_placeQueue (l : List (Nat × Nat)) (p : Part) {k : Nat} (hk : isCabin k = true) :
    cabin (placeQueue l p) k =
      if k ∈ l.map (fun x => x.1) then { cabin p k with place := .inStation }
      else if inQueue p k = true then { cabin p k with place := .unknown } else cabin p k := by
  have hne : k ≠ 0 := by rintro rfl; exact absurd hk (by decide)
  have placed := cabin_foldl_setPlace (fun k : Nat => k) .inStation (l.map (fun x => x.1))
  rw [placeQueue, placed _ hk, List.map_id', cabin_of_cabins_eq (setQueue_cabins _ _), cabin_of_cabins_eq (modTrack_kept _ _).2.1,
    cabin_foldl_setPlace (fun e : QueueEntry => e.cabin) _ _ _ hk]
  have gone : k ∈ (p.track.queue.filter (fun e => !(l.map (fun x => x.1)).contains e.cabin)).map (fun e => e.cabin) ↔
      k ∉ l.map (fun x => x.1) ∧ inQueue p k = true := by
    simp only [inQueue, List.any_eq_true, beq_iff_eq, List.mem_map, List.mem_filter, Bool.not_eq_true', List.contains_eq_mem,
      decide_eq_false_iff_not]
    grind
  simp only [gone]
  split <;> simp_all

theorem queueNumbers_placeQueue (l : List (Nat × Nat)) (p : Part) :
    queueNumbers (placeQueue l p) = (l.map (fun x => x.1)).filter (fun k => k != 0) := by
  rw [queueNumbers, placeQueue_track, newEntries_cabin]

theorem agrees_placeQueue {p : Part} (h : TrackAgrees p) {l : List (Nat × Nat)} (hlen : l.length ≤ 15)
    (hcabins : ∀ x ∈ l, x.1 ≤ 128) (honce : ((l.map (fun x => x.1)).filter (fun k => k != 0)).Nodup)
    (hfree : ∀ x ∈ l, x.1 ≠ 0 → (cabin p x.1).registered = true ∧ onRoster p x.1 = false) : TrackAgrees (placeQueue l p) := by
  have track := placeQueue_track l p
  have queue := queueNumbers_placeQueue l p
  have roster : rosterNumbers (placeQueue l p) = rosterNumbers p := by rw [rosterNumbers, track, rosterNumbers]
  have onRoster_iff (k : Nat) := mem_rosterNumbers p k
  have inQueue_iff (k : Nat) := mem_queueNumbers p k
  have listed : ∀ k, k ≠ 0 → k ∈ l.map (fun x => x.1) → (cabin p k).registered = true ∧ onRoster p k = false := by
    intro k hne hk
    obtain ⟨x, hx, rfl⟩ := List.mem_map.mp hk
    exact hfree x hx hne
  refine h.relist ?_ (queue ▸ honce) (roster ▸ h.rosterOnce) ?_ ?_ ?_ ?_ ?_
  · have same := congrArg List.length (newEntries_cabin p.clock.now p.track.nextSerial l)
    rw [track]
    simpa using same.trans_le (by simpa using hlen)
  · rw [track, newEntries_serial]; exact List.nodup_range'
  · rw [track]
    intro e he
    have hserial : e.serial ∈ List.range' p.track.nextSerial l.length := by
      rw [← newEntries_serial p.clock.now]; exact List.mem_map_of_mem he
    exact (List.mem_range'_1.mp hserial).2
  · rw [queue, roster]
    intro k hk
    obtain hk | hk := List.mem_append.mp hk
    · obtain ⟨hmem, hne⟩ := List.mem_filter.mp hk
      have hne : k ≠ 0 := by simpa using hne
      obtain ⟨x, hx, rfl⟩ := List.mem_map.mp hmem
      exact .inr ⟨(isCabin_iff _).mpr ⟨Nat.pos_of_ne_zero hne, hcabins x hx⟩, (listed _ hne hmem).1⟩
    · exact .inl (List.mem_append_right _ hk)
  · intro k
    by_cases hk : isCabin k = true
    · have hne : k ≠ 0 := by rintro rfl; exact absurd hk (by decide)
      rw [cabin_placeQueue l p hk]
      split
      · next hl => simp [(listed k hne hl).1]
      · split
        · next hq => simp [h.registered k (List.mem_append_left _ ((inQueue_iff k).mpr ⟨hne, hq⟩))]
        · simp
    · rw [cabin, cabin, dif_neg (by simpa [isCabin] using hk), dif_neg (by simpa [isCabin] using hk)]
      simp
  · intro k hk
    obtain ⟨h1, h2⟩ := (isCabin_iff k).mp hk
    have hne : k ≠ 0 := by omega
    have station := h.inStation k h1 h2
    have line := h.onLine k h1 h2
    have disjoint := h.not_mem_roster (k := k)
    have free := listed k hne
    rw [queue, roster, cabin_placeQueue l p hk, List.mem_filter]
    grind

theorem TrackAgrees.of_sequencer {p q : Part} (h : TrackAgrees p) (kept : SequencerKeeps p q) : TrackAgrees q := by
  obtain ⟨-, hcabins, htrack, -⟩ := kept
  exact h.of_kept ⟨hcabins, by rw [htrack], by rw [htrack], by rw [rosterNumbers, htrack, rosterNumbers]⟩

/-! ### What the checks of the two list orders ask -/

theorem length_readNumbers (x : Slot) (a n : Nat) : (readNumbers x a n).length = n := by simp [readNumbers]

theorem length_readPairs (x : Slot) (a n : Nat) : (readPairs x a n).length = n := by simp [readPairs]

theorem firstRefused_cons {α : Type} (bad : List α → α → Bool) (t : List (List α → α → Bool)) (l : List α) :
    firstRefused (bad :: t) l = (firstFailing bad [] l 1).or (firstRefused t l) := by
  rw [firstRefused, List.findSome?_cons]
  cases firstFailing bad [] l 1 <;> rfl

theorem firstRefused_nil {α : Type} (l : List α) : firstRefused ([] : List (List α → α → Bool)) l = none := rfl

theorem rosterNumbers_pass {l : List Nat} :
    firstRefused badRosterNumber l = none ↔ (∀ k ∈ l, isCabin k = true) ∧ l.Nodup := by
  rw [badRosterNumber, firstRefused_cons, firstRefused_cons, firstRefused_nil, Option.or_none, Option.or_eq_none_iff,
    firstFailing_eq_none_iff, firstFailing_eq_none_iff, forall_not_failsAt_alone, nodup_iff_forall_not_mem_take]
  simp [FailsAt]

theorem rosterCabins_pass {p : Part} {append : Bool} {l : List Nat} (h : firstRefused (badRosterCabin p append) l = none) :
    (∀ k ∈ l, (cabin p k).registered = true) ∧ (∀ k ∈ l, inQueue p k = false) ∧
      (append = true → ∀ k ∈ l, onRoster p k = false) := by
  rw [badRosterCabin, firstRefused_cons, firstRefused_cons, firstRefused_cons, Option.or_eq_none_iff, Option.or_eq_none_iff,
    Option.or_eq_none_iff, firstFailing_eq_none_iff, firstFailing_eq_none_iff, firstFailing_eq_none_iff, forall_not_failsAt_alone,
    forall_not_failsAt_alone, forall_not_failsAt_alone] at h
  obtain ⟨hregistered, hqueue, hroster, -⟩ := h
  exact ⟨by simpa using hregistered, hqueue, by rintro rfl; simpa using hroster⟩

theorem agrees_rosterLoad {p : Part} (h : TrackAgrees p) (x : Slot) : TrackAgrees (orderRosterLoad x p).part := by
  unfold orderRosterLoad
  dsimp only
  split
  · exact h
  · split
    · exact h
    next hnumbers =>
      split
      · exact h
      · split
        · exact h
        next hcabins =>
          obtain ⟨hcabin, honce⟩ := rosterNumbers_pass.mp hnumbers
          obtain ⟨hregistered, hqueue, hroster⟩ := rosterCabins_pass hcabins
          exact agrees_loadRoster h hcabin honce hregistered hqueue hroster

/-- The check of a pair's number against the pairs before it (R23). -/
def numberedTwice (before : List (Nat × Nat)) (x : Nat × Nat) : Bool := x.1 != 0 && before.any (fun y => y.1 == x.1)

/-- No number from 1 on occurs twice among the pairs. -/
theorem pairs_nodup_iff (l : List (Nat × Nat)) :
    ((l.map (fun x => x.1)).filter (fun k => k != 0)).Nodup ↔
      ∀ n, ¬ FailsAt numberedTwice [] l n := by
  induction l using List.reverseRecOn with
  | nil => simp [FailsAt]
  | append_singleton l a ih =>
    have last : FailsAt numberedTwice [] (l ++ [a]) l.length ↔
        a.1 ≠ 0 ∧ a.1 ∈ l.map (fun x => x.1) := by
      simp [FailsAt, numberedTwice]
    have before (n : Nat) (hn : n < l.length) :
        FailsAt numberedTwice [] (l ++ [a]) n ↔
          FailsAt numberedTwice [] l n := by
      rw [FailsAt, FailsAt, List.getElem?_append_left hn, List.take_append_of_le_length hn.le]
    have beyond (m : List (Nat × Nat)) (n : Nat) (hn : m.length ≤ n) :
        ¬ FailsAt numberedTwice [] m n := by
      rw [FailsAt, List.getElem?_eq_none hn]; simp
    have split : ((l ++ [a]).map (fun x => x.1)).filter (fun k => k != 0) =
        (l.map (fun x => x.1)).filter (fun k => k != 0) ++ if a.1 = 0 then [] else [a.1] := by
      simp [List.filter_cons]
    have once : ((l.map (fun x => x.1)).filter (fun k => k != 0) ++ if a.1 = 0 then [] else [a.1]).Nodup ↔
        ((l.map (fun x => x.1)).filter (fun k => k != 0)).Nodup ∧ ¬ (a.1 ≠ 0 ∧ a.1 ∈ l.map (fun x => x.1)) := by
      by_cases ha : a.1 = 0
      · simp [ha]
      · rw [if_neg ha, List.nodup_append_comm, List.singleton_append, List.nodup_cons, List.mem_filter]
        simp [ha, and_comm]
    rw [split, once, ih, ← last]
    constructor
    · rintro ⟨hl, ha⟩ n hn
      obtain hlt | rfl | hgt := lt_trichotomy n l.length
      · exact hl n ((before n hlt).mp hn)
      · exact ha hn
      · exact beyond _ n (by simp; omega) hn
    · intro h
      refine ⟨fun n hn => ?_, h l.length⟩
      by_cases hlt : n < l.length
      · exact h n ((before n hlt).mpr hn)
      · exact beyond l n (not_lt.mp hlt) hn

theorem badPair_pass {l : List (Nat × Nat)} (h : firstRefused badPair l = none) :
    (∀ x ∈ l, x.1 ≤ 128) ∧ (∀ x ∈ l, 1 ≤ x.2 ∧ x.2 ≤ 6) ∧ ((l.map (fun x => x.1)).filter (fun k => k != 0)).Nodup := by
  rw [badPair, firstRefused_cons, firstRefused_cons, firstRefused_cons, Option.or_eq_none_iff, Option.or_eq_none_iff,
    Option.or_eq_none_iff, firstFailing_eq_none_iff, firstFailing_eq_none_iff, firstFailing_eq_none_iff, forall_not_failsAt_alone,
    forall_not_failsAt_alone] at h
  obtain ⟨habove, houtside, honce, -⟩ := h
  exact ⟨by simpa using habove, by simpa using houtside, (pairs_nodup_iff l).mpr honce⟩

theorem badPairCabin_pass {p : Part} {l : List (Nat × Nat)} (h : firstRefused (badPairCabin p) l = none) :
    ∀ x ∈ l, x.1 ≠ 0 → (cabin p x.1).registered = true ∧ onRoster p x.1 = false := by
  rw [badPairCabin, firstRefused_cons, firstRefused_cons, firstRefused_nil, Option.or_none, Option.or_eq_none_iff,
    firstFailing_eq_none_iff, firstFailing_eq_none_iff, forall_not_failsAt_alone, forall_not_failsAt_alone] at h
  obtain ⟨hregistered, hroster⟩ := h
  intro x hx hne
  have r := hregistered x hx
  have o := hroster x hx
  simp_all

theorem agrees_queueLoad {p : Part} (h : TrackAgrees p) (x : Slot) : TrackAgrees (orderStationQueueLoad x p).part := by
  unfold orderStationQueueLoad
  dsimp only
  split
  · exact h
  next hlen =>
    split
    · exact h
    next hpairs =>
      split
      · exact h
      · split
        · exact h
        next hcabins =>
          obtain ⟨habove, -, honce⟩ := badPair_pass hpairs
          have placed := agrees_placeQueue h (by rw [length_readPairs]; exact Nat.not_lt.mp hlen) habove honce
            (badPairCabin_pass hcabins)
          exact agrees_recountQueue (agrees_recountHold (placed.of_sequencer (sequencerLoad_kept _ _ _)) false)

end Sys2Proof.Machine

namespace Sys2Proof.Machine

/-! ### The summit's passage notes (R16) -/

theorem noteRoster_cabins (k : Nat) (l : List RosterEntry) :
    (noteRoster k l).map (fun e => e.cabin) = l.map (fun e => e.cabin) := by
  induction l with
  | nil => rfl
  | cons e t ih =>
    simp only [noteRoster]
    (repeat' split) <;> simp [ih]

/-- Marks copied to records of cabins that a list holds. -/
theorem agrees_copyMarks (l : List RosterEntry) {p : Part} (h : TrackAgrees p) (hl : ∀ e ∈ l, e.cabin ∈ rosterNumbers p) :
    TrackAgrees (l.foldl copyMark p) := by
  induction l generalizing p with
  | nil => exact h
  | cons e l ih =>
    refine ih (h.modCabin _ _ fun c hc => ?_) fun x hx => ?_
    · have registered := h.registered _ (List.mem_append_right _ (hl e (by simp)))
      rw [hc] at registered
      simp [registered]
    · simpa [copyMark, rosterNumbers] using hl x (by simp [hx])

theorem agrees_passageNote {p : Part} (h : TrackAgrees p) (k : Nat) : TrackAgrees (passageNote k p) := by
  unfold passageNote
  split
  · have roster : rosterNumbers (setRoster (noteRoster k p.track.roster) p) = rosterNumbers p :=
      noteRoster_cabins k p.track.roster
    refine agrees_copyMarks _ (h.of_kept ⟨rfl, rfl, rfl, roster⟩) fun e he => ?_
    exact List.mem_map_of_mem (List.mem_of_mem_filter he)
  · exact agrees_attend h .track

theorem agrees_modMsg {p : Part} (h : TrackAgrees p) (f : Messages → Messages) : TrackAgrees (modMsg f p) :=
  h.of_kept ⟨rfl, rfl, rfl, rfl⟩

theorem agrees_endAssembly {p : Part} (h : TrackAgrees p) : TrackAgrees (endAssembly p) := by
  unfold endAssembly
  cases p.messages.receiver with
  | idle => exact agrees_modMsg h _
  | slot i => exact agrees_attend (agrees_modMsg (agrees_modMsg h _) _) .messageIn
  | discarding n => exact agrees_modMsg h _
  | note l =>
    have ended := agrees_modMsg h (fun m => { m with receiver := .idle })
    dsimp only [deliverNote]
    split
    · exact agrees_passageNote ended _
    · exact agrees_attend ended .track

theorem agrees_receiveOctet {p : Part} (h : TrackAgrees p) (b : Byte) (m : MsgMark) : TrackAgrees (receiveOctet b m p).2 := by
  have taken (r : Bool × Messages) : TrackAgrees (takeAssembly r p).2 := h.of_kept ⟨rfl, rfl, rfl, rfl⟩
  cases m with
  | first => exact taken _
  | middle =>
    simp only [receiveOctet]
    split
    · exact h
    · exact taken _
  | last =>
    simp only [receiveOctet]
    generalize (if p.messages.receiver == .idle then startAssembly b p.messages else appendOctet b p.messages) = r
    split
    · exact agrees_endAssembly (taken r)
    · exact taken r
  | abandon => exact agrees_modMsg h _

theorem agrees_judgeOffer {p : Part} (h : TrackAgrees p) (o : Option (Byte × MsgMark)) : TrackAgrees (judgeOffer o p) := by
  unfold judgeOffer
  split
  · exact agrees_modMsg h _
  · split
    · exact agrees_modMsg h _
    · unfold judgeNewOffer
      exact agrees_modMsg (agrees_receiveOctet h _ _) _

/-! ### The answers -/

theorem TrackAgrees.of_line {p q : Part} (h : TrackAgrees p) (kept : LineKeeps p q) : TrackAgrees q := by
  obtain ⟨-, hcabins, htrack, -⟩ := kept
  exact h.of_kept ⟨hcabins, by rw [htrack], by rw [htrack], by rw [rosterNumbers, htrack, rosterNumbers]⟩

theorem TrackAgrees.of_calls {p q : Part} (h : TrackAgrees p) (kept : CallKeeps p q) : TrackAgrees q := by
  obtain ⟨-, htrack, hcabins, -⟩ := kept
  exact h.of_kept ⟨by rw [hcabins], by rw [htrack], by rw [htrack], by rw [rosterNumbers, htrack, rosterNumbers]⟩

theorem agrees_useAnswer {p : Part} (h : TrackAgrees p) (n : FrameNote) (f : FrameContent) : TrackAgrees (useAnswer n f p) := by
  have worded : TrackAgrees (takeWord f.word (modLine (fun l => { l with farErrored := f.errored }) p)) :=
    h.of_kept (by simp [ListsKept, rosterNumbers])
  have judged (q : Part) (hq : TrackAgrees q) (i : Option Nat) (b : Bool) (o : Option (Byte × MsgMark)) :
      TrackAgrees (messagesGood i b o q) :=
    agrees_judgeOffer (hq.of_kept (by simp [ListsKept, rosterNumbers])) o
  have called := (judged _ worded n.offered f.accept (if f.offer then some (f.octet, readMark f.mark) else none))
  exact ((called.of_calls (callGoodAnswer_kept _ _ _ _)).of_calls (callGoodAnswer_kept _ _ _ _)).of_calls (playVoices_kept _ _ _ _)

theorem agrees_judgeAnswer {p : Part} (h : TrackAgrees p) (n : FrameNote) (f : Option SummitFrame) :
    TrackAgrees (judgeAnswer n f p) := by
  have counted (g : Line → Line) {q : Part} (hq : TrackAgrees q) : TrackAgrees (modLine g q) := hq.of_kept ⟨rfl, rfl, rfl, rfl⟩
  have judged (good : Bool) (c : FrameContent) (o : Int) (g : Line → Line) {q : Part} (hq : TrackAgrees q) :
      TrackAgrees (if q.line.state == .up then judgeQuality (if good then useAnswer n c (modLine g q) else useErrored n (modLine g q))
        else judgeTraining n c o good q) := by
    split
    · refine TrackAgrees.of_line ?_ (judgeQuality_kept _)
      split
      · exact agrees_useAnswer (counted _ hq) _ _
      · exact (counted _ hq).of_line (useErrored_kept _ _)
    · exact hq.of_line (judgeTraining_kept _ _ _ _ _)
  exact judged _ _ _ _ (counted _ h)

theorem agrees_takeAnswer {p : Part} (h : TrackAgrees p) (f : Option SummitFrame) : TrackAgrees (takeAnswer f p) := by
  have noted (g : Line → Line) : TrackAgrees (modLine g p) := h.of_kept ⟨rfl, rfl, rfl, rfl⟩
  unfold takeAnswer
  split
  · exact h
  · exact agrees_judgeAnswer (noted _) _ _

/-! ### Every step keeps the agreement -/

theorem agrees_orderBody {body : Slot → Part → Reply} (hb : OrderBody body) {p : Part} (h : TrackAgrees p) (x : Slot) :
    TrackAgrees (body x p).part := by
  cases hb with
  | cabinRegister =>
    unfold orderCabinRegister
    dsimp only
    (repeat' split)
    · exact h
    · exact h
    · exact agrees_registerCabin h _ _
  | cabinUnregister =>
    unfold orderCabinUnregister
    dsimp only
    split
    · exact h
    · split
      · exact h
      next hfree => exact agrees_unregister h (by simp at hfree; exact hfree.2)
  | cabinPlace =>
    unfold orderCabinPlace
    dsimp only
    split
    · exact h
    · split
      · exact h
      next pl hpl =>
        split
        · exact h
        next hfree =>
          simp only [Bool.not_eq_true, Bool.or_eq_false_iff, Bool.not_eq_false'] at hfree
          obtain ⟨⟨-, hregistered⟩, hlisted⟩ := hfree
          refine agrees_setPlace h hregistered hlisted ?_
          unfold readPlace at hpl
          split at hpl
          · cases hpl; decide
          · cases hpl; decide
          · exact nomatch hpl
  | cabinSetService =>
    unfold orderCabinSetService
    dsimp only
    split
    · exact h
    · split
      · exact h
      next hregistered => exact agrees_setService h (by simpa using hregistered) _
  | cabinIdentify => exact agrees_identify h x
  | rosterLoad => exact agrees_rosterLoad h x
  | stationQueueLoad => exact agrees_queueLoad h x
  | sensorConfigure =>
    refine h.of_kept ?_
    simp only [ListsKept, rosterNumbers, orderSensorConfigure, clampedBy]; (repeat' split) <;> simp [refuse, ok]
  | doorConfigure =>
    refine h.of_kept ?_
    simp only [ListsKept, rosterNumbers, orderDoorConfigure, clampedBy, configureDoor]; (repeat' split) <;> simp [refuse, ok]
  | doorHalt =>
    refine h.of_kept ?_
    simp only [ListsKept, rosterNumbers, orderDoorHalt, haltDoor]; (repeat' split) <;> simp [refuse]
  | doorResetFault =>
    refine h.of_kept ?_
    simp only [ListsKept, rosterNumbers, orderDoorResetFault]; (repeat' split) <;> simp [refuse, ok]
  | startBudgetSet =>
    refine h.of_kept ?_
    simp only [ListsKept, rosterNumbers, orderStartBudgetSet, clampedBy, setBudget]; (repeat' split) <;> simp [ok]
  | doorProgramLoad =>
    refine h.of_kept ?_
    simp only [ListsKept, rosterNumbers, orderDoorProgramLoad, clampedBy]; (repeat' split) <;> simp [refuse, ok]
  | cabinDoorConfirm =>
    refine h.of_kept ?_
    simp only [ListsKept, rosterNumbers, orderCabinDoorConfirm, confirmDoor]; (repeat' split) <;> simp [refuse, ok]
  | stationPrepare =>
    refine h.of_kept ?_
    simp only [ListsKept, rosterNumbers, orderStationPrepare]; (repeat' split) <;> simp [refuse, okDetail]
  | stationStart =>
    refine h.of_kept ?_
    simp only [ListsKept, rosterNumbers, orderStationStart, beginStarting]; (repeat' split) <;> simp [refuse, okDetail]
  | stationStop =>
    refine h.of_kept ?_
    simp only [ListsKept, rosterNumbers, orderStationStop]; (repeat' split) <;> simp [refuse, okDetail]
  | stationFastStop => exact h.of_kept (by simp [ListsKept, rosterNumbers, orderStationFastStop, okDetail])
  | stationOff =>
    refine h.of_kept ?_
    simp only [ListsKept, rosterNumbers, orderStationOff]; (repeat' split) <;> simp [refuse, ok]
  | causeAcknowledge =>
    refine h.of_kept ?_
    simp only [ListsKept, rosterNumbers, orderCauseAcknowledge]; (repeat' split) <;> simp [okDetail]
  | profileWrite =>
    refine h.of_kept ?_
    simp only [ListsKept, rosterNumbers, orderProfileWrite, clampedBy, writeProfile]; (repeat' split) <;> simp [refuse, ok]
  | profileSwitch =>
    refine h.of_kept ?_
    simp only [ListsKept, rosterNumbers, orderProfileSwitch, switchInRun]; (repeat' split) <;> simp [refuse, ok, okDetail]
  | lineConfigure =>
    refine h.of_kept ?_
    simp only [ListsKept, rosterNumbers, orderLineConfigure, clampedBy, configureLine]; (repeat' split) <;> simp [ok]
  | lineDormant =>
    refine h.of_kept ?_
    simp only [ListsKept, rosterNumbers, orderLineDormant]; (repeat' split) <;> simp [refuse, ok]
  | lineSetIndications =>
    refine h.of_kept ?_
    simp only [ListsKept, rosterNumbers, orderLineSetIndications]; (repeat' split) <;> simp [refuse, ok]
  | callClear =>
    refine h.of_kept ?_
    simp only [ListsKept, rosterNumbers, orderCallClear, clearCall]; (repeat' split) <;> simp [refuse, okDetail]
  | callConfigure =>
    refine h.of_kept ?_
    simp only [ListsKept, rosterNumbers, orderCallConfigure, clampedBy]; (repeat' split) <;> simp [ok]

theorem listsKept_heldBody {i : SlotNo} {body : Slot → Part → Part} (hb : HeldBody i body) (x : Slot) (p : Part) :
    ListsKept p (body x p) := by
  cases hb with
  | doorMove => simp only [ListsKept, rosterNumbers, orderDoorMove]; (repeat' split) <;> simp
  | lineStart => simp only [ListsKept, rosterNumbers, orderLineStart, startLine]; (repeat' split) <;> simp
  | lineProbe => simp only [ListsKept, rosterNumbers, orderLineProbe]; (repeat' split) <;> simp
  | messageSend => simp only [ListsKept, rosterNumbers, orderMessageSend]; (repeat' split) <;> simp
  | callPlace => simp only [ListsKept, rosterNumbers, orderCallPlace]; (repeat' split) <;> simp

theorem listsKept_writeEffect {f : Part → Part} (h : WriteEffect f) (p : Part) : ListsKept p (f p) := by
  cases h with
  | state i b => simp [ListsKept, rosterNumbers]
  | receive r b => simp only [ListsKept, rosterNumbers, writeReceiveState]; split <;> simp
  | _ => exact ⟨rfl, rfl, rfl, rfl⟩

theorem listsKept_takeHead (i : SlotNo) (p : Part) : ListsKept p (takeHead i p) := ⟨rfl, rfl, rfl, rfl⟩

theorem agrees_effect {f : Part → Part} (hf : Effect f) {p : Part} (h : TrackAgrees p) : TrackAgrees (f p) := by
  cases hf with
  | order i hb => exact (agrees_orderBody hb (h.of_kept (listsKept_takeHead i p)) _).of_kept ⟨rfl, rfl, rfl, rfl⟩
  | held i hb =>
    unfold heldEffect
    split
    · exact h.of_kept ⟨rfl, rfl, rfl, rfl⟩
    · exact (h.of_kept (listsKept_takeHead i p)).of_kept (listsKept_heldBody hb _ _)
  | unknownKind i => exact h.of_kept ⟨rfl, rfl, rfl, rfl⟩
  | write hw => exact h.of_kept (listsKept_writeEffect hw p)
  | sample x => exact h.of_kept (by simp [ListsKept, rosterNumbers, sampleStep_eq])
  | second => exact h.of_kept (by simp [ListsKept, rosterNumbers, secondStep, modClock, Function.comp_def])
  | tag r => exact agrees_tagArrives h r
  | arrival => exact agrees_withPassage (fun n _ hq => agrees_d1Arrives hq n.time) h 1
  | passage k => exact agrees_withPassage (fun n _ hq => agrees_takePassage hq k n) h k
  | exit => exact agrees_withPassage (fun n _ hq => agrees_takeExit hq n.time) h 7
  | hook v => exact h.of_kept (by simp only [ListsKept, rosterNumbers, hookChange]; split <;> simp)
  | answer f => exact agrees_takeAnswer h f
  | passageExpiry => exact agrees_endWait h
  | _ =>
    exact h.of_kept (by simp [ListsKept, rosterNumbers, graceEnds, declareStandstill, noAnswer, cadenceStep, countMillisecond,
      modClock, callSecond, closingEnds, frameStep])

/-- What the end of an event judges, it judges on the same lists. -/
theorem agrees_finish {p : Part} (h : TrackAgrees p) : TrackAgrees (finish p) := by
  have still := still_finish p
  obtain ⟨-, htrack, -⟩ := still_fields still
  refine h.of_kept ⟨?_, by rw [htrack], by rw [htrack], by rw [rosterNumbers, htrack, rosterNumbers]⟩
  refine Vector.ext fun j hj => ?_
  have entry : (mapTable CabinRecord.listing (finish p).cabins).get ⟨j, hj⟩ = (mapTable CabinRecord.listing p.cabins).get ⟨j, hj⟩ := by
    rw [mapTable_get, mapTable_get, still_cabins still]
    rfl
  simpa only [vector_get_eq] using entry

/-- After a software reset the lists are empty, no record has a place, and the registrations are as they were (R24). -/
theorem agrees_afterSoftReset {p : Part} (h : TrackAgrees p) : TrackAgrees (refreshPins (afterSoftReset p)) := by
  have record (k : Nat) : cabin (refreshPins (afterSoftReset p)) k =
      { registered := (cabin p k).registered, inService := (cabin p k).inService } := by
    unfold cabin
    split
    · exact mapTable_get _ _ _
    · rfl
  have numbers : queueNumbers (refreshPins (afterSoftReset p)) = [] ∧ rosterNumbers (refreshPins (afterSoftReset p)) = [] :=
    ⟨rfl, rfl⟩
  constructor
  case queueLength => exact Nat.zero_le _
  case queueOnce => rw [numbers.1]; exact List.nodup_nil
  case rosterOnce => rw [numbers.2]; exact List.nodup_nil
  case numbers => rw [numbers.1, numbers.2]; simp
  case inStation => intro k _ _; rw [record, numbers.1]; simp
  case onLine => intro k _ _; rw [record, numbers.2]; simp
  case registered => rw [numbers.1, numbers.2]; simp
  case unregistered =>
    intro k hk
    rw [record] at hk ⊢
    exact ⟨rfl, (h.unregistered k hk).2.1, rfl⟩
  case serialsOnce => exact List.nodup_nil
  case serialsBelow => exact fun e he => absurd he List.not_mem_nil

theorem cabin_default (k : Nat) : cabin ({} : Part) k = {} := by
  unfold cabin
  split
  · simp [vector_get_eq]
  · rfl

theorem agrees_default : TrackAgrees ({} : Part) where
  queueLength := Nat.zero_le _
  queueOnce := List.nodup_nil
  rosterOnce := List.nodup_nil
  numbers := by simp [queueNumbers, rosterNumbers]
  inStation := fun k _ _ => by rw [cabin_default]; simp [queueNumbers]
  onLine := fun k _ _ => by rw [cabin_default]; simp [rosterNumbers]
  registered := by simp [queueNumbers, rosterNumbers]
  unregistered := fun k _ => by rw [cabin_default]; exact ⟨rfl, rfl, rfl⟩
  serialsOnce := List.nodup_nil
  serialsBelow := fun _ he => absurd he List.not_mem_nil

/-- Settles O5: each effect keeps the agreement, and the judgements at an event's end leave the lists. -/
theorem everyStepKeepsTrackAgreement : Obligations.EveryStepKeepsTrackAgreement := fun _ _ hagrees hstep =>
  step_relates (R := fun p q => TrackAgrees p → TrackAgrees q) (fun _ h => h) (fun _ hf _ h => agrees_finish (agrees_effect hf h))
    (fun a d lo hi p h => agrees_finish (writeHalf_relates (R := fun p q => TrackAgrees p → TrackAgrees q) (fun _ h => h)
      (fun _ _ _ f g h => g (f h)) (fun _ hf q h => h.of_kept (listsKept_writeEffect hf q)) a d lo hi p h))
    (fun _ _ h => h.of_kept ⟨rfl, rfl, rfl, rfl⟩) (fun _ _ hkeep h => agrees_afterSoftReset (hkeep h)) (fun _ _ => agrees_default)
    hstep hagrees

/-! ### The state after reset -/

theorem channel_default (n : ChannelNo) : channel ({} : Part) n = {} := by simp [channel, vector_get_eq]

/-- Settles O3. -/
theorem resetMeetsTheInvariants : Obligations.ResetMeetsTheInvariants := by
  refine ⟨⟨rfl, default_steady⟩, ⟨by simp [State.reset], by simp [State.reset]⟩, agrees_default, ?_, ?_, ?_, ?_⟩
  · exact fun h => nomatch h
  · intro n
    have resting : channel State.reset.part n = {} := channel_default n
    have queue : State.reset.part.doors.queue = [] := rfl
    rw [resting, queue]
    simp [DoorState.atRest]
  · exact fun h => nomatch h
  · simp [CeilingStands, State.reset]

end Sys2Proof.Machine

namespace Sys2Proof.Machine

/-! ### One channel's outputs in order (R81 to R85, R95) -/

/-- What `DoorsSafe` asks of a channel that stands `k` times in the start queue. -/
def ChannelSafe (c : Channel) (k : Nat) : Prop :=
  (c.motor.isSome = true → c.state.inMotion = true) ∧
    (c.lockRel = true → c.state ∈ [.unlocking, .movingToA, .movingToB] ∨ (c.state = .waitingStart ∧ c.waits = .move)) ∧
    (0 < k ↔ c.state = .waitingStart) ∧ k ≤ 1 ∧ (c.config.kind = .none → c.state.atRest = true)

/-- The times that a channel stands in the start queue. -/
def queued (n : ChannelNo) (p : Part) : Nat := p.doors.queue.count (.door n)

/-- The channel's outputs are in order. -/
def SafeAt (n : ChannelNo) (p : Part) : Prop := ChannelSafe (channel p n) (queued n p)

theorem doorsSafe_iff (p : Part) : DoorsSafe p ↔ ∀ n, SafeAt n p :=
  forall_congr' fun n => by simp only [SafeAt, ChannelSafe, queued, List.count_pos_iff]

/-- The channel takes work: its kind is not NONE, and it is not in the start queue. -/
def Free (n : ChannelNo) (p : Part) : Prop := queued n p = 0 ∧ (channel p n).config.kind ≠ .none

/-- The other channels and their places in the start queue are the same, and the channel's configuration is. -/
def Touches (n : ChannelNo) (p q : Part) : Prop :=
  (∀ m, m ≠ n → channel q m = channel p m ∧ queued m q = queued m p) ∧ (channel q n).config = (channel p n).config

theorem Touches.trans {n : ChannelNo} {p q r : Part} (h : Touches n p q) (g : Touches n q r) : Touches n p r := by
  obtain ⟨hothers, hconfig⟩ := h
  obtain ⟨gothers, gconfig⟩ := g
  exact ⟨fun m hm => ⟨(gothers m hm).1.trans (hothers m hm).1, (gothers m hm).2.trans (hothers m hm).2⟩, gconfig.trans hconfig⟩

theorem touches_of_doors {n : ChannelNo} {p q : Part} (h : q.doors = p.doors) : Touches n p q :=
  ⟨fun m _ => ⟨channel_of_doors_eq h m, by rw [queued, h, queued]⟩, by rw [channel_of_doors_eq h]⟩

theorem touches_refl (n : ChannelNo) (p : Part) : Touches n p p := touches_of_doors rfl

theorem safeAt_of_doors {n : ChannelNo} {p q : Part} (h : q.doors = p.doors) (hs : SafeAt n p) : SafeAt n q := by
  rwa [SafeAt, channel_of_doors_eq h, queued, h]

/-- Work on one channel that leaves it in order keeps all in order. -/
theorem doorsSafe_of_touches {n : ChannelNo} {p q : Part} (h : DoorsSafe p) (touch : Touches n p q) (safe : SafeAt n q) :
    DoorsSafe q := by
  rw [doorsSafe_iff] at *
  intro m
  by_cases hm : m = n
  · exact hm ▸ safe
  · obtain ⟨hchannel, hqueued⟩ := touch.1 m hm
    rw [SafeAt, hchannel, hqueued]
    exact h m

theorem doorsSafe_of_doors {p q : Part} (h : DoorsSafe p) (hd : q.doors = p.doors) : DoorsSafe q := by
  rw [doorsSafe_iff] at *
  exact fun n => safeAt_of_doors hd (h n)

/-! ### The channel and the queue after each operation -/

theorem touches_modChannel {n : ChannelNo} {f : Channel → Channel} {p : Part} (h : (f (channel p n)).config = (channel p n).config) :
    Touches n p (modChannel n f p) :=
  ⟨fun m hm => ⟨channel_modChannel_ne n m f p hm, rfl⟩, by rw [channel_modChannel_same, h]⟩

@[simp] theorem queued_modChannel (n m : ChannelNo) (f : Channel → Channel) (p : Part) : queued m (modChannel n f p) = queued m p := rfl

theorem channel_tellOwner (n m : ChannelNo) (o : DoorOutcome) (p : Part) :
    channel (tellOwner n o p) m = channel (modChannel n (fun c => { c with owner := .none }) p) m :=
  channel_of_doors_eq (tellOwner_kept n o p).2.1 m

@[simp] theorem channel_tellOwner_same (n : ChannelNo) (o : DoorOutcome) (p : Part) :
    channel (tellOwner n o p) n = { channel p n with owner := .none } := by
  rw [channel_tellOwner, channel_modChannel_same]

@[simp] theorem queued_tellOwner (n m : ChannelNo) (o : DoorOutcome) (p : Part) : queued m (tellOwner n o p) = queued m p := by
  rw [queued, (tellOwner_kept n o p).2.1]; rfl

theorem touches_tellOwner (n : ChannelNo) (o : DoorOutcome) (p : Part) : Touches n p (tellOwner n o p) := by
  have touched : Touches n p (modChannel n (fun c => { c with owner := .none }) p) := touches_modChannel rfl
  exact touched.trans (touches_of_doors (tellOwner_kept n o p).2.1)

@[simp] theorem channel_endOperation_same (n : ChannelNo) (o : DoorOutcome) (p : Part) :
    channel (endOperation n o p) n = { channel p n with owner := .none, target := none, waits := .none } := by
  simp [endOperation]

@[simp] theorem queued_endOperation (n m : ChannelNo) (o : DoorOutcome) (p : Part) :
    queued m (endOperation n o p) = queued m p := by
  simp [endOperation]

theorem touches_endOperation (n : ChannelNo) (o : DoorOutcome) (p : Part) : Touches n p (endOperation n o p) :=
  (touches_tellOwner n o p).trans (touches_modChannel rfl)

theorem channel_restIn (n m : ChannelNo) (st : DoorState) (p : Part) :
    channel (restIn n st p) m = channel (modChannel n (fun c => { c with state := st }) p) m :=
  channel_of_doors_eq (restIn_kept n st p).2.1 m

@[simp] theorem channel_restIn_same (n : ChannelNo) (st : DoorState) (p : Part) :
    channel (restIn n st p) n = { channel p n with state := st } := by
  rw [channel_restIn, channel_modChannel_same]

@[simp] theorem queued_restIn (n m : ChannelNo) (st : DoorState) (p : Part) : queued m (restIn n st p) = queued m p := by
  rw [queued, (restIn_kept n st p).2.1]; rfl

theorem touches_restIn (n : ChannelNo) (st : DoorState) (p : Part) : Touches n p (restIn n st p) := by
  have touched : Touches n p (modChannel n (fun c => { c with state := st }) p) := touches_modChannel rfl
  exact touched.trans (touches_of_doors (restIn_kept n st p).2.1)

@[simp] theorem channel_joinQueue (n m : ChannelNo) (p : Part) : channel (joinQueue n p) m = channel p m := rfl

@[simp] theorem queued_joinQueue_same (n : ChannelNo) (p : Part) : queued n (joinQueue n p) = queued n p + 1 := by
  simp [queued, joinQueue]

theorem touches_joinQueue (n : ChannelNo) (p : Part) : Touches n p (joinQueue n p) := by
  refine ⟨fun m hm => ⟨rfl, ?_⟩, rfl⟩
  have hne : Requester.door n ≠ .door m := fun h => hm (Requester.door.inj h).symm
  simp [queued, joinQueue, hne]

@[simp] theorem channel_leaveQueue (n m : ChannelNo) (p : Part) : channel (leaveQueue n p) m = channel p m := rfl

@[simp] theorem queued_leaveQueue_same (n : ChannelNo) (p : Part) : queued n (leaveQueue n p) = 0 := by
  simp [queued, leaveQueue, List.count_eq_zero]

theorem touches_leaveQueue (n : ChannelNo) (p : Part) : Touches n p (leaveQueue n p) := by
  refine ⟨fun m hm => ⟨rfl, ?_⟩, rfl⟩
  have hne : Requester.door m ≠ .door n := fun h => hm (Requester.door.inj h)
  exact List.count_filter (by simpa using hne)

@[simp] theorem channel_stopOutputs_same (n : ChannelNo) (p : Part) :
    channel (stopOutputs n p) n = { channel p n with motor := none, lockRel := false } := by
  simp [stopOutputs]

@[simp] theorem queued_stopOutputs (n m : ChannelNo) (p : Part) : queued m (stopOutputs n p) = queued m p := rfl

theorem touches_stopOutputs (n : ChannelNo) (p : Part) : Touches n p (stopOutputs n p) := touches_modChannel rfl

@[simp] theorem channel_attend (a : Attn) (p : Part) (n : ChannelNo) : channel (attend a p) n = channel p n := rfl
@[simp] theorem queued_attend (a : Attn) (p : Part) (n : ChannelNo) : queued n (attend a p) = queued n p := rfl

/-! ### The states that a channel enters -/

/-- In FAULT nothing is energised and the channel has left the queue (R93). -/
theorem enterFault_safe (n : ChannelNo) (why : DoorReason) (p : Part) :
    SafeAt n (enterFault n why p) ∧ Touches n p (enterFault n why p) := by
  have core (q : Part) (hq : q = attend .door (endOperation n (.failed why)
      (modChannel n (fun c => { c with state := .fault, lastReason := why, faults := count16 c.faults }) (leaveQueue n (stopOutputs n p))))) :
      SafeAt n q ∧ Touches n p q := by
    subst hq
    refine ⟨?_, ?_⟩
    · simp [SafeAt, ChannelSafe, DoorState.atRest]
    · have faulted : Touches n (leaveQueue n (stopOutputs n p))
          (modChannel n (fun c => { c with state := .fault, lastReason := why, faults := count16 c.faults })
            (leaveQueue n (stopOutputs n p))) := touches_modChannel rfl
      exact ((((touches_stopOutputs n p).trans (touches_leaveQueue n _)).trans faulted).trans (touches_endOperation n _ _)).trans
        (touches_of_doors rfl)
  obtain ⟨hsafe, htouch⟩ := core _ rfl
  have same (q : Part) : (enterFault n why p).doors = q.doors → (SafeAt n q ∧ Touches n p q) →
      SafeAt n (enterFault n why p) ∧ Touches n p (enterFault n why p) := fun he h =>
    ⟨safeAt_of_doors he h.1, h.2.trans (touches_of_doors he)⟩
  refine same _ ?_ ⟨hsafe, htouch⟩
  unfold enterFault
  dsimp only
  split <;> simp

theorem enterWaiting_safe {n : ChannelNo} {m : Motion} {p : Part} (h : Free n p) (hlock : (channel p n).lockRel = true → m = .move) :
    SafeAt n (enterWaiting n m p) := by
  obtain ⟨hqueued, hkind⟩ := h
  simp [SafeAt, ChannelSafe, enterWaiting, hqueued, hkind]
  exact hlock

theorem touches_enterWaiting (n : ChannelNo) (m : Motion) (p : Part) : Touches n p (enterWaiting n m p) := by
  have waiting : Touches n p (modChannel n (fun c => { c with state := .waitingStart, waits := m, motor := none }) p) :=
    touches_modChannel rfl
  exact waiting.trans (touches_joinQueue n _)

theorem atState_rest (e : End) : e.atState.atRest = true ∧ e.atState ≠ .waitingStart := by cases e <;> simp [End.atState, DoorState.atRest]

theorem standAt_safe {n : ChannelNo} {e : End} {p : Part} (hqueued : queued n p = 0) (hmotor : (channel p n).motor = none)
    (hlock : (channel p n).lockRel = false) : SafeAt n (standAt n e p) := by
  simp [SafeAt, ChannelSafe, standAt, hqueued, hmotor, hlock, atState_rest]

theorem finishAt_safe {n : ChannelNo} {e : End} {o : DoorOutcome} {p : Part} (hqueued : queued n p = 0)
    (hmotor : (channel p n).motor = none) (hlock : (channel p n).lockRel = false) : SafeAt n (finishAt n e o p) := by
  simp [SafeAt, ChannelSafe, finishAt, standAt, hqueued, hmotor, hlock, atState_rest]

theorem touches_finishAt (n : ChannelNo) (e : End) (o : DoorOutcome) (p : Part) : Touches n p (finishAt n e o p) :=
  (touches_restIn n _ p).trans (touches_endOperation n o _)

theorem enterLocking_safe {n : ChannelNo} {p : Part} (h : Free n p) : SafeAt n (enterLocking n p) := by
  obtain ⟨hqueued, hkind⟩ := h
  unfold enterLocking
  dsimp only
  split
  · exact finishAt_safe (by simpa using hqueued) (by simp) (by simp)
  · simp [SafeAt, ChannelSafe, hqueued, hkind]

theorem touches_enterLocking (n : ChannelNo) (p : Part) : Touches n p (enterLocking n p) := by
  have locking : Touches n p (modChannel n (fun c => { c with
      state := .locking, waits := .none, motor := none, lockRel := false, since := p.clock.now }) p) := touches_modChannel rfl
  unfold enterLocking
  dsimp only
  split
  · exact locking.trans (touches_finishAt n _ _ _)
  · exact locking

theorem enterUnlocking_safe {n : ChannelNo} {p : Part} (h : Free n p) (hmotor : (channel p n).motor = none) :
    SafeAt n (enterUnlocking n p) := by
  obtain ⟨hqueued, hkind⟩ := h
  unfold enterUnlocking
  dsimp only
  split
  · simp [SafeAt, ChannelSafe, hqueued, hkind, hmotor]
  · exact enterWaiting_safe ⟨by simpa using hqueued, by simpa using hkind⟩ fun _ => rfl

theorem touches_enterUnlocking (n : ChannelNo) (p : Part) : Touches n p (enterUnlocking n p) := by
  have unlocking : Touches n p (modChannel n (fun c => { c with state := .unlocking, lockRel := true, since := p.clock.now }) p) :=
    touches_modChannel rfl
  unfold enterUnlocking
  dsimp only
  split
  · exact unlocking
  · exact unlocking.trans (touches_enterWaiting n _ _)

theorem automaticReturn_safe {n : ChannelNo} {p : Part} (h : Free n p) :
    SafeAt n (automaticReturn n p) ∧ Touches n p (automaticReturn n p) := by
  obtain ⟨hqueued, hkind⟩ := h
  have returned : Touches n p
      (modChannel n (fun c => { c with state := .atB, target := some .a, owner := .automatic, retriesUsed := 0 }) p) :=
    touches_modChannel rfl
  exact ⟨enterWaiting_safe ⟨by simpa using hqueued, by simpa using hkind⟩ fun _ => rfl, returned.trans (touches_enterWaiting n _ _)⟩

theorem Free.of_touches {n : ChannelNo} {p q : Part} (h : Free n p) (touch : Touches n p q) (hq : queued n q = queued n p) : Free n q :=
  ⟨hq.trans h.1, by rw [touch.2]; exact h.2⟩

/-- A move that arrives leaves the channel in order (R85). -/
theorem arriveMove_safe {n : ChannelNo} {p : Part} (h : Free n p) (e : End) :
    SafeAt n (arriveMove n e p) ∧ Touches n p (arriveMove n e p) := by
  have stopped := touches_stopOutputs n p
  have free := h.of_touches stopped (queued_stopOutputs n n p)
  unfold arriveMove
  dsimp only
  split
  · exact ⟨enterLocking_safe free, stopped.trans (touches_enterLocking n _)⟩
  · split
    · have told := touches_endOperation n .reachedB (stopOutputs n p)
      obtain ⟨hsafe, htouch⟩ := automaticReturn_safe (free.of_touches told (queued_endOperation n n _ _))
      exact ⟨hsafe, stopped.trans (told.trans htouch)⟩
    · exact ⟨finishAt_safe free.1 (by simp) (by simp), stopped.trans (touches_finishAt n _ _ _)⟩

theorem retryMove_safe {n : ChannelNo} {p : Part} (h : Free n p) : SafeAt n (retryMove n p) ∧ Touches n p (retryMove n p) := by
  have raised : Touches n p (modChannel n (fun c => { c with retriesUsed := c.retriesUsed + 1 }) p) := touches_modChannel rfl
  have free := h.of_touches raised rfl
  unfold retryMove
  dsimp only
  split
  · exact ⟨enterWaiting_safe free fun _ => rfl, raised.trans ((touches_of_doors rfl).trans (touches_enterWaiting n _ _))⟩
  · exact ⟨enterWaiting_safe free fun _ => rfl, raised.trans (touches_enterWaiting n _ _)⟩

theorem enterDwell_safe {n : ChannelNo} {p : Part} (h : Free n p) (hmotor : (channel p n).motor = none)
    (hlock : (channel p n).lockRel = false) : SafeAt n (enterDwell n p) ∧ Touches n p (enterDwell n p) := by
  have dwelling : Touches n p (modChannel n (fun c => { c with state := .reopenDwell, waits := .none, since := p.clock.now }) p) :=
    touches_modChannel rfl
  unfold enterDwell
  dsimp only
  split
  · obtain ⟨hsafe, htouch⟩ := retryMove_safe (h.of_touches dwelling rfl)
    exact ⟨hsafe, dwelling.trans htouch⟩
  · refine ⟨?_, dwelling⟩
    obtain ⟨hqueued, hkind⟩ := h
    simp [SafeAt, ChannelSafe, hqueued, hkind, hmotor, hlock]

theorem arriveReversal_safe {n : ChannelNo} {p : Part} (h : Free n p) :
    SafeAt n (arriveReversal n p) ∧ Touches n p (arriveReversal n p) := by
  have stopped := touches_stopOutputs n p
  have free := h.of_touches stopped (queued_stopOutputs n n p)
  unfold arriveReversal
  dsimp only
  split
  · obtain ⟨hsafe, htouch⟩ := enterDwell_safe free (by simp) (by simp)
    exact ⟨hsafe, stopped.trans htouch⟩
  · split
    · have noted : Touches n (stopOutputs n p) (modChannel n (fun c => { c with lastReason := .obstruction }) (stopOutputs n p)) :=
        touches_modChannel rfl
      refine ⟨safeAt_of_doors rfl (finishAt_safe free.1 (by simp) (by simp)), ?_⟩
      exact (stopped.trans (noted.trans (touches_finishAt n _ _ _))).trans (touches_of_doors rfl)
    · obtain ⟨hsafe, htouch⟩ := enterFault_safe n .obstruction (stopOutputs n p)
      exact ⟨hsafe, stopped.trans htouch⟩

/-- A grant starts the motion of a channel that has left the queue (R84). -/
theorem startMotion_safe {n : ChannelNo} {p : Part} (h : Free n p)
    (hlock : (channel p n).lockRel = true → (channel p n).waits = .move) :
    SafeAt n (startMotion n p) ∧ Touches n p (startMotion n p) := by
  unfold startMotion
  dsimp only
  generalize hmoved : modChannel n _ p = q
  have touched : Touches n p q := by subst hmoved; exact touches_modChannel rfl
  have free : Free n q := h.of_touches touched (by subst hmoved; rfl)
  split
  · split
    · obtain ⟨hsafe, htouch⟩ := arriveReversal_safe free
      exact ⟨hsafe, touched.trans htouch⟩
    · obtain ⟨hsafe, htouch⟩ := arriveMove_safe free (headingOf (channel p n))
      exact ⟨hsafe, touched.trans htouch⟩
  · refine ⟨?_, touched⟩
    obtain ⟨hqueued, hkind⟩ := free
    subst hmoved
    simp only [channel_modChannel_same] at hkind ⊢
    simp only [SafeAt, ChannelSafe, channel_modChannel_same, hqueued]
    by_cases hreversal : (channel p n).waits == .reversal
    · have unlocked : (channel p n).lockRel = false := by
        by_contra hne
        have := hlock (by simpa using hne)
        simp [this] at hreversal
      simp [hreversal, unlocked, hkind, DoorState.inMotion]
    · cases headingOf (channel p n) <;> simp [hreversal, hkind, DoorState.inMotion, End.movingState]

end Sys2Proof.Machine

namespace Sys2Proof.Machine

/-! ### Operations, halts and steps keep a channel in order -/

/-- The channel is in order after the work, and the others are as before. -/
abbrev WorksOn (n : ChannelNo) (p q : Part) : Prop := SafeAt n q ∧ Touches n p q

theorem WorksOn.after {n : ChannelNo} {p q r : Part} (h : WorksOn n q r) (touch : Touches n p q) : WorksOn n p r :=
  ⟨h.1, touch.trans h.2⟩

theorem worksOn_refl {n : ChannelNo} {p : Part} (h : SafeAt n p) : WorksOn n p p := ⟨h, touches_refl n p⟩

/-- A channel in order that does not wait for a start, of another kind than NONE, takes work. -/
theorem SafeAt.free {n : ChannelNo} {p : Part} (h : SafeAt n p) (hstate : (channel p n).state ≠ .waitingStart)
    (hkind : (channel p n).config.kind ≠ .none) : Free n p := by
  obtain ⟨-, -, hqueue, -, -⟩ := h
  exact ⟨Nat.eq_zero_of_not_pos fun hpos => hstate (hqueue.mp hpos), hkind⟩

theorem SafeAt.motor_off {n : ChannelNo} {p : Part} (h : SafeAt n p) (hstate : (channel p n).state.inMotion = false) :
    (channel p n).motor = none := by
  obtain ⟨hmotor, -⟩ := h
  by_contra hne
  rw [hmotor (Option.isSome_iff_ne_none.mpr hne)] at hstate
  exact nomatch hstate

theorem SafeAt.lock_off {n : ChannelNo} {p : Part} (h : SafeAt n p)
    (hstate : (channel p n).state ∉ [.unlocking, .movingToA, .movingToB, .waitingStart]) : (channel p n).lockRel = false := by
  obtain ⟨-, hlock, -⟩ := h
  by_contra hne
  have := hlock (by simpa using hne)
  simp only [List.mem_cons, List.not_mem_nil, or_false, not_or] at hstate this
  grind

theorem SafeAt.rest_of_none {n : ChannelNo} {p : Part} (h : SafeAt n p) (hkind : (channel p n).config.kind = .none) :
    (channel p n).state.atRest = true := by
  obtain ⟨-, -, -, -, hrest⟩ := h
  exact hrest hkind

/-- A channel of kind NONE is at rest, its outputs off, out of the queue. -/
theorem SafeAt.of_none {n : ChannelNo} {p : Part} (h : SafeAt n p) (hrest : (channel p n).state.atRest = true) :
    (channel p n).motor = none ∧ (channel p n).lockRel = false ∧ queued n p = 0 := by
  obtain ⟨hmotor, hlock, hqueue, -, -⟩ := h
  refine ⟨?_, ?_, ?_⟩
  · by_contra hne
    have := hmotor (Option.isSome_iff_ne_none.mpr hne)
    generalize (channel p n).state = st at *
    cases st <;> simp_all [DoorState.atRest, DoorState.inMotion]
  · by_contra hne
    have := hlock (by simpa using hne)
    generalize (channel p n).state = st at *
    cases st <;> simp_all [DoorState.atRest]
  · refine Nat.eq_zero_of_not_pos fun hpos => ?_
    rw [hqueue.mp hpos] at hrest
    exact nomatch hrest

theorem turnBack_works {n : ChannelNo} {p : Part} (h : Free n p) (t : End) : WorksOn n p (turnBack n t p) := by
  have stopped := touches_stopOutputs n p
  have free := h.of_touches stopped (queued_stopOutputs n n p)
  unfold turnBack
  dsimp only
  split
  · exact WorksOn.after (arriveMove_safe free t) stopped
  · exact ⟨enterWaiting_safe free (by simp), stopped.trans (touches_enterWaiting n _ _)⟩

theorem retarget_works {n : ChannelNo} {p : Part} (h : SafeAt n p) (hstate : (channel p n).state = .waitingStart)
    (hkind : (channel p n).config.kind ≠ .none) (t : End) : WorksOn n p (retarget n t p) := by
  unfold retarget
  split
  · exact WorksOn.after (arriveMove_safe ⟨by simp, by simpa using hkind⟩ t) (touches_leaveQueue n p)
  · refine ⟨?_, touches_modChannel rfl⟩
    obtain ⟨hmotor, -, hqueue, honce, -⟩ := h
    simp_all [SafeAt, ChannelSafe]

theorem operateFromRest_works {n : ChannelNo} {p : Part} (h : SafeAt n p) (hrest : (channel p n).state.atRest = true)
    (hkind : (channel p n).config.kind ≠ .none) (t : End) : WorksOn n p (operateFromRest n t p) := by
  obtain ⟨hmotor, hlock, hqueued⟩ := h.of_none hrest
  unfold operateFromRest
  dsimp only
  split
  · exact ⟨finishAt_safe hqueued hmotor hlock, touches_finishAt n _ _ _⟩
  · split
    · exact ⟨enterUnlocking_safe ⟨hqueued, hkind⟩ hmotor, touches_enterUnlocking n p⟩
    · exact ⟨enterWaiting_safe ⟨hqueued, hkind⟩ fun _ => rfl, touches_enterWaiting n _ p⟩

/-- A channel in order acts on an operation in every state (R82, R90). -/
theorem operateTakeover_works {n : ChannelNo} {p : Part} (h : SafeAt n p) (hkind : (channel p n).config.kind ≠ .none) (t : End) :
    WorksOn n p (operateTakeover n t p) := by
  unfold operateTakeover
  dsimp only
  split
  case h_1 hstate =>
    have free := h.free (by rw [hstate]; decide) hkind
    split
    · exact worksOn_refl h
    · exact ⟨enterLocking_safe free, touches_enterLocking n p⟩
  case h_2 hstate => exact retarget_works h hstate hkind t
  case h_3 hstate =>
    split
    · exact worksOn_refl h
    · exact turnBack_works (h.free (by rw [hstate]; decide) hkind) t
  case h_4 hstate =>
    split
    · exact worksOn_refl h
    · exact turnBack_works (h.free (by rw [hstate]; decide) hkind) t
  case h_5 hstate =>
    have free := h.free (by rw [hstate]; decide) hkind
    split
    · refine ⟨?_, touches_modChannel rfl⟩
      have hlock := h.lock_off (by rw [hstate]; decide)
      obtain ⟨hqueued, -⟩ := free
      cases t <;> simp [SafeAt, ChannelSafe, hqueued, hlock, hkind, End.movingState, DoorState.inMotion]
    · exact turnBack_works free t
  case h_6 hstate =>
    obtain ⟨hqueued, -⟩ := h.free (by rw [hstate]; decide) hkind
    have hlock := h.lock_off (by rw [hstate]; decide)
    split
    · exact ⟨finishAt_safe hqueued (h.motor_off (by rw [hstate]; rfl)) hlock, touches_finishAt n _ _ _⟩
    · exact ⟨enterWaiting_safe ⟨hqueued, hkind⟩ fun _ => rfl, touches_enterWaiting n _ p⟩
  case h_7 hstate =>
    split
    · exact worksOn_refl h
    · exact ⟨enterUnlocking_safe (h.free (by rw [hstate]; decide) hkind) (h.motor_off (by rw [hstate]; rfl)),
        touches_enterUnlocking n p⟩
  case h_8 hunlocking hwaiting ha hb hreversing hdwell hlocking =>
    refine operateFromRest_works h ?_ hkind t
    generalize (channel p n).state = st at *
    cases st <;> simp_all [DoorState.atRest]

/-- Work that changes of the channel what its order does not read. -/
theorem safeAt_same {n : ChannelNo} {p q : Part} (h : SafeAt n p) (hqueued : queued n q = queued n p)
    (hchannel : (channel q n).motor = (channel p n).motor ∧ (channel q n).lockRel = (channel p n).lockRel ∧
      (channel q n).state = (channel p n).state ∧ (channel q n).waits = (channel p n).waits ∧
      (channel q n).config.kind = (channel p n).config.kind) : SafeAt n q := by
  obtain ⟨hmotor, hlock, hstate, hwaits, hkind⟩ := hchannel
  simp only [SafeAt, ChannelSafe, hqueued, hmotor, hlock, hstate, hwaits, hkind]
  exact h

/-- A new operation, claimed by work that changes no channel but the owner of this one (R82, R90). -/
theorem takeOperation_works {n : ChannelNo} {t : End} {claim : Part → Part} {p : Part}
    (hclaim : ∀ q, (claim q).doors = (modChannel n (fun c => { c with owner := (channel (claim q) n).owner }) q).doors)
    (h : SafeAt n p) (hkind : (channel p n).config.kind ≠ .none) : WorksOn n p (takeOperation n t claim p) := by
  have told := touches_tellOwner n .interrupted p
  have claimed : Touches n (tellOwner n .interrupted p) (claim (tellOwner n .interrupted p)) :=
    Touches.trans (touches_modChannel rfl) (touches_of_doors (hclaim _))
  have aimed : Touches n (claim (tellOwner n .interrupted p))
      (modChannel n (fun c => { c with retriesUsed := 0, target := some t }) (claim (tellOwner n .interrupted p))) :=
    touches_modChannel rfl
  have touch := (told.trans claimed).trans aimed
  have owned := channel_of_doors_eq (hclaim (tellOwner n .interrupted p)) n
  rw [channel_modChannel_same, channel_tellOwner_same] at owned
  have count : queued n (claim (tellOwner n .interrupted p)) = queued n p := by
    rw [queued, hclaim]; exact queued_tellOwner n n _ p
  have safe : SafeAt n (modChannel n (fun c => { c with retriesUsed := 0, target := some t }) (claim (tellOwner n .interrupted p))) := by
    refine safeAt_same h count ?_
    rw [channel_modChannel_same, owned]
    exact ⟨rfl, rfl, rfl, rfl, rfl⟩
  exact (operateTakeover_works safe (by rw [touch.2]; exact hkind) t).after touch

theorem haltChannel_works {n : ChannelNo} {p : Part} (h : SafeAt n p) : WorksOn n p (haltChannel n p) := by
  unfold haltChannel
  dsimp only
  split
  · exact worksOn_refl h
  next hmoving =>
    have ended : Touches n p (modChannel n (fun c => { c with target := none, waits := .none }) p) := touches_modChannel rfl
    split
    next hstate =>
      have hstate : (channel p n).state = .locking := by simpa using hstate
      refine ⟨?_, ended⟩
      obtain ⟨hmotor, hlock, hqueue, honce, hnone⟩ := h
      simp_all [SafeAt, ChannelSafe]
    next =>
      refine ⟨?_, ended.trans (((touches_stopOutputs n _).trans (touches_leaveQueue n _)).trans (touches_restIn n _ _))⟩
      unfold haltedState
      (repeat' split) <;> simp [SafeAt, ChannelSafe, DoorState.atRest]

theorem leaveEnd_works {n : ChannelNo} {p : Part} (hqueued : queued n p = 0) (hmotor : (channel p n).motor = none)
    (hlock : (channel p n).lockRel = false) : WorksOn n p (leaveEnd n p) := by
  have left : Touches n p (modChannel n (fun c => { c with state := .unknown, lastReason := .leftEnd }) p) := touches_modChannel rfl
  refine ⟨?_, (left.trans (touches_endOperation n _ _)).trans (touches_of_doors rfl)⟩
  simp [SafeAt, ChannelSafe, leaveEnd, hqueued, hmotor, hlock, DoorState.atRest]

theorem touches_standAt (n : ChannelNo) (e : End) (p : Part) : Touches n p (standAt n e p) := touches_restIn n _ p

theorem findLimit_works {n : ChannelNo} {p : Part} (h : SafeAt n p) (hrest : (channel p n).state.atRest = true) :
    WorksOn n p (findLimit n p) := by
  obtain ⟨hmotor, hlock, hqueued⟩ := h.of_none hrest
  unfold findLimit
  dsimp only
  split
  · exact ⟨standAt_safe hqueued hmotor hlock, touches_standAt n _ p⟩
  · split
    · exact ⟨standAt_safe hqueued hmotor hlock, touches_standAt n _ p⟩
    · exact worksOn_refl h

theorem dropLockRel_works {n : ChannelNo} {p : Part} (h : SafeAt n p) : WorksOn n p (dropLockRel n p) := by
  unfold dropLockRel
  split
  · exact worksOn_refl h
  · refine ⟨?_, touches_modChannel rfl⟩
    obtain ⟨hmotor, -, hqueue, honce, hnone⟩ := h
    simp_all [SafeAt, ChannelSafe]

theorem judgeLimits_works {n : ChannelNo} {p : Part} (h : SafeAt n p) (hkind : (channel p n).config.kind ≠ .none) :
    WorksOn n p (judgeLimits n p) := by
  have left (hstate : (channel p n).state ∉ [.unlocking, .movingToA, .movingToB, .waitingStart, .reversing]) :
      WorksOn n p (leaveEnd n p) := by
    simp only [List.mem_cons, List.not_mem_nil, or_false, not_or] at hstate
    obtain ⟨hu, ha, hb, hw, hr⟩ := hstate
    refine leaveEnd_works (h.free hw hkind).1 (h.motor_off ?_) (h.lock_off (by simp [hu, ha, hb, hw]))
    simp [DoorState.inMotion, ha, hb, hr]
  have arrive (hstate : (channel p n).state.inMotion = true) : Free n p :=
    h.free (by rintro hw; rw [hw] at hstate; exact nomatch hstate) hkind
  unfold judgeLimits
  dsimp only
  split
  · exact worksOn_refl h
  · split
    · exact enterFault_safe n _ p
    · split
      case h_1 hstate => split; exacts [worksOn_refl h, left (by rw [hstate]; decide)]
      case h_2 hstate => split; exacts [worksOn_refl h, left (by rw [hstate]; decide)]
      case h_3 hstate => split; exacts [worksOn_refl h, left (by rw [hstate]; decide)]
      case h_4 hstate => exact findLimit_works h (by rw [hstate]; rfl)
      case h_5 hstate => exact findLimit_works h (by rw [hstate]; rfl)
      case h_6 hstate => split; exacts [arriveMove_safe (arrive (by rw [hstate]; rfl)) _, dropLockRel_works h]
      case h_7 hstate => split; exacts [arriveMove_safe (arrive (by rw [hstate]; rfl)) _, dropLockRel_works h]
      case h_8 hstate => split; exacts [arriveReversal_safe (arrive (by rw [hstate]; rfl)), worksOn_refl h]
      case h_9 => exact worksOn_refl h

theorem judgeLock_works {n : ChannelNo} {p : Part} (h : SafeAt n p) (hkind : (channel p n).config.kind ≠ .none) :
    WorksOn n p (judgeLock n p) := by
  unfold judgeLock
  dsimp only
  split
  case h_1 hstate =>
    split
    · exact ⟨finishAt_safe (h.free (by rw [hstate]; decide) hkind).1 (h.motor_off (by rw [hstate]; rfl))
        (h.lock_off (by rw [hstate]; decide)), touches_finishAt n _ _ _⟩
    · exact worksOn_refl h
  case h_2 hstate =>
    split
    · exact worksOn_refl h
    · exact ⟨enterWaiting_safe (h.free (by rw [hstate]; decide) hkind) fun _ => rfl, touches_enterWaiting n _ p⟩
  case h_3 => exact worksOn_refl h

theorem judgeTimers_works {n : ChannelNo} {p : Part} (h : SafeAt n p) (hkind : (channel p n).config.kind ≠ .none) :
    WorksOn n p (judgeTimers n p) := by
  unfold judgeTimers
  dsimp only
  split
  · exact enterFault_safe n _ p
  · split
    · exact enterFault_safe n _ p
    · split
      next hdwell =>
        have hstate : (channel p n).state = .reopenDwell := by
          simp only [dwellOver, Bool.and_eq_true, beq_iff_eq] at hdwell; exact hdwell.1
        exact retryMove_safe (h.free (by rw [hstate]; decide) hkind)
      · exact worksOn_refl h

theorem judgeCurrent_works {n : ChannelNo} {p : Part} (h : SafeAt n p) (hkind : (channel p n).config.kind ≠ .none) :
    WorksOn n p (judgeCurrent n p) := by
  unfold judgeCurrent
  dsimp only
  split
  next hwatch =>
    generalize hrun : obstructionAfter _ _ _ _ = run
    have counted : Touches n p (modChannel n (fun c => { c with obstructionRun := run }) p) := touches_modChannel rfl
    have hstate : (channel p n).state ≠ .waitingStart := by
      intro hw
      simp only [watchesCurrent, hw, Bool.and_eq_true, beq_iff_eq] at hwatch
      generalize (channel p n).config.closingEnd = e at hwatch
      cases e <;> simp [End.movingState] at hwatch
    split
    · have stopped := touches_stopOutputs n (modChannel n (fun c => { c with obstructionRun := run }) p)
      have free := ((h.free hstate hkind).of_touches counted rfl).of_touches stopped (queued_stopOutputs n n _)
      exact ⟨enterWaiting_safe free (by simp), (counted.trans stopped).trans (touches_enterWaiting n _ _)⟩
    · refine ⟨safeAt_same h rfl ?_, counted⟩
      rw [channel_modChannel_same]
      exact ⟨rfl, rfl, rfl, rfl, rfl⟩
  · exact worksOn_refl h

theorem noneState_rest (a b : Bool) : (noneState a b).atRest = true := by
  cases a <;> cases b <;> rfl

/-- Standing where the limits show keeps a channel with its outputs off in order. -/
theorem restIn_none_works {n : ChannelNo} {p : Part} (h : SafeAt n p) (hrest : (channel p n).state.atRest = true) (a b : Bool) :
    WorksOn n p (restIn n (noneState a b) p) := by
  obtain ⟨hmotor, hlock, hqueued⟩ := h.of_none hrest
  refine ⟨?_, touches_restIn n _ p⟩
  have rest := noneState_rest a b
  have waiting : noneState a b ≠ .waitingStart := by cases a <;> cases b <;> decide
  simp [SafeAt, ChannelSafe, hmotor, hlock, hqueued, rest, waiting]

/-- One step of a channel leaves it in order (R78). -/
theorem channelStep_works {n : ChannelNo} {p : Part} (h : SafeAt n p) (x : ChannelInputs) : WorksOn n p (channelStep n x p) := by
  unfold channelStep
  dsimp only
  generalize hsampled : sampleChannel n x _ = q
  have touched : Touches n p q := by
    subst hsampled
    exact Touches.trans (q := { p with clock := { p.clock with stepsTaken := p.clock.stepsTaken.set n true } })
      (touches_of_doors rfl) (touches_modChannel rfl)
  have safe : SafeAt n q := by
    subst hsampled
    refine safeAt_same h rfl ?_
    rw [sampleChannel, channel_modChannel_same]
    exact ⟨rfl, rfl, rfl, rfl, rfl⟩
  split
  next hkind =>
    exact (restIn_none_works safe (safe.rest_of_none (by simpa using hkind)) _ _).after touched
  next hkind =>
    have hkind : (channel q n).config.kind ≠ .none := by simpa using hkind
    have limits := judgeLimits_works safe hkind
    have hkind1 : (channel (judgeLimits n q) n).config.kind ≠ .none := by rw [limits.2.2]; exact hkind
    have lock := judgeLock_works limits.1 hkind1
    have hkind2 : (channel (judgeLock n (judgeLimits n q)) n).config.kind ≠ .none := by rw [lock.2.2]; exact hkind1
    have timers := judgeTimers_works lock.1 hkind2
    have hkind3 : (channel (judgeTimers n (judgeLock n (judgeLimits n q))) n).config.kind ≠ .none := by
      rw [timers.2.2]; exact hkind2
    have current := judgeCurrent_works timers.1 hkind3
    exact current.after (touched.trans (limits.2.trans (lock.2.trans timers.2)))

end Sys2Proof.Machine

namespace Sys2Proof.Machine

/-! ### The orders to the doors -/

theorem doorsSafe_of_others {n : ChannelNo} {p q : Part} (h : DoorsSafe p)
    (others : ∀ m, m ≠ n → channel q m = channel p m ∧ queued m q = queued m p) (safe : SafeAt n q) : DoorsSafe q := by
  rw [doorsSafe_iff] at *
  intro m
  by_cases hm : m = n
  · exact hm ▸ safe
  · obtain ⟨hchannel, hqueued⟩ := others m hm
    rw [SafeAt, hchannel, hqueued]
    exact h m

theorem doorsSafe_of_works {n : ChannelNo} {p q : Part} (h : DoorsSafe p) (works : SafeAt n p → WorksOn n p q) : DoorsSafe q := by
  obtain ⟨hsafe, htouch⟩ := works ((doorsSafe_iff p).mp h n)
  exact doorsSafe_of_touches h htouch hsafe

theorem doorsSafe_leaveFaultAsNone {p : Part} (h : DoorsSafe p) (n : ChannelNo) : DoorsSafe (leaveFaultAsNone n p) := by
  unfold leaveFaultAsNone
  dsimp only
  split
  next hnone =>
    have hstate : (channel p n).state = .fault := by
      simp only [Bool.and_eq_true, beq_iff_eq] at hnone; exact hnone.1
    have rested := doorsSafe_of_works h fun hs => restIn_none_works hs (by rw [hstate]; rfl) (channel p n).limA.high
      (channel p n).limB.high
    exact doorsSafe_of_doors rested (by simp)
  · exact h

theorem doorsSafe_configureDoor {p : Part} (h : DoorsSafe p) {n : ChannelNo} (hrest : (channel p n).state.atRest = true)
    (cfg : DoorConfig) : DoorsSafe (configureDoor n cfg p) := by
  have configured : DoorsSafe (modChannel n (fun c => { c with config := cfg }) p) := by
    refine doorsSafe_of_others h (fun m hm => ⟨channel_modChannel_ne n m _ p hm, rfl⟩) ?_
    obtain ⟨hmotor, hlock, hqueue, honce, -⟩ := (doorsSafe_iff p).mp h n
    simp only [SafeAt, ChannelSafe, channel_modChannel_same, queued_modChannel]
    exact ⟨hmotor, hlock, hqueue, honce, fun _ => hrest⟩
  have announced := doorsSafe_of_doors (q := attend .door (modChannel n (fun c => { c with config := cfg }) p)) configured rfl
  unfold configureDoor
  dsimp only
  have cleared : DoorsSafe (if ((channel p n).config.kind != cfg.kind) = true then
      removeActions (fun a => a.channel == n) false (attend .door (modChannel n (fun c => { c with config := cfg }) p))
      else attend .door (modChannel n (fun c => { c with config := cfg }) p)) := by
    split
    · exact doorsSafe_of_doors announced (by simp)
    · exact announced
  exact doorsSafe_of_doors (doorsSafe_leaveFaultAsNone cleared n) (by simp)

theorem doorsSafe_resetFault {p : Part} (h : DoorsSafe p) {n : ChannelNo} (hstate : (channel p n).state = .fault) :
    DoorsSafe (resetFault n p) := by
  have left (works : ∀ q, WorksOn n p q → DoorsSafe (attend .door (refreshDoorCap (gone .doorFault n.val q)))) :
      DoorsSafe (resetFault n p) := by
    have hs := (doorsSafe_iff p).mp h n
    obtain ⟨hmotor, hlock, hqueued⟩ := hs.of_none (by rw [hstate]; rfl)
    unfold resetFault
    dsimp only
    split
    · exact works _ ⟨standAt_safe hqueued hmotor hlock, touches_standAt n _ p⟩
    · split
      · exact works _ ⟨standAt_safe hqueued hmotor hlock, touches_standAt n _ p⟩
      · refine works _ ⟨?_, touches_modChannel rfl⟩
        simp [SafeAt, ChannelSafe, hqueued, hmotor, hlock, DoorState.atRest]
  exact left fun q hq => doorsSafe_of_doors (doorsSafe_of_works h fun _ => hq) (by simp)

theorem doorsSafe_haltDoor {p : Part} (h : DoorsSafe p) (n : ChannelNo) : DoorsSafe (haltDoor n p) := by
  refine doorsSafe_of_works h fun hs => (haltChannel_works ?_).after (touches_tellOwner n .interrupted p)
  exact safeAt_same hs (queued_tellOwner n n _ p) (by rw [channel_tellOwner_same]; exact ⟨rfl, rfl, rfl, rfl, rfl⟩)

theorem claimForOrder_doors (i : SlotNo) (n : ChannelNo) (q : Part) :
    (claimForOrder i n q).doors =
      (modChannel n (fun c => { c with owner := (channel (claimForOrder i n q) n).owner }) q).doors := by
  have owner : (channel (claimForOrder i n q) n).owner = .order i := by
    rw [claimForOrder, channel_of_doors_eq (setProgress_doors _ _ _), channel_modChannel_same]
  rw [owner]; rfl

theorem claimForAction_doors (a : Action) (q : Part) :
    (claimForAction a q).doors =
      (modChannel a.channel (fun c => { c with owner := (channel (claimForAction a q) a.channel).owner }) q).doors := by
  have owner : (channel (claimForAction a q) a.channel).owner = .action := by
    rw [claimForAction, channel_modChannel_same]
  rw [owner]; rfl

theorem doorsSafe_orderDoorMove {p : Part} (h : DoorsSafe p) (i : SlotNo) (x : Slot) : DoorsSafe (orderDoorMove i x p) := by
  have answered (r : Result) (d : Nat) : DoorsSafe (answer i r d p) := doorsSafe_of_doors h rfl
  unfold orderDoorMove
  split
  · exact answered _ _
  · exact answered _ _
  next n t _ _ =>
    split
    · exact answered _ _
    next hkind =>
      split
      · exact answered _ _
      · split
        · exact answered _ _
        · exact doorsSafe_of_works h fun hs => takeOperation_works (claimForOrder_doors i n) hs (by simpa using hkind)

/-! ### The sequencer and the arbiter -/

theorem doorsSafe_issueAction {p : Part} (h : DoorsSafe p) (a : Action) : DoorsSafe (issueAction a p) := by
  unfold issueAction
  split
  · exact doorsSafe_of_doors h (by simp)
  next hopen =>
    refine doorsSafe_of_works h fun hs => takeOperation_works (claimForAction_doors a) hs ?_
    simp only [Channel.closed, Bool.or_eq_true, beq_iff_eq, not_or] at hopen
    exact hopen.1

theorem doorsSafe_judgeActions (b : Bool) (l : List Action) (c : List ChannelNo) {p : Part} (h : DoorsSafe p) :
    DoorsSafe (judgeActions b c l p).2 := by
  induction l generalizing c p with
  | nil => exact h
  | cons a t ih =>
    simp only [judgeActions]
    split
    · exact ih c h
    · split
      · exact ih c (doorsSafe_of_doors h rfl)
      · split
        · exact ih c (doorsSafe_issueAction h a)
        · split
          · exact ih _ (doorsSafe_issueAction h a)
          · exact ih c h

theorem doorsSafe_judgeSequencer {p : Part} (h : DoorsSafe p) (b : Bool) : DoorsSafe (judgeSequencer b p) :=
  doorsSafe_of_doors (doorsSafe_judgeActions b p.sequencer.actions [] h) rfl

theorem doorsSafe_judgeLaunch {p : Part} (h : DoorsSafe p) : DoorsSafe (judgeLaunch p) := by
  have requested (q : Part) (hq : DoorsSafe q) : DoorsSafe (requestRelease q) := by
    rw [doorsSafe_iff] at *
    intro n
    refine safeAt_same (hq n) ?_ ⟨rfl, rfl, rfl, rfl, rfl⟩
    simp [queued, requestRelease]
  have removed (q : Part) (hq : DoorsSafe q) : DoorsSafe (removeRequest q) := by
    rw [doorsSafe_iff] at *
    intro n
    refine safeAt_same (hq n) ?_ ⟨rfl, rfl, rfl, rfl, rfl⟩
    exact List.count_filter (by simp)
  have noted (f : Launch → Launch) : DoorsSafe (modLaunch f p) := doorsSafe_of_doors h rfl
  unfold judgeLaunch
  dsimp only
  split
  · split
    · exact requested _ (noted _)
    · exact noted _
  · split
    · exact noted _
    · exact removed _ (noted _)
  · exact noted _

theorem doorsSafe_judgeArbiter {p : Part} (h : DoorsSafe p) : DoorsSafe (judgeArbiter p) := by
  unfold judgeArbiter
  split
  · exact h
  next r rest hqueue =>
    split
    · refine doorsSafe_of_doors (p := handGrant r { p with doors := recordGrant r p.clock.now { p.doors with queue := rest } }) ?_ rfl
      have count (m : ChannelNo) (hm : r ≠ .door m) :
          queued m { p with doors := recordGrant r p.clock.now { p.doors with queue := rest } } = queued m p := by
        simp [queued, recordGrant, hqueue, List.count_cons, hm]
      cases r with
      | retainer =>
        refine doorsSafe_of_doors (p := { p with doors := recordGrant .retainer p.clock.now { p.doors with queue := rest } }) ?_
          (by simp [handGrant])
        rw [doorsSafe_iff] at *
        exact fun n => safeAt_same (h n) (count n (by simp)) ⟨rfl, rfl, rfl, rfl, rfl⟩
      | door n =>
        have hs := (doorsSafe_iff p).mp h n
        obtain ⟨-, hlock, hqueue', honce, hnone⟩ := hs
        have hin : queued n p = rest.count (.door n) + 1 := by simp [queued, hqueue]
        have hstate : (channel p n).state = .waitingStart := hqueue'.mp (by omega)
        have free : Free n { p with doors := recordGrant (.door n) p.clock.now { p.doors with queue := rest } } := by
          refine ⟨by simp only [queued, recordGrant]; omega, fun hkind => ?_⟩
          have := hnone hkind
          rw [hstate] at this
          exact nomatch this
        obtain ⟨hsafe, htouch⟩ := startMotion_safe free fun hl => by
          have := hlock hl
          rw [hstate] at this
          exact (by simpa using this : (channel p n).waits = .move)
        refine doorsSafe_of_others (n := n) h (fun m hm => ?_) hsafe
        obtain ⟨hchannel, hcount⟩ := htouch.1 m hm
        exact ⟨hchannel, hcount.trans (count m fun he => hm (Requester.door.inj he).symm)⟩
    · exact h

theorem doorsSafe_settleOnce {p : Part} (h : DoorsSafe p) : DoorsSafe (settleOnce p) := by
  have noted (w : Work) : DoorsSafe { p with work := w } := doorsSafe_of_doors h rfl
  unfold settleOnce
  split
  · exact doorsSafe_judgeLaunch (noted _)
  · split
    · exact doorsSafe_judgeArbiter (noted _)
    · split
      · exact doorsSafe_judgeSequencer (noted _) false
      · exact h

theorem doorsSafe_finish {p : Part} (h : DoorsSafe p) : DoorsSafe (finish p) :=
  doorsSafe_of_doors (settle_keeps (P := DoorsSafe) (fun _ hq => doorsSafe_settleOnce hq) (fun _ hq => doorsSafe_judgeLaunch hq) 64 h)
    (by simp [finish])

/-! ### The passages -/

theorem doorsSafe_sequencerPassage {p : Part} (h : DoorsSafe p) (g : Passage) : DoorsSafe (sequencerPassage g p) := by
  have made (q : Part) := triggered_kept g q
  simp only [ActionKeeps] at made
  unfold sequencerPassage
  refine doorsSafe_judgeSequencer (doorsSafe_of_doors h ?_) true
  (repeat' split) <;> simp [made]

theorem doorsSafe_decideArrival {p : Part} (h : DoorsSafe p) (r : Option Nat) (t : Time) : DoorsSafe (decideArrival r t p) := by
  unfold decideArrival
  split
  · exact doorsSafe_of_doors h (by simp)
  · dsimp only
    refine doorsSafe_sequencerPassage (doorsSafe_of_doors h ?_) _
    (repeat' split) <;> simp

theorem doorsSafe_setMatcher {p : Part} (h : DoorsSafe p) (m : TagMatcher) : DoorsSafe (setMatcher m p) := doorsSafe_of_doors h rfl

theorem doorsSafe_tagArrives {p : Part} (h : DoorsSafe p) (r : Option Nat) : DoorsSafe (tagArrives r p) := by
  unfold tagArrives
  split
  · exact doorsSafe_decideArrival (doorsSafe_setMatcher h _) _ _
  · exact doorsSafe_setMatcher h _

theorem doorsSafe_d1Arrives {p : Part} (h : DoorsSafe p) (t : Time) : DoorsSafe (d1Arrives t p) := by
  unfold d1Arrives
  split
  · exact doorsSafe_setMatcher h _
  · exact doorsSafe_decideArrival (doorsSafe_setMatcher h _) _ _
  · exact doorsSafe_setMatcher (doorsSafe_decideArrival h _ _) _

theorem doorsSafe_endWait {p : Part} (h : DoorsSafe p) : DoorsSafe (endWait p) := by
  unfold endWait
  split
  · exact doorsSafe_decideArrival (doorsSafe_setMatcher h _) _ _
  · exact h

theorem doorsSafe_phantomPassage {p : Part} (h : DoorsSafe p) (k : Nat) (t : Time) : DoorsSafe (phantomPassage k t p) := by
  refine doorsSafe_of_doors h ?_
  unfold phantomPassage
  dsimp only
  split <;> simp

theorem doorsSafe_handPassage {p : Part} (h : DoorsSafe p) (k : Nat) (e : QueueEntry) (n : PassageNote) :
    DoorsSafe (handPassage k e n p) := by
  refine doorsSafe_sequencerPassage (doorsSafe_of_doors h ?_) _
  (repeat' split) <;> simp

theorem doorsSafe_takePassage {p : Part} (h : DoorsSafe p) (k : Nat) (n : PassageNote) : DoorsSafe (takePassage k n p) := by
  have waited : DoorsSafe (if k == 2 then endWait p else p) := by
    split
    · exact doorsSafe_endWait h
    · exact h
  rw [takePassage]
  generalize (if k == 2 then endWait p else p) = q at waited
  split
  · exact doorsSafe_phantomPassage waited _ _
  · exact doorsSafe_handPassage (doorsSafe_of_doors waited (by simp)) _ _ _

theorem doorsSafe_takeExit {p : Part} (h : DoorsSafe p) (t : Time) : DoorsSafe (takeExit t p) := by
  unfold takeExit
  split
  · exact doorsSafe_phantomPassage h _ _
  · dsimp only
    exact doorsSafe_sequencerPassage (doorsSafe_of_doors h (by simp)) _

theorem doorsSafe_withPassage {f : PassageNote → Part → Part} (hf : ∀ n q, DoorsSafe q → DoorsSafe (f n q)) {p : Part}
    (h : DoorsSafe p) (k : Nat) : DoorsSafe (withPassage k f p) := by
  unfold withPassage
  split
  · exact h
  · exact hf _ _ (doorsSafe_of_doors h (by simp))

/-! ### Every effect keeps the doors in order -/

theorem doorsSafe_orderBody {body : Slot → Part → Reply} (hb : OrderBody body) {p : Part} (h : DoorsSafe p) (x : Slot) :
    DoorsSafe (body x p).part := by
  cases hb with
  | doorConfigure =>
    unfold orderDoorConfigure clampedBy
    (repeat' split)
    · exact h
    · exact h
    · exact h
    next n _ _ cfg _ _ hrest _ =>
      simp only [Bool.not_eq_true, Bool.or_eq_false_iff, Bool.not_eq_false'] at hrest
      exact doorsSafe_configureDoor h hrest.2 cfg
    next n _ _ cfg _ _ hrest _ =>
      simp only [Bool.not_eq_true, Bool.or_eq_false_iff, Bool.not_eq_false'] at hrest
      exact doorsSafe_configureDoor h hrest.2 cfg
  | doorHalt =>
    unfold orderDoorHalt
    (repeat' split)
    · exact h
    · exact h
    · exact doorsSafe_haltDoor h _
  | doorResetFault =>
    unfold orderDoorResetFault
    dsimp only
    (repeat' split)
    · exact h
    · exact h
    · exact h
    next hstate _ => exact doorsSafe_resetFault h (by simpa using hstate)
  | startBudgetSet =>
    have budgeted (b w : Nat) : DoorsSafe (setBudget b w p) := by
      rw [doorsSafe_iff] at *
      exact fun n => safeAt_same (h n) rfl ⟨rfl, rfl, rfl, rfl, rfl⟩
    unfold orderStartBudgetSet clampedBy
    dsimp only
    split
    · exact budgeted _ _
    · exact budgeted _ _
  | cabinRegister =>
    refine doorsSafe_of_doors h ?_
    simp only [orderCabinRegister, registerCabin]; (repeat' split) <;> simp [refuse, ok]
  | cabinUnregister =>
    refine doorsSafe_of_doors h ?_
    simp only [orderCabinUnregister]; (repeat' split) <;> simp [refuse, ok]
  | cabinPlace =>
    refine doorsSafe_of_doors h ?_
    simp only [orderCabinPlace]; (repeat' split) <;> simp [refuse, ok]
  | cabinSetService =>
    refine doorsSafe_of_doors h ?_
    simp only [orderCabinSetService]; (repeat' split) <;> simp [refuse, ok]
  | cabinIdentify =>
    refine doorsSafe_of_doors h ?_
    simp only [orderCabinIdentify, identifyEntry]; (repeat' split) <;> simp [refuse, ok]
  | rosterLoad =>
    refine doorsSafe_of_doors h ?_
    simp only [orderRosterLoad]; (repeat' split) <;> simp [refuse, ok]
  | stationQueueLoad =>
    refine doorsSafe_of_doors h ?_
    simp only [orderStationQueueLoad]; (repeat' split) <;> simp [refuse, ok]
  | sensorConfigure =>
    refine doorsSafe_of_doors h ?_
    simp only [orderSensorConfigure, clampedBy]; (repeat' split) <;> simp [refuse, ok]
  | doorProgramLoad =>
    refine doorsSafe_of_doors h ?_
    simp only [orderDoorProgramLoad, clampedBy]; (repeat' split) <;> simp [refuse, ok]
  | cabinDoorConfirm =>
    refine doorsSafe_of_doors h ?_
    simp only [orderCabinDoorConfirm, confirmDoor]; (repeat' split) <;> simp [refuse, ok]
  | stationPrepare =>
    refine doorsSafe_of_doors h ?_
    simp only [orderStationPrepare]; (repeat' split) <;> simp [refuse, okDetail]
  | stationStart =>
    refine doorsSafe_of_doors h ?_
    simp only [orderStationStart, beginStarting]; (repeat' split) <;> simp [refuse, okDetail]
  | stationStop =>
    refine doorsSafe_of_doors h ?_
    simp only [orderStationStop]; (repeat' split) <;> simp [refuse, okDetail]
  | stationFastStop => exact doorsSafe_of_doors h (by simp [orderStationFastStop, okDetail])
  | stationOff =>
    refine doorsSafe_of_doors h ?_
    simp only [orderStationOff]; (repeat' split) <;> simp [refuse, ok]
  | causeAcknowledge =>
    refine doorsSafe_of_doors h ?_
    simp only [orderCauseAcknowledge]; (repeat' split) <;> simp [okDetail]
  | profileWrite =>
    refine doorsSafe_of_doors h ?_
    simp only [orderProfileWrite, clampedBy, writeProfile]; (repeat' split) <;> simp [refuse, ok]
  | profileSwitch =>
    refine doorsSafe_of_doors h ?_
    simp only [orderProfileSwitch, switchInRun]; (repeat' split) <;> simp [refuse, ok, okDetail]
  | lineConfigure =>
    refine doorsSafe_of_doors h ?_
    simp only [orderLineConfigure, clampedBy, configureLine]; (repeat' split) <;> simp [ok]
  | lineDormant =>
    refine doorsSafe_of_doors h ?_
    simp only [orderLineDormant]; (repeat' split) <;> simp [refuse, ok]
  | lineSetIndications =>
    refine doorsSafe_of_doors h ?_
    simp only [orderLineSetIndications]; (repeat' split) <;> simp [refuse, ok]
  | callClear =>
    refine doorsSafe_of_doors h ?_
    simp only [orderCallClear, clearCall]; (repeat' split) <;> simp [refuse, okDetail]
  | callConfigure =>
    refine doorsSafe_of_doors h ?_
    simp only [orderCallConfigure, clampedBy]; (repeat' split) <;> simp [ok]

theorem doorsSafe_heldBody {i : SlotNo} {body : Slot → Part → Part} (hb : HeldBody i body) {p : Part} (h : DoorsSafe p) (x : Slot) :
    DoorsSafe (body x p) := by
  cases hb with
  | doorMove => exact doorsSafe_orderDoorMove h i x
  | lineStart => exact doorsSafe_of_doors h (by simp only [orderLineStart, startLine]; (repeat' split) <;> simp)
  | lineProbe => exact doorsSafe_of_doors h (by simp only [orderLineProbe]; (repeat' split) <;> simp)
  | messageSend => exact doorsSafe_of_doors h (by simp only [orderMessageSend]; (repeat' split) <;> simp)
  | callPlace => exact doorsSafe_of_doors h (by simp only [orderCallPlace]; (repeat' split) <;> simp)

theorem doorsSafe_withdrawMove {p : Part} (h : DoorsSafe p) (i : SlotNo) : DoorsSafe (withdrawMove i p) := by
  unfold withdrawMove
  split
  · exact h
  next n _ =>
    refine doorsSafe_of_works (n := n) h fun hs => (haltChannel_works ?_).after
      (q := answer i .withdrawn 0 (modChannel n (fun c => { c with owner := .none }) p)) ?_
    · refine safeAt_same hs rfl ?_
      rw [channel_of_doors_eq (answer_doors _ _ _ _), channel_modChannel_same]
      exact ⟨rfl, rfl, rfl, rfl, rfl⟩
    · have unowned : Touches n p (modChannel n (fun c => { c with owner := .none }) p) := touches_modChannel rfl
      exact unowned.trans (touches_of_doors rfl)

theorem doorsSafe_writeStateOctet {p : Part} (h : DoorsSafe p) (i : SlotNo) (b : Byte) : DoorsSafe (writeStateOctet i b p) := by
  have told {q : Part} (hq : DoorsSafe q) : DoorsSafe (tellWithdraw i q) := by
    unfold tellWithdraw
    dsimp only
    split
    · exact doorsSafe_withdrawMove hq i
    · refine doorsSafe_of_doors hq ?_
      (repeat' split) <;> simp
  unfold writeStateOctet
  (repeat' split)
  · exact doorsSafe_of_doors h rfl
  · exact h
  · exact doorsSafe_of_doors h rfl
  · exact h
  · exact told (doorsSafe_of_doors h rfl)
  · exact h
  · exact h
  · exact doorsSafe_of_doors h rfl
  · exact h

theorem doorsSafe_writeEffect {f : Part → Part} (hf : WriteEffect f) {p : Part} (h : DoorsSafe p) : DoorsSafe (f p) := by
  cases hf with
  | state i b => exact doorsSafe_writeStateOctet h i b
  | receive r b => exact doorsSafe_of_doors h (by simp only [writeReceiveState]; split <;> simp)
  | _ => exact doorsSafe_of_doors h rfl

theorem doorsSafe_effect {f : Part → Part} (hf : Effect f) {p : Part} (h : DoorsSafe p) : DoorsSafe (f p) := by
  cases hf with
  | order i hb =>
    exact doorsSafe_of_doors (doorsSafe_orderBody hb (doorsSafe_of_doors (q := takeHead i p) h rfl) (slotOf p i)) rfl
  | held i hb =>
    have taken : DoorsSafe (takeHead i p) := doorsSafe_of_doors h rfl
    unfold heldEffect
    split
    · exact doorsSafe_of_doors taken rfl
    · exact doorsSafe_heldBody hb taken _
  | unknownKind i => exact doorsSafe_of_doors h rfl
  | write hw => exact doorsSafe_writeEffect hw h
  | sample x => exact doorsSafe_of_doors h (sampleStep_doors x p)
  | tag r => exact doorsSafe_tagArrives h r
  | arrival => exact doorsSafe_withPassage (fun n _ hq => doorsSafe_d1Arrives hq n.time) h 1
  | passage k => exact doorsSafe_withPassage (fun n _ hq => doorsSafe_takePassage hq k n) h k
  | exit => exact doorsSafe_withPassage (fun n _ hq => doorsSafe_takeExit hq n.time) h 7
  | hook v => exact doorsSafe_of_doors h (by simp only [hookChange]; split <;> simp)
  | door n x => exact doorsSafe_of_works h fun hs => channelStep_works hs x
  | passageExpiry => exact doorsSafe_endWait h
  | actionDue => exact doorsSafe_judgeSequencer h true
  | _ =>
    exact doorsSafe_of_doors h (by simp [secondStep, graceEnds, declareStandstill, noAnswer, cadenceStep, countMillisecond, modClock,
      callSecond, closingEnds, frameStep])

theorem doorsSafe_of_resting {p : Part} (hqueue : p.doors.queue = []) (h : ∀ n, ∃ cfg, channel p n = { config := cfg }) :
    DoorsSafe p := by
  intro n
  obtain ⟨cfg, hn⟩ := h n
  rw [hn, hqueue]
  simp [DoorState.atRest]

theorem channel_afterSoftReset (p : Part) (n : ChannelNo) :
    channel (refreshPins (afterSoftReset p)) n = { config := (channel p n).config } := by
  exact mapTable_get _ _ _

/-! ### Every effect keeps RETAIN within a release -/

/-- The state of the release and RETAIN are the same. -/
abbrev RetainKept (p q : Part) : Prop := q.launch.state = p.launch.state ∧ q.launch.retain = p.launch.retain

theorem RetainSafe.of_kept {p q : Part} (h : RetainSafe p) (kept : RetainKept p q) : RetainSafe q := by
  obtain ⟨hstate, hretain⟩ := kept
  intro hq
  rw [hstate]
  exact h (hretain ▸ hq)

theorem RetainSafe.of_launch {p q : Part} (h : RetainSafe p) (hq : q.launch = p.launch) : RetainSafe q :=
  h.of_kept ⟨by rw [hq], by rw [hq]⟩

theorem retainSafe_off {p : Part} (h : p.launch.retain = false) : RetainSafe p := fun hr => nomatch hr.symm.trans h

theorem judgeWatch_retain (p : Part) : RetainKept p (judgeWatch p) := by
  unfold judgeWatch
  (repeat' split) <;> simp [RetainKept]

theorem retainSafe_judgeLaunch {p : Part} (h : RetainSafe p) : RetainSafe (judgeLaunch p) := by
  have off (hstate : p.launch.state ≠ .releasing) : p.launch.retain = false := by
    by_contra hne; exact hstate (h (by simpa using hne))
  unfold judgeLaunch
  dsimp only
  split
  next hstate =>
    have hoff := off (by simpa using hstate.trans_ne (by decide))
    split <;> exact retainSafe_off (by simpa [requestRelease] using hoff)
  next hstate =>
    have hoff := off (by simpa using hstate.trans_ne (by decide))
    split <;> exact retainSafe_off (by simpa [removeRequest] using hoff)
  next hstate => exact fun _ => hstate

theorem endRelease_retain (p : Part) : (endRelease p).launch.retain = false := rfl

theorem retainSafe_retainerPassage {p : Part} (h : RetainSafe p) (k : Option Nat) (t : Time) : RetainSafe (retainerPassage k t p) := by
  have restarted : RetainSafe (modLaunch (fun l => { l with gapRestarted := true }) p) := h.of_kept ⟨rfl, rfl⟩
  unfold retainerPassage
  dsimp only
  split
  · exact retainSafe_off (by simp [releasePassage, endRelease])
  · split
    · exact restarted.of_kept (by simp [RetainKept, callLaunch])
    · exact restarted.of_kept (by simp [RetainKept, callLaunch])

theorem retainSafe_phantomPassage {p : Part} (h : RetainSafe p) (k : Nat) (t : Time) : RetainSafe (phantomPassage k t p) := by
  have reported : RetainSafe (reportTrack .sequenceFault k .service false p) := h.of_launch (by simp)
  unfold phantomPassage
  dsimp only
  split
  · exact retainSafe_retainerPassage (reported.of_launch (by simp)) _ _
  · exact reported

theorem retainSafe_takePassage {p : Part} (h : RetainSafe p) (k : Nat) (n : PassageNote) : RetainSafe (takePassage k n p) := by
  have waited : RetainSafe (if k == 2 then endWait p else p) := by
    split
    · exact h.of_launch (by simp)
    · exact h
  rw [takePassage]
  generalize (if k == 2 then endWait p else p) = q at waited
  split
  · exact retainSafe_phantomPassage waited _ _
  next e _ =>
    have moved : RetainSafe (recountHold (k == 4) (moveEntry e.serial k n.time q)) := waited.of_launch (by simp)
    have released : RetainSafe (if k == 5 then
        retainerPassage (some e.cabin) n.time (restartGap (recountHold (k == 4) (moveEntry e.serial k n.time q)))
        else recountHold (k == 4) (moveEntry e.serial k n.time q)) := by
      split
      · exact retainSafe_retainerPassage (moved.of_launch (by simp)) _ _
      · exact moved
    refine released.of_launch ?_
    unfold handPassage
    dsimp only
    split <;> simp

theorem retainSafe_takeExit {p : Part} (h : RetainSafe p) (t : Time) : RetainSafe (takeExit t p) := by
  unfold takeExit
  split
  · exact retainSafe_phantomPassage h 7 t
  · exact h.of_launch (by simp [exitCabin]; split <;> simp)

theorem retainSafe_withPassage {f : PassageNote → Part → Part} (hf : ∀ n q, RetainSafe q → RetainSafe (f n q)) {p : Part}
    (h : RetainSafe p) (k : Nat) : RetainSafe (withPassage k f p) := by
  unfold withPassage
  split
  · exact h
  · exact hf _ _ (h.of_launch (by simp))

theorem retainSafe_judgeWatch {p : Part} (h : RetainSafe p) : RetainSafe (judgeWatch p) := h.of_kept (judgeWatch_retain p)

theorem retainSafe_effect {f : Part → Part} (hf : Effect f) {p : Part} (h : RetainSafe p) : RetainSafe (f p) := by
  cases hf with
  | order i hb => exact h.of_launch ((orderBody_kept hb _ _).2.trans rfl)
  | held i hb =>
    refine h.of_launch ?_
    unfold heldEffect
    split
    · rfl
    · exact (heldBody_kept hb _ _).2
  | unknownKind i => exact h.of_launch rfl
  | write hw => exact h.of_launch (writeEffect_kept hw p).2
  | sample x => exact h.of_kept (by rw [sampleStep_eq]; simp [RetainKept])
  | tag r => exact h.of_launch (by simp)
  | arrival => exact retainSafe_withPassage (fun n _ hq => hq.of_launch (by simp)) h 1
  | passage k => exact retainSafe_withPassage (fun n _ hq => retainSafe_takePassage hq k n) h k
  | exit => exact retainSafe_withPassage (fun n _ hq => retainSafe_takeExit hq n.time) h 7
  | retainer =>
    refine retainSafe_judgeWatch fun hr => ?_
    have hr' : p.launch.retInput.settled ≠ some false ∧ p.launch.retain = true := by simpa using hr
    exact h hr'.2
  | pulseOver => exact retainSafe_off rfl
  | releaseOver => exact retainSafe_off rfl
  | closingOver => exact retainSafe_judgeWatch (h.of_kept ⟨rfl, rfl⟩)
  | passageExpiry => exact h.of_launch (by simp)
  | hook v => exact h.of_launch (by simp only [hookChange]; split <;> simp)
  | _ =>
    exact h.of_launch (by simp [secondStep, graceEnds, declareStandstill, noAnswer, cadenceStep, countMillisecond, modClock,
      callSecond, frameStep])

theorem retainSafe_grantRetainer (p : Part) (h : RetainSafe p) : RetainSafe (grantRetainer p) := by
  unfold grantRetainer
  split
  · have granted : RetainSafe (modLaunch (fun l => { l with
        state := .releasing, grantTime := p.clock.now, retain := true, watch := .openAllowed }) p) := fun _ => rfl
    exact (retainSafe_judgeWatch granted).of_kept ⟨rfl, rfl⟩
  · exact h

theorem retainSafe_judgeArbiter {p : Part} (h : RetainSafe p) : RetainSafe (judgeArbiter p) := by
  unfold judgeArbiter
  split
  · exact h
  next r rest _ =>
    split
    · have granted : RetainSafe { p with doors := recordGrant r p.clock.now { p.doors with queue := rest } } := h.of_launch rfl
      cases r with
      | retainer => exact (retainSafe_grantRetainer _ granted).of_launch rfl
      | door n => exact granted.of_launch (by simp [handGrant])
    · exact h

theorem retainSafe_settleOnce {p : Part} (h : RetainSafe p) : RetainSafe (settleOnce p) := by
  have noted (w : Work) : RetainSafe { p with work := w } := h.of_launch rfl
  unfold settleOnce
  split
  · exact retainSafe_judgeLaunch (noted _)
  · split
    · exact retainSafe_judgeArbiter (noted _)
    · split
      · exact (noted { p.work with sequencer := false }).of_launch (by simp)
      · exact h

theorem retainSafe_finish {p : Part} (h : RetainSafe p) : RetainSafe (finish p) :=
  (settle_keeps (P := RetainSafe) (fun _ hq => retainSafe_settleOnce hq) (fun _ hq => retainSafe_judgeLaunch hq) 64 h).of_launch
    (by simp [finish])

/-- Settles O6: each effect and each judgement keeps every channel safe, and RETAIN within a release. -/
theorem doorOutputsOnlyInMotion : Obligations.DoorOutputsOnlyInMotion := fun _ _ hstep =>
  ⟨fun h => step_relates (R := fun p q => DoorsSafe p → DoorsSafe q) (fun _ h => h)
      (fun _ hf _ h => doorsSafe_finish (doorsSafe_effect hf h))
      (fun a d lo hi p h => doorsSafe_finish (writeHalf_relates (R := fun p q => DoorsSafe p → DoorsSafe q) (fun _ h => h)
        (fun _ _ _ f g h => g (f h)) (fun _ hf _ h => doorsSafe_writeEffect hf h) a d lo hi p h))
      (fun _ _ h => doorsSafe_of_doors h rfl)
      (fun _ _ _ _ => doorsSafe_of_resting rfl fun n => ⟨_, channel_afterSoftReset _ n⟩)
      (fun _ _ => doorsSafe_of_resting rfl fun n => ⟨_, channel_default n⟩) hstep h,
    fun h => step_relates (R := fun p q => RetainSafe p → RetainSafe q) (fun _ h => h)
      (fun _ hf _ h => retainSafe_finish (retainSafe_effect hf h))
      (fun a d lo hi p h => retainSafe_finish (writeHalf_relates (R := fun p q => RetainSafe p → RetainSafe q) (fun _ h => h)
        (fun _ _ _ f g h => g (f h)) (fun _ hf q h => h.of_launch (writeEffect_kept hf q).2) a d lo hi p h))
      (fun _ _ h => h.of_launch rfl) (fun _ _ _ _ => retainSafe_off rfl) (fun _ _ => retainSafe_off rfl) hstep h⟩

end Sys2Proof.Machine

/-! What the end of an event leaves of each block, the frame and the answer of an order that follow from it, and the orders and commands
that call for no judgement: cabin records (R19, R20), orders turned away (R193), the attention registers (R191), and the counts of time. -/

namespace Sys2Proof.Machine

/-! ### The end of an event, block by block -/

@[simp] theorem finish_clock (p : Part) : (finish p).clock = (settle 64 p).clock := by simp [finish]
@[simp] theorem finish_track (p : Part) : (finish p).track = (settle 64 p).track := by simp [finish]
@[simp] theorem finish_cabins (p : Part) : (finish p).cabins = (settle 64 p).cabins := by simp [finish]
@[simp] theorem finish_rope (p : Part) : (finish p).rope = (settle 64 p).rope := by simp [finish]
@[simp] theorem finish_sensors (p : Part) : (finish p).sensors = (settle 64 p).sensors := by simp [finish]
@[simp] theorem finish_grip (p : Part) : (finish p).grip = (settle 64 p).grip := by simp [finish]
@[simp] theorem finish_launch (p : Part) : (finish p).launch = (settle 64 p).launch := by simp [finish]
@[simp] theorem finish_doors (p : Part) : (finish p).doors = (settle 64 p).doors := by simp [finish]
@[simp] theorem finish_sequencer (p : Part) : (finish p).sequencer = (settle 64 p).sequencer := by simp [finish]
@[simp] theorem finish_line (p : Part) : (finish p).line = (settle 64 p).line := by simp [finish]
@[simp] theorem finish_messages (p : Part) : (finish p).messages = (settle 64 p).messages := by simp [finish]
@[simp] theorem finish_window (p : Part) :
    (finish p).window = { (settle 64 p).window with attn := attnFor (settle 64 p).window } := by simp [finish]
@[simp] theorem finish_sup (p : Part) : (finish p).sup =
    { (settle 64 p).sup with svcStop := svcStopFor (settle 64 p).sup, fastStop := fastStopFor (settle 64 p).sup } := by simp [finish]

/-- Tones that follow the calls stay through the end of an event. -/
theorem finish_calls {p : Part} (h : TonesFollow (settle 64 p)) : (finish p).calls = (settle 64 p).calls := by
  have h0 : (callSlot { settle 64 p with work := {} } 0).tone = toneFor (callSlot { settle 64 p with work := {} } 0) := h 0
  have h1 : (callSlot { settle 64 p with work := {} } 1).tone = toneFor (callSlot { settle 64 p with work := {} } 1) := h 1
  rw [finish, refreshTone_same 0 _ h0, refreshTone_same 1 _ h1]; rfl

theorem callSlot_refreshTone (v : VoiceNo) (p : Part) :
    callSlot (refreshTone v p) v = { callSlot p v with
      tone := toneFor (callSlot p v), toneSince := (callSlot (refreshTone v p) v).toneSince } := by
  unfold refreshTone
  dsimp only
  split
  next h => rw [eq_of_beq h]
  next => rw [callSlot_modCall_same]

/-- A call slot after the end of an event: its tone follows its state (R174). -/
theorem callSlot_finish (p : Part) (v : VoiceNo) :
    callSlot (finish p) v = { callSlot (settle 64 p) v with
      tone := toneFor (callSlot (settle 64 p) v), toneSince := (callSlot (finish p) v).toneSince } := by
  have pins (q : Part) : callSlot (refreshPins q) v = callSlot q v := rfl
  have worked : callSlot { settle 64 p with work := {} } v = callSlot (settle 64 p) v := rfl
  rw [finish, pins]
  match v with
  | 0 => rw [refreshTone_other 1 0 _ (by decide), callSlot_refreshTone, worked]
  | 1 => rw [callSlot_refreshTone, refreshTone_other 0 1 _ (by decide), worked]

@[simp] theorem slotOf_finish (p : Part) (i : SlotNo) : slotOf (finish p) i = slotOf (settle 64 p) i := by simp [slotOf]
@[simp] theorem channel_finish (p : Part) (n : ChannelNo) : channel (finish p) n = channel (settle 64 p) n :=
  channel_of_doors_eq (finish_doors p) n
@[simp] theorem cabin_finish (p : Part) (k : Nat) : cabin (finish p) k = cabin (settle 64 p) k := cabin_of_cabins_eq (finish_cabins p) k

theorem settle_of_quiet {p : Part} (h : p.work = {}) : settle 64 p = p := settle_quiet 64 p (by rw [h]; rfl)

/-- The frame of an event: each block that it names as kept is the same before the pins and tones follow. -/
theorem frame_finish {changed : List Block} {s : State} {q : Part} (hready : Ready s)
    (h : ∀ b ∈ Block.all, b ∉ changed → Part.same b s.part (settle 64 q)) : Frame changed s { s with part := finish q } := by
  obtain ⟨-, -, ⟨hsvc, hfast, hattn⟩, htones⟩ := hready
  refine ⟨rfl, rfl, rfl, rfl, finish_steady q, fun b hb hc => ?_⟩
  have hsame := h b hb hc
  cases b with
  | window => simpa [Part.same, show (settle 64 q).window = s.part.window from hsame] using congrArg (fun a => { s.part.window with attn := a }) hattn.symm
  | sup =>
    have hsup : (settle 64 q).sup = s.part.sup := hsame
    simp only [Part.same, finish_sup, hsup, ← hsvc, ← hfast]
  | calls =>
    have hcalls : (settle 64 q).calls = s.part.calls := hsame
    refine (finish_calls fun v => ?_).trans hcalls
    rw [callSlot_of_calls_eq hcalls]
    exact htones v
  | _ => simpa [Part.same] using hsame

/-! ### The answer of an order that calls for no judgement -/

/-- The window of a part whose block has set attention bits at most, the order answered and the event ended (R191, R194). -/
theorem answersOnly_finish {i : SlotNo} {r : Result} {d : Nat} {bits : Half} {s : State} {q : Part} (hwork : q.work = {})
    (hwindow : q.window = { (takeHead i s.part).window with attention := s.part.window.attention ||| bits }) :
    AnswersOnly i r d bits s { s with part := finish (answer i r d q) } := by
  have hquiet : settle 64 (answer i r d q) = answer i r d q := settle_of_quiet hwork
  have hslot (j : SlotNo) : slotOf q j = slotOf (takeHead i s.part) j := by rw [slotOf, hwindow, slotOf]
  obtain ⟨hintake, hlatch, hattention, hmask, henable, -, hresets⟩ := answer_window i r d q
  obtain ⟨tintake, tlatch, -, tmask, tenable, tresets⟩ := takeHead_window i s.part
  have hattn : (finish (answer i r d q)).window.attention = s.part.window.attention ||| 1 ||| bits := by
    rw [finish_window, hquiet, hattention, hwindow, BitVec.or_assoc, BitVec.or_comm bits, BitVec.or_assoc]
  refine ⟨⟨?slot, ?intake, ?done⟩, ⟨?others, ?latch, ?mask, ?enable, ?resets⟩, hattn⟩
  case slot => rw [slotOf_finish, hquiet, slotOf_answer_same, hslot, slotOf_takeHead_same]
  case others => intro j hj; rw [slotOf_finish, hquiet, slotOf_answer_ne _ _ _ _ _ hj, hslot, slotOf_takeHead_ne _ _ _ hj]
  case done => rw [hattn]; simp
  case intake => rw [finish_window, hquiet, hintake, hwindow, tintake]
  case latch => rw [finish_window, hquiet, hlatch, hwindow, tlatch]
  case mask => rw [finish_window, hquiet, hmask, hwindow, tmask]
  case enable => rw [finish_window, hquiet, henable, hwindow, tenable]
  case resets => rw [finish_window, hquiet, hresets, hwindow, tresets]

/-- The part when its order has been answered: no block but the window differs. -/
theorem same_answer (i : SlotNo) (r : Result) (d : Nat) {p q : Part} {b : Block} (hwindow : b ≠ .window) (h : Part.same b p q) :
    Part.same b p (answer i r d q) := by
  cases b with
  | window => exact absurd rfl hwindow
  | _ => exact h

/-- The frame of an order answered with no judgement called for. -/
theorem frame_answered {i : SlotNo} {r : Result} {d : Nat} {s : State} {q : Part} {changed : List Block} (hready : Ready s)
    (hwork : q.work = {}) (hkept : ∀ b, b ≠ .window → b ∉ changed → Part.same b s.part q) :
    Frame (.window :: changed) s { s with part := finish (answer i r d q) } := by
  refine frame_finish hready fun b _ hb => ?_
  rw [List.mem_cons, not_or] at hb
  rw [settle_of_quiet (p := answer i r d q) hwork]
  exact same_answer i r d hb.1 (hkept b hb.1 hb.2)

/-- An order answered at once whose block calls for no judgement, sets attention bits at most, and changes blocks `changed` besides: it is
answered, and the rest of the part is kept. -/
theorem atOnce_quiet {i : SlotNo} {k : Byte} {body : Slot → Part → Reply} {s : State} {rep : Reply} {bits : Half}
    {changed : List Block} (hnext : OrderNext i k s) (hbody : body (slotOf s.part i) (takeHead i s.part) = rep)
    (hwork : rep.part.work = {})
    (hwindow : rep.part.window = { (takeHead i s.part).window with attention := s.part.window.attention ||| bits })
    (hkept : ∀ b, b ≠ .window → b ∉ changed → Part.same b s.part rep.part) :
    ∃ t, atOnce i k body s = .next t ∧ AnswersOnly i rep.result rep.detail bits s t ∧ Frame (.window :: changed) s t ∧
      t.part = finish (answer i rep.result rep.detail rep.part) := by
  obtain ⟨hready, hhead, hkind⟩ := hnext
  refine ⟨_, atOnce_acts hready.1 hhead hkind, ?_⟩
  rw [hbody]
  exact ⟨answersOnly_finish hwork hwindow, frame_answered hready hwork hkept, rfl⟩

/-- An order answered from the intake as it stands. -/
theorem refuses_finish {i : SlotNo} {r : Result} {d : Nat} {s : State} (hready : Ready s) :
    Refuses i r d s { s with part := finish (answer i r d (takeHead i s.part)) } :=
  ⟨answersOnly_finish hready.2.1 (by simp [takeHead]),
    frame_answered hready hready.2.1 fun b hb _ => same_takeHead i s.part hb⟩

/-- A long-running order that its block turns away changes nothing but the slot (R194). -/
theorem longRunning_refuses {i : SlotNo} {k : Byte} {body : Slot → Part → Part} {s : State} {r : Result} {d : Nat}
    (hnext : LongOrderNext i k s) (hbody : body (slotOf s.part i) (takeHead i s.part) = answer i r d (takeHead i s.part)) :
    ∃ t, longRunning i k body s = .next t ∧ Refuses i r d s t := by
  obtain ⟨⟨hready, hhead, hkind⟩, hroom⟩ := hnext
  exact ⟨_, longRunning_acts hready.1 hhead hkind hroom, by rw [hbody]; exact refuses_finish hready⟩

/-! ### CABIN_UNREGISTER, CABIN_PLACE and CABIN_SET_SERVICE (R19, R20) -/

theorem listed_iff (c : CabinRecord) : c.listed = true ↔ c.place = .inStation ∨ c.place = .onLine := by
  simp [CabinRecord.listed]

theorem orderCabinUnregister_outside {x : Slot} (p : Part) (hk : isCabin (octet x 0) = false) :
    orderCabinUnregister x p = refuse .refusedRange 0 p := by
  simp [orderCabinUnregister, hk]

theorem orderCabinUnregister_state {x : Slot} {p : Part} (hk : isCabin (octet x 0) = true)
    (h : p.sup.mode ≠ .off ∨ (cabin p (octet x 0)).registered = false ∨ (cabin p (octet x 0)).place = .inStation ∨
      (cabin p (octet x 0)).place = .onLine) :
    orderCabinUnregister x p = refuse .refusedState 0 p := by
  simp only [orderCabinUnregister, hk]
  rw [if_neg (by simp), if_pos]
  simpa [isOff, CabinRecord.listed, or_assoc] using h

theorem orderCabinUnregister_off {x : Slot} {p : Part} (hk : isCabin (octet x 0) = true) (hmode : p.sup.mode = .off)
    (hreg : (cabin p (octet x 0)).registered = true) (hstation : (cabin p (octet x 0)).place ≠ .inStation)
    (hline : (cabin p (octet x 0)).place ≠ .onLine) :
    orderCabinUnregister x p =
      ok (modCabin (octet x 0) (fun c => { c with registered := false, inService := false, place := .unknown, mark := .none }) p) := by
  simp [orderCabinUnregister, hk, isOff_iff, hmode, hreg, CabinRecord.listed, hstation, hline]

theorem orderCabinPlace_outside {x : Slot} (p : Part) (hk : isCabin (octet x 0) = false ∨ 1 < octet x 1) :
    orderCabinPlace x p = refuse .refusedRange 0 p := by
  have unread (h : 1 < octet x 1) : readPlace (octet x 1) = none := by
    unfold readPlace; split <;> first | omega | rfl
  obtain hk | hk := hk
  · simp [orderCabinPlace, hk]
  · simp [orderCabinPlace, unread hk]

/-- The place that CABIN_PLACE gives. -/
theorem readPlace_eq {n : Nat} (h : n ≤ 1) : readPlace n = some (if n = 1 then .garaged else .unknown) := by
  interval_cases n <;> rfl

theorem orderCabinPlace_state {x : Slot} {p : Part} (hk : isCabin (octet x 0) = true) (hplace : octet x 1 ≤ 1)
    (h : p.sup.mode ≠ .off ∨ (cabin p (octet x 0)).registered = false ∨ (cabin p (octet x 0)).place = .inStation ∨
      (cabin p (octet x 0)).place = .onLine) :
    orderCabinPlace x p = refuse .refusedState 0 p := by
  simp only [orderCabinPlace, hk, readPlace_eq hplace]
  rw [if_neg (by simp), if_pos]
  simpa [isOff, CabinRecord.listed, or_assoc] using h

theorem orderCabinPlace_off {x : Slot} {p : Part} (hk : isCabin (octet x 0) = true) (hplace : octet x 1 ≤ 1)
    (hmode : p.sup.mode = .off) (hreg : (cabin p (octet x 0)).registered = true)
    (hstation : (cabin p (octet x 0)).place ≠ .inStation) (hline : (cabin p (octet x 0)).place ≠ .onLine) :
    orderCabinPlace x p =
      ok (modCabin (octet x 0) (fun c => { c with place := if octet x 1 = 1 then .garaged else .unknown }) p) := by
  simp [orderCabinPlace, hk, readPlace_eq hplace, isOff_iff, hmode, hreg, CabinRecord.listed, hstation, hline, setPlace]

/-- Settles O14: each order is refused by its first failing check, and otherwise its one effect is the change of the record. -/
theorem cabinUnregisterAndPlace : Obligations.CabinUnregisterAndPlace := by
  refine fun i s => ⟨fun hnext => ⟨?outside, ?state, ?off⟩, fun hnext => ⟨?placeOutside, ?placeState, ?placeOff⟩⟩
  case outside => exact fun hk => atOnce_refuses hnext (orderCabinUnregister_outside _ hk)
  case state => exact fun hk h => atOnce_refuses hnext (orderCabinUnregister_state hk h)
  case off => exact fun hk hm hr hs hl => atOnce_modCabin hnext hk (orderCabinUnregister_off hk hm hr hs hl)
  case placeOutside => exact fun hk => atOnce_refuses hnext (orderCabinPlace_outside _ hk)
  case placeState => exact fun hk hp h => atOnce_refuses hnext (orderCabinPlace_state hk hp h)
  case placeOff => exact fun hk hp hm hr hs hl => atOnce_modCabin hnext hk (orderCabinPlace_off hk hp hm hr hs hl)

theorem orderCabinSetService_unregistered {x : Slot} {p : Part} (hk : isCabin (octet x 0) = true)
    (hreg : (cabin p (octet x 0)).registered = false) : orderCabinSetService x p = refuse .refusedState 0 p := by
  simp [orderCabinSetService, hk, hreg]

theorem orderCabinSetService_registered {x : Slot} {p : Part} (hk : isCabin (octet x 0) = true)
    (hreg : (cabin p (octet x 0)).registered = true) :
    orderCabinSetService x p = ok (modCabin (octet x 0) (fun c => { c with inService := octet x 1 != 0 }) p) := by
  simp [orderCabinSetService, hk, hreg, flag]

/-- Settles O15: the flag is read as non-zero, and no mode is asked for. -/
theorem cabinSetServiceSetsTheFlag : Obligations.CabinSetServiceSetsTheFlag := by
  refine fun i s hnext => ⟨?outside, ?unregistered, ?sets⟩
  case outside => exact fun hk => atOnce_refuses hnext (by simp [orderCabinSetService, hk])
  case unregistered => exact fun hk hr => atOnce_refuses hnext (orderCabinSetService_unregistered hk hr)
  case sets => exact fun hk hr => atOnce_modCabin hnext hk (orderCabinSetService_registered hk hr)

/-! ### Orders turned away by the intake (R193) -/

theorem longRunning_full {i : SlotNo} {k : Byte} {s : State} (hready : Ready s) (hhead : s.part.window.intake.head? = some i)
    (hfull : 24 ≤ longOrdersHeld s.part.window) (hkind : (slotOf s.part i).kind = k) (body : Slot → Part → Part) :
    ∃ t, longRunning i k body s = .next t ∧ Refuses i .noCapacity 0 s t :=
  ⟨_, longRunning_turned_away hready.1 hhead hkind hfull, refuses_finish hready⟩

theorem unknownKind_refuses {i : SlotNo} {s : State} (hready : Ready s) (hhead : s.part.window.intake.head? = some i)
    (hkind : knownKind (slotOf s.part i).kind = false) : ∃ t, execUnknownKind i s = .next t ∧ Refuses i .unknownKind 0 s t :=
  ⟨_, occurs_acts hready.1 (by simp [orderNext, hhead, hkind]), refuses_finish hready⟩

/-- Settles O21. -/
theorem ordersTurnedAwayByTheIntake : Obligations.OrdersTurnedAwayByTheIntake :=
  ⟨fun _ _ hready hhead hkind => unknownKind_refuses hready hhead hkind, fun _ _ hready hhead hfull =>
    ⟨fun hkind => longRunning_full hready hhead hfull hkind _, fun hkind => longRunning_full hready hhead hfull hkind _,
      fun hkind => longRunning_full hready hhead hfull hkind _, fun hkind => longRunning_full hready hhead hfull hkind _,
      fun hkind => longRunning_full hready hhead hfull hkind _⟩⟩

/-! ### Events that call for no judgement -/

/-- An event that calls for no judgement: its effect, and the pins and tones. -/
theorem occurs_quiet {g : Part → Bool} {f : Part → Part} {s : State} {changed : List Block} (hready : Ready s) (hg : g s.part = true)
    (hwork : (f s.part).work = {}) (hkept : ∀ b ∈ Block.all, b ∉ changed → Part.same b s.part (f s.part)) :
    ∃ t, occurs g f s = .next t ∧ Frame changed s t ∧ t.part = finish (f s.part) ∧ settle 64 (f s.part) = f s.part := by
  have hquiet := settle_of_quiet hwork
  exact ⟨_, occurs_acts hready.1 hg, frame_finish hready (by rwa [hquiet]), rfl, hquiet⟩

/-! ### MESSAGE_SEND (R167) -/

/-- The message that a MESSAGE_SEND of `n` octets adds to the list. -/
def sendMessage (i : SlotNo) (n : Nat) (x : Slot) (p : Part) : Part :=
  setProgress i 0 (modMsg (fun m => { m with waiting := m.waiting ++ [{ slot := i, octets := messageOctets x n }] }) p)

theorem orderMessageSend_length {i : SlotNo} {x : Slot} (p : Part) (h : word16 x 0 = 0 ∨ 64 < word16 x 0) :
    orderMessageSend i x p = answer i .refusedRange 1 p := by
  have : (word16 x 0 == 0 || Config.messageMax < word16 x 0) = true := by simpa [Config.messageMax] using h
  simp only [orderMessageSend, this, if_true]

theorem orderMessageSend_type {i : SlotNo} {x : Slot} (p : Part) (hlo : 1 ≤ word16 x 0) (hhi : word16 x 0 ≤ 64)
    (h : octet x 2 = 0 ∨ 127 < octet x 2) : orderMessageSend i x p = answer i .refusedRange 2 p := by
  have hlen : ¬ (word16 x 0 == 0 || Config.messageMax < word16 x 0) = true := by simp [Config.messageMax]; omega
  have htype : (!(1 ≤ octet x 2 && octet x 2 ≤ 0x7F)) = true := by simp; omega
  simp only [orderMessageSend, hlen, htype, if_true]; rfl

theorem orderMessageSend_sends {i : SlotNo} {x : Slot} (p : Part) (hlo : 1 ≤ word16 x 0) (hhi : word16 x 0 ≤ 64)
    (h1 : 1 ≤ octet x 2) (h2 : octet x 2 ≤ 127) : orderMessageSend i x p = sendMessage i (word16 x 0) x p := by
  have hlen : ¬ (word16 x 0 == 0 || Config.messageMax < word16 x 0) = true := by simp [Config.messageMax]; omega
  have htype : ¬ (!(1 ≤ octet x 2 && octet x 2 ≤ 0x7F)) = true := by simp; omega
  simp only [orderMessageSend, hlen, htype]; rfl

theorem slotOf_setProgress_same (i : SlotNo) (n : Nat) (p : Part) :
    slotOf (setProgress i n p) i = { slotOf p i with progress := BitVec.ofNat 16 n } := slotOf_modSlot_same i _ p

theorem slotOf_setProgress_ne (i j : SlotNo) (n : Nat) (p : Part) (h : j ≠ i) : slotOf (setProgress i n p) j = slotOf p j :=
  slotOf_modSlot_ne i j _ p h

/-- A long-running order that its block holds, with its progress written: slot and window at the end of an event that calls for no
judgement. -/
theorem holds_finish {i : SlotNo} {n : Half} {a : Half} {s : State} {q : Part} (hwork : q.work = {})
    (hslot : slotOf q i = { slotOf s.part i with state := .taken, progress := n })
    (hothers : ∀ j, j ≠ i → slotOf q j = slotOf s.part j)
    (hwindow : q.window = { s.part.window with slots := q.window.slots, intake := s.part.window.intake.tail, attention := a }) :
    Holds i s { s with part := finish q } ∧ (slotOf (finish q) i).progress = n ∧ WindowFrame i s { s with part := finish q } ∧
      (finish q).window.attention = a := by
  have hquiet : settle 64 q = q := settle_of_quiet hwork
  have hshown (j : SlotNo) : slotOf (finish q) j = slotOf q j := by rw [slotOf_finish, hquiet]
  have hfinish : (finish q).window = { q.window with attn := attnFor q.window } := by rw [finish_window, hquiet]
  refine ⟨⟨?_, ?_, ?_, ?_⟩, ?_, ⟨fun j hj => ?_, ?_, ?_, ?_, ?_⟩, ?_⟩
  · rw [hshown, hslot]
  · rw [hshown, hslot]
  · rw [hshown, hslot]
  · rw [hfinish, hwindow]
  · rw [hshown, hslot]
  · rw [hshown, hothers j hj]
  all_goals rw [hfinish, hwindow]

theorem slotOf_modMsg (f : Messages → Messages) (p : Part) (j : SlotNo) : slotOf (modMsg f p) j = slotOf p j := rfl

/-- Settles O34. -/
theorem messageSendJoinsTheList : Obligations.MessageSendJoinsTheList := by
  intro i s hnext
  refine ⟨fun h => longRunning_refuses hnext (orderMessageSend_length _ h),
    fun hlo hhi h => longRunning_refuses hnext (orderMessageSend_type _ hlo hhi h), fun hlo hhi h1 h2 => ?_⟩
  obtain ⟨⟨hready, hhead, hkind⟩, hroom⟩ := hnext
  refine ⟨_, longRunning_acts hready.1 hhead hkind hroom, ?_⟩
  rw [orderMessageSend_sends _ hlo hhi h1 h2]
  set q := sendMessage i (param16 i s 0) (slotOf s.part i) (takeHead i s.part) with hq
  have hquiet : settle 64 q = q := settle_of_quiet hready.2.1
  obtain ⟨hholds, hprogress, hwindow, hattention⟩ := holds_finish (i := i) (n := 0) (a := s.part.window.attention) (s := s) (q := q)
    hready.2.1 (by rw [hq, sendMessage, slotOf_setProgress_same, slotOf_modMsg, slotOf_takeHead_same]; rfl)
    (fun j hj => by rw [hq, sendMessage, slotOf_setProgress_ne _ _ _ _ hj, slotOf_modMsg, slotOf_takeHead_ne _ _ _ hj]) rfl
  have hframe : Frame [.window, .messages] s { s with part := finish q } := frame_finish hready fun b _ hb => by
    rw [hquiet]
    cases b with
    | window => simp at hb
    | messages => simp at hb
    | _ => rfl
  refine ⟨hholds, hprogress, hwindow, hattention, hframe,
    ⟨{ slot := i, octets := messageOctets (slotOf s.part i) (param16 i s 0) }, rfl, ?_, fun j hj => ?_, ?_⟩, ?_⟩
  · simp [messageOctets]
  · simp [messageOctets, hj]
  · rw [finish_messages, hquiet]; rfl
  · rw [finish_messages, hquiet]; rfl

/-! ### The attention registers (R190, R191) -/

/-- A command that changes the window alone. -/
theorem window_acts {s : State} (hready : Ready s) {f : Part → Part} (w : Window) (h : f s.part = { s.part with window := w }) :
    ∃ t, occurs (fun _ => true) f s = .next t ∧ t.part.window = { w with attn := t.part.window.attn } ∧
      t.part.window.attn = attnFor t.part.window ∧ Frame [.window] s t := by
  have hquiet : settle 64 (f s.part) = f s.part := settle_of_quiet (by rw [h]; exact hready.2.1)
  refine ⟨_, occurs_acts hready.1 rfl, ?_, (finish_pins _).2.2, frame_finish hready fun b _ hb => ?_⟩
  · rw [finish_window, hquiet, h]
  · rw [hquiet, h]
    cases b with
    | window => simp at hb
    | _ => rfl

/-- Settles O38: each command changes one register, and ATTN follows at the event's end. -/
theorem attentionRegistersAndTheAttnOutput : Obligations.AttentionRegistersAndTheAttnOutput := fun bits on _ hready =>
  ⟨window_acts hready (f := clearAttention bits) _ rfl, window_acts hready (f := setMask bits) _ rfl,
    window_acts hready (f := setAttnEnable on) _ rfl⟩

/-! ### The counts of time (R8, R179, R199) -/


/-- Settles O40. -/
theorem countsOfTime : Obligations.CountsOfTime := by
  refine ⟨fun s hready => ?millisecond, fun s hready => ⟨fun hwhole hzero htaken => ?second, fun v hstate hdue => ?duration⟩⟩
  case millisecond =>
    obtain ⟨t, hrun, hframe, ht, hquiet⟩ := occurs_quiet (g := fun _ => true) (f := countMillisecond) (changed := [.clock]) hready rfl
      hready.2.1 fun b _ hb => by
        cases b with
        | clock => simp at hb
        | _ => rfl
    exact ⟨t, hrun, by rw [ht, finish_clock, hquiet]; rfl, by rw [ht, finish_clock, hquiet]; rfl, hframe⟩
  case second =>
    obtain ⟨t, hrun, hframe, ht, hquiet⟩ := occurs_quiet (g := secondDue) (f := secondStep) (changed := [.clock, .track]) hready
      (by simpa [secondDue, isSecondTime, hwhole, htaken] using hzero) hready.2.1 fun b _ hb => by
        cases b with
        | clock => simp at hb
        | track => simp at hb
        | _ => rfl
    exact ⟨t, hrun, hframe, by rw [ht, finish_clock, hquiet]; rfl, by rw [ht, finish_track, hquiet]; rfl⟩
  case duration =>
    obtain ⟨t, hrun, hframe, ht, hquiet⟩ := occurs_quiet (g := callSecondDue v) (f := callSecond v) (changed := [.calls]) hready
      (by simp [callSecondDue, hstate, hdue]) hready.2.1 fun b _ hb => by
        cases b with
        | calls => simp at hb
        | _ => rfl
    have hcalls : t.part.calls = (callSecond v s.part).calls := by
      rw [ht, finish_calls, hquiet]
      rw [hquiet]
      intro u
      by_cases hu : u = v
      · subst hu
        rw [callSecond, callSlot_modCall_same]
        exact hready.2.2.2 u
      · rw [callSecond, callSlot_modCall_ne v u _ _ hu]
        exact hready.2.2.2 u
    refine ⟨t, hrun, hframe, fun u hu => ?_, ?_⟩
    · rw [callSlot_of_calls_eq hcalls, callSecond, callSlot_modCall_ne v u _ _ hu]
    · rw [callSlot_of_calls_eq hcalls, callSecond, callSlot_modCall_same]
      rfl

end Sys2Proof.Machine

/-! The judgements at the end of an event where none can start a door: what they leave. -/

namespace Sys2Proof.Machine

/-! ### Nothing is due -/

/-- The Door Sequencer leaves a list of which no action is taken up. -/
theorem judgeActions_none {b : Bool} {l : List Action} {p : Part} (h : ∀ a ∈ l, takenUp b p.clock.now a = false)
    (served : List ChannelNo) : judgeActions b served l p = (l, p) := by
  induction l with
  | nil => rfl
  | cons a t ih =>
    have htail := ih fun x hx => h x (List.mem_cons_of_mem a hx)
    simp [judgeActions, h a List.mem_cons_self, htail]

theorem judgeSequencer_none {b : Bool} {p : Part} (h : ∀ a ∈ p.sequencer.actions, takenUp b p.clock.now a = false) :
    judgeSequencer b p = p := by
  rw [judgeSequencer, judgeActions_none h]; rfl

theorem judgeSequencer_waitless {p : Part} (h : ∀ a ∈ p.sequencer.actions, a.dueWaiting = false) : judgeSequencer false p = p :=
  judgeSequencer_none fun a ha => by simp [takenUp, h a ha]

/-! ### Outside RUN -/

theorem holdReason_outside_run {p : Part} (h : p.sup.mode ≠ .run) : holdReason p = .mode := by
  have : (p.sup.mode != .run) = true := by simpa using h
  simp only [holdReason, this, if_true]

/-- The launch state and the start queue after a judgement that asks for no release. -/
abbrev LaunchAlone (p q : Part) : Prop :=
  q = { p with launch := q.launch, doors := { p.doors with queue := q.doors.queue }, work := q.work } ∧
    q.doors.queue.Sublist p.doors.queue

theorem judgeLaunch_outside_run {p : Part} (h : p.sup.mode ≠ .run) :
    LaunchAlone p (judgeLaunch p) ∧ (judgeLaunch p).work = p.work ∧ (judgeLaunch p).launch.state ≠ .requested := by
  have hmode : ¬ (holdReason p == .none) = true := by rw [holdReason_outside_run h]; decide
  unfold judgeLaunch
  dsimp only
  split
  next hidle => rw [if_neg hmode]; exact ⟨⟨rfl, List.Sublist.refl _⟩, rfl, fun h => nomatch hidle.symm.trans h⟩
  next => rw [if_neg hmode]; exact ⟨⟨rfl, List.filter_sublist⟩, rfl, fun h => nomatch h⟩
  next hreleasing => exact ⟨⟨rfl, List.Sublist.refl _⟩, rfl, fun h => nomatch hreleasing.symm.trans h⟩

/-- Outside RUN, Launch Control's judgement alone leaves all but its own state and its place in the start queue. -/
theorem settle_outside_run {p : Part} (hmode : p.sup.mode ≠ .run) (harbiter : p.work.arbiter = false)
    (hsequencer : p.work.sequencer = false) :
    LaunchAlone p (settle 64 p) ∧ (p.work.launch = true → (settle 64 p).launch.state ≠ .requested) := by
  by_cases hlaunch : p.work.launch = true
  · have once : settleOnce p = judgeLaunch { p with work := { p.work with launch := false } } := by simp [settleOnce, hlaunch]
    obtain ⟨hall, hwork, hstate⟩ := judgeLaunch_outside_run (p := { p with work := { p.work with launch := false } }) hmode
    have hquiet : (judgeLaunch { p with work := { p.work with launch := false } }).work = {} := by
      rw [hwork]; simp [harbiter, hsequencer]
    have hrest : settle 64 p = judgeLaunch { p with work := { p.work with launch := false } } := by
      rw [settle, if_neg (by simp [Work.quiet, hlaunch]), once, settle_quiet _ _ (by rw [hquiet]; rfl)]
    rw [hrest]
    exact ⟨hall, fun _ => hstate⟩
  · rw [settle_quiet 64 p (by simp [Work.quiet, hlaunch, harbiter, hsequencer])]
    exact ⟨⟨rfl, List.Sublist.refl _⟩, fun h => absurd h hlaunch⟩

/-! ### Nothing waits -/

/-- Attention bits that stood still stand. -/
abbrev BitsStay (w v : Window) : Prop := ∀ n, w.attention.getLsbD n = true → v.attention.getLsbD n = true

/-- What a release that is requested, granted or taken back leaves: everything but Launch Control, the retainer's places in the arbiter, the
attention bits, and a RELEASE_TIMEOUT condition that the grant ends. -/
abbrev CalmKept (p q : Part) : Prop :=
  q.window = { p.window with attention := q.window.attention } ∧ BitsStay p.window q.window ∧ q.clock = p.clock ∧ q.track = p.track ∧
    q.cabins = p.cabins ∧ q.rope = p.rope ∧ q.sensors = p.sensors ∧ q.grip = p.grip ∧ q.doors.channels = p.doors.channels ∧
    q.sequencer = p.sequencer ∧ q.sup = { p.sup with causes := q.sup.causes, present := q.sup.present } ∧
    q.sup.causes.filter (fun c => c.kind != .releaseTimeout) = p.sup.causes.filter (fun c => c.kind != .releaseTimeout) ∧
    q.sup.present.filter (fun c => c.kind != .releaseTimeout) = p.sup.present.filter (fun c => c.kind != .releaseTimeout) ∧
    q.line = p.line ∧ q.messages = p.messages ∧ q.calls = p.calls ∧
    (p.launch.watchFault = false → q.launch.watchFault = false ∧ q.sup = p.sup)

theorem CalmKept.refl (p : Part) : CalmKept p p := by simp [CalmKept, BitsStay]

theorem CalmKept.trans {p q r : Part} (h : CalmKept p q) (g : CalmKept q r) : CalmKept p r := by
  simp only [CalmKept] at *
  grind

theorem judgeLaunch_calm (p : Part) : CalmKept p (judgeLaunch p) := by
  simp only [judgeLaunch, requestRelease, removeRequest, modLaunch, callArbiter]
  (repeat' split) <;> simp [CalmKept, BitsStay]

theorem judgeLaunch_nothingWaits {p : Part} (h : NothingWaits p) : NothingWaits (judgeLaunch p) := by
  obtain ⟨hqueue, hactions⟩ := h
  simp only [judgeLaunch, requestRelease, removeRequest, modLaunch, callArbiter]
  (repeat' split) <;> refine ⟨fun r hr => ?_, hactions⟩ <;> simp at hr <;> grind

/-- Ending a condition of one kind leaves the causes of the others. -/
theorem filter_map_gone (k : CauseKind) (src : Nat) (l : List Cause) :
    (l.map (fun c => if c.names k src then { c with present := false } else c)).filter (fun c => c.kind != k) =
      l.filter (fun c => c.kind != k) := by
  induction l with
  | nil => rfl
  | cons c t ih =>
    by_cases hnames : c.names k src = true
    · have hkind : c.kind = k := by simp only [Cause.names, Bool.and_eq_true, beq_iff_eq] at hnames; exact hnames.1
      simp [hnames, hkind, ih]
    · simp [hnames, List.filter_cons, ih]

theorem filter_names_kind (k : CauseKind) (src : Nat) (l : List PresentCause) :
    l.filter (fun c => c.kind != k && !c.names k src) = l.filter (fun c => c.kind != k) := by
  refine List.filter_congr fun c _ => ?_
  by_cases hkind : c.kind = k <;> simp [PresentCause.names, hkind]

theorem gone_calm (p : Part) (hfault : p.launch.watchFault = true) :
    CalmKept p (gone .releaseTimeout 2 (modLaunch (fun l => { l with watchFault := false }) p)) := by
  unfold gone
  dsimp only
  split <;> simp [CalmKept, BitsStay, modSup, modLaunch, filter_map_gone, filter_names_kind, hfault]
  exact fun n hn => .inl hn

theorem judgeWatch_open_calm {p : Part} (h : p.launch.watch = .openAllowed) : CalmKept p (judgeWatch p) := by
  have hfaulty : watchFaulty p.launch = false := by simp [watchFaulty, h]
  unfold judgeWatch
  rw [if_neg (by simp [hfaulty])]
  split
  next hfault => exact gone_calm p (by simpa [hfaulty] using hfault)
  · exact CalmKept.refl p

/-- A call for a judgement leaves all but the note of it. -/
theorem CalmKept.called {p q : Part} (h : CalmKept p q) (w : Work) : CalmKept p { q with work := w } := h

theorem grantRetainer_calm (p : Part) : CalmKept p (grantRetainer p) := by
  unfold grantRetainer
  split
  · have opened : CalmKept p (modLaunch (fun l => { l with
        state := .releasing, grantTime := p.clock.now, retain := true, watch := .openAllowed }) p) := by
      simp [CalmKept, BitsStay, modLaunch]
    exact (opened.trans (judgeWatch_open_calm rfl)).called _
  · exact CalmKept.refl p

theorem grantRetainer_doors (p : Part) : (grantRetainer p).doors = p.doors := by
  unfold grantRetainer
  split <;> simp

theorem judgeArbiter_calm {p : Part} (h : NothingWaits p) : CalmKept p (judgeArbiter p) ∧ NothingWaits (judgeArbiter p) := by
  unfold judgeArbiter
  split
  · exact ⟨CalmKept.refl p, h⟩
  next r rest hqueue =>
    split
    · obtain ⟨hretainer, hactions⟩ := h
      rw [hqueue] at hretainer
      rw [hretainer r List.mem_cons_self]
      set q : Part := { p with doors := recordGrant .retainer p.clock.now { p.doors with queue := rest } } with hq
      have recorded : CalmKept p q := by simp [hq, CalmKept, BitsStay, recordGrant]
      have granted : CalmKept p (callArbiter (grantRetainer q)) :=
        (recorded.trans (grantRetainer_calm q)).called _
      refine ⟨granted, fun x hx => ?_, fun a ha => ?_⟩
      · rw [handGrant, callArbiter_doors, grantRetainer_doors] at hx
        exact hretainer x (List.mem_cons_of_mem r hx)
      · obtain ⟨-, -, -, -, -, -, -, -, -, hsequencer, -⟩ := granted
        rw [handGrant, hsequencer] at ha
        exact hactions a ha
    · exact ⟨CalmKept.refl p, h⟩

theorem settleOnce_calm {p : Part} (h : NothingWaits p) : CalmKept p (settleOnce p) ∧ NothingWaits (settleOnce p) := by
  unfold settleOnce
  split
  · exact ⟨judgeLaunch_calm _, judgeLaunch_nothingWaits h⟩
  · split
    · exact judgeArbiter_calm (p := { p with work := { p.work with arbiter := false } }) h
    · split
      · rw [judgeSequencer_waitless (p := { p with work := { p.work with sequencer := false } }) h.2]
        exact ⟨CalmKept.refl p, h⟩
      · exact ⟨CalmKept.refl p, h⟩

/-- Where nothing waits, the judgements of an event can do no more than request, grant or take back a release. -/
theorem settle_calm {p : Part} (h : NothingWaits p) : CalmKept p (settle 64 p) ∧ NothingWaits (settle 64 p) :=
  settle_keeps (P := fun q => CalmKept p q ∧ NothingWaits q)
    (fun _ ⟨hkept, hwaits⟩ => ⟨hkept.trans (settleOnce_calm hwaits).1, (settleOnce_calm hwaits).2⟩)
    (fun q ⟨hkept, hwaits⟩ => ⟨hkept.trans (judgeLaunch_calm q), judgeLaunch_nothingWaits hwaits⟩) 64 ⟨CalmKept.refl p, h⟩

end Sys2Proof.Machine

/-! What the Supervisor's operations make of its own state: C, a change of mode, a report, the end of a condition (R121 to R132). -/

namespace Sys2Proof.Machine

/-! ### The ceiling -/

theorem composeCeiling_sup (p : Part) : (composeCeiling p).sup = { p.sup with ceiling := composedCeiling p.sup } := by
  unfold composeCeiling
  dsimp only
  split
  next h => rw [eq_of_beq h]
  next => rfl

/-- The rope measurement but for C_eff and the noted stop is the same. -/
abbrev RopeSteady (p q : Part) : Prop := q.rope = { p.rope with ceff := q.rope.ceff, stopEntry := q.rope.stopEntry }

theorem composeCeiling_rope (p : Part) : RopeSteady p (composeCeiling p) ∧ (composeCeiling p).rope.stopEntry = p.rope.stopEntry := by
  unfold composeCeiling ropeCeiling
  dsimp only
  split
  · exact ⟨rfl, rfl⟩
  · simp only [RopeSteady, attend_rope]
    split <;> exact ⟨rfl, rfl⟩

theorem setCaps_sup (c : Caps) (p : Part) :
    (setCaps c p).sup = if c = p.sup.caps then p.sup else { p.sup with
      caps := c, ceiling := composedCeiling { p.sup with caps := c } } := by
  unfold setCaps
  by_cases h : c = p.sup.caps
  · rw [if_pos (by simpa using h), if_pos h]
  · rw [if_neg (by simpa using h), if_neg h, composeCeiling_sup]; rfl

theorem setCaps_caps (c : Caps) (p : Part) : (setCaps c p).sup.caps = c := by
  rw [setCaps_sup]
  split
  next h => exact h.symm
  next => rfl

/-! ### A change of mode -/

/-- The Supervisor when the pending switch, if any, has taken effect. -/
def switchedSup (u : Supervisor) : Supervisor :=
  match u.pendingSwitch with
  | none => u
  | some n => { u with active := n, pendingSwitch := none, ceiling := composedCeiling { u with active := n, pendingSwitch := none } }

/-- The Supervisor when it has entered another mode (R123). -/
def enteredSup (m : Mode) (u : Supervisor) : Supervisor :=
  let v := if u.mode = .run then switchedSup { u with mode := m } else { u with mode := m }
  stopModeTimers { v with ceiling := composedCeiling v }

theorem applyPendingSwitch_sup (p : Part) : (applyPendingSwitch p).sup = switchedSup p.sup := by
  unfold applyPendingSwitch switchedSup
  split
  next h => simp [h]
  next n h => simp [h, applySwitch, composeCeiling_sup, modSup]

theorem enterMode_same {m : Mode} {p : Part} (h : p.sup.mode = m) : enterMode m p = p := by
  simp [enterMode, h]

theorem enterMode_sup {m : Mode} {p : Part} (h : p.sup.mode ≠ m) : (enterMode m p).sup = enteredSup m p.sup := by
  have hne : ¬ (m == p.sup.mode) = true := by simpa using fun e => h e.symm
  unfold enterMode enteredSup
  simp only [hne]
  by_cases hrun : p.sup.mode = .run
  · simp [hrun, composeCeiling_sup, applyPendingSwitch_sup, modSup]
  · simp [hrun, composeCeiling_sup, modSup]

/-- What an entry into a mode leaves of the Supervisor, and the mode, C and the attention bit that it makes. -/
theorem enterMode_mode (m : Mode) (p : Part) : (enterMode m p).sup.mode = m := by
  by_cases h : p.sup.mode = m
  · rw [enterMode_same h, h]
  · rw [enterMode_sup h, enteredSup, switchedSup]
    dsimp only [stopModeTimers]
    (repeat' split) <;> rfl

/-- The stop causes, the caps and the profiles are the same. -/
abbrev CausesKept (u v : Supervisor) : Prop :=
  v.causes = u.causes ∧ v.present = u.present ∧ v.overflow = u.overflow ∧ v.overflowCount = u.overflowCount ∧
    v.fastNote = u.fastNote ∧ v.caps = u.caps ∧ v.profileA = u.profileA ∧ v.profileB = u.profileB

theorem switchedSup_kept (u : Supervisor) : CausesKept u (switchedSup u) ∧ (switchedSup u).mode = u.mode := by
  unfold switchedSup
  split <;> simp [CausesKept]

theorem enteredSup_kept (m : Mode) (u : Supervisor) : CausesKept u (enteredSup m u) := by
  have switched := (switchedSup_kept { u with mode := m }).1
  simp only [CausesKept] at switched
  simp only [CausesKept, enteredSup, stopModeTimers]
  split <;> simp [switched]

theorem enteredSup_pendingSwitch (m : Mode) (u : Supervisor) :
    (enteredSup m u).pendingSwitch = if u.mode = .run then none else u.pendingSwitch := by
  simp only [enteredSup, stopModeTimers, switchedSup]
  (repeat' split) <;> simp_all

theorem composedCeiling_outside {u : Supervisor} (h : u.mode.isRunning = false) : composedCeiling u = 0 := by
  simp [composedCeiling, h]

/-- C depends on the mode, the caps and the active profile alone. -/
theorem enteredSup_ceiling (m : Mode) (u : Supervisor) : (enteredSup m u).ceiling = composedCeiling (enteredSup m u) := by
  simp only [enteredSup, stopModeTimers, composedCeiling, activeProfile]

theorem enterMode_kept_causes (m : Mode) (p : Part) : CausesKept p.sup (enterMode m p).sup := by
  by_cases h : p.sup.mode = m
  · rw [enterMode_same h]; simp [CausesKept]
  · rw [enterMode_sup h]; exact enteredSup_kept m p.sup

/-- The part when the mode has been set and a pending switch taken, before C is composed (R123, R138). -/
def modeSwitched (m : Mode) (p : Part) : Part :=
  if p.sup.mode == .run then applyPendingSwitch (modSup (fun s => { s with mode := m }) p) else modSup (fun s => { s with mode := m }) p

theorem enterMode_eq {m : Mode} {p : Part} (h : p.sup.mode ≠ m) :
    enterMode m p = attend .mode (modSup stopModeTimers (alertOnFastStop (noteStopEntry p.sup.mode
      (callLaunch (composeCeiling (modeSwitched m p)))))) := by
  have hne : ¬ (m == p.sup.mode) = true := by simpa using fun e => h e.symm
  simp only [enterMode, hne, modeSwitched]
  rfl

theorem applyPendingSwitch_rope (p : Part) :
    RopeSteady p (applyPendingSwitch p) ∧ (applyPendingSwitch p).rope.stopEntry = p.rope.stopEntry := by
  unfold applyPendingSwitch
  split
  · exact ⟨rfl, rfl⟩
  next n _ => exact composeCeiling_rope (attend .profile (modSup (fun s => { s with active := n, pendingSwitch := none }) p))

theorem modeSwitched_rope (m : Mode) (p : Part) :
    RopeSteady p (modeSwitched m p) ∧ (modeSwitched m p).rope.stopEntry = p.rope.stopEntry := by
  unfold modeSwitched
  split
  · exact applyPendingSwitch_rope (modSup (fun s => { s with mode := m }) p)
  · exact ⟨rfl, rfl⟩

theorem modeSwitched_mode (m : Mode) (p : Part) : (modeSwitched m p).sup.mode = m := by
  unfold modeSwitched
  split
  · rw [applyPendingSwitch_sup, (switchedSup_kept _).2]; rfl
  · rfl

theorem modeSwitched_kept (m : Mode) (p : Part) : (modeSwitched m p).clock = p.clock ∧ (modeSwitched m p).calls = p.calls := by
  unfold modeSwitched
  split <;> simp

/-- An entry into another mode calls for Launch Control's judgement and sets MODE. -/
theorem enterMode_called {m : Mode} {p : Part} (h : p.sup.mode ≠ m) :
    (enterMode m p).work.launch = true ∧ (enterMode m p).window.attention.getLsbD 1 = true := by
  rw [enterMode_eq h]
  exact ⟨by simp, by simp [Attn.bit]⟩

theorem RopeSteady.trans {p q r : Part} (h : RopeSteady p q) (g : RopeSteady q r) : RopeSteady p r := by
  unfold RopeSteady at *
  rw [g, h]

theorem noteStopEntry_rope (m : Mode) (p : Part) : RopeSteady p (noteStopEntry m p) := by
  unfold noteStopEntry
  split <;> rfl

theorem enterMode_rope (m : Mode) (p : Part) : RopeSteady p (enterMode m p) := by
  by_cases h : p.sup.mode = m
  · rw [enterMode_same h]
  · have composed := (modeSwitched_rope m p).1.trans (composeCeiling_rope (modeSwitched m p)).1
    have noted := composed.trans (noteStopEntry_rope p.sup.mode (callLaunch (composeCeiling (modeSwitched m p))))
    rw [enterMode_eq h, RopeSteady]
    simpa using noted

/-- An entry into a mode other than STOPPING_FAST makes no call. -/
theorem enterMode_calls {m : Mode} (hm : m ≠ .stoppingFast) (p : Part) : (enterMode m p).calls = p.calls := by
  by_cases h : p.sup.mode = m
  · rw [enterMode_same h]
  · have hmode : (noteStopEntry p.sup.mode (callLaunch (composeCeiling (modeSwitched m p)))).sup.mode = m := by
      simp [composeCeiling_sup, modeSwitched_mode]
    rw [enterMode_eq h, alertOnFastStop, if_neg (by rw [hmode]; simp [hm])]
    simp [(modeSwitched_kept m p).2]

/-- The Rope Measurement Unit notes the entry into a stopping mode from one that is not (R43). -/
theorem enterMode_stopEntry {m : Mode} {p : Part} (hm : m.isStopping = true) (hold : p.sup.mode.isStopping = false) :
    (enterMode m p).rope.stopEntry = some p.clock.now := by
  have h : p.sup.mode ≠ m := fun e => by rw [e, hm] at hold; exact nomatch hold
  rw [enterMode_eq h]
  simp [noteStopEntry, composeCeiling_sup, modeSwitched_mode, hm, hold, (modeSwitched_kept m p).1]

theorem enterMode_stopEntry_kept {m : Mode} (hm : m.isStopping = false) (p : Part) :
    (enterMode m p).rope.stopEntry = p.rope.stopEntry := by
  by_cases h : p.sup.mode = m
  · rw [enterMode_same h]
  · rw [enterMode_eq h]
    simp [noteStopEntry, composeCeiling_sup, modeSwitched_mode, hm, (composeCeiling_rope _).2, (modeSwitched_rope m p).2]

/-! ### A change of mode, and the stop that ends in it (R122) -/

/-- A change of mode to one that does not stop, or with no standstill declared, is the entry alone. -/
theorem changeMode_enters {m : Mode} {p : Part} (h : m.isStopping = false ∨ p.sup.mode.isStopping = true ∨ p.rope.standstill = false) :
    changeMode m p = enterMode m p := by
  have hstand : (enterMode m p).rope.standstill = p.rope.standstill := by rw [enterMode_rope m p]
  unfold changeMode
  dsimp only
  rw [hstand, if_neg]
  obtain h | h | h := h <;> simp [h]

/-- A change to a stopping mode at declared standstill ends the stop in the same event. -/
theorem changeMode_ends {m : Mode} {p : Part} (hm : m.isStopping = true) (hold : p.sup.mode.isStopping = false)
    (hstand : p.rope.standstill = true) :
    changeMode m p = enterMode (if causesStand p.sup then .stopped else .ready) (enterMode m p) := by
  have hkept := enterMode_kept_causes m p
  simp only [CausesKept] at hkept
  have hcauses : causesStand (enterMode m p).sup = causesStand p.sup := by simp only [causesStand, hkept]
  have hstand' : (enterMode m p).rope.standstill = true := by rw [enterMode_rope m p]; exact hstand
  unfold changeMode
  dsimp only
  rw [if_pos (by simp [hm, hold, hstand']), standstillEvent, if_pos (by rw [enterMode_mode]; exact hm), hcauses]

theorem changeMode_kept_causes (m : Mode) (p : Part) : CausesKept p.sup (changeMode m p).sup := by
  have entered := enterMode_kept_causes m p
  have ended (n : Mode) := enterMode_kept_causes n (enterMode m p)
  simp only [CausesKept] at entered ended
  simp only [CausesKept, changeMode, standstillEvent]
  (repeat' split) <;> simp [entered, ended]

theorem changeMode_rope (m : Mode) (p : Part) : RopeSteady p (changeMode m p) := by
  unfold changeMode
  dsimp only
  split
  · unfold standstillEvent
    split
    · exact (enterMode_rope m p).trans (enterMode_rope _ _)
    · exact enterMode_rope m p
  · exact enterMode_rope m p

/-! ### C outside STARTING and RUN -/

/-- C is what the mode, the caps and the active profile make it (R132). -/
abbrev Composed (u : Supervisor) : Prop := u.ceiling = composedCeiling u

theorem enterMode_composed {m : Mode} {p : Part} (h : p.sup.mode ≠ m) : Composed (enterMode m p).sup := by
  rw [enterMode_sup h]; exact enteredSup_ceiling m p.sup

theorem Composed.zero {u : Supervisor} (h : Composed u) (hmode : u.mode.isRunning = false) : u.ceiling = 0 := by
  rw [h, composedCeiling_outside hmode]

end Sys2Proof.Machine

/-! The orders to the Station Supervisor outside RUN (R118 to R120, R128, R129, R136, R137). -/

namespace Sys2Proof.Machine

/-! ### The answer of an order that calls for Launch Control's judgement outside RUN -/

/-- The slots and all of the window's registers but ATTENTION and ATTN are the same. -/
abbrev WindowKept (p q : Part) : Prop := q.window.slots = p.window.slots ∧ PortKept p q

theorem WindowKept.trans {p q r : Part} (h : WindowKept p q) (g : WindowKept q r) : WindowKept p r := by
  simp only [WindowKept, PortKept] at *
  simp only [g, h, and_self]

theorem WindowKept.of_eq {p q : Part} (h : q.window = p.window) : WindowKept p q := by
  simp [WindowKept, PortKept, h]

theorem WindowKept.answer {p q : Part} (h : WindowKept p q) (i : SlotNo) (r : Result) (d : Nat) :
    WindowKept (answer i r d p) (answer i r d q) := by
  simp only [WindowKept, PortKept] at *
  simp [Machine.answer, h]

/-- The window after an order that is answered, whose judgements leave the slots and the registers but ATTENTION (R191, R194). -/
theorem answers_finish {i : SlotNo} {r : Result} {d : Nat} {s : State} {q : Part} (hwindow : WindowKept (takeHead i s.part) q)
    (hsettled : WindowKept (answer i r d q) (settle 64 (answer i r d q)))
    (hdone : (settle 64 (answer i r d q)).window.attention.getLsbD 0 = true) :
    Answers i r d s { s with part := finish (answer i r d q) } ∧ WindowFrame i s { s with part := finish (answer i r d q) } := by
  obtain ⟨hslots, hintake, hlatch, hmask, henable, hresets⟩ := (hwindow.answer i r d).trans hsettled
  have hslot (j : SlotNo) : slotOf (finish (answer i r d q)) j = slotOf (answer i r d (takeHead i s.part)) j := by
    rw [slotOf_finish, slotOf, hslots, slotOf]
  refine ⟨⟨?slot, ?intake, ?done⟩, ?others, ?latch, ?mask, ?enable, ?resets⟩
  case slot => rw [hslot, slotOf_answer_same, slotOf_takeHead_same]
  case others => intro j hj; rw [hslot, slotOf_answer_ne _ _ _ _ _ hj, slotOf_takeHead_ne _ _ _ hj]
  case done => rw [finish_window]; exact hdone
  all_goals rw [finish_window]
  case intake => exact hintake
  case latch => exact hlatch
  case mask => exact hmask
  case enable => exact henable
  case resets => exact hresets

/-- Every block but those of a Supervisor's operation is the same in an order's part. -/
theorem same_of_supKeeps {p q : Part} (h : SupKeeps p q) {b : Block} (hb : b ∉ [Block.window, .rope, .sup, .calls]) : Part.same b p q := by
  simp only [SupKeeps] at h
  cases b <;> simp at hb <;> simp only [Part.same, h]

/-- An order to the Supervisor that leaves it outside RUN: it is answered, and Launch Control at most takes its request back. -/
theorem atOnce_outside_run {i : SlotNo} {k : Byte} {body : Slot → Part → Reply} {s : State} {r : Result} {d : Nat} {q : Part}
    (hnext : OrderNext i k s) (hbody : body (slotOf s.part i) (takeHead i s.part) = { result := r, detail := d, part := q })
    (hkept : SupKeeps (takeHead i s.part) q) (hmode : q.sup.mode ≠ .run) :
    ∃ t, atOnce i k body s = .next t ∧ Answers i r d s t ∧ WindowFrame i s t ∧
      t.part.window.attention = q.window.attention ||| 1 ∧ t.part.sup = { q.sup with svcStop := svcStopFor q.sup, fastStop := fastStopFor q.sup } ∧
      t.part.rope = q.rope ∧ (t.part.launch.state = .requested → q.work.launch = false) ∧
      (q.calls = s.part.calls → Frame [.window, .rope, .launch, .doors, .sup] s t) ∧
      Frame [.window, .rope, .launch, .doors, .sup, .calls] s t := by
  obtain ⟨hready, hhead, hkind⟩ := hnext
  obtain ⟨hclock, htrack, hcabins, hsensors, hgrip, hlaunch, hdoors, hsequencer, hline, hmessages, hslots, harb, hseq, hport⟩ := hkept
  have hwork : (takeHead i s.part).work = {} := hready.2.1
  rw [hwork] at harb hseq
  obtain ⟨⟨alone, -⟩, hstate⟩ := settle_outside_run (p := answer i r d q) hmode harb hseq
  have hwindow : (settle 64 (answer i r d q)).window = (answer i r d q).window := by rw [alone]
  obtain ⟨hanswers, hframe⟩ := answers_finish (i := i) (r := r) (d := d) (s := s) ⟨hslots, hport⟩ (.of_eq hwindow)
    (by rw [hwindow]; simp [answer, Attn.bit])
  have hsame : ∀ b ∉ [Block.window, .rope, .launch, .doors, .sup, .calls], Part.same b s.part (settle 64 (answer i r d q)) := by
    intro b hb
    have kept : Part.same b s.part q := by
      cases b with
      | window | rope | launch | doors | sup | calls => exact absurd hb (by decide)
      | _ => assumption
    rw [alone]
    cases b with
    | window | rope | launch | doors | sup | calls => exact absurd hb (by decide)
    | _ => exact kept
  refine ⟨_, atOnce_acts hready.1 hhead hkind, ?_⟩
  rw [hbody]
  dsimp only
  refine ⟨hanswers, hframe, ?_, ?_, ?_, fun hrequested => ?_, fun hcalls => ?_, ?_⟩
  · rw [finish_window, hwindow]; rfl
  · rw [finish_sup, alone]; rfl
  · rw [finish_rope, alone]; rfl
  · rw [finish_launch] at hrequested
    exact eq_false_of_ne_true fun hcalled => hstate hcalled hrequested
  · refine frame_finish hready fun b _ hb => ?_
    by_cases hbc : b = .calls
    · subst hbc; rw [alone]; exact hcalls
    · exact hsame b (by simpa [hbc] using hb)
  · exact frame_finish hready fun b _ hb => hsame b hb

end Sys2Proof.Machine

/-! STATION_STOP, STATION_OFF and STATION_FAST_STOP (R120, R129). -/

namespace Sys2Proof.Machine

/-! ### STATION_STOP (R120, R122) -/

/-- The mode in which a stop of a moving station ends. -/
theorem changeMode_stop_mode {m : Mode} {p : Part} (hm : m.isStopping = true) (hold : p.sup.mode.isStopping = false) :
    (changeMode m p).sup.mode = if p.rope.standstill then (if causesStand p.sup then .stopped else .ready) else m := by
  split
  next h => rw [changeMode_ends hm hold h, enterMode_mode]
  next h => rw [changeMode_enters (.inr (.inr (by simpa using h))), enterMode_mode]

theorem changeMode_composed {m : Mode} {p : Part} (h : p.sup.mode ≠ m) : Composed (changeMode m p).sup := by
  unfold changeMode standstillEvent
  dsimp only
  have entered := enterMode_composed h
  split
  · split
    next hstop =>
      refine enterMode_composed fun e => ?_
      rw [e] at hstop
      split at hstop <;> exact nomatch hstop
    · exact entered
  · exact entered

/-- A change of mode calls for Launch Control's judgement and sets MODE. -/
theorem changeMode_called {m : Mode} {p : Part} (h : p.sup.mode ≠ m) :
    (changeMode m p).work.launch = true ∧ (changeMode m p).window.attention.getLsbD 1 = true := by
  have entered := enterMode_called h
  unfold changeMode standstillEvent
  dsimp only
  split
  · split
    next hstop =>
      refine enterMode_called fun e => ?_
      rw [e] at hstop
      split at hstop <;> exact nomatch hstop
    · exact entered
  · exact entered

theorem changeMode_calls {m : Mode} (hm : m ≠ .stoppingFast) (p : Part) : (changeMode m p).calls = p.calls := by
  unfold changeMode standstillEvent
  dsimp only
  have entered := enterMode_calls hm p
  split
  · split
    · refine (enterMode_calls ?_ _).trans entered
      split <;> decide
    · exact entered
  · exact entered

theorem changeMode_stopEntry {m : Mode} {p : Part} (hm : m.isStopping = true) (hold : p.sup.mode.isStopping = false) :
    (changeMode m p).rope.stopEntry = some p.clock.now := by
  have entered := enterMode_stopEntry (p := p) hm hold
  unfold changeMode standstillEvent
  dsimp only
  split
  · split
    · rw [enterMode_stopEntry_kept (by split <;> rfl), entered]
    · exact entered
  · exact entered

theorem enterMode_pendingSwitch (m : Mode) {p : Part} (h : p.sup.mode ≠ m) :
    (enterMode m p).sup.pendingSwitch = if p.sup.mode = .run then none else p.sup.pendingSwitch := by
  rw [enterMode_sup h, enteredSup_pendingSwitch]

theorem orderStationStop_running {x : Slot} {p : Part} (h : p.sup.mode = .starting ∨ p.sup.mode = .run) :
    orderStationStop x p = okDetail 4 (changeMode .stoppingService p) := by
  obtain h | h := h <;> simp [orderStationStop, Mode.isRunning, h]

theorem orderStationStop_stopping {x : Slot} {p : Part} (h : p.sup.mode = .stoppingService ∨ p.sup.mode = .stoppingFast) :
    orderStationStop x p = okDetail p.sup.mode.code p := by
  obtain h | h := h <;> simp [orderStationStop, Mode.isRunning, Mode.isStopping, h]

theorem orderStationStop_elsewhere {x : Slot} {p : Part} (h : p.sup.mode ∈ [Mode.off, .ready, .stopped]) :
    orderStationStop x p = refuse .refusedState 0 p := by
  simp only [List.mem_cons, List.not_mem_nil, or_false] at h
  obtain h | h | h := h <;> simp [orderStationStop, Mode.isRunning, Mode.isStopping, h]

theorem changeMode_pendingSwitch {p : Part} (h : p.sup.mode = .starting ∨ p.sup.mode = .run) :
    (changeMode .stoppingService p).sup.pendingSwitch = if p.sup.mode = .run then none else p.sup.pendingSwitch := by
  have hne : p.sup.mode ≠ .stoppingService := by obtain h | h := h <;> simp [h]
  have entered := enterMode_pendingSwitch .stoppingService hne
  unfold changeMode standstillEvent
  dsimp only
  split
  · split
    next hstop =>
      rw [enterMode_pendingSwitch _ (by rw [enterMode_mode]; split <;> decide), enterMode_mode]
      exact entered
    · exact entered
  · exact entered

/-- STATION_STOP of a running station. -/
theorem stationStop_stops {i : SlotNo} {s : State} (hnext : OrderNext i 0x42 s)
    (hmode : s.part.sup.mode = .starting ∨ s.part.sup.mode = .run) : After (.stationStop i) s (fun t =>
      Answers i .ok 4 s t ∧ WindowFrame i s t ∧ t.part.sup.causes = s.part.sup.causes ∧ t.part.sup.present = s.part.sup.present ∧
      t.part.sup.ceiling = 0 ∧ t.part.rope.stopEntry = some s.part.clock.now ∧ t.part.launch.state ≠ .requested ∧
      t.part.sup.pendingSwitch = (if s.part.sup.mode = .run then none else s.part.sup.pendingSwitch) ∧
      Frame [.window, .rope, .launch, .doors, .sup] s t ∧
      (s.part.rope.standstill = false → t.part.sup.mode = .stoppingService ∧ t.part.sup.svcStop = true) ∧
      (s.part.rope.standstill = true →
        t.part.sup.mode = (if causesStand s.part.sup then .stopped else .ready) ∧ t.part.sup.svcStop = false)) := by
  set p := takeHead i s.part with hp
  have hold : p.sup.mode.isStopping = false := by obtain h | h := hmode <;> simp [hp, h, Mode.isStopping]
  have hne : p.sup.mode ≠ .stoppingService := by obtain h | h := hmode <;> simp [hp, h]
  have hafter := changeMode_stop_mode (p := p) (m := .stoppingService) rfl hold
  have hstopped : (changeMode .stoppingService p).sup.mode.isRunning = false := by
    rw [hafter]; (repeat' split) <;> rfl
  obtain ⟨hcauses, hpresent, -⟩ := changeMode_kept_causes .stoppingService p
  obtain ⟨t, hrun, hanswers, hwindow, hattention, hsup, hrope, hlaunch, hframe, -⟩ :=
    atOnce_outside_run hnext (orderStationStop_running (p := p) hmode) (changeMode_kept _ p)
      (fun h => by rw [h] at hstopped; exact nomatch hstopped)
  refine ⟨t, hrun, hanswers, hwindow, ?_, ?_, ?_, ?_, ?_, ?_, hframe (changeMode_calls (by decide) p), fun hstand => ?_, fun hstand => ?_⟩
  · rw [hsup]; exact hcauses
  · rw [hsup]; exact hpresent
  · rw [hsup]; exact (changeMode_composed hne).zero hstopped
  · rw [hrope]; exact changeMode_stopEntry rfl hold
  · exact fun h => nomatch (hlaunch h).symm.trans (changeMode_called hne).1
  · rw [hsup]; exact changeMode_pendingSwitch hmode
  · have hmode' : (changeMode .stoppingService p).sup.mode = .stoppingService := by rw [hafter, if_neg (by simpa [hp] using hstand)]
    rw [hsup]
    exact ⟨hmode', by simp [svcStopFor, hmode']⟩
  · have hmode' : (changeMode .stoppingService p).sup.mode = if causesStand s.part.sup then .stopped else .ready := by
      rw [hafter, if_pos (by simpa [hp] using hstand)]; rfl
    rw [hsup]
    refine ⟨hmode', ?_⟩
    simp only [svcStopFor, hmode']
    split <;> rfl

/-! ### STATION_OFF (R120) -/

theorem orderStationOff_off {x : Slot} {p : Part} (h : p.sup.mode = .ready ∨ p.sup.mode = .stopped) :
    orderStationOff x p = ok (changeMode .off p) := by
  obtain h | h := h <;> simp [orderStationOff, h]

theorem stationOff_goes_off {i : SlotNo} {s : State} (hnext : OrderNext i 0x44 s)
    (hmode : s.part.sup.mode = .ready ∨ s.part.sup.mode = .stopped) : After (.stationOff i) s (fun t =>
      Answers i .ok 0 s t ∧ WindowFrame i s t ∧ t.part.sup.mode = .off ∧ t.part.sup.causes = s.part.sup.causes ∧
      t.part.sup.present = s.part.sup.present ∧ t.part.window.attention.getLsbD 1 = true ∧
      Frame [.window, .rope, .launch, .doors, .sup] s t) := by
  set p := takeHead i s.part with hp
  have hne : p.sup.mode ≠ .off := by obtain h | h := hmode <;> simp [hp, h]
  have hafter : (changeMode .off p).sup.mode = .off := by rw [changeMode_enters (.inl rfl), enterMode_mode]
  obtain ⟨hcauses, hpresent, -⟩ := changeMode_kept_causes .off p
  obtain ⟨t, hrun, hanswers, hwindow, hattention, hsup, -, -, hframe, -⟩ :=
    atOnce_outside_run hnext (orderStationOff_off (p := p) hmode) (changeMode_kept _ p) (by rw [hafter]; decide)
  refine ⟨t, hrun, hanswers, hwindow, ?_, ?_, ?_, ?_, hframe (changeMode_calls (by decide) p)⟩
  · rw [hsup]; exact hafter
  · rw [hsup]; exact hcauses
  · rw [hsup]; exact hpresent
  · rw [hattention]; simp [(changeMode_called hne).2]

/-! ### Attention bits under the Supervisor's operations (R191) -/

theorem attend_bitsStay (a : Attn) (p : Part) : BitsStay p.window (attend a p).window := fun n h => by simp [h]

theorem BitsStay.trans {u v w : Window} (h : BitsStay u v) (g : BitsStay v w) : BitsStay u w := fun n hn => g n (h n hn)

theorem BitsStay.of_eq {u v : Window} (h : v.attention = u.attention) : BitsStay u v := fun n hn => by rw [h]; exact hn

theorem composeCeiling_bitsStay (p : Part) : BitsStay p.window (composeCeiling p).window := by
  unfold composeCeiling
  dsimp only
  split
  · exact .of_eq rfl
  · exact fun n hn => by simp [hn]

theorem applyPendingSwitch_bitsStay (p : Part) : BitsStay p.window (applyPendingSwitch p).window := by
  unfold applyPendingSwitch
  split
  · exact .of_eq rfl
  next n _ =>
    have composed := composeCeiling_bitsStay (attend .profile (modSup (fun s => { s with active := n, pendingSwitch := none }) p))
    exact (attend_bitsStay .profile p).trans composed

theorem enterCall_bitsStay (v : VoiceNo) (st : CallState) (p : Part) : BitsStay p.window (enterCall v st p).window := by
  have attended (q : Part) (h : BitsStay p.window q.window) (b : Bool) : BitsStay p.window (if b then q else attend .call q).window := by
    split
    · exact h
    · exact h.trans (attend_bitsStay .call q)
  have entered := attended (modCall v (fun c => { c with state := st }) p) (.of_eq rfl) ((callSlot p v).state == st)
  unfold enterCall
  dsimp only
  split
  · exact entered
  · exact entered

theorem alertRequest_bitsStay (p : Part) : BitsStay p.window (alertRequest p).window := by
  unfold alertRequest
  dsimp only
  split
  · unfold originate
    exact fun n hn => enterCall_bitsStay 0 .seizing (modCall 0 _ p) n hn
  · exact .of_eq rfl

theorem enterMode_bitsStay (m : Mode) (p : Part) : BitsStay p.window (enterMode m p).window := by
  by_cases h : p.sup.mode = m
  · rw [enterMode_same h]; exact .of_eq rfl
  · have switched : BitsStay p.window (modeSwitched m p).window := by
      unfold modeSwitched
      split
      · exact applyPendingSwitch_bitsStay (modSup (fun s => { s with mode := m }) p)
      · exact .of_eq rfl
    have noted (q : Part) : BitsStay q.window (alertOnFastStop (noteStopEntry p.sup.mode q)).window := by
      unfold alertOnFastStop
      split
      · exact BitsStay.trans (.of_eq (by simp)) (alertRequest_bitsStay _)
      · exact .of_eq (by simp)
    have composed : BitsStay p.window (callLaunch (composeCeiling (modeSwitched m p))).window :=
      switched.trans (composeCeiling_bitsStay (modeSwitched m p))
    have stopped := composed.trans (noted _)
    rw [enterMode_eq h]
    exact stopped.trans (attend_bitsStay .mode (modSup stopModeTimers _))

theorem changeMode_bitsStay (m : Mode) (p : Part) : BitsStay p.window (changeMode m p).window := by
  unfold changeMode standstillEvent
  dsimp only
  (repeat' split) 
  · exact (enterMode_bitsStay m p).trans (enterMode_bitsStay _ _)
  · exact (enterMode_bitsStay m p).trans (enterMode_bitsStay _ _)
  · exact enterMode_bitsStay m p
  · exact enterMode_bitsStay m p

/-! ### Reports (R121, R125, R127) -/

/-- The part when a report has been entered and announced, before its category is applied to the mode. -/
def causeNoted (k : CauseKind) (src : Nat) (c : Category) (present : Bool) (p : Part) : Part :=
  attend .stopCause (modSup (enterCause k src c present p.clock.now) p)

theorem enterCause_kept (k : CauseKind) (src : Nat) (c : Category) (present : Bool) (now : Time) (u : Supervisor) :
    enterCause k src c present now u = { u with
      causes := (enterCause k src c present now u).causes, present := (enterCause k src c present now u).present
      overflow := (enterCause k src c present now u).overflow, overflowCount := (enterCause k src c present now u).overflowCount
      fastNote := (enterCause k src c present now u).fastNote } := by
  unfold enterCause
  (repeat' split) <;> rfl

theorem report_eq (k : CauseKind) (src : Nat) (c : Category) (present : Bool) (p : Part) :
    report k src c present p = changeMode (modeAfterCause p.sup.mode c) (causeNoted k src c present p) := by
  have hmode : (enterCause k src c present p.clock.now p.sup).mode = p.sup.mode := by rw [enterCause_kept]
  simp only [report, causeNoted, attend_sup, modSup, hmode]

theorem enterCause_entered (k : CauseKind) (src : Nat) (c : Category) (present : Bool) (now : Time) (u : Supervisor) :
    CauseEntered k src (enterCause k src c present now u) := by
  unfold enterCause
  split
  next h =>
    left
    simp only [List.any_eq_true] at h ⊢
    obtain ⟨x, hx, hnames⟩ := h
    refine ⟨_, List.mem_map_of_mem hx, ?_⟩
    rw [if_pos hnames]; exact hnames
  · split
    · left; simp [Cause.names]
    · right; rfl

/-- A FAST report leaves a FAST cause listed or noted (R124). -/
theorem enterCause_fast (k : CauseKind) (src : Nat) (present : Bool) (now : Time) (u : Supervisor) :
    FastEntered (enterCause k src .fast present now u) := by
  unfold FastEntered fastHeld enterCause
  split
  next h =>
    simp only [List.any_eq_true] at h
    obtain ⟨x, hx, hnames⟩ := h
    simp only [Bool.or_eq_true, List.any_eq_true]
    refine .inl ⟨_, List.mem_map_of_mem hx, ?_⟩
    rw [if_pos hnames]; simp [Category.max]
  · split <;> simp

/-- A report leaves a cause listed, so that the stop it makes ends in STOPPED (R122). -/
theorem enterCause_stand (k : CauseKind) (src : Nat) (c : Category) (present : Bool) (now : Time) (u : Supervisor) :
    causesStand (enterCause k src c present now u) = true := by
  have nonempty : (enterCause k src c present now u).causes ≠ [] := by
    unfold enterCause
    split
    next h => intro he; simp only [repeatCause, List.map_eq_nil_iff] at he; simp [he] at h
    · split
      · simp
      next hfull => intro he; simp only at he; simp [he, Config.causesMax] at hfull
  simp [causesStand, nonempty]

theorem placePresent_any (k : CauseKind) (src : Nat) (c : Category) (now : Time) (listed : Bool) (l : List PresentCause) :
    (placePresent k src c now listed l).any (fun x => x.names k src) = true := by
  unfold placePresent
  split
  next h =>
    simp only [List.any_eq_true] at h ⊢
    obtain ⟨x, hx, hnames⟩ := h
    refine ⟨_, List.mem_map_of_mem hx, ?_⟩
    rw [if_pos hnames]; exact hnames
  · simp [PresentCause.names]

theorem enterCause_present (k : CauseKind) (src : Nat) (c : Category) (now : Time) (u : Supervisor) :
    ConditionPresent k src (enterCause k src c true now u) := by
  unfold ConditionPresent enterCause
  split
  · exact placePresent_any ..
  · split <;> exact placePresent_any ..

/-- A report stays entered in a Supervisor with the same causes. -/
theorem CausesKept.entered {u v : Supervisor} (h : CausesKept u v) {k : CauseKind} {src : Nat} (hu : CauseEntered k src u) :
    CauseEntered k src v := by
  obtain ⟨hcauses, -, hoverflow, -⟩ := h
  simpa [CauseEntered, hcauses, hoverflow] using hu

theorem CausesKept.present {u v : Supervisor} (h : CausesKept u v) {k : CauseKind} {src : Nat} (hu : ConditionPresent k src u) :
    ConditionPresent k src v := by
  obtain ⟨-, hpresent, -⟩ := h
  simpa [ConditionPresent, hpresent] using hu

theorem CausesKept.fast {u v : Supervisor} (h : CausesKept u v) (hu : FastEntered u) : FastEntered v := by
  obtain ⟨hcauses, -, -, -, hnote, -⟩ := h
  simpa [FastEntered, fastHeld, hcauses, hnote] using hu

theorem report_entered (k : CauseKind) (src : Nat) (c : Category) (present : Bool) (p : Part) :
    CauseEntered k src (report k src c present p).sup := by
  rw [report_eq]
  exact (changeMode_kept_causes _ _).entered (enterCause_entered ..)

theorem report_present (k : CauseKind) (src : Nat) (c : Category) (p : Part) : ConditionPresent k src (report k src c true p).sup := by
  rw [report_eq]
  exact (changeMode_kept_causes _ _).present (enterCause_present ..)

theorem report_fast (k : CauseKind) (src : Nat) (present : Bool) (p : Part) : FastEntered (report k src .fast present p).sup := by
  rw [report_eq]
  exact (changeMode_kept_causes _ _).fast (enterCause_fast ..)

theorem report_attention (k : CauseKind) (src : Nat) (c : Category) (present : Bool) (p : Part) :
    (report k src c present p).window.attention.getLsbD 2 = true := by
  rw [report_eq]
  exact changeMode_bitsStay _ _ 2 (by simp [causeNoted, Attn.bit])

theorem report_bitsStay (k : CauseKind) (src : Nat) (c : Category) (present : Bool) (p : Part) :
    BitsStay p.window (report k src c present p).window := by
  rw [report_eq]
  exact (attend_bitsStay .stopCause p).trans (changeMode_bitsStay _ (causeNoted k src c present p))

theorem causeNoted_mode (k : CauseKind) (src : Nat) (c : Category) (present : Bool) (p : Part) :
    (causeNoted k src c present p).sup.mode = p.sup.mode := by
  simp only [causeNoted, attend_sup, modSup]; rw [enterCause_kept]

/-- The mode after a report: the table of R121, and STOPPED where a moving station is at declared standstill (R122). -/
theorem report_mode (k : CauseKind) (src : Nat) (c : Category) (present : Bool) (p : Part) :
    (report k src c present p).sup.mode =
      if p.sup.mode.isRunning && p.rope.standstill then .stopped else modeAfterCause p.sup.mode c := by
  have hnoted := causeNoted_mode k src c present p
  rw [report_eq]
  by_cases hrun : p.sup.mode.isRunning = true
  · have hstop : (modeAfterCause p.sup.mode c).isStopping = true := by
      revert hrun; cases p.sup.mode <;> cases c <;> decide
    have hold : (causeNoted k src c present p).sup.mode.isStopping = false := by
      rw [hnoted]; revert hrun; cases p.sup.mode <;> decide
    have hcauses : causesStand (causeNoted k src c present p).sup = true := enterCause_stand ..
    rw [changeMode_stop_mode hstop hold, hcauses, hrun]; rfl
  · rw [changeMode_enters, enterMode_mode]
    · simp [hrun]
    · have hstays : (modeAfterCause p.sup.mode c).isStopping = false ∨ p.sup.mode.isStopping = true := by
        revert hrun; cases p.sup.mode <;> cases c <;> decide
      rw [hnoted]
      exact hstays.imp_right .inl

theorem report_rope (k : CauseKind) (src : Nat) (c : Category) (present : Bool) (p : Part) : RopeSteady p (report k src c present p) := by
  rw [report_eq]
  exact changeMode_rope _ (causeNoted k src c present p)

/-- A report makes no call but at an entry into STOPPING_FAST. -/
theorem report_calls {k : CauseKind} {src : Nat} {c : Category} {present : Bool} {p : Part}
    (h : modeAfterCause p.sup.mode c ≠ .stoppingFast) : (report k src c present p).calls = p.calls := by
  rw [report_eq, changeMode_calls h]; rfl

/-- Where a report moves the mode, C is composed afresh. -/
theorem report_composed {k : CauseKind} {src : Nat} {c : Category} {present : Bool} {p : Part}
    (h : p.sup.mode ≠ modeAfterCause p.sup.mode c) : Composed (report k src c present p).sup := by
  rw [report_eq]
  exact changeMode_composed (by rw [causeNoted_mode]; exact h)

/-! ### STATION_FAST_STOP (R129) -/

theorem stationFastStop_stops {i : SlotNo} {s : State} (hnext : OrderNext i 0x43 s) :
     After (.stationFastStop i) s (fun t =>
       Answers i .ok t.part.sup.mode.code s t ∧ WindowFrame i s t ∧ t.part.window.attention.getLsbD 2 = true ∧
       t.part.sup.fastStop = true ∧ CauseEntered .hostFastStop 0 t.part.sup ∧ FastEntered t.part.sup ∧
       Frame [.window, .rope, .launch, .doors, .sup, .calls] s t ∧
       (s.part.sup.mode = .off → t.part.sup.mode = .off) ∧
       (s.part.sup.mode = .ready ∨ s.part.sup.mode = .stopped → t.part.sup.mode = .stopped) ∧
       (s.part.sup.mode.isStopping = true → t.part.sup.mode = .stoppingFast) ∧
       (s.part.sup.mode.isRunning = true → t.part.sup.ceiling = 0 ∧
         t.part.sup.mode = (if s.part.rope.standstill then .stopped else .stoppingFast))) := by
  set p := takeHead i s.part with hp
  have hmode : (report .hostFastStop 0 .fast false p).sup.mode =
      if s.part.sup.mode.isRunning && s.part.rope.standstill then .stopped else modeAfterCause s.part.sup.mode .fast := report_mode ..
  have hnotrun : (report .hostFastStop 0 .fast false p).sup.mode ≠ .run := by
    rw [hmode]
    split
    · decide
    · cases s.part.sup.mode <;> decide
  obtain ⟨t, hrun, hanswers, hwindow, hattention, hsup, -, -, -, hframe⟩ :=
    atOnce_outside_run (body := orderStationFastStop) (q := report .hostFastStop 0 .fast false p) hnext rfl (report_kept ..) hnotrun
  have hafter : t.part.sup.mode = (report .hostFastStop 0 .fast false p).sup.mode := by rw [hsup]
  refine ⟨t, hrun, by rw [hafter]; exact hanswers, hwindow, ?_, ?_, ?_, ?_, hframe, fun h => ?_, fun h => ?_, fun h => ?_, fun h => ?_⟩
  · rw [hattention]; simp [report_attention]
  · have hfast := report_fast .hostFastStop 0 false p
    rw [hsup]
    simp only [fastStopFor, hmode, show fastHeld (report .hostFastStop 0 .fast false p).sup = true from hfast]
    split
    · rfl
    · cases s.part.sup.mode <;> rfl
  · rw [hsup]; exact report_entered ..
  · rw [hsup]; exact report_fast ..
  · rw [hafter, hmode, h]; rfl
  · rw [hafter, hmode]; obtain h | h := h <;> rw [h] <;> rfl
  · rw [hafter, hmode]
    have : s.part.sup.mode.isRunning = false := by revert h; cases s.part.sup.mode <;> decide
    rw [this, Bool.false_and, if_neg Bool.false_ne_true]; revert h; cases s.part.sup.mode <;> decide
  · have hfast : modeAfterCause s.part.sup.mode .fast = .stoppingFast := by revert h; cases s.part.sup.mode <;> decide
    have hne : p.sup.mode ≠ modeAfterCause p.sup.mode .fast := by
      rw [show p.sup.mode = s.part.sup.mode from rfl, hfast]
      intro e; rw [e] at h; exact nomatch h
    refine ⟨?_, ?_⟩
    · rw [hsup]
      refine (report_composed hne).zero ?_
      rw [hmode, hfast]; split <;> rfl
    · rw [hafter, hmode, hfast, h]; rfl

/-- Settles O28. -/
theorem stationStopOffAndFastStop : Obligations.StationStopOffAndFastStop := by
  refine ⟨fun i s => ⟨fun hnext => ⟨fun h => stationStop_stops hnext h, fun h => ?_, fun h => ?_⟩,
    fun hnext => ⟨fun h => stationOff_goes_off hnext h, fun h => ?_, fun h => ?_⟩⟩, fun i s hnext => stationFastStop_stops hnext⟩
  · exact atOnce_refuses hnext (orderStationStop_stopping (p := takeHead i s.part) h)
  · exact atOnce_refuses hnext (orderStationStop_elsewhere (p := takeHead i s.part) h)
  · exact atOnce_refuses hnext (by simp [orderStationOff, h, ok, refuse])
  · exact atOnce_refuses hnext (by
      simp only [List.mem_cons, List.not_mem_nil, or_false] at h
      obtain h | h | h | h := h <;> simp [orderStationOff, h])

end Sys2Proof.Machine

/-! STATION_PREPARE and STATION_START (R118, R119), CAUSE_ACKNOWLEDGE (R128), PROFILE_WRITE and PROFILE_SWITCH (R136 to R138). -/

namespace Sys2Proof.Machine

/-! ### PROFILE_WRITE (R136) -/

theorem readProfileName_none {n : Nat} (h : 1 < n) : readProfileName n = none := by
  unfold readProfileName
  split
  · omega
  · omega
  · rfl

theorem orderProfileWrite_active {x : Slot} {p : Part} {n : ProfileName} (hn : readProfileName (octet x 0) = some n)
    (hactive : p.sup.active = n) (hmode : p.sup.mode ≠ .off) : orderProfileWrite x p = refuse .refusedState 1 p := by
  simp [orderProfileWrite, hn, hactive, isOff, hmode]

theorem orderProfileWrite_pending {x : Slot} {p : Part} {n : ProfileName} (hn : readProfileName (octet x 0) = some n)
    (hactive : ¬ (p.sup.active = n ∧ p.sup.mode ≠ .off)) (hpending : p.sup.pendingSwitch = some n) :
    orderProfileWrite x p = refuse .refusedState 2 p := by
  have hfirst : ¬ (p.sup.active == n && !isOff p) = true := by simpa [isOff] using hactive
  simp only [orderProfileWrite, hn, hfirst, hpending, beq_self_eq_true, if_true, if_false, Bool.false_eq_true]

theorem orderProfileWrite_writes {x : Slot} {p : Part} {n : ProfileName} (hn : readProfileName (octet x 0) = some n)
    (hactive : ¬ (p.sup.active = n ∧ p.sup.mode ≠ .off)) (hpending : p.sup.pendingSwitch ≠ some n) :
    orderProfileWrite x p = clampedBy (profileClamped (readProfile x 1)) (writeProfile n (clampProfile (readProfile x 1)) p) := by
  have hfirst : ¬ (p.sup.active == n && !isOff p) = true := by simpa [isOff] using hactive
  have hsecond : ¬ (p.sup.pendingSwitch == some n) = true := by simpa using hpending
  simp only [orderProfileWrite, hn, hfirst, hsecond, if_false, Bool.false_eq_true]

theorem clampedBy_eq (n : Nat) (p : Part) :
    clampedBy n p = { result := if n = 0 then .ok else .clamped, detail := n, part := p } := by
  unfold clampedBy ok
  by_cases h : n = 0
  · simp [h]
  · simp [h]

/-- Pins in order stay where what they follow stays (R124). -/
theorem pins_of_sup {p q : Part} (hpins : PinsFollow p) (h : q.sup.svcStop = p.sup.svcStop ∧ q.sup.fastStop = p.sup.fastStop ∧
    q.sup.mode = p.sup.mode ∧ q.sup.causes = p.sup.causes ∧ q.sup.fastNote = p.sup.fastNote) :
    { q.sup with svcStop := svcStopFor q.sup, fastStop := fastStopFor q.sup } = q.sup := by
  obtain ⟨hsvc, hfast, -⟩ := hpins
  obtain ⟨h1, h2, h3, h4, h5⟩ := h
  have hs : svcStopFor q.sup = q.sup.svcStop := by rw [h1, hsvc, svcStopFor, svcStopFor, h3]
  have hf : fastStopFor q.sup = q.sup.fastStop := by rw [h2, hfast]; simp only [fastStopFor, fastHeld, h3, h4, h5]
  rw [hs, hf]

/-- An order whose effect is a change of the Supervisor's state that moves no output. -/
theorem atOnce_modSup {i : SlotNo} {k : Byte} {body : Slot → Part → Reply} {s : State} {r : Result} {d : Nat}
    {f : Supervisor → Supervisor} (hnext : OrderNext i k s)
    (hbody : body (slotOf s.part i) (takeHead i s.part) = { result := r, detail := d, part := modSup f (takeHead i s.part) })
    (hf : (f s.part.sup).svcStop = s.part.sup.svcStop ∧ (f s.part.sup).fastStop = s.part.sup.fastStop ∧
      (f s.part.sup).mode = s.part.sup.mode ∧ (f s.part.sup).causes = s.part.sup.causes ∧
      (f s.part.sup).fastNote = s.part.sup.fastNote) :
    ∃ t, atOnce i k body s = .next t ∧ AnswersOnly i r d 0 s t ∧ Frame [.window, .sup] s t ∧ t.part.sup = f s.part.sup := by
  have hwork : (modSup f (takeHead i s.part)).work = {} := hnext.1.2.1
  obtain ⟨t, hrun, hanswers, hframe, ht⟩ := atOnce_quiet (bits := 0) (changed := [.sup]) hnext hbody hwork (by simp [modSup, takeHead])
    (fun b hb hc => by
      cases b with
      | window => exact absurd rfl hb
      | sup => simp at hc
      | _ => rfl)
  have hquiet : settle 64 (answer i r d (modSup f (takeHead i s.part))) = answer i r d (modSup f (takeHead i s.part)) :=
    settle_of_quiet hwork
  refine ⟨t, hrun, hanswers, hframe, ?_⟩
  rw [ht, finish_sup, hquiet]
  exact pins_of_sup (q := modSup f s.part) hnext.1.2.2.1 hf

theorem profileWrite_writes {i : SlotNo} {s : State} {n : ProfileName} (hnext : OrderNext i 0x46 s)
    (hn : readProfileName (param i s 0) = some n) (hactive : ¬ (s.part.sup.active = n ∧ s.part.sup.mode ≠ .off))
    (hpending : s.part.sup.pendingSwitch ≠ some n) : After (.profileWrite i) s (fun t =>
      (let f := readProfile (slotOf s.part i) 1
       let clamped := ((profileNumbers f).zip (profileNumbers (clampProfile f))).countP (fun x => x.1 != x.2)
       AnswersOnly i (if clamped = 0 then .ok else .clamped) clamped 0 s t ∧ Frame [.window, .sup] s t ∧
       t.part.sup = (writeProfile n (clampProfile f) s.part).sup)) := by
  have hbody := orderProfileWrite_writes (x := slotOf s.part i) (p := takeHead i s.part) hn hactive hpending
  rw [clampedBy_eq] at hbody
  obtain ⟨t, hrun, hanswers, hframe, hsup⟩ := atOnce_modSup hnext hbody (by cases n <;> exact ⟨rfl, rfl, rfl, rfl, rfl⟩)
  exact ⟨t, hrun, hanswers, hframe, hsup⟩

/-! ### PROFILE_SWITCH (R137, R138) -/

theorem profileSwitch_takes_effect {i : SlotNo} {s : State} {n : ProfileName} (hnext : OrderNext i 0x47 s)
    (hn : readProfileName (param i s 0) = some n) (hmode : s.part.sup.mode ∈ [Mode.off, .ready, .stopped])
    (hactive : s.part.sup.active ≠ n) : After (.profileSwitch i) s (fun t =>
      Answers i .ok 0 s t ∧ WindowFrame i s t ∧ t.part.window.attention.getLsbD 11 = true ∧ t.part.sup.active = n ∧
      t.part.sup.pendingSwitch = none ∧ t.part.sup.mode = s.part.sup.mode ∧ t.part.sup.profileA = s.part.sup.profileA ∧
      t.part.sup.profileB = s.part.sup.profileB ∧ Frame [.window, .rope, .launch, .doors, .sup] s t) := by
  set p := takeHead i s.part with hp
  have hbody : orderProfileSwitch (slotOf s.part i) p = ok (applySwitch n p) := by
    simp only [List.mem_cons, List.not_mem_nil, or_false] at hmode
    have hne : ¬ (p.sup.active == n) = true := by simpa [hp] using hactive
    have hread : readProfileName (octet (slotOf s.part i) 0) = some n := hn
    obtain h | h | h := hmode <;> simp [orderProfileSwitch, hread, hp, h, hactive]
  have hsup : (applySwitch n p).sup = { p.sup with
      active := n, pendingSwitch := none, ceiling := composedCeiling { p.sup with active := n, pendingSwitch := none } } := by
    simp only [applySwitch, callLaunch_sup, composeCeiling_sup]; rfl
  have hbit : (applySwitch n p).window.attention.getLsbD 11 = true := by
    have attended : BitsStay (attend .profile p).window (applySwitch n p).window :=
      composeCeiling_bitsStay (attend .profile (modSup (fun s => { s with active := n, pendingSwitch := none }) p))
    exact attended 11 (by simp [Attn.bit])
  obtain ⟨t, hrun, hanswers, hwindow, hattention, htsup, -, -, hframe, -⟩ := atOnce_outside_run hnext hbody
    (applySwitch_kept n p).1 (by
      rw [hsup]
      simp only [List.mem_cons, List.not_mem_nil, or_false] at hmode
      obtain h | h | h := hmode <;> simp [hp, h])
  refine ⟨t, hrun, hanswers, hwindow, by rw [hattention]; simp [hbit], ?_, ?_, ?_, ?_, ?_, hframe (applySwitch_kept n p).2⟩
  all_goals rw [htsup, hsup]
  all_goals rfl

/-- Settles O30. -/
theorem profileWriteAndSwitch : Obligations.ProfileWriteAndSwitch := by
  refine fun i s => ⟨fun hnext => ⟨fun h => ?_, fun n hn => ⟨fun ha hm => ?_, fun ha hp => ?_, fun ha hp => ?_⟩⟩,
    fun hnext => ⟨fun h => ?_, fun n hn => ⟨fun hm => ?_, fun hm ha => ?_, fun hm ha => ?_, fun hm ha => ?_, fun hm ha => ?_⟩⟩⟩
  · exact atOnce_refuses hnext (by simp [orderProfileWrite, readProfileName_none h])
  · exact atOnce_refuses hnext (orderProfileWrite_active (p := takeHead i s.part) hn ha hm)
  · exact atOnce_refuses hnext (orderProfileWrite_pending (p := takeHead i s.part) hn ha hp)
  · obtain ⟨t, hrun, hanswers, hframe, hsup⟩ := profileWrite_writes hnext hn ha hp
    exact ⟨t, hrun, hanswers, hframe, hsup.trans (by cases n <;> rfl)⟩
  · exact atOnce_refuses hnext (by simp [orderProfileSwitch, readProfileName_none h])
  · refine atOnce_refuses hnext ?_
    have hread : readProfileName (octet (slotOf s.part i) 0) = some n := hn
    simp only [List.mem_cons, List.not_mem_nil, or_false] at hm
    obtain h | h | h := hm <;> simp [orderProfileSwitch, hread, h]
  · have hread : readProfileName (octet (slotOf s.part i) 0) = some n := hn
    exact atOnce_modSup (f := fun u => { u with pendingSwitch := some n }) hnext
      (by simp [orderProfileSwitch, hread, hm, switchInRun, ha, okDetail]) ⟨rfl, rfl, rfl, rfl, rfl⟩
  · have hread : readProfileName (octet (slotOf s.part i) 0) = some n := hn
    exact atOnce_modSup (f := fun u => { u with pendingSwitch := none }) hnext
      (by simp [orderProfileSwitch, hread, hm, switchInRun, ha, ok]) ⟨rfl, rfl, rfl, rfl, rfl⟩
  · refine atOnce_refuses hnext ?_
    have hread : readProfileName (octet (slotOf s.part i) 0) = some n := hn
    simp only [List.mem_cons, List.not_mem_nil, or_false] at hm
    obtain h | h | h := hm <;> simp [orderProfileSwitch, hread, h, ha, ok, refuse]
  · exact profileSwitch_takes_effect hnext hn hm ha

/-! ### STATION_PREPARE and STATION_START (R118, R119) -/

/-- The conditions of R118 as they are numbered: number `n` does not hold. -/
def startFails (p : Part) (n : Nat) : Prop :=
  (n = 1 ∧ (p.sup.causes ≠ [] ∨ ∃ c ∈ p.sup.present, c.listed = false)) ∨ (n = 2 ∧ p.line.state ≠ .up) ∨
    (n = 3 ∧ ¬ (p.line.state = .up ∧ p.line.accepted.getLsbD 0 = true)) ∨ (n = 4 ∧ p.rope.view.invalid = true) ∨
    (n = 5 ∧ ¬ (p.sensors.everGood = true ∧ p.sensors.failRun ≠ 3))

theorem startFails_one (p : Part) : startFails p 1 ↔ causesStand p.sup = true := by
  simp [startFails, causesStand]

theorem startFails_two (p : Part) : startFails p 2 ↔ (p.line.state != .up) = true := by simp [startFails]

theorem startFails_three (p : Part) : startFails p 3 ↔ (!summitReady p.line) = true := by
  simp [startFails, summitReady, summitBit, imp_iff_not_or]

theorem startFails_four (p : Part) : startFails p 4 ↔ p.rope.view.invalid = true := by simp [startFails]

theorem startFails_five (p : Part) : startFails p 5 ↔ (!converterHealthy p.sensors) = true := by
  simp [startFails, converterHealthy, converterFaultPresent]; grind

/-- The start conditions are checked in the order of their numbers. -/
theorem startConditionFails_first {p : Part} {n : Nat} (hn : n ∈ [2, 3, 4, 5]) (hfails : startFails p n)
    (hbefore : ∀ m ∈ [2, 3, 4, 5], m < n → ¬ startFails p m) : startConditionFails p = some n := by
  simp only [List.mem_cons, List.not_mem_nil, or_false] at hn
  simp only [List.forall_mem_cons, List.not_mem_nil, false_imp_iff, implies_true, and_true, startFails_two, startFails_three,
    startFails_four] at hbefore
  unfold startConditionFails
  obtain rfl | rfl | rfl | rfl := hn
  · rw [if_pos ((startFails_two p).mp hfails)]
  · rw [if_neg (hbefore.1 (by decide)), if_pos ((startFails_three p).mp hfails)]
  · rw [if_neg (hbefore.1 (by decide)), if_neg (hbefore.2.1 (by decide)), if_pos ((startFails_four p).mp hfails)]
  · rw [if_neg (hbefore.1 (by decide)), if_neg (hbefore.2.1 (by decide)), if_neg (hbefore.2.2.1 (by decide)),
      if_pos ((startFails_five p).mp hfails)]

theorem startConditionFails_none {p : Part} (h : ∀ n ∈ [2, 3, 4, 5], ¬ startFails p n) : startConditionFails p = none := by
  simp only [List.forall_mem_cons, List.not_mem_nil, false_imp_iff, implies_true, and_true, startFails_two, startFails_three,
    startFails_four, startFails_five] at h
  obtain ⟨h2, h3, h4, h5⟩ := h
  simp only [startConditionFails, h2, h3, h4, h5, if_false, Bool.false_eq_true]

theorem prepareConditionFails_first {p : Part} {n : Nat} (hn : n ∈ [1, 2, 3, 4, 5]) (hfails : startFails p n)
    (hbefore : ∀ m ∈ [1, 2, 3, 4, 5], m < n → ¬ startFails p m) : prepareConditionFails p = some n := by
  unfold prepareConditionFails
  obtain rfl | hn := List.mem_cons.mp hn
  · rw [if_pos ((startFails_one p).mp hfails)]
  · have h1 : ¬ causesStand p.sup = true := fun h =>
      hbefore 1 (by decide) (by simp only [List.mem_cons, List.not_mem_nil, or_false] at hn; omega) ((startFails_one p).mpr h)
    rw [if_neg h1]
    exact startConditionFails_first hn hfails fun m hm => hbefore m (List.mem_cons_of_mem 1 hm)

theorem prepareConditionFails_none {p : Part} (h : ∀ n ∈ [1, 2, 3, 4, 5], ¬ startFails p n) : prepareConditionFails p = none := by
  have h1 : ¬ causesStand p.sup = true := fun hc => h 1 (by decide) ((startFails_one p).mpr hc)
  rw [prepareConditionFails, if_neg h1]
  exact startConditionFails_none fun n hn => h n (List.mem_cons_of_mem 1 hn)

theorem stationPrepare_prepares {i : SlotNo} {s : State} (hnext : OrderNext i 0x40 s) (hmode : s.part.sup.mode = .off)
    (h : ∀ n ∈ [1, 2, 3, 4, 5], ¬ startFails s.part n) : After (.stationPrepare i) s (fun t =>
      Answers i .ok 1 s t ∧ WindowFrame i s t ∧ t.part.window.attention.getLsbD 1 = true ∧ t.part.sup.mode = .ready ∧
      t.part.sup.causes = [] ∧ t.part.sup.ceiling = 0 ∧ Frame [.window, .rope, .launch, .doors, .sup] s t) := by
  set p := takeHead i s.part with hp
  have hfails : prepareConditionFails p = none := prepareConditionFails_none h
  have hbody : orderStationPrepare (slotOf s.part i) p = okDetail 1 (changeMode .ready p) := by
    have hmode' : p.sup.mode = .off := hmode
    have hoff : ¬ (!isOff p) = true := by simp [isOff, hmode']
    simp only [orderStationPrepare, hoff, hfails, if_false, Bool.false_eq_true]
  have hne : p.sup.mode ≠ .ready := by simp [hp, hmode]
  have hafter : (changeMode .ready p).sup.mode = .ready := by rw [changeMode_enters (.inl rfl), enterMode_mode]
  have hcauses : s.part.sup.causes = [] := by
    have h1 := h 1 (by decide)
    rw [startFails_one] at h1
    simp [causesStand] at h1
    exact h1.1
  obtain ⟨t, hrun, hanswers, hwindow, hattention, hsup, -, -, hframe, -⟩ :=
    atOnce_outside_run hnext hbody (changeMode_kept _ p) (by rw [hafter]; decide)
  refine ⟨t, hrun, hanswers, hwindow, ?_, ?_, ?_, ?_, hframe (changeMode_calls (by decide) p)⟩
  · rw [hattention]; simp [(changeMode_called hne).2]
  · rw [hsup]; exact hafter
  · rw [hsup]; exact (changeMode_kept_causes .ready p).1.trans hcauses
  · rw [hsup]; exact (changeMode_composed hne).zero (by rw [hafter]; rfl)

theorem mem_running_iff (m : Mode) : m ∈ [Mode.starting, .run] ↔ m.isRunning = true := by
  cases m <;> decide

/-- The least of Vmax and the speeds of the caps in the set. -/
theorem capSpeed_eq (b : Bool) (v vmax : Nat) : capSpeed b v vmax = if b then min v vmax else vmax := rfl

/-- R132, as `composedCeiling` computes it. -/
theorem ceilingStands_iff (u : Supervisor) : CeilingStands u ↔ Composed u := by
  simp only [CeilingStands, Composed, mem_running_iff, composedCeiling, capSpeed_eq]
  by_cases hrun : u.mode.isRunning = true
  · simp only [hrun, not_true, false_imp_iff, true_and, true_imp_iff, if_true]
    cases u.caps.wind <;> cases u.caps.hold <;> cases u.caps.door <;> cases u.caps.link <;> simp <;> omega
  · simp [hrun]

theorem stationStart_starts {i : SlotNo} {s : State} (hnext : OrderNext i 0x41 s) (hmode : s.part.sup.mode = .ready)
    (h : ∀ n ∈ [2, 3, 4, 5], ¬ startFails s.part n) : After (.stationStart i) s (fun t =>
      Answers i .ok 2 s t ∧ WindowFrame i s t ∧ t.part.window.attention.getLsbD 1 = true ∧ t.part.sup.mode = .starting ∧
      t.part.sup.startTimer = some (s.part.clock.now + ms 10000) ∧ CeilingStands t.part.sup ∧
      t.part.sup.causes = s.part.sup.causes ∧ t.part.sup.caps = s.part.sup.caps ∧
      Frame [.window, .rope, .launch, .doors, .sup] s t) := by
  set p := takeHead i s.part with hp
  have hfails : startConditionFails p = none := startConditionFails_none h
  have hbody : orderStationStart (slotOf s.part i) p = okDetail 2 (beginStarting p) := by
    have hmode' : p.sup.mode = .ready := hmode
    have hready : ¬ (p.sup.mode != .ready) = true := by simp [hmode']
    simp only [orderStationStart, hready, hfails, if_false, Bool.false_eq_true]
  have hne : p.sup.mode ≠ .starting := by simp [hp, hmode]
  have hafter : (changeMode .starting p).sup.mode = .starting := by rw [changeMode_enters (.inl rfl), enterMode_mode]
  obtain ⟨hcauses, -, -, -, -, hcaps, -⟩ := changeMode_kept_causes .starting p
  have hkept : SupKeeps p (beginStarting p) := changeMode_kept .starting p
  have hsup' : (beginStarting p).sup = { (changeMode .starting p).sup with startTimer := some (p.clock.now + ms 10000) } := by
    rw [beginStarting]; rfl
  obtain ⟨t, hrun, hanswers, hwindow, hattention, hsup, -, -, hframe, -⟩ :=
    atOnce_outside_run hnext hbody hkept (by rw [hsup']; simp [hafter])
  have hbit : (beginStarting p).window.attention.getLsbD 1 = true := (changeMode_called hne).2
  refine ⟨t, hrun, hanswers, hwindow, ?_, ?_, ?_, ?_, ?_, ?_, hframe (changeMode_calls (by decide) p)⟩
  · rw [hattention]; simp [hbit]
  · rw [hsup, hsup']; exact hafter
  · rw [hsup, hsup']; rfl
  · rw [ceilingStands_iff, hsup, hsup']; exact changeMode_composed hne
  · rw [hsup, hsup']; exact hcauses
  · rw [hsup, hsup']; exact hcaps

/-! ### CAUSE_ACKNOWLEDGE (R128) -/

/-- A condition held unlisted as CAUSE_ACKNOWLEDGE lists it. -/
def listedCause (x : PresentCause) : Cause :=
  { kind := x.kind, source := x.source, category := x.category, firstTime := x.firstTime, repeats := 1, present := true }

/-- The conditions are listed in their order while there is room, and those for which there is none stay unlisted. -/
theorem listUnlisted_eq (l : List PresentCause) (kept : List Cause) :
    (listUnlisted l kept).2 = kept ++ ((l.filter (fun x => !x.listed)).take (16 - kept.length)).map listedCause ∧
      (listUnlisted l kept).1.filter (fun x => !x.listed) = (l.filter (fun x => !x.listed)).drop (16 - kept.length) ∧
      (listUnlisted l kept).1.map (fun x => { x with listed := true }) = l.map (fun x => { x with listed := true }) := by
  induction l generalizing kept with
  | nil => simp [listUnlisted]
  | cons c t ih =>
    by_cases hlists : (!c.listed && kept.length < Config.causesMax) = true
    · obtain ⟨hunlisted, hroom⟩ : (!c.listed) = true ∧ kept.length < 16 := by simpa [Config.causesMax] using hlists
      obtain ⟨hlist, hrest, hsame⟩ := ih (kept ++ [listedCause c])
      have hsucc : 16 - kept.length = (16 - (kept ++ [listedCause c]).length) + 1 := by simp; omega
      have hstep : listUnlisted (c :: t) kept =
          ({ c with listed := true } :: (listUnlisted t (kept ++ [listedCause c])).1, (listUnlisted t (kept ++ [listedCause c])).2) := by
        rw [listUnlisted, if_pos hlists]; rfl
      rw [hstep]
      simp only [List.filter_cons, hunlisted, if_true, List.map_cons, Bool.not_true, Bool.false_eq_true, if_false]
      rw [hlist, hrest, hsame, hsucc, List.take_succ_cons, List.drop_succ_cons]
      simp
    · obtain ⟨hlist, hrest, hsame⟩ := ih kept
      have hstep : listUnlisted (c :: t) kept = (c :: (listUnlisted t kept).1, (listUnlisted t kept).2) := by
        rw [listUnlisted, if_neg hlists]
      rw [hstep]
      by_cases hunlisted : (!c.listed) = true
      · have hfull : 16 - kept.length = 0 := by
          have : ¬ kept.length < 16 := fun hroom => hlists (by simpa [Config.causesMax] using ⟨by simpa using hunlisted, hroom⟩)
          omega
        simp only [List.filter_cons, hunlisted, if_true, List.map_cons, hfull, List.take_zero, List.drop_zero] at hlist hrest ⊢
        exact ⟨hlist, by rw [hrest], by rw [hsame]⟩
      · simp only [List.filter_cons, hunlisted, if_false, List.map_cons, Bool.false_eq_true]
        exact ⟨hlist, hrest, by rw [hsame]⟩

theorem acknowledge_list (u : Supervisor) :
    (acknowledge u).causes = (listUnlisted u.present (u.causes.filter (fun c => c.present))).2 ∧
      (acknowledge u).present = (listUnlisted u.present (u.causes.filter (fun c => c.present))).1 ∧ (acknowledge u).mode = u.mode := by
  unfold acknowledge
  dsimp only
  split <;> exact ⟨rfl, rfl, rfl⟩

/-- The overflow record after CAUSE_ACKNOWLEDGE. -/
theorem acknowledge_overflow (u : Supervisor) :
    ((∀ x ∈ (acknowledge u).present, x.listed = true) →
      (acknowledge u).overflow = false ∧ (acknowledge u).overflowCount = 0 ∧ (acknowledge u).fastNote = false) ∧
    ((∃ x ∈ (acknowledge u).present, x.listed = false) → (acknowledge u).overflow = u.overflow ∧
      (acknowledge u).overflowCount = u.overflowCount ∧
      (acknowledge u).fastNote = (u.fastNote && (acknowledge u).present.any (fun x => !x.listed && x.category == .fast))) := by
  obtain ⟨-, hpresent, -⟩ := acknowledge_list u
  rw [hpresent]
  unfold acknowledge
  generalize listUnlisted u.present (u.causes.filter (fun c => c.present)) = r
  dsimp only
  split
  next hempty =>
    have hall : ∀ x ∈ r.1, x.listed = true := by simpa [List.filter_eq_nil_iff] using hempty
    refine ⟨fun _ => ⟨rfl, rfl, rfl⟩, fun ⟨x, hx, hfalse⟩ => ?_⟩
    rw [hall x hx] at hfalse; exact nomatch hfalse
  next hsome =>
    refine ⟨fun hall => absurd ?_ hsome, fun _ => ⟨rfl, rfl, ?_⟩⟩
    · simpa [List.filter_eq_nil_iff] using hall
    · simp [List.any_filter]

/-- The frame of fewer blocks is a frame of more. -/
theorem frame_mono {changed more : List Block} {s t : State} (h : Frame changed s t) (hsub : ∀ b ∈ changed, b ∈ more) : Frame more s t := by
  obtain ⟨h1, h2, h3, h4, h5, hsame⟩ := h
  exact ⟨h1, h2, h3, h4, h5, fun b hb hmore => hsame b hb fun hc => hmore (hsub b hc)⟩

/-- The part when CAUSE_ACKNOWLEDGE has renewed the list and announced it. -/
def acknowledged (p : Part) : Part := attend .stopCause (modSup acknowledge p)

theorem orderCauseAcknowledge_off {x : Slot} {p : Part} (h : p.sup.mode = .stopped ∧ (acknowledge p.sup).causes = []) :
    orderCauseAcknowledge x p = okDetail 0 (changeMode .off (acknowledged p)) := by
  have hmode : (acknowledged p).sup.mode = .stopped := (acknowledge_list p.sup).2.2.trans h.1
  have hcauses : (acknowledged p).sup.causes = [] := h.2
  simp only [orderCauseAcknowledge]
  rw [show attend .stopCause (modSup acknowledge p) = acknowledged p from rfl, hcauses, hmode]
  rfl

theorem orderCauseAcknowledge_stays {x : Slot} {p : Part} (h : ¬ (p.sup.mode = .stopped ∧ (acknowledge p.sup).causes = [])) :
    orderCauseAcknowledge x p = okDetail (acknowledge p.sup).causes.length (acknowledged p) := by
  have hmode : (acknowledged p).sup.mode = p.sup.mode := (acknowledge_list p.sup).2.2
  have hcauses : (acknowledged p).sup.causes = (acknowledge p.sup).causes := rfl
  simp only [orderCauseAcknowledge]
  rw [show attend .stopCause (modSup acknowledge p) = acknowledged p from rfl, hcauses, hmode, if_neg]
  simpa using h

/-- What CAUSE_ACKNOWLEDGE makes of the list, as the Supervisor's own computation of it. -/
theorem causeAcknowledge_acknowledges {i : SlotNo} {s : State} (hnext : OrderNext i 0x45 s) :
    ∃ t, execCauseAcknowledge i s = .next t ∧ Answers i .ok t.part.sup.causes.length s t ∧ WindowFrame i s t ∧
      t.part.window.attention.getLsbD 2 = true ∧ t.part.sup.causes = (acknowledge s.part.sup).causes ∧
      t.part.sup.present = (acknowledge s.part.sup).present ∧ t.part.sup.overflow = (acknowledge s.part.sup).overflow ∧
      t.part.sup.overflowCount = (acknowledge s.part.sup).overflowCount ∧ t.part.sup.fastNote = (acknowledge s.part.sup).fastNote ∧
      t.part.sup.mode = (if s.part.sup.mode = .stopped ∧ (acknowledge s.part.sup).causes = [] then .off else s.part.sup.mode) ∧
      Frame [.window, .rope, .launch, .doors, .sup] s t := by
  set p := takeHead i s.part with hp
  by_cases hoff : s.part.sup.mode = .stopped ∧ (acknowledge s.part.sup).causes = []
  · have hafter : (changeMode .off (acknowledged p)).sup.mode = .off := by rw [changeMode_enters (.inl rfl), enterMode_mode]
    have hkept : SupKeeps p (changeMode .off (acknowledged p)) := changeMode_kept .off (acknowledged p)
    obtain ⟨hcauses, hpresent, hoverflow, hcount, hnote, -⟩ := changeMode_kept_causes .off (acknowledged p)
    obtain ⟨t, hrun, hanswers, hwindow, hattention, hsup, -, -, hframe, -⟩ :=
      atOnce_outside_run hnext (orderCauseAcknowledge_off (p := p) hoff) hkept (by rw [hafter]; decide)
    have hlist : t.part.sup.causes = (acknowledge s.part.sup).causes := by rw [hsup]; exact hcauses
    have hbit : (changeMode .off (acknowledged p)).window.attention.getLsbD 2 = true :=
      changeMode_bitsStay .off (acknowledged p) 2 (by simp [acknowledged, Attn.bit])
    rw [if_pos hoff]
    refine ⟨t, hrun, by rw [hlist, hoff.2]; exact hanswers, hwindow, by rw [hattention]; simp [hbit], hlist, ?_, ?_, ?_, ?_, ?_,
      hframe (changeMode_calls (by decide) (acknowledged p))⟩
    all_goals rw [hsup]
    exacts [hpresent, hoverflow, hcount, hnote, hafter]
  · have hwork : (acknowledged p).work = {} := hnext.1.2.1
    obtain ⟨t, hrun, hanswers, hframe, ht⟩ := atOnce_quiet (bits := 4) (changed := [.sup]) hnext
      (orderCauseAcknowledge_stays (p := p) hoff) hwork rfl (fun b hb hc => by
        cases b with
        | window => exact absurd rfl hb
        | sup => simp at hc
        | _ => rfl)
    have hquiet : settle 64 (answer i .ok (acknowledge p.sup).causes.length (acknowledged p)) =
        answer i .ok (acknowledge p.sup).causes.length (acknowledged p) := settle_of_quiet hwork
    have hsup : t.part.sup = { acknowledge s.part.sup with
        svcStop := svcStopFor (acknowledge s.part.sup), fastStop := fastStopFor (acknowledge s.part.sup) } := by
      rw [ht, finish_sup]
      simp only [okDetail, hquiet]
      rfl
    have hlist : t.part.sup.causes = (acknowledge s.part.sup).causes := by rw [hsup]
    rw [if_neg hoff]
    refine ⟨t, hrun, by rw [hlist]; exact hanswers.1, hanswers.2.1, by rw [hanswers.2.2]; simp, hlist, ?_, ?_, ?_, ?_, ?_,
      frame_mono hframe (by decide)⟩
    all_goals rw [hsup]
    exact (acknowledge_list s.part.sup).2.2

/-- Settles O29: the list is renewed by `acknowledge`, whose lists `listUnlisted_eq` describes. -/
theorem causeAcknowledgeKeepsThePresentCauses : Obligations.CauseAcknowledgeKeepsThePresentCauses := by
  intro i s hnext
  obtain ⟨t, hrun, hanswers, hwindow, hbit, hcauses, hpresent, hoverflow, hcount, hnote, hmode, hframe⟩ :=
    causeAcknowledge_acknowledges hnext
  obtain ⟨hlist, hrest, hsame⟩ := listUnlisted_eq s.part.sup.present (s.part.sup.causes.filter (fun c => c.present))
  obtain ⟨lcauses, lpresent, -⟩ := acknowledge_list s.part.sup
  obtain ⟨hall, hsome⟩ := acknowledge_overflow s.part.sup
  rw [← lcauses, ← hcauses] at hlist
  rw [← lpresent, ← hpresent] at hrest hsame
  refine ⟨t, hrun, hanswers, hwindow, hbit, hlist, fun c hc => ?_, hrest, hsame, ?_, ?_, ?_, hframe⟩
  · rw [hlist, List.mem_append] at hc
    obtain hc | hc := hc
    · simpa using (List.mem_filter.mp hc).2
    · obtain ⟨x, -, rfl⟩ := List.mem_map.mp hc; rfl
  · rw [hpresent, hoverflow, hcount, hnote]; exact hall
  · rw [hpresent, hoverflow, hcount, hnote]; exact hsome
  · rw [hcauses]; exact hmode

end Sys2Proof.Machine

/-! The resets (R197, R198), and what waits for their end. -/

namespace Sys2Proof.Machine

/-! ### During a software reset -/

theorem exec_during_reset {c : Instr} {s : State} (hb : s.before.isSome = true) (hdone : c ≠ .softResetDone) (hpower : c ≠ .powerOnReset)
    (hlow : ∀ a, c ≠ .latchedLowRead a) (hhigh : ∀ a, c ≠ .latchedHighRead a) : exec c s = .next s := by
  obtain ⟨g, f, -, h⟩ | rfl | h | h | ⟨a, h⟩ | ⟨a, h⟩ | ⟨a, d, lo, hi, rfl⟩ := exec_cases c
  · rw [h]; exact occurs_during_reset hb
  · exact congrArg Host.Outcome.next (if_pos hb)
  · exact absurd h hdone
  · exact absurd h hpower
  · exact absurd h (hlow a)
  · exact absurd h (hhigh a)
  · exact congrArg Host.Outcome.next (if_pos hb)

/-- A read during a software reset takes a half-word of the part before it or of the part after it. -/
theorem hostRead_during_reset (a : BitVec 13) {s : State} {old : Part} (hb : s.before = some old) :
    (hostRead a s).part = s.part ∧ (hostRead a s).before = s.before ∧
      ((hostRead a s).busData = windowHalf true old a ∨ (hostRead a s).busData = windowHalf true s.part a) := by
  have hread : hostRead a s = { s with busData := readsAs s a, readChoices := s.readChoices + 1 } := if_pos (by rw [hb]; rfl)
  rw [hread]
  refine ⟨rfl, rfl, ?_⟩
  simp only [readsAs, readPart, hb, Option.isSome_some]
  split
  · exact .inl rfl
  · exact .inr rfl

/-- Settles O8. -/
theorem nothingActsDuringSoftReset : Obligations.NothingActsDuringSoftReset :=
  ⟨fun _ _ hb hdone hpower hlow hhigh => exec_during_reset hb hdone hpower hlow hhigh,
    fun a _ _ hb => ⟨⟨_, rfl, hostRead_during_reset a hb⟩, ⟨_, rfl, hostRead_during_reset a hb⟩⟩⟩

/-! ### The states after the resets -/

theorem slotOf_default (i : SlotNo) : slotOf ({} : Part) i = {} := by simp [slotOf, vector_get_eq]

theorem cabins_default (j : Fin 128) : ({} : Part).cabins.get j = {} := by simp [vector_get_eq]

/-- The part after a software reset, block by block. -/
theorem softReset_part (p : Part) : let q := refreshPins (afterSoftReset p)
    (∀ i : SlotNo, slotOf q i = {}) ∧
    (∀ j : Fin 128, q.cabins.get j = { registered := (p.cabins.get j).registered, inService := (p.cabins.get j).inService }) ∧
    (∀ j : Fin 8, (q.sensors.switches.get j).kind = (p.sensors.switches.get j).kind ∧
      (q.sensors.switches.get j).category = (p.sensors.switches.get j).category) := by
  have cabins (j : Fin 128) : (mapTable cabinAfterReset p.cabins).get j = cabinAfterReset (p.cabins.get j) := mapTable_get _ _ _
  have switches (j : Fin 8) :
      (refreshPins (afterSoftReset p)).sensors.switches.get j = switchAfterReset (p.sensors.switches.get j) := mapTable_get _ _ _
  refine ⟨fun i => slotOf_default i, cabins, fun j => ?_⟩
  rw [switches]
  exact ⟨rfl, rfl⟩

/-- Settles O9. -/
theorem resetsSetTheState : Obligations.ResetsSetTheState := by
  refine ⟨fun s => ⟨_, rfl, rfl, rfl, rfl, slotOf_default, ?_⟩, fun s => ⟨fun hb => ?_, fun hb => ?_, rfl⟩⟩
  · exact ⟨rfl, rfl, rfl, rfl, rfl, rfl, rfl, rfl, rfl, rfl, rfl, rfl, cabins_default, rfl, rfl, rfl, rfl, rfl, rfl, rfl, rfl, rfl, rfl,
      rfl, rfl, rfl, rfl⟩
  · obtain ⟨hslots, hcabins, hswitches⟩ := softReset_part s.part
    have hexec : exec .softReset s = .next (beginSoftReset s) := congrArg Host.Outcome.next (if_neg (by simp [hb]))
    refine ⟨_, hexec, rfl, rfl, afterSoftReset_steady s.part, hslots, rfl, rfl, rfl, rfl, rfl, rfl, rfl, hcabins, rfl, rfl, rfl, rfl,
      rfl, rfl, channel_afterSoftReset s.part, rfl, rfl, rfl, rfl, hswitches, ?_, rfl, rfl⟩
    rfl
  · exact congrArg Host.Outcome.next (if_pos hb)

end Sys2Proof.Machine

/-! ROSTER_LOAD and STATION_QUEUE_LOAD (R22, R23): the checks in their order, and the lists loaded. -/

namespace Sys2Proof.Machine

/-! ### The checks of a list order -/

theorem firstAt_congr {f g : Nat → Prop} (h : ∀ n, f n ↔ g n) {n : Nat} (hf : FirstAt f n) : FirstAt g n :=
  ⟨(h n).mp hf.1, fun m hm hg => hf.2 m hm ((h m).mpr hg)⟩

/-- The first check that fails gives the item that fails it first. -/
theorem firstRefused_first {α : Type} {bad : List α → α → Bool} {t : List (List α → α → Bool)} {l : List α} {n : Nat}
    (h : FirstAt (FailsAt bad [] l) n) : firstRefused (bad :: t) l = some (n + 1) := by
  rw [firstRefused_cons, firstFailing_of_firstAt h, Option.some_or, Nat.add_comm]

/-- A check that no item fails leaves the rest of the checks. -/
theorem firstRefused_skip {α : Type} {bad : List α → α → Bool} {t : List (List α → α → Bool)} {l : List α}
    (h : ∀ n, ¬ FailsAt bad [] l n) : firstRefused (bad :: t) l = firstRefused t l := by
  rw [firstRefused_cons, firstFailing_eq_none_iff.mpr h, Option.none_or]

theorem firstRefused_skip_alone {α : Type} {bad : α → Bool} {t : List (List α → α → Bool)} {l : List α}
    (h : ∀ x ∈ l, bad x = false) : firstRefused ((fun _ x => bad x) :: t) l = firstRefused t l :=
  firstRefused_skip ((forall_not_failsAt_alone bad [] l).mpr h)

/-! ### ROSTER_LOAD (R22) -/

theorem rosterNumbers_outside {l : List Nat} {n : Nat} (h : FirstAt (fun n => ∃ k ∈ l[n]?, isCabin k = false) n) :
    firstRefused badRosterNumber l = some (n + 1) :=
  firstRefused_first (firstAt_congr (fun m => by simp [FailsAt]) h)

theorem rosterNumbers_again {l : List Nat} {n : Nat} (hcabins : ∀ x ∈ l, isCabin x = true)
    (h : FirstAt (fun n => ∃ k ∈ l[n]?, k ∈ l.take n) n) : firstRefused badRosterNumber l = some (n + 1) := by
  rw [badRosterNumber, firstRefused_skip_alone (bad := fun k => !isCabin k) (by simpa using hcabins)]
  exact firstRefused_first (firstAt_congr (fun m => by simp [FailsAt]) h)

theorem rosterCabins_unregistered {p : Part} {append : Bool} {l : List Nat} {n : Nat}
    (h : FirstAt (fun n => ∃ k ∈ l[n]?, (cabin p k).registered = false) n) :
    firstRefused (badRosterCabin p append) l = some (n + 1) :=
  firstRefused_first (firstAt_congr (fun m => by simp [FailsAt]) h)

theorem rosterCabins_queued {p : Part} {append : Bool} {l : List Nat} {n : Nat} (hreg : ∀ x ∈ l, (cabin p x).registered = true)
    (h : FirstAt (fun n => ∃ k ∈ l[n]?, inQueue p k = true) n) :
    firstRefused (badRosterCabin p append) l = some (n + 1) := by
  rw [badRosterCabin, firstRefused_skip_alone (bad := fun k => !(cabin p k).registered) (by simpa using hreg)]
  exact firstRefused_first (firstAt_congr (fun m => by simp [FailsAt]) h)

theorem rosterCabins_listed {p : Part} {append : Bool} {l : List Nat} {n : Nat} (hreg : ∀ x ∈ l, (cabin p x).registered = true)
    (hqueue : ∀ x ∈ l, inQueue p x = false) (h : FirstAt (fun n => append = true ∧ ∃ k ∈ l[n]?, onRoster p k = true) n) :
    firstRefused (badRosterCabin p append) l = some (n + 1) := by
  rw [badRosterCabin, firstRefused_skip_alone (bad := fun k => !(cabin p k).registered) (by simpa using hreg),
    firstRefused_skip_alone (bad := fun k => inQueue p k) hqueue]
  exact firstRefused_first (firstAt_congr (fun m => by simp [FailsAt]; tauto) h)

theorem rosterCabins_beyond {p : Part} {append : Bool} {l : List Nat} {n : Nat} (hreg : ∀ x ∈ l, (cabin p x).registered = true)
    (hqueue : ∀ x ∈ l, inQueue p x = false) (hroster : ∀ x ∈ l, onRoster p x = false)
    (h : FirstAt (fun n => append = true ∧ n < l.length ∧ 128 ≤ p.track.roster.length + n) n) :
    firstRefused (badRosterCabin p append) l = some (n + 1) := by
  rw [badRosterCabin, firstRefused_skip_alone (bad := fun k => !(cabin p k).registered) (by simpa using hreg),
    firstRefused_skip_alone (bad := fun k => inQueue p k) hqueue,
    firstRefused_skip_alone (bad := fun k => append && onRoster p k) (by simp +contextual [hroster])]
  refine firstRefused_first (firstAt_congr (fun m => ?_) h)
  by_cases hm : m < l.length
  · simp [FailsAt, Config.rosterMax, hm, Nat.min_eq_left hm.le]
  · simp [FailsAt, hm]

theorem rosterCabins_good {p : Part} {append : Bool} {l : List Nat}
    (h : ∀ x ∈ l, (cabin p x).registered = true ∧ inQueue p x = false ∧ (append = true → onRoster p x = false))
    (hroom : append = true → p.track.roster.length + l.length ≤ 128) : firstRefused (badRosterCabin p append) l = none := by
  rw [badRosterCabin, firstRefused_skip_alone (bad := fun k => !(cabin p k).registered) (fun x hx => by simp [(h x hx).1]),
    firstRefused_skip_alone (bad := fun k => inQueue p k) (fun x hx => (h x hx).2.1),
    firstRefused_skip_alone (bad := fun k => append && onRoster p k) (fun x hx => by simpa using (h x hx).2.2),
    firstRefused_skip, firstRefused_nil]
  intro n hn
  by_cases hlt : n < l.length
  · simp [FailsAt, Config.rosterMax, hlt, Nat.min_eq_left hlt.le] at hn
    have := hroom hn.1
    omega
  · simp [FailsAt, hlt] at hn

/-- ROSTER_LOAD as its checks answer. -/
theorem orderRosterLoad_range {x : Slot} (p : Part) (h : 1 < octet x 0 ∨ 118 < octet x 1) :
    orderRosterLoad x p = refuse .refusedRange 0 p := by
  have : (1 < octet x 0 || 118 < octet x 1) = true := by simpa using h
  simp only [orderRosterLoad, this, if_true]

section
variable {x : Slot} {p : Part} (hact : octet x 0 ≤ 1) (hcount : octet x 1 ≤ 118)
include hact hcount

theorem orderRosterLoad_eq : orderRosterLoad x p =
    match firstRefused badRosterNumber (readNumbers x 2 (octet x 1)) with
    | some j => refuse .refusedRange j p
    | none => if !isOff p then refuse .refusedState 0 p else
      match firstRefused (badRosterCabin p (octet x 0 == 1)) (readNumbers x 2 (octet x 1)) with
      | some j => refuse .refusedState j p
      | none => ok (loadRoster (octet x 0 == 1) (readNumbers x 2 (octet x 1)) p) := by
  have : ¬ (1 < octet x 0 || 118 < octet x 1) = true := by simp; omega
  simp only [orderRosterLoad, this]
  rfl

theorem orderRosterLoad_number {j : Nat} (h : firstRefused badRosterNumber (readNumbers x 2 (octet x 1)) = some j) :
    orderRosterLoad x p = refuse .refusedRange j p := by
  rw [orderRosterLoad_eq hact hcount, h]

theorem orderRosterLoad_mode (h : firstRefused badRosterNumber (readNumbers x 2 (octet x 1)) = none) (hmode : p.sup.mode ≠ .off) :
    orderRosterLoad x p = refuse .refusedState 0 p := by
  rw [orderRosterLoad_eq hact hcount, h]
  simp [isOff, hmode]

theorem orderRosterLoad_cabin (h : firstRefused badRosterNumber (readNumbers x 2 (octet x 1)) = none) (hmode : p.sup.mode = .off)
    {j : Nat} (hj : firstRefused (badRosterCabin p (octet x 0 == 1)) (readNumbers x 2 (octet x 1)) = some j) :
    orderRosterLoad x p = refuse .refusedState j p := by
  rw [orderRosterLoad_eq hact hcount, h, hj]
  simp [isOff, hmode]

theorem orderRosterLoad_loads (h : firstRefused badRosterNumber (readNumbers x 2 (octet x 1)) = none) (hmode : p.sup.mode = .off)
    (hj : firstRefused (badRosterCabin p (octet x 0 == 1)) (readNumbers x 2 (octet x 1)) = none) :
    orderRosterLoad x p = ok (loadRoster (octet x 0 == 1) (readNumbers x 2 (octet x 1)) p) := by
  rw [orderRosterLoad_eq hact hcount, h, hj]
  simp [isOff, hmode]

end

theorem isCabin_succ (j : Fin 128) : isCabin (j.val + 1) = true := by
  simp [isCabin]

theorem cabins_get_eq (p : Part) (j : Fin 128) : p.cabins.get j = cabin p (j.val + 1) := by
  rw [cabin, dif_pos ⟨by omega, by omega⟩]
  rfl

theorem rosterLoad_loads {i : SlotNo} {s : State} (hnext : OrderNext i 0x15 s) (hact : param i s 0 ≤ 1) (hcount : param i s 1 ≤ 118)
    (hnumbers : firstRefused badRosterNumber (readNumbers (slotOf s.part i) 2 (param i s 1)) = none) (hmode : s.part.sup.mode = .off)
    (hcabins : firstRefused (badRosterCabin s.part (param i s 0 == 1)) (readNumbers (slotOf s.part i) 2 (param i s 1)) = none) :
    ∃ t, execRosterLoad i s = .next t ∧ AnswersOnly i .ok 0 0 s t ∧ Frame [.window, .track, .cabins] s t ∧
      t.part.track = (loadRoster (param i s 0 == 1) (readNumbers (slotOf s.part i) 2 (param i s 1)) s.part).track ∧
      ∀ j : Fin 128, t.part.cabins.get j =
        cabin (loadRoster (param i s 0 == 1) (readNumbers (slotOf s.part i) 2 (param i s 1)) s.part) (j.val + 1) := by
  set l := readNumbers (slotOf s.part i) 2 (param i s 1)
  set p := takeHead i s.part with hp
  set q := loadRoster (param i s 0 == 1) l p with hq
  have kept : ListKeeps p q := loadRoster_kept _ l p
  obtain ⟨⟨hclock, hsensors, hline, -, -, -, -, -, -⟩, hwindow, hrope, hgrip, hlaunch, hdoors, hsequencer, hsup, hmessages, hcalls, hwork⟩ := kept
  have hquiet : q.work = {} := hwork.trans hnext.1.2.1
  obtain ⟨t, hrun, hanswers, hframe, ht⟩ := atOnce_quiet (bits := 0) (changed := [.track, .cabins]) hnext
    (orderRosterLoad_loads (p := p) hact hcount hnumbers hmode hcabins) hquiet (by
      have hw : (ok q).part.window = p.window := hwindow
      rw [show ok (loadRoster (octet (slotOf s.part i) 0 == 1) (readNumbers (slotOf s.part i) 2 (octet (slotOf s.part i) 1)) p) = ok q from rfl, hw]
      simp [hp, takeHead])
    (fun b hb hc => by
      cases b with
      | window => exact absurd rfl hb
      | track | cabins => simp at hc
      | _ => assumption)
  have hsettle : settle 64 (answer i .ok 0 q) = answer i .ok 0 q := settle_of_quiet hquiet
  have hpart : t.part = finish (answer i .ok 0 q) := ht
  refine ⟨t, hrun, hanswers, hframe, ?_, fun j => ?_⟩
  · rw [hpart, finish_track, hsettle, answer_track, hq, loadRoster_track, loadRoster_track]; rfl
  · rw [cabins_get_eq, hpart, cabin_finish, hsettle]
    rw [cabin_of_cabins_eq (answer_cabins i .ok 0 q), hq, cabin_loadRoster _ _ _ (isCabin_succ j),
      cabin_loadRoster _ _ _ (isCabin_succ j)]
    rfl

/-- Settles O17. -/
theorem rosterLoadPlacesTheList : Obligations.RosterLoadPlacesTheList := by
  intro i s hnext
  refine ⟨fun h => atOnce_refuses hnext (orderRosterLoad_range _ h), fun hact hcount =>
    ⟨fun n => ⟨fun h => ?_, fun hcabins h => ?_, fun hcabins honce hmode => ?_⟩, fun hcabins honce hmode => ?_,
      fun hcabins honce hmode hgood hroom => ?_⟩⟩
  · exact atOnce_refuses hnext (orderRosterLoad_number hact hcount (rosterNumbers_outside h))
  · exact atOnce_refuses hnext (orderRosterLoad_number hact hcount (rosterNumbers_again hcabins h))
  · have refused {m : Nat} (h : firstRefused (badRosterCabin (takeHead i s.part) (param i s 0 == 1))
        (readNumbers (slotOf s.part i) 2 (param i s 1)) = some m) : After (.rosterLoad i) s (Refuses i .refusedState m s) :=
      atOnce_refuses hnext (orderRosterLoad_cabin (p := takeHead i s.part) hact hcount (rosterNumbers_pass.mpr ⟨hcabins, honce⟩) hmode h)
    exact ⟨fun h => refused (rosterCabins_unregistered h), fun hreg => ⟨fun h => refused (rosterCabins_queued hreg h), fun hqueue =>
      ⟨fun h => refused (rosterCabins_listed hreg hqueue h), fun hroster h => refused (rosterCabins_beyond hreg hqueue hroster h)⟩⟩⟩
  · exact atOnce_refuses hnext
      (orderRosterLoad_mode (p := takeHead i s.part) hact hcount (rosterNumbers_pass.mpr ⟨hcabins, honce⟩) hmode)
  · obtain ⟨t, hrun, hanswers, hframe, htrack, hrecords⟩ := rosterLoad_loads hnext hact hcount
      (rosterNumbers_pass.mpr ⟨hcabins, honce⟩) hmode (rosterCabins_good hgood hroom)
    refine ⟨t, hrun, hanswers, hframe, ?_, fun j => ?_⟩
    · rw [htrack, loadRoster_track]
    · rw [hrecords, cabin_loadRoster _ _ _ (isCabin_succ j), ← cabins_get_eq]

end Sys2Proof.Machine

/-! STATION_QUEUE_LOAD (R23). -/

namespace Sys2Proof.Machine

/-- An order that leaves the part outside RUN: it is answered, and Launch Control at most takes its request back. -/
theorem atOnce_judges_launch {i : SlotNo} {k : Byte} {body : Slot → Part → Reply} {s : State} {r : Result} {d : Nat} {q : Part}
    {changed : List Block} (hnext : OrderNext i k s)
    (hbody : body (slotOf s.part i) (takeHead i s.part) = { result := r, detail := d, part := q })
    (hwindow : WindowKept (takeHead i s.part) q) (harb : q.work.arbiter = false) (hseq : q.work.sequencer = false)
    (hmode : q.sup.mode ≠ .run) (hkept : ∀ b ∉ changed, Part.same b s.part q)
    (hchanged : Block.window ∈ changed ∧ Block.launch ∈ changed ∧ Block.doors ∈ changed) :
    ∃ t, atOnce i k body s = .next t ∧ Answers i r d s t ∧ WindowFrame i s t ∧ Frame changed s t ∧
      t.part.track = q.track ∧ t.part.cabins = q.cabins ∧ t.part.sequencer = q.sequencer ∧
      t.part.sup = { q.sup with svcStop := svcStopFor q.sup, fastStop := fastStopFor q.sup } := by
  obtain ⟨hready, hhead, hkind⟩ := hnext
  obtain ⟨alone, -⟩ := settle_outside_run (p := answer i r d q) hmode harb hseq
  have heq := alone.1
  have hsettled : (settle 64 (answer i r d q)).window = (answer i r d q).window := by rw [heq]
  obtain ⟨hanswers, hframe⟩ := answers_finish (i := i) (r := r) (d := d) (s := s) hwindow (.of_eq hsettled)
    (by rw [hsettled]; simp [answer, Attn.bit])
  refine ⟨_, atOnce_acts hready.1 hhead hkind, ?_⟩
  rw [hbody]
  dsimp only
  refine ⟨hanswers, hframe, frame_finish hready fun b _ hb => ?_, by rw [finish_track, heq]; rfl, by rw [finish_cabins, heq]; rfl,
    by rw [finish_sequencer, heq]; rfl, by rw [finish_sup, heq]; rfl⟩
  have hsame := hkept b hb
  obtain ⟨hw, hl, hd⟩ := hchanged
  rw [heq]
  cases b with
  | window => exact absurd hw hb
  | launch => exact absurd hl hb
  | doors => exact absurd hd hb
  | _ => exact hsame

/-! ### The loaded queue and the stop causes that it ends or begins (R7, R15, R114) -/

/-- What a load of the queue in OFF keeps, besides `loadQueue_kept`. -/
abbrev LoadKeeps (p q : Part) : Prop :=
  WindowKept p q ∧ q.grip = p.grip ∧ q.messages = p.messages ∧ q.work.arbiter = p.work.arbiter ∧
    q.work.sequencer = p.work.sequencer ∧ (p.sup.mode = .off → q.sup.mode = .off ∧ q.calls = p.calls)

theorem LoadKeeps.trans {p q r : Part} (h : LoadKeeps p q) (g : LoadKeeps q r) : LoadKeeps p r := by
  obtain ⟨hw, hgrip, hmsg, harb, hseq, hoff⟩ := h
  obtain ⟨gw, ggrip, gmsg, garb, gseq, goff⟩ := g
  refine ⟨hw.trans gw, ggrip.trans hgrip, gmsg.trans hmsg, garb.trans harb, gseq.trans hseq, fun h => ?_⟩
  obtain ⟨hmode, hcalls⟩ := hoff h
  exact ⟨(goff hmode).1, (goff hmode).2.trans hcalls⟩

theorem LoadKeeps.refl (p : Part) : LoadKeeps p p := by simp [LoadKeeps, WindowKept, PortKept]

theorem LoadKeeps.foldl {α : Type} {f : Part → α → Part} (h : ∀ p a, LoadKeeps p (f p a)) (l : List α) (p : Part) :
    LoadKeeps p (l.foldl f p) :=
  List.foldlRecOn (motive := fun q => LoadKeeps p q) l f (.refl p) fun q hq a _ => hq.trans (h q a)

theorem gone_load (k : CauseKind) (n : Nat) (p : Part) : LoadKeeps p (gone k n p) := by
  simp only [LoadKeeps, WindowKept, PortKept, gone]
  (repeat' split) <;> simp

theorem gone_sup (k : CauseKind) (n : Nat) (p : Part) :
    (gone k n p).sup = { p.sup with causes := (gone k n p).sup.causes, present := (gone k n p).sup.present } := by
  unfold gone
  dsimp only
  split <;> simp [modSup]

theorem endUnlocked_load (k : Nat) (p : Part) : LoadKeeps p (endUnlocked k p) := by
  unfold endUnlocked
  split
  · have noted : LoadKeeps p (modSeq (fun s => { s with unlocked := s.unlocked.filter (fun j => j != k) }) p) := by
      simp [LoadKeeps, WindowKept, PortKept]
    exact noted.trans (gone_load _ _ _)
  · exact .refl p

theorem endUnlocked_caps (k : Nat) (p : Part) : (endUnlocked k p).sup.caps = p.sup.caps := by
  unfold endUnlocked
  split
  · rw [gone_sup]; simp
  · rfl

theorem setDoor_load (k : Nat) (d : CabinDoor) (p : Part) : LoadKeeps p (setDoor k d p) := by
  simp [LoadKeeps, WindowKept, PortKept]

theorem removeActions_load (bad : Action → Bool) (b : Bool) (p : Part) : LoadKeeps p (removeActions bad b p) := by
  simp [LoadKeeps, WindowKept, PortKept]

theorem judgeLate_load (bad : ChannelNo → Flight → Bool) (b : Bool) (p : Part) : LoadKeeps p (judgeLate bad b p) := by
  simp [LoadKeeps, WindowKept, PortKept]

theorem report_caps (k : CauseKind) (src : Nat) (c : Category) (present : Bool) (p : Part) :
    (report k src c present p).sup.caps = p.sup.caps := by
  have hnoted : (causeNoted k src c present p).sup.caps = p.sup.caps := by
    simp only [causeNoted, attend_sup, modSup]; rw [enterCause_kept]
  obtain ⟨-, -, -, -, -, hcaps, -⟩ := changeMode_kept_causes (modeAfterCause p.sup.mode c) (causeNoted k src c present p)
  rw [report_eq, hcaps, hnoted]

theorem setHoldCap_load (b : Bool) (p : Part) : LoadKeeps p (setHoldCap b p) ∧ (setHoldCap b p).sup.caps.hold = b := by
  have hmode : (setHoldCap b p).sup.mode = p.sup.mode := by
    rw [setHoldCap, setCaps_sup]
    split <;> rfl
  refine ⟨?_, by rw [setHoldCap, setCaps_caps]⟩
  simp [LoadKeeps, WindowKept, PortKept, hmode]

/-- In OFF a report leaves the mode, and makes no call. -/
theorem report_load (k : CauseKind) (src : Nat) (present : Bool) (p : Part) : LoadKeeps p (report k src .service present p) := by
  simp only [LoadKeeps, WindowKept, PortKept]
  simp
  intro hoff
  rw [report_mode, report_calls (by rw [hoff]; decide), hoff]
  exact ⟨rfl, rfl⟩

theorem modTrack_load (f : Track → Track) (p : Part) : LoadKeeps p (modTrack f p) := by
  simp [LoadKeeps, WindowKept, PortKept, modTrack]

theorem reportHoldOverflow_load (p : Part) : LoadKeeps p (reportHoldOverflow p) :=
  have noted : LoadKeeps p (attend .track (modTrack (fun t => { t with holdOverflow := true }) p)) := by
    simp [LoadKeeps, WindowKept, PortKept, modTrack]
  noted.trans (report_load _ _ _ _)

theorem recountHold_load (b : Bool) (p : Part) : LoadKeeps p (recountHold b p) := by
  have capped := (setHoldCap_load (3 ≤ segmentCount p 4) p).1
  refine capped.trans ?_
  unfold recountHold
  dsimp only
  generalize setHoldCap (3 ≤ segmentCount p 4) p = q
  (repeat' split)
  · exact reportHoldOverflow_load q
  · exact .refl q
  · exact (modTrack_load _ q).trans (gone_load _ _ _)
  · exact .refl q

theorem recountQueue_load (p : Part) : LoadKeeps p (recountQueue p) := by
  unfold recountQueue
  split
  · exact (modTrack_load _ p).trans (gone_load _ _ _)
  · exact .refl p

/-- The HOLD cap and the HOLD_OVERFLOW condition follow the count in S4 (R7). -/
theorem recountHold_counts (b : Bool) (p : Part) :
    (recountHold b p).sup.caps.hold = decide (3 ≤ segmentCount p 4) ∧
      (recountHold b p).track.holdOverflow = decide (4 ≤ segmentCount p 4) := by
  have hcap := (setHoldCap_load (3 ≤ segmentCount p 4) p).2
  unfold recountHold
  dsimp only
  by_cases hfour : 4 ≤ segmentCount p 4
  · have hthree : 3 ≤ segmentCount p 4 := by omega
    simp only [hfour, hthree, if_true, decide_true] at hcap ⊢
    split
    · rw [reportHoldOverflow, reportTrack, report_caps]
      simp [modTrack, hcap]
    next hnone =>
      obtain ⟨-, hover⟩ : b = false ∧ p.track.holdOverflow = true := by simpa using hnone
      exact ⟨hcap, by simpa using hover⟩
  · simp only [hfour, if_false, decide_false]
    split
    next => rw [gone_sup]; simp [modTrack, hcap]
    next hnone => exact ⟨hcap, by simpa using hnone⟩

/-- TRACK_OVERFLOW stays while the queue is full (R15, R17). -/
theorem recountQueue_overflow (p : Part) :
    (recountQueue p).track.trackOverflow = (p.track.trackOverflow && decide (Config.queueMax ≤ p.track.queue.length)) := by
  unfold recountQueue
  split
  next h => 
    simp only [Bool.and_eq_true, decide_eq_true_eq] at h
    simp [modTrack, h, Nat.not_le.mpr h.2]
  next h =>
    simp only [Bool.and_eq_true, decide_eq_true_eq, not_and, not_lt] at h
    cases htrack : p.track.trackOverflow with
    | false => rfl
    | true => simp [h htrack]

theorem recountQueue_sup (p : Part) :
    (recountQueue p).sup = { p.sup with causes := (recountQueue p).sup.causes, present := (recountQueue p).sup.present } := by
  unfold recountQueue
  split
  · rw [gone_sup]; rfl
  · rfl

/-- The queue's load at the Door Sequencer (R114): besides, it keeps the caps and leaves every listed cabin's door UNKNOWN. -/
theorem sequencerLoad_load (old : List QueueEntry) (l : List Nat) (p : Part) :
    LoadKeeps p (sequencerLoad old l p) ∧ (sequencerLoad old l p).sup.caps = p.sup.caps := by
  have ended (q : Part) : LoadKeeps q (old.foldl (fun p e => endUnlocked e.cabin p) q) ∧
      (old.foldl (fun p e => endUnlocked e.cabin p) q).sup.caps = q.sup.caps :=
    List.foldlRecOn (motive := fun (r : Part) => LoadKeeps q r ∧ r.sup.caps = q.sup.caps) old _ ⟨.refl q, rfl⟩
      fun (r : Part) hr e _ => ⟨hr.1.trans (endUnlocked_load e.cabin r), (endUnlocked_caps e.cabin r).trans hr.2⟩
  have unknown (q : Part) : LoadKeeps q (l.foldl (fun p k => setDoor k .unknown p) q) ∧
      (l.foldl (fun p k => setDoor k .unknown p) q).sup.caps = q.sup.caps :=
    List.foldlRecOn (motive := fun (r : Part) => LoadKeeps q r ∧ r.sup.caps = q.sup.caps) l _ ⟨.refl q, rfl⟩
      fun r hr k _ => ⟨hr.1.trans (setDoor_load k .unknown r), (congrArg Supervisor.caps (setDoor_sup k .unknown r)).trans hr.2⟩
  unfold sequencerLoad
  dsimp only
  refine ⟨(((removeActions_load _ _ _).trans (judgeLate_load _ _ _)).trans (ended _).1).trans (unknown _).1, ?_⟩
  rw [(unknown _).2, (ended _).2]
  simp

theorem cabin_setDoor_same {k : Nat} (hk : isCabin k = true) (d : CabinDoor) (p : Part) :
    cabin (setDoor k d p) k = { cabin p k with door := d } :=
  (cabin_of_cabins_eq rfl k).trans (cabin_modCabin_same k _ p hk)

theorem cabin_setDoor_ne {k j : Nat} (h : j ≠ k) (d : CabinDoor) (p : Part) : cabin (setDoor k d p) j = cabin p j :=
  (cabin_of_cabins_eq rfl j).trans (cabin_modCabin_ne k j _ p h)

theorem cabin_foldl_unknown {l : List Nat} {k : Nat} (hk : isCabin k = true) (p : Part) :
    cabin (l.foldl (fun p k => setDoor k .unknown p) p) k = if k ∈ l then { cabin p k with door := .unknown } else cabin p k := by
  induction l generalizing p with
  | nil => simp
  | cons a l ih =>
    rw [List.foldl_cons, ih]
    by_cases hak : k = a
    · subst hak
      rw [cabin_setDoor_same hk, if_pos (List.mem_cons_self ..)]
      split <;> rfl
    · rw [cabin_setDoor_ne hak]
      simp only [List.mem_cons, hak, false_or]

theorem sequencerLoad_door (old : List QueueEntry) {l : List Nat} {k : Nat} (hk : isCabin k = true) (hl : k ∈ l) (p : Part) :
    (cabin (sequencerLoad old l p) k).door = .unknown := by
  unfold sequencerLoad
  dsimp only
  rw [cabin_foldl_unknown hk, if_pos hl]

/-! ### The queue as it is loaded -/

theorem placeQueue_load (l : List (Nat × Nat)) (p : Part) : LoadKeeps p (placeQueue l p) ∧ (placeQueue l p).sup = p.sup := by
  have gone (m : List QueueEntry) (q : Part) := setPlaces_kept m q
  have placed (m : List Nat) (q : Part) := ListKeeps.foldl (f := fun p k => setPlace k .inStation p)
    (fun p k => setPlace_list k .inStation p) m q
  simp only [ListKeeps, TrackKeeps, PortKept] at gone placed
  simp [LoadKeeps, WindowKept, PortKept, placeQueue, gone, placed]

theorem loadQueue_load (l : List (Nat × Nat)) (p : Part) : LoadKeeps p (loadQueue l p) := by
  rw [loadQueue_eq]
  exact ((((placeQueue_load l p).1.trans (sequencerLoad_load _ _ _).1)).trans (recountHold_load _ _)).trans (recountQueue_load _)

theorem segmentCount_newEntries (now : Time) (n : Nat) (l : List (Nat × Nat)) :
    (newEntries now n l).countP (fun e => e.segment == 4) = l.countP (fun x => x.2 == 4) := by
  induction l generalizing n with
  | nil => rfl
  | cons x t ih => simp [newEntries, List.countP_cons, ih]

theorem length_newEntries (now : Time) (n : Nat) (l : List (Nat × Nat)) : (newEntries now n l).length = l.length := by
  simpa using congrArg List.length (newEntries_cabin now n l)

/-- The queue's part of the Track Monitor after a load, and the caps and conditions that follow it (R7, R15, R23). -/
theorem loadQueue_track (l : List (Nat × Nat)) (p : Part) :
    (loadQueue l p).track.queue = newEntries p.clock.now p.track.nextSerial l ∧ (loadQueue l p).track.roster = p.track.roster ∧
      (loadQueue l p).track.matcher = .empty ∧ (loadQueue l p).track.detectors = p.track.detectors ∧
      (loadQueue l p).track.holdOverflow = decide (4 ≤ l.countP (fun x => x.2 == 4)) ∧
      (loadQueue l p).track.trackOverflow = (p.track.trackOverflow && decide (Config.queueMax ≤ l.length)) ∧
      (loadQueue l p).sup.caps.hold = decide (3 ≤ l.countP (fun x => x.2 == 4)) := by
  have htrack : (sequencerLoad p.track.queue (l.map (fun x => x.1)) (placeQueue l p)).track = (placeQueue l p).track :=
    (sequencerLoad_kept _ _ _).2.2.1
  have hcount : segmentCount (sequencerLoad p.track.queue (l.map (fun x => x.1)) (placeQueue l p)) 4 =
      l.countP (fun x => x.2 == 4) := by
    rw [segmentCount, htrack, placeQueue_track]
    exact segmentCount_newEntries _ _ l
  obtain ⟨hcap, hover⟩ := recountHold_counts false (sequencerLoad p.track.queue (l.map (fun x => x.1)) (placeQueue l p))
  rw [loadQueue_eq, recountQueue_overflow, recountQueue_sup]
  simp [htrack, placeQueue_track, hcap, hover, hcount, length_newEntries]

theorem cabin_loadQueue (l : List (Nat × Nat)) (p : Part) {k : Nat} (hk : isCabin k = true) :
    (cabin (loadQueue l p) k).place = (cabin (placeQueue l p) k).place ∧
      (k ∈ l.map (fun x => x.1) → (cabin (loadQueue l p) k).door = .unknown) := by
  have hlast : cabin (loadQueue l p) k = cabin (sequencerLoad p.track.queue (l.map (fun x => x.1)) (placeQueue l p)) k := by
    rw [loadQueue_eq]
    exact cabin_of_cabins_eq (by simp) k
  refine ⟨?_, fun hl => by rw [hlast, sequencerLoad_door _ hk hl]⟩
  have hlisting := (sequencerLoad_kept p.track.queue (l.map (fun x => x.1)) (placeQueue l p)).2.1
  rw [hlast]
  exact congrArg (fun x => x.2.2.1) (cabin_listing hlisting k)

/-! ### The checks of the pairs (R23) -/

theorem badPair_eq : badPair = [fun _ x => decide (128 < x.1), fun _ x => !(1 ≤ x.2 && x.2 ≤ 6), numberedTwice, outOfOrder] := rfl

theorem pairs_above {l : List (Nat × Nat)} {n : Nat} (h : FirstAt (fun n => ∃ x ∈ l[n]?, 128 < x.1) n) :
    firstRefused badPair l = some (n + 1) :=
  firstRefused_first (firstAt_congr (fun m => by simp [FailsAt]) h)

theorem pairs_outside {l : List (Nat × Nat)} {n : Nat} (habove : ∀ x ∈ l, x.1 ≤ 128)
    (h : FirstAt (fun n => ∃ x ∈ l[n]?, ¬ (1 ≤ x.2 ∧ x.2 ≤ 6)) n) : firstRefused badPair l = some (n + 1) := by
  rw [badPair_eq, firstRefused_skip_alone (bad := fun x : Nat × Nat => decide (128 < x.1)) (by simpa using habove)]
  exact firstRefused_first (firstAt_congr (fun m => by simp [FailsAt, Nat.one_le_iff_ne_zero, imp_iff_not_or]) h)

section
variable {l : List (Nat × Nat)} (hranges : ∀ x ∈ l, x.1 ≤ 128 ∧ 1 ≤ x.2 ∧ x.2 ≤ 6)
include hranges

theorem badPair_ranges : firstRefused badPair l = firstRefused [numberedTwice, outOfOrder] l := by
  rw [badPair_eq, firstRefused_skip_alone (bad := fun x : Nat × Nat => decide (128 < x.1)) (fun x hx => by simp [(hranges x hx).1]),
    firstRefused_skip_alone (bad := fun x : Nat × Nat => !(1 ≤ x.2 && x.2 ≤ 6)) (fun x hx => by simp [(hranges x hx).2])]

theorem pairs_again {n : Nat} (h : FirstAt (fun n => ∃ x ∈ l[n]?, x.1 ≠ 0 ∧ x.1 ∈ (l.take n).map (fun y => y.1)) n) :
    firstRefused badPair l = some (n + 1) := by
  rw [badPair_ranges hranges]
  refine firstRefused_first (firstAt_congr (fun m => ?_) h)
  simp [FailsAt, numberedTwice, -List.map_take]

variable (honce : ((l.map (fun x => x.1)).filter (fun k => k != 0)).Nodup)
include honce

theorem badPair_order : firstRefused badPair l = firstRefused [outOfOrder] l := by
  rw [badPair_ranges hranges, firstRefused_skip ((pairs_nodup_iff l).mp honce)]

end

/-- The order check fails at a pair whose segment is higher than that of the pair before it. -/
theorem failsAt_outOfOrder (l : List (Nat × Nat)) (n : Nat) :
    FailsAt outOfOrder [] l n ↔ 0 < n ∧ ∃ x ∈ l[n]?, ∃ y ∈ l[n - 1]?, y.2 < x.2 := by
  cases n with
  | zero => simp [FailsAt, outOfOrder]
  | succ n =>
    by_cases hlt : n + 1 < l.length
    · have hlast : (l.take (n + 1)).getLast? = some (l[n]'(by omega)) := by
        rw [List.getLast?_eq_getElem?, List.length_take, Nat.min_eq_left hlt.le, List.getElem?_take_of_lt (by omega)]
        exact List.getElem?_eq_getElem _
      have hbefore : l[n]? = some (l[n]'(by omega)) := List.getElem?_eq_getElem _
      simp [FailsAt, outOfOrder, hlast, hbefore]
    · simp [FailsAt, List.getElem?_eq_none (not_lt.mp hlt)]

theorem pairs_higher {l : List (Nat × Nat)} {n : Nat} (hranges : ∀ x ∈ l, x.1 ≤ 128 ∧ 1 ≤ x.2 ∧ x.2 ≤ 6)
    (honce : ((l.map (fun x => x.1)).filter (fun k => k != 0)).Nodup)
    (h : FirstAt (fun n => 0 < n ∧ ∃ x ∈ l[n]?, ∃ y ∈ l[n - 1]?, y.2 < x.2) n) : firstRefused badPair l = some (n + 1) := by
  rw [badPair_order hranges honce]
  exact firstRefused_first (firstAt_congr (fun m => (failsAt_outOfOrder l m).symm) h)

theorem pairs_good {l : List (Nat × Nat)} (hranges : ∀ x ∈ l, x.1 ≤ 128 ∧ 1 ≤ x.2 ∧ x.2 ≤ 6)
    (honce : ((l.map (fun x => x.1)).filter (fun k => k != 0)).Nodup) (horder : l.Pairwise (fun x y => y.2 ≤ x.2)) :
    firstRefused badPair l = none := by
  rw [badPair_order hranges honce, firstRefused_skip, firstRefused_nil]
  intro n hn
  obtain ⟨hpos, x, hx, y, hy, hlt⟩ := (failsAt_outOfOrder l n).mp hn
  obtain ⟨hnlt, rfl⟩ := List.getElem?_eq_some_iff.mp hx
  obtain ⟨hplt, rfl⟩ := List.getElem?_eq_some_iff.mp hy
  exact absurd hlt (Nat.not_lt.mpr (List.pairwise_iff_getElem.mp horder (n - 1) n hplt hnlt (by omega)))

theorem pairCabins_unregistered {p : Part} {l : List (Nat × Nat)} {n : Nat}
    (h : FirstAt (fun n => ∃ x ∈ l[n]?, x.1 ≠ 0 ∧ (cabin p x.1).registered = false) n) :
    firstRefused (badPairCabin p) l = some (n + 1) :=
  firstRefused_first (firstAt_congr (fun m => by simp [FailsAt]) h)

theorem pairCabins_onLine {p : Part} {l : List (Nat × Nat)} {n : Nat} (hreg : ∀ x ∈ l, x.1 ≠ 0 → (cabin p x.1).registered = true)
    (h : FirstAt (fun n => ∃ x ∈ l[n]?, x.1 ≠ 0 ∧ onRoster p x.1 = true) n) :
    firstRefused (badPairCabin p) l = some (n + 1) := by
  rw [badPairCabin, firstRefused_skip_alone (bad := fun x : Nat × Nat => x.1 != 0 && !(cabin p x.1).registered) (by simpa using hreg)]
  exact firstRefused_first (firstAt_congr (fun m => by simp [FailsAt]) h)

theorem pairCabins_good {p : Part} {l : List (Nat × Nat)}
    (h : ∀ x ∈ l, x.1 ≠ 0 → (cabin p x.1).registered = true ∧ onRoster p x.1 = false) : firstRefused (badPairCabin p) l = none := by
  rw [badPairCabin, firstRefused_skip_alone (bad := fun x : Nat × Nat => x.1 != 0 && !(cabin p x.1).registered)
      (by simpa using fun a b hx hne => (h (a, b) hx hne).1),
    firstRefused_skip_alone (bad := fun x : Nat × Nat => x.1 != 0 && onRoster p x.1)
      (by simpa using fun a b hx hne => (h (a, b) hx hne).2), firstRefused_nil]

/-! ### STATION_QUEUE_LOAD -/

theorem orderStationQueueLoad_range {x : Slot} (p : Part) (h : 15 < octet x 0) :
    orderStationQueueLoad x p = refuse .refusedRange 0 p := by
  simp [orderStationQueueLoad, Config.queueMax, h]

section
variable {x : Slot} {p : Part} (hcount : octet x 0 ≤ 15)
include hcount

theorem orderStationQueueLoad_eq : orderStationQueueLoad x p =
    match firstRefused badPair (readPairs x 1 (octet x 0)) with
    | some j => refuse .refusedRange j p
    | none => if !isOff p then refuse .refusedState 0 p else
      match firstRefused (badPairCabin p) (readPairs x 1 (octet x 0)) with
      | some j => refuse .refusedState j p
      | none => ok (loadQueue (readPairs x 1 (octet x 0)) p) := by
  simp only [orderStationQueueLoad, Config.queueMax, Nat.not_lt.mpr hcount, if_false] <;> rfl

theorem orderStationQueueLoad_pair {j : Nat} (h : firstRefused badPair (readPairs x 1 (octet x 0)) = some j) :
    orderStationQueueLoad x p = refuse .refusedRange j p := by
  rw [orderStationQueueLoad_eq hcount, h]

variable (hpairs : firstRefused badPair (readPairs x 1 (octet x 0)) = none)
include hpairs

theorem orderStationQueueLoad_mode (hmode : p.sup.mode ≠ .off) : orderStationQueueLoad x p = refuse .refusedState 0 p := by
  rw [orderStationQueueLoad_eq hcount, hpairs]
  simp [isOff, hmode]

theorem orderStationQueueLoad_cabin (hmode : p.sup.mode = .off) {j : Nat}
    (hj : firstRefused (badPairCabin p) (readPairs x 1 (octet x 0)) = some j) :
    orderStationQueueLoad x p = refuse .refusedState j p := by
  rw [orderStationQueueLoad_eq hcount, hpairs, hj]
  simp [isOff, hmode]

theorem orderStationQueueLoad_loads (hmode : p.sup.mode = .off)
    (hj : firstRefused (badPairCabin p) (readPairs x 1 (octet x 0)) = none) :
    orderStationQueueLoad x p = ok (loadQueue (readPairs x 1 (octet x 0)) p) := by
  rw [orderStationQueueLoad_eq hcount, hpairs, hj]
  simp [isOff, hmode]

end

theorem stationQueueLoad_loads {i : SlotNo} {s : State} (hnext : OrderNext i 0x16 s) (hcount : param i s 0 ≤ 15)
    (hpairs : firstRefused badPair (readPairs (slotOf s.part i) 1 (param i s 0)) = none) (hmode : s.part.sup.mode = .off)
    (hcabins : firstRefused (badPairCabin s.part) (readPairs (slotOf s.part i) 1 (param i s 0)) = none) :
    ∃ t, execStationQueueLoad i s = .next t ∧ Answers i .ok 0 s t ∧ WindowFrame i s t ∧
      Frame [.window, .track, .cabins, .rope, .launch, .doors, .sequencer, .sup] s t ∧
      t.part.track = (loadQueue (readPairs (slotOf s.part i) 1 (param i s 0)) (takeHead i s.part)).track ∧
      t.part.cabins = (loadQueue (readPairs (slotOf s.part i) 1 (param i s 0)) (takeHead i s.part)).cabins ∧
      t.part.sup.caps = (loadQueue (readPairs (slotOf s.part i) 1 (param i s 0)) (takeHead i s.part)).sup.caps ∧
      t.part.sup.mode = .off := by
  set l := readPairs (slotOf s.part i) 1 (param i s 0) with hl
  set p := takeHead i s.part with hp
  have hwork : p.work = {} := hnext.1.2.1
  obtain ⟨hwindow, hgrip, hmsg, harb, hseq, hoff⟩ := loadQueue_load l p
  obtain ⟨hqmode, hcalls⟩ := hoff hmode
  obtain ⟨⟨hclock, hsensors, hline, -⟩, -⟩ := loadQueue_kept l p
  obtain ⟨t, hrun, hanswers, hframe, hrest, htrack, hcabins, -, hsup⟩ := atOnce_judges_launch (q := loadQueue l p) (r := .ok) (d := 0)
    (changed := [.window, .track, .cabins, .rope, .launch, .doors, .sequencer, .sup]) hnext
    (orderStationQueueLoad_loads (p := p) hcount hpairs hmode hcabins) hwindow (by rw [harb, hwork]) (by rw [hseq, hwork])
    (by rw [hqmode]; decide)
    (fun b hb => by
      cases b with
      | clock => exact hclock
      | sensors => exact hsensors
      | grip => exact hgrip
      | line => exact hline
      | messages => exact hmsg
      | calls => exact hcalls
      | _ => exact absurd hb (by decide))
    (by decide)
  exact ⟨t, hrun, hanswers, hframe, hrest, htrack, hcabins, by rw [hsup], by rw [hsup]; exact hqmode⟩

theorem inQueue_takeHead (i : SlotNo) (p : Part) (k : Nat) : inQueue (takeHead i p) k = inQueue p k := rfl

/-- Settles O18. -/
theorem stationQueueLoadReplacesTheQueue : Obligations.StationQueueLoadReplacesTheQueue := by
  intro i s hnext
  refine ⟨fun h => atOnce_refuses hnext (orderStationQueueLoad_range _ h), fun hcount n => ⟨fun h => ?_, fun habove h => ?_,
    fun hranges h => ?_, fun hranges honce h => ?_, fun hranges honce horder hmode => ?_⟩,
    fun hcount hranges honce horder => ⟨fun hmode => ?_, fun hmode hgood => ?_⟩⟩
  · exact atOnce_refuses hnext (orderStationQueueLoad_pair hcount (pairs_above h))
  · exact atOnce_refuses hnext (orderStationQueueLoad_pair hcount (pairs_outside habove h))
  · exact atOnce_refuses hnext (orderStationQueueLoad_pair hcount (pairs_again hranges h))
  · exact atOnce_refuses hnext (orderStationQueueLoad_pair hcount (pairs_higher hranges honce h))
  · have refused {m : Nat} (h : firstRefused (badPairCabin (takeHead i s.part)) (readPairs (slotOf s.part i) 1 (param i s 0)) = some m) :
        After (.stationQueueLoad i) s (Refuses i .refusedState m s) :=
      atOnce_refuses hnext (orderStationQueueLoad_cabin (p := takeHead i s.part) hcount (pairs_good hranges honce horder) hmode h)
    exact ⟨fun h => refused (pairCabins_unregistered h), fun hreg h => refused (pairCabins_onLine hreg h)⟩
  · exact atOnce_refuses hnext
      (orderStationQueueLoad_mode (p := takeHead i s.part) hcount (pairs_good hranges honce horder) hmode)
  · obtain ⟨t, hrun, hanswers, hwindow, hframe, htrack, hrecords, hcaps, hoff⟩ := stationQueueLoad_loads hnext hcount
      (pairs_good hranges honce horder) hmode (pairCabins_good hgood)
    obtain ⟨hqueue, hroster, hmatcher, hdetectors, hhold, hover, hcap⟩ :=
      loadQueue_track (readPairs (slotOf s.part i) 1 (param i s 0)) (takeHead i s.part)
    have hlen : (readPairs (slotOf s.part i) 1 (param i s 0)).length ≤ 15 := by rw [length_readPairs]; exact hcount
    have record (j : Fin 128) : t.part.cabins.get j =
        cabin (loadQueue (readPairs (slotOf s.part i) 1 (param i s 0)) (takeHead i s.part)) (j.val + 1) := by
      rw [cabins_get_eq, cabin_of_cabins_eq hrecords]
    refine ⟨t, hrun, hanswers, hwindow, hframe, ?_, ?_, ?_, ?_, fun j => ?_, fun j hj => ?_, ?_, ?_, ?_, hoff⟩
    · rw [htrack, hqueue, newEntries_shown]; rfl
    · rw [htrack, hroster]; rfl
    · rw [htrack, hmatcher]
    · rw [htrack, hdetectors]; rfl
    · rw [record, (cabin_loadQueue _ _ (isCabin_succ j)).1, cabin_placeQueue _ _ (isCabin_succ j), cabins_get_eq,
        inQueue_takeHead]
      split
      · rfl
      · split <;> rfl
    · rw [record, (cabin_loadQueue _ _ (isCabin_succ j)).2 hj]
    · rw [hcaps, hcap]
    · rw [htrack, hhold]
    · rw [htrack, hover]
      have hfull : Config.queueMax ≤ (readPairs (slotOf s.part i) 1 (param i s 0)).length ↔
          (readPairs (slotOf s.part i) 1 (param i s 0)).length = 15 := ⟨fun h => le_antisymm hlen h, fun h => h.ge⟩
      simp only [hfull]
      rfl

end Sys2Proof.Machine

/-! DOOR_PROGRAM_LOAD (R103). -/

namespace Sys2Proof.Machine

theorem readChannel_eq_some (n : Nat) (c : ChannelNo) : readChannel n = some c ↔ c.val = n := by
  unfold readChannel
  split
  · rw [Option.some.injEq, Fin.ext_iff]; exact eq_comm
  next h => 
    refine ⟨nofun, fun hc => ?_⟩
    have := c.isLt
    omega

theorem readEnd_eq_some (n : Nat) (e : End) : readEnd n = some e ↔ n = if e = .a then 0 else 1 := by
  unfold readEnd
  split <;> cases e <;> simp_all

theorem readCondition_isSome (n : Nat) : (∃ c, readCondition n = some c) ↔ n ≤ 2 := by
  unfold readCondition
  split
  · simp
  · simp
  · simp
  next h0 h1 h2 =>
    refine ⟨(fun ⟨_, h⟩ => nomatch h), fun h => ?_⟩
    obtain rfl | rfl | rfl : n = 0 ∨ n = 1 ∨ n = 2 := by omega
    · exact absurd rfl h0
    · exact absurd rfl h1
    · exact absurd rfl h2

/-- The entry that a program entry loads as, once its codes are read. -/
theorem loadEntry_read {p : Part} {r : RawEntry} {n : ChannelNo} {e : End} {c : Condition} (hn : readChannel r.channel = some n)
    (he : readEnd r.action = some e) (hc : readCondition r.condition = some c) :
    loadEntry p r =
      if 1 ≤ r.trigger ∧ r.trigger ≤ 7 ∧ (channel p n).config.kind ≠ .none ∧
          ((channel p n).config.kind.isCabin = true → e = .b ∧ r.trigger ≤ (channel p n).config.reach) then
        some { trigger := r.trigger, channel := n, action := e, delay := min 5000 r.delay, condition := c }
      else none := by
  have hdelay : clampNat 0 5000 r.delay = min 5000 r.delay := by
    rw [clampNat, Nat.min_def]; grind
  have hend : (e == End.a) = !decide (e = End.b) := by cases e <;> rfl
  simp only [loadEntry, hn, he, hc, hdelay, hend]
  by_cases htaken : 1 ≤ r.trigger ∧ r.trigger ≤ 7 ∧ (channel p n).config.kind ≠ .none
  · obtain ⟨hlo, hhi, hkind⟩ := htaken
    by_cases hcabin : (channel p n).config.kind.isCabin = true
    · by_cases hb : e = .b
      · by_cases hreach : r.trigger ≤ (channel p n).config.reach
        · simp [hlo, hhi, hkind, hb, hreach, Nat.not_lt.mpr hreach]
        · simp [hlo, hhi, hkind, hcabin, hb, hreach, Nat.not_le.mp hreach]
      · simp [hlo, hhi, hkind, hcabin, hb]
    · simp [hlo, hhi, hkind, hcabin]
  · have hout : ¬ (1 ≤ r.trigger ∧ r.trigger ≤ 7 ∧ (channel p n).config.kind ≠ .none ∧
        ((channel p n).config.kind.isCabin = true → e = .b ∧ r.trigger ≤ (channel p n).config.reach)) :=
      fun h => htaken ⟨h.1, h.2.1, h.2.2.1⟩
    have hfirst : (!(decide (1 ≤ r.trigger) && decide (r.trigger ≤ 7)) || (channel p n).config.kind == .none) = true := by
      simpa [← Nat.one_le_iff_ne_zero, imp_iff_not_or, or_assoc] using htaken
    rw [if_neg hout, if_pos hfirst]

/-- An entry loads exactly where R103 takes it. -/
theorem loadEntry_isNone (p : Part) (r : RawEntry) : (loadEntry p r).isNone = true ↔ ¬ EntryFits p r := by
  by_cases hread : (∃ n, readChannel r.channel = some n) ∧ (∃ e, readEnd r.action = some e) ∧ ∃ c, readCondition r.condition = some c
  · obtain ⟨⟨n, hn⟩, ⟨e, he⟩, c, hc⟩ := hread
    have haction := (readEnd_eq_some _ _).mp he
    have hchannel (m : ChannelNo) : m.val = r.channel ↔ m = n := by
      rw [← readChannel_eq_some, hn, Option.some.injEq]; exact eq_comm
    have hcond := (readCondition_isSome _).mp ⟨c, hc⟩
    have hfits : EntryFits p r ↔ 1 ≤ r.trigger ∧ r.trigger ≤ 7 ∧ (channel p n).config.kind ≠ .none ∧
        ((channel p n).config.kind.isCabin = true → e = .b ∧ r.trigger ≤ (channel p n).config.reach) := by
      have hle : r.action ≤ 1 := by rw [haction]; split <;> omega
      have hone : r.action = 1 ↔ e = .b := by rw [haction]; cases e <;> simp
      simp [EntryFits, hchannel, hcond, hle, hone]
    rw [loadEntry_read hn he hc, hfits]
    split <;> simp_all
  · have hnone : loadEntry p r = none := by
      simp only [loadEntry]
      split
      next n e c hn he hc => exact absurd ⟨⟨n, hn⟩, ⟨e, he⟩, c, hc⟩ hread
      · rfl
    refine ⟨fun _ hfits => hread ?_, fun _ => by rw [hnone]; rfl⟩
    obtain ⟨-, -, haction, hcond, n, hn, -⟩ := hfits
    refine ⟨⟨n, (readChannel_eq_some _ _).mpr hn⟩, ?_, (readCondition_isSome _).mpr hcond⟩
    obtain h | h : r.action = 0 ∨ r.action = 1 := by omega
    · exact ⟨.a, by rw [h]; rfl⟩
    · exact ⟨.b, by rw [h]; rfl⟩

theorem getElem_readEntries (x : Slot) (n m : Nat) :
    (readEntries x n)[m]? = if m < n then some (readEntry x (1 + 4 * m)) else none := by
  by_cases h : m < n <;> simp [readEntries, h]

theorem failsAt_entries (p : Part) (x : Slot) (n m : Nat) :
    FailsAt (fun _ r => (loadEntry p r).isNone) [] (readEntries x n) m ↔ m < n ∧ ¬ EntryFits p (readEntry x (1 + 4 * m)) := by
  rw [← loadEntry_isNone]
  by_cases h : m < n <;> simp [FailsAt, getElem_readEntries, h]

theorem orderDoorProgramLoad_range {x : Slot} (p : Part) (h : 24 < octet x 0) :
    orderDoorProgramLoad x p = refuse .refusedRange 0 p := by
  simp [orderDoorProgramLoad, h]

theorem entries_pass {x : Slot} {p : Part} {n : Nat} (hfits : ∀ m < n, EntryFits p (readEntry x (1 + 4 * m))) :
    firstFailing (fun _ r => (loadEntry p r).isNone) [] (readEntries x n) 1 = none :=
  firstFailing_eq_none_iff.mpr fun m h => ((failsAt_entries ..).mp h).2 (hfits m ((failsAt_entries ..).mp h).1)

section
variable {x : Slot} {p : Part} (hcount : octet x 0 ≤ 24)
include hcount

theorem orderDoorProgramLoad_entry {n : Nat} (hn : n < octet x 0) (hbefore : ∀ m < n, EntryFits p (readEntry x (1 + 4 * m)))
    (hfails : ¬ EntryFits p (readEntry x (1 + 4 * n))) : orderDoorProgramLoad x p = refuse .refusedRange (n + 1) p := by
  have hfirst : firstFailing (fun _ r => (loadEntry p r).isNone) [] (readEntries x (octet x 0)) 1 = some (1 + n) :=
    firstFailing_of_firstAt ⟨(failsAt_entries ..).mpr ⟨hn, hfails⟩, fun m hm h => ((failsAt_entries ..).mp h).2 (hbefore m hm)⟩ 1
  simp only [orderDoorProgramLoad, Nat.not_lt.mpr hcount, if_false, hfirst, Nat.add_comm]

variable (hfits : ∀ m < octet x 0, EntryFits p (readEntry x (1 + 4 * m)))
include hfits

theorem orderDoorProgramLoad_mode (hmode : p.sup.mode ≠ .off) : orderDoorProgramLoad x p = refuse .refusedState 0 p := by
  simp only [orderDoorProgramLoad, Nat.not_lt.mpr hcount, if_false, entries_pass hfits]
  simp [isOff, hmode]

theorem orderDoorProgramLoad_loads (hmode : p.sup.mode = .off) :
    orderDoorProgramLoad x p = clampedBy ((List.range (octet x 0)).countP (fun j => decide (5000 < (readEntry x (1 + 4 * j)).delay)))
      (attend .door (modSeq (fun q => { q with program := programOf p (readEntries x (octet x 0)) }) p)) := by
  simp only [orderDoorProgramLoad, Nat.not_lt.mpr hcount, if_false, entries_pass hfits]
  simp [isOff, hmode, readEntries, List.countP_map, Function.comp_def]

end

theorem programOf_get (p : Part) (x : Slot) (n : Nat) (m : Fin 24) :
    (programOf p (readEntries x n)).get m = if m.val < n then loadEntry p (readEntry x (1 + 4 * m.val)) else none := by
  rw [programOf, vector_get_eq, Vector.getElem_ofFn, getElem_readEntries]
  split <;> rfl

theorem doorProgramLoad_loads {i : SlotNo} {s : State} (hnext : OrderNext i 0x35 s) (hcount : param i s 0 ≤ 24)
    (hfits : ∀ m < param i s 0, EntryFits s.part (readEntry (slotOf s.part i) (1 + 4 * m))) (hmode : s.part.sup.mode = .off) :
    ∃ t, execDoorProgramLoad i s = .next t ∧
      (let n := (List.range (param i s 0)).countP (fun j => decide (5000 < (readEntry (slotOf s.part i) (1 + 4 * j)).delay))
       AnswersOnly i (if n = 0 then .ok else .clamped) n 0x0020 s t) ∧
      Frame [.window, .sequencer] s t ∧
      t.part.sequencer = { s.part.sequencer with program := programOf s.part (readEntries (slotOf s.part i) (param i s 0)) } := by
  set p := takeHead i s.part with hp
  set q := attend .door (modSeq (fun q => { q with program := programOf p (readEntries (slotOf s.part i) (param i s 0)) }) p) with hq
  have hwork : q.work = {} := hnext.1.2.1
  have hbody := orderDoorProgramLoad_loads (p := p) hcount hfits hmode
  rw [clampedBy_eq] at hbody
  obtain ⟨t, hrun, hanswers, hframe, ht⟩ := atOnce_quiet (bits := 0x0020) (changed := [.sequencer]) hnext hbody hwork rfl
    (fun b hb hc => by
      cases b with
      | window => exact absurd rfl hb
      | sequencer => simp at hc
      | _ => rfl)
  refine ⟨t, hrun, hanswers, hframe, ?_⟩
  have hsettle : ∀ r d, settle 64 (answer i r d q) = answer i r d q := fun r d => settle_of_quiet hwork
  rw [ht, finish_sequencer, hsettle]
  rfl

/-- Settles O25. -/
theorem doorProgramLoadReplacesTheProgram : Obligations.DoorProgramLoadReplacesTheProgram := by
  intro i s hnext
  refine ⟨fun h => atOnce_refuses hnext (orderDoorProgramLoad_range _ h), fun hcount => ⟨fun n hn hbefore hfails => ?_, fun hfits =>
    ?_⟩⟩
  · exact atOnce_refuses hnext (orderDoorProgramLoad_entry (p := takeHead i s.part) hcount hn
      (fun m hm => hbefore ⟨m, hm.trans n.isLt⟩ hm) hfails)
  have hall : ∀ m < param i s 0, EntryFits s.part (readEntry (slotOf s.part i) (1 + 4 * m)) := fun m hm =>
    hfits ⟨m, hm.trans_le hcount⟩ hm
  refine ⟨fun hmode => atOnce_refuses hnext (orderDoorProgramLoad_mode (p := takeHead i s.part) hcount hall hmode), fun hmode => ?_⟩
  obtain ⟨t, hrun, hanswers, hframe, hseq⟩ := doorProgramLoad_loads hnext hcount hall hmode
  refine ⟨t, hrun, hanswers, hframe, by rw [hseq], fun m => ⟨fun hm => ?_, fun hm c hc e he k hk => ?_⟩⟩
  · rw [hseq, programOf_get, if_neg (by omega)]
  · have hsome : ¬ (loadEntry s.part (readEntry (slotOf s.part i) (1 + 4 * m.val))).isNone = true := by
      rw [loadEntry_isNone, not_not]; exact hall m hm
    rw [loadEntry_read hc he hk] at hsome
    rw [hseq, programOf_get, if_pos hm, loadEntry_read hc he hk]
    split
    · rfl
    next hno => rw [if_neg hno] at hsome; exact absurd rfl hsome

end Sys2Proof.Machine

/-! The orders to the Summit Line Interface (R147, R156, R158 to R160). -/

namespace Sys2Proof.Machine

/-! ### Orders whose block calls for no judgement -/

/-- An order answered at once whose block calls for no judgement and changes blocks `changed` besides the window. -/
theorem atOnce_settled {i : SlotNo} {k : Byte} {body : Slot → Part → Reply} {s : State} {r : Result} {d : Nat} {q : Part}
    {changed : List Block} (hnext : OrderNext i k s)
    (hbody : body (slotOf s.part i) (takeHead i s.part) = { result := r, detail := d, part := q })
    (hwindow : WindowKept (takeHead i s.part) q) (hwork : q.work = {})
    (hkept : ∀ b, b ≠ .window → b ∉ changed → Part.same b s.part q) :
    ∃ t, atOnce i k body s = .next t ∧ Answers i r d s t ∧ WindowFrame i s t ∧ Frame (.window :: changed) s t ∧
      t.part = finish (answer i r d q) ∧ settle 64 (answer i r d q) = answer i r d q := by
  obtain ⟨hready, hhead, hkind⟩ := hnext
  have hsettle : settle 64 (answer i r d q) = answer i r d q := settle_of_quiet hwork
  obtain ⟨hanswers, hframe⟩ := answers_finish (i := i) (r := r) (d := d) (s := s) hwindow (.of_eq (by rw [hsettle]))
    (by rw [hsettle]; simp [answer, Attn.bit])
  refine ⟨_, atOnce_acts hready.1 hhead hkind, ?_⟩
  rw [hbody]
  dsimp only
  exact ⟨hanswers, hframe, frame_answered hready hwork hkept, rfl, hsettle⟩

/-- The window of a part whose block has set attention bits at most and holds the order (R193). -/
theorem holds_windowKept {i : SlotNo} {s : State} {q : Part} (hwindow : WindowKept (takeHead i s.part) (settle 64 q)) :
    Holds i s { s with part := finish q } ∧ WindowFrame i s { s with part := finish q } := by
  obtain ⟨hslots, hintake, hlatch, hmask, henable, hresets⟩ := hwindow
  have hslot (j : SlotNo) : slotOf (finish q) j = slotOf (takeHead i s.part) j := by rw [slotOf_finish, slotOf, hslots, slotOf]
  refine ⟨⟨?_, ?_, ?_, ?_⟩, fun j hj => ?_, ?_, ?_, ?_, ?_⟩
  · rw [hslot, slotOf_takeHead_same]
  · rw [hslot, slotOf_takeHead_same]
  · rw [hslot, slotOf_takeHead_same]
  · rw [finish_window]; exact hintake
  · rw [hslot, slotOf_takeHead_ne _ _ _ hj]
  · rw [finish_window]; exact hlatch
  · rw [finish_window]; exact hmask
  · rw [finish_window]; exact henable
  · rw [finish_window]; exact hresets

/-- A long-running order that its block holds, calling for no judgement. -/
theorem longRunning_settled {i : SlotNo} {k : Byte} {body : Slot → Part → Part} {s : State} {q : Part} {changed : List Block}
    (hnext : LongOrderNext i k s) (hbody : body (slotOf s.part i) (takeHead i s.part) = q)
    (hwindow : WindowKept (takeHead i s.part) q) (hwork : q.work = {})
    (hkept : ∀ b, b ≠ .window → b ∉ changed → Part.same b s.part q) :
    ∃ t, longRunning i k body s = .next t ∧ Holds i s t ∧ WindowFrame i s t ∧ Frame (.window :: changed) s t ∧
      t.part = finish q ∧ settle 64 q = q := by
  obtain ⟨⟨hready, hhead, hkind⟩, hroom⟩ := hnext
  have hsettle : settle 64 q = q := settle_of_quiet hwork
  obtain ⟨hholds, hframe⟩ := holds_windowKept (i := i) (s := s) (q := q) (by rw [hsettle]; exact hwindow)
  refine ⟨_, longRunning_acts hready.1 hhead hkind hroom, ?_⟩
  rw [hbody]
  refine ⟨hholds, hframe, frame_finish hready fun b _ hb => ?_, rfl, hsettle⟩
  rw [List.mem_cons, not_or] at hb
  rw [hsettle]
  exact hkept b hb.1 hb.2

/-! ### Changes of the Supervisor that move no mode, make no call and call for no judgement -/

/-- Besides `SupKeeps`: the calls, the judgements called for, the mode and what stood in ATTENTION. -/
abbrev Undisturbed (p q : Part) : Prop :=
  SupKeeps p q ∧ q.calls = p.calls ∧ q.work = p.work ∧ q.sup.mode = p.sup.mode ∧ BitsStay p.window q.window

theorem Undisturbed.trans {p q r : Part} (h : Undisturbed p q) (g : Undisturbed q r) : Undisturbed p r := by
  obtain ⟨hsup, hcalls, hwork, hmode, hbits⟩ := h
  obtain ⟨gsup, gcalls, gwork, gmode, gbits⟩ := g
  exact ⟨hsup.trans gsup, gcalls.trans hcalls, gwork.trans hwork, gmode.trans hmode, hbits.trans gbits⟩

theorem Undisturbed.refl (p : Part) : Undisturbed p p := by simp [Undisturbed, SupKeeps, PortKept, BitsStay]

theorem Undisturbed.windowKept {p q : Part} (h : Undisturbed p q) : WindowKept p q := by
  obtain ⟨⟨-, -, -, -, -, -, -, -, -, -, hslots, -, -, hport⟩, -⟩ := h
  exact ⟨hslots, hport⟩

theorem modSup_undisturbed {f : Supervisor → Supervisor} {p : Part} (h : (f p.sup).mode = p.sup.mode) :
    Undisturbed p (modSup f p) := by
  simp [Undisturbed, SupKeeps, PortKept, BitsStay, modSup, h]

theorem attend_undisturbed (a : Attn) (p : Part) : Undisturbed p (attend a p) := by
  exact ⟨by simp [SupKeeps, PortKept], rfl, rfl, rfl, attend_bitsStay a p⟩

theorem gone_undisturbed (k : CauseKind) (n : Nat) (p : Part) : Undisturbed p (gone k n p) := by
  have noted : Undisturbed p (modSup (fun s => { s with
      causes := s.causes.map (fun c => if c.names k n then { c with present := false } else c)
      present := s.present.filter (fun c => !c.names k n) }) p) := modSup_undisturbed rfl
  unfold gone
  dsimp only
  split
  · exact noted.trans (attend_undisturbed _ _)
  · exact noted

theorem composeCeiling_undisturbed (p : Part) : Undisturbed p (composeCeiling p) := by
  obtain ⟨hkept, hcalls, hwork⟩ := composeCeiling_kept p
  exact ⟨hkept, hcalls, hwork, by rw [composeCeiling_sup], composeCeiling_bitsStay p⟩

theorem setCaps_undisturbed (c : Caps) (p : Part) : Undisturbed p (setCaps c p) := by
  have capped : Undisturbed p (modSup (fun s => { s with caps := c }) p) := modSup_undisturbed rfl
  unfold setCaps
  split
  · exact .refl p
  · exact (capped.trans (attend_undisturbed _ _)).trans (composeCeiling_undisturbed _)

/-! ### The line between its states of rest -/

/-- Outside UP the summit's stops end, and none begins (R130). -/
theorem refreshSummitStops_undisturbed {p : Part} (h : p.line.state ≠ .up) : Undisturbed p (refreshSummitStops p) := by
  have hup : (p.line.state == .up) = false := by simpa using h
  have noted : Undisturbed p (modSup (fun s => { s with stopServiceStands := false, stopFastStands := false }) p) := modSup_undisturbed rfl
  simp only [refreshSummitStops, hup, Bool.false_and, Bool.not_false, Bool.true_and, Bool.false_eq_true, if_false]
  (repeat' split)
  · exact (noted.trans (gone_undisturbed _ _ _)).trans (gone_undisturbed _ _ _)
  · exact noted.trans (gone_undisturbed _ _ _)
  · exact noted.trans (gone_undisturbed _ _ _)
  · exact noted

/-- A change between two states other than UP disturbs nothing outside the line (R154). -/
theorem handLine_rest {p : Part} (h : p.line.state ≠ .up) : Undisturbed p (handLine false p) := by
  have hup : (p.line.state == .up) = false := by simpa using h
  have capped : Undisturbed p (setLinkCap true p) := setCaps_undisturbed _ p
  have hline : (setLinkCap true p).line = p.line := capped.1.2.2.2.2.2.2.2.2.1
  simp only [handLine, supLineChange, hup, Bool.false_and, Bool.false_eq_true, if_false, Bool.not_false]
  exact capped.trans (refreshSummitStops_undisturbed (by rw [hline]; exact h))

/-- A change between states of rest leaves all but the line, the Supervisor, the rope's ceiling and ATTENTION. -/
abbrev LineRested (p q : Part) : Prop :=
  q.clock = p.clock ∧ q.track = p.track ∧ q.cabins = p.cabins ∧ q.sensors = p.sensors ∧ q.grip = p.grip ∧ q.launch = p.launch ∧
    q.doors = p.doors ∧ q.sequencer = p.sequencer ∧ q.messages = p.messages ∧ q.calls = p.calls ∧ q.work = p.work ∧
    WindowKept p q ∧ q.sup.mode = p.sup.mode ∧ BitsStay p.window q.window

theorem LineRested.trans {p q r : Part} (h : LineRested p q) (g : LineRested q r) : LineRested p r := by
  obtain ⟨h1, h2, h3, h4, h5, h6, h7, h8, h9, h10, h11, hw, h12, hb⟩ := h
  obtain ⟨g1, g2, g3, g4, g5, g6, g7, g8, g9, g10, g11, gw, g12, gb⟩ := g
  exact ⟨g1.trans h1, g2.trans h2, g3.trans h3, g4.trans h4, g5.trans h5, g6.trans h6, g7.trans h7, g8.trans h8, g9.trans h9,
    g10.trans h10, g11.trans h11, hw.trans gw, g12.trans h12, hb.trans gb⟩

theorem Undisturbed.rested {p q : Part} (h : Undisturbed p q) : LineRested p q := by
  obtain ⟨⟨h1, h2, h3, h4, h5, h6, h7, h8, -, h9, hslots, -, -, hport⟩, h10, h11, h12, hb⟩ := h
  exact ⟨h1, h2, h3, h4, h5, h6, h7, h8, h9, h10, h11, ⟨hslots, hport⟩, h12, hb⟩

theorem modLine_rested (f : Line → Line) (p : Part) : LineRested p (modLine f p) := by
  simp [LineRested, WindowKept, PortKept, BitsStay, modLine]

theorem LineRested.same {p q : Part} (h : LineRested p q) {b : Block} (hb : b ∉ [Block.window, .line, .sup, .rope]) : Part.same b p q := by
  obtain ⟨h1, h2, h3, h4, h5, h6, h7, h8, h9, h10, -⟩ := h
  cases b with
  | window | line | sup | rope => simp at hb
  | _ => assumption

theorem changeLine_moves {st : LineState} {r : Nat} {p : Part} (h : p.line.state ≠ st) :
    changeLine st r p = handLine (p.line.state == .up) (attend .line (modLine (fun l => { l with state := st, rate := r }) p)) := by
  have hne : (p.line.state == st) = false := by simpa using h
  simp [changeLine, hne]

/-- From a state of rest to another one: LINE is set, and nothing outside the line and the Supervisor changes. -/
theorem changeLine_rest {st : LineState} {r : Nat} {p : Part} (hne : p.line.state ≠ st) (h : p.line.state ≠ .up) (hst : st ≠ .up) :
    LineRested p (changeLine st r p) ∧ (changeLine st r p).window.attention.getLsbD 7 = true := by
  have hup : (p.line.state == .up) = false := by simpa using h
  have moved : Undisturbed (attend .line (modLine (fun l => { l with state := st, rate := r }) p)) (changeLine st r p) := by
    rw [changeLine_moves hne, hup]
    exact handLine_rest hst
  have set : (attend .line (modLine (fun l => { l with state := st, rate := r }) p)).window.attention.getLsbD 7 = true := by
    simp [Attn.bit]
  have rested := moved.rested
  obtain ⟨-, -, -, -, hbits⟩ := moved
  exact ⟨((modLine_rested _ p).trans (attend_undisturbed _ _).rested).trans rested, hbits 7 set⟩

/-- The line that enters PROBING (R149). -/
theorem enterProbing_line (p : Part) : (enterProbing p).line = { stopFrames p.line with
    state := .probing, rate := 0, probeCount := 0, probe := some { start := p.clock.now, forOrder := false }
    probeStart := p.clock.now, sentBurst := wakeBurst } := by
  have hclock : (changeLine .probing 0 (modLine (fun l => { stopFrames l with probeCount := 0 }) p)).clock = p.clock := by simp [modLine]
  rw [enterProbing, sendProbe_line, changeLine_line, hclock]
  rfl

theorem enterProbing_rest {p : Part} (h : p.line.state = .down) :
    LineRested p (enterProbing p) ∧ (enterProbing p).window.attention.getLsbD 7 = true := by
  set q := modLine (fun l => { stopFrames l with probeCount := 0 }) p with hq
  have hstate : q.line.state = .down := h
  obtain ⟨rested, hset⟩ := changeLine_rest (st := .probing) (r := 0) (p := q) (by rw [hstate]; decide) (by rw [hstate]; decide) (by decide)
  exact ⟨((modLine_rested _ p).trans rested).trans (modLine_rested _ _), hset⟩

end Sys2Proof.Machine

/-! LINE_CONFIGURE, LINE_SET_INDICATIONS, LINE_START, LINE_PROBE (R147, R158 to R160). -/

namespace Sys2Proof.Machine

/-! ### LINE_CONFIGURE and LINE_SET_INDICATIONS -/

/-- The configuration stored, before auto-start turned on acts (R158). -/
def storeConfig (c : LineConfig) (p : Part) : Part :=
  modLine (fun l => { l with config := c, backoff := if c.autoStart then l.backoff else none }) p

theorem configureLine_enters {c : LineConfig} {p : Part} (h : c.autoStart = true ∧ p.line.config.autoStart = false ∧
    p.line.state = .down ∧ p.line.probe = none) : configureLine c p = enterProbing (storeConfig c p) := by
  obtain ⟨hauto, hwas, hstate, hprobe⟩ := h
  simp [configureLine, storeConfig, modLine, hauto, hwas, hstate, hprobe]

theorem configureLine_stores {c : LineConfig} {p : Part} (h : ¬ (c.autoStart = true ∧ p.line.config.autoStart = false ∧
    p.line.state = .down ∧ p.line.probe = none)) : configureLine c p = storeConfig c p := by
  have hno : ¬ (c.autoStart && !p.line.config.autoStart && p.line.state == .down && p.line.probe.isNone) = true := by
    simpa [and_assoc] using h
  simp only [configureLine, storeConfig]
  exact if_neg hno

theorem clampNat_bounds {lo hi : Nat} (h : lo ≤ hi) (n : Nat) : lo ≤ clampNat lo hi n ∧ clampNat lo hi n ≤ hi := by
  unfold clampNat
  split
  · exact ⟨le_rfl, h⟩
  · split
    · exact ⟨h, le_rfl⟩
    · omega

theorem sleepValue_mem (n : Nat) : sleepValue n ∈ [1, 2, 4, 8] := by
  unfold sleepValue
  (repeat' split) <;> simp

/-- The ranges of section 8.9. -/
theorem readLineConfig_ranges (x : Slot) :
    1 ≤ (readLineConfig x).rateCeiling ∧ (readLineConfig x).rateCeiling ≤ 3 ∧ 1 ≤ (readLineConfig x).attempts ∧
      (readLineConfig x).attempts ≤ 8 ∧ 5 ≤ (readLineConfig x).qualityThreshold ∧ (readLineConfig x).qualityThreshold ≤ 250 ∧
      (readLineConfig x).sleepSeconds ∈ [1, 2, 4, 8] ∧ (readLineConfig x).glarePriority ≤ 7 := by
  have hrate := clampNat_bounds (show 1 ≤ 3 by decide) (octet x 0)
  have hattempts := clampNat_bounds (show 1 ≤ 8 by decide) (octet x 1)
  have hquality := clampNat_bounds (show 5 ≤ 250 by decide) (octet x 2)
  exact ⟨hrate.1, hrate.2, hattempts.1, hattempts.2, hquality.1, hquality.2, sleepValue_mem _,
    (clampNat_bounds (show 0 ≤ 7 by decide) (octet x 7)).2⟩

section
variable {i : SlotNo} {s : State} (hnext : OrderNext i 0x50 s)
include hnext

theorem lineConfigure_stores (h : ¬ ((readLineConfig (slotOf s.part i)).autoStart = true ∧ s.part.line.config.autoStart = false ∧
      s.part.line.state = .down ∧ s.part.line.probe = none)) :
    ∃ t, execLineConfigure i s = .next t ∧
      Answers i (if lineConfigClamped (slotOf s.part i) = 0 then .ok else .clamped) (lineConfigClamped (slotOf s.part i)) s t ∧
      WindowFrame i s t ∧ Frame [.window, .line] s t ∧
      t.part.line = { s.part.line with
        config := readLineConfig (slotOf s.part i)
        backoff := if (readLineConfig (slotOf s.part i)).autoStart then s.part.line.backoff else none } := by
  set c := readLineConfig (slotOf s.part i) with hc
  set q := storeConfig c (takeHead i s.part) with hq
  have hbody : orderLineConfigure (slotOf s.part i) (takeHead i s.part) =
      { result := if lineConfigClamped (slotOf s.part i) = 0 then .ok else .clamped, detail := lineConfigClamped (slotOf s.part i), part := q } := by
    rw [orderLineConfigure, configureLine_stores (p := takeHead i s.part) h, clampedBy_eq]
  obtain ⟨t, hrun, hanswers, hwindow, hframe, ht, hsettle⟩ := atOnce_settled (changed := [.line]) hnext hbody
    (.of_eq rfl) hnext.1.2.1 (fun b hb hc => by
      cases b with
      | window => exact absurd rfl hb
      | line => simp at hc
      | _ => rfl)
  exact ⟨t, hrun, hanswers, hwindow, hframe, by rw [ht, finish_line, hsettle]; rfl⟩

theorem lineConfigure_enters (h : (readLineConfig (slotOf s.part i)).autoStart = true ∧ s.part.line.config.autoStart = false ∧
      s.part.line.state = .down ∧ s.part.line.probe = none) :
    ∃ t, execLineConfigure i s = .next t ∧
      Answers i (if lineConfigClamped (slotOf s.part i) = 0 then .ok else .clamped) (lineConfigClamped (slotOf s.part i)) s t ∧
      WindowFrame i s t ∧ Frame [.window, .line, .sup, .rope] s t ∧
      t.part.line = (enterProbing (storeConfig (readLineConfig (slotOf s.part i)) s.part)).line ∧
      t.part.window.attention.getLsbD 7 = true := by
  set c := readLineConfig (slotOf s.part i) with hc
  set p := storeConfig c (takeHead i s.part) with hp
  obtain ⟨rested, hset⟩ := enterProbing_rest (p := p) h.2.2.1
  have hline := enterProbing_line p
  have hbody : orderLineConfigure (slotOf s.part i) (takeHead i s.part) =
      { result := if lineConfigClamped (slotOf s.part i) = 0 then .ok else .clamped, detail := lineConfigClamped (slotOf s.part i)
        part := enterProbing p } := by
    rw [orderLineConfigure, configureLine_enters (p := takeHead i s.part) h, clampedBy_eq]
  have kept := ((modLine_rested _ (takeHead i s.part)).trans rested)
  have hsame : ∀ b ∉ [Block.window, .line, .sup, .rope], Part.same b (takeHead i s.part) (enterProbing p) := fun b hb => kept.same hb
  obtain ⟨-, -, -, -, -, -, -, -, -, -, hwork, hwindow, -, -⟩ := kept
  generalize enterProbing p = q at *
  obtain ⟨t, hrun, hanswers, hframe, hrest, ht, hsettle⟩ := atOnce_settled (changed := [.line, .sup, .rope]) hnext hbody hwindow
    (hwork.trans hnext.1.2.1) (fun b hb hc => by
      have hall := hsame b (by simpa [hb] using hc)
      cases b with
      | window => exact absurd rfl hb
      | _ => exact hall)
  refine ⟨t, hrun, hanswers, hframe, hrest, ?_, ?_⟩
  · rw [ht, finish_line, hsettle, enterProbing_line]; exact hline
  · rw [ht, finish_window, hsettle]
    simp [answer, hset]

end

/-- Settles O31. -/
theorem lineConfigureAndIndications : Obligations.LineConfigureAndIndications := by
  refine fun i s => ⟨fun hnext => ?_, fun hnext => ⟨fun h => ?_, fun h => ?_⟩⟩
  · dsimp only
    obtain ⟨h1, h2, h3, h4, h5, h6, h7, h8⟩ := readLineConfig_ranges (slotOf s.part i)
    by_cases henters : (readLineConfig (slotOf s.part i)).autoStart = true ∧ s.part.line.config.autoStart = false ∧
        s.part.line.state = .down ∧ s.part.line.probe = none
    · obtain ⟨t, hrun, hanswers, hwindow, hframe, hline, hset⟩ := lineConfigure_enters hnext henters
      rw [enterProbing_line] at hline
      refine ⟨t, hrun, hanswers, hwindow, by rw [hline]; rfl, h1, h2, h3, h4, h5, h6, h7, h8, fun hno => absurd henters hno, fun _ => ⟨hframe, ?_⟩⟩
      rw [hline]
      exact ⟨rfl, rfl, rfl, rfl, rfl, hset⟩
    · obtain ⟨t, hrun, hanswers, hwindow, hframe, hline⟩ := lineConfigure_stores hnext henters
      exact ⟨t, hrun, hanswers, hwindow, by rw [hline], h1, h2, h3, h4, h5, h6, h7, h8, fun _ => ⟨hframe, hline⟩, fun h => absurd h henters⟩
  · exact atOnce_refuses hnext (by simp [orderLineSetIndications, show 15 < octet (slotOf s.part i) 0 from h])
  · set q := modLine (fun l => { l with generalBits := BitVec.ofNat 4 (param i s 0) }) (takeHead i s.part) with hq
    have hbody : orderLineSetIndications (slotOf s.part i) (takeHead i s.part) = ok q := by
      rw [orderLineSetIndications, if_neg (Nat.not_lt.mpr h)]
    obtain ⟨t, hrun, hanswers, hframe, ht⟩ := atOnce_quiet (bits := 0) (changed := [.line]) hnext hbody hnext.1.2.1
      (by simp [ok, hq, modLine, takeHead]) (fun b hb hc => by
        cases b with
        | window => exact absurd rfl hb
        | line => simp at hc
        | _ => rfl)
    have hsettle : ∀ r d, settle 64 (answer i r d q) = answer i r d q := fun r d => settle_of_quiet hnext.1.2.1
    refine ⟨t, hrun, hanswers, hframe, ?_⟩
    rw [ht, finish_line]
    exact congrArg Part.line (hsettle _ _)

end Sys2Proof.Machine

/-! The Call Unit's operations on the call machines (chapter 10): what each makes of its own slot, and that it leaves the other. -/

namespace Sys2Proof.Machine

/-! ### What the operations leave of the other call machine and of the order slots -/

@[simp] theorem callSlot_attend (u : VoiceNo) (a : Attn) (p : Part) : callSlot (attend a p) u = callSlot p u := rfl
@[simp] theorem callSlot_answer (u : VoiceNo) (i : SlotNo) (r : Result) (d : Nat) (p : Part) :
    callSlot (answer i r d p) u = callSlot p u := rfl
@[simp] theorem callSlot_setProgress (u : VoiceNo) (i : SlotNo) (n : Nat) (p : Part) :
    callSlot (setProgress i n p) u = callSlot p u := rfl
@[simp] theorem callSlot_answerHeld (u : VoiceNo) (o : Option SlotNo) (r : Result) (d : Nat) (p : Part) :
    callSlot (answerHeld o r d p) u = callSlot p u := callSlot_of_calls_eq (answerHeld_kept o r d p).2 u

/-- Entry into a call state changes the state alone (R183, R186). -/
theorem enterCall_calls (v : VoiceNo) (st : CallState) (p : Part) :
    (enterCall v st p).calls = (modCall v (fun c => { c with state := st }) p).calls := by
  unfold enterCall
  dsimp only
  (repeat' split) <;> simp

@[simp] theorem enterCall_slot (v : VoiceNo) (st : CallState) (p : Part) :
    callSlot (enterCall v st p) v = { callSlot p v with state := st } := by
  rw [callSlot_of_calls_eq (enterCall_calls v st p), callSlot_modCall_same]

@[simp] theorem answerCall_slot (v : VoiceNo) (r : Result) (d : Nat) (p : Part) :
    callSlot (answerCall v r d p) v = { callSlot p v with order := none } := by
  simp [answerCall]

@[simp] theorem startRinging_slot (v : VoiceNo) (p : Part) : callSlot (startRinging v p) v =
    { callSlot p v with ringing := true, ringer := true, ringNext := p.clock.now + ms 1000 } := by
  simp [startRinging]

@[simp] theorem stopRinging_slot (v : VoiceNo) (p : Part) :
    callSlot (stopRinging v p) v = { callSlot p v with ringing := false, ringer := false } := by
  simp [stopRinging]

/-- The slot that has returned to IDLE. -/
def idleSlot (c : CallSlot) : CallSlot :=
  { c with state := .idle, originator := .none, role := .none, noAnswer := none, guardEnds := none, ringing := false, ringer := false }

@[simp] theorem callToIdle_slot (v : VoiceNo) (p : Part) : callSlot (callToIdle v p) v = idleSlot (callSlot p v) := by
  simp [callToIdle, idleSlot]

/-- The slot of a call originated (R177). -/
def seizingSlot (o : Originator) (order : Option SlotNo) (ends : Time) (c : CallSlot) : CallSlot :=
  { c with
    state := .seizing, originator := o, role := .caller, order := order, clearedBySummit := false, duration := 0, seizeAnswers := 0
    pickedUp := false, noAnswer := some ends }

@[simp] theorem originate_slot (v : VoiceNo) (o : Originator) (order : Option SlotNo) (p : Part) :
    callSlot (originate v o order p) v = seizingSlot o order (p.clock.now + ms (1000 * p.calls.limit)) (callSlot p v) := by
  simp [originate, seizingSlot]

/-- A call that rings once it is CONNECTED: of an ORDER or ALERT caller whose handset is not OFF_HOOK (R179). -/
def ringsConnected (c : CallSlot) : Bool :=
  c.role == .caller && (c.originator == .order || c.originator == .alert) && !(c.hook == some true)

/-- The slot of a call connected at a time (R179, R180). -/
def connectedSlot (now : Time) (c : CallSlot) : CallSlot :=
  { c with
    state := .connected, order := none, noAnswer := none, nextSecond := now + ms 1000, pickedUp := !ringsConnected c
    voiceOctets := [], ringing := ringsConnected c, ringer := ringsConnected c
    ringNext := if ringsConnected c then now + ms 1000 else c.ringNext }

/-- The count of calls connected rises. -/
def countConnect (p : Part) : Part := { p with calls := { p.calls with connects := count16 p.calls.connects } }

theorem callSlot_countConnect (u : VoiceNo) (p : Part) : callSlot (countConnect p) u = callSlot p u := rfl

/-- The part when a call has been connected and counted and its order answered, before it rings or falls silent. -/
def callConnected (v : VoiceNo) (p : Part) : Part :=
  answerCall v .ok 0 (countConnect (enterCall v .connected (modCall v (fun c => { c with
    noAnswer := none, nextSecond := p.clock.now + ms 1000, pickedUp := !ringsConnected (callSlot p v), voiceOctets := [] }) p)))

theorem connect_eq (v : VoiceNo) (p : Part) :
    connect v p = if ringsConnected (callSlot p v) then startRinging v (callConnected v p) else stopRinging v (callConnected v p) := rfl

theorem callConnected_clock (v : VoiceNo) (p : Part) : (callConnected v p).clock = p.clock := by
  simp [callConnected, countConnect, modCall]

@[simp] theorem connect_slot (v : VoiceNo) (p : Part) : callSlot (connect v p) v = connectedSlot p.clock.now (callSlot p v) := by
  rw [connect_eq]
  split
  next h =>
    rw [startRinging_slot, callConnected_clock, callConnected, answerCall_slot, callSlot_countConnect, enterCall_slot,
      callSlot_modCall_same]
    simp [connectedSlot, h]
  next h =>
    rw [stopRinging_slot, callConnected, answerCall_slot, callSlot_countConnect, enterCall_slot, callSlot_modCall_same]
    simp [connectedSlot, h]

/-- The slot that the valley clears (R181), the summit's awaited bit standing. -/
def clearingSlot (why : ClearReason) (ends : Time) (c : CallSlot) : CallSlot :=
  { c with
    state := .clearing, reason := why, clearedBySummit := false, noAnswer := none, guardEnds := some ends, ringing := false, ringer := false }

theorem awaitedStands_clearingSlot (why : ClearReason) (ends : Time) (c : CallSlot) :
    awaitedStands (clearingSlot why ends c) = awaitedStands c := rfl

@[simp] theorem clearByValley_slot (v : VoiceNo) (why : ClearReason) (p : Part) : callSlot (clearByValley v why p) v =
    if awaitedStands (callSlot p v) then clearingSlot why (p.clock.now + ms 2000) (callSlot p v)
    else idleSlot (clearingSlot why (p.clock.now + ms 2000) (callSlot p v)) := by
  have begun : callSlot (stopRinging v (enterCall v .clearing (modCall v (fun c => { c with
      reason := why, clearedBySummit := false, noAnswer := none, guardEnds := some (p.clock.now + ms 2000) }) p))) v =
      clearingSlot why (p.clock.now + ms 2000) (callSlot p v) := by
    simp [clearingSlot]
  unfold clearByValley
  dsimp only
  rw [begun, awaitedStands_clearingSlot]
  split
  · exact begun
  · rw [callToIdle_slot, begun]

@[simp] theorem clearBySummit_slot (v : VoiceNo) (p : Part) : callSlot (clearBySummit v p) v =
    if (callSlot p v).hook = some true then
      { callSlot p v with reason := .farClear, clearedBySummit := true, state := .clearing, ringing := false, ringer := false }
    else idleSlot { callSlot p v with reason := .farClear } := by
  unfold clearBySummit
  dsimp only
  rw [callSlot_modCall_same]
  by_cases h : (callSlot p v).hook = some true
  · simp [h]
  · simp [h]

/-- The slot of an incoming call (R180): it rings, or with the handset OFF_HOOK it is answered at once. -/
def incomingSlot (c : CallSlot) : CallSlot :=
  { c with
    state := .ringingIn, originator := .far, role := .answerer, order := none, clearedBySummit := false, duration := 0, noAnswer := none }

@[simp] theorem incoming_slot (v : VoiceNo) (p : Part) : callSlot (incoming v p) v =
    if (callSlot p v).hook = some true then connectedSlot p.clock.now (incomingSlot (callSlot p v))
    else { incomingSlot (callSlot p v) with ringing := true, ringer := true, ringNext := p.clock.now + ms 1000 } := by
  have begun : callSlot (enterCall v .ringingIn (modCall v (fun c => { c with
      originator := .far, role := .answerer, order := none, clearedBySummit := false, duration := 0, noAnswer := none }) p)) v =
      incomingSlot (callSlot p v) := by
    simp [incomingSlot]
  have clock : (enterCall v .ringingIn (modCall v (fun c => { c with
      originator := .far, role := .answerer, order := none, clearedBySummit := false, duration := 0, noAnswer := none }) p)).clock =
      p.clock := (enterCall_kept v _ _).1
  have hook : (incomingSlot (callSlot p v)).hook = (callSlot p v).hook := rfl
  unfold incoming
  dsimp only
  rw [begun, hook]
  split
  next h => rw [if_pos (by simpa using h), connect_slot, begun, clock]
  next h => rw [if_neg (by simpa using h), startRinging_slot, begun, clock]; rfl

/-! ### The other call machine -/

section
variable {v u : VoiceNo} (h : u ≠ v)
include h

@[simp] theorem enterCall_ne (st : CallState) (p : Part) : callSlot (enterCall v st p) u = callSlot p u := by
  rw [callSlot_of_calls_eq (enterCall_calls v st p), callSlot_modCall_ne _ _ _ _ h]

@[simp] theorem answerCall_ne (r : Result) (d : Nat) (p : Part) : callSlot (answerCall v r d p) u = callSlot p u := by
  simp [answerCall, h]

@[simp] theorem startRinging_ne (p : Part) : callSlot (startRinging v p) u = callSlot p u := callSlot_modCall_ne _ _ _ _ h

@[simp] theorem stopRinging_ne (p : Part) : callSlot (stopRinging v p) u = callSlot p u := callSlot_modCall_ne _ _ _ _ h

@[simp] theorem callToIdle_ne (p : Part) : callSlot (callToIdle v p) u = callSlot p u := by simp [callToIdle, h]

@[simp] theorem originate_ne (o : Originator) (order : Option SlotNo) (p : Part) :
    callSlot (originate v o order p) u = callSlot p u := by simp [originate, h]

@[simp] theorem connect_ne (p : Part) : callSlot (connect v p) u = callSlot p u := by
  rw [connect_eq]
  split
  · rw [startRinging_ne h, callConnected, answerCall_ne h, callSlot_countConnect, enterCall_ne h, callSlot_modCall_ne _ _ _ _ h]
  · rw [stopRinging_ne h, callConnected, answerCall_ne h, callSlot_countConnect, enterCall_ne h, callSlot_modCall_ne _ _ _ _ h]

@[simp] theorem clearByValley_ne (why : ClearReason) (p : Part) : callSlot (clearByValley v why p) u = callSlot p u := by
  unfold clearByValley
  dsimp only
  split <;> simp [h]

@[simp] theorem clearBySummit_ne (p : Part) : callSlot (clearBySummit v p) u = callSlot p u := by
  unfold clearBySummit
  dsimp only
  split <;> simp [h]

@[simp] theorem incoming_ne (p : Part) : callSlot (incoming v p) u = callSlot p u := by
  unfold incoming
  dsimp only
  split <;> simp [h]

end

/-! ### A departure from UP (R182) -/

/-- The slot's answered order aside, a slot that leaves UP is UNAVAILABLE and the other one stays. -/
@[simp] theorem callLineDown_state (tr : Option Nat) (v : VoiceNo) (p : Part) :
    (callSlot (callLineDown tr v p) v).state = .unavailable := by
  unfold callLineDown
  dsimp only
  rw [callSlot_modCall_same]
  split
  next h => rw [callSlot_modCall_same]; exact h
  all_goals simp

@[simp] theorem callLineDown_ne {v u : VoiceNo} (h : u ≠ v) (tr : Option Nat) (p : Part) :
    callSlot (callLineDown tr v p) u = callSlot p u := by
  unfold callLineDown
  dsimp only
  split <;> simp [h]

end Sys2Proof.Machine

/-! Departures of the line from UP, and LINE_START, LINE_PROBE, LINE_DORMANT (R156, R159, R160, R172, R182). -/

namespace Sys2Proof.Machine

/-! ### The Supervisor at a departure from UP (R134) -/

/-- Nothing is called for, and the mode stays; or the mode is no longer RUN. -/
abbrev StaysOrStops (p q : Part) : Prop := (q.work = p.work ∧ q.sup.mode = p.sup.mode) ∨ q.sup.mode ≠ .run

theorem StaysOrStops.trans {p q r : Part} (h : StaysOrStops p q) (g : StaysOrStops q r) : StaysOrStops p r := by
  obtain ⟨gwork, gmode⟩ | g := g
  · obtain ⟨hwork, hmode⟩ | h := h
    · exact .inl ⟨gwork.trans hwork, gmode.trans hmode⟩
    · exact .inr (by rw [gmode]; exact h)
  · exact .inr g

theorem Undisturbed.stays {p q : Part} (h : Undisturbed p q) : StaysOrStops p q := by
  obtain ⟨-, -, hwork, hmode, -⟩ := h
  exact .inl ⟨hwork, hmode⟩

theorem modeAfterCause_service (m : Mode) : modeAfterCause m .service ≠ .run ∧ (m ≠ .stoppingFast → modeAfterCause m .service ≠ .stoppingFast) := by
  cases m <;> decide

theorem report_stops (k : CauseKind) (n : Nat) (c : Category) (b : Bool) (p : Part) : (report k n c b p).sup.mode ≠ .run := by
  rw [report_mode]
  split
  · decide
  · cases p.sup.mode <;> cases c <;> decide

/-- The link grace begins or the link is lost at once: no call is made, and a station that stops calls for Launch Control alone. -/
theorem startGrace_stays (p : Part) : (startGrace p).calls = p.calls ∧ StaysOrStops p (startGrace p) := by
  unfold startGrace
  split
  next hrun =>
    have hslow : modeAfterCause p.sup.mode .service ≠ .stoppingFast :=
      (modeAfterCause_service _).2 fun h => by rw [h] at hrun; exact absurd hrun (by decide)
    dsimp only
    split
    · exact ⟨report_calls hslow, .inr (report_stops _ _ _ _ _)⟩
    · exact ⟨rfl, .inl ⟨rfl, rfl⟩⟩
  · exact ⟨rfl, .inl ⟨rfl, rfl⟩⟩

theorem supLineChange_departs {p : Part} (h : p.line.state ≠ .up) :
    (supLineChange true p).calls = p.calls ∧ StaysOrStops p (supLineChange true p) := by
  have hup : (p.line.state == .up) = false := by simpa using h
  have capped : Undisturbed p (setLinkCap true p) := setCaps_undisturbed _ p
  obtain ⟨hcalls, hgrace⟩ := startGrace_stays (setLinkCap true p)
  have hline : (startGrace (setLinkCap true p)).line = p.line := by simp
  have ended := refreshSummitStops_undisturbed (p := startGrace (setLinkCap true p)) (by rw [hline]; exact h)
  simp only [supLineChange, hup, Bool.not_false, Bool.and_self, if_true]
  exact ⟨ended.2.1.trans (hcalls.trans capped.2.1), (capped.stays.trans hgrace).trans ended.stays⟩

/-! ### The Message Channel at a departure from UP (R172) -/

theorem failTransfer_lists (t : Transfer) (d : Nat) (p : Part) : (failTransfer t d p).messages = p.messages := by
  simp

theorem messagesLineDown_messages (p : Part) : (messagesLineDown p).messages = { discardAssembly p.messages with
    transmitter := .idle, refusals := 0, lastOffer := none, acceptNext := false } := by
  unfold messagesLineDown
  dsimp only
  split <;> simp [modMsg]

theorem answerHeld_bitsStay (o : Option SlotNo) (r : Result) (d : Nat) (p : Part) : BitsStay p.window (answerHeld o r d p).window := by
  cases o with
  | none => exact .of_eq rfl
  | some i => exact fun n h => by simp [answerHeld, answer, h]

theorem answerCall_bitsStay (v : VoiceNo) (r : Result) (d : Nat) (p : Part) : BitsStay p.window (answerCall v r d p).window :=
  answerHeld_bitsStay _ r d p

theorem messagesLineDown_bitsStay (p : Part) : BitsStay p.window (messagesLineDown p).window := by
  have failed (t : Transfer) (q : Part) : BitsStay q.window (failTransfer t 2 q).window := by
    unfold failTransfer
    split
    · exact .of_eq (by simp)
    · exact fun n h => by simp [answer, h]
  unfold messagesLineDown
  dsimp only
  split
  · exact failed _ (modMsg _ p)
  · exact failed _ (modMsg _ p)
  · exact .of_eq rfl

theorem callLineDown_bitsStay (tr : Option Nat) (v : VoiceNo) (p : Part) : BitsStay p.window (callLineDown tr v p).window := by
  unfold callLineDown
  dsimp only
  set q := modCall v (fun c => { c with seizeTaken := false, answerTaken := false, goodSinceUp := 0 }) p
  have entered (q : Part) := enterCall_bitsStay v .unavailable q
  split
  · exact .of_eq rfl
  · exact entered q
  · exact entered q
  · exact (answerCall_bitsStay v _ _ q).trans (entered _)

/-! ### The line leaves UP, or its rest, for TRAINING or DORMANT -/

/-- The blocks that are handed a departure from UP before the Supervisor (R172, R182). -/
def linesDown (tr : Option Nat) (p : Part) : Part := callLineDown tr 1 (callLineDown tr 0 (messagesLineDown p))

theorem linesDown_calls (tr : Option Nat) (p : Part) (v : VoiceNo) : (callSlot (linesDown tr p) v).state = .unavailable := by
  match v with
  | 0 => rw [linesDown, callLineDown_ne (by decide), callLineDown_state]
  | 1 => exact callLineDown_state _ 1 _

theorem linesDown_messages (tr : Option Nat) (p : Part) : (linesDown tr p).messages = { discardAssembly p.messages with
    transmitter := .idle, refusals := 0, lastOffer := none, acceptNext := false } := by
  simp [linesDown, messagesLineDown_messages]

theorem linesDown_stays (tr : Option Nat) (p : Part) : StaysOrStops p (linesDown tr p) :=
  .inl (by simp [linesDown])

theorem linesDown_bitsStay (tr : Option Nat) (p : Part) : BitsStay p.window (linesDown tr p).window :=
  ((messagesLineDown_bitsStay p).trans (callLineDown_bitsStay _ _ _)).trans (callLineDown_bitsStay _ _ _)

theorem handLine_departs {p : Part} (h : p.line.state ≠ .up) :
    ∃ tr, handLine true p = supLineChange true (linesDown tr p) ∧ (linesDown tr p).line = p.line := by
  have hup : (p.line.state == .up) = false := by simpa using h
  refine ⟨if p.line.state == .training then some p.line.rate else none, ?_, by simp [linesDown]⟩
  simp [handLine, hup, linesDown]

theorem startGrace_bitsStay (p : Part) : BitsStay p.window (startGrace p).window := by
  unfold startGrace
  dsimp only
  (repeat' split)
  · exact report_bitsStay _ _ _ _ p
  · exact .of_eq rfl
  · exact .of_eq rfl

theorem supLineChange_bitsStay {p : Part} (h : p.line.state ≠ .up) : BitsStay p.window (supLineChange true p).window := by
  have hup : (p.line.state == .up) = false := by simpa using h
  obtain ⟨-, -, -, -, capped⟩ := setCaps_undisturbed { p.sup.caps with link := true } p
  have hline : (startGrace (setLinkCap true p)).line = p.line := by simp
  obtain ⟨-, -, -, -, ended⟩ := refreshSummitStops_undisturbed (p := startGrace (setLinkCap true p)) (by rw [hline]; exact h)
  simp only [supLineChange, hup, Bool.not_false, Bool.and_self, if_true]
  exact (capped.trans (startGrace_bitsStay (setLinkCap true p))).trans ended

/-- From UP every voice slot is UNAVAILABLE, every transfer ended, and LINE is set (R172, R182); what is called for does not outlive RUN. -/
theorem changeLine_from_up {st : LineState} {r : Nat} {p : Part} (hup : p.line.state = .up) (hst : st ≠ .up) :
    StaysOrStops p (changeLine st r p) ∧ (∀ v : VoiceNo, (callSlot (changeLine st r p) v).state = .unavailable) ∧
      (changeLine st r p).messages = { discardAssembly p.messages with
        transmitter := .idle, refusals := 0, lastOffer := none, acceptNext := false } ∧
      (changeLine st r p).window.attention.getLsbD 7 = true := by
  set q := attend .line (modLine (fun l => { l with state := st, rate := r }) p) with hq
  have hset : q.window.attention.getLsbD 7 = true := by simp [hq, Attn.bit]
  obtain ⟨tr, hhand, hline⟩ := handLine_departs (p := q) hst
  have hstate : (linesDown tr q).line.state ≠ .up := by rw [hline]; exact hst
  obtain ⟨hcalls, hstays⟩ := supLineChange_departs hstate
  have hwhole : changeLine st r p = supLineChange true (linesDown tr q) := by
    rw [changeLine_moves (by rw [hup]; exact hst.symm), hup, ← hhand]
    rfl
  rw [hwhole]
  refine ⟨((linesDown_stays tr q).trans hstays : StaysOrStops q _), fun v => ?_, ?_, ?_⟩
  · rw [callSlot_of_calls_eq hcalls, linesDown_calls]
  · rw [(supLineChange_kept true _).2.2.2.2.2.2.2.2.2.1, linesDown_messages]
    rfl
  · exact supLineChange_bitsStay hstate 7 (linesDown_bitsStay tr q 7 hset)

/-- Between states other than UP nothing is disturbed (R154). -/
theorem changeLine_rested {st : LineState} {r : Nat} {p : Part} (h : p.line.state ≠ .up) (hst : st ≠ .up) :
    LineRested p (changeLine st r p) := by
  by_cases hsame : p.line.state = st ∧ p.line.rate = r
  · rw [changeLine, if_pos (by simpa using hsame)]
    simp [LineRested, WindowKept, PortKept, BitsStay]
  · have hup : (p.line.state == .up) = false := by simpa using h
    have moved : Undisturbed (attend .line (modLine (fun l => { l with state := st, rate := r }) p)) (changeLine st r p) := by
      rw [changeLine, if_neg (by simpa using hsame), hup]
      exact handLine_rest hst
    exact ((modLine_rested _ p).trans (attend_undisturbed _ _).rested).trans moved.rested

theorem settle_stops {p q : Part} (hwork : p.work = {}) (h : StaysOrStops p q) (harb : q.work.arbiter = p.work.arbiter)
    (hseq : q.work.sequencer = p.work.sequencer) : LaunchAlone q (settle 64 q) := by
  rw [hwork] at harb hseq
  obtain ⟨hq, -⟩ | hmode := h
  · rw [settle_of_quiet (hq.trans hwork)]
    exact ⟨rfl, List.Sublist.refl _⟩
  · exact (settle_outside_run hmode harb hseq).1

/-! ### LINE_START (R159) -/

/-- The ceiling configured by a LINE_START, the diagnosis NONE, and the order in flight (R159). -/
def startAccepted (i : SlotNo) (c : Nat) (p : Part) : Part :=
  modLine (fun l => { l with
    config := if c == 0 then l.config else { l.config with rateCeiling := c }
    diagnosis := .none, startOrder := some i }) p

theorem startAccepted_config (i : SlotNo) (c : Nat) (p : Part) : (startAccepted i c p).line = { p.line with
    config := { p.line.config with rateCeiling := if c = 0 then p.line.config.rateCeiling else c }
    diagnosis := .none, startOrder := some i } := by
  by_cases h : c = 0
  · simp [startAccepted, modLine, h]
  · simp [startAccepted, modLine, h]

section
variable {i : SlotNo} {x : Slot} {p : Part}

theorem orderLineStart_range (h : 3 < octet x 0) : orderLineStart i x p = answer i .refusedRange 0 p := by
  simp [orderLineStart, h]

theorem orderLineStart_busy (h : octet x 0 ≤ 3) (hbusy : lineBusy p.line = true) : orderLineStart i x p = answer i .busy 0 p := by
  simp [orderLineStart, Nat.not_lt.mpr h, hbusy]

theorem orderLineStart_starts (h : octet x 0 ≤ 3) (hfree : lineBusy p.line = false) :
    orderLineStart i x p = startLine (startAccepted i (octet x 0) p) := by
  simp [orderLineStart, startAccepted, Nat.not_lt.mpr h, hfree]

end

theorem lineBusy_iff (l : Line) : lineBusy l = true ↔ l.startOrder.isSome = true ∨ l.probeOrder.isSome = true := by
  simp [lineBusy]

theorem lineBusy_false {l : Line} (h1 : l.startOrder = none) (h2 : l.probeOrder = none) : lineBusy l = false := by
  simp [lineBusy, h1, h2]

/-- The line that enters TRAINING (R150). -/
theorem enterTraining_line (r : Nat) (p : Part) : (enterTraining r p).line = { nextAttempt (stopLine p.line) with
    attemptsUsed := 0, state := .training, rate := r } := by
  rw [enterTraining, changeLine_line]; rfl
theorem enterTraining_from_up {r : Nat} {p : Part} (hup : p.line.state = .up) :
    (∀ v : VoiceNo, (callSlot (enterTraining r p) v).state = .unavailable) ∧
      (enterTraining r p).messages.transmitter = .idle ∧ (enterTraining r p).messages.receiver = .idle ∧
      (enterTraining r p).messages.notes = p.messages.notes ∧ (enterTraining r p).messages.waiting = p.messages.waiting := by
  obtain ⟨-, hcalls, hmessages, -⟩ := changeLine_from_up (st := .training) (r := r)
    (p := modLine (fun l => { nextAttempt (stopLine l) with attemptsUsed := 0 }) p) hup (by decide)
  have hdiscard : (discardAssembly p.messages).receiver = .idle ∧ (discardAssembly p.messages).notes = p.messages.notes ∧
      (discardAssembly p.messages).waiting = p.messages.waiting := by
    unfold discardAssembly
    split <;> exact ⟨rfl, rfl, rfl⟩
  refine ⟨hcalls, ?_⟩
  rw [enterTraining, hmessages]
  exact ⟨rfl, hdiscard⟩

/-- A long-running order that its block answers at once, calling for no judgement. -/
theorem longRunning_answers {i : SlotNo} {k : Byte} {body : Slot → Part → Part} {s : State} {r : Result} {d : Nat} {q : Part}
    {changed : List Block} (hnext : LongOrderNext i k s) (hbody : body (slotOf s.part i) (takeHead i s.part) = answer i r d q)
    (hwindow : WindowKept (takeHead i s.part) q) (hwork : q.work = {})
    (hkept : ∀ b, b ≠ .window → b ∉ changed → Part.same b s.part q) :
    ∃ t, longRunning i k body s = .next t ∧ Answers i r d s t ∧ WindowFrame i s t ∧ Frame (.window :: changed) s t ∧
      t.part = finish (answer i r d q) ∧ settle 64 (answer i r d q) = answer i r d q := by
  obtain ⟨⟨hready, hhead, hkind⟩, hroom⟩ := hnext
  have hsettle : settle 64 (answer i r d q) = answer i r d q := settle_of_quiet hwork
  obtain ⟨hanswers, hframe⟩ := answers_finish (i := i) (r := r) (d := d) (s := s) hwindow (.of_eq (by rw [hsettle]))
    (by rw [hsettle]; simp [answer, Attn.bit])
  refine ⟨_, longRunning_acts hready.1 hhead hkind hroom, ?_⟩
  rw [hbody]
  exact ⟨hanswers, hframe, frame_answered hready hwork hkept, rfl, hsettle⟩

section
variable {i : SlotNo} {s : State} (hnext : LongOrderNext i 0x51 s) (hrange : param i s 0 ≤ 3) (hstart : s.part.line.startOrder = none)
  (hprobe : s.part.line.probeOrder = none)
include hnext hrange hstart hprobe

theorem lineStart_body : orderLineStart i (slotOf s.part i) (takeHead i s.part) =
    startLine (startAccepted i (param i s 0) (takeHead i s.part)) :=
  orderLineStart_starts (p := takeHead i s.part) hrange (lineBusy_false hstart hprobe)

theorem lineStart_down (hstate : s.part.line.state = .down) :
    ∃ t, execLineStart i s = .next t ∧ Holds i s t ∧ WindowFrame i s t ∧ Frame [.window, .line, .sup, .rope] s t ∧
      t.part.line = (enterProbing (startAccepted i (param i s 0) s.part)).line := by
  set p := startAccepted i (param i s 0) (takeHead i s.part) with hp
  obtain ⟨rested, -⟩ := enterProbing_rest (p := p) hstate
  have hbody := lineStart_body hnext hrange hstart hprobe
  have hdown : startLine p = enterProbing p := by simp [startLine, show p.line.state = .down from hstate]
  rw [← hp, hdown] at hbody
  have kept := (modLine_rested _ (takeHead i s.part)).trans rested
  have hsame : ∀ b ∉ [Block.window, .line, .sup, .rope], Part.same b (takeHead i s.part) (enterProbing p) := fun b hb => kept.same hb
  obtain ⟨-, -, -, -, -, -, -, -, -, -, hwork, hwindow, -, -⟩ := kept
  have hline := enterProbing_line p
  generalize enterProbing p = q at *
  obtain ⟨t, hrun, hholds, hframe, hrest, ht, hsettle⟩ := longRunning_settled (changed := [.line, .sup, .rope]) hnext hbody hwindow
    (hwork.trans hnext.1.1.2.1) (fun b hb hc => by
      have hall := hsame b (by simpa [hb] using hc)
      cases b with
      | window => exact absurd rfl hb
      | _ => exact hall)
  exact ⟨t, hrun, hholds, hframe, hrest, by rw [ht, finish_line, hsettle, hline, enterProbing_line]; rfl⟩

theorem lineStart_probing (hstate : s.part.line.state = .probing) :
    ∃ t, execLineStart i s = .next t ∧ Holds i s t ∧ WindowFrame i s t ∧ Frame [.window, .line] s t ∧
      t.part.line = { (startAccepted i (param i s 0) s.part).line with probeCount := 0 } := by
  set p := startAccepted i (param i s 0) (takeHead i s.part) with hp
  have hbody := lineStart_body hnext hrange hstart hprobe
  have hprobing : startLine p = modLine (fun l => { l with probeCount := 0 }) p := by
    simp [startLine, show p.line.state = .probing from hstate]
  rw [← hp, hprobing] at hbody
  obtain ⟨t, hrun, hholds, hframe, hrest, ht, hsettle⟩ := longRunning_settled (changed := [.line]) hnext hbody (.of_eq rfl)
    hnext.1.1.2.1 (fun b hb hc => by
      cases b with
      | window => exact absurd rfl hb
      | line => simp at hc
      | _ => rfl)
  exact ⟨t, hrun, hholds, hframe, hrest, by rw [ht, finish_line, hsettle]; rfl⟩

theorem lineStart_up (hstate : s.part.line.state = .up)
    (hrate : s.part.line.rate = (startAccepted i (param i s 0) s.part).line.config.rateCeiling) :
    ∃ t, execLineStart i s = .next t ∧ Answers i .ok 0 s t ∧ WindowFrame i s t ∧ Frame [.window, .line] s t ∧
      t.part.line = { (startAccepted i (param i s 0) s.part).line with startOrder := none } := by
  set p := startAccepted i (param i s 0) (takeHead i s.part) with hp
  have hbody := lineStart_body hnext hrange hstart hprobe
  have hup : startLine p = answer i .ok 0 (modLine (fun l => { l with startOrder := none }) p) := by
    have hceiling : (p.line.rate == p.line.config.rateCeiling) = true := beq_iff_eq.mpr hrate
    simp only [startLine, show p.line.state = .up from hstate, hceiling, if_true]
    rfl
  rw [← hp, hup] at hbody
  obtain ⟨t, hrun, hanswers, hframe, hrest, ht, hsettle⟩ := longRunning_answers (changed := [.line]) hnext hbody (.of_eq rfl)
    hnext.1.1.2.1 (fun b hb hc => by
      cases b with
      | window => exact absurd rfl hb
      | line => simp at hc
      | _ => rfl)
  exact ⟨t, hrun, hanswers, hframe, hrest, by rw [ht, finish_line, hsettle]; rfl⟩

theorem lineStart_trains (hstate : s.part.line.state = .training ∨ s.part.line.state = .dormant ∨
      (s.part.line.state = .up ∧ s.part.line.rate ≠ (startAccepted i (param i s 0) s.part).line.config.rateCeiling)) :
    ∃ t q, execLineStart i s = .next t ∧ t.part = finish q ∧
      q = enterTraining (startAccepted i (param i s 0) s.part).line.config.rateCeiling
        (startAccepted i (param i s 0) (takeHead i s.part)) ∧ LaunchAlone q (settle 64 q) := by
  set p := startAccepted i (param i s 0) (takeHead i s.part) with hp
  have hbody := lineStart_body hnext hrange hstart hprobe
  have htrain : startLine p = trainAtCeiling p := by
    obtain h | h | ⟨h, hrate⟩ := hstate
    · simp only [startLine, show p.line.state = .training from h]
    · simp only [startLine, show p.line.state = .dormant from h]
    · have hceiling : (p.line.rate == p.line.config.rateCeiling) = false := beq_false_of_ne hrate
      simp only [startLine, show p.line.state = .up from h, hceiling, Bool.false_eq_true, if_false]
  rw [← hp, htrain] at hbody
  obtain ⟨⟨hready, hhead, hkind⟩, hroom⟩ := hnext
  refine ⟨_, trainAtCeiling p, longRunning_acts hready.1 hhead hkind hroom, by rw [hbody], rfl, ?_⟩
  set q := modLine (fun l => { nextAttempt (stopLine l) with attemptsUsed := 0 }) p with hq
  have stays : StaysOrStops q (trainAtCeiling p) := by
    by_cases hup : q.line.state = .up
    · exact (changeLine_from_up hup (by decide)).1
    · obtain ⟨-, -, -, -, -, -, -, -, -, -, hwork, -, hmode, -⟩ := changeLine_rested (st := .training)
        (r := p.line.config.rateCeiling) hup (by decide)
      exact .inl ⟨hwork, hmode⟩
  obtain ⟨-, -, -, -, -, -, -, -, harb, hseq, -⟩ := trainAtCeiling_kept p
  exact settle_stops (p := q) hready.2.1 stays harb hseq

end

/-- Settles O32. -/
theorem lineStartActsByTheLineState : Obligations.LineStartActsByTheLineState := by
  intro i s hnext
  have hceiling := startAccepted_config i (param i s 0) s.part
  refine ⟨fun h => longRunning_refuses hnext (orderLineStart_range h), fun h hbusy =>
    longRunning_refuses hnext (orderLineStart_busy h ((lineBusy_iff _).mpr hbusy)), fun hrange hstart hprobe =>
    ⟨fun hstate => ?_, fun hstate => ?_, fun hstate hrate => ?_, fun hstate => ?_⟩⟩
  · obtain ⟨t, hrun, hholds, hwindow, hframe, hline⟩ := lineStart_down hnext hrange hstart hprobe hstate
    refine ⟨t, hrun, hholds, hwindow, hframe, ?_⟩
    rw [hline, enterProbing_line, hceiling]
    exact ⟨rfl, rfl, rfl, rfl, rfl, rfl, rfl, rfl⟩
  · obtain ⟨t, hrun, hholds, hwindow, hframe, hline⟩ := lineStart_probing hnext hrange hstart hprobe hstate
    exact ⟨t, hrun, hholds, hwindow, hframe, by rw [hline, hceiling]⟩
  · obtain ⟨t, hrun, hanswers, hwindow, hframe, hline⟩ := lineStart_up hnext hrange hstart hprobe hstate (by rw [hceiling]; exact hrate)
    exact ⟨t, hrun, hanswers, hwindow, hframe, by rw [hline, hceiling]⟩
  · obtain ⟨t, q, hrun, ht, hq, alone, -⟩ := lineStart_trains hnext hrange hstart hprobe (by rw [hceiling]; exact hstate)
    have hline : t.part.line = { nextAttempt (stopLine (startAccepted i (param i s 0) s.part).line) with
        attemptsUsed := 0, state := .training
        rate := if param i s 0 = 0 then s.part.line.config.rateCeiling else param i s 0 } := by
      rw [ht, finish_line, alone, hq, enterTraining_line, hceiling]
      simp only [startAccepted_config]
      rfl
    rw [hceiling] at hline
    have hmessages : t.part.messages = q.messages := by rw [ht, finish_messages, alone]
    have hcalls (v : VoiceNo) : (callSlot t.part v).state = (callSlot q v).state := by
      rw [ht, callSlot_finish, callSlot_of_calls_eq (p := q) (by rw [alone]) v]
    obtain ⟨hclock, -, htrack, hsensors, hgrip, -⟩ := enterTraining_kept (startAccepted i (param i s 0) s.part).line.config.rateCeiling
      (startAccepted i (param i s 0) (takeHead i s.part))
    rw [← hq] at hclock htrack hsensors hgrip
    refine ⟨t, hrun, ?_, ?_, ?_, ?_, ?_, ?_, ?_, ?_, ?_, ?_, ?_, fun hup => ⟨fun v => ?_, ?_⟩, ?_, ?_, ?_, ?_⟩
    iterate 11 (simp only [hline, nextAttempt, stopLine])
    · rw [hcalls, hq, (enterTraining_from_up (p := startAccepted i (param i s 0) (takeHead i s.part)) hup).1]
    · rw [hmessages, hq]
      exact (enterTraining_from_up (p := startAccepted i (param i s 0) (takeHead i s.part)) hup).2
    · rw [ht, finish_track, alone]; exact htrack
    · rw [ht, finish_sensors, alone]; exact hsensors
    · rw [ht, finish_grip, alone]; exact hgrip
    · rw [ht, finish_clock, alone]; exact hclock

end Sys2Proof.Machine

/-! LINE_PROBE and LINE_DORMANT (R156, R157, R160). -/

namespace Sys2Proof.Machine

/-! ### LINE_PROBE -/

section
variable {i : SlotNo} {x : Slot} {p : Part}

theorem orderLineProbe_state (h : p.line.state ∉ [LineState.down, .dormant]) : orderLineProbe i x p = answer i .refusedState 0 p := by
  have hno : (p.line.state != .down && p.line.state != .dormant) = true := by simpa using h
  simp only [orderLineProbe, hno, if_true]

theorem orderLineProbe_rests (h : p.line.state ∈ [LineState.down, .dormant]) :
    (p.line.state != .down && p.line.state != .dormant) = false := by
  revert h; cases p.line.state <;> decide

theorem orderLineProbe_busy (h : p.line.state ∈ [LineState.down, .dormant]) (hbusy : lineBusy p.line = true) :
    orderLineProbe i x p = answer i .busy 0 p := by
  simp [orderLineProbe, orderLineProbe_rests h, hbusy]

theorem orderLineProbe_probes (h : p.line.state ∈ [LineState.down, .dormant]) (hfree : lineBusy p.line = false) :
    orderLineProbe i x p = sendProbe true (modLine (fun l => { l with backoff := none, probeOrder := some i }) p) := by
  simp [orderLineProbe, orderLineProbe_rests h, hfree]

end

theorem lineProbe_probes {i : SlotNo} {s : State} (hnext : LongOrderNext i 0x52 s) (hstate : s.part.line.state ∈ [LineState.down, .dormant])
    (hstart : s.part.line.startOrder = none) (hprobe : s.part.line.probeOrder = none) :
    ∃ t, execLineProbe i s = .next t ∧ Holds i s t ∧ WindowFrame i s t ∧ Frame [.window, .line] s t ∧
      t.part.line = { s.part.line with
        backoff := none, probeOrder := some i, probeStart := s.part.clock.now
        probe := some { start := s.part.clock.now, forOrder := true }, sentBurst := List.replicate 16 0xAA } := by
  obtain ⟨t, hrun, hholds, hframe, hrest, ht, hsettle⟩ := longRunning_settled (changed := [.line]) hnext
    (orderLineProbe_probes (p := takeHead i s.part) hstate (lineBusy_false hstart hprobe)) (.of_eq rfl) hnext.1.1.2.1
    (fun b hb hc => by
      cases b with
      | window => exact absurd rfl hb
      | line => simp at hc
      | _ => rfl)
  exact ⟨t, hrun, hholds, hframe, hrest, by rw [ht, finish_line, hsettle]; rfl⟩

/-! ### LINE_DORMANT: the conditions -/

/-- The condition of that number of LINE_DORMANT does not hold (R156). -/
abbrev dormantFailing (p : Part) (n : Nat) : Prop :=
  (n = 1 ∧ p.sup.mode ≠ .off) ∨ (n = 2 ∧ ∃ v : VoiceNo, (callSlot p v).state ∉ [CallState.idle, .unavailable]) ∨
    (n = 3 ∧ (p.messages.transmitter ≠ .idle ∨ p.messages.receiver ≠ .idle)) ∨
    (n = 4 ∧ p.line.startOrder ≠ none) ∨ (n = 5 ∧ p.line.probeOrder ≠ none)

theorem dormantFailing_two (p : Part) : dormantFailing p 2 ↔ (hasCall (callSlot p 0) || hasCall (callSlot p 1)) = true := by
  simp [dormantFailing, hasCall, Fin.exists_fin_two]

theorem dormantFailing_one (p : Part) : dormantFailing p 1 ↔ (!isOff p) = true := by simp [dormantFailing, isOff]

theorem dormantFailing_three (p : Part) : dormantFailing p 3 ↔ messageInTransfer p.messages = true := by
  simp [dormantFailing, messageInTransfer]

theorem dormantFailing_four (p : Part) : dormantFailing p 4 ↔ p.line.startOrder.isSome = true := by
  simp [dormantFailing, Option.isSome_iff_ne_none]

theorem dormantFailing_five (p : Part) : dormantFailing p 5 ↔ p.line.probeOrder.isSome = true := by
  simp [dormantFailing, Option.isSome_iff_ne_none]

theorem dormantFails_first {p : Part} {n : Nat} (hn : n ∈ [1, 2, 3, 4, 5]) (hfails : dormantFailing p n)
    (hbefore : ∀ m ∈ [1, 2, 3, 4, 5], m < n → ¬ dormantFailing p m) : dormantFails p = some n := by
  simp only [List.mem_cons, List.not_mem_nil, or_false] at hn
  simp only [List.forall_mem_cons, List.not_mem_nil, false_imp_iff, implies_true, and_true, dormantFailing_one, dormantFailing_two,
    dormantFailing_three, dormantFailing_four] at hbefore
  obtain ⟨h1, h2, h3, h4, -⟩ := hbefore
  unfold dormantFails
  obtain rfl | rfl | rfl | rfl | rfl := hn
  · rw [if_pos ((dormantFailing_one p).mp hfails)]
  · rw [if_neg (h1 (by decide)), if_pos ((dormantFailing_two p).mp hfails)]
  · rw [if_neg (h1 (by decide)), if_neg (h2 (by decide)), if_pos ((dormantFailing_three p).mp hfails)]
  · rw [if_neg (h1 (by decide)), if_neg (h2 (by decide)), if_neg (h3 (by decide)), if_pos ((dormantFailing_four p).mp hfails)]
  · rw [if_neg (h1 (by decide)), if_neg (h2 (by decide)), if_neg (h3 (by decide)), if_neg (h4 (by decide)),
      if_pos ((dormantFailing_five p).mp hfails)]

theorem dormantFails_none {p : Part} (h : ∀ n ∈ [1, 2, 3, 4, 5], ¬ dormantFailing p n) : dormantFails p = none := by
  simp only [List.forall_mem_cons, List.not_mem_nil, false_imp_iff, implies_true, and_true, dormantFailing_one, dormantFailing_two,
    dormantFailing_three, dormantFailing_four, dormantFailing_five] at h
  obtain ⟨h1, h2, h3, h4, h5⟩ := h
  simp only [dormantFails, h1, h2, h3, h4, h5, if_false, Bool.false_eq_true]

/-! ### LINE_DORMANT: the entry into DORMANT from UP with no call and no transfer -/

theorem enterCall_slots {v : VoiceNo} {st : CallState} {p : Part} (h : (callSlot p v).order = none) :
    (enterCall v st p).window.slots = p.window.slots := by
  simp only [enterCall, h]
  split <;> rfl

theorem callLineDown_windowKept {tr : Option Nat} {v : VoiceNo} {p : Part} (h : (callSlot p v).order = none) :
    WindowKept p (callLineDown tr v p) := by
  obtain ⟨-, -, -, -, -, -, -, -, -, -, -, -, -, hport⟩ := callLineDown_kept tr v p
  refine ⟨?_, hport⟩
  unfold callLineDown
  dsimp only
  set q := modCall v (fun c => { c with seizeTaken := false, answerTaken := false, goodSinceUp := 0 }) p with hq
  have hnone : (callSlot q v).order = none := by rw [hq, callSlot_modCall_same]; exact h
  have hanswered (r : Result) (d : Nat) : (answerCall v r d q).window.slots = p.window.slots := by
    simp only [answerCall, hnone]; rfl
  split
  · rfl
  · exact enterCall_slots hnone
  · exact enterCall_slots hnone
  · exact (enterCall_slots (by rw [answerCall_slot])).trans (hanswered _ _)

theorem linesDown_windowKept {tr : Option Nat} {p : Part} (hidle : p.messages.transmitter = .idle)
    (hcalls : ∀ v : VoiceNo, (callSlot p v).order = none) : WindowKept p (linesDown tr p) := by
  have hmessages : messagesLineDown p = modMsg (fun m =>
      { discardAssembly m with transmitter := .idle, refusals := 0, lastOffer := none, acceptNext := false }) p := by
    simp only [messagesLineDown, hidle]
  have hslot (v : VoiceNo) : callSlot (messagesLineDown p) v = callSlot p v := by rw [hmessages]; rfl
  have first : WindowKept p (messagesLineDown p) := by rw [hmessages]; exact .of_eq rfl
  have second := callLineDown_windowKept (tr := tr) (v := 0) (p := messagesLineDown p) (by rw [hslot]; exact hcalls 0)
  have third := callLineDown_windowKept (tr := tr) (v := 1) (p := callLineDown tr 0 (messagesLineDown p))
    (by rw [callLineDown_ne (by decide), hslot]; exact hcalls 1)
  exact (first.trans second).trans third

/-- Outside a running mode a departure from UP disturbs nothing at the Supervisor (R134). -/
theorem supLineChange_undisturbed {p : Part} (h : p.line.state ≠ .up) (hmode : p.sup.mode.isRunning = false) :
    Undisturbed p (supLineChange true p) := by
  have hup : (p.line.state == .up) = false := by simpa using h
  have capped : Undisturbed p (setLinkCap true p) := setCaps_undisturbed _ p
  have hgrace : startGrace (setLinkCap true p) = setLinkCap true p := by
    have hstays : (setLinkCap true p).sup.mode = p.sup.mode := capped.2.2.2.1
    simp only [startGrace, hstays, hmode, Bool.false_eq_true, if_false]
  have hline : (setLinkCap true p).line = p.line := by simp
  have ended := refreshSummitStops_undisturbed (p := setLinkCap true p) (by rw [hline]; exact h)
  simp only [supLineChange, hup, Bool.not_false, Bool.and_self, if_true, hgrace]
  exact capped.trans ended

/-- The entry into DORMANT in OFF: no judgement is called for, and no order slot but that of the order is touched. -/
theorem enterDormant_off {p : Part} (hmode : p.sup.mode = .off) (hidle : p.messages.transmitter = .idle)
    (hcalls : ∀ v : VoiceNo, (callSlot p v).order = none) (hstate : p.line.state ≠ .dormant) :
    WindowKept p (enterDormant p) ∧ (enterDormant p).work = p.work ∧ (enterDormant p).window.attention.getLsbD 7 = true ∧
      (p.line.state = .up → ∀ v : VoiceNo, (callSlot (enterDormant p) v).state = .unavailable) := by
  set p' := modLine stopFrames p with hp'
  have hdrawn : (enterDormant p).window = (changeLine .dormant 0 p').window ∧ (enterDormant p).work = (changeLine .dormant 0 p').work ∧
      (enterDormant p).calls = (changeLine .dormant 0 p').calls := ⟨rfl, rfl, rfl⟩
  obtain ⟨hwindow, hwork, hcall⟩ := hdrawn
  rw [hwork, hwindow]
  have hkeeps : WindowKept p (enterDormant p) ↔ WindowKept p' (changeLine .dormant 0 p') := by
    simp only [WindowKept, PortKept, hwindow]; rfl
  rw [hkeeps]
  by_cases hup : p'.line.state = .up
  · obtain ⟨-, hunavailable, -, hset⟩ := changeLine_from_up (st := .dormant) (r := 0) hup (by decide)
    set q := attend .line (modLine (fun l => { l with state := .dormant, rate := 0 }) p') with hq
    have hqstate : q.line.state = .dormant := rfl
    obtain ⟨tr, hhand, hline⟩ := handLine_departs (p := q) (by rw [hqstate]; decide)
    have hwhole : changeLine .dormant 0 p' = supLineChange true (linesDown tr q) := by
      rw [changeLine_moves (by rw [hup]; decide), hup, ← hhand]; rfl
    have hsup : (linesDown tr q).sup = p.sup := by simp [linesDown, hq, hp', modLine]
    obtain ⟨hkept, -, hcalled, -, -⟩ := supLineChange_undisturbed (p := linesDown tr q) (by rw [hline, hqstate]; decide)
      (by rw [hsup, hmode]; decide)
    have hdown : WindowKept q (linesDown tr q) := linesDown_windowKept hidle hcalls
    obtain ⟨-, -, -, -, -, -, -, -, -, -, hslots, -, -, hport⟩ := hkept
    refine ⟨?_, ?_, hset, fun _ v => ?_⟩
    · rw [hwhole]
      exact (WindowKept.trans (p := p') (q := q) (by simp [WindowKept, PortKept, hq, modLine]) hdown).trans ⟨hslots, hport⟩
    · rw [hwhole, hcalled]; simp [linesDown, hq, hp', modLine]
    · rw [callSlot_of_calls_eq hcall]; exact hunavailable v
  · obtain ⟨rested, hset⟩ := changeLine_rest (st := .dormant) (r := 0) (p := p') hstate hup (by decide)
    obtain ⟨-, -, -, -, -, -, -, -, -, -, hworked, hport, -, -⟩ := rested
    exact ⟨hport, hworked, hset, fun h => absurd h hup⟩

theorem enterDormant_line (p : Part) : (enterDormant p).line = { stopFrames p.line with
    state := .dormant, rate := 0, draws := p.line.draws + 1
    sleepDue := some (p.clock.now + ms (drawInterval { stopFrames p.line with state := .dormant, rate := 0 })) } := by
  have hclock : (changeLine .dormant 0 (modLine stopFrames p)).clock = p.clock := by simp [modLine]
  simp only [enterDormant, drawSleep, modLine, changeLine_line]
  simp only [modLine] at hclock
  rw [hclock]
  rfl

/-- The interval drawn lies within an eighth of the configured one (R157). -/
theorem drawInterval_bounds {l : Line} (h : l.config.sleepSeconds ∈ [1, 2, 4, 8]) :
    7 * (1000 * l.config.sleepSeconds) ≤ 8 * drawInterval l ∧ 8 * drawInterval l ≤ 9 * (1000 * l.config.sleepSeconds) := by
  have hdrawn : Config.sleepDraw l.draws % (2 * (1000 * l.config.sleepSeconds / 8) + 1) < 2 * (1000 * l.config.sleepSeconds / 8) + 1 :=
    Nat.mod_lt _ (by omega)
  simp only [List.mem_cons, List.not_mem_nil, or_false] at h
  unfold drawInterval
  dsimp only
  omega

section
variable {i : SlotNo} {s : State} (hnext : OrderNext i 0x53 s) (hgood : ∀ n ∈ [1, 2, 3, 4, 5], ¬ dormantFailing s.part n)
include hnext hgood

theorem lineDormant_enters (hstate : s.part.line.state ≠ .dormant) (hcalls : ∀ v : VoiceNo, (callSlot s.part v).order = none) :
    ∃ t, execLineDormant i s = .next t ∧ Answers i .ok 0 s t ∧ t.part.line = (enterDormant s.part).line ∧
      t.part.window.attention.getLsbD 7 = true ∧
      (∀ v : VoiceNo, s.part.line.state = .up → (callSlot t.part v).state = .unavailable) ∧
      t.part.track = s.part.track ∧ t.part.sensors = s.part.sensors ∧ t.part.clock = s.part.clock := by
  have hmode : s.part.sup.mode = .off := by
    by_contra h
    exact hgood 1 (by decide) (.inl ⟨rfl, h⟩)
  have hidle : s.part.messages.transmitter = .idle := by
    by_contra h
    exact hgood 3 (by decide) (.inr (.inr (.inl ⟨rfl, .inl h⟩)))
  have hrest : (s.part.line.state == .dormant) = false := by simpa using hstate
  have hbody : orderLineDormant (slotOf s.part i) (takeHead i s.part) = ok (enterDormant (takeHead i s.part)) := by
    have hnone : dormantFails (takeHead i s.part) = none := dormantFails_none hgood
    have hline : ((takeHead i s.part).line.state == .dormant) = false := hrest
    simp only [orderLineDormant, hnone, hline, Bool.false_eq_true, if_false]
  obtain ⟨hwindow, hwork, hset, hunavailable⟩ := enterDormant_off (p := takeHead i s.part) hmode hidle hcalls hstate
  have hline := enterDormant_line (takeHead i s.part)
  obtain ⟨hclock, -, htrack, hsensors, -⟩ := enterDormant_kept (takeHead i s.part)
  have hquiet : (enterDormant (takeHead i s.part)).work = {} := hwork.trans hnext.1.2.1
  generalize enterDormant (takeHead i s.part) = q at *
  obtain ⟨hready, hhead, hkind⟩ := hnext
  have hsettle : settle 64 (answer i .ok 0 q) = answer i .ok 0 q := settle_of_quiet hquiet
  obtain ⟨hanswers, -⟩ := answers_finish (i := i) (r := .ok) (d := 0) (s := s) hwindow (.of_eq (by rw [hsettle]))
    (by rw [hsettle]; simp [answer, Attn.bit])
  refine ⟨_, atOnce_acts hready.1 hhead hkind, ?_⟩
  rw [hbody]
  dsimp only [ok]
  refine ⟨hanswers, ?_, ?_, fun v hup => ?_, ?_, ?_, ?_⟩
  · rw [finish_line, hsettle, answer_line, hline, enterDormant_line]; rfl
  · rw [finish_window, hsettle]; simp [answer, hset]
  · rw [callSlot_finish, hsettle, callSlot_answer]; exact hunavailable hup v
  · rw [finish_track, hsettle, answer_track]; exact htrack
  · rw [finish_sensors, hsettle, answer_sensors]; exact hsensors
  · rw [finish_clock, hsettle, answer_clock]; exact hclock

end

/-- Settles O33. -/
theorem lineProbeAndDormant : Obligations.LineProbeAndDormant := by
  intro i s
  refine ⟨fun hnext => ⟨fun h => longRunning_refuses hnext (orderLineProbe_state h), fun h hbusy =>
    longRunning_refuses hnext (orderLineProbe_busy h ((lineBusy_iff _).mpr hbusy)), fun h hstart hprobe =>
    lineProbe_probes hnext h hstart hprobe⟩, fun hnext => ⟨fun n hn hfails hbefore => ?_, fun hgood => ⟨fun hstate => ?_,
    fun hstate hsleep hcalls => ?_⟩⟩⟩
  · have hfirst : dormantFails (takeHead i s.part) = some n := dormantFails_first (p := takeHead i s.part) hn hfails hbefore
    exact atOnce_refuses hnext (by simp only [orderLineDormant, hfirst])
  · have hnone : dormantFails (takeHead i s.part) = none := dormantFails_none hgood
    exact atOnce_refuses hnext (by simp [orderLineDormant, hnone, hstate, refuse, ok])
  · obtain ⟨t, hrun, hanswers, hline, hset, hunavailable, hrest⟩ := lineDormant_enters hnext hgood hstate hcalls
    obtain ⟨hlo, hhi⟩ := drawInterval_bounds (l := { stopFrames s.part.line with state := .dormant, rate := 0 }) hsleep
    rw [enterDormant_line] at hline
    refine ⟨t, hrun, hanswers, ?_, ?_, ?_, ?_, ?_, ?_, ?_, ?_, hset, hunavailable, ⟨_, by rw [hline], hlo, hhi⟩, hrest⟩
    all_goals simp only [hline, stopFrames, stopLine]

end Sys2Proof.Machine

/-! CALL_PLACE, CALL_CLEAR and CALL_CONFIGURE (R177, R181, R183 to R185). -/

namespace Sys2Proof.Machine

/-! ### CALL_PLACE -/

theorem readVoice_none {n : Nat} (h : 1 < n) : readVoice n = none := by
  simp [readVoice]; omega

section
variable {i : SlotNo} {x : Slot} {p : Part} {v : VoiceNo} (hv : readVoice (octet x 0) = some v)
include hv

theorem orderCallPlace_busy (h : (callSlot p v).state ≠ .idle ∨ (callSlot p v).freeRun ≠ 2) :
    orderCallPlace i x p = answer i .busy 0 p := by
  have hbusy : ((callSlot p v).state != .idle || !seizeAllowed (callSlot p v)) = true := by simpa [seizeAllowed] using h
  simp only [orderCallPlace, hv, hbusy, if_true]

theorem orderCallPlace_places (hstate : (callSlot p v).state = .idle) (hfree : (callSlot p v).freeRun = 2) :
    orderCallPlace i x p = originate v .order (some i) p := by
  simp [orderCallPlace, hv, hstate, seizeAllowed, hfree]

end

theorem modTable_modTable {α : Type} {n : Nat} (t : Vector α n) (i : Fin n) (f g : α → α) :
    modTable (modTable t i g) i f = modTable t i (fun x => f (g x)) := by
  ext j hj
  have at_ (t : Vector α n) : t[j] = t.get ⟨j, hj⟩ := (vector_get_eq t ⟨j, hj⟩).symm
  rw [at_, at_]
  by_cases h : (⟨j, hj⟩ : Fin n) = i
  · subst h; simp only [modTable_get_same]
  · rw [modTable_get_ne _ _ _ _ h, modTable_get_ne _ _ _ _ h, modTable_get_ne _ _ _ _ h]

/-- A call originated by an order from IDLE: CALL is set, and the order's progress shows the state. -/
theorem originate_order_eq {v : VoiceNo} {i : SlotNo} {p : Part} (h : (callSlot p v).state = .idle) :
    originate v .order (some i) p =
      setProgress i 2 (attend .call (modCall v (seizingSlot .order (some i) (p.clock.now + ms (1000 * p.calls.limit))) p)) := by
  have hmod (f g : CallSlot → CallSlot) : modCall v f (modCall v g p) = modCall v (fun c => f (g c)) p := by
    simp only [modCall, modTable_modTable]
  simp only [originate, enterCall, callSlot_modCall_same, h, hmod]
  rfl

/-! ### The call machines at the end of an event -/

/-- A call machine whose tone follows already is left by the end of an event (R174). -/
theorem callSlot_finish_same {p : Part} {v : VoiceNo} (h : (callSlot (settle 64 p) v).tone = toneFor (callSlot (settle 64 p) v)) :
    callSlot (finish p) v = callSlot (settle 64 p) v := by
  have pins (q : Part) : callSlot (refreshPins q) v = callSlot q v := rfl
  have worked : callSlot { settle 64 p with work := {} } v = callSlot (settle 64 p) v := rfl
  rw [← worked] at h
  rw [finish, pins]
  match v with
  | 0 => rw [refreshTone_other 1 0 _ (by decide), refreshTone_same 0 _ h, worked]
  | 1 => rw [refreshTone_same 1 _ (by rw [refreshTone_other 0 1 _ (by decide)]; exact h), refreshTone_other 0 1 _ (by decide), worked]

theorem refreshTone_calls (v : VoiceNo) (p : Part) :
    (refreshTone v p).calls = { p.calls with slots := (refreshTone v p).calls.slots } := by
  unfold refreshTone
  dsimp only
  split <;> rfl

theorem finish_calls_slots (p : Part) : (finish p).calls = { (settle 64 p).calls with slots := (finish p).calls.slots } := by
  have pins (q : Part) : (refreshPins q).calls = q.calls := rfl
  rw [finish, pins, refreshTone_calls 1, refreshTone_calls 0]

theorem callPlace_places {i : SlotNo} {s : State} {v : VoiceNo} (hnext : LongOrderNext i 0x70 s) (hv : readVoice (param i s 0) = some v)
    (hstate : (callSlot s.part v).state = .idle) (hfree : (callSlot s.part v).freeRun = 2) :
    ∃ t, execCallPlace i s = .next t ∧ Holds i s t ∧ (slotOf t.part i).progress = 2 ∧ WindowFrame i s t ∧
      t.part.window.attention = s.part.window.attention ||| 0x0400 ∧ Frame [.window, .calls] s t ∧
      (∃ tone since, callSlot t.part v = { seizingSlot .order (some i) (s.part.clock.now + ms (1000 * s.part.calls.limit))
        (callSlot s.part v) with tone := tone, toneSince := since }) ∧
      (∀ u, u ≠ v → callSlot t.part u = callSlot s.part u) ∧ t.part.calls.limit = s.part.calls.limit := by
  have hbody := orderCallPlace_places (i := i) (p := takeHead i s.part) hv hstate hfree
  obtain ⟨⟨hready, hhead, hkind⟩, hroom⟩ := hnext
  refine ⟨_, longRunning_acts hready.1 hhead hkind hroom, ?_⟩
  rw [hbody, originate_order_eq (p := takeHead i s.part) hstate, takeHead_clock, takeHead_calls]
  dsimp only
  set f := seizingSlot .order (some i) (s.part.clock.now + ms (1000 * s.part.calls.limit)) with hf
  set q := setProgress i 2 (attend .call (modCall v f (takeHead i s.part))) with hq
  have hquiet : settle 64 q = q := settle_of_quiet hready.2.1
  have hslot (j : SlotNo) : slotOf (attend .call (modCall v f (takeHead i s.part))) j = slotOf (takeHead i s.part) j := rfl
  obtain ⟨hholds, hprogress, hwindow, hattention⟩ := holds_finish (i := i) (n := 2) (a := s.part.window.attention ||| 0x0400) (s := s)
    (q := q) hready.2.1 (by rw [hq, slotOf_setProgress_same, hslot, slotOf_takeHead_same]; rfl)
    (fun j hj => by rw [hq, slotOf_setProgress_ne _ _ _ _ hj, hslot, slotOf_takeHead_ne _ _ _ hj])
    (by simp [hq, modCall, takeHead, setProgress, modSlot, attend, Attn.bit])
  have hcall (u : VoiceNo) : callSlot q u = callSlot (modCall v f s.part) u := rfl
  have hown : callSlot (finish q) v = { f (callSlot s.part v) with
      tone := toneFor (f (callSlot s.part v)), toneSince := (callSlot (finish q) v).toneSince } :=
    (callSlot_finish q v).trans (by rw [hquiet, hcall, callSlot_modCall_same])
  refine ⟨hholds, hprogress, hwindow, hattention, ?_, ⟨_, _, hown⟩, fun u hu => ?_, ?_⟩
  · refine frame_finish hready fun b _ hb => ?_
    rw [hquiet]
    cases b with
    | window => simp at hb
    | calls => simp at hb
    | _ => rfl
  · have hother : callSlot q u = callSlot s.part u := by rw [hcall, callSlot_modCall_ne _ _ _ _ hu]
    rw [callSlot_finish_same (by rw [hquiet, hother]; exact hready.2.2.2 u), hquiet, hother]
  · rw [finish_calls_slots, hquiet]; rfl

/-! ### CALL_CONFIGURE -/

theorem callConfigure_configures {i : SlotNo} {s : State} (hnext : OrderNext i 0x72 s) :
    ∃ t, execCallConfigure i s = .next t ∧
      (let n := max 10 (min 180 (param16 i s 0))
       AnswersOnly i (if n = param16 i s 0 then .ok else .clamped) (if n = param16 i s 0 then 0 else 1) 0 s t ∧
       Frame [.window, .calls] s t ∧ t.part.calls = { s.part.calls with limit := n }) := by
  have hclamp : clampNat 10 180 (param16 i s 0) = max 10 (min 180 (param16 i s 0)) := by
    unfold clampNat; grind
  dsimp only
  rw [← hclamp]
  set n := clampNat 10 180 (param16 i s 0) with hn
  set q : Part := { takeHead i s.part with calls := { s.part.calls with limit := n } } with hq
  have hquiet : q.work = {} := hnext.1.2.1
  have hbody : orderCallConfigure (slotOf s.part i) (takeHead i s.part) = clampedBy (if n = param16 i s 0 then 0 else 1) q := by
    simp only [orderCallConfigure, beq_iff_eq]
    rfl
  rw [clampedBy_eq] at hbody
  obtain ⟨t, hrun, hanswers, hframe, ht⟩ := atOnce_quiet (bits := 0) (changed := [.calls]) hnext hbody hquiet
    (by simp [hq, takeHead]) (fun b hb hc => by
      cases b with
      | window => exact absurd rfl hb
      | calls => simp at hc
      | _ => rfl)
  have hsettle : ∀ r d, settle 64 (answer i r d q) = answer i r d q := fun r d => settle_of_quiet hquiet
  refine ⟨t, hrun, ?_, hframe, ?_⟩
  · by_cases h : n = param16 i s 0
    · simpa only [h, if_true] using hanswers
    · simpa only [h, if_false, Nat.one_ne_zero] using hanswers
  · rw [ht, finish_calls (by rw [hsettle]; exact hnext.1.2.2.2), hsettle]
    rfl

/-! ### CALL_CLEAR -/

section
variable {x : Slot} {p : Part} {v : VoiceNo} (hv : readVoice (octet x 0) = some v)
include hv

theorem orderCallClear_state (h : (callSlot p v).state ∈ [CallState.idle, .unavailable]) :
    orderCallClear x p = refuse .refusedState 0 p := by
  have hnone : hasCall (callSlot p v) = false := by
    revert h; unfold hasCall; cases (callSlot p v).state <;> decide
  simp only [orderCallClear, hv, hnone, Bool.not_false, if_true]

theorem orderCallClear_clears (h : (callSlot p v).state ∉ [CallState.idle, .unavailable]) :
    orderCallClear x p = { result := .ok, detail := (callSlot (clearCall v p) v).state.code, part := clearCall v p } := by
  have hcall : hasCall (callSlot p v) = true := by
    revert h; unfold hasCall; cases (callSlot p v).state <;> decide
  simp only [orderCallClear, hv, hcall, Bool.not_true, Bool.false_eq_true, if_false]
  rfl

end

theorem clearCall_call {v : VoiceNo} {p : Part} (h : (callSlot p v).state ≠ .clearing) :
    clearCall v p = answerCall v .superseded 0 (clearByValley v .orderClear p) := by
  simp [clearCall, h]

theorem clearCall_summit {v : VoiceNo} {p : Part} (h : (callSlot p v).state = .clearing) (hsummit : (callSlot p v).clearedBySummit = true) :
    clearCall v p = callToIdle v p := by
  simp [clearCall, h, hsummit]

theorem clearCall_valley {v : VoiceNo} {p : Part} (h : (callSlot p v).state = .clearing) (hvalley : (callSlot p v).clearedBySummit = false) :
    clearCall v p = p := by
  simp [clearCall, h, hvalley]

/-! ### What the clearing of a call leaves of the order slots -/

theorem enterCall_slotOf_ne {v : VoiceNo} {k : SlotNo} {p : Part} (st : CallState) (h : (callSlot p v).order ≠ some k) :
    slotOf (enterCall v st p) k = slotOf p k := by
  have hattended : slotOf (if (callSlot p v).state == st then modCall v (fun c => { c with state := st }) p
      else attend .call (modCall v (fun c => { c with state := st }) p)) k = slotOf p k := by
    split <;> rfl
  unfold enterCall
  dsimp only
  split
  · exact hattended
  next i hi => rw [slotOf_setProgress_ne _ _ _ _ (fun hk => h (by rw [hi, hk]))]; exact hattended

theorem answerCall_slotOf_ne {v : VoiceNo} {k : SlotNo} {p : Part} (r : Result) (d : Nat) (h : (callSlot p v).order ≠ some k) :
    slotOf (answerCall v r d p) k = slotOf p k := by
  have hmod (q : Part) (f : CallSlot → CallSlot) : slotOf (modCall v f q) k = slotOf q k := rfl
  rw [answerCall, hmod]
  cases hi : (callSlot p v).order with
  | none => rfl
  | some i => exact slotOf_answer_ne _ _ _ _ _ fun hk => h (by rw [hi, hk])

theorem answerCall_slotOf_same {v : VoiceNo} {k : SlotNo} {p : Part} (r : Result) (d : Nat) (h : (callSlot p v).order = some k) :
    slotOf (answerCall v r d p) k = { slotOf p k with state := .done, result := asOctet r.code, detail := asOctet d } := by
  have hmod (q : Part) (f : CallSlot → CallSlot) : slotOf (modCall v f q) k = slotOf q k := rfl
  rw [answerCall, hmod, h]
  exact slotOf_answer_same k r d p

theorem callToIdle_slotOf_ne {v : VoiceNo} {k : SlotNo} {p : Part} (h : (callSlot p v).order ≠ some k) :
    slotOf (callToIdle v p) k = slotOf p k := enterCall_slotOf_ne .idle h

theorem clearByValley_slotOf_ne {v : VoiceNo} {k : SlotNo} {p : Part} (why : ClearReason) (h : (callSlot p v).order ≠ some k) :
    slotOf (clearByValley v why p) k = slotOf p k := by
  set q := modCall v (fun c => { c with
    reason := why, clearedBySummit := false, noAnswer := none, guardEnds := some (p.clock.now + ms 2000) }) p with hq
  have horder : (callSlot q v).order ≠ some k := by rw [hq, callSlot_modCall_same]; exact h
  have begun : slotOf (stopRinging v (enterCall v .clearing q)) k = slotOf p k := enterCall_slotOf_ne .clearing horder
  unfold clearByValley
  dsimp only
  split
  · exact begun
  · rw [callToIdle_slotOf_ne (by rw [stopRinging_slot, enterCall_slot]; exact horder)]
    exact begun

/-- An order answered by a block that may answer other orders too, but not this one. -/
theorem answers_quiet {i : SlotNo} {r : Result} {d : Nat} {s : State} {q : Part} (hwork : q.work = {})
    (hslot : slotOf q i = slotOf (takeHead i s.part) i) (hintake : q.window.intake = s.part.window.intake.tail) :
    Answers i r d s { s with part := finish (answer i r d q) } := by
  have hsettle : settle 64 (answer i r d q) = answer i r d q := settle_of_quiet hwork
  refine ⟨?_, ?_, ?_⟩
  · rw [slotOf_finish, hsettle, slotOf_answer_same, hslot, slotOf_takeHead_same]
  · rw [finish_window, hsettle]; exact hintake
  · rw [finish_window, hsettle]; simp [answer, Attn.bit]

theorem clearCall_slotOf_ne {v : VoiceNo} {k : SlotNo} {p : Part} (h : (callSlot p v).order ≠ some k) :
    slotOf (clearCall v p) k = slotOf p k := by
  unfold clearCall
  split
  · split
    · exact callToIdle_slotOf_ne h
    · rfl
  · have horder : (callSlot (clearByValley v .orderClear p) v).order = (callSlot p v).order := by
      rw [clearByValley_slot]
      split <;> rfl
    rw [answerCall_slotOf_ne _ _ (by rw [horder]; exact h), clearByValley_slotOf_ne _ h]

theorem clearCall_ne {v u : VoiceNo} (h : u ≠ v) (p : Part) : callSlot (clearCall v p) u = callSlot p u := by
  unfold clearCall
  (repeat' split) <;> simp [h]

theorem clearCall_kept (v : VoiceNo) (p : Part) : CallKeeps p (clearCall v p) := by
  simp only [CallKeeps, PortKept, clearCall]
  (repeat' split) <;> simp

theorem callClear_clears {i : SlotNo} {s : State} {v : VoiceNo} (hnext : OrderNext i 0x71 s) (hv : readVoice (param i s 0) = some v)
    (hstate : (callSlot s.part v).state ∉ [CallState.idle, .unavailable]) (horder : (callSlot s.part v).order ≠ some i) :
    ∃ t q, execCallClear i s = .next t ∧ q = clearCall v (takeHead i s.part) ∧
      Answers i .ok (callSlot q v).state.code s t ∧ Frame [.window, .calls] s t ∧
      (∃ tone since, callSlot t.part v = { callSlot q v with tone := tone, toneSince := since }) ∧
      (∀ u, u ≠ v → callSlot t.part u = callSlot s.part u) ∧ (∀ j, j ≠ i → slotOf t.part j = slotOf q j) ∧
      (q.calls = s.part.calls → t.part.calls = s.part.calls) := by
  set p := takeHead i s.part with hp
  have hbody := orderCallClear_clears (p := p) hv hstate
  obtain ⟨hclock, htrack, hcabins, hrope, hsensors, hgrip, hlaunch, hdoors, hsequencer, hsup, hline, hmessages, hwork, hport⟩ := clearCall_kept v p
  have hown : slotOf (clearCall v p) i = slotOf p i := clearCall_slotOf_ne horder
  have hothers (u : VoiceNo) (hu : u ≠ v) : callSlot (clearCall v p) u = callSlot s.part u := clearCall_ne hu p
  obtain ⟨hintake, -⟩ := hport
  generalize hq : clearCall v p = q at *
  obtain ⟨hready, hhead, hkind⟩ := hnext
  have hquiet : q.work = {} := hwork.trans hready.2.1
  have hsettle (r : Result) (d : Nat) : settle 64 (answer i r d q) = answer i r d q := settle_of_quiet hquiet
  refine ⟨_, q, atOnce_acts hready.1 hhead hkind, rfl, ?_⟩
  rw [hbody]
  dsimp only
  set d := (callSlot q v).state.code with hd
  refine ⟨answers_quiet hquiet hown hintake, frame_finish hready fun b _ hb => ?_, ?_, fun u hu => ?_, fun j hj => ?_, fun hcalls => ?_⟩
  · rw [hsettle]
    cases b with
    | window => simp at hb
    | calls => simp at hb
    | _ => assumption
  · have htone := callSlot_finish (answer i .ok d q) v
    rw [hsettle, callSlot_answer] at htone
    exact ⟨_, _, htone⟩
  · rw [callSlot_finish_same (by rw [hsettle, callSlot_answer, hothers u hu]; exact hready.2.2.2 u), hsettle, callSlot_answer, hothers u hu]
  · rw [slotOf_finish, hsettle, slotOf_answer_ne _ _ _ _ _ hj]
  · rw [finish_calls (fun u => by
      rw [hsettle, callSlot_answer, callSlot_of_calls_eq hcalls]; exact hready.2.2.2 u), hsettle]
    exact hcalls

/-- Settles O35. -/
theorem callOrders : Obligations.CallOrders := by
  refine ⟨fun i s => ⟨fun hnext => ⟨fun h => ?_, fun v hv => ⟨fun hbusy => ?_, fun hstate hfree => ?_⟩⟩, callConfigure_configures⟩,
    fun i s hnext => ⟨fun h => ?_, fun v hv => ⟨fun hstate => ?_, fun hstate horder => ?_, fun hstate horder => ?_⟩⟩⟩
  · exact longRunning_refuses hnext (by simp only [orderCallPlace, readVoice_none h])
  · exact longRunning_refuses hnext (orderCallPlace_busy (p := takeHead i s.part) hv hbusy)
  · obtain ⟨t, hrun, hholds, hprogress, hwindow, hattention, hframe, ⟨tone, since, hown⟩, hothers, hlimit⟩ :=
      callPlace_places hnext hv hstate hfree
    refine ⟨t, hrun, hholds, hprogress, hwindow, hattention, hframe, ?_, ?_, ?_, ?_, ?_, ?_, ?_, ?_, ?_, hothers, hlimit⟩
    all_goals simp only [hown, seizingSlot, CallSlot.ownSeize]
    rfl
  · exact atOnce_refuses hnext (by simp only [orderCallClear, readVoice_none h])
  · exact atOnce_refuses hnext (orderCallClear_state (p := takeHead i s.part) hv hstate)
  · have hne : (callSlot s.part v).state ∉ [CallState.idle, .unavailable] := by
      revert hstate; cases (callSlot s.part v).state <;> decide
    obtain ⟨t, q, hrun, hq, hanswers, hframe, ⟨tone, since, hown⟩, hothers, hslots, -⟩ := callClear_clears hnext hv hne horder
    have hcalling : (callSlot (takeHead i s.part) v).state ≠ .clearing := by
      show (callSlot s.part v).state ≠ .clearing
      revert hstate; cases (callSlot s.part v).state <;> decide
    rw [clearCall_call hcalling] at hq
    have hslot : callSlot q v = { callSlot (clearByValley v .orderClear (takeHead i s.part)) v with order := none } := by
      rw [hq, answerCall_slot]
    have howner : ∀ j, (callSlot s.part v).order = some j →
        (callSlot (clearByValley v .orderClear (takeHead i s.part)) v).order = some j := fun j hj => by
      rw [clearByValley_slot]; split <;> exact hj
    have hstart : callSlot (takeHead i s.part) v = callSlot s.part v := rfl
    rw [clearByValley_slot, hstart] at hslot
    have hdone : ∀ j, (callSlot s.part v).order = some j →
        (slotOf t.part j).state = .done ∧ (slotOf t.part j).result = asOctet Result.superseded.code := fun j hj => by
      rw [hslots j (fun h => horder (by rw [hj, h])), hq, answerCall_slotOf_same _ _ (howner j hj)]
      exact ⟨rfl, rfl⟩
    have hstateKept : (callSlot t.part v).state = (callSlot q v).state := by rw [hown]
    rw [← hstateKept] at hanswers
    cases hawaited : awaitedStands (callSlot s.part v) with
    | true =>
      rw [hawaited, if_pos rfl] at hslot
      refine ⟨t, hrun, hanswers, hframe, ?_, ?_, ?_, ?_, ?_, ?_, ?_, fun _ => ?_, nofun, hdone, hothers⟩
      all_goals simp [hown, hslot, clearingSlot, CallSlot.ownSeize, CallSlot.ownAnswer]
    | false =>
      rw [hawaited, if_neg (by decide)] at hslot
      refine ⟨t, hrun, hanswers, hframe, ?_, ?_, ?_, ?_, ?_, ?_, ?_, nofun, fun _ => ?_, hdone, hothers⟩
      all_goals simp [hown, hslot, idleSlot, clearingSlot, CallSlot.ownSeize, CallSlot.ownAnswer]
  · have hne : (callSlot s.part v).state ∉ [CallState.idle, .unavailable] := by rw [hstate]; decide
    obtain ⟨t, q, hrun, hq, hanswers, hframe, ⟨tone, since, hown⟩, -, -, hcalls⟩ := callClear_clears hnext hv hne (by rw [horder]; nofun)
    cases hsummit : (callSlot s.part v).clearedBySummit with
    | true =>
      rw [clearCall_summit (p := takeHead i s.part) hstate hsummit] at hq
      rw [hq, callToIdle_slot] at hanswers hown
      exact ⟨t, hrun, hanswers, hframe, nofun, fun _ => by rw [hown]; exact ⟨rfl, rfl⟩⟩
    | false =>
      rw [clearCall_valley (p := takeHead i s.part) hstate hsummit] at hq
      rw [hq] at hanswers hcalls
      refine ⟨t, hrun, ?_, hframe, fun _ => hcalls rfl, nofun⟩
      have hcode : (callSlot (takeHead i s.part) v).state = .clearing := hstate
      rwa [hcode] at hanswers

end Sys2Proof.Machine

/-! The octets of a line frame (section 8.1). -/

namespace Sys2Proof.Machine

/-- The two octets of a half-word, put together again. -/
theorem bigEndian_join (h : Half) : (h.extractLsb' 8 8 ++ h.extractLsb' 0 8 : Half) = h := by
  ext i hi
  simp only [BitVec.getElem_append, BitVec.getElem_extractLsb']
  split
  · rw [Nat.zero_add, BitVec.getLsbD_eq_getElem hi]
  · rw [show 8 + (i - 8) = i by omega, BitVec.getLsbD_eq_getElem hi]

theorem readBig_append (l : List Byte) (h : Half) : readBig (l ++ bigEndian h) l.length = h := by
  simp [readBig, bigEndian, bigEndian_join]

/-- The voice octets of a frame, of the slots that its rate carries. -/
def voiceOctets (f : FrameContent) : List Byte := (if 2 ≤ f.rate then f.voice0 else []) ++ (if f.rate == 3 then f.voice1 else [])

theorem length_voiceOctets {f : FrameContent} (h : FrameWellFormed f) : (voiceOctets f).length = 16 * (f.rate - 1) := by
  obtain ⟨-, hlo, hhi, -, -, h0, h1⟩ := h
  obtain hr | hr | hr : f.rate = 1 ∨ f.rate = 2 ∨ f.rate = 3 := by omega
  · simp [voiceOctets, hr]
  · simp [voiceOctets, hr, h0]
  · simp [voiceOctets, hr, h0, h1]

theorem frameBody_eq (f : FrameContent) : frameBody f =
    [controlOctet f, f.number, f.word.extractLsb' 8 8, f.word.extractLsb' 0 8, f.octet, f.pattern1, f.pattern2, f.priority,
      (BitVec.ofNat 16 f.errored).extractLsb' 8 8, (BitVec.ofNat 16 f.errored).extractLsb' 0 8] ++ voiceOctets f := by
  simp [frameBody, voiceOctets, bigEndian]

theorem length_frameBody {f : FrameContent} (h : FrameWellFormed f) : (frameBody f).length = 16 * f.rate - 6 := by
  have hrate := h.2.1
  rw [frameBody_eq, List.length_append, length_voiceOctets h]
  simp only [List.length_cons, List.length_nil]
  omega

/-- The fields of the control octet (section 8.1). -/
theorem controlOctet_toNat (f : FrameContent) : (controlOctet f).toNat =
    64 * (f.kind % 4) + 16 * (f.rate % 4) + 4 * (f.mark % 4) + (if f.offer then 2 else 0) + (if f.accept then 1 else 0) := by
  rw [controlOctet, BitVec.toNat_ofNat, Nat.mod_eq_of_lt]
  split <;> split <;> omega

/-- The octets of a frame after the sync, control octet first. -/
theorem frameOctets_eq (f : FrameContent) : frameOctets f =
    [0x4E, 0x1D, 0x37, 0xB2, controlOctet f, f.number, f.word.extractLsb' 8 8, f.word.extractLsb' 0 8, f.octet, f.pattern1, f.pattern2,
      f.priority, (BitVec.ofNat 16 f.errored).extractLsb' 8 8, (BitVec.ofNat 16 f.errored).extractLsb' 0 8] ++
      (voiceOctets f ++ bigEndian (checkOf (frameBody f))) := by
  simp [frameOctets, frameBody_eq, syncOctets]

/-- The voice octets of the slots read back (section 8.1). -/
theorem voice_frameOctets {f : FrameContent} (h : FrameWellFormed f) :
    (if 2 ≤ f.rate then ((frameOctets f).drop 14).take 16 else []) = f.voice0 ∧
      (if f.rate == 3 then ((frameOctets f).drop 30).take 16 else []) = f.voice1 := by
  obtain ⟨-, hlo, hhi, -, -, h0, h1⟩ := h
  have hdrop : (frameOctets f).drop 14 = voiceOctets f ++ bigEndian (checkOf (frameBody f)) := by
    rw [frameOctets_eq]; exact List.drop_left' rfl
  have hsecond : (frameOctets f).drop 30 = ((frameOctets f).drop 14).drop 16 := by rw [List.drop_drop]
  rw [hsecond, hdrop]
  obtain hr | hr | hr : f.rate = 1 ∨ f.rate = 2 ∨ f.rate = 3 := by omega
  · have e0 : f.voice0 = [] := by simpa [hr] using h0
    have e1 : f.voice1 = [] := by simpa [hr] using h1
    simp [hr, e0, e1]
  · have e0 : f.voice0.length = 16 := by simpa [hr] using h0
    have e1 : f.voice1 = [] := by simpa [hr] using h1
    simp [voiceOctets, hr, e1, List.take_left' e0]
  · have e0 : f.voice0.length = 16 := by simpa [hr] using h0
    have e1 : f.voice1.length = 16 := by simpa [hr] using h1
    simp [voiceOctets, hr, List.take_left' e0, List.drop_left' e0, List.take_left' e1]

theorem readFrame_frameOctets {f : FrameContent} (h : FrameWellFormed f) : readFrame f.rate (frameOctets f) = f := by
  obtain ⟨hv0, hv1⟩ := voice_frameOctets h
  obtain ⟨hkind, hlo, hhi, hmark, herrored, -, -⟩ := h
  have hcontrol := controlOctet_toNat f
  have hoctets := frameOctets_eq f
  simp only [readFrame, hv0, hv1]
  rw [hoctets]
  simp only [List.cons_append, List.nil_append, readBig, List.getD_cons_succ, List.getD_cons_zero, bigEndian_join, hcontrol]
  cases f with
  | mk kind rate mark offer accept number word octet p1 p2 prio errored v0 v1 =>
    simp only [FrameContent.mk.injEq, BitVec.toNat_ofNat, and_true, Nat.mod_eq_of_lt herrored] at *
    cases offer <;> cases accept <;> simp <;> omega

theorem checkRight_frameOctets {f : FrameContent} (h : FrameWellFormed f) : checkRight f.rate (frameOctets f) = true := by
  have hrate := h.2.1
  have hbody := length_frameBody h
  have hlen : (syncOctets ++ frameBody f).length = frameLength f.rate - 2 := by
    rw [List.length_append, hbody, frameLength]
    simp only [syncOctets, List.length_cons, List.length_nil]
    omega
  have htotal : (frameOctets f).length = frameLength f.rate := by
    rw [frameOctets, List.length_append, hlen, frameLength]
    simp only [bigEndian, List.length_cons, List.length_nil]
    omega
  have hcheck : readBig (frameOctets f) (frameLength f.rate - 2) = checkOf (frameBody f) := by rw [← hlen, frameOctets, readBig_append]
  have hcovered : ((frameOctets f).take (frameLength f.rate - 2)).drop 4 = frameBody f := by
    rw [frameOctets, List.take_left' hlen]
    exact List.drop_left' rfl
  simp [checkRight, htotal, hcheck, hcovered]

/-- Settles O7. -/
theorem frameOctetsReadBack : Obligations.FrameOctetsReadBack := fun f h =>
  ⟨readFrame_frameOctets h, checkRight_frameOctets h, by simp [frameOctets, syncOctets]⟩

end Sys2Proof.Machine

/-! One sample of the Rope Measurement Unit, stage by stage (R25 to R44). -/

namespace Sys2Proof.Machine

/-! ### The encoders (R25 to R27) -/

theorem watch_unstarted (i : EncoderInterval) (e : Encoder) :
    e.watch false i = { e with phases := i.atSample, taken := e.position, errorNoted := false } := rfl

theorem settleEncoder_read (e : Encoder) :
    (settleEncoder e).position = e.position ∧ (settleEncoder e).taken = e.position ∧ (settleEncoder e).errorNoted = false ∧
      (settleEncoder e).lastDelta = e.delta ∧ (settleEncoder e).tally = if e.sampleFaulty then count16 e.tally else e.tally := by
  unfold settleEncoder
  dsimp only
  (repeat' split) <;> simp_all

/-- The health of an encoder follows the table of R27. -/
theorem settleEncoder_health (e : Encoder) : HealthAfter e.sampleFaulty e (settleEncoder e) := by
  unfold settleEncoder
  cases hf : e.faulted <;> cases e.sampleFaulty <;> dsimp only <;> simp only [hf, HealthAfter] <;> (repeat' split) <;> simp_all <;> omega

theorem watch_health (started : Bool) (i : EncoderInterval) (e : Encoder) :
    (e.watch started i).faulted = e.faulted ∧ (e.watch started i).faultRun = e.faultRun ∧ (e.watch started i).cleanRun = e.cleanRun ∧
      (e.watch started i).tally = e.tally := by
  have observed (e : Encoder) (x : Phases) : (e.observe x).faulted = e.faulted ∧ (e.observe x).faultRun = e.faultRun ∧
      (e.observe x).cleanRun = e.cleanRun ∧ (e.observe x).tally = e.tally := by
    unfold Encoder.observe
    (repeat' split) <;> exact ⟨rfl, rfl, rfl, rfl⟩
  unfold Encoder.watch
  split
  · exact List.foldlRecOn (motive := fun f : Encoder => f.faulted = e.faulted ∧ f.faultRun = e.faultRun ∧
      f.cleanRun = e.cleanRun ∧ f.tally = e.tally) _ _ ⟨rfl, rfl, rfl, rfl⟩ fun f hf x _ => by
        obtain ⟨h1, h2, h3, h4⟩ := observed f x
        rw [h1, h2, h3, h4]; exact hf
  · exact ⟨rfl, rfl, rfl, rfl⟩

/-! ### The decoder (R25) -/

theorem observe_same {e : Encoder} {x : Phases} (ha : x.a = e.phases.a) (hb : x.b = e.phases.b) : e.observe x = e := by
  have : x = e.phases := by cases x; cases h : e.phases; simp_all
  simp [Encoder.observe, this]

theorem observe_both {e : Encoder} {x : Phases} (ha : x.a ≠ e.phases.a) (hb : x.b ≠ e.phases.b) :
    e.observe x = { e with phases := x, errorNoted := true } := by
  have : x ≠ e.phases := fun h => ha (by rw [h])
  simp [Encoder.observe, this, ha, hb]

theorem observe_one {e : Encoder} {x : Phases} (h : x.a ≠ e.phases.a ∧ x.b = e.phases.b ∨ x.a = e.phases.a ∧ x.b ≠ e.phases.b) :
    e.observe x = { e with phases := x, position := e.position + if advances e.phases x then 1 else -1 } := by
  have hne : x ≠ e.phases := by
    rintro rfl
    obtain h | h := h
    · exact h.1 rfl
    · exact h.2 rfl
  have hnot : ¬ (x.a != e.phases.a && x.b != e.phases.b) = true := by
    obtain h | h := h <;> simp [h]
  simp only [Encoder.observe, beq_iff_eq, hne, if_false, hnot, Bool.false_eq_true]

/-- A change of one phase undone counts the other way. -/
theorem advances_undone {x y : Phases} (h : x.a ≠ y.a ∧ x.b = y.b ∨ x.a = y.a ∧ x.b ≠ y.b) : advances x y = !advances y x := by
  obtain ⟨a, b⟩ := x
  obtain ⟨c, d⟩ := y
  revert a b c d
  decide

theorem observe_undone {e : Encoder} {x : Phases} (h : x.a ≠ e.phases.a ∧ x.b = e.phases.b ∨ x.a = e.phases.a ∧ x.b ≠ e.phases.b) :
    (e.observe x).observe e.phases = e := by
  have hback : e.phases.a ≠ x.a ∧ e.phases.b = x.b ∨ e.phases.a = x.a ∧ e.phases.b ≠ x.b := by
    simpa only [ne_comm, eq_comm] using h
  rw [observe_one h, observe_one (e := { e with phases := x, position := _ }) hback]
  have hundone := advances_undone hback
  cases hadv : advances x e.phases <;> rw [hadv] at hundone <;> simp [hundone]

/-! ### The stages of a sample -/

theorem settleSpeed_kept (invalid : Bool) (w : List Increment) (r : Rope) : settleSpeed invalid w r = { r with
    v := (settleSpeed invalid w r).v, held := w.any (fun i => i.faulty), clamped := (settleSpeed invalid w r).clamped } := by
  unfold settleSpeed
  dsimp only
  (repeat' split) <;> simp_all

/-- The increment that the source gives (R28, R29). -/
def sourceIncrement (src : Source) (x1 x2 : Increment) : Increment :=
  match src with
  | .e1 => x1
  | .e2 => x2
  | .none => { um := 0, faulty := true }

/-- The increment of one encoder's sample (R26, R28). -/
def encoderIncrement (e : Encoder) (l : Nat) : Increment := { um := e.usedDelta * l, faulty := e.sampleFaulty }

/-- What a sample puts into a slip window: its increment, or 0 where either encoder's sample is faulty (R37). -/
def slipIncrement (anyFaulty : Bool) (e : Encoder) (l : Nat) : Int := if anyFaulty then 0 else e.usedDelta * l

section
variable (prof : Profile) (c : Nat) (m : Mode) (now : Time) (i1 i2 : EncoderInterval) (r : Rope)

/-- The source that a sample chooses. -/
def sampleSource : Source :=
  chooseSource (settleEncoder (r.e1.watch r.started i1)).faulted (settleEncoder (r.e2.watch r.started i2)).faulted

/-- The increment that a sample takes. -/
def sampleIncrement : Increment :=
  sourceIncrement (sampleSource i1 i2 r) (encoderIncrement (r.e1.watch r.started i1) prof.l1)
    (encoderIncrement (r.e2.watch r.started i2) prof.l2)

/-- The unit's state when health, source, window, gap and slip windows have been taken, before the speed. -/
def sampleTaken : Rope :=
  let seen1 := r.e1.watch r.started i1
  let seen2 := r.e2.watch r.started i2
  { r with
    started := true, e1 := settleEncoder seen1, e2 := settleEncoder seen2, source := sampleSource i1 i2 r
    window := (sampleIncrement prof i1 i2 r :: r.window).take 8
    gapAcc := settleGap (sampleIncrement prof i1 i2 r).um r.gapAcc
    slip1 := pushSlip (slipIncrement (seen1.sampleFaulty || seen2.sampleFaulty) seen1 prof.l1) r.slip1
    slip2 := pushSlip (slipIncrement (seen1.sampleFaulty || seen2.sampleFaulty) seen2 prof.l2) r.slip2
    slipFill := settleFill ((settleEncoder seen1).faulted || (settleEncoder seen2).faulted)
      ((r.e1.faulted && !(settleEncoder seen1).faulted) || (r.e2.faulted && !(settleEncoder seen2).faulted)) r.slipFill }

/-- With the speed. -/
def sampleMeasured : Rope :=
  settleSpeed (sampleSource i1 i2 r == .none) ((sampleIncrement prof i1 i2 r :: r.window).take 8) (sampleTaken prof i1 i2 r)

/-- The slip check is made in this sample (R38). -/
def sampleChecked : Bool :=
  let s := sampleMeasured prof i1 i2 r
  !(settleEncoder (r.e1.watch r.started i1)).faulted && !(settleEncoder (r.e2.watch r.started i2)).faulted &&
    !(sampleSource i1 i2 r == .none) && 500 ≤ s.v.natAbs && s.slipFill == 100

/-- The whole sample from its measured stage on. -/
theorem ropeSample_rope : (ropeSample prof c m now i1 i2 r).rope =
    let s := sampleMeasured prof i1 i2 r
    let invalid := sampleSource i1 i2 r == .none
    let ceff := rampCeiling prof.decelStep c r.ceff
    let t := { s with
      slipPresent := sampleChecked prof i1 i2 r && decide (prof.slipLimit * 1000 < slipMicrons s)
      rollRun := if !invalid && s.v < -(prof.rollbackThreshold : Int) then count16 r.rollRun else 0
      ceff := ceff
      overRun := if !invalid && (ceff : Int) + (prof.overspeedMargin : Int) < s.v then count16 r.overRun else 0
      standRun := (settleStandstill invalid s.v r.standRun r.standstill).1
      standstill := (settleStandstill invalid s.v r.standRun r.standstill).2 || standstillByTimeDue invalid m r.stopEntry now }
    { t with view := ropeViewOf t invalid (sampleChecked prof i1 i2 r) now } := rfl

end

/-! ### The sample's parts -/

section
variable (prof : Profile) (i1 i2 : EncoderInterval) (r : Rope)

theorem sampleMeasured_eq : sampleMeasured prof i1 i2 r = { sampleTaken prof i1 i2 r with
    v := (sampleMeasured prof i1 i2 r).v, clamped := (sampleMeasured prof i1 i2 r).clamped
    held := ((sampleIncrement prof i1 i2 r :: r.window).take 8).any (fun i => i.faulty) } :=
  settleSpeed_kept _ _ _

theorem sampleMeasured_kept :
    (sampleMeasured prof i1 i2 r).e1 = settleEncoder (r.e1.watch r.started i1) ∧
      (sampleMeasured prof i1 i2 r).e2 = settleEncoder (r.e2.watch r.started i2) ∧
      (sampleMeasured prof i1 i2 r).source = sampleSource i1 i2 r ∧
      (sampleMeasured prof i1 i2 r).window = (sampleIncrement prof i1 i2 r :: r.window).take 8 ∧
      (sampleMeasured prof i1 i2 r).gapAcc = settleGap (sampleIncrement prof i1 i2 r).um r.gapAcc ∧
      (sampleMeasured prof i1 i2 r).slip1 = (sampleTaken prof i1 i2 r).slip1 ∧
      (sampleMeasured prof i1 i2 r).slip2 = (sampleTaken prof i1 i2 r).slip2 ∧
      (sampleMeasured prof i1 i2 r).slipFill = (sampleTaken prof i1 i2 r).slipFill := by
  rw [sampleMeasured_eq]
  exact ⟨rfl, rfl, rfl, rfl, rfl, rfl, rfl, rfl⟩

/-- V, HELD and CLAMPED (R31 to R33). -/
theorem sampleMeasured_clean (hsource : sampleSource i1 i2 r ≠ .none)
    (hclean : ∀ x ∈ (sampleIncrement prof i1 i2 r :: r.window).take 8, x.faulty = false) :
    (sampleMeasured prof i1 i2 r).v =
        max (-20000) (min 20000 (Int.tdiv ((((sampleIncrement prof i1 i2 r :: r.window).take 8).map (fun x => x.um)).sum) 80)) ∧
      (sampleMeasured prof i1 i2 r).held = false ∧
      (sampleMeasured prof i1 i2 r).clamped =
        decide (20000 < (Int.tdiv ((((sampleIncrement prof i1 i2 r :: r.window).take 8).map (fun x => x.um)).sum) 80).natAbs) := by
  have hheld : ((sampleIncrement prof i1 i2 r :: r.window).take 8).any (fun i => i.faulty) = false := by
    rw [List.any_eq_false]
    exact fun x hx => by simp [hclean x hx]
  have hvalid : (sampleSource i1 i2 r == .none) = false := by simpa using hsource
  have hclamp (v : Int) : clampInt (-Config.speedMax) Config.speedMax v = max (-20000) (min 20000 v) := clampInt_eq_max_min (by decide) v
  simp only [sampleMeasured, settleSpeed, hvalid, hheld, Bool.false_eq_true, if_false, windowSpeed, hclamp]
  generalize Int.tdiv _ 80 = v
  refine ⟨trivial, trivial, ?_⟩
  rw [Bool.eq_iff_iff]
  simp only [bne_iff_ne, decide_eq_true_eq]
  omega

theorem sampleMeasured_held (hsource : sampleSource i1 i2 r ≠ .none)
    (hfaulty : ∃ x ∈ (sampleIncrement prof i1 i2 r :: r.window).take 8, x.faulty = true) :
    (sampleMeasured prof i1 i2 r).v = r.v ∧ (sampleMeasured prof i1 i2 r).held = true ∧ (sampleMeasured prof i1 i2 r).clamped = r.clamped := by
  have hheld : ((sampleIncrement prof i1 i2 r :: r.window).take 8).any (fun i => i.faulty) = true := by
    rw [List.any_eq_true]; exact hfaulty
  have hvalid : (sampleSource i1 i2 r == .none) = false := by simpa using hsource
  simp only [sampleMeasured, settleSpeed, hvalid, hheld, Bool.false_eq_true, if_false, if_true]
  exact ⟨rfl, trivial, rfl⟩

theorem sampleMeasured_invalid (hsource : sampleSource i1 i2 r = .none) :
    (sampleMeasured prof i1 i2 r).v = 0 ∧ (sampleMeasured prof i1 i2 r).held = true ∧ (sampleMeasured prof i1 i2 r).clamped = false := by
  have hvalid : (sampleSource i1 i2 r == .none) = true := by simpa using hsource
  have hheld : ((sampleIncrement prof i1 i2 r :: r.window).take 8).any (fun i => i.faulty) = true := by
    simp [sampleIncrement, hsource, sourceIncrement]
  simp only [sampleMeasured, settleSpeed, hvalid, hheld, if_true]
  exact ⟨trivial, trivial, trivial⟩

/-- The source by the health (R29). -/
theorem sampleSource_eq : sampleSource i1 i2 r =
    if (settleEncoder (r.e1.watch r.started i1)).faulted = false then .e1
    else if (settleEncoder (r.e2.watch r.started i2)).faulted = false then .e2 else .none := by
  simp [sampleSource, chooseSource]

end

theorem settleGap_eq (inc : Int) (acc : Nat) : (settleGap inc acc : Int) = max 0 (min 2000000000 ((acc : Int) + inc)) := by
  simp only [settleGap, Config.gapMax]
  omega

theorem usedDelta_mul (e : Encoder) (l : Nat) : e.usedDelta * (l : Int) = if e.sampleFaulty then 0 else (e.position - e.taken) * l := by
  unfold Encoder.usedDelta Encoder.delta
  split <;> simp

/-- What a slip window takes (R37). -/
theorem slipIncrement_eq (anyFaulty : Bool) (e : Encoder) (l : Nat) (h : e.sampleFaulty = true → anyFaulty = true) :
    slipIncrement anyFaulty e l = if anyFaulty then 0 else (e.position - e.taken) * l := by
  unfold slipIncrement
  rw [usedDelta_mul]
  split
  · rfl
  next hno => rw [if_neg (fun hf => hno (h hf))]

theorem settleFill_eq (f1 f2 g1 g2 : Bool) (n : Nat) : settleFill (f1 || f2) ((g1 && !f1) || (g2 && !f2)) n =
    if f1 = true ∨ f2 = true ∨ g1 = true ∨ g2 = true then 0 else if n < 100 then n + 1 else n := by
  cases f1 <;> cases f2 <;> cases g1 <;> cases g2 <;> rfl

/-- The check is made with both encoders healthy, |V| of 500 or more and full windows. -/
theorem sampleChecked_eq (prof : Profile) (i1 i2 : EncoderInterval) (r : Rope) : sampleChecked prof i1 i2 r =
    decide ((settleEncoder (r.e1.watch r.started i1)).faulted = false ∧ (settleEncoder (r.e2.watch r.started i2)).faulted = false ∧
      sampleSource i1 i2 r ≠ .none ∧ 500 ≤ (sampleMeasured prof i1 i2 r).v.natAbs ∧ (sampleTaken prof i1 i2 r).slipFill = 100) := by
  have hfill : (sampleMeasured prof i1 i2 r).slipFill = (sampleTaken prof i1 i2 r).slipFill := by rw [sampleMeasured_eq]
  simp only [sampleChecked, hfill]
  rw [Bool.eq_iff_iff]
  simp [and_assoc]

theorem settleStandstill_valid {v : Int} {run : Nat} {declared : Bool} :
    (v.natAbs < 20 → settleStandstill false v run declared = (if run < 100 then run + 1 else run, declared || decide (run = 99))) ∧
      (20 ≤ v.natAbs → settleStandstill false v run declared = (0, false)) := by
  refine ⟨fun h => ?_, fun h => ?_⟩
  · simp only [settleStandstill, h, if_true, Bool.false_eq_true, if_false, countTo, Prod.mk.injEq, true_and]
    congr 1
    rw [Bool.eq_iff_iff]
    simp only [Bool.and_eq_true, decide_eq_true_eq, beq_iff_eq]
    split <;> omega
  · simp [settleStandstill, Nat.not_lt.mpr h]

theorem standstillByTimeDue_eq (invalid : Bool) (m : Mode) (entry : Option Time) (now : Time) :
    standstillByTimeDue invalid m entry now = (invalid && (m.isStopping && entry.any (fun e => reached now (e + ms 30000)))) := by
  cases entry <;> simp [standstillByTimeDue, Bool.and_assoc]

theorem shownDelta_eq (d : Int) : shownDelta d = max (-32768) (min 32767 d) := clampInt_eq_max_min (by decide) d

theorem settleEncoder_health_watch (started : Bool) (i : EncoderInterval) (e : Encoder) :
    HealthAfter (e.watch started i).sampleFaulty e (settleEncoder (e.watch started i)) := by
  obtain ⟨hfaulted, hfaults, hcleans, -⟩ := watch_health started i e
  simpa only [HealthAfter, hfaulted, hfaults, hcleans] using settleEncoder_health (e.watch started i)

/-- The source's increment is that of its own encoder. -/
theorem sourceIncrement_eq (src : Source) (e1 e2 : Encoder) (l1 l2 : Nat) :
    sourceIncrement src (encoderIncrement e1 l1) (encoderIncrement e2 l2) =
      (match src with
      | .e1 => { um := if e1.sampleFaulty then 0 else (e1.position - e1.taken) * l1, faulty := e1.sampleFaulty }
      | .e2 => { um := if e2.sampleFaulty then 0 else (e2.position - e2.taken) * l2, faulty := e2.sampleFaulty }
      | .none => { um := 0, faulty := true } : Increment) := by
  cases src
  case none => rfl
  all_goals simp only [sourceIncrement, encoderIncrement, usedDelta_mul]

/-- Settles O11. -/
theorem ropeSampleSpeedGapAndCeiling : Obligations.RopeSampleSpeedGapAndCeiling := by
  refine ⟨fun prof c m now i1 i2 r => ?_, fun e x => ⟨observe_same, observe_both, fun h => ⟨?_, ?_, observe_undone h⟩, fun h => ?_⟩⟩
  · dsimp only
    let seen1 := r.e1.watch r.started i1
    let seen2 := r.e2.watch r.started i2
    obtain ⟨he1, he2, hsource, hwindow, hgap, hslip1, hslip2, hfill⟩ := sampleMeasured_kept prof i1 i2 r
    obtain ⟨hpos1, htaken1, herror1, hdelta1, htally1⟩ := settleEncoder_read seen1
    obtain ⟨hpos2, htaken2, herror2, hdelta2, htally2⟩ := settleEncoder_read seen2
    obtain ⟨hf1, -, -, ht1⟩ := watch_health r.started i1 r.e1
    obtain ⟨hf2, -, -, ht2⟩ := watch_health r.started i2 r.e2
    rw [ropeSample_rope]
    dsimp only
    simp only [ropeViewOf, slipMicrons, hsource, he1, he2, hwindow, hgap, hslip1, hslip2, hfill]
    refine ⟨sampleMeasured_clean prof i1 i2 r, sampleMeasured_held prof i1 i2 r, sampleMeasured_invalid prof i1 i2 r, ?_⟩
    have hpush1 := slipIncrement_eq (seen1.sampleFaulty || seen2.sampleFaulty) seen1 prof.l1 (fun h => by simp [h])
    have hpush2 := slipIncrement_eq (seen1.sampleFaulty || seen2.sampleFaulty) seen2 prof.l2 (fun h => by simp [h])
    have hinc := sourceIncrement_eq (sampleSource i1 i2 r) seen1 seen2 prof.l1 prof.l2
    refine ⟨congrArg (fun x => (x :: r.window).take 8) hinc, ?_, fun hc => if_pos hc, fun hc => if_neg (Nat.not_lt.mpr hc),
      settleEncoder_health_watch r.started i1 r.e1, settleEncoder_health_watch r.started i2 r.e2, sampleSource_eq i1 i2 r,
      by simp, by simp, fun hs hv => ?_, fun hs hv => ?_, fun hs => ?_, fun hf => ?_, congrArg (fun x => (x :: r.slip1).take 100) hpush1,
      congrArg (fun x => (x :: r.slip2).take 100) hpush2, settleFill_eq .., sampleChecked_eq prof i1 i2 r, trivial, ?_, ?_,
      hpos1, htaken1, herror1, hpos2, htaken2, herror2, fun hr => ?_, ?_⟩
    · rw [settleGap_eq]
      exact congrArg (fun x : Increment => max 0 (min 2000000000 ((r.gapAcc : Int) + x.um))) hinc
    · have hvalid : (sampleSource i1 i2 r == .none) = false := by simpa using hs
      simp [hvalid, settleStandstill_valid.1 hv, standstillByTimeDue]
    · have hvalid : (sampleSource i1 i2 r == .none) = false := by simpa using hs
      simp [hvalid, settleStandstill_valid.2 hv, standstillByTimeDue]
    · have hinvalid : (sampleSource i1 i2 r == .none) = true := by simpa using hs
      simp [hinvalid, settleStandstill, standstillByTimeDue_eq]
    · have hany : (seen1.sampleFaulty || seen2.sampleFaulty) = true := by rw [Bool.or_eq_true]; exact hf
      exact ⟨congrArg some (if_pos hany), congrArg some (if_pos hany)⟩
    · rw [htally1, ht1]; rfl
    · rw [htally2, ht2]; rfl
    · simp [hr, watch_unstarted]
    · rw [hdelta1, hdelta2, shownDelta_eq, shownDelta_eq]; rfl
  · rw [observe_one h]
    split <;> simp
    omega
  · rw [observe_one h]
  · simp [Encoder.observe, h, advances]
    omega

end Sys2Proof.Machine

/-! Orders in a state in which nothing waits: CABIN_DOOR_CONFIRM, and the start budget. -/

namespace Sys2Proof.Machine

/-! ### Orders whose judgements can start no door -/

theorem CalmKept.windowKept {p q : Part} (h : CalmKept p q) : WindowKept p q := by
  obtain ⟨hwindow, -⟩ := h
  simp only [WindowKept, PortKept]
  rw [hwindow]
  exact ⟨rfl, rfl, rfl, rfl, rfl, rfl⟩

theorem CalmKept.same {p q : Part} (h : CalmKept p q) {b : Block} (hb : b ∉ [Block.window, .launch, .doors, .sup]) : Part.same b p q := by
  simp only [CalmKept] at h
  cases b <;> simp at hb <;> simp only [Part.same, h]

theorem nothingWaits_of_eq {p q : Part} (hdoors : q.doors = p.doors) (hseq : q.sequencer = p.sequencer) (h : NothingWaits p) :
    NothingWaits q := by
  simpa only [NothingWaits, hdoors, hseq] using h

/-- An order answered at once, after which nothing waits: what its block leaves stands but for a release requested, granted or taken back. -/
theorem atOnce_calm {i : SlotNo} {k : Byte} {body : Slot → Part → Reply} {s : State} {r : Result} {d : Nat} {q : Part}
    {changed : List Block} (hnext : OrderNext i k s)
    (hbody : body (slotOf s.part i) (takeHead i s.part) = { result := r, detail := d, part := q })
    (hwindow : WindowKept (takeHead i s.part) q) (hcalm : NothingWaits q)
    (hkept : ∀ b ∉ changed, Part.same b s.part q)
    (hchanged : Block.window ∈ changed ∧ Block.launch ∈ changed ∧ Block.doors ∈ changed ∧ Block.sup ∈ changed) :
    ∃ t, atOnce i k body s = .next t ∧ Answers i r d s t ∧ WindowFrame i s t ∧ Frame changed s t ∧
      t.part = finish (answer i r d q) ∧ CalmKept (answer i r d q) (settle 64 (answer i r d q)) := by
  obtain ⟨hready, hhead, hkind⟩ := hnext
  have hanswered : NothingWaits (answer i r d q) := nothingWaits_of_eq rfl rfl hcalm
  obtain ⟨hkeeps, -⟩ := settle_calm hanswered
  obtain ⟨hanswers, hframe⟩ := answers_finish (i := i) (r := r) (d := d) (s := s) hwindow hkeeps.windowKept
    (hkeeps.2.1 0 (by simp [answer, Attn.bit]))
  refine ⟨_, atOnce_acts hready.1 hhead hkind, ?_⟩
  rw [hbody]
  dsimp only
  refine ⟨hanswers, hframe, frame_finish hready fun b _ hb => ?_, rfl, hkeeps⟩
  obtain ⟨hw, hl, hd, hs⟩ := hchanged
  have hne : b ∉ [Block.window, .launch, .doors, .sup] := by
    intro h
    simp only [List.mem_cons, List.not_mem_nil, or_false] at h
    obtain rfl | rfl | rfl | rfl := h
    exacts [hb hw, hb hl, hb hd, hb hs]
  have hbody := hkept b hb
  have hrest := hkeeps.same hne
  cases b with
  | window | launch | doors | sup => exact absurd (by decide) hne
  | _ => exact hrest.trans hbody

/-! ### CABIN_DOOR_CONFIRM (R115) -/

section
variable {x : Slot} {p : Part}

theorem orderCabinDoorConfirm_cabin (h : isCabin (octet x 0) = false) : orderCabinDoorConfirm x p = refuse .refusedRange 1 p := by
  simp [orderCabinDoorConfirm, h]

theorem orderCabinDoorConfirm_attendant (hk : isCabin (octet x 0) = true) (h : word16 x 1 = 0) :
    orderCabinDoorConfirm x p = refuse .refusedRange 2 p := by
  simp [orderCabinDoorConfirm, hk, h]

theorem orderCabinDoorConfirm_away (hk : isCabin (octet x 0) = true) (ha : word16 x 1 ≠ 0) (h : entryOfCabin p (octet x 0) = none) :
    orderCabinDoorConfirm x p = refuse .refusedState 1 p := by
  simp [orderCabinDoorConfirm, hk, ha, h]

theorem orderCabinDoorConfirm_segment (hk : isCabin (octet x 0) = true) (ha : word16 x 1 ≠ 0) {e : QueueEntry}
    (he : entryOfCabin p (octet x 0) = some e) (h : e.segment ≠ 4) : orderCabinDoorConfirm x p = refuse .refusedState 2 p := by
  simp [orderCabinDoorConfirm, hk, ha, he, h]

theorem orderCabinDoorConfirm_confirms (hk : isCabin (octet x 0) = true) (ha : word16 x 1 ≠ 0) {e : QueueEntry}
    (he : entryOfCabin p (octet x 0) = some e) (h : e.segment = 4) :
    orderCabinDoorConfirm x p = ok (confirmDoor (octet x 0) (word16 x 1) p) := by
  simp [orderCabinDoorConfirm, hk, ha, he, h]

end

theorem entryOfCabin_none {p : Part} {k : Nat} (h : inQueue p k = false) : entryOfCabin p k = none := by
  rw [entryOfCabin, List.find?_eq_none]
  intro e he hk
  have : inQueue p k = true := List.any_eq_true.mpr ⟨e, he, hk⟩
  rw [h] at this; cases this

/-- The conditions that an ended condition leaves. -/
theorem gone_sup_present (k : CauseKind) (n : Nat) (p : Part) : (gone k n p).sup.present = p.sup.present.filter (fun c => !c.names k n) := by
  unfold gone
  dsimp only
  split <;> rfl

theorem not_present_gone (k : CauseKind) (n : Nat) (p : Part) : ¬ ConditionPresent k n (gone k n p).sup := by
  rw [ConditionPresent, gone_sup_present, List.any_filter]
  simp

theorem endUnlocked_sequencer (k : Nat) (p : Part) :
    (endUnlocked k p).sequencer = { p.sequencer with unlocked := p.sequencer.unlocked.filter (fun j => j != k) } := by
  unfold endUnlocked
  split
  · simp [modSeq]
  next hno =>
    have : p.sequencer.unlocked.filter (fun j => j != k) = p.sequencer.unlocked := by
      rw [List.filter_eq_self]
      rintro j hj
      rw [bne_iff_ne]
      rintro rfl
      exact hno (by simpa using hj)
    rw [this]

/-- What the end of an unlocked cabin's condition leaves. -/
theorem endUnlocked_leaves (k : Nat) (p : Part) : WindowKept p (endUnlocked k p) ∧
    ∀ b ∉ [Block.window, .sequencer, .sup], Part.same b p (endUnlocked k p) := by
  obtain ⟨hkeeps, hdoors, hcabins, hrope, hcalls, -, -⟩ := endUnlocked_kept k p
  simp only [SequencerKeeps] at hkeeps
  refine ⟨(endUnlocked_load k p).1, fun b hb => ?_⟩
  cases b <;> simp at hb <;> simp only [Part.same, hkeeps, hdoors, hcabins, hrope, hcalls]

theorem endUnlocked_present {k : Nat} {p : Part} (h : k ∈ p.sequencer.unlocked) :
    ¬ ConditionPresent .cabinDoorUnlocked k (endUnlocked k p).sup := by
  unfold endUnlocked
  rw [if_pos (by simpa using h)]
  exact not_present_gone _ _ _

/-- A condition that is not a RELEASE_TIMEOUT is present after the judgements exactly where it was before them. -/
theorem CalmKept.present_iff {p q : Part} (h : CalmKept p q) {k : CauseKind} (hk : k ≠ .releaseTimeout) (n : Nat) :
    ConditionPresent k n q.sup ↔ ConditionPresent k n p.sup := by
  obtain ⟨-, -, -, -, -, -, -, -, -, -, -, -, hpresent, -⟩ := h
  have named (l : List PresentCause) : l.any (fun c => c.names k n) = (l.filter (fun c => c.kind != .releaseTimeout)).any (fun c => c.names k n) := by
    rw [List.any_filter]
    refine List.any_congr rfl fun c => ?_
    by_cases hc : c.kind = k <;> simp [PresentCause.names, hc, hk]
  rw [ConditionPresent, ConditionPresent, named q.sup.present, hpresent, ← named]

/-- A door state is written into the cabin table alone. -/
theorem setDoor_cabins_congr {k : Nat} {d : CabinDoor} {p q : Part} (h : q.cabins = p.cabins) :
    (setDoor k d q).cabins = (setDoor k d p).cabins := by
  unfold setDoor modCabin
  dsimp only
  split <;> simp [h]

/-- The sequencer with a confirmation recorded (R115). -/
def confirmed (k attendant : Nat) (now : Time) (q : Sequencer) : Sequencer := { q with
  lastConfirmation := some { cabin := k, attendant := attendant, time := now }, confirmations := count16 q.confirmations }

theorem cabinDoorConfirm_confirms {i : SlotNo} {s : State} (hnext : OrderNext i 0x36 s) (hk : isCabin (param i s 0) = true)
    (ha : param16 i s 1 ≠ 0) {e : QueueEntry} (he : entryOfCabin s.part (param i s 0) = some e) (h : e.segment = 4)
    (hwaits : NothingWaits s.part) :
    After (.cabinDoorConfirm i) s (fun t => Answers i .ok 0 s t ∧ Frame [.window, .cabins, .launch, .doors, .sequencer, .sup] s t ∧
      t.part.cabins = (setDoor (param i s 0) .locked s.part).cabins ∧
      t.part.sequencer = { confirmed (param i s 0) (param16 i s 1) s.part.clock.now s.part.sequencer with
        unlocked := s.part.sequencer.unlocked.filter (fun j => j != param i s 0) } ∧
      (param i s 0 ∈ s.part.sequencer.unlocked → ¬ ConditionPresent .cabinDoorUnlocked (param i s 0) t.part.sup)) := by
  have hbody := orderCabinDoorConfirm_confirms (p := takeHead i s.part) hk ha he h
  generalize hc : setDoor (param i s 0) .locked (modSeq (confirmed (param i s 0) (param16 i s 1) s.part.clock.now) (takeHead i s.part)) = c
  have hconfirm : confirmDoor (param i s 0) (param16 i s 1) (takeHead i s.part) = endUnlocked (param i s 0) c := by rw [← hc]; rfl
  have hset (b : Block) (hb : b ∉ [Block.cabins, .sequencer]) : Part.same b (takeHead i s.part) c := by
    rw [← hc]; cases b <;> simp at hb <;> simp [Part.same, modSeq]
  have hcabins : c.cabins = (setDoor (param i s 0) .locked s.part).cabins := by rw [← hc]; exact setDoor_cabins_congr rfl
  have hconfirmed : c.sequencer = confirmed (param i s 0) (param16 i s 1) s.part.clock.now s.part.sequencer := by
    rw [← hc]; simp [modSeq]
  rw [hconfirm] at hbody
  obtain ⟨hwindow, hsame⟩ := endUnlocked_leaves (param i s 0) c
  have hsequencer := endUnlocked_sequencer (param i s 0) c
  have hpresent := endUnlocked_present (k := param i s 0) (p := c)
  generalize endUnlocked (param i s 0) c = q at *
  rw [hconfirmed] at hsequencer hpresent
  obtain ⟨t, ht, hanswers, -, hframe, hpart, hcalm⟩ := atOnce_calm
    (changed := [.window, .cabins, .launch, .doors, .sequencer, .sup]) hnext hbody
    ((WindowKept.of_eq (hset .window (by decide))).trans hwindow)
    ⟨by rw [hsame .doors (by decide), hset .doors (by decide)]; exact hwaits.1, by rw [hsequencer]; exact hwaits.2⟩
    (fun b hb => by
      have hq := hsame b fun hin => hb (by revert hin; cases b <;> simp)
      have hs := hset b fun hin => hb (by revert hin; cases b <;> simp)
      cases b <;> simp at hb <;> exact hq.trans hs) (by decide)
  refine ⟨t, ht, hanswers, hframe, ?_, ?_, fun hunlocked => ?_⟩
  · rw [hpart, finish_cabins, hcalm.same (b := .cabins) (by decide)]
    exact (hsame .cabins (by decide)).trans hcabins
  · rw [hpart, finish_sequencer, hcalm.same (b := .sequencer) (by decide)]
    exact hsequencer
  · rw [hpart, finish_sup]
    exact fun hstill => hpresent hunlocked ((hcalm.present_iff (k := .cabinDoorUnlocked) (by decide) _).mp hstill)

/-- Settles O26. -/
theorem cabinDoorConfirmLocksTheCabin : Obligations.CabinDoorConfirmLocksTheCabin := by
  intro i s hnext
  refine ⟨fun h => atOnce_refuses hnext (orderCabinDoorConfirm_cabin h), fun hk h => atOnce_refuses hnext (orderCabinDoorConfirm_attendant hk h),
    fun hk ha => ⟨fun h => atOnce_refuses hnext (orderCabinDoorConfirm_away (p := takeHead i s.part) hk ha (entryOfCabin_none h)),
      fun e he => ⟨fun h => atOnce_refuses hnext (orderCabinDoorConfirm_segment (p := takeHead i s.part) hk ha he h),
        fun h hwaits => ?_⟩⟩⟩
  obtain ⟨t, ht, hanswers, hframe, hcabins, hsequencer, hended⟩ := cabinDoorConfirm_confirms hnext hk ha he h hwaits
  refine ⟨t, ht, hanswers, fun j hj => ?_, ?_, hframe, ?_, ?_, ?_, fun hunlocked => ?_⟩
  · rw [hcabins]; exact modCabin_cabins_get_ne _ _ _ hj
  · rw [cabin_of_cabins_eq hcabins, cabin_setDoor_same hk]
  · rw [hsequencer]; rfl
  · rw [hsequencer]; rfl
  · rw [hsequencer]; simp
  · exact hended hunlocked

end Sys2Proof.Machine

/-! The arbiter's judgement of one waiting door, START_BUDGET_SET and GRANT_WINDOW_EXPIRY (R84, R96, R97). -/

namespace Sys2Proof.Machine

/-! ### One waiting door -/

theorem modTable_congr {α : Type} {n : Nat} {t : Vector α n} {i : Fin n} {f g : α → α} (h : f (t.get i) = g (t.get i)) :
    modTable t i f = modTable t i g := by
  simp only [modTable, h]

theorem modChannel_congr {n : ChannelNo} {f g : Channel → Channel} {p : Part} (h : f (channel p n) = g (channel p n)) :
    modChannel n f p = modChannel n g p := by
  simp only [modChannel, modTable_congr h]

theorem modChannel_modChannel (n : ChannelNo) (f g : Channel → Channel) (p : Part) :
    modChannel n f (modChannel n g p) = modChannel n (fun c => f (g c)) p := by
  simp only [modChannel, modTable_modTable]

/-- A channel whose motion begins at its grant (R84). -/
def motionStarted (now : Time) (c : Channel) : Channel := { c with
  state := if c.waits = .reversal then .reversing else (headingOf c).movingState, waits := .none, lastGrant := now
  starts := count16 c.starts, obstructionRun := 0, motor := some (headingOf c) }

theorem startMotion_eq (n : ChannelNo) (p : Part) : startMotion n p =
    if (channel p n).limit (headingOf (channel p n)) then
      if (channel p n).waits == .reversal then arriveReversal n (modChannel n (motionStarted p.clock.now) p)
      else arriveMove n (headingOf (channel p n)) (modChannel n (motionStarted p.clock.now) p)
    else modChannel n (motionStarted p.clock.now) p := by
  have begun : modChannel n (fun c => { c with
      state := if (channel p n).waits == .reversal then .reversing else (headingOf (channel p n)).movingState
      waits := .none, lastGrant := p.clock.now, starts := count16 c.starts, obstructionRun := 0
      motor := some (headingOf (channel p n)) }) p = modChannel n (motionStarted p.clock.now) p :=
    modChannel_congr (by simp only [motionStarted, beq_iff_eq])
  have hlimit : (channel (modChannel n (motionStarted p.clock.now) p) n).limit (headingOf (channel p n)) =
      (channel p n).limit (headingOf (channel p n)) := by
    rw [channel_modChannel_same]
    cases headingOf (channel p n) <;> rfl
  simp only [startMotion, begun, hlimit]

theorem startMotion_moves {n : ChannelNo} {p : Part} (h : (channel p n).limit (headingOf (channel p n)) = false) :
    startMotion n p = modChannel n (motionStarted p.clock.now) p := by
  rw [startMotion_eq, h]; rfl

/-- The one entry of the start queue has been granted, with no more to judge. -/
def doorGranted (n : ChannelNo) (p : Part) : Part := { p with
  doors := { recordGrant (.door n) p.clock.now { p.doors with queue := [] } with
    channels := modTable p.doors.channels n (motionStarted p.clock.now) }
  work := {} }

/-- A waiting channel alone in the queue, with a start left, moves where the limit that it heads for is inactive. -/
theorem settle_starts {n : ChannelNo} {p : Part} (hwork : p.work = { arbiter := true }) (hqueue : p.doors.queue = [.door n])
    (hroom : budgetRoom p.doors p.clock.now = true) (hlimit : (channel p n).limit (headingOf (channel p n)) = false) :
    settle 64 p = doorGranted n p := by
  have hfirst : settleOnce p = callArbiter (doorGranted n p) := by
    have hmoves := startMotion_moves (n := n) (p := { p with
      work := {}, doors := recordGrant (.door n) p.clock.now { p.doors with queue := [] } }) hlimit
    simp only [settleOnce, hwork, Bool.false_eq_true, if_false, if_true, judgeArbiter, hqueue, hroom, handGrant, hmoves]
    rfl
  have hsecond : settleOnce (callArbiter (doorGranted n p)) = doorGranted n p := rfl
  rw [settle, if_neg (by simp [hwork, Work.quiet]), hfirst, settle, if_neg (by simp [Work.quiet, callArbiter]), hsecond]
  exact settle_quiet _ _ rfl

/-- Without a start left the queue stays as it is. -/
theorem settle_no_room {p : Part} (hwork : p.work = { arbiter := true })
    (hroom : p.doors.queue = [] ∨ budgetRoom p.doors p.clock.now = false) : settle 64 p = { p with work := {} } := by
  have hjudged (q : Part) (h : q.doors.queue = [] ∨ budgetRoom q.doors q.clock.now = false) : judgeArbiter q = q := by
    unfold judgeArbiter
    split
    · rfl
    next hqueue =>
      obtain hempty | hroom := h
      · rw [hempty] at hqueue; cases hqueue
      · rw [hroom]; rfl
  have hfirst : settleOnce p = { p with work := {} } := by
    simp only [settleOnce, hwork, Bool.false_eq_true, if_false, if_true]
    exact hjudged _ hroom
  rw [settle, if_neg (by simp [hwork, Work.quiet]), hfirst]
  exact settle_quiet _ _ rfl

/-! ### START_BUDGET_SET (R97) and GRANT_WINDOW_EXPIRY (R96) -/

/-- The judgements of an event leave the budget. -/
theorem settle_budget (p : Part) : BudgetKept p (settle 64 p) :=
  settle_keeps (P := BudgetKept p)
    (fun q ⟨h1, h2, h3⟩ => by
      obtain ⟨g1, g2, g3⟩ := (settleOnce_grants q).2
      exact ⟨g1.trans h1, g2.trans h2, g3.trans h3⟩)
    (fun q ⟨h1, h2, h3⟩ => by simp [BudgetKept, h1, h2, h3]) 64 ⟨rfl, rfl, rfl⟩

/-- The budget that START_BUDGET_SET sets (R97). -/
def budgetSet (x : Slot) (p : Part) : Part :=
  setBudget (max 1 (min 8 (word16 x 0))) (max 200 (min 5000 (word16 x 2))) p

theorem clampNat_eq {lo hi : Nat} (h : lo ≤ hi) (n : Nat) : clampNat lo hi n = max lo (min hi n) := by
  unfold clampNat
  grind

theorem orderStartBudgetSet_sets (x : Slot) (p : Part) : orderStartBudgetSet x p =
    let n := (if max 1 (min 8 (word16 x 0)) = word16 x 0 then 0 else 1) + (if max 200 (min 5000 (word16 x 2)) = word16 x 2 then 0 else 1)
    { result := if n = 0 then .ok else .clamped, detail := n, part := budgetSet x p } := by
  have hcount (a b c d : Nat) : countDiffers [a, b] [c, d] = (if c = a then 0 else 1) + (if d = b then 0 else 1) := by
    simp only [countDiffers, List.zip_cons_cons, List.zip_nil_right, List.countP_cons, List.countP_nil, bne_iff_ne]
    grind
  simp only [orderStartBudgetSet, clampedBy_eq, budgetSet, clampNat_eq (show 1 ≤ 8 by decide), clampNat_eq (show 200 ≤ 5000 by decide), hcount]

theorem refreshPins_steady {p : Part} (h : PinsFollow p) : refreshPins p = p := by
  obtain ⟨hsvc, hfast, hattn⟩ := h
  unfold refreshPins
  simp only [← hsvc, ← hfast, ← hattn]

/-- An event that calls the arbiter alone, where it can grant nothing, leaves a part as it is. -/
theorem exec_callArbiter_rests {g : Part → Bool} {s : State} (hready : Ready s)
    (h : s.part.doors.queue = [] ∨ budgetRoom s.part.doors s.part.clock.now = false) : occurs g callArbiter s = .next s := by
  obtain ⟨hbefore, hwork, hpins, htones⟩ := hready
  cases hg : g s.part with
  | false => exact occurs_not hg
  | true =>
    have hsettle : settle 64 (callArbiter s.part) = s.part := by
      rw [settle_no_room (p := callArbiter s.part) (by simp [callArbiter, hwork]) h]
      simp [callArbiter, ← hwork]
    have hfinish : finish (callArbiter s.part) = finish s.part := by
      rw [finish, hsettle, finish, settle_of_quiet hwork]
    rw [occurs_acts hbefore hg, hfinish, finish_eq_refreshPins hwork htones, refreshPins_steady hpins]

/-- START_BUDGET_SET with an empty start queue: the arbiter has nothing to judge. -/
theorem startBudgetSet_empty {i : SlotNo} {s : State} (hnext : OrderNext i 0x34 s) (hqueue : s.part.doors.queue = []) {r : Result} {d : Nat} :
    AnswersOnly i r d 0 s { s with part := finish (answer i r d (budgetSet (slotOf s.part i) (takeHead i s.part))) } ∧
      Frame [.window, .doors] s { s with part := finish (answer i r d (budgetSet (slotOf s.part i) (takeHead i s.part))) } ∧
      (finish (answer i r d (budgetSet (slotOf s.part i) (takeHead i s.part)))).doors = (budgetSet (slotOf s.part i) s.part).doors := by
  obtain ⟨hready, hhead, hkind⟩ := hnext
  have hwork : s.part.work = {} := hready.2.1
  generalize hq : budgetSet (slotOf s.part i) (takeHead i s.part) = q
  have hrests : settle 64 (answer i r d q) = answer i r d { q with work := {} } := by
    rw [settle_no_room (by subst hq; simp [budgetSet, setBudget, callArbiter, hwork]) (.inl (by subst hq; exact hqueue))]
    rfl
  have hfinish : finish (answer i r d q) = finish (answer i r d { q with work := {} }) := by
    rw [finish, hrests, finish, settle_of_quiet rfl]
  rw [hfinish]
  refine ⟨answersOnly_finish rfl ?_, frame_answered hready rfl fun b hb hc => ?_, ?_⟩
  · subst hq; simp [budgetSet, setBudget]; rfl
  · subst hq; cases b <;> simp at hb hc <;> rfl
  · rw [finish_doors, settle_of_quiet rfl]; subst hq; rfl

theorem startBudgetSet_sets {i : SlotNo} {s : State} (hnext : OrderNext i 0x34 s) :
    After (.startBudgetSet i) s (fun t =>
      t.part.doors.budget = max 1 (min 8 (param16 i s 0)) ∧ t.part.doors.window = max 200 (min 5000 (param16 i s 2)) ∧
      (s.part.doors.queue = [] →
        (let n := (if max 1 (min 8 (param16 i s 0)) = param16 i s 0 then 0 else 1) +
            (if max 200 (min 5000 (param16 i s 2)) = param16 i s 2 then 0 else 1)
         AnswersOnly i (if n = 0 then .ok else .clamped) n 0 s t) ∧
        Frame [.window, .doors] s t ∧ t.part.doors = (budgetSet (slotOf s.part i) s.part).doors)) := by
  obtain ⟨hready, hhead, hkind⟩ := hnext
  refine ⟨_, atOnce_acts hready.1 hhead hkind, ?_⟩
  rw [orderStartBudgetSet_sets]
  dsimp only
  obtain ⟨-, hbudget, hwindow⟩ := settle_budget (answer i _ _ (budgetSet (slotOf s.part i) (takeHead i s.part)))
  refine ⟨?_, ?_, fun hqueue => startBudgetSet_empty ⟨hready, hhead, hkind⟩ hqueue⟩
  · rw [finish_doors, hbudget]; rfl
  · rw [finish_doors, hwindow]; rfl

/-- Settles O24. -/
theorem budgetSetAndGrantWindow : Obligations.BudgetSetAndGrantWindow := by
  refine ⟨fun i s hnext => startBudgetSet_sets hnext, fun s hready hleft => ⟨fun hqueue => exec_callArbiter_rests hready (.inl hqueue),
    fun hroom => exec_callArbiter_rests hready (.inr hroom), fun n hqueue hroom hlimit => ?_⟩⟩
  · have hsettle : settle 64 (callArbiter s.part) = doorGranted n s.part :=
      settle_starts (p := callArbiter s.part) (by simp [callArbiter, hready.2.1]) hqueue hroom hlimit
    refine ⟨_, occurs_acts hready.1 hleft, frame_finish hready fun b _ hb => ?_, fun m hm => ?_, ?_, ?_, ?_⟩
    · rw [hsettle]; cases b <;> simp at hb <;> rfl
    · rw [channel_finish, hsettle]; exact modTable_get_ne _ _ _ _ hm
    · rw [channel_finish, hsettle]; exact modTable_get_same ..
    · rw [finish_doors, hsettle]; rfl
    · rw [finish_doors, hsettle]; rfl

end Sys2Proof.Machine

/-! What the doors, the Door Sequencer, Launch Control and the arbiter do to the rest of the part: they report causes, end conditions and move
the caps, and leave the Supervisor, the rope and the calls otherwise alone. -/

namespace Sys2Proof.Machine

/-! ### Work that tells the Supervisor -/

/-- From one part to another by reports, ended conditions of the retainer, changes of the caps but HOLD, and steps of `R`. -/
inductive Told (R : Part → Part → Prop) : Part → Part → Prop
  | aside {p q : Part} : R p q → Told R p q
  | report (k : CauseKind) (n : Nat) (c : Category) (b : Bool) (p : Part) : Told R p (report k n c b p)
  | gone (n : Nat) (p : Part) : Told R p (gone .releaseTimeout n p)
  | caps (c : Caps) (p : Part) : c.hold = p.sup.caps.hold → Told R p (setCaps c p)
  | trans {p q r : Part} : Told R p q → Told R q r → Told R p r

theorem Told.mono {R S : Part → Part → Prop} (hsub : ∀ p q, R p q → S p q) {p q : Part} (h : Told R p q) : Told S p q := by
  induction h with
  | aside h => exact .aside (hsub _ _ h)
  | report => exact .report ..
  | gone => exact .gone ..
  | caps c p h => exact .caps c p h
  | trans _ _ ih ig => exact ih.trans ig

/-- A relation that reports, ended conditions, caps and `R` keep, and that composes. -/
theorem Told.relates {R S : Part → Part → Prop} (haside : ∀ p q, R p q → S p q) (hreport : ∀ k n c b p, S p (Machine.report k n c b p))
    (hgone : ∀ n p, S p (Machine.gone .releaseTimeout n p)) (hcaps : ∀ c p, c.hold = p.sup.caps.hold → S p (setCaps c p)) (htrans : ∀ {p q r}, S p q → S q r → S p r)
    {p q : Part} (h : Told R p q) : S p q := by
  induction h with
  | aside h => exact haside _ _ h
  | report => exact hreport ..
  | gone => exact hgone ..
  | caps c p h => exact hcaps c p h
  | trans _ _ ih ig => exact htrans ih ig

/-- What Launch Control's conditions are judged by (R65), but for the line and the clock. -/
structure HoldInputs (p q : Part) : Prop where
  mode : q.sup.mode = p.sup.mode
  profile : activeProfile q.sup = activeProfile p.sup
  queue : q.track.queue.map QueueEntry.listing = p.track.queue.map QueueEntry.listing
  door : ∀ k, (cabin q k).door = (cabin p k).door
  gap : q.launch.gapRestarted = p.launch.gapRestarted
  view : q.rope.view = p.rope.view
  state : q.launch.state = p.launch.state

theorem HoldInputs.refl (p : Part) : HoldInputs p p := ⟨rfl, rfl, rfl, fun _ => rfl, rfl, rfl, rfl⟩

theorem HoldInputs.trans {p q r : Part} (h : HoldInputs p q) (g : HoldInputs q r) : HoldInputs p r where
  mode := g.mode.trans h.mode
  profile := g.profile.trans h.profile
  queue := g.queue.trans h.queue
  door k := (g.door k).trans (h.door k)
  gap := g.gap.trans h.gap
  view := g.view.trans h.view
  state := g.state.trans h.state

/-- Either Launch Control is called to judge, or nothing of what it judges by has changed and no call has been lost (R65). -/
def Heeds (p q : Part) : Prop := q.work.launch = true ∨ (q.work.launch = p.work.launch ∧ HoldInputs p q)

namespace Heeds

theorem refl (p : Part) : Heeds p p := .inr ⟨rfl, .refl p⟩

theorem trans {p q r : Part} (h : Heeds p q) (g : Heeds q r) : Heeds p r := by
  obtain g | ⟨gcall, ginputs⟩ := g
  · exact .inl g
  · exact h.imp (fun h => gcall.trans h) fun ⟨hcall, hinputs⟩ => ⟨gcall.trans hcall, hinputs.trans ginputs⟩

theorem of_eq {p q : Part} (hcall : q.work.launch = p.work.launch) (hsup : q.sup = p.sup) (htrack : q.track = p.track)
    (hcabins : q.cabins = p.cabins) (hlaunch : q.launch = p.launch) (hrope : q.rope = p.rope) : Heeds p q :=
  .inr ⟨hcall, by rw [hsup], by rw [hsup], by rw [htrack], fun k => by rw [cabin_of_cabins_eq hcabins], by rw [hlaunch], by rw [hrope],
    by rw [hlaunch]⟩

/-- A call for Launch Control stays. -/
theorem called {p q : Part} (h : Heeds p q) (hp : p.work.launch = true) : q.work.launch = true := by
  obtain h | ⟨h, -⟩ := h
  · exact h
  · exact h.trans hp

end Heeds

/-- The Supervisor, the rope, the calls, the channels' configurations and inputs are the same, attention bits stay, and the actions are of
channels that had one. -/
structure Apart (p q : Part) : Prop where
  sup : q.sup = p.sup
  rope : q.rope = p.rope
  calls : q.calls = p.calls
  bits : BitsStay p.window q.window
  config : ∀ n, (channel q n).config = (channel p n).config
  actions : ∀ a ∈ q.sequencer.actions, ∃ b ∈ p.sequencer.actions, b.channel = a.channel

/-- And Launch Control's conditions are heeded. -/
structure Aside (p q : Part) : Prop extends Apart p q where
  heeds : Heeds p q

theorem Apart.refl (p : Part) : Apart p p := ⟨rfl, rfl, rfl, fun _ h => h, fun _ => rfl, fun a ha => ⟨a, ha, rfl⟩⟩

/-- What tells the Supervisor by `Apart` steps. -/
abbrev Works (p q : Part) : Prop := Told Apart p q

theorem Works.refl (p : Part) : Works p p := .aside (.refl p)

/-- A change outside the doors and the actions. -/
theorem works_of_eq {p q : Part} (hsup : q.sup = p.sup) (hrope : q.rope = p.rope) (hcalls : q.calls = p.calls)
    (hchannels : q.doors.channels = p.doors.channels) (hactions : q.sequencer.actions = p.sequencer.actions)
    (hbits : BitsStay p.window q.window) : Works p q :=
  .aside ⟨hsup, hrope, hcalls, hbits, fun n => by rw [channel, hchannels, channel], fun a ha => ⟨a, hactions ▸ ha, rfl⟩⟩

theorem works_modLaunch (f : Launch → Launch) (p : Part) : Works p (modLaunch f p) := works_of_eq rfl rfl rfl rfl rfl (.of_eq rfl)

theorem works_callLaunch (p : Part) : Works p (callLaunch p) := works_of_eq rfl rfl rfl rfl rfl (.of_eq rfl)

/-- What tells the Supervisor by `Aside` steps. -/
abbrev Stirs (p q : Part) : Prop := Told Aside p q

theorem Stirs.refl (p : Part) : Stirs p p := .aside ⟨.refl p, .refl p⟩

theorem Stirs.works {p q : Part} (h : Stirs p q) : Works p q := h.mono fun _ _ h => h.toApart

/-- A change outside the doors and the actions. -/
theorem stirs_of_eq {p q : Part} (hsup : q.sup = p.sup) (hrope : q.rope = p.rope) (hcalls : q.calls = p.calls)
    (hchannels : q.doors.channels = p.doors.channels) (hactions : q.sequencer.actions = p.sequencer.actions)
    (hbits : BitsStay p.window q.window) (hheeds : Heeds p q := by exact .of_eq rfl rfl rfl rfl rfl rfl) : Stirs p q :=
  .aside ⟨⟨hsup, hrope, hcalls, hbits, fun n => by rw [channel, hchannels, channel], fun a ha => ⟨a, hactions ▸ ha, rfl⟩⟩, hheeds⟩

theorem stirs_attend (a : Attn) (p : Part) : Stirs p (attend a p) := stirs_of_eq rfl rfl rfl rfl rfl (attend_bitsStay a p)

theorem answer_bits (i : SlotNo) (r : Result) (d : Nat) (p : Part) : BitsStay p.window (answer i r d p).window :=
  fun n h => by simp [answer, h]

theorem stirs_answer (i : SlotNo) (r : Result) (d : Nat) (p : Part) : Stirs p (answer i r d p) :=
  stirs_of_eq (by simp) (by simp) (by simp) (by simp) (by simp) (answer_bits i r d p)
    (.of_eq (by simp) (by simp) (by simp) (by simp) (by simp) (by simp))

theorem stirs_setProgress (i : SlotNo) (n : Nat) (p : Part) : Stirs p (setProgress i n p) :=
  stirs_of_eq rfl rfl rfl rfl rfl (.of_eq rfl)

theorem stirs_setDoor (k : Nat) (d : CabinDoor) (p : Part) : Stirs p (setDoor k d p) :=
  stirs_of_eq (by simp) (by simp) (by simp) (by simp) (by simp) (.of_eq (by simp)) (.inl rfl)

theorem stirs_modChannel (n : ChannelNo) (f : Channel → Channel) (p : Part)
    (h : ∀ c, (f c).config = c.config := by exact fun _ => rfl) : Stirs p (modChannel n f p) :=
  .aside ⟨⟨rfl, rfl, rfl, .of_eq rfl, fun m => by
    by_cases hm : m = n
    · rw [hm, channel_modChannel_same, h]
    · rw [channel_modChannel_ne _ _ _ _ hm], fun a ha => ⟨a, ha, rfl⟩⟩, .of_eq rfl rfl rfl rfl rfl rfl⟩

theorem stirs_modSeq {f : Sequencer → Sequencer} {p : Part} (h : ∀ a ∈ (f p.sequencer).actions, ∃ b ∈ p.sequencer.actions, b.channel = a.channel) :
    Stirs p (modSeq f p) :=
  .aside ⟨⟨rfl, rfl, rfl, .of_eq rfl, fun _ => rfl, h⟩, .of_eq rfl rfl rfl rfl rfl rfl⟩

theorem stirs_modSeq_same (f : Sequencer → Sequencer) (p : Part) (h : (f p.sequencer).actions = p.sequencer.actions := by rfl) :
    Stirs p (modSeq f p) :=
  stirs_modSeq fun a ha => ⟨a, h ▸ ha, rfl⟩

theorem stirs_callLaunch (p : Part) : Stirs p (callLaunch p) := stirs_of_eq rfl rfl rfl rfl rfl (.of_eq rfl) (.inl rfl)
theorem stirs_callArbiter (p : Part) : Stirs p (callArbiter p) := stirs_of_eq rfl rfl rfl rfl rfl (.of_eq rfl)
theorem stirs_callSequencer (p : Part) : Stirs p (callSequencer p) := stirs_of_eq rfl rfl rfl rfl rfl (.of_eq rfl)

theorem stirs_foldl {α : Type} {f : Part → α → Part} (h : ∀ p a, Stirs p (f p a)) (l : List α) (p : Part) : Stirs p (l.foldl f p) :=
  List.foldlRecOn (motive := fun q => Stirs p q) l f (Stirs.refl p) fun q hq a _ => hq.trans (h q a)

/-! ### The doors -/

section
variable (n : ChannelNo)

theorem stirs_handOutcome (o : DoorOutcome) (p : Part) : Stirs p (handOutcome n o p) := by
  unfold handOutcome
  split
  · exact .refl p
  next f hf =>
    have counted : Stirs p { p with sequencer := countOutcome o { p.sequencer with flights := modTable p.sequencer.flights n (fun _ => none) } } :=
      stirs_of_eq rfl rfl rfl rfl (by cases o <;> rfl) (.of_eq rfl)
    dsimp only
    split
    · refine counted.trans ?_
      unfold writeOutcome
      dsimp only
      split
      · exact (stirs_setDoor ..).trans (stirs_attend ..)
      · exact stirs_setDoor ..
    · exact counted

theorem stirs_tellOwner (o : DoorOutcome) (p : Part) : Stirs p (tellOwner n o p) := by
  have freed : Stirs p (modChannel n (fun c => { c with owner := .none }) p) := stirs_modChannel ..
  unfold tellOwner
  dsimp only
  split
  · exact freed
  · exact freed
  · exact freed.trans (stirs_answer ..)
  · exact freed.trans (stirs_handOutcome ..)

theorem stirs_endOperation (o : DoorOutcome) (p : Part) : Stirs p (endOperation n o p) :=
  (stirs_tellOwner n o p).trans (stirs_modChannel ..)

theorem stirs_joinQueue (p : Part) : Stirs p (joinQueue n p) := stirs_of_eq rfl rfl rfl rfl rfl (.of_eq rfl)

theorem stirs_leaveQueue (p : Part) : Stirs p (leaveQueue n p) := stirs_of_eq rfl rfl rfl rfl rfl (.of_eq rfl)

theorem stirs_stopOutputs (p : Part) : Stirs p (stopOutputs n p) := stirs_modChannel ..

theorem stirs_restIn (st : DoorState) (p : Part) : Stirs p (restIn n st p) := by
  have entered : Stirs p (modChannel n (fun c => { c with state := st }) p) := stirs_modChannel ..
  unfold restIn
  dsimp only
  split
  · exact entered.trans (stirs_callSequencer _)
  · exact entered

theorem stirs_refreshDoorCap (p : Part) : Stirs p (refreshDoorCap p) := .caps _ p rfl

theorem stirs_enterFault (why : DoorReason) (p : Part) : Stirs p (enterFault n why p) := by
  have faulted : Stirs p (attend .door (endOperation n (.failed why)
      (modChannel n (fun c => { c with state := .fault, lastReason := why, faults := count16 c.faults })
        (leaveQueue n (stopOutputs n p))))) :=
    (stirs_stopOutputs n p).trans <| (stirs_leaveQueue n _).trans <| Told.trans (stirs_modChannel ..) <|
      (stirs_endOperation n _ _).trans (stirs_attend ..)
  unfold enterFault
  dsimp only
  split
  · exact faulted.trans (stirs_refreshDoorCap _)
  · exact faulted.trans (Told.trans (.report ..) (stirs_refreshDoorCap _))

theorem stirs_enterWaiting (m : Motion) (p : Part) : Stirs p (enterWaiting n m p) :=
  Told.trans (stirs_modChannel ..) (stirs_joinQueue n _)

theorem stirs_finishAt (e : End) (o : DoorOutcome) (p : Part) : Stirs p (finishAt n e o p) :=
  (stirs_restIn n _ p).trans (stirs_endOperation n o _)

theorem stirs_enterLocking (p : Part) : Stirs p (enterLocking n p) := by
  have noted := stirs_modChannel n (fun c => { c with
    state := .locking, waits := .none, motor := none, lockRel := false, since := p.clock.now }) p
  unfold enterLocking
  dsimp only
  split
  · exact noted.trans (stirs_finishAt ..)
  · exact noted

theorem stirs_enterUnlocking (p : Part) : Stirs p (enterUnlocking n p) := by
  have noted := stirs_modChannel n (fun c => { c with state := .unlocking, lockRel := true, since := p.clock.now }) p
  unfold enterUnlocking
  dsimp only
  split
  · exact noted
  · exact noted.trans (stirs_enterWaiting ..)

theorem stirs_automaticReturn (p : Part) : Stirs p (automaticReturn n p) :=
  Told.trans (stirs_modChannel ..) (stirs_enterWaiting ..)

theorem stirs_arriveMove (e : End) (p : Part) : Stirs p (arriveMove n e p) := by
  unfold arriveMove
  dsimp only
  refine (stirs_stopOutputs n p).trans ?_
  split
  · exact stirs_enterLocking n _
  · split
    · exact (stirs_endOperation n _ _).trans (stirs_automaticReturn n _)
    · exact stirs_finishAt n _ _ _

theorem stirs_retryMove (p : Part) : Stirs p (retryMove n p) := by
  have counted := stirs_modChannel n (fun c => { c with retriesUsed := c.retriesUsed + 1 }) p
  unfold retryMove
  dsimp only
  refine counted.trans ?_
  split
  · exact (stirs_setProgress ..).trans (stirs_enterWaiting ..)
  · exact stirs_enterWaiting ..

theorem stirs_enterDwell (p : Part) : Stirs p (enterDwell n p) := by
  have noted := stirs_modChannel n (fun c => { c with state := .reopenDwell, waits := .none, since := p.clock.now }) p
  unfold enterDwell
  dsimp only
  split
  · exact noted.trans (stirs_retryMove n _)
  · exact noted

theorem stirs_arriveReversal (p : Part) : Stirs p (arriveReversal n p) := by
  unfold arriveReversal
  dsimp only
  refine (stirs_stopOutputs n p).trans ?_
  split
  · exact stirs_enterDwell n _
  · split
    · exact Told.trans (stirs_modChannel ..) ((stirs_finishAt ..).trans (stirs_attend ..))
    · exact stirs_enterFault n _ _

theorem stirs_startMotion (p : Part) : Stirs p (startMotion n p) := by
  have begun := stirs_modChannel n (motionStarted p.clock.now) p
  rw [startMotion_eq]
  split
  · split
    · exact begun.trans (stirs_arriveReversal n _)
    · exact begun.trans (stirs_arriveMove n _ _)
  · exact begun

theorem stirs_operateFromRest (t : End) (p : Part) : Stirs p (operateFromRest n t p) := by
  unfold operateFromRest
  dsimp only
  split
  · exact stirs_finishAt ..
  · split
    · exact stirs_enterUnlocking n p
    · exact stirs_enterWaiting ..

theorem stirs_turnBack (t : End) (p : Part) : Stirs p (turnBack n t p) := by
  unfold turnBack
  dsimp only
  refine (stirs_stopOutputs n p).trans ?_
  split
  · exact stirs_arriveMove n _ _
  · exact stirs_enterWaiting ..

theorem stirs_retarget (t : End) (p : Part) : Stirs p (retarget n t p) := by
  unfold retarget
  split
  · exact (stirs_leaveQueue n p).trans (stirs_arriveMove n _ _)
  · exact stirs_modChannel ..

theorem stirs_operateTakeover (t : End) (p : Part) : Stirs p (operateTakeover n t p) := by
  unfold operateTakeover
  dsimp only
  split
  · split
    · exact .refl p
    · exact stirs_enterLocking n p
  · exact stirs_retarget ..
  · split
    · exact .refl p
    · exact stirs_turnBack ..
  · split
    · exact .refl p
    · exact stirs_turnBack ..
  · split
    · exact stirs_modChannel ..
    · exact stirs_turnBack ..
  · split
    · exact stirs_finishAt ..
    · exact stirs_enterWaiting ..
  · split
    · exact .refl p
    · exact stirs_enterUnlocking n p
  · exact stirs_operateFromRest ..

theorem stirs_takeOperation (t : End) {claim : Part → Part} (hclaim : ∀ p, Stirs p (claim p)) (p : Part) :
    Stirs p (takeOperation n t claim p) :=
  (stirs_tellOwner n _ p).trans <| (hclaim _).trans <| Told.trans (stirs_modChannel ..) (stirs_operateTakeover n t _)

end

/-! ### The judgements -/

theorem works_judgeLaunch (p : Part) : Works p (judgeLaunch p) := by
  simp only [judgeLaunch, requestRelease, removeRequest, modLaunch, callArbiter]
  (repeat' split) <;> exact works_of_eq rfl rfl rfl rfl rfl (.of_eq rfl)

theorem works_judgeWatch (p : Part) : Works p (judgeWatch p) := by
  unfold judgeWatch
  split
  · exact (works_modLaunch _ p).trans (.report ..)
  · split
    · exact (works_modLaunch _ p).trans (.gone ..)
    · exact .refl p

theorem works_grantRetainer (p : Part) : Works p (grantRetainer p) := by
  unfold grantRetainer
  split
  · exact (works_modLaunch _ p).trans ((works_judgeWatch _).trans (works_callLaunch _))
  · exact .refl p

theorem works_judgeArbiter (p : Part) : Works p (judgeArbiter p) := by
  unfold judgeArbiter
  split
  · exact .refl p
  next r rest _ =>
    split
    · have recorded : Works p { p with doors := recordGrant r p.clock.now { p.doors with queue := rest } } :=
        works_of_eq rfl rfl rfl rfl rfl (.of_eq rfl)
      refine recorded.trans (Told.trans ?_ (stirs_callArbiter _).works)
      cases r with
      | door n => exact (stirs_startMotion n _).works
      | retainer => exact works_grantRetainer _
    · exact .refl p

theorem stirs_claimForAction (a : Action) (p : Part) : Stirs p (claimForAction a p) :=
  Told.trans (stirs_modSeq_same ..) (stirs_modChannel ..)

theorem stirs_issueAction (a : Action) (p : Part) : Stirs p (issueAction a p) := by
  unfold issueAction
  split
  · exact Told.trans (stirs_modSeq_same ..) (stirs_handOutcome ..)
  · exact stirs_takeOperation _ _ (stirs_claimForAction a) p

/-- The actions that a judgement keeps are those of the list, perhaps marked. -/
theorem stirs_judgeActions (b : Bool) (l : List Action) : ∀ (served : List ChannelNo) (p : Part), Stirs p (judgeActions b served l p).2 ∧
    ∀ a ∈ (judgeActions b served l p).1, ∃ x ∈ l, x.channel = a.channel := by
  induction l with
  | nil => exact fun _ p => ⟨.refl p, fun a ha => ⟨a, ha, rfl⟩⟩
  | cons a t ih =>
    intro served p
    have tail {q : Part} {served : List ChannelNo} (x : Action) (hx : x ∈ (judgeActions b served t q).1) :
        ∃ y ∈ a :: t, y.channel = x.channel := by
      obtain ⟨y, hy, hxy⟩ := (ih served q).2 x hx
      exact ⟨y, List.mem_cons_of_mem _ hy, hxy⟩
    unfold judgeActions
    dsimp only
    split
    · exact ⟨(ih _ p).1, List.forall_mem_cons.mpr ⟨⟨a, List.mem_cons_self, rfl⟩, tail⟩⟩
    · split
      · exact ⟨Told.trans (stirs_modSeq_same ..) (ih _ _).1, tail⟩
      · split
        · exact ⟨(stirs_issueAction a p).trans (ih _ _).1, tail⟩
        · split
          · exact ⟨(stirs_issueAction a p).trans (ih _ _).1, tail⟩
          · exact ⟨(ih _ p).1, List.forall_mem_cons.mpr ⟨⟨a, List.mem_cons_self, rfl⟩, tail⟩⟩

theorem stirs_judgeSequencer (b : Bool) (p : Part) : Stirs p (judgeSequencer b p) := by
  obtain ⟨hjudged, hkept⟩ := stirs_judgeActions b p.sequencer.actions [] p
  have hsame : (judgeActions b [] p.sequencer.actions p).2.sequencer.actions = p.sequencer.actions := by simp
  unfold judgeSequencer
  refine hjudged.trans (stirs_modSeq ?_)
  rw [hsame]
  exact hkept

theorem works_settleOnce (p : Part) : Works p (settleOnce p) := by
  have noted (w : Work) : Works p { p with work := w } := works_of_eq rfl rfl rfl rfl rfl (.of_eq rfl)
  unfold settleOnce
  split
  · exact (noted _).trans (works_judgeLaunch _)
  · split
    · exact (noted _).trans (works_judgeArbiter _)
    · split
      · exact (noted _).trans (stirs_judgeSequencer ..).works
      · exact .refl p

theorem works_settle (p : Part) : Works p (settle 64 p) :=
  settle_keeps (P := Works p) (fun _ h => h.trans (works_settleOnce _)) (fun _ h => h.trans (works_judgeLaunch _)) 64 (.refl p)

/-! ### What they keep -/

theorem Works.bits {p q : Part} (h : Works p q) : BitsStay p.window q.window :=
  h.relates (S := fun p q => BitsStay p.window q.window) (fun _ _ h => h.bits) report_bitsStay
    (fun n p => (gone_undisturbed _ n p).2.2.2.2) (fun c p _ => (setCaps_undisturbed c p).2.2.2.2) (fun h g => h.trans g)

/-- The configurations of the channels, and what has become of the actions. -/
theorem Works.doors {p q : Part} (h : Works p q) : (∀ n, (channel q n).config = (channel p n).config) ∧
    ∀ a ∈ q.sequencer.actions, ∃ b ∈ p.sequencer.actions, b.channel = a.channel := by
  have told {p q : Part} (hdoors : q.doors = p.doors) (hseq : q.sequencer = p.sequencer) :
      (∀ n, (channel q n).config = (channel p n).config) ∧ ∀ a ∈ q.sequencer.actions, ∃ b ∈ p.sequencer.actions, b.channel = a.channel :=
    ⟨fun n => by rw [channel_of_doors_eq hdoors], fun a ha => ⟨a, hseq ▸ ha, rfl⟩⟩
  refine h.relates (S := fun p q => (∀ n, (channel q n).config = (channel p n).config) ∧
    ∀ a ∈ q.sequencer.actions, ∃ b ∈ p.sequencer.actions, b.channel = a.channel) (fun _ _ h => ⟨h.config, h.actions⟩)
    (fun k n c b p => told (by simp) (by simp)) (fun n p => told (by simp) (by simp)) (fun c p _ => told (by simp) (by simp)) ?_
  rintro p q r ⟨hconfig, hactions⟩ ⟨gconfig, gactions⟩
  refine ⟨fun n => (gconfig n).trans (hconfig n), fun a ha => ?_⟩
  obtain ⟨b, hb, hba⟩ := gactions a ha
  obtain ⟨c, hc, hcb⟩ := hactions b hb
  exact ⟨c, hc, hcb.trans hba⟩

/-- C depends on the mode, the caps and the active profile alone. -/
theorem Composed.congr {u v : Supervisor} (h : Composed u) (hmode : v.mode = u.mode) (hcaps : v.caps = u.caps)
    (hprofile : activeProfile v = activeProfile u) (hceiling : v.ceiling = u.ceiling) : Composed v := by
  rw [Composed, hceiling, h]
  simp only [composedCeiling, hmode, hcaps, hprofile]

theorem changeMode_same {m : Mode} {p : Part} (h : p.sup.mode = m) : changeMode m p = p := by
  rw [changeMode_enters (by rw [← h]; cases p.sup.mode <;> simp [Mode.isStopping]), enterMode_same h]

theorem changeMode_keeps_composed (m : Mode) {p : Part} (h : Composed p.sup) : Composed (changeMode m p).sup := by
  by_cases hm : p.sup.mode = m
  · rwa [changeMode_same hm]
  · exact changeMode_composed hm

theorem report_keeps_composed (k : CauseKind) (n : Nat) (c : Category) (b : Bool) {p : Part} (h : Composed p.sup) :
    Composed (report k n c b p).sup := by
  rw [report_eq]
  have hnoted : (causeNoted k n c b p).sup = enterCause k n c b p.clock.now p.sup := rfl
  have hkept := enterCause_kept k n c b p.clock.now p.sup
  rw [← hnoted] at hkept
  refine changeMode_keeps_composed _ (h.congr (causeNoted_mode ..) ?_ ?_ ?_)
  · rw [hkept]
  · rw [hkept]; rfl
  · rw [hkept]

theorem gone_keeps_composed (k : CauseKind) (n : Nat) {p : Part} (h : Composed p.sup) : Composed (gone k n p).sup := by
  rw [gone_sup]
  exact h.congr rfl rfl rfl rfl

theorem setCaps_keeps_composed (c : Caps) {p : Part} (h : Composed p.sup) : Composed (setCaps c p).sup := by
  rw [setCaps_sup]
  split
  · exact h
  · rfl

theorem Works.composed {p q : Part} (h : Works p q) : Composed p.sup → Composed q.sup :=
  h.relates (S := fun p q => Composed p.sup → Composed q.sup) (fun _ _ (h : Apart _ _) hp => by rw [h.sup]; exact hp)
    (fun k n c b _ hp => report_keeps_composed k n c b hp) (fun n _ hp => gone_keeps_composed _ n hp)
    (fun c _ _ hp => setCaps_keeps_composed c hp) (fun h g hp => g (h hp))

end Sys2Proof.Machine

/-! DOOR_CONFIGURE (R79, R80). -/

namespace Sys2Proof.Machine

/-! ### The actions removed -/

theorem countRemoval_actions (p : Part) (a : Action) : (countRemoval p a).sequencer.actions = p.sequencer.actions := by
  simp only [countRemoval, loseDoor, modSeq]
  split <;> simp

theorem removeActions_actions (which : Action → Bool) (quiet : Bool) (p : Part) :
    (removeActions which quiet p).sequencer.actions = p.sequencer.actions.filter (fun a => !which a) := by
  have folded (l : List Action) (q : Part) : (l.foldl countRemoval q).sequencer.actions = q.sequencer.actions :=
    List.foldlRecOn (motive := fun r : Part => r.sequencer.actions = q.sequencer.actions) l countRemoval rfl
      fun r hr a _ => (countRemoval_actions r a).trans hr
  unfold removeActions
  dsimp only
  split
  next hnone =>
    symm
    rw [List.filter_eq_self]
    intro a ha
    have hempty : p.sequencer.actions.filter which = [] := by simpa using hnone
    simpa using (List.filter_eq_nil_iff.mp hempty) a ha
  · split <;> simp [folded, modSeq]

theorem removeActions_bits (which : Action → Bool) (quiet : Bool) (p : Part) :
    BitsStay p.window (removeActions which quiet p).window := by
  have counted (q : Part) (a : Action) : BitsStay q.window (countRemoval q a).window := by
    refine .of_eq ?_
    simp only [countRemoval, loseDoor, modSeq]
    split <;> simp
  have folded (l : List Action) (q : Part) : BitsStay q.window (l.foldl countRemoval q).window :=
    List.foldlRecOn (motive := fun r : Part => BitsStay q.window r.window) l countRemoval (fun _ h => h)
      fun r hr a _ => hr.trans (counted r a)
  unfold removeActions
  dsimp only
  split
  · exact fun _ h => h
  · have removed := folded (p.sequencer.actions.filter which) (modSeq (fun s => { s with actions := s.actions.filter (fun a => !which a) }) p)
    split
    · exact removed
    · exact BitsStay.trans removed (attend_bitsStay _ _)

theorem removeActions_still (which : Action → Bool) (quiet : Bool) (p : Part) : (removeActions which quiet p).still = p.still := by
  have counted (q : Part) (a : Action) : (countRemoval q a).still = q.still := by
    simp only [countRemoval, loseDoor, still_modSeq]
    split <;> simp
  have folded (l : List Action) (q : Part) : (l.foldl countRemoval q).still = q.still :=
    List.foldlRecOn (motive := fun r : Part => r.still = q.still) l countRemoval rfl fun r hr a _ => (counted r a).trans hr
  unfold removeActions
  dsimp only
  (repeat' split) <;> simp [folded]

/-! ### An order that leaves the part outside RUN with Launch Control's judgement alone -/

/-- The order is answered, and what its block leaves stands but for a release request taken back. -/
theorem atOnce_alone {i : SlotNo} {k : Byte} {body : Slot → Part → Reply} {s : State} {r : Result} {d : Nat} {q : Part}
    (hnext : OrderNext i k s) (hbody : body (slotOf s.part i) (takeHead i s.part) = { result := r, detail := d, part := q })
    (hwindow : WindowKept (takeHead i s.part) q) (harb : q.work.arbiter = false) (hseq : q.work.sequencer = false)
    (hmode : q.sup.mode ≠ .run) :
    ∃ t, atOnce i k body s = .next t ∧ Answers i r d s t ∧ WindowFrame i s t ∧ t = { s with part := finish (answer i r d q) } ∧
      LaunchAlone (answer i r d q) (settle 64 (answer i r d q)) := by
  obtain ⟨hready, hhead, hkind⟩ := hnext
  obtain ⟨alone, -⟩ := settle_outside_run (p := answer i r d q) hmode harb hseq
  have hsettled : (settle 64 (answer i r d q)).window = (answer i r d q).window := by rw [alone.1]
  obtain ⟨hanswers, hframe⟩ := answers_finish (i := i) (r := r) (d := d) (s := s) hwindow (.of_eq hsettled)
    (by rw [hsettled]; simp [answer, Attn.bit])
  refine ⟨_, atOnce_acts hready.1 hhead hkind, ?_⟩
  rw [hbody]
  exact ⟨hanswers, hframe, rfl, alone⟩

/-- The frame where Launch Control and its place in the start queue are among what may change. -/
theorem LaunchAlone.frame {s : State} {q : Part} {changed : List Block} (hready : Ready s) (alone : LaunchAlone q (settle 64 q))
    (hkept : ∀ b ∈ Block.all, b ∉ changed → Part.same b s.part q) (hlaunch : Block.launch ∈ changed) (hdoors : Block.doors ∈ changed) :
    Frame changed s { s with part := finish q } := by
  refine frame_finish hready fun b hb hc => ?_
  have hsame := hkept b hb hc
  rw [alone.1]
  cases b with
  | launch => exact absurd hlaunch hc
  | doors => exact absurd hdoors hc
  | _ => exact hsame

/-! ### The channel configured -/

theorem noneState_eq (a b : Bool) :
    noneState a b = if a = true ∧ b = false then .atA else if b = true ∧ a = false then .atB else .unknown := by
  cases a <;> cases b <;> rfl

/-- The channel after its configuration is replaced (R80, R81). -/
def configuredChannel (cfg : DoorConfig) (c : Channel) : Channel :=
  if c.state = .fault ∧ cfg.kind = .none then { c with config := cfg, state := noneState c.limA.high c.limB.high } else { c with config := cfg }

/-- The part with the configuration replaced and the actions of a changed kind removed. -/
def reconfigured (n : ChannelNo) (cfg : DoorConfig) (p : Part) : Part :=
  let q := attend .door (modChannel n (fun c => { c with config := cfg }) p)
  if (channel p n).config.kind ≠ cfg.kind then removeActions (fun a => a.channel == n) false q else q

theorem configureDoor_eq (n : ChannelNo) (cfg : DoorConfig) (p : Part) :
    configureDoor n cfg p = refreshDoorCap (leaveFaultAsNone n (reconfigured n cfg p)) := by
  simp only [configureDoor, reconfigured, bne_iff_ne]

section
variable (n : ChannelNo) (cfg : DoorConfig) (p : Part)

theorem reconfigured_kept : ActionKeeps { p with doors := { p.doors with channels := modTable p.doors.channels n (fun c => { c with config := cfg }) } }
    (reconfigured n cfg p) := by
  unfold reconfigured
  dsimp only
  split <;> simp [ActionKeeps, SequencerKeeps, PortKept]

theorem reconfigured_bits : (reconfigured n cfg p).window.attention.getLsbD 5 = true ∧ BitsStay p.window (reconfigured n cfg p).window := by
  have attended (q : Part) : (attend .door q).window.attention.getLsbD 5 = true := by simp [Attn.bit]
  unfold reconfigured
  dsimp only
  split
  · exact ⟨removeActions_bits _ _ _ 5 (attended _), BitsStay.trans (attend_bitsStay .door (modChannel n _ p)) (removeActions_bits _ _ _)⟩
  · exact ⟨attended _, attend_bitsStay .door (modChannel n _ p)⟩

theorem reconfigured_actions : (reconfigured n cfg p).sequencer.actions =
    if (channel p n).config.kind ≠ cfg.kind then p.sequencer.actions.filter (fun a => !(a.channel == n)) else p.sequencer.actions := by
  unfold reconfigured
  dsimp only
  split
  · exact removeActions_actions ..
  · rfl

/-- What the parts of DOOR_CONFIGURE leave. -/
structure ConfigureKeeps (p q : Part) : Prop where
  window : WindowKept p q
  bits : BitsStay p.window q.window
  same : ∀ b ∉ [Block.window, .cabins, .rope, .doors, .sequencer, .sup], Part.same b p q
  arbiter : q.work.arbiter = p.work.arbiter
  mode : q.sup.mode = p.sup.mode
  queue : q.doors.queue = p.doors.queue

theorem ConfigureKeeps.refl (p : Part) : ConfigureKeeps p p :=
  ⟨.of_eq rfl, .of_eq rfl, fun b _ => by cases b <;> rfl, rfl, rfl, rfl⟩

theorem ConfigureKeeps.trans {p q r : Part} (h : ConfigureKeeps p q) (g : ConfigureKeeps q r) : ConfigureKeeps p r := by
  refine ⟨h.window.trans g.window, h.bits.trans g.bits, fun b hb => ?_, g.arbiter.trans h.arbiter, g.mode.trans h.mode, g.queue.trans h.queue⟩
  have hsame := h.same b hb
  have gsame := g.same b hb
  cases b <;> exact gsame.trans hsame

/-- A change of the Supervisor that is no change of mode. -/
theorem Undisturbed.configure {p q : Part} (h : Undisturbed p q) : ConfigureKeeps p q := by
  have hwindow := h.windowKept
  obtain ⟨hkeeps, hcalls, hwork, hmode, hbits⟩ := h
  refine ⟨hwindow, hbits, fun b hb => ?_, by rw [hwork], hmode, ?_⟩
  · by_cases hc : b = .calls
    · subst hc; exact hcalls
    · exact same_of_supKeeps hkeeps (by revert hb hc; cases b <;> simp)
  · obtain ⟨-, -, -, -, -, -, hdoors, -⟩ := hkeeps
    rw [hdoors]

theorem restIn_configure (st : DoorState) : ConfigureKeeps p (restIn n st p) := by
  refine ⟨.of_eq (by simp), .of_eq (by simp), fun b hb => ?_, by simp, by simp, by simp⟩
  cases b <;> simp at hb <;> simp [Part.same]

theorem reconfigured_configure : ConfigureKeeps p (reconfigured n cfg p) := by
  have hkept := reconfigured_kept n cfg p
  simp only [ActionKeeps, SequencerKeeps] at hkept
  refine ⟨?_, (reconfigured_bits n cfg p).2, fun b hb => ?_, by simp only [hkept], by simp only [hkept], by simp only [hkept]⟩
  · simp only [WindowKept, PortKept, hkept]
    exact ⟨trivial, trivial, trivial, trivial, trivial, trivial⟩
  · cases b <;> simp at hb <;> simp only [Part.same, hkept]

theorem leaveFaultAsNone_stays {q : Part} (h : ¬ ((channel q n).state = .fault ∧ (channel q n).config.kind = .none)) :
    leaveFaultAsNone n q = q := by
  unfold leaveFaultAsNone
  dsimp only
  rw [if_neg (by simpa using h)]

theorem leaveFaultAsNone_leaves {q : Part} (h : (channel q n).state = .fault ∧ (channel q n).config.kind = .none) :
    leaveFaultAsNone n q = gone .doorFault n.val (restIn n (noneState (channel q n).limA.high (channel q n).limB.high) q) := by
  simp [leaveFaultAsNone, h]

theorem leaveFaultAsNone_configure : ConfigureKeeps p (leaveFaultAsNone n p) := by
  by_cases h : (channel p n).state = .fault ∧ (channel p n).config.kind = .none
  · rw [leaveFaultAsNone_leaves n h]
    exact (restIn_configure n p _).trans (gone_undisturbed _ _ _).configure
  · rw [leaveFaultAsNone_stays n h]
    exact .refl p

theorem configureDoor_keeps : ConfigureKeeps p (configureDoor n cfg p) := by
  rw [configureDoor_eq]
  exact ((reconfigured_configure n cfg p).trans (leaveFaultAsNone_configure n _)).trans (setCaps_undisturbed _ _).configure

theorem configureDoor_bit : (configureDoor n cfg p).window.attention.getLsbD 5 = true := by
  have hleft := (leaveFaultAsNone_configure n (reconfigured n cfg p)).bits 5 (reconfigured_bits n cfg p).1
  rw [configureDoor_eq]
  exact (setCaps_undisturbed _ _).configure.bits 5 hleft

theorem channel_reconfigured (m : ChannelNo) :
    channel (reconfigured n cfg p) m = channel (modChannel n (fun c => { c with config := cfg }) p) m := by
  obtain ⟨-, hdoors, -⟩ := reconfigured_kept n cfg p
  exact channel_of_doors_eq hdoors m

theorem channel_configureDoor : channel (configureDoor n cfg p) n = configuredChannel cfg (channel p n) ∧
    (∀ m, m ≠ n → channel (configureDoor n cfg p) m = channel p m) ∧
    (configureDoor n cfg p).sequencer.actions =
      (if (channel p n).config.kind ≠ cfg.kind then p.sequencer.actions.filter (fun a => !(a.channel == n)) else p.sequencer.actions) := by
  have hsame : channel (reconfigured n cfg p) n = { channel p n with config := cfg } := by
    rw [channel_reconfigured, channel_modChannel_same]
  have hothers (m : ChannelNo) (hm : m ≠ n) : channel (reconfigured n cfg p) m = channel p m := by
    rw [channel_reconfigured, channel_modChannel_ne _ _ _ _ hm]
  have hcap (q : Part) (m : ChannelNo) : channel (refreshDoorCap q) m = channel q m := channel_of_doors_eq (by simp) m
  rw [configureDoor_eq, hcap, refreshDoorCap]
  by_cases h : (channel p n).state = .fault ∧ cfg.kind = .none
  · rw [leaveFaultAsNone_leaves n (by rw [hsame]; exact h)]
    have hgone (q : Part) (m : ChannelNo) : channel (gone .doorFault n.val q) m = channel q m := channel_of_doors_eq (by simp) m
    refine ⟨by rw [hgone, channel_restIn_same, hsame, configuredChannel, if_pos h], fun m hm => ?_, by simp [reconfigured_actions]⟩
    rw [← refreshDoorCap, hcap, hgone, channel_restIn, channel_modChannel_ne _ _ _ _ hm, hothers m hm]
  · rw [leaveFaultAsNone_stays n (by rw [hsame]; exact h)]
    exact ⟨by rw [hsame, configuredChannel, if_neg h], fun m hm => (hcap _ m).trans (hothers m hm), by simp [reconfigured_actions]⟩

/-- The door fault is over where the channel leaves FAULT. -/
theorem configureDoor_ends (h : (channel p n).state = .fault ∧ cfg.kind = .none) :
    ¬ ConditionPresent .doorFault n.val (configureDoor n cfg p).sup := by
  have hsame : channel (reconfigured n cfg p) n = { channel p n with config := cfg } := by
    rw [channel_reconfigured, channel_modChannel_same]
  rw [configureDoor_eq, leaveFaultAsNone_leaves n (by rw [hsame]; exact h), refreshDoorCap, setDoorCap, ConditionPresent, setCaps_sup]
  split
  · exact not_present_gone _ _ _
  · exact not_present_gone _ _ _

/-- The records of the cabins keep all but their doors. -/
theorem configureDoor_still : (configureDoor n cfg p).still = p.still := by
  have hleft (q : Part) : (leaveFaultAsNone n q).still = q.still := by
    unfold leaveFaultAsNone
    dsimp only
    split <;> simp
  rw [configureDoor_eq, still_refreshDoorCap, hleft, reconfigured]
  split <;> simp [removeActions_still]

/-- Where the channel does not leave FAULT, the Door Sequencer is not called. -/
theorem configureDoor_sequencer (h : ¬ ((channel p n).state = .fault ∧ cfg.kind = .none)) :
    (configureDoor n cfg p).work.sequencer = p.work.sequencer := by
  have hsame : channel (reconfigured n cfg p) n = { channel p n with config := cfg } := by
    rw [channel_reconfigured, channel_modChannel_same]
  have hkept := reconfigured_kept n cfg p
  simp only [ActionKeeps] at hkept
  rw [configureDoor_eq, leaveFaultAsNone_stays n (by rw [hsame]; exact h)]
  simp [hkept]

end

/-! ### The order -/

theorem readChannel_none {n : Nat} (h : 7 < n) : readChannel n = none := by
  unfold readChannel
  rw [dif_neg (by omega)]

section
variable {x : Slot} {p : Part}

theorem orderDoorConfigure_channel (h : 7 < octet x 0) : orderDoorConfigure x p = refuse .refusedRange 0 p := by
  simp [orderDoorConfigure, readChannel_none h]

theorem orderDoorConfigure_error {n : ChannelNo} (hn : readChannel (octet x 0) = some n) {j : Nat} (h : readDoorConfig x = .error j) :
    orderDoorConfigure x p = refuse .refusedRange j p := by
  simp [orderDoorConfigure, hn, h]

theorem orderDoorConfigure_state {n : ChannelNo} (hn : readChannel (octet x 0) = some n) {cfg : DoorConfig} {k : Nat}
    (h : readDoorConfig x = .ok (cfg, k)) (hstate : p.sup.mode ≠ .off ∨ (channel p n).state.atRest = false) :
    orderDoorConfigure x p = refuse .refusedState 0 p := by
  have : (!isOff p || !(channel p n).state.atRest) = true := by simpa [isOff] using hstate
  simp only [orderDoorConfigure, hn, h, this, if_true]

theorem orderDoorConfigure_configures {n : ChannelNo} (hn : readChannel (octet x 0) = some n) {cfg : DoorConfig} {k : Nat}
    (h : readDoorConfig x = .ok (cfg, k)) (hmode : p.sup.mode = .off) (hrest : (channel p n).state.atRest = true) :
    orderDoorConfigure x p = { result := if k = 0 then .ok else .clamped, detail := k, part := configureDoor n cfg p } := by
  have : (!isOff p || !(channel p n).state.atRest) = false := by simp [isOff, hmode, hrest]
  simp only [orderDoorConfigure, hn, h, this, clampedBy_eq, Bool.false_eq_true, if_false]

end

theorem readDoorKind_none {n : Nat} (h : 3 < n) : readDoorKind n = none := by
  match n, h with
  | n + 4, _ => rfl

theorem readDoorKind_some {n : Nat} (h : n ≤ 3) : ∃ k, readDoorKind n = some k := by
  interval_cases n <;> exact ⟨_, rfl⟩

theorem readEnd_none {n : Nat} (h : 1 < n) : readEnd n = none := by
  match n, h with
  | n + 2, _ => rfl

theorem readEnd_some {n : Nat} (h : n ≤ 1) : ∃ e, readEnd n = some e := by
  interval_cases n <;> exact ⟨_, rfl⟩

theorem readCategory_none {n : Nat} (h : 2 < n) : readCategory n = none := by
  match n, h with
  | n + 3, _ => rfl

section
variable {x : Slot}

theorem readDoorConfig_kind (h : 3 < octet x 1) : readDoorConfig x = .error 1 := by
  simp only [readDoorConfig, readDoorKind_none h]

theorem readDoorConfig_end (hkind : octet x 1 ≤ 3) (h : 1 < octet x 2) : readDoorConfig x = .error 2 := by
  obtain ⟨k, hk⟩ := readDoorKind_some hkind
  simp only [readDoorConfig, hk, readEnd_none h]

theorem readDoorConfig_reach (hkind : octet x 1 ≤ 3) (hend : octet x 2 ≤ 1) (h : octet x 13 < 1 ∨ 6 < octet x 13) :
    readDoorConfig x = .error 9 := by
  obtain ⟨k, hk⟩ := readDoorKind_some hkind
  obtain ⟨e, he⟩ := readEnd_some hend
  simp only [readDoorConfig, hk, he]
  rw [if_pos (by simp; omega)]

theorem readDoorConfig_category (hkind : octet x 1 ≤ 3) (hend : octet x 2 ≤ 1) (h1 : 1 ≤ octet x 13) (h6 : octet x 13 ≤ 6)
    (h : 2 < octet x 14) : readDoorConfig x = .error 10 := by
  obtain ⟨k, hk⟩ := readDoorKind_some hkind
  obtain ⟨e, he⟩ := readEnd_some hend
  simp only [readDoorConfig, hk, he, readCategory_none h]
  rw [if_neg (by simp; omega)]

theorem readDoorConfig_ranges {cfg : DoorConfig} {k : Nat} (h : readDoorConfig x = .ok (cfg, k)) :
    200 ≤ cfg.travelLimit ∧ cfg.travelLimit ≤ 10000 ∧ cfg.reopenDwell ≤ 5000 ∧ cfg.retries ≤ 3 ∧ 50 ≤ cfg.lockTime ∧
      cfg.lockTime ≤ 2000 ∧ 1 ≤ cfg.threshold ∧ cfg.threshold ≤ 4095 ∧ 1 ≤ cfg.reach ∧ cfg.reach ≤ 6 ∧
      (cfg.kind.isCabin = true → cfg.closingEnd = .b ∧ cfg.lock = false) ∧
      (cfg.closingEnd = .b → cfg.kind = .platformGate → cfg.lock = false) := by
  have htravel := clampNat_bounds (show 200 ≤ 10000 by decide) (word16 x 3)
  have hdwell := clampNat_bounds (show 0 ≤ 5000 by decide) (word16 x 5)
  have hretries := clampNat_bounds (show 0 ≤ 3 by decide) (octet x 7)
  have hlock := clampNat_bounds (show 50 ≤ 2000 by decide) (word16 x 9)
  have hthreshold := clampNat_bounds (show 1 ≤ 4095 by decide) (word16 x 11)
  simp only [readDoorConfig] at h
  split at h
  · cases h
  · cases h
  next kind closing _ _ =>
    split at h
    · cases h
    next hreach =>
      split at h
      · cases h
      next category =>
        simp only [Except.ok.injEq, Prod.mk.injEq] at h
        obtain ⟨rfl, -⟩ := h
        replace hreach : 1 ≤ octet x 13 ∧ octet x 13 ≤ 6 := by simpa [Nat.one_le_iff_ne_zero] using hreach
        refine ⟨htravel.1, htravel.2, hdwell.2, hretries.2, hlock.1, hlock.2, hthreshold.1, hthreshold.2, hreach.1, hreach.2, fun hc => ?_,
          fun hb hk => ?_⟩
        · simp [hc]
        · dsimp only at hb hk
          subst hk
          have hclosing : closing = .b := hb
          simp [hclosing, DoorKind.isCabin]

end

/-- DOOR_CONFIGURE of a channel that does not leave FAULT: Launch Control alone judges. -/
theorem doorConfigure_stays {i : SlotNo} {s : State} (hnext : OrderNext i 0x30 s) {n : ChannelNo} (hn : readChannel (param i s 0) = some n)
    {cfg : DoorConfig} {clamped : Nat} (hcfg : readDoorConfig (slotOf s.part i) = .ok (cfg, clamped)) (hmode : s.part.sup.mode = .off)
    (hrest : (channel s.part n).state.atRest = true) (h : ¬ ((channel s.part n).state = .fault ∧ cfg.kind = .none)) :
    ∃ t q, execDoorConfigure i s = .next t ∧ q = configureDoor n cfg (takeHead i s.part) ∧
      Answers i (if clamped = 0 then .ok else .clamped) clamped s t ∧ WindowFrame i s t ∧
      Frame [.window, .cabins, .rope, .launch, .doors, .sequencer, .sup] s t ∧
      t.part.window.attention.getLsbD 5 = true ∧ t.part.doors.channels = q.doors.channels ∧ t.part.sequencer = q.sequencer := by
  have hbody := orderDoorConfigure_configures (p := takeHead i s.part) hn hcfg hmode hrest
  obtain ⟨hwindow, hbits, hsame, harb, hmode', hqueue⟩ := configureDoor_keeps n cfg (takeHead i s.part)
  have hseq := configureDoor_sequencer n cfg (takeHead i s.part) h
  have hbit : (configureDoor n cfg (takeHead i s.part)).window.attention.getLsbD 5 = true := configureDoor_bit ..
  generalize hq : configureDoor n cfg (takeHead i s.part) = q at *
  have hready := hnext.1
  obtain ⟨t, ht, hanswers, hframe, rfl, alone⟩ := atOnce_alone hnext hbody hwindow (harb.trans (by rw [takeHead_work, hready.2.1]))
    (hseq.trans (by rw [takeHead_work, hready.2.1])) (by rw [hmode']; exact fun e => nomatch hmode.symm.trans e)
  refine ⟨_, q, ht, rfl, hanswers, hframe, alone.frame hready (fun b _ hb => ?_) (by decide) (by decide), ?_, ?_, ?_⟩
  · have := hsame b (fun hin => hb (by revert hin; cases b <;> simp))
    cases b <;> simp at hb <;> exact this
  · have := answer_bits i (if clamped = 0 then .ok else .clamped) clamped q 5 hbit
    rw [finish_window, alone.1]; exact this
  · rw [finish_doors, alone.1]; rfl
  · rw [finish_sequencer, alone.1]; rfl

/-- DOOR_CONFIGURE of a channel that leaves FAULT, where nothing waits. -/
theorem doorConfigure_leaves {i : SlotNo} {s : State} (hnext : OrderNext i 0x30 s) {n : ChannelNo} (hn : readChannel (param i s 0) = some n)
    {cfg : DoorConfig} {clamped : Nat} (hcfg : readDoorConfig (slotOf s.part i) = .ok (cfg, clamped)) (hmode : s.part.sup.mode = .off)
    (hrest : (channel s.part n).state.atRest = true) (hwaits : NothingWaits s.part) :
    ∃ t q, execDoorConfigure i s = .next t ∧ q = configureDoor n cfg (takeHead i s.part) ∧
      Answers i (if clamped = 0 then .ok else .clamped) clamped s t ∧ WindowFrame i s t ∧
      Frame [.window, .cabins, .rope, .launch, .doors, .sequencer, .sup] s t ∧
      t.part.window.attention.getLsbD 5 = true ∧ t.part.doors.channels = q.doors.channels ∧ t.part.sequencer = q.sequencer ∧
      (ConditionPresent .doorFault n.val t.part.sup → ConditionPresent .doorFault n.val q.sup) := by
  have hbody := orderDoorConfigure_configures (p := takeHead i s.part) hn hcfg hmode hrest
  obtain ⟨hwindow, hbits, hsame, harb, hmode', hqueue⟩ := configureDoor_keeps n cfg (takeHead i s.part)
  have hbit := configureDoor_bit n cfg (takeHead i s.part)
  obtain ⟨-, -, hactions⟩ := channel_configureDoor n cfg (takeHead i s.part)
  generalize hq : configureDoor n cfg (takeHead i s.part) = q at *
  have hcalm : NothingWaits q := by
    refine ⟨by rw [hqueue]; exact hwaits.1, fun a ha => hwaits.2 a ?_⟩
    rw [hactions] at ha
    split at ha
    · exact List.mem_of_mem_filter ha
    · exact ha
  obtain ⟨t, ht, hanswers, hframe, hblocks, hpart, hkept⟩ := atOnce_calm
    (changed := [.window, .cabins, .rope, .launch, .doors, .sequencer, .sup]) hnext hbody hwindow hcalm
    (fun b hb => by
      have := hsame b (fun hin => hb (by revert hin; cases b <;> simp))
      cases b <;> simp at hb <;> exact this) (by decide)
  refine ⟨t, q, ht, rfl, hanswers, hframe, hblocks, ?_, ?_, ?_, fun h => ?_⟩
  · rw [hpart, finish_window]
    exact hkept.2.1 5 (answer_bits i _ clamped q 5 hbit)
  · obtain ⟨-, -, -, -, -, -, -, -, hchannels, -⟩ := hkept
    rw [hpart, finish_doors]; exact hchannels
  · rw [hpart, finish_sequencer, hkept.same (b := .sequencer) (by decide)]; rfl
  · rw [hpart, finish_sup] at h
    exact (hkept.present_iff (k := .doorFault) (by decide) _).mp h

/-- DOOR_CONFIGURE in any state: the configuration stands, and the actions made under another kind are gone. -/
theorem doorConfigure_configures {i : SlotNo} {s : State} (hnext : OrderNext i 0x30 s) {n : ChannelNo} (hn : readChannel (param i s 0) = some n)
    {cfg : DoorConfig} {clamped : Nat} (hcfg : readDoorConfig (slotOf s.part i) = .ok (cfg, clamped)) (hmode : s.part.sup.mode = .off)
    (hrest : (channel s.part n).state.atRest = true) :
    ∃ t, execDoorConfigure i s = .next t ∧ t.part.still = (takeHead i s.part).still ∧ t.part.window.attention.getLsbD 5 = true ∧
      (channel t.part n).config = cfg ∧ (cfg.kind ≠ (channel s.part n).config.kind → ∀ a ∈ t.part.sequencer.actions, a.channel ≠ n) := by
  have hbody := orderDoorConfigure_configures (p := takeHead i s.part) hn hcfg hmode hrest
  obtain ⟨hready, hhead, hkind⟩ := hnext
  have hbit := configureDoor_bit n cfg (takeHead i s.part)
  have hstill := configureDoor_still n cfg (takeHead i s.part)
  obtain ⟨hchannel, -, hactions⟩ := channel_configureDoor n cfg (takeHead i s.part)
  refine ⟨_, atOnce_acts hready.1 hhead hkind, ?_⟩
  rw [hbody]
  dsimp only
  generalize configureDoor n cfg (takeHead i s.part) = q at *
  have hworks := works_settle (answer i (if clamped = 0 then .ok else .clamped) clamped q)
  obtain ⟨hconfig, hkept⟩ := hworks.doors
  refine ⟨?_, ?_, ?_, fun hne a ha => ?_⟩
  · rw [still_finish, still_answer, hstill]
  · rw [finish_window]
    exact hworks.bits 5 (answer_bits i _ clamped q 5 hbit)
  · rw [channel_finish, hconfig]
    show (channel q n).config = cfg
    rw [hchannel, configuredChannel]
    split <;> rfl
  · rw [finish_sequencer] at ha
    obtain ⟨b, hb, hba⟩ := hkept a ha
    replace hb : b ∈ q.sequencer.actions := by simpa using hb
    rw [hactions, if_pos (fun e => hne e.symm)] at hb
    have hother := List.of_mem_filter hb
    rw [← hba]
    simpa using hother

/-- Settles O20. -/
theorem doorConfigureSetsTheChannel : Obligations.DoorConfigureSetsTheChannel := by
  intro i s hnext
  refine ⟨fun h => atOnce_refuses hnext (orderDoorConfigure_channel h), fun n hn => ⟨fun h => ?_, fun h1 h => ?_, fun h1 h2 h => ?_,
    fun h1 h2 h3 h4 h => ?_, fun cfg clamped hcfg => ⟨readDoorConfig_ranges hcfg, fun h => ?_, fun hmode hrest => ?_⟩⟩⟩
  · exact atOnce_refuses hnext (orderDoorConfigure_error hn (readDoorConfig_kind h))
  · exact atOnce_refuses hnext (orderDoorConfigure_error hn (readDoorConfig_end h1 h))
  · exact atOnce_refuses hnext (orderDoorConfigure_error hn (readDoorConfig_reach h1 h2 h))
  · exact atOnce_refuses hnext (orderDoorConfigure_error hn (readDoorConfig_category h1 h2 h3 h4 h))
  · exact atOnce_refuses hnext (orderDoorConfigure_state (p := takeHead i s.part) hn hcfg h)
  · obtain ⟨t, ht, hstill, hbit, hconfig, hactions⟩ := doorConfigure_configures hnext hn hcfg hmode hrest
    obtain ⟨hsame, hothers, hlist⟩ := channel_configureDoor n cfg (takeHead i s.part)
    replace hsame : channel (configureDoor n cfg (takeHead i s.part)) n = configuredChannel cfg (channel s.part n) := hsame
    have honly : OnlyDoorsChange s t := fun j => still_cabins hstill j
    have unique {u : State} (hu : execDoorConfigure i s = .next u) : u = t := by
      rw [ht] at hu; exact (Host.Outcome.next.inj hu).symm
    have hchannels {q : Part} (hq : q = configureDoor n cfg (takeHead i s.part)) (h : t.part.doors.channels = q.doors.channels) (m : ChannelNo) :
        channel t.part m = channel (configureDoor n cfg (takeHead i s.part)) m := by rw [channel, h, hq]; rfl
    refine ⟨t, ht, hbit, hconfig, fun h => ?_, fun hkind hfault hwaits => ?_, hactions, fun h => ?_⟩
    · have hstays : ¬ ((channel s.part n).state = .fault ∧ cfg.kind = .none) := fun ⟨hf, hk⟩ => h.elim (· hk) (· hf)
      obtain ⟨u, q, hu, hq, -, -, -, -, hch, -⟩ := doorConfigure_stays hnext hn hcfg hmode hrest hstays
      obtain rfl := unique hu
      rw [hchannels hq hch, hsame, configuredChannel, if_neg hstays]
    · obtain ⟨u, q, hu, hq, -, -, -, -, hch, -, hpresent⟩ := doorConfigure_leaves hnext hn hcfg hmode hrest hwaits
      obtain rfl := unique hu
      refine ⟨?_, fun hstill => configureDoor_ends n cfg (takeHead i s.part) ⟨hfault, hkind⟩ (hq ▸ hpresent hstill)⟩
      rw [hchannels hq hch, hsame, configuredChannel, if_pos ⟨hfault, hkind⟩, noneState_eq]
    · obtain ⟨u, q, hu, hq, hanswers, hframe, hblocks, hch, hseq⟩ : ∃ t q, execDoorConfigure i s = .next t ∧
          q = configureDoor n cfg (takeHead i s.part) ∧ Answers i (if clamped = 0 then .ok else .clamped) clamped s t ∧ WindowFrame i s t ∧
          Frame [.window, .cabins, .rope, .launch, .doors, .sequencer, .sup] s t ∧ t.part.doors.channels = q.doors.channels ∧
          t.part.sequencer = q.sequencer := by
        by_cases hleaves : (channel s.part n).state = .fault ∧ cfg.kind = .none
        · obtain hk | hf | hwaits := h
          · exact absurd hleaves.2 hk
          · exact absurd hleaves.1 hf
          · obtain ⟨u, q, hu, hq, ha, hf, hb, -, hc, hs, -⟩ := doorConfigure_leaves hnext hn hcfg hmode hrest hwaits
            exact ⟨u, q, hu, hq, ha, hf, hb, hc, hs⟩
        · obtain ⟨u, q, hu, hq, ha, hf, hb, -, hc, hs⟩ := doorConfigure_stays hnext hn hcfg hmode hrest hleaves
          exact ⟨u, q, hu, hq, ha, hf, hb, hc, hs⟩
      obtain rfl := unique hu
      refine ⟨hanswers, hframe, hblocks, honly, fun m hm => (hchannels hq hch m).trans (hothers m hm), fun hk => ?_⟩
      rw [hseq, hq, hlist, if_neg (by rw [ne_eq, not_not]; exact hk.symm)]; rfl

end Sys2Proof.Machine

/-! The switch channels: SENSOR_CONFIGURE and SWITCH_CHANGE (R46 to R49). -/

namespace Sys2Proof.Machine

/-! ### Reports in OFF, and events that leave RUN at most -/

/-- In OFF a report enters its cause and moves no mode. -/
theorem report_off {k : CauseKind} {n : Nat} {c : Category} {b : Bool} {p : Part} (h : p.sup.mode = .off) :
    report k n c b p = causeNoted k n c b p := by
  rw [report_eq]
  exact changeMode_same (by rw [causeNoted_mode, h]; rfl)

theorem causeNoted_undisturbed (k : CauseKind) (n : Nat) (c : Category) (b : Bool) (p : Part) : Undisturbed p (causeNoted k n c b p) :=
  Undisturbed.trans (modSup_undisturbed (by rw [enterCause_kept])) (attend_undisturbed .stopCause _)

theorem same_trans {b : Block} {p q r : Part} (h : Part.same b p q) (g : Part.same b q r) : Part.same b p r := by
  cases b <;> exact g.trans h

/-- What a change of the Supervisor that is no change of mode leaves, beside its own state. -/
theorem Undisturbed.same {p q : Part} (h : Undisturbed p q) (hrope : q.rope = p.rope) {b : Block} {l : List Block}
    (hb : b ∉ Block.window :: l) (hl : Block.sup ∈ l := by decide) : Part.same b p q := by
  obtain ⟨hkeeps, hcalls, -⟩ := h
  cases b with
  | rope => exact hrope
  | calls => exact hcalls
  | window => exact absurd List.mem_cons_self hb
  | sup => exact absurd (List.mem_cons_of_mem _ hl) hb
  | _ => exact same_of_supKeeps hkeeps (by decide)

theorem same_attend (a : Attn) (p : Part) {b : Block} {l : List Block} (hb : b ∉ Block.window :: l) : Part.same b p (attend a p) := by
  cases b with
  | window => exact absurd List.mem_cons_self hb
  | _ => rfl

/-- An event after which Launch Control's judgement alone remains. -/
theorem occurs_alone {g : Part → Bool} {f : Part → Part} {s : State} {changed : List Block} (hready : Ready s) (hg : g s.part = true)
    (alone : LaunchAlone (f s.part) (settle 64 (f s.part))) (hkept : ∀ b ∉ changed, Part.same b s.part (f s.part))
    (hlaunch : Block.launch ∈ changed) (hdoors : Block.doors ∈ changed) :
    ∃ t, occurs g f s = .next t ∧ Frame changed s t ∧ t.part = finish (f s.part) :=
  ⟨_, occurs_acts hready.1 hg, alone.frame hready (fun b _ => hkept b) hlaunch hdoors, rfl⟩

/-- FAST_STOP is asserted where a FAST cause has just been reported (R124). -/
theorem fastStopFor_report (k : CauseKind) (n : Nat) (b : Bool) (p : Part) : fastStopFor (report k n .fast b p).sup = true := by
  have hfast : fastHeld (report k n .fast b p).sup = true := report_fast k n b p
  simp only [fastStopFor, report_mode, hfast]
  split
  · rfl
  · cases p.sup.mode <;> rfl

theorem report_not_running (k : CauseKind) (n : Nat) (c : Category) (b : Bool) (p : Part) : (report k n c b p).sup.mode.isRunning = false := by
  rw [report_mode]
  split
  · rfl
  · cases p.sup.mode <;> cases c <;> rfl

/-! ### SENSOR_CONFIGURE (R49) -/

section
variable {x : Slot} {p : Part}

theorem readSwitchKind_none {n : Nat} (h : 2 < n) : readSwitchKind n = none := by
  match n, h with
  | n + 3, _ => rfl

theorem readSwitchKind_some {n : Nat} (h : n ≤ 2) : ∃ k, readSwitchKind n = some k := by
  interval_cases n <;> exact ⟨_, rfl⟩

theorem orderSensorConfigure_switch (h : readSwitch (octet x 0) = none) : orderSensorConfigure x p = refuse .refusedRange 1 p := by
  simp only [orderSensorConfigure, h]

theorem orderSensorConfigure_kind {c : Fin 8} (hc : readSwitch (octet x 0) = some c) (h : 2 < octet x 1) :
    orderSensorConfigure x p = refuse .refusedRange 2 p := by
  simp only [orderSensorConfigure, hc, readSwitchKind_none h]

theorem orderSensorConfigure_category {c : Fin 8} (hc : readSwitch (octet x 0) = some c) (hk : octet x 1 ≤ 2) (h : 2 < octet x 2) :
    orderSensorConfigure x p = refuse .refusedRange 3 p := by
  obtain ⟨k, hk⟩ := readSwitchKind_some hk
  simp only [orderSensorConfigure, hc, hk, readCategory_none h]

section
variable {c : Fin 8} {k : SwitchKind} {cat : FaultCategory}

theorem orderSensorConfigure_mode (hc : readSwitch (octet x 0) = some c) (hk : readSwitchKind (octet x 1) = some k)
    (hcat : readCategory (octet x 2) = some cat) (hmode : p.sup.mode ≠ .off) : orderSensorConfigure x p = refuse .refusedState 0 p := by
  have : (!isOff p) = true := by simpa [isOff] using hmode
  simp only [orderSensorConfigure, hc, hk, hcat, this, if_true]

theorem orderSensorConfigure_configures (hc : readSwitch (octet x 0) = some c) (hk : readSwitchKind (octet x 1) = some k)
    (hcat : readCategory (octet x 2) = some cat) (hmode : p.sup.mode = .off) :
    orderSensorConfigure x p =
      { result := if k = .general ∧ cat ≠ .none then .clamped else .ok, detail := if k = .general ∧ cat ≠ .none then 1 else 0
        part := configureSwitch c k cat p } := by
  have : (!isOff p) = false := by simp [isOff, hmode]
  simp only [orderSensorConfigure, hc, hk, hcat, this, clampedBy_eq, Bool.false_eq_true, if_false]
  by_cases h : k = .general ∧ cat ≠ .none
  · obtain ⟨rfl, hcat⟩ := h
    simp [hcat]
  · have hb : (k == .general && cat != .none) = false := by simpa [imp_iff_not_or] using h
    simp [hb, h]
end
end

/-- The channel's settings after SENSOR_CONFIGURE: category NONE for kind GENERAL (R49). -/
def switchSet (k : SwitchKind) (cat : FaultCategory) (w : Switch) : Switch := { w with kind := k, category := if k = .general then .none else cat }

/-- The ended condition leaves all but the Supervisor's lists. -/
theorem endSwitch_ends (c : Fin 8) (x : Option (CauseKind × Category)) (p : Part) :
    Undisturbed p (endSwitch c x p) ∧ (endSwitch c x p).rope = p.rope ∧ (∀ y ∈ x, ¬ ConditionPresent y.1 (c.val + 1) (endSwitch c x p).sup) := by
  cases x with
  | none => exact ⟨.refl p, rfl, nofun⟩
  | some y =>
    refine ⟨gone_undisturbed .., by simp [endSwitch], fun z hz => ?_⟩
    obtain rfl := Option.some.inj hz
    exact not_present_gone _ _ _

/-- In OFF the condition that a channel enters is reported with nothing else. -/
theorem reportSwitch_off (c : Fin 8) (x : Option (CauseKind × Category)) {p : Part} (h : p.sup.mode = .off) :
    Undisturbed p (reportSwitch c x p) ∧ (reportSwitch c x p).rope = p.rope := by
  cases x with
  | none => exact ⟨.refl p, rfl⟩
  | some y =>
    rw [reportSwitch, report_off h]
    exact ⟨causeNoted_undisturbed .., rfl⟩

theorem configureSwitch_eq (c : Fin 8) (k : SwitchKind) (cat : FaultCategory) (p : Part) :
    configureSwitch c k cat p = attend .sensor (reportSwitch c (switchSet k cat (p.sensors.switches.get c)).condition
      (modSwitch c (switchSet k cat) (endSwitch c (p.sensors.switches.get c).condition p))) := by
  have hended : (endSwitch c (p.sensors.switches.get c).condition p).sensors = p.sensors := by simp
  have hset (q : Part) : modSwitch c (fun s => { s with kind := k, category := if k == .general then .none else cat }) q =
      modSwitch c (switchSet k cat) q := by
    simp only [beq_iff_eq]
    rfl
  simp only [configureSwitch, hset, modSwitch_sensors, modTable_get_same, hended]

/-- What SENSOR_CONFIGURE does in OFF. -/
theorem configureSwitch_off (c : Fin 8) (k : SwitchKind) (cat : FaultCategory) {p : Part} (h : p.sup.mode = .off) :
    WindowKept p (configureSwitch c k cat p) ∧ (configureSwitch c k cat p).work = p.work ∧
      (configureSwitch c k cat p).sup.mode = .off ∧ (∀ b ∉ [Block.window, .sensors, .sup], Part.same b p (configureSwitch c k cat p)) ∧
      (configureSwitch c k cat p).sensors = (modSwitch c (switchSet k cat) p).sensors ∧
      (configureSwitch c k cat p).window.attention.getLsbD 6 = true := by
  obtain ⟨hended, hrope, -⟩ := endSwitch_ends c (p.sensors.switches.get c).condition p
  rw [configureSwitch_eq]
  generalize endSwitch c (p.sensors.switches.get c).condition p = q at *
  have hset : (modSwitch c (switchSet k cat) q).sup.mode = .off := hended.2.2.2.1.trans h
  obtain ⟨hreported, hrope'⟩ := reportSwitch_off c (switchSet k cat (p.sensors.switches.get c)).condition hset
  generalize reportSwitch c (switchSet k cat (p.sensors.switches.get c)).condition (modSwitch c (switchSet k cat) q) = r at *
  have hsensors : r.sensors = (modSwitch c (switchSet k cat) p).sensors := by
    have hr := same_of_supKeeps hreported.1 (b := .sensors) (by decide)
    have hq := same_of_supKeeps hended.1 (b := .sensors) (by decide)
    simp only [Part.same] at hr hq
    rw [hr, modSwitch_sensors, modSwitch_sensors, hq]
  have hwindow : WindowKept (modSwitch c (switchSet k cat) q) (attend .sensor r) :=
    (hreported.trans (attend_undisturbed .sensor r)).windowKept
  refine ⟨hended.windowKept.trans hwindow, hreported.2.2.1.trans hended.2.2.1, hreported.2.2.2.1.trans hset, fun b hb => ?_, hsensors,
    by simp [Attn.bit]⟩
  have hmiddle : Part.same b q (modSwitch c (switchSet k cat) q) := by cases b <;> simp at hb <;> rfl
  exact same_trans (hended.same hrope hb) (same_trans hmiddle (same_trans (hreported.same hrope' hb) (same_attend .sensor r hb)))

/-- The condition of the channel follows its new configuration. -/
theorem configureSwitch_condition (c : Fin 8) (k : SwitchKind) (cat : FaultCategory) (p : Part) :
    (∀ x ∈ (switchSet k cat (p.sensors.switches.get c)).condition, CauseEntered x.1 (c.val + 1) (configureSwitch c k cat p).sup ∧
      ConditionPresent x.1 (c.val + 1) (configureSwitch c k cat p).sup) ∧
    (∀ x ∈ (p.sensors.switches.get c).condition, (switchSet k cat (p.sensors.switches.get c)).condition = none →
      ¬ ConditionPresent x.1 (c.val + 1) (configureSwitch c k cat p).sup) := by
  rw [configureSwitch_eq]
  refine ⟨fun x hx => ?_, fun x hx hnone => ?_⟩
  · rw [hx]
    exact ⟨report_entered .., report_present ..⟩
  · rw [hnone]
    exact (endSwitch_ends c _ p).2.2 x hx

theorem sensorConfigure_configures {i : SlotNo} {s : State} (hnext : OrderNext i 0x20 s) {c : Fin 8} {k : SwitchKind} {cat : FaultCategory}
    (hc : readSwitch (param i s 0) = some c) (hk : readSwitchKind (param i s 1) = some k) (hcat : readCategory (param i s 2) = some cat)
    (hmode : s.part.sup.mode = .off) :
    ∃ t q, execSensorConfigure i s = .next t ∧ q = configureSwitch c k cat (takeHead i s.part) ∧
      Answers i (if k = .general ∧ cat ≠ .none then .clamped else .ok) (if k = .general ∧ cat ≠ .none then 1 else 0) s t ∧
      WindowFrame i s t ∧ t.part.window.attention.getLsbD 6 = true ∧ Frame [.window, .sensors, .sup] s t ∧
      t.part.sensors = (modSwitch c (switchSet k cat) s.part).sensors ∧
      t.part.sup = { q.sup with svcStop := svcStopFor q.sup, fastStop := fastStopFor q.sup } ∧ t.part.sup.mode = .off := by
  have hbody := orderSensorConfigure_configures (p := takeHead i s.part) hc hk hcat hmode
  obtain ⟨hwindow, hwork, hoff, hsame, hsensors, hbit⟩ := configureSwitch_off c k cat (p := takeHead i s.part) hmode
  generalize hq : configureSwitch c k cat (takeHead i s.part) = q at *
  obtain ⟨t, ht, hanswers, hframe, hblocks, hpart, hsettle⟩ := atOnce_settled (changed := [.sensors, .sup]) hnext hbody hwindow
    (hwork.trans hnext.1.2.1) (fun b hb hl => same_trans (same_takeHead i s.part hb) (hsame b (by simp_all)))
  refine ⟨t, q, ht, rfl, hanswers, hframe, ?_, hblocks, ?_, ?_, ?_⟩
  · rw [hpart, finish_window, hsettle]; exact answer_bits i _ _ q 6 hbit
  · rw [hpart, finish_sensors, hsettle]; exact hsensors
  · rw [hpart, finish_sup, hsettle]; rfl
  · rw [hpart, finish_sup, hsettle]; exact hoff

/-! ### SWITCH_CHANGE (R46 to R48) -/

/-- The channel with its new value taken and the change counted. -/
def switchTaken (w : Switch) : Switch := { w with value := w.input.settled, changes := count16 w.changes }

theorem switchChange_eq (k : Fin 8) (p : Part) : switchChange k p =
    let q := attend .sensor (modSwitch k switchTaken p)
    let w := p.sensors.switches.get k
    if w.inFault = (switchTaken w).inFault then q else reportSwitch k (switchTaken w).condition (endSwitch k w.condition q) := by
  have hset : modSwitch k (fun s => { s with value := s.input.settled, changes := count16 s.changes }) p = modSwitch k switchTaken p := rfl
  simp only [switchChange, hset, attend_sensors, modSwitch_sensors, modTable_get_same, beq_iff_eq]

/-- A switch that is judged reports its cause, ends it, or does neither. -/
theorem switchChange_leaves (k : Fin 8) (p : Part) :
    StaysOrStops p (switchChange k p) ∧ SupKeeps (modSwitch k switchTaken p) (switchChange k p) ∧
      (switchChange k p).window.attention.getLsbD 6 = true := by
  have htaken : (attend .sensor (modSwitch k switchTaken p)).window.attention.getLsbD 6 = true := by simp [Attn.bit]
  have hkept : Undisturbed (modSwitch k switchTaken p) (attend .sensor (modSwitch k switchTaken p)) := attend_undisturbed ..
  rw [switchChange_eq]
  dsimp only
  split
  · exact ⟨.inl ⟨rfl, rfl⟩, hkept.1, htaken⟩
  · obtain ⟨hended, -⟩ := endSwitch_ends k (p.sensors.switches.get k).condition (attend .sensor (modSwitch k switchTaken p))
    generalize endSwitch k (p.sensors.switches.get k).condition (attend .sensor (modSwitch k switchTaken p)) = q at *
    have hq := hkept.trans hended
    cases (switchTaken (p.sensors.switches.get k)).condition with
    | none => exact ⟨.inl ⟨hq.2.2.1, hq.2.2.2.1⟩, hq.1, hended.2.2.2.2 6 htaken⟩
    | some x =>
      refine ⟨.inr (report_stops _ _ _ _ _), ?_, report_bitsStay _ _ _ _ _ 6 (hended.2.2.2.2 6 htaken)⟩
      have hreport := report_kept x.1 (k.val + 1) x.2 true q
      have hq := hq.1
      simp only [SupKeeps, PortKept] at hq hreport
      simp only [SupKeeps, PortKept, reportSwitch, hreport, hq, and_self]

theorem toCategory_some {c : FaultCategory} (h : c ≠ .none) : ∃ cat, c.toCategory = some cat := by
  cases c with
  | none => exact absurd rfl h
  | service => exact ⟨_, rfl⟩
  | fast => exact ⟨_, rfl⟩

section
variable {k : Fin 8} {p : Part} {kind : CauseKind}
  (hkind : ((p.sensors.switches.get k).kind = .ropePosition ∧ kind = .ropePosition) ∨
    ((p.sensors.switches.get k).kind = .brittleLoop ∧ kind = .brittleLoop))
include hkind

/-- A channel of a fault kind that opens reports its cause. -/
theorem switchChange_opens {cat : Category} (hchanged : switchChanged k p = true)
    (hopen : (p.sensors.switches.get k).input.settled = some false) (hcat : (p.sensors.switches.get k).category.toCategory = some cat) :
    switchChange k p = report kind (k.val + 1) cat true (attend .sensor (modSwitch k switchTaken p)) := by
  have hclosed : (p.sensors.switches.get k).value ≠ some false := by
    simp only [switchChanged, hopen, bne_iff_ne] at hchanged
    exact hchanged.symm
  rw [switchChange_eq]
  generalize p.sensors.switches.get k = w at *
  have hold : w.inFault = false := by simp [Switch.inFault, hclosed]
  have hnew : (switchTaken w).inFault = true := by
    obtain ⟨h, -⟩ | ⟨h, -⟩ := hkind <;> simp [Switch.inFault, switchTaken, hopen, h]
  have hcond : (switchTaken w).condition = some (kind, cat) := by
    have hcat' : (switchTaken w).category.toCategory = some cat := hcat
    simp only [Switch.condition, hnew, if_true, hcat']
    obtain ⟨h, rfl⟩ | ⟨h, rfl⟩ := hkind <;> simp [switchTaken, h]
  have hnone : w.condition = none := by simp [Switch.condition, hold]
  simp only [hold, hnew, Bool.false_eq_true, if_false, hcond, hnone, reportSwitch, endSwitch]

/-- One that had opened and closes ends the condition. -/
theorem switchChange_closes (hopen : (p.sensors.switches.get k).input.settled = some true)
    (hvalue : (p.sensors.switches.get k).value = some false) (hcat : (p.sensors.switches.get k).category ≠ .none) :
    switchChange k p = gone kind (k.val + 1) (attend .sensor (modSwitch k switchTaken p)) := by
  rw [switchChange_eq]
  generalize p.sensors.switches.get k = w at *
  have hold : w.inFault = true := by
    obtain ⟨h, -⟩ | ⟨h, -⟩ := hkind <;> simp [Switch.inFault, hvalue, h]
  have hnew : (switchTaken w).inFault = false := by simp [Switch.inFault, switchTaken, hopen]
  obtain ⟨cat, hcat⟩ : ∃ cat, w.category.toCategory = some cat := toCategory_some hcat
  have hcond : w.condition = some (kind, cat) := by
    simp only [Switch.condition, hold, if_true, hcat]
    obtain ⟨h, rfl⟩ | ⟨h, rfl⟩ := hkind <;> simp [h]
  have hnone : (switchTaken w).condition = none := by simp [Switch.condition, hnew]
  simp only [hold, hnew, Bool.true_eq_false, if_false, hcond, hnone, reportSwitch, endSwitch]

end

/-- Without a category, or for a general contact, the Supervisor is told nothing. -/
theorem switchChange_tells_nothing {k : Fin 8} {p : Part}
    (h : (p.sensors.switches.get k).category = .none ∨ (p.sensors.switches.get k).kind = .general) :
    switchChange k p = attend .sensor (modSwitch k switchTaken p) := by
  have hnone {w : Switch} (h : w.category = .none ∨ w.kind = .general) : w.condition = none := by
    unfold Switch.condition Switch.inFault
    obtain h | h := h
    · rw [h]; split <;> rfl
    · simp [h]
  rw [switchChange_eq]
  dsimp only
  rw [hnone h, hnone (w := switchTaken _) h]
  split <;> rfl

/-- Settles O19. -/
theorem sensorConfigureAndSwitchChange : Obligations.SensorConfigureAndSwitchChange := by
  refine ⟨fun i s hnext => ⟨fun h => atOnce_refuses hnext (orderSensorConfigure_switch h), fun c hc =>
    ⟨fun h => atOnce_refuses hnext (orderSensorConfigure_kind hc h), fun h1 h => atOnce_refuses hnext (orderSensorConfigure_category hc h1 h),
      fun k hk cat hcat => ⟨fun hmode => atOnce_refuses hnext (orderSensorConfigure_mode (p := takeHead i s.part) hc hk hcat hmode),
        fun hmode => ?_⟩⟩⟩, fun k s hready hchanged => ?_⟩
  · obtain ⟨t, q, ht, rfl, hanswers, hframe, hbit, hblocks, hsensors, hsup, hoff⟩ := sensorConfigure_configures hnext hc hk hcat hmode
    obtain ⟨hentered, hended⟩ := configureSwitch_condition c k cat (takeHead i s.part)
    have hget : t.part.sensors.switches.get c = switchSet k cat (s.part.sensors.switches.get c) := by
      rw [hsensors, modSwitch_sensors]; exact modTable_get_same ..
    refine ⟨t, ht, hanswers, hframe, hbit, hblocks, hget, fun d hd => ?_, hoff, fun x hx => ?_, fun x hx hnone => ?_⟩
    · rw [hsensors, modSwitch_sensors]; exact modTable_get_ne _ _ _ _ hd
    · rw [hsup]; exact hentered x (hget ▸ hx)
    · rw [hsup]; exact hended x hx (hget ▸ hnone)
  · obtain ⟨hstops, hkeeps, hbit⟩ := switchChange_leaves k s.part
    have harb : (switchChange k s.part).work.arbiter = s.part.work.arbiter := by simp only [SupKeeps] at hkeeps; simp only [hkeeps]; rfl
    have hseq : (switchChange k s.part).work.sequencer = s.part.work.sequencer := by simp only [SupKeeps] at hkeeps; simp only [hkeeps]; rfl
    have alone := settle_stops hready.2.1 hstops harb hseq
    have hsame : ∀ b ∉ [Block.window, .rope, .sensors, .launch, .doors, .sup, .calls], Part.same b s.part (switchChange k s.part) := by
      intro b hb
      have hset : Part.same b s.part (modSwitch k switchTaken s.part) := by cases b <;> simp at hb <;> rfl
      exact same_trans hset (same_of_supKeeps hkeeps (by revert hb; cases b <;> simp))
    obtain ⟨t, ht, hframe, hpart⟩ := occurs_alone (g := switchChanged k) (changed := [.window, .rope, .sensors, .launch, .doors, .sup, .calls])
      hready hchanged alone hsame (by decide) (by decide)
    have hsensors : t.part.sensors = (modSwitch k switchTaken s.part).sensors := by
      rw [hpart, finish_sensors, alone.1]
      exact same_of_supKeeps hkeeps (b := .sensors) (by decide)
    have hget : t.part.sensors.switches.get k = switchTaken (s.part.sensors.switches.get k) := by
      rw [hsensors]; exact modTable_get_same ..
    have hsup : t.part.sup = { (switchChange k s.part).sup with
        svcStop := svcStopFor (switchChange k s.part).sup, fastStop := fastStopFor (switchChange k s.part).sup } := by
      rw [hpart, finish_sup, alone.1]
    refine ⟨t, ht, hframe, ?_, hget, fun j hj => ?_, ?_, fun kind hkind => ⟨fun hopen hcat => ?_, fun hopen hvalue hcat => ?_⟩, fun h => ?_⟩
    · rw [hpart, finish_window, alone.1]; exact hbit
    · rw [hsensors]; exact modTable_get_ne _ _ _ _ hj
    · rw [hsensors]; rfl
    · obtain ⟨cat, hcat'⟩ : ∃ cat, (s.part.sensors.switches.get k).category.toCategory = some cat :=
        toCategory_some hcat
      rw [switchChange_opens hkind hchanged hopen hcat'] at hsup
      refine ⟨?_, ?_, ?_, fun hfast => ?_⟩
      · rw [hsup]; exact report_entered ..
      · rw [hsup]; exact report_present ..
      · rw [hsup]; exact report_not_running ..
      · rw [hfast] at hcat'
        obtain rfl := Option.some.inj hcat'
        rw [hsup]; exact fastStopFor_report ..
    · rw [switchChange_closes hkind hopen hvalue hcat] at hsup
      rw [hsup]; exact not_present_gone _ _ _
    · rw [switchChange_tells_nothing h] at hsup
      rw [hsup]; exact pins_of_sup hready.2.2.1 ⟨rfl, rfl, rfl, rfl, rfl⟩

end Sys2Proof.Machine

/-! DOOR_HALT and DOOR_RESET_FAULT (R91, R94, R99). -/

namespace Sys2Proof.Machine

/-! ### Orders whose answer is all that the window is asked of -/

/-- An order answered at once, after which nothing waits, whose block may answer other orders. -/
theorem atOnce_calm_answers {i : SlotNo} {k : Byte} {body : Slot → Part → Reply} {s : State} {r : Result} {d : Nat} {q : Part}
    {changed : List Block} (hnext : OrderNext i k s)
    (hbody : body (slotOf s.part i) (takeHead i s.part) = { result := r, detail := d, part := q })
    (hslot : slotOf q i = slotOf (takeHead i s.part) i) (hintake : q.window.intake = (takeHead i s.part).window.intake)
    (hcalm : NothingWaits q) (hkept : ∀ b ∉ changed, Part.same b s.part q)
    (hchanged : Block.window ∈ changed ∧ Block.launch ∈ changed ∧ Block.doors ∈ changed ∧ Block.sup ∈ changed) :
    ∃ t, atOnce i k body s = .next t ∧ Answers i r d s t ∧ Frame changed s t ∧
      t.part = finish (answer i r d q) ∧ CalmKept (answer i r d q) (settle 64 (answer i r d q)) := by
  obtain ⟨hready, hhead, hkind⟩ := hnext
  obtain ⟨hkeeps, -⟩ := settle_calm (nothingWaits_of_eq (p := q) (q := answer i r d q) rfl rfl hcalm)
  obtain ⟨hslots, hin, -⟩ := hkeeps.windowKept
  refine ⟨_, atOnce_acts hready.1 hhead hkind, ?_⟩
  rw [hbody]
  dsimp only
  refine ⟨⟨?_, ?_, ?_⟩, frame_finish hready fun b _ hb => ?_, rfl, hkeeps⟩
  · rw [slotOf_finish, slotOf, hslots, ← slotOf, slotOf_answer_same, hslot, slotOf_takeHead_same]
  · rw [finish_window]
    exact hin.trans hintake
  · rw [finish_window]
    exact hkeeps.2.1 0 (by simp [answer, Attn.bit])
  · obtain ⟨hw, hl, hd, hs⟩ := hchanged
    have hne : b ∉ [Block.window, .launch, .doors, .sup] := by
      intro h
      simp only [List.mem_cons, List.not_mem_nil, or_false] at h
      obtain rfl | rfl | rfl | rfl := h
      exacts [hb hw, hb hl, hb hd, hb hs]
    have hbody := hkept b hb
    have hrest := hkeeps.same hne
    cases b with
    | window | launch | doors | sup => exact absurd (by decide) hne
    | _ => exact hrest.trans hbody

/-! ### The owner of an operation is told (R98, R100) -/

section
variable {n : ChannelNo} {o : DoorOutcome} {p : Part}

theorem tellOwner_none (h : (channel p n).owner = .none) : tellOwner n o p = modChannel n (fun c => { c with owner := .none }) p := by
  simp only [tellOwner, h]

theorem tellOwner_order {j : SlotNo} (h : (channel p n).owner = .order j) :
    tellOwner n o p = answer j (moveAnswer o).1 (moveAnswer o).2 (modChannel n (fun c => { c with owner := .none }) p) := by
  simp only [tellOwner, h]

/-- Orders that do not own the channel are not answered. -/
theorem tellOwner_slotOf_ne {k : SlotNo} (h : (channel p n).owner ≠ .order k) : slotOf (tellOwner n o p) k = slotOf p k := by
  unfold tellOwner
  dsimp only
  split
  · rfl
  · rfl
  next j hj => 
    rw [slotOf_answer_ne _ _ _ _ _ (fun e => h (by rw [hj, e]))]; rfl
  · rw [slotOf, (handOutcome_kept n o _).2.2.2.2.2]; rfl

theorem tellOwner_same {b : Block} (hb : b ∉ [Block.window, .cabins, .doors, .sequencer]) : Part.same b p (tellOwner n o p) := by
  obtain ⟨hkeeps, hdoors, hsup, hrope, hcalls⟩ := tellOwner_kept n o p
  simp only [DoorKeeps] at hkeeps
  cases b <;> simp at hb <;> simp only [Part.same, hkeeps, hsup, hrope, hcalls]

end

/-! ### DOOR_HALT (R91, R99) -/

theorem haltedState_eq (a b : Bool) :
    haltedState a b = if a = true ∧ b = false then .atA else if b = true ∧ a = false then .atB else .halted := by
  cases a <;> cases b <;> rfl

/-- A channel as a halt leaves it (R91). -/
def haltedChannel (c : Channel) : Channel :=
  if c.state.atRest then c
  else if c.state = .locking then { c with target := none, waits := .none }
  else { c with motor := none, lockRel := false, target := none, waits := .none, state := haltedState c.limA.high c.limB.high }

section
variable {n : ChannelNo} {p : Part}

theorem haltChannel_rest (h : (channel p n).state.atRest = true) : haltChannel n p = p := by
  simp [haltChannel, h]

theorem haltChannel_locking (h : (channel p n).state = .locking) :
    haltChannel n p = modChannel n (fun c => { c with target := none, waits := .none }) p := by
  simp [haltChannel, h, DoorState.atRest]

theorem haltChannel_stops (h : (channel p n).state.atRest = false) (hl : (channel p n).state ≠ .locking) :
    haltChannel n p = restIn n (haltedState (channel p n).limA.high (channel p n).limB.high)
      (leaveQueue n (stopOutputs n (modChannel n (fun c => { c with target := none, waits := .none }) p))) := by
  simp [haltChannel, h, hl]

theorem channel_haltChannel (n m : ChannelNo) (p : Part) :
    channel (haltChannel n p) m = channel (modChannel n haltedChannel p) m := by
  by_cases hm : m = n
  · subst hm
    rw [channel_modChannel_same, haltedChannel]
    split
    next h => rw [haltChannel_rest h]
    next h =>
      replace h := eq_false_of_ne_true h
      split
      next hl => rw [haltChannel_locking hl, channel_modChannel_same]
      next hl => rw [haltChannel_stops h hl, channel_restIn_same, channel_leaveQueue, channel_stopOutputs_same, channel_modChannel_same]
  · rw [channel_modChannel_ne _ _ _ _ hm]
    unfold haltChannel
    dsimp only
    (repeat' split) <;> simp [channel_restIn, stopOutputs, hm]

theorem haltChannel_queue (n : ChannelNo) (p : Part) : (haltChannel n p).doors.queue =
    if (channel p n).state.atRest = true ∨ (channel p n).state = .locking then p.doors.queue
    else p.doors.queue.filter (fun r => r != .door n) := by
  by_cases h : (channel p n).state.atRest = true
  · rw [haltChannel_rest h, if_pos (.inl h)]
  · by_cases hl : (channel p n).state = .locking
    · rw [haltChannel_locking hl, if_pos (.inr hl)]; rfl
    · rw [haltChannel_stops (eq_false_of_ne_true h) hl, if_neg (by simp [h, hl])]
      simp [leaveQueue, stopOutputs]

theorem haltDoor_same {b : Block} (hb : b ∉ [Block.window, .cabins, .doors, .sequencer]) : Part.same b p (haltDoor n p) := by
  obtain ⟨hkeeps, hsup, hrope, hcalls, hcabins, hwindow, hseq⟩ := haltChannel_kept n (tellOwner n .interrupted p)
  simp only [DoorKeeps] at hkeeps
  refine same_trans (tellOwner_same (n := n) (o := .interrupted) hb) ?_
  cases b <;> simp at hb <;> simp only [haltDoor, Part.same, hkeeps, hsup, hrope, hcalls]

theorem slotOf_haltDoor (k : SlotNo) : slotOf (haltDoor n p) k = slotOf (tellOwner n .interrupted p) k := by
  simp [slotOf, haltDoor]

theorem channel_haltDoor (n : ChannelNo) (p : Part) : channel (haltDoor n p) n = haltedChannel { channel p n with owner := .none } ∧
    ∀ m, m ≠ n → channel (haltDoor n p) m = channel p m := by
  refine ⟨?_, fun m hm => ?_⟩
  · rw [haltDoor, channel_haltChannel, channel_modChannel_same, channel_tellOwner_same]
  · rw [haltDoor, channel_haltChannel, channel_modChannel_ne _ _ _ _ hm, channel_tellOwner, channel_modChannel_ne _ _ _ _ hm]

theorem haltDoor_queue (n : ChannelNo) (p : Part) : (haltDoor n p).doors.queue =
    if (channel p n).state.atRest = true ∨ (channel p n).state = .locking then p.doors.queue
    else p.doors.queue.filter (fun r => r != .door n) := by
  have hqueue : (tellOwner n .interrupted p).doors.queue = p.doors.queue := by rw [(tellOwner_kept n .interrupted p).2.1]; rfl
  rw [haltDoor, haltChannel_queue, hqueue, channel_tellOwner_same]

theorem haltDoor_actions (n : ChannelNo) (p : Part) : (haltDoor n p).sequencer.actions = p.sequencer.actions := by
  simp [haltDoor]

theorem haltDoor_still (n : ChannelNo) (p : Part) : (haltDoor n p).still = p.still := by
  simp [haltDoor]

/-- The start queue of a halted channel holds no door, where it held none but this one under way. -/
theorem haltDoor_calm (hactions : ∀ a ∈ p.sequencer.actions, a.dueWaiting = false)
    (hqueue : ∀ r ∈ p.doors.queue, r = .retainer ∨ (r = .door n ∧ (channel p n).state.atRest = false ∧ (channel p n).state ≠ .locking)) :
    NothingWaits (haltDoor n p) := by
  refine ⟨fun r hr => ?_, by rw [haltDoor_actions]; exact hactions⟩
  rw [haltDoor_queue] at hr
  split at hr
  next hrest =>
    obtain h | ⟨-, h1, h2⟩ := hqueue r hr
    · exact h
    · obtain h | h := hrest
      · rw [h1] at h; cases h
      · exact absurd h h2
  · obtain ⟨hmem, hne⟩ := List.mem_filter.mp hr
    obtain h | ⟨h, -⟩ := hqueue r hmem
    · exact h
    · simp [h] at hne

end

section
variable {x : Slot} {p : Part}

theorem orderDoorHalt_channel (h : 7 < octet x 0) : orderDoorHalt x p = refuse .refusedRange 0 p := by
  simp only [orderDoorHalt, readChannel_none h]

theorem orderDoorHalt_none {n : ChannelNo} (hn : readChannel (octet x 0) = some n) (h : (channel p n).config.kind = .none) :
    orderDoorHalt x p = refuse .refusedState 0 p := by
  simp [orderDoorHalt, hn, h]

theorem orderDoorHalt_halts {n : ChannelNo} (hn : readChannel (octet x 0) = some n) (h : (channel p n).config.kind ≠ .none) :
    orderDoorHalt x p = { result := .ok, detail := (channel (haltDoor n p) n).state.code, part := haltDoor n p } := by
  simp [orderDoorHalt, hn, h]

end

theorem doorHalt_halts {i : SlotNo} {s : State} (hnext : OrderNext i 0x32 s) {n : ChannelNo} (hn : readChannel (param i s 0) = some n)
    (hkind : (channel s.part n).config.kind ≠ .none) (howner : (channel s.part n).owner ≠ .order i)
    (hactions : ∀ a ∈ s.part.sequencer.actions, a.dueWaiting = false)
    (hqueue : ∀ r ∈ s.part.doors.queue, r = .retainer ∨
      (r = .door n ∧ (channel s.part n).state.atRest = false ∧ (channel s.part n).state ≠ .locking)) :
    ∃ t, execDoorHalt i s = .next t ∧ Answers i .ok (channel t.part n).state.code s t ∧
      Frame [.window, .cabins, .launch, .doors, .sequencer, .sup] s t ∧ t.part.still = (takeHead i s.part).still ∧
      channel t.part n = haltedChannel { channel s.part n with owner := .none } ∧ (∀ m, m ≠ n → channel t.part m = channel s.part m) ∧
      (∀ j, j ≠ i → (channel s.part n).owner = .order j →
        (slotOf t.part j).state = .done ∧ (slotOf t.part j).result = asOctet Result.superseded.code) ∧
      ∀ r ∈ t.part.doors.queue, r = .retainer := by
  have hbody := orderDoorHalt_halts (p := takeHead i s.part) hn hkind
  obtain ⟨hsame, hothers⟩ := channel_haltDoor n (takeHead i s.part)
  have hcalm := haltDoor_calm (p := takeHead i s.part) (n := n) hactions hqueue
  have hblocks {b : Block} (hb : b ∉ [Block.window, .cabins, .doors, .sequencer]) := haltDoor_same (n := n) (p := takeHead i s.part) hb
  have hslots (k : SlotNo) := slotOf_haltDoor (n := n) (p := takeHead i s.part) k
  have hstill := haltDoor_still n (takeHead i s.part)
  have hintake : (haltDoor n (takeHead i s.part)).window.intake = (takeHead i s.part).window.intake := (still_fields hstill).2.2.2.2.2.2.1
  have howner' : (channel (takeHead i s.part) n).owner ≠ .order i := howner
  generalize haltDoor n (takeHead i s.part) = q at *
  obtain ⟨t, ht, hanswers, hframe, hpart, hkept⟩ := atOnce_calm_answers (changed := [.window, .cabins, .launch, .doors, .sequencer, .sup])
    hnext hbody ((hslots i).trans (tellOwner_slotOf_ne howner')) hintake hcalm
    (fun b hb => by
      have hq : Part.same b (takeHead i s.part) q := hblocks (by revert hb; cases b <;> simp)
      exact same_trans (same_takeHead i s.part (by rintro rfl; simp at hb)) hq) (by decide)
  have hchannel (m : ChannelNo) : channel t.part m = channel q m := by
    obtain ⟨-, -, -, -, -, -, -, -, hchannels, -⟩ := hkept
    rw [hpart, channel_finish, channel, hchannels]; rfl
  refine ⟨t, ht, by rw [hchannel]; exact hanswers, hframe, ?_, (hchannel n).trans hsame, fun m hm => (hchannel m).trans (hothers m hm),
    fun j hj hown => ?_, ?_⟩
  · rw [hpart, still_finish, still_answer, hstill]
  · have hslot : slotOf t.part j = slotOf q j := by
      rw [hpart, slotOf_finish, slotOf, hkept.windowKept.1, ← slotOf, slotOf_answer_ne _ _ _ _ _ hj]
    have howner'' : (channel (takeHead i s.part) n).owner = .order j := hown
    rw [hslot, hslots, tellOwner_order howner'', slotOf_answer_same]
    exact ⟨rfl, rfl⟩
  · rw [hpart, finish_doors]
    exact (settle_calm (nothingWaits_of_eq (p := q) (q := answer i _ _ q) rfl rfl hcalm)).2.1

/-! ### DOOR_RESET_FAULT (R94) -/

/-- Where no action waits due and no other judgement is called for, nothing follows. -/
theorem settle_waitless {p : Part} (hlaunch : p.work.launch = false) (harb : p.work.arbiter = false)
    (hactions : ∀ a ∈ p.sequencer.actions, a.dueWaiting = false) : settle 64 p = { p with work := {} } := by
  by_cases hseq : p.work.sequencer = true
  · have hfirst : settleOnce p = { p with work := {} } := by
      have hjudge := judgeSequencer_waitless (p := { p with work := {} }) hactions
      simp [settleOnce, hlaunch, harb, hseq, hjudge]
    rw [settle, if_neg (by simp [Work.quiet, hseq]), hfirst]
    exact settle_quiet _ _ rfl
  · rw [settle_quiet 64 p (by simp [Work.quiet, hlaunch, harb, hseq])]
    have : p.work = {} := by cases h : p.work; simp_all
    rw [← this]

/-- An order after whose block nothing follows but judgements that change nothing. -/
theorem atOnce_rests {i : SlotNo} {k : Byte} {body : Slot → Part → Reply} {s : State} {r : Result} {d : Nat} {q : Part}
    {changed : List Block} (hnext : OrderNext i k s)
    (hbody : body (slotOf s.part i) (takeHead i s.part) = { result := r, detail := d, part := q })
    (hwindow : WindowKept (takeHead i s.part) q) (hsettle : settle 64 (answer i r d q) = { answer i r d q with work := {} })
    (hkept : ∀ b, b ≠ .window → b ∉ changed → Part.same b s.part q) :
    ∃ t, atOnce i k body s = .next t ∧ Answers i r d s t ∧ WindowFrame i s t ∧ Frame (.window :: changed) s t ∧
      t.part = finish (answer i r d q) := by
  obtain ⟨hready, hhead, hkind⟩ := hnext
  obtain ⟨hanswers, hframe⟩ := answers_finish (i := i) (r := r) (d := d) (s := s) hwindow (.of_eq (by rw [hsettle]))
    (by rw [hsettle]; simp [answer, Attn.bit])
  refine ⟨_, atOnce_acts hready.1 hhead hkind, ?_⟩
  rw [hbody]
  dsimp only
  refine ⟨hanswers, hframe, frame_finish hready fun b _ hb => ?_, rfl⟩
  rw [List.mem_cons, not_or] at hb
  have hsame := hkept b hb.1 hb.2
  rw [hsettle]
  cases b with
  | window => exact absurd rfl hb.1
  | _ => exact hsame

/-- The state that the limits of a channel in FAULT show (R94). -/
def shownState (c : Channel) : DoorState := if c.limA.high = true then .atA else if c.limB.high = true then .atB else .unknown

section
variable {x : Slot} {p : Part}

theorem orderDoorResetFault_channel (h : 7 < octet x 0) : orderDoorResetFault x p = refuse .refusedRange 0 p := by
  simp only [orderDoorResetFault, readChannel_none h]

theorem orderDoorResetFault_state {n : ChannelNo} (hn : readChannel (octet x 0) = some n) (h : (channel p n).state ≠ .fault) :
    orderDoorResetFault x p = refuse .refusedState 1 p := by
  simp [orderDoorResetFault, hn, h]

theorem orderDoorResetFault_both {n : ChannelNo} (hn : readChannel (octet x 0) = some n) (hstate : (channel p n).state = .fault)
    (ha : (channel p n).limA.high = true) (hb : (channel p n).limB.high = true) : orderDoorResetFault x p = refuse .refusedState 2 p := by
  simp [orderDoorResetFault, hn, hstate, ha, hb]

theorem orderDoorResetFault_resets {n : ChannelNo} (hn : readChannel (octet x 0) = some n) (hstate : (channel p n).state = .fault)
    (h : ¬ ((channel p n).limA.high = true ∧ (channel p n).limB.high = true)) : orderDoorResetFault x p = ok (resetFault n p) := by
  have : ((channel p n).limA.high && (channel p n).limB.high) = false := by simpa using h
  simp [orderDoorResetFault, hn, hstate, this]

end

section
variable (n : ChannelNo) (p : Part)

theorem resetFault_eq : resetFault n p =
    attend .door (refreshDoorCap (gone .doorFault n.val (restIn n (shownState (channel p n)) p))) := by
  unfold resetFault shownState
  dsimp only
  split
  · rfl
  · split
    · rfl
    · rfl

theorem resetFault_rests : Undisturbed (restIn n (shownState (channel p n)) p) (resetFault n p) ∧
    (resetFault n p).sup.caps.door = (resetFault n p).doors.channels.toList.any (fun c => c.state == .fault && c.config.capOnFault) ∧
    ¬ ConditionPresent .doorFault n.val (resetFault n p).sup ∧ (resetFault n p).window.attention.getLsbD 5 = true := by
  rw [resetFault_eq]
  generalize restIn n (shownState (channel p n)) p = q
  have capped (r : Part) : Undisturbed r (refreshDoorCap r) := setCaps_undisturbed ..
  refine ⟨((gone_undisturbed ..).trans (capped _)).trans (attend_undisturbed ..), ?_, ?_, by simp [Attn.bit]⟩
  · rw [attend_sup, refreshDoorCap, setDoorCap, setCaps_caps]
    simp
  · rw [attend_sup, refreshDoorCap, setDoorCap, ConditionPresent, setCaps_sup]
    split
    · exact not_present_gone _ _ _
    · exact not_present_gone _ _ _

end

theorem doorResetFault_resets {i : SlotNo} {s : State} (hnext : OrderNext i 0x33 s) {n : ChannelNo} (hn : readChannel (param i s 0) = some n)
    (hstate : (channel s.part n).state = .fault) (h : ¬ ((channel s.part n).limA.high = true ∧ (channel s.part n).limB.high = true))
    (hactions : ∀ a ∈ s.part.sequencer.actions, a.dueWaiting = false) :
    ∃ t q, execDoorResetFault i s = .next t ∧ q = resetFault n (takeHead i s.part) ∧ Answers i .ok 0 s t ∧ WindowFrame i s t ∧
      Frame [.window, .rope, .doors, .sup] s t ∧ t.part = finish (answer i .ok 0 q) ∧
      settle 64 (answer i .ok 0 q) = { answer i .ok 0 q with work := {} } := by
  have hbody := orderDoorResetFault_resets (p := takeHead i s.part) hn hstate h
  obtain ⟨hrest, -⟩ := resetFault_rests n (takeHead i s.part)
  have hshown : ∀ b ∉ [Block.doors], Part.same b (takeHead i s.part) (restIn n (shownState (channel (takeHead i s.part) n)) (takeHead i s.part)) := by
    intro b hb
    cases b <;> simp at hb <;> simp [Part.same]
  have hcalled : (restIn n (shownState (channel (takeHead i s.part) n)) (takeHead i s.part)).work.launch = false ∧
      (restIn n (shownState (channel (takeHead i s.part) n)) (takeHead i s.part)).work.arbiter = false := by simp [hnext.1.2.1]
  generalize hq : resetFault n (takeHead i s.part) = q at *
  generalize restIn n (shownState (channel (takeHead i s.part) n)) (takeHead i s.part) = r at *
  have hsettle : settle 64 (answer i .ok 0 q) = { answer i .ok 0 q with work := {} } := by
    obtain ⟨hkeeps, -, hwork, -⟩ := hrest
    refine settle_waitless ?_ ?_ ?_
    · rw [answer_work, hwork]; exact hcalled.1
    · rw [answer_work, hwork]; exact hcalled.2
    · have hseq : q.sequencer = s.part.sequencer :=
        (same_of_supKeeps hkeeps (b := .sequencer) (by decide)).trans (hshown .sequencer (by decide))
      rw [answer_sequencer, hseq]; exact hactions
  have hkept : ∀ b, b ≠ Block.window → b ∉ [Block.rope, .doors, .sup] → Part.same b s.part q := by
    intro b hb hl
    have hr := hshown b (by intro h; simp at h; subst h; simp at hl)
    have hsame : Part.same b r q := by
      by_cases hc : b = .calls
      · subst hc; exact hrest.2.1
      · exact same_of_supKeeps hrest.1 (by revert hb hl hc; cases b <;> simp)
    exact same_trans (same_takeHead i s.part hb) (same_trans hr hsame)
  obtain ⟨t, ht, hanswers, hframe, hblocks, hpart⟩ := atOnce_rests hnext hbody
    ((WindowKept.of_eq (hshown .window (by decide))).trans hrest.windowKept) hsettle hkept
  exact ⟨t, q, ht, rfl, hanswers, hframe, hblocks, hpart, hsettle⟩

/-- Settles O23. -/
theorem doorHaltAndResetFault : Obligations.DoorHaltAndResetFault := by
  refine fun i s hactions => ⟨fun hnext => ⟨fun h => atOnce_refuses hnext (orderDoorHalt_channel h), fun n hn =>
    ⟨fun h => atOnce_refuses hnext (orderDoorHalt_none (p := takeHead i s.part) hn h), fun hkind howner hqueue => ?_⟩⟩,
    fun hnext => ⟨fun h => atOnce_refuses hnext (orderDoorResetFault_channel h), fun n hn =>
    ⟨fun h => atOnce_refuses hnext (orderDoorResetFault_state (p := takeHead i s.part) hn h),
      fun h ha hb => atOnce_refuses hnext (orderDoorResetFault_both (p := takeHead i s.part) hn h ha hb), fun hstate h => ?_⟩⟩⟩
  · obtain ⟨t, ht, hanswers, hframe, hstill, hchannel, hothers, hslots, hcalm⟩ := doorHalt_halts hnext hn hkind howner hactions hqueue
    refine ⟨t, ht, hanswers, hframe, fun j => still_cabins hstill j, hothers, hslots, fun hrest => ?_, fun hl => ?_, fun hrest hl => ⟨?_, fun hin => ?_⟩⟩
    · rw [hchannel, haltedChannel, if_pos hrest]
    · rw [hchannel, haltedChannel, if_neg (by simp [hl, DoorState.atRest]), if_pos hl]
    · rw [hchannel, haltedChannel, if_neg (by simp [hrest]), if_neg hl, haltedState_eq]
    · exact nomatch hcalm _ hin
  · obtain ⟨t, q, ht, rfl, hanswers, hframe, hblocks, hpart, hsettle⟩ := doorResetFault_resets hnext hn hstate h hactions
    obtain ⟨hrest, hcap, hcond, hbit⟩ := resetFault_rests n (takeHead i s.part)
    have hchannel (m : ChannelNo) : channel t.part m = channel (restIn n (shownState (channel s.part n)) (takeHead i s.part)) m := by
      rw [hpart, channel_finish, hsettle]
      exact channel_of_doors_eq (same_of_supKeeps hrest.1 (b := .doors) (by decide)) m
    refine ⟨t, ht, hanswers, hframe, ?_, hblocks, fun m hm => ?_, ?_, ?_, ?_⟩
    · rw [hpart, finish_window, hsettle]; exact answer_bits i .ok 0 _ 5 hbit
    · rw [hchannel, channel_restIn, channel_modChannel_ne _ _ _ _ hm]; rfl
    · rw [hchannel, channel_restIn_same]; rfl
    · rw [hpart, finish_sup, hsettle]; exact hcond
    · rw [hpart, finish_sup, finish_doors, hsettle]; exact hcap

end Sys2Proof.Machine

/-! DOOR_MOVE (R82, R84, R90, R96, R98). -/

namespace Sys2Proof.Machine

/-! ### Its refusals -/

section
variable {i : SlotNo} {x : Slot} {p : Part}

theorem readTarget_none {n : Nat} (h1 : n ≠ 1) (h2 : n ≠ 2) : readTarget n = none := by
  unfold readTarget
  split <;> simp_all

theorem orderDoorMove_channel (h : 7 < octet x 0) : orderDoorMove i x p = answer i .refusedRange 1 p := by
  simp only [orderDoorMove, readChannel_none h]

section
variable {n : ChannelNo} (hn : readChannel (octet x 0) = some n)
include hn

theorem orderDoorMove_target (h1 : octet x 1 ≠ 1) (h2 : octet x 1 ≠ 2) : orderDoorMove i x p = answer i .refusedRange 2 p := by
  simp only [orderDoorMove, hn, readTarget_none h1 h2]

variable {e : End} (he : readTarget (octet x 1) = some e)
include he

theorem orderDoorMove_none (h : (channel p n).config.kind = .none) : orderDoorMove i x p = answer i .refusedState 1 p := by
  simp [orderDoorMove, hn, he, h]

theorem orderDoorMove_fault (hk : (channel p n).config.kind ≠ .none) (h : (channel p n).state = .fault) :
    orderDoorMove i x p = answer i .refusedState 2 p := by
  simp [orderDoorMove, hn, he, hk, h]

theorem orderDoorMove_cabin (hk : (channel p n).config.kind.isCabin = true) (hf : (channel p n).state ≠ .fault) (h : p.sup.mode ≠ .off) :
    orderDoorMove i x p = answer i .refusedState 3 p := by
  have hne : (channel p n).config.kind ≠ .none := by intro e; rw [e] at hk; cases hk
  simp [orderDoorMove, hn, he, hne, hf, hk, isOff, h]

theorem orderDoorMove_takes (hk : (channel p n).config.kind ≠ .none) (hf : (channel p n).state ≠ .fault)
    (h : (channel p n).config.kind.isCabin = true → p.sup.mode = .off) : orderDoorMove i x p = takeOperation n e (claimForOrder i n) p := by
  have : ((channel p n).config.kind.isCabin && !isOff p) = false := by simpa [isOff] using h
  simp [orderDoorMove, hn, he, hk, hf, this]

end
end

/-! ### The order owns the channel -/

/-- The part when a DOOR_MOVE has taken a channel with no owner: the channel has its target and its owner, and the progress shows 0. -/
def moveClaimed (i : SlotNo) (n : ChannelNo) (e : End) (p : Part) : Part :=
  modChannel n (fun c => { c with owner := .order i, retriesUsed := 0, target := some e }) (setProgress i 0 p)

/-- A waiting channel's motion (R84). -/
def moveWaiting (m : Motion) (c : Channel) : Channel := { c with state := .waitingStart, waits := m, motor := none }

section
variable {i : SlotNo} {n : ChannelNo} {e : End} {p : Part}

theorem takeOperation_claimed (h : (channel p n).owner = .none) :
    takeOperation n e (claimForOrder i n) p = operateTakeover n e (moveClaimed i n e p) := by
  have hmod : modChannel n (fun c => { c with retriesUsed := 0, target := some e }) (claimForOrder i n (tellOwner n .interrupted p)) =
      moveClaimed i n e p := by
    rw [tellOwner_none h]
    show modChannel n _ (modChannel n _ (modChannel n _ (setProgress i 0 p))) = _
    rw [modChannel_modChannel, modChannel_modChannel]
    rfl
  rw [takeOperation, hmod]

/-- The order of another slot is superseded first. -/
theorem takeOperation_superseded {j : SlotNo} (h : (channel p n).owner = .order j) :
    takeOperation n e (claimForOrder i n) p = operateTakeover n e (moveClaimed i n e (answer j .superseded 0 p)) := by
  have hmod : modChannel n (fun c => { c with retriesUsed := 0, target := some e }) (claimForOrder i n (tellOwner n .interrupted p)) =
      moveClaimed i n e (answer j .superseded 0 p) := by
    rw [tellOwner_order h]
    show modChannel n _ (modChannel n _ (modChannel n _ (setProgress i 0 (answer j .superseded 0 p)))) = _
    rw [modChannel_modChannel, modChannel_modChannel]
    rfl
  rw [takeOperation, hmod]

theorem channel_moveClaimed : channel (moveClaimed i n e p) n = { channel p n with owner := .order i, retriesUsed := 0, target := some e } :=
  channel_modChannel_same ..

theorem operateTakeover_rests {q : Part} (h : (channel q n).state.atRest = true) : operateTakeover n e q = operateFromRest n e q := by
  cases hs : (channel q n).state <;> simp [hs, DoorState.atRest] at h <;> simp only [operateTakeover, hs]

theorem enterWaiting_eq (m : Motion) (q : Part) : enterWaiting n m q =
    { q with
      doors := { q.doors with channels := modTable q.doors.channels n (moveWaiting m), queue := q.doors.queue ++ [.door n] }
      work := { q.work with arbiter := true } } := rfl

end

/-! ### The cases of the order -/

/-- A channel that its operation leaves at the end `e`. -/
def arrivedAt (n : ChannelNo) (e : End) (p : Part) : Part :=
  modChannel n (fun c => { c with owner := .none, retriesUsed := 0, target := none, waits := .none, state := e.atState }) p

theorem modChannel_self {n : ChannelNo} {f : Channel → Channel} {p : Part} (h : f (channel p n) = channel p n) : modChannel n f p = p := by
  have hid : modChannel n f p = modChannel n id p := modChannel_congr h
  have hself : modTable p.doors.channels n id = p.doors.channels := by
    simp [modTable, vector_get_eq]
  rw [hid, modChannel, hself]

/-- A channel that is in a state of rest already. -/
theorem restIn_same {n : ChannelNo} {st : DoorState} {p : Part} (h : (channel p n).state = st) : restIn n st p = p := by
  have hself : modChannel n (fun c => { c with state := st }) p = p := modChannel_self (by rw [← h])
  simp [restIn, hself, h]

/-- The operation of an order ends where the channel stands already. -/
theorem finishAt_stands {i : SlotNo} {n : ChannelNo} {e : End} {p : Part} (hstate : (channel p n).state = e.atState)
    (howner : (channel p n).owner = .order i) :
    finishAt n e .done p = answer i .ok 0 (modChannel n (fun c => { c with owner := .none, target := none, waits := .none }) p) := by
  rw [finishAt, standAt, restIn_same hstate, endOperation, tellOwner_order howner]
  show answer i .ok 0 (modChannel n _ (modChannel n _ p)) = _
  rw [modChannel_modChannel]

/-- A held order whose progress shows 0. -/
theorem holds_of_window {i : SlotNo} {s : State} {q : Part} (h : (settle 64 q).window = (setProgress i 0 (takeHead i s.part)).window) :
    Holds i s { s with part := finish q } := by
  have hslot : slotOf (finish q) i = { slotOf s.part i with state := .taken, progress := 0 } := by
    rw [slotOf_finish, slotOf, h, ← slotOf, slotOf_setProgress_same, slotOf_takeHead_same]; rfl
  refine ⟨by rw [hslot], by rw [hslot], by rw [hslot], ?_⟩
  rw [finish_window, h]; rfl

section
variable {i : SlotNo} {s : State} (hnext : LongOrderNext i 0x31 s) {n : ChannelNo} (hn : readChannel (param i s 0) = some n)
  {e : End} (he : readTarget (param i s 1) = some e) (hk : (channel s.part n).config.kind ≠ .none)
  (hf : (channel s.part n).state ≠ .fault) (hmode : (channel s.part n).config.kind.isCabin = true → s.part.sup.mode = .off)
include hnext hn he hk hf hmode

/-- The order is carried out. -/
theorem doorMove_acts : execDoorMove i s = .next { s with part := finish (takeOperation n e (claimForOrder i n) (takeHead i s.part)) } := by
  obtain ⟨⟨hready, hhead, hkind⟩, hroom⟩ := hnext
  have hbody := orderDoorMove_takes (i := i) (p := takeHead i s.part) hn he hk hf hmode
  rw [execDoorMove, longRunning_acts hready.1 hhead hkind hroom, hbody]

variable (howner : (channel s.part n).owner = .none)
include howner

/-- At its target the order is answered at once (R82). -/
theorem doorMove_there (hstate : (channel s.part n).state = e.atState) :
    ∃ t, execDoorMove i s = .next t ∧ (slotOf t.part i).state = .done ∧ (slotOf t.part i).result = 0 ∧ (slotOf t.part i).detail = 0 ∧
      channel t.part n = { channel s.part n with retriesUsed := 0, target := none, waits := .none } ∧
      t.part.doors.queue = s.part.doors.queue ∧ Frame [.window, .doors] s t := by
  have hrest : (channel (moveClaimed i n e (takeHead i s.part)) n).state.atRest = true := by
    rw [channel_moveClaimed, show (channel (takeHead i s.part) n).state = e.atState from hstate]; cases e <;> rfl
  have hready := hnext.1.1
  have hbody : takeOperation n e (claimForOrder i n) (takeHead i s.part) = answer i .ok 0 (arrivedAt n e (setProgress i 0 (takeHead i s.part))) := by
    rw [takeOperation_claimed (p := takeHead i s.part) howner, operateTakeover_rests hrest, operateFromRest]
    have hst : (channel (moveClaimed i n e (takeHead i s.part)) n).state = e.atState := by rw [channel_moveClaimed]; exact hstate
    simp only [hst, beq_self_eq_true, if_true]
    rw [finishAt_stands hst (by rw [channel_moveClaimed])]
    show answer i .ok 0 (modChannel n _ (modChannel n _ _)) = _
    rw [modChannel_modChannel]
    exact congrArg (answer i .ok 0) (modChannel_congr (by simp only; exact congrArg (fun st => { channel s.part n with
      retriesUsed := 0, owner := .none, target := none, waits := .none, state := st }) hstate))
  have hquiet : settle 64 (answer i .ok 0 (arrivedAt n e (setProgress i 0 (takeHead i s.part)))) =
      answer i .ok 0 (arrivedAt n e (setProgress i 0 (takeHead i s.part))) := settle_of_quiet hready.2.1
  refine ⟨_, (doorMove_acts hnext hn he hk hf hmode), ?_⟩
  rw [hbody]
  dsimp only
  refine ⟨?_, ?_, ?_, ?_, ?_, frame_finish hready fun b _ hb => ?_⟩
  · rw [slotOf_finish, hquiet, slotOf_answer_same]
  · rw [slotOf_finish, hquiet, slotOf_answer_same]; rfl
  · rw [slotOf_finish, hquiet, slotOf_answer_same]; rfl
  · rw [channel_finish, hquiet]
    show channel (arrivedAt n e _) n = _
    rw [arrivedAt, channel_modChannel_same, ← hstate, ← howner]; rfl
  · rw [finish_doors, hquiet]; rfl
  · rw [hquiet]; cases b <;> simp at hb <;> rfl

variable (hrest : (channel s.part n).state.atRest = true) (haway : (channel s.part n).state ≠ e.atState)
include hrest haway

theorem doorMove_waits (hlock : ¬ ((channel s.part n).state = .atA ∧ (channel s.part n).config.locking = true)) :
    execDoorMove i s = .next { s with part := finish (enterWaiting n .move (moveClaimed i n e (takeHead i s.part))) } := by
  have hclaimed : (channel (moveClaimed i n e (takeHead i s.part)) n).state = (channel s.part n).state := by rw [channel_moveClaimed]; rfl
  have hconfig : (channel (moveClaimed i n e (takeHead i s.part)) n).config = (channel s.part n).config := by rw [channel_moveClaimed]; rfl
  have hbody : takeOperation n e (claimForOrder i n) (takeHead i s.part) = enterWaiting n .move (moveClaimed i n e (takeHead i s.part)) := by
    rw [takeOperation_claimed (p := takeHead i s.part) howner, operateTakeover_rests (by rw [hclaimed]; exact hrest), operateFromRest]
    simp only [hclaimed, hconfig, beq_iff_eq, haway, if_false]
    rw [if_neg (by simpa using hlock)]
  rw [doorMove_acts hnext hn he hk hf hmode, hbody]

/-- Without a start left the channel waits (R84, R96). -/
theorem doorMove_queues (hlock : ¬ ((channel s.part n).state = .atA ∧ (channel s.part n).config.locking = true))
    (hroom : budgetRoom s.part.doors s.part.clock.now = false) :
    ∃ t, execDoorMove i s = .next t ∧ Holds i s t ∧ Frame [.window, .doors] s t ∧
      channel t.part n = { channel s.part n with
        state := .waitingStart, waits := .move, target := some e, owner := .order i, retriesUsed := 0, motor := none } ∧
      t.part.doors.queue = s.part.doors.queue ++ [.door n] := by
  have hready := hnext.1.1
  have hbody := doorMove_waits hnext hn he hk hf hmode howner hrest haway hlock
  generalize hW : enterWaiting n .move (moveClaimed i n e (takeHead i s.part)) = W at hbody
  have hwork : W.work = { arbiter := true } := by
    rw [← hW]; show ({ s.part.work with arbiter := true } : Work) = _; rw [hready.2.1]
  have hsettle : settle 64 W = { W with work := {} } := settle_no_room hwork (.inr (by rw [← hW]; exact hroom))
  refine ⟨_, hbody, holds_of_window (by rw [hsettle, ← hW]; rfl), frame_finish hready fun b _ hb => ?_, ?_, ?_⟩
  · rw [hsettle, ← hW]; cases b <;> simp at hb <;> rfl
  · rw [channel_finish, hsettle, ← hW]
    show channel (modChannel n _ (modChannel n _ _)) n = _
    rw [channel_modChannel_same, channel_modChannel_same]; rfl
  · rw [finish_doors, hsettle, ← hW]; rfl

/-- With a start left it moves (R84, R96). -/
theorem doorMove_moves (hlock : ¬ ((channel s.part n).state = .atA ∧ (channel s.part n).config.locking = true))
    (hroom : budgetRoom s.part.doors s.part.clock.now = true) (hqueue : s.part.doors.queue = []) (hlimit : (channel s.part n).limit e = false) :
    ∃ t, execDoorMove i s = .next t ∧ Holds i s t ∧ Frame [.window, .doors] s t ∧
      channel t.part n = { channel s.part n with
        state := e.movingState, waits := .none, target := some e, owner := .order i, retriesUsed := 0, motor := some e
        lastGrant := s.part.clock.now, starts := count16 (channel s.part n).starts, obstructionRun := 0 } ∧
      t.part.doors.queue = [] ∧ t.part.doors.history.head? = some { time := s.part.clock.now, requester := .door n } ∧
      t.part.doors.grants = count16 s.part.doors.grants := by
  have hready := hnext.1.1
  have hbody := doorMove_waits hnext hn he hk hf hmode howner hrest haway hlock
  generalize hW : enterWaiting n .move (moveClaimed i n e (takeHead i s.part)) = W at hbody
  have hwork : W.work = { arbiter := true } := by
    rw [← hW]; show ({ s.part.work with arbiter := true } : Work) = _; rw [hready.2.1]
  have hchannel : channel W n = moveWaiting .move { channel s.part n with owner := .order i, retriesUsed := 0, target := some e } := by
    rw [← hW]
    show channel (modChannel n _ (modChannel n _ _)) n = _
    rw [channel_modChannel_same, channel_modChannel_same]; rfl
  have hheading : headingOf (channel W n) = e := by rw [hchannel]; rfl
  have hsettle : settle 64 W = doorGranted n W := by
    refine settle_starts hwork (by rw [← hW]; show s.part.doors.queue ++ _ = _; rw [hqueue]; rfl) (by rw [← hW]; exact hroom) ?_
    rw [hheading, hchannel]
    revert hlimit; cases e <;> exact id
  have hclock : W.clock = s.part.clock := by rw [← hW]; rfl
  refine ⟨_, hbody, holds_of_window (by rw [hsettle, ← hW]; rfl), frame_finish hready fun b _ hb => ?_, ?_, ?_, ?_, ?_⟩
  · rw [hsettle, ← hW]; cases b <;> simp at hb <;> rfl
  · have hmoved : channel (doorGranted n W) n = motionStarted W.clock.now (channel W n) := modTable_get_same ..
    rw [channel_finish, hsettle, hmoved, hchannel, hclock]; rfl
  · rw [finish_doors, hsettle]; rfl
  · rw [finish_doors, hsettle, ← hclock]; rfl
  · rw [finish_doors, hsettle, ← hW]; rfl

end

/-- A locked gate first releases its lock (R83). -/
theorem doorMove_unlocks {i : SlotNo} {s : State} (hnext : LongOrderNext i 0x31 s) {n : ChannelNo} (hn : readChannel (param i s 0) = some n)
    (he : readTarget (param i s 1) = some .b) (hk : (channel s.part n).config.kind ≠ .none)
    (hf : (channel s.part n).state ≠ .fault) (hmode : (channel s.part n).config.kind.isCabin = true → s.part.sup.mode = .off)
    (howner : (channel s.part n).owner = .none) (hstate : (channel s.part n).state = .atA)
    (hlock : (channel s.part n).config.locking = true) (hsensed : (channel s.part n).lockSns.high = true) :
    ∃ t, execDoorMove i s = .next t ∧ Holds i s t ∧ Frame [.window, .doors] s t ∧
      channel t.part n = { channel s.part n with
        state := .unlocking, lockRel := true, since := s.part.clock.now, target := some .b, owner := .order i, retriesUsed := 0 } := by
  have hready := hnext.1.1
  have hclaimed : channel (moveClaimed i n .b (takeHead i s.part)) n =
      { channel s.part n with owner := .order i, retriesUsed := 0, target := some .b } := channel_moveClaimed
  have hbody : takeOperation n .b (claimForOrder i n) (takeHead i s.part) =
      modChannel n (fun c => { c with state := .unlocking, lockRel := true, since := s.part.clock.now }) (moveClaimed i n .b (takeHead i s.part)) := by
    rw [takeOperation_claimed (p := takeHead i s.part) howner, operateTakeover_rests (by rw [hclaimed]; simp [hstate, DoorState.atRest]),
      operateFromRest]
    simp [hclaimed, hstate, hlock, End.atState, enterUnlocking, hsensed]
    rfl
  have hact := doorMove_acts hnext hn he hk hf hmode
  rw [hbody] at hact
  generalize hW : modChannel n (fun c => { c with state := .unlocking, lockRel := true, since := s.part.clock.now })
    (moveClaimed i n .b (takeHead i s.part)) = W at hact
  have hsettle : settle 64 W = W := settle_of_quiet (by rw [← hW]; exact hready.2.1)
  refine ⟨_, hact, holds_of_window (by rw [hsettle, ← hW]; rfl), frame_finish hready fun b _ hb => ?_, ?_⟩
  · rw [hsettle, ← hW]; cases b <;> simp at hb <;> rfl
  · rw [channel_finish, hsettle, ← hW, channel_modChannel_same, hclaimed]

/-! ### A motion turned back (R90) -/

/-- While the channel heads for `e`, owned by the order of slot `i`, and no other door waits: the judgements leave the order slots, and the
channel to that heading. -/
structure Heading (i : SlotNo) (n : ChannelNo) (e : End) (p q : Part) : Prop where
  slots : q.window.slots = p.window.slots
  intake : q.window.intake = p.window.intake
  owner : (channel q n).owner = .order i
  target : (channel q n).target = some e
  waits : (channel q n).waits ≠ .reversal
  motor : (channel q n).motor ≠ some e.other
  limit : (channel q n).limit e = false
  queue : ∀ r ∈ q.doors.queue, r = .retainer ∨ r = .door n
  actions : ∀ a ∈ q.sequencer.actions, a.dueWaiting = false

/-- What leaves the slots and the doors leaves the heading. -/
theorem Heading.of_eq {i : SlotNo} {n : ChannelNo} {e : End} {p q r : Part} (h : Heading i n e p q) (hslots : r.window.slots = q.window.slots)
    (hintake : r.window.intake = q.window.intake) (hchannels : r.doors.channels = q.doors.channels)
    (hqueue : ∀ x ∈ r.doors.queue, x = .retainer ∨ x ∈ q.doors.queue) (hactions : r.sequencer.actions = q.sequencer.actions) :
    Heading i n e p r := by
  have hchannel : channel r n = channel q n := by rw [channel, hchannels, channel]
  refine ⟨hslots.trans h.slots, hintake.trans h.intake, hchannel ▸ h.owner, hchannel ▸ h.target, hchannel ▸ h.waits, hchannel ▸ h.motor,
    hchannel ▸ h.limit, fun x hx => ?_, hactions ▸ h.actions⟩
  obtain hr | hq := hqueue x hx
  · exact .inl hr
  · exact h.queue x hq

theorem headingOf_target {c : Channel} {e : End} (htarget : c.target = some e) (hwaits : c.waits ≠ .reversal) : headingOf c = e := by
  unfold headingOf
  split
  next h => exact absurd h hwaits
  · rw [htarget]; rfl

theorem heading_judgeLaunch {i : SlotNo} {n : ChannelNo} {e : End} {p q : Part} (h : Heading i n e p q) : Heading i n e p (judgeLaunch q) := by
  refine h.of_eq ?_ ?_ ?_ (fun x hx => ?_) ?_
  · simp
  · simp
  · simp only [judgeLaunch, requestRelease, removeRequest, modLaunch, callArbiter]
    (repeat' split) <;> rfl
  · simp only [judgeLaunch, requestRelease, removeRequest, modLaunch, callArbiter] at hx
    (repeat' split at hx) <;> simp at hx <;> grind
  · simp

theorem heading_judgeArbiter {i : SlotNo} {n : ChannelNo} {e : End} {p q : Part} (h : Heading i n e p q) : Heading i n e p (judgeArbiter q) := by
  unfold judgeArbiter
  split
  · exact h
  next r rest hqueue =>
    split
    · set u : Part := { q with doors := recordGrant r q.clock.now { q.doors with queue := rest } } with hu
      have recorded : Heading i n e p u := h.of_eq rfl rfl rfl
        (fun x hx => .inr (by rw [hqueue]; exact List.mem_cons_of_mem r hx)) rfl
      obtain rfl | rfl := h.queue r (by rw [hqueue]; exact List.mem_cons_self)
      · have granted := grantRetainer_calm u
        obtain ⟨hslots, hintake, -⟩ := granted.windowKept
        have hdoors := grantRetainer_doors u
        exact recorded.of_eq hslots hintake (by rw [handGrant, callArbiter_doors, hdoors])
          (fun x hx => .inr (by rw [handGrant, callArbiter_doors, hdoors] at hx; exact hx))
          (by rw [handGrant, callArbiter_sequencer]; exact congrArg _ (granted.same (b := .sequencer) (by decide)))
      · have hheading : headingOf (channel u n) = e := headingOf_target recorded.target recorded.waits
        have hmoves : startMotion n u = modChannel n (motionStarted u.clock.now) u :=
          startMotion_moves (by rw [hheading]; exact recorded.limit)
        have hchannel : channel (callArbiter (handGrant (.door n) u)) n = motionStarted u.clock.now (channel u n) := by
          rw [handGrant, hmoves]; exact channel_modChannel_same ..
        refine ⟨?_, ?_, by rw [hchannel]; exact recorded.owner, by rw [hchannel]; exact recorded.target, by rw [hchannel]; exact nofun, ?_, ?_, ?_, ?_⟩
        · rw [handGrant, hmoves]; exact recorded.slots
        · rw [handGrant, hmoves]; exact recorded.intake
        · rw [hchannel, motionStarted, hheading]
          cases e <;> exact nofun
        · rw [hchannel]
          have := recorded.limit
          revert this; cases e <;> exact id
        · rw [handGrant, hmoves]; exact recorded.queue
        · rw [handGrant, hmoves]; exact recorded.actions
    · exact h

theorem heading_settle {i : SlotNo} {n : ChannelNo} {e : End} {p q : Part} (h : Heading i n e p q) : Heading i n e p (settle 64 q) := by
  have noted {q : Part} (h : Heading i n e p q) (w : Work) : Heading i n e p { q with work := w } :=
    h.of_eq rfl rfl rfl (fun _ hx => .inr hx) rfl
  refine settle_keeps (P := Heading i n e p) (fun q h => ?_) (fun q h => heading_judgeLaunch h) 64 h
  unfold settleOnce
  split
  · exact heading_judgeLaunch (noted h _)
  · split
    · exact heading_judgeArbiter (noted h _)
    · split
      · rw [judgeSequencer_waitless (p := { q with work := { q.work with sequencer := false } }) h.actions]
        exact noted h _
      · exact h

theorem operateTakeover_turns {n : ChannelNo} {e : End} {q : Part} (h : (channel q n).state = e.other.movingState) :
    operateTakeover n e q = turnBack n e q := by
  cases e <;> simp [operateTakeover, h, End.other, End.movingState]

/-- A motion toward the other end is turned back, and the order that owned it superseded. -/
theorem doorMove_turns_back {i : SlotNo} {s : State} (hnext : LongOrderNext i 0x31 s) {n : ChannelNo} (hn : readChannel (param i s 0) = some n)
    {e : End} (he : readTarget (param i s 1) = some e) (hk : (channel s.part n).config.kind ≠ .none)
    (hf : (channel s.part n).state ≠ .fault) (hmode : (channel s.part n).config.kind.isCabin = true → s.part.sup.mode = .off)
    (hwaits : NothingWaits s.part) {j : SlotNo} (hj : j ≠ i) (howner : (channel s.part n).owner = .order j)
    (hstate : (channel s.part n).state = e.other.movingState) (hlimit : (channel s.part n).limit e = false) :
    ∃ t, execDoorMove i s = .next t ∧ (slotOf t.part j).state = .done ∧ (slotOf t.part j).result = asOctet Result.superseded.code ∧
      Holds i s t ∧ (channel t.part n).owner = .order i ∧ (channel t.part n).target = some e ∧ (channel t.part n).motor ≠ some e.other := by
  set p := answer j .superseded 0 (takeHead i s.part) with hp
  have hclaimed : channel (moveClaimed i n e p) n = { channel s.part n with owner := .order i, retriesUsed := 0, target := some e } :=
    channel_moveClaimed
  have hstopped : channel (stopOutputs n (moveClaimed i n e p)) n =
      { channel s.part n with owner := .order i, retriesUsed := 0, target := some e, motor := none, lockRel := false } := by
    rw [channel_stopOutputs_same, hclaimed]
  have hbody : takeOperation n e (claimForOrder i n) (takeHead i s.part) =
      enterWaiting n .move (stopOutputs n (moveClaimed i n e p)) := by
    rw [takeOperation_superseded (p := takeHead i s.part) howner, operateTakeover_turns (by rw [hclaimed]; exact hstate), turnBack, if_neg]
    rw [hstopped]
    revert hlimit; cases e <;> simp [Channel.limit]
  have hact := doorMove_acts hnext hn he hk hf hmode
  rw [hbody] at hact
  generalize hW : enterWaiting n .move (stopOutputs n (moveClaimed i n e p)) = W at hact
  have hslots : W.window.slots = (setProgress i 0 p).window.slots := by rw [← hW]; rfl
  have hchannel : channel W n = moveWaiting .move { channel s.part n with
      owner := .order i, retriesUsed := 0, target := some e, motor := none, lockRel := false } := by
    rw [← hW]
    show channel (modChannel n _ (stopOutputs n _)) n = _
    rw [channel_modChannel_same, hstopped]
    rfl
  have hheading : Heading i n e (setProgress i 0 p) W := by
    refine ⟨hslots, by rw [← hW]; rfl, by rw [hchannel]; rfl, by rw [hchannel]; rfl, by rw [hchannel]; exact nofun, by rw [hchannel]; exact nofun,
      ?_, fun r hr => ?_, by rw [← hW]; exact hwaits.2⟩
    · rw [hchannel]
      revert hlimit; cases e <;> exact id
    · have hr : r ∈ s.part.doors.queue ++ [.door n] := by rw [← hW] at hr; exact hr
      obtain hr | hr := List.mem_append.mp hr
      · exact .inl (hwaits.1 r hr)
      · exact .inr (List.mem_singleton.mp hr)
  have hsettled := heading_settle hheading
  have hslot (k : SlotNo) : slotOf (finish W) k = slotOf (setProgress i 0 p) k := by
    rw [slotOf_finish, slotOf, hsettled.slots, slotOf]
  have hother : slotOf (finish W) j = slotOf p j := by rw [hslot, slotOf_setProgress_ne _ _ _ _ hj]
  refine ⟨_, hact, ?_, ?_, ⟨?_, ?_, ?_, ?_⟩, ?_, ?_, ?_⟩
  · rw [hother, hp, slotOf_answer_same]
  · rw [hother, hp, slotOf_answer_same]
  · rw [hslot, slotOf_setProgress_same, hp, slotOf_answer_ne _ _ _ _ _ hj.symm, slotOf_takeHead_same]
  · rw [hslot, slotOf_setProgress_same, hp, slotOf_answer_ne _ _ _ _ _ hj.symm, slotOf_takeHead_same]
  · rw [hslot, slotOf_setProgress_same, hp, slotOf_answer_ne _ _ _ _ _ hj.symm, slotOf_takeHead_same]
  · rw [finish_window]; exact hsettled.intake
  · rw [channel_finish]; exact hsettled.owner
  · rw [channel_finish]; exact hsettled.target
  · rw [channel_finish]; exact hsettled.motor

/-- Settles O22. -/
theorem doorMoveIsRefusedOrStarts : Obligations.DoorMoveIsRefusedOrStarts := by
  refine ⟨fun i s hnext => ⟨fun h => longRunning_refuses hnext (orderDoorMove_channel h), fun n hn =>
    ⟨fun h1 h2 => longRunning_refuses hnext (orderDoorMove_target hn h1 h2), fun e he =>
      ⟨fun h => longRunning_refuses hnext (orderDoorMove_none (p := takeHead i s.part) hn he h),
        fun hk h => longRunning_refuses hnext (orderDoorMove_fault (p := takeHead i s.part) hn he hk h),
        fun hk hf h => longRunning_refuses hnext (orderDoorMove_cabin (p := takeHead i s.part) hn he hk hf h)⟩⟩⟩,
    fun i s hnext n hn e he hk hf hmode hwaits => ⟨fun howner hstate => doorMove_there hnext hn he hk hf hmode howner hstate,
      fun howner hrest haway hlock hroom => doorMove_queues hnext hn he hk hf hmode howner hrest haway hlock hroom,
      fun howner hrest haway hlock hroom hqueue hlimit => doorMove_moves hnext hn he hk hf hmode howner hrest haway hlock hroom hqueue hlimit,
      fun howner hstate hlock hb hsensed => ?_,
      fun j hj howner hstate hlimit => doorMove_turns_back hnext hn he hk hf hmode hwaits hj howner hstate hlimit⟩⟩
  subst hb
  exact doorMove_unlocks hnext hn he hk hf hmode howner hstate hlock hsensed

end Sys2Proof.Machine

namespace Sys2Proof.Machine

/-! ### Events after which at most Launch Control judges, outside RUN -/

/-- What a judgement of Launch Control outside RUN leaves of its own state: all but the hold reason and a request that waited. -/
abbrev LaunchSettled (l m : Launch) : Prop :=
  m = { l with hold := m.hold, state := m.state, requested := m.requested } ∧ (l.state ≠ .requested → m.state = l.state)

theorem judgeLaunch_settled {p : Part} (h : p.sup.mode ≠ .run) : LaunchSettled p.launch (judgeLaunch p).launch := by
  have hmode : ¬ (holdReason p == .none) = true := by rw [holdReason_outside_run h]; decide
  unfold judgeLaunch
  dsimp only
  split
  next hidle => rw [if_neg hmode]; exact ⟨rfl, fun _ => rfl⟩
  next hreq => rw [if_neg hmode]; exact ⟨rfl, fun hne => absurd hreq hne⟩
  next => exact ⟨rfl, fun _ => rfl⟩

theorem settle_launchSettled {p : Part} (hmode : p.sup.mode ≠ .run) (harbiter : p.work.arbiter = false)
    (hsequencer : p.work.sequencer = false) : LaunchSettled p.launch (settle 64 p).launch := by
  by_cases hlaunch : p.work.launch = true
  · have once : settleOnce p = judgeLaunch { p with work := { p.work with launch := false } } := by simp [settleOnce, hlaunch]
    have hwork := (judgeLaunch_outside_run (p := { p with work := { p.work with launch := false } }) hmode).2.1
    rw [settle, if_neg (by simp [Work.quiet, hlaunch]), once, settle_quiet _ _ (by rw [hwork]; simp [Work.quiet, harbiter, hsequencer])]
    exact judgeLaunch_settled (p := { p with work := { p.work with launch := false } }) hmode
  · rw [settle_quiet 64 p (by simp [Work.quiet, hlaunch, harbiter, hsequencer])]
    exact ⟨rfl, fun _ => rfl⟩

/-- An event of which the station stays as it is or leaves RUN. -/
theorem occurs_stops {g : Part → Bool} {f : Part → Part} {s : State} {changed : List Block} (hready : Ready s) (hg : g s.part = true)
    (hstops : StaysOrStops s.part (f s.part)) (harb : (f s.part).work.arbiter = s.part.work.arbiter)
    (hseq : (f s.part).work.sequencer = s.part.work.sequencer) (hkept : ∀ b ∉ changed, Part.same b s.part (f s.part))
    (hlaunch : Block.launch ∈ changed) (hdoors : Block.doors ∈ changed) :
    ∃ t, occurs g f s = .next t ∧ Frame changed s t ∧ t.part = finish (f s.part) ∧
      LaunchAlone (f s.part) (settle 64 (f s.part)) ∧ LaunchSettled (f s.part).launch (settle 64 (f s.part)).launch := by
  have hwork : s.part.work = {} := hready.2.1
  have alone := settle_stops hwork hstops harb hseq
  obtain ⟨t, ht, hframe, hpart⟩ := occurs_alone hready hg alone hkept hlaunch hdoors
  refine ⟨t, ht, hframe, hpart, alone, ?_⟩
  obtain ⟨hq, -⟩ | hmode := hstops
  · rw [settle_of_quiet (hq.trans hwork)]
    exact ⟨rfl, fun _ => rfl⟩
  · exact settle_launchSettled hmode (by rw [harb, hwork]) (by rw [hseq, hwork])

/-! ### The retainer watch (R73) -/

section
variable {p : Part}

theorem judgeWatch_reports (h : watchFaulty p.launch = true) (hf : p.launch.watchFault = false) :
    judgeWatch p = report .releaseTimeout 2 .service true (modLaunch (fun l => { l with watchFault := true }) p) := by
  rw [judgeWatch, if_pos (by rw [h, hf]; rfl)]

theorem judgeWatch_ends (h : watchFaulty p.launch = false) (hf : p.launch.watchFault = true) :
    judgeWatch p = gone .releaseTimeout 2 (modLaunch (fun l => { l with watchFault := false }) p) := by
  rw [judgeWatch, if_neg (by rw [h, hf]; decide), if_pos (by rw [h, hf]; rfl)]

theorem judgeWatch_stays (h : watchFaulty p.launch = p.launch.watchFault) : judgeWatch p = p := by
  rw [judgeWatch, if_neg (by rw [h]; simp), if_neg (by rw [h]; simp)]

/-- A SERVICE cause makes no alert call. -/
theorem report_service_calls (k : CauseKind) (n : Nat) (b : Bool) (p : Part) : (report k n .service b p).calls = p.calls := by
  by_cases h : p.sup.mode = .stoppingFast
  · rw [report_eq, changeMode_same (by rw [causeNoted_mode, h]; rfl)]
    exact (causeNoted_undisturbed k n .service b p).2.1
  · exact report_calls ((modeAfterCause_service _).2 h)

/-- What a SERVICE report leaves. -/
theorem report_service_same (k : CauseKind) (n : Nat) (b : Bool) (p : Part) {blk : Block} (h : blk ∉ [Block.window, .rope, .sup]) :
    Part.same blk p (report k n .service b p) := by
  by_cases hc : blk = .calls
  · rw [hc]; exact report_service_calls k n b p
  · exact same_of_supKeeps (report_kept k n .service b p) (by cases blk <;> simp_all)

theorem report_works (k : CauseKind) (n : Nat) (c : Category) (b : Bool) (p : Part) :
    (report k n c b p).work.arbiter = p.work.arbiter ∧ (report k n c b p).work.sequencer = p.work.sequencer := by
  simp

/-- The watch's judgement sets its fault, and beside that does no more than a report or a condition's end. -/
theorem judgeWatch_outcome (p : Part) :
    (judgeWatch p).launch = { p.launch with watchFault := watchFaulty p.launch } ∧ StaysOrStops p (judgeWatch p) ∧
      (judgeWatch p).work.arbiter = p.work.arbiter ∧ (judgeWatch p).work.sequencer = p.work.sequencer ∧
      ∀ b ∉ [Block.window, .rope, .launch, .doors, .sup], Part.same b p (judgeWatch p) := by
  by_cases heq : watchFaulty p.launch = p.launch.watchFault
  · rw [judgeWatch_stays heq, heq]
    exact ⟨rfl, .inl ⟨rfl, rfl⟩, rfl, rfl, fun b _ => by cases b <;> rfl⟩
  cases hfault : watchFaulty p.launch with
  | true =>
    have hold : p.launch.watchFault = false := by rw [hfault] at heq; simpa using Ne.symm heq
    rw [judgeWatch_reports hfault hold]
    obtain ⟨harb, hseq⟩ := report_works .releaseTimeout 2 .service true (modLaunch (fun l => { l with watchFault := true }) p)
    refine ⟨by simp [modLaunch], .inr (report_stops _ _ _ _ _), harb, hseq, fun b hb => ?_⟩
    have hsame := report_service_same .releaseTimeout 2 true (modLaunch (fun l => { l with watchFault := true }) p) (blk := b)
      (by cases b <;> simp_all)
    refine same_trans (q := modLaunch (fun l => { l with watchFault := true }) p) ?_ hsame
    cases b <;> simp at hb <;> rfl
  | false =>
    have hold : p.launch.watchFault = true := by rw [hfault] at heq; simpa using Ne.symm heq
    rw [judgeWatch_ends hfault hold]
    have hgone := gone_undisturbed .releaseTimeout 2 (modLaunch (fun l => { l with watchFault := false }) p)
    have hrope : (gone .releaseTimeout 2 (modLaunch (fun l => { l with watchFault := false }) p)).rope = p.rope := by simp [modLaunch]
    refine ⟨by simp [modLaunch], StaysOrStops.trans (.inl ⟨rfl, rfl⟩) hgone.stays, by simp [modLaunch], by simp [modLaunch], fun b hb => ?_⟩
    refine same_trans (q := modLaunch (fun l => { l with watchFault := false }) p) ?_
      (hgone.same (l := [.rope, .launch, .doors, .sup]) hrope hb)
    cases b <;> simp at hb <;> rfl

theorem judgeWatch_present (h : watchFaulty p.launch = true) (hf : p.launch.watchFault = false) :
    CauseEntered .releaseTimeout 2 (judgeWatch p).sup ∧ ConditionPresent .releaseTimeout 2 (judgeWatch p).sup ∧
      (judgeWatch p).sup.mode.isRunning = false := by
  rw [judgeWatch_reports h hf]
  exact ⟨report_entered .., report_present .., report_not_running _ _ _ _ _⟩

end

/-! ### O48: the retainer (R64, R68, R70, R73) -/

/-- Launch Control's state after RETCLOSED has changed, before the watch is judged. -/
def retainerSensed (now : Time) (l : Launch) : Launch :=
  { l with
    retValue := l.retInput.settled
    retChanged := now
    retain := if l.retInput.settled == some false then false else l.retain
    watch :=
      match l.watch with
      | .closing ends => if l.retInput.settled == some true then .expectClosed else .closing ends
      | w => w }

theorem retainerChange_eq (p : Part) : retainerChange p = judgeWatch (modLaunch (retainerSensed p.clock.now) p) := rfl

theorem judged_same {f : Launch → Launch} {p : Part} {b : Block} (hb : b ∉ [Block.window, .rope, .launch, .doors, .sup]) :
    Part.same b p (judgeWatch (modLaunch f p)) := by
  refine same_trans (q := modLaunch f p) ?_ ((judgeWatch_outcome (modLaunch f p)).2.2.2.2 b hb)
  cases b <;> simp at hb <;> rfl

/-- Launch Control's state after a release has timed out. -/
def releaseEnded (now : Time) (l : Launch) : Launch :=
  { l with
    timeouts := count16 l.timeouts
    state := .idle
    requested := 0
    retain := false
    watch := .closing (now + ms 2000) }

/-- An event that sets Launch Control's state and judges the watch. -/
theorem occurs_judgeWatch {g : Part → Bool} {f : Part → Launch → Launch} {s : State} (hready : Ready s) (hg : g s.part = true) :
    ∃ t, occurs g (fun p => judgeWatch (modLaunch (f p) p)) s = .next t ∧ Frame [.window, .rope, .launch, .doors, .sup] s t ∧
      LaunchSettled { f s.part s.part.launch with watchFault := watchFaulty (f s.part s.part.launch) } t.part.launch ∧
      (watchFaulty (f s.part s.part.launch) = true → (f s.part s.part.launch).watchFault = false →
        CauseEntered .releaseTimeout 2 t.part.sup ∧ ConditionPresent .releaseTimeout 2 t.part.sup ∧ t.part.sup.mode.isRunning = false) ∧
      (watchFaulty (f s.part s.part.launch) = false → (f s.part s.part.launch).watchFault = true → ¬ ConditionPresent .releaseTimeout 2 t.part.sup) := by
  obtain ⟨hlaunch, hstops, harb, hseq, -⟩ := judgeWatch_outcome (modLaunch (f s.part) s.part)
  obtain ⟨t, ht, hframe, hpart, alone, hsettled⟩ := occurs_stops (f := fun p => judgeWatch (modLaunch (f p) p)) hready hg
    (StaysOrStops.trans (.inl ⟨rfl, rfl⟩) hstops) harb hseq (fun b => judged_same) (by decide) (by decide)
  rw [hlaunch] at hsettled
  have hsup : (settle 64 (judgeWatch (modLaunch (f s.part) s.part))).sup = (judgeWatch (modLaunch (f s.part) s.part)).sup := by rw [alone.1]
  refine ⟨t, ht, hframe, by rw [hpart, finish_launch]; exact hsettled, fun hfault hold => ?_, fun hfault hold => ?_⟩
  · obtain ⟨hentered, hpresent, hmode⟩ := judgeWatch_present (p := modLaunch (f s.part) s.part) hfault hold
    rw [hpart, finish_sup, hsup]
    exact ⟨hentered, hpresent, hmode⟩
  · rw [hpart, finish_sup, hsup, judgeWatch_ends (p := modLaunch (f s.part) s.part) hfault hold]
    exact not_present_gone _ _ _

theorem retclosedChange_senses {s : State} (hready : Ready s) (hchanged : retainerChanged s.part = true) :
    After .retclosedChange s (fun t =>
      Frame [.window, .rope, .launch, .doors, .sup] s t ∧ t.part.launch.retValue = s.part.launch.retInput.settled ∧
      t.part.launch.retChanged = s.part.clock.now ∧
      t.part.launch.retain = (s.part.launch.retain && decide (s.part.launch.retInput.settled ≠ some false)) ∧
      (∀ e, s.part.launch.watch = .closing e → s.part.launch.retInput.settled = some true → t.part.launch.watch = .expectClosed) ∧
      (s.part.launch.watch = .expectClosed → s.part.launch.retInput.settled = some false → s.part.launch.watchFault = false →
        CauseEntered .releaseTimeout 2 t.part.sup ∧ ConditionPresent .releaseTimeout 2 t.part.sup ∧ t.part.sup.mode.isRunning = false) ∧
      (s.part.launch.retInput.settled = some true → s.part.launch.watchFault = true →
        ¬ ConditionPresent .releaseTimeout 2 t.part.sup ∧ t.part.launch.watchFault = false)) := by
  obtain ⟨t, ht, hframe, ⟨hlaunch, -⟩, hfault, hend⟩ := occurs_judgeWatch (f := fun p => retainerSensed p.clock.now) hready hchanged
  refine ⟨t, ht, hframe, by rw [hlaunch]; rfl, by rw [hlaunch]; rfl, ?_, fun e he hv => ?_, fun he hv hold => ?_, fun hv hold => ⟨?_, ?_⟩⟩
  · rw [hlaunch]
    by_cases hv : s.part.launch.retInput.settled = some false <;> simp [retainerSensed, hv]
  · rw [hlaunch]
    simp [retainerSensed, he, hv]
  · exact hfault (by simp [watchFaulty, retainerSensed, he, hv]) hold
  · exact hend (by simp [watchFaulty, retainerSensed, hv]) hold
  · rw [hlaunch]
    simp [watchFaulty, retainerSensed, hv]

theorem closingWindow_ends {s : State} (hready : Ready s) {e : Time} (hwatch : s.part.launch.watch = .closing e)
    (hover : reached s.part.clock.now e = true) : After .closingWindowExpiry s (fun t =>
      Frame [.window, .rope, .launch, .doors, .sup] s t ∧ t.part.launch.watch = .expectClosed ∧
      (s.part.launch.retValue = some false → s.part.launch.watchFault = false →
        CauseEntered .releaseTimeout 2 t.part.sup ∧ ConditionPresent .releaseTimeout 2 t.part.sup)) := by
  obtain ⟨t, ht, hframe, ⟨hlaunch, -⟩, hfault, -⟩ := occurs_judgeWatch (g := closingOver) (f := fun _ l => { l with watch := .expectClosed })
    hready (by simp [closingOver, hwatch, hover])
  refine ⟨t, ht, hframe, by rw [hlaunch], fun hv hold => ?_⟩
  obtain ⟨hentered, hpresent, -⟩ := hfault (by simp [watchFaulty, hv]) hold
  exact ⟨hentered, hpresent⟩

theorem releaseTimeout_ends {s : State} (hready : Ready s) (hstate : s.part.launch.state = .releasing)
    (hover : reached s.part.clock.now (s.part.launch.grantTime + ms 2000) = true) : After .releaseTimeout s (fun t =>
      Frame [.window, .rope, .launch, .doors, .sup] s t ∧ t.part.launch.state = .idle ∧ t.part.launch.retain = false ∧
      t.part.launch.watch = .closing (s.part.clock.now + ms 2000) ∧ t.part.launch.timeouts = count16 s.part.launch.timeouts ∧
      t.part.launch.releases = s.part.launch.releases ∧ CauseEntered .releaseTimeout 1 t.part.sup ∧
      t.part.sup.mode.isRunning = false) := by
  set q := report .releaseTimeout 1 .service false s.part with hq
  have hclock : q.clock = s.part.clock := by rw [hq]; simp
  have hlaunch : q.launch = s.part.launch := by rw [hq]; simp
  have hbody : releaseTimesOut s.part = callLaunch (modLaunch (releaseEnded s.part.clock.now) q) := by rw [← hclock]; rfl
  have hends : (releaseTimesOut s.part).launch = releaseEnded s.part.clock.now s.part.launch := by rw [hbody, ← hlaunch]; rfl
  obtain ⟨harb, hseq⟩ := report_works .releaseTimeout 1 .service false s.part
  obtain ⟨t, ht, hframe, hpart, alone, hsettled, hidle⟩ := occurs_stops (g := releaseOver) (f := releaseTimesOut)
    (changed := [.window, .rope, .launch, .doors, .sup]) hready (by simp [releaseOver, hstate, hover])
    (.inr (report_stops _ _ _ _ _)) harb hseq (fun b hb => by
      rw [hbody]
      refine same_trans (report_service_same .releaseTimeout 1 false s.part (blk := b) (by cases b <;> simp_all)) ?_
      cases b <;> simp at hb <;> rfl) (by decide) (by decide)
  have hsup : t.part.sup = { q.sup with svcStop := svcStopFor q.sup, fastStop := fastStopFor q.sup } := by
    have hsame : (settle 64 (releaseTimesOut s.part)).sup = q.sup := by
      rw [alone.1]
      show (releaseTimesOut s.part).sup = q.sup
      rw [hbody]
      rfl
    rw [hpart, finish_sup, hsame]
  rw [hends] at hsettled hidle
  rw [← finish_launch, ← hpart] at hsettled hidle
  have hstate : t.part.launch.state = .idle := hidle (by simp [releaseEnded])
  refine ⟨t, ht, hframe, hstate, ?_, ?_, ?_, ?_, ?_, ?_⟩
  · rw [hsettled]; rfl
  · rw [hsettled]; rfl
  · rw [hsettled]; rfl
  · rw [hsettled]; rfl
  · rw [hsup]; exact report_entered ..
  · rw [hsup]; exact report_not_running _ _ _ _ _

/-- Settles O48: each command sets Launch Control's state and judges the watch, and a RELEASE_TIMEOUT it reports takes the station out of
RUN, so that no release is requested at its end. -/
theorem retainerPulseReleaseAndWatch : Obligations.RetainerPulseReleaseAndWatch := by
  unfold Obligations.RetainerPulseReleaseAndWatch
  intro s hready
  refine ⟨retclosedChange_senses hready, fun hover => ?_, releaseTimeout_ends hready, fun e => closingWindow_ends hready⟩
  obtain ⟨t, ht, hframe, hpart, hsettle⟩ := occurs_quiet (g := pulseOver) (f := modLaunch (fun l => { l with retain := false }))
    (changed := [.launch]) hready hover hready.2.1 (fun b _ hb => by cases b <;> simp at hb <;> rfl)
  exact ⟨t, ht, hframe, by rw [hpart, finish_launch, hsettle]; rfl⟩

end Sys2Proof.Machine

/-! The events of the Call Unit: HOOK_EVENT and the timers of a call (R175 to R181). -/

namespace Sys2Proof.Machine

/-! ### An event of the Call Unit alone -/

/-- The tone aside, a slot at the end of an event of the Call Unit is as the event leaves it. -/
abbrev Toned (c d : CallSlot) : Prop := d = { c with tone := toneFor c, toneSince := d.toneSince }

theorem same_of_callKeeps {p q : Part} (h : CallKeeps p q) {b : Block} (hb : b ∉ [Block.window, .calls]) : Part.same b p q := by
  obtain ⟨hclock, htrack, hcabins, hrope, hsensors, hgrip, hlaunch, hdoors, hseq, hsup, hline, hmsg, -, -⟩ := h
  cases b with
  | window => exact absurd (by decide) hb
  | calls => exact absurd (by decide) hb
  | _ => assumption

theorem occurs_call {g : Part → Bool} {f : Part → Part} {s : State} (hready : Ready s) (hg : g s.part = true)
    (h : CallKeeps s.part (f s.part)) :
    ∃ t, occurs g f s = .next t ∧ Frame [.window, .calls] s t ∧ t.part = finish (f s.part) ∧ settle 64 (f s.part) = f s.part ∧
      (∀ v, Toned (callSlot (f s.part) v) (callSlot t.part v)) ∧ (∀ i, slotOf t.part i = slotOf (f s.part) i) ∧
      t.part.window.attention = (f s.part).window.attention ∧ t.part.calls = { (f s.part).calls with slots := t.part.calls.slots } := by
  have hwork : (f s.part).work = {} := h.2.2.2.2.2.2.2.2.2.2.2.2.1.trans hready.2.1
  obtain ⟨t, ht, hframe, hpart, hquiet⟩ := occurs_quiet (f := f) (changed := [.window, .calls]) hready hg hwork
    (fun b _ hb => same_of_callKeeps h hb)
  refine ⟨t, ht, hframe, hpart, hquiet, fun v => ?_, fun i => ?_, ?_, ?_⟩
  · have hslot := callSlot_finish (f s.part) v
    rwa [hquiet, ← hpart] at hslot
  · rw [hpart, slotOf_finish, hquiet]
  · rw [hpart, finish_window, hquiet]
  · have hcalls := finish_calls_slots (f s.part)
    rwa [hquiet, ← hpart] at hcalls

/-- A slot that an event leaves keeps its tone too. -/
theorem toned_same {p q : Part} {v : VoiceNo} {d : CallSlot} (htones : TonesFollow p) (h : callSlot q v = callSlot p v)
    (hd : callSlot (finish q) v = d) (hquiet : settle 64 q = q) : d = callSlot p v := by
  rw [← hd, callSlot_finish_same (by rw [hquiet, h]; exact htones v), hquiet, h]

/-! ### ATTENTION and the order slots at the operations of a call -/

theorem enterCall_attention {v : VoiceNo} {st : CallState} {p : Part} (h : (callSlot p v).state ≠ st) :
    (enterCall v st p).window.attention.getLsbD 10 = true := by
  have hne : ((callSlot p v).state == st) = false := by simpa using h
  unfold enterCall
  dsimp only
  rw [hne]
  split <;> simp [attend, Attn.bit, setProgress, modSlot]

theorem callToIdle_attention {v : VoiceNo} {p : Part} (h : (callSlot p v).state ≠ .idle) :
    (callToIdle v p).window.attention.getLsbD 10 = true :=
  enterCall_attention h

theorem callToIdle_bitsStay (v : VoiceNo) (p : Part) : BitsStay p.window (callToIdle v p).window :=
  enterCall_bitsStay v .idle p

theorem clearByValley_attention {v : VoiceNo} {why : ClearReason} {p : Part} (h : (callSlot p v).state ≠ .clearing) :
    (clearByValley v why p).window.attention.getLsbD 10 = true := by
  have entered := enterCall_attention (v := v) (st := .clearing) (p := modCall v (fun c => { c with
    reason := why, clearedBySummit := false, noAnswer := none, guardEnds := some (p.clock.now + ms 2000) }) p)
    (by rw [callSlot_modCall_same]; exact h)
  unfold clearByValley
  dsimp only
  split
  · exact entered
  · exact callToIdle_bitsStay v (stopRinging v _) 10 entered

theorem originate_attention {v : VoiceNo} {o : Originator} {order : Option SlotNo} {p : Part} (h : (callSlot p v).state ≠ .seizing) :
    (originate v o order p).window.attention.getLsbD 10 = true :=
  enterCall_attention (by rw [callSlot_modCall_same]; exact h)

/-- The counts of the Call Unit, all but the two slots, are the same. -/
abbrev CountsStay (p q : Part) : Prop := q.calls = { p.calls with slots := q.calls.slots }

theorem CountsStay.trans {p q r : Part} (h : CountsStay p q) (g : CountsStay q r) : CountsStay p r := by
  unfold CountsStay at *
  rw [g, h]

theorem modCall_counts (v : VoiceNo) (f : CallSlot → CallSlot) (p : Part) : CountsStay p (modCall v f p) := rfl

theorem enterCall_counts (v : VoiceNo) (st : CallState) (p : Part) : CountsStay p (enterCall v st p) := by
  unfold CountsStay
  rw [enterCall_calls]
  rfl

theorem answerCall_counts (v : VoiceNo) (r : Result) (d : Nat) (p : Part) : CountsStay p (answerCall v r d p) := by
  have held := (answerHeld_kept (callSlot p v).order r d p).2
  exact CountsStay.trans (q := answerHeld (callSlot p v).order r d p) (by unfold CountsStay; rw [held]) (modCall_counts v _ _)

theorem connect_connects (v : VoiceNo) (p : Part) :
    (connect v p).calls = { p.calls with connects := count16 p.calls.connects, slots := (connect v p).calls.slots } := by
  have entered := enterCall_counts v .connected (modCall v (fun c => { c with
    noAnswer := none, nextSecond := p.clock.now + ms 1000, pickedUp := !ringsConnected (callSlot p v), voiceOctets := [] }) p)
  have answered : CountsStay (countConnect p) (callConnected v p) := by
    refine CountsStay.trans ?_ (answerCall_counts v .ok 0 _)
    unfold CountsStay countConnect
    dsimp only
    rw [entered]
    rfl
  rw [connect_eq]
  split <;> exact CountsStay.trans answered (modCall_counts v _ _)

/-! ### O50: HOOK_EVENT (R175, R177, R180, R181) -/

/-- The part when a handset's value has been taken. -/
def hookTaken (v : VoiceNo) (p : Part) : Part := modCall v (fun c => { c with hook := c.hookInput.settled }) p

theorem callSlot_hookTaken_same (v : VoiceNo) (p : Part) :
    callSlot (hookTaken v p) v = { callSlot p v with hook := (callSlot p v).hookInput.settled } := by
  rw [hookTaken, callSlot_modCall_same]

theorem hookChange_eq (v : VoiceNo) (p : Part) : hookChange v p =
    if (callSlot p v).hookInput.settled = some true then handsetLifted v (hookTaken v p) else handsetHungUp v (hookTaken v p) := by
  have h := callSlot_hookTaken_same v p
  unfold hookChange
  dsimp only
  rw [← hookTaken, h]
  simp

theorem handsetLifted_ne {v u : VoiceNo} (h : u ≠ v) (p : Part) : callSlot (handsetLifted v p) u = callSlot p u := by
  unfold handsetLifted
  dsimp only
  (repeat' split) <;> simp [h]

theorem handsetHungUp_ne {v u : VoiceNo} (h : u ≠ v) (p : Part) : callSlot (handsetHungUp v p) u = callSlot p u := by
  unfold handsetHungUp
  dsimp only
  (repeat' split) <;> simp [h]

theorem hookChange_ne {v u : VoiceNo} (h : u ≠ v) (p : Part) : callSlot (hookChange v p) u = callSlot p u := by
  have taken : callSlot (hookTaken v p) u = callSlot p u := callSlot_modCall_ne _ _ _ _ h
  rw [hookChange_eq]
  split
  · rw [handsetLifted_ne h, taken]
  · rw [handsetHungUp_ne h, taken]

theorem handsetLifted_hook (v : VoiceNo) (p : Part) : (callSlot (handsetLifted v p) v).hook = (callSlot p v).hook := by
  unfold handsetLifted
  dsimp only
  (repeat' split) <;> simp [seizingSlot, connectedSlot]

theorem clearByValley_hook (v : VoiceNo) (why : ClearReason) (p : Part) : (callSlot (clearByValley v why p) v).hook = (callSlot p v).hook := by
  rw [clearByValley_slot]
  split <;> rfl

theorem handsetHungUp_hook (v : VoiceNo) (p : Part) : (callSlot (handsetHungUp v p) v).hook = (callSlot p v).hook := by
  have cleared := clearByValley_hook v .localClear p
  unfold handsetHungUp
  dsimp only
  (repeat' split) <;> simp [cleared, idleSlot, -clearByValley_slot]

theorem hookChange_hook (v : VoiceNo) (p : Part) : (callSlot (hookChange v p) v).hook = (callSlot p v).hookInput.settled := by
  rw [hookChange_eq]
  split
  · rw [handsetLifted_hook, callSlot_hookTaken_same]
  · rw [handsetHungUp_hook, callSlot_hookTaken_same]

theorem hookChange_kept (v : VoiceNo) (p : Part) : CallKeeps p (hookChange v p) := by
  rw [hookChange_eq]
  split
  · exact handsetLifted_kept v (hookTaken v p)
  · exact handsetHungUp_kept v (hookTaken v p)

theorem handsetLifted_originates {v : VoiceNo} {p : Part} (hstate : (callSlot p v).state = .idle) (hfree : (callSlot p v).freeRun = 2) :
    handsetLifted v p = originate v .handset none p := by
  unfold handsetLifted
  dsimp only
  rw [hstate]
  simp [seizeAllowed, hfree]

theorem handsetLifted_stays {v : VoiceNo} {p : Part}
    (h : ((callSlot p v).state = .idle ∧ (callSlot p v).freeRun ≠ 2) ∨
      (callSlot p v).state ∈ [CallState.unavailable, .seizing, .ringingOut, .clearing]) : handsetLifted v p = p := by
  unfold handsetLifted
  dsimp only
  obtain ⟨hstate, hfree⟩ | hstate := h
  · rw [hstate]
    simp [seizeAllowed, hfree]
  · split <;> simp_all

theorem handsetLifted_connects {v : VoiceNo} {p : Part} (hstate : (callSlot p v).state = .ringingIn) :
    handsetLifted v p = connect v p := by
  unfold handsetLifted
  dsimp only
  rw [hstate]

theorem handsetLifted_picksUp {v : VoiceNo} {p : Part} (hstate : (callSlot p v).state = .connected) :
    handsetLifted v p = stopRinging v (modCall v (fun c => { c with pickedUp := true }) p) := by
  unfold handsetLifted
  dsimp only
  rw [hstate]

/-- A handset put down clears its own call: one it originated, one it answers or one it has picked up. -/
theorem handsetHungUp_clears {v : VoiceNo} {p : Part}
    (h : ((callSlot p v).originator = .handset ∧ (callSlot p v).state ∈ [CallState.seizing, .ringingOut, .connected]) ∨
      ((callSlot p v).state = .connected ∧ ((callSlot p v).pickedUp = true ∨ (callSlot p v).role = .answerer))) :
    handsetHungUp v p = clearByValley v .localClear p := by
  unfold handsetHungUp
  dsimp only
  split <;> simp_all
  intro ha hb hc
  simp_all

theorem handsetHungUp_stays {v : VoiceNo} {p : Part}
    (h : ((callSlot p v).role = .caller ∧ (callSlot p v).originator ≠ .handset ∧
      ((callSlot p v).state ∈ [CallState.seizing, .ringingOut] ∨ ((callSlot p v).state = .connected ∧ (callSlot p v).pickedUp = false))) ∨
      (callSlot p v).state = .idle) : handsetHungUp v p = p := by
  unfold handsetHungUp
  dsimp only
  obtain ⟨hrole, hfrom, hstate | ⟨hstate, hup⟩⟩ | hstate := h
  · split <;> simp_all
  · rw [hstate]
    simp [hrole, hfrom, hup]
  · rw [hstate]

theorem handsetHungUp_clearing {v : VoiceNo} {p : Part} (hstate : (callSlot p v).state = .clearing) :
    handsetHungUp v p = if (callSlot p v).clearedBySummit then callToIdle v p else p := by
  unfold handsetHungUp
  dsimp only
  rw [hstate]

section
variable {v : VoiceNo} {s t : State} {c d : CallSlot} (hc : callSlot s.part v = c) (hd : Toned (callSlot (hookChange v s.part) v) d)
include hc

theorem hookTaken_slot {b : Bool} (hv : c.hookInput.settled = some b) : callSlot (hookTaken v s.part) v = { c with hook := some b } := by
  rw [callSlot_hookTaken_same, hc, hv]

include hd

/-- The handset lifted (R177, R179, R180). -/
theorem hookChange_lifted (hv : c.hookInput.settled = some true) :
    (c.state = .idle → c.freeRun = 2 → d.state = .seizing ∧ d.originator = .handset ∧ d.role = .caller ∧ d.duration = 0 ∧
      d.ownSeize = true ∧ d.noAnswer = some (s.part.clock.now + ms (1000 * s.part.calls.limit)) ∧
      (hookChange v s.part).window.attention.getLsbD 10 = true) ∧
    (c.state = .idle → c.freeRun ≠ 2 → d.state = .idle ∧ d.tone = .busy) ∧
    (c.state = .unavailable → d.state = .unavailable ∧ d.tone = .busy) ∧
    (c.state = .ringingIn → d.state = .connected ∧ d.ringer = false ∧ d.tone = .voice ∧
      d.nextSecond = s.part.clock.now + ms 1000 ∧ (c.role = .answerer → d.ownAnswer = true) ∧
      (hookChange v s.part).calls.connects = count16 s.part.calls.connects) ∧
    (c.state = .connected → d.state = .connected ∧ d.ringing = false ∧ d.ringer = false ∧ d.pickedUp = true ∧ d.tone = .voice ∧
      d.originator = c.originator ∧ d.role = c.role ∧ d.duration = c.duration) ∧
    (c.state ∈ [.seizing, .ringingOut, .clearing] → d.state = c.state ∧ d.originator = c.originator ∧ d.noAnswer = c.noAnswer ∧
      d.guardEnds = c.guardEnds) := by
  have taken := hookTaken_slot (v := v) (s := s) hc hv
  have hlift : hookChange v s.part = handsetLifted v (hookTaken v s.part) := by rw [hookChange_eq, hc, if_pos hv]
  rw [hlift] at hd ⊢
  set p := hookTaken v s.part with hp
  have hclock : p.clock = s.part.clock := rfl
  have hlimit : p.calls.limit = s.part.calls.limit := rfl
  refine ⟨fun hstate hfree => ?_, fun hstate hfree => ?_, fun hstate => ?_, fun hstate => ?_, fun hstate => ?_, fun hstate => ?_⟩
  · rw [handsetLifted_originates (by rw [taken]; exact hstate) (by rw [taken]; exact hfree)] at hd ⊢
    rw [originate_slot, taken] at hd
    refine ⟨by rw [hd]; rfl, by rw [hd]; rfl, by rw [hd]; rfl, by rw [hd]; rfl, by rw [hd]; rfl, by rw [hd]; rfl, ?_⟩
    exact originate_attention (by rw [taken, hstate]; decide)
  · rw [handsetLifted_stays (.inl ⟨by rw [taken]; exact hstate, by rw [taken]; exact hfree⟩), taken] at hd
    rw [hd]
    simp [toneFor, hstate]
  · rw [handsetLifted_stays (.inr (by rw [taken, hstate]; decide)), taken] at hd
    rw [hd]
    simp [toneFor, hstate]
  · rw [handsetLifted_connects (by rw [taken]; exact hstate)] at hd ⊢
    rw [connect_slot, taken] at hd
    refine ⟨by rw [hd]; rfl, by rw [hd]; simp [connectedSlot, ringsConnected], by rw [hd]; rfl, by rw [hd]; rfl, fun hrole => ?_, ?_⟩
    · rw [hd]
      simp [connectedSlot, CallSlot.ownAnswer, hrole]
    · rw [connect_connects]
      rfl
  · rw [handsetLifted_picksUp (by rw [taken]; exact hstate), stopRinging_slot, callSlot_modCall_same, taken] at hd
    rw [hd]
    simp [toneFor, hstate]
  · rw [handsetLifted_stays (.inr (by rw [taken]; exact List.mem_cons_of_mem _ hstate)), taken] at hd
    rw [hd]
    simp

/-- The handset put down (R177, R181). -/
theorem hookChange_hungUp (hv : c.hookInput.settled = some false) :
    (c.role = .caller →
      (c.originator = .handset ∧ c.state ∈ [.seizing, .ringingOut, .connected]) ∨ (c.state = .connected ∧ c.pickedUp = true) →
      d.reason = .localClear ∧ d.ownSeize = false ∧ d.ringer = false ∧ d.ringing = false ∧ d.noAnswer = none ∧
      d.state = (if c.answerTaken then .clearing else .idle) ∧ (hookChange v s.part).window.attention.getLsbD 10 = true ∧
      (c.answerTaken = true → d.guardEnds = some (s.part.clock.now + ms 2000))) ∧
    (c.role = .caller → c.originator ≠ .handset → c.state ∈ [.seizing, .ringingOut] ∨ (c.state = .connected ∧ c.pickedUp = false) →
      d = { c with hook := some false, tone := d.tone, toneSince := d.toneSince }) ∧
    (c.state = .connected → c.role = .answerer → d.reason = .localClear ∧ d.ownAnswer = false ∧ d.ringer = false ∧
      d.state = (if c.seizeTaken then .clearing else .idle) ∧
      (c.seizeTaken = true → d.guardEnds = some (s.part.clock.now + ms 2000))) ∧
    (c.state = .clearing → d.state = (if c.clearedBySummit then .idle else .clearing)) ∧
    (c.state = .idle → d.state = .idle ∧ d.tone = .silence) := by
  have taken := hookTaken_slot (v := v) (s := s) hc hv
  have hdown : hookChange v s.part = handsetHungUp v (hookTaken v s.part) := by rw [hookChange_eq, hc, hv]; rfl
  rw [hdown] at hd ⊢
  set p := hookTaken v s.part with hp
  have hclock : p.clock = s.part.clock := rfl
  refine ⟨fun hrole hstate => ?_, fun hrole hfrom hstate => ?_, fun hstate hrole => ?_, fun hstate => ?_, fun hstate => ?_⟩
  · have hstill : c.state ≠ .clearing := by
      obtain ⟨-, h⟩ | ⟨h, -⟩ := hstate
      · intro hcl; rw [hcl] at h; exact absurd h (by decide)
      · rw [h]; decide
    rw [handsetHungUp_clears (by rw [taken]; exact hstate.imp_right fun ⟨h, hup⟩ => ⟨h, .inl hup⟩)] at hd ⊢
    rw [clearByValley_slot, taken] at hd
    have hawaited : awaitedStands { c with hook := some false } = c.answerTaken := by simp [awaitedStands, hrole]
    rw [hawaited, hclock] at hd
    have hbit := clearByValley_attention (v := v) (why := .localClear) (p := p) (by rw [taken]; exact hstill)
    cases hans : c.answerTaken <;> rw [hans] at hd <;> rw [hd] <;>
      simp [idleSlot, clearingSlot, CallSlot.ownSeize, hbit]
  · rw [handsetHungUp_stays (.inl (by rw [taken]; exact ⟨hrole, hfrom, hstate⟩)), taken] at hd
    rw [hd]
  · rw [handsetHungUp_clears (.inr (by rw [taken]; exact ⟨hstate, .inr hrole⟩))] at hd
    rw [clearByValley_slot, taken] at hd
    have hawaited : awaitedStands { c with hook := some false } = c.seizeTaken := by simp [awaitedStands, hrole]
    rw [hawaited, hclock] at hd
    cases hans : c.seizeTaken <;> rw [hans] at hd <;> rw [hd] <;> simp [idleSlot, clearingSlot, CallSlot.ownAnswer]
  · rw [handsetHungUp_clearing (by rw [taken]; exact hstate), taken] at hd
    cases hcl : c.clearedBySummit with
    | true =>
      rw [if_pos hcl, callToIdle_slot, taken] at hd
      rw [hd]; rfl
    | false =>
      rw [if_neg (by rw [hcl]; decide), taken] at hd
      rw [hd]; exact hstate
  · rw [handsetHungUp_stays (.inr (by rw [taken]; exact hstate)), taken] at hd
    rw [hd]
    simp [toneFor, hstate]

end

/-- Settles O50: the handset's value is taken, and the call machine's own rules say what becomes of the slot. -/
theorem hookEventActsOnTheCall : Obligations.HookEventActsOnTheCall := by
  unfold Obligations.HookEventActsOnTheCall
  intro v s hready hchanged
  obtain ⟨t, ht, hframe, hpart, hquiet, htoned, -, hattention, hcalls⟩ :=
    occurs_call (g := hookChanged v) (f := hookChange v) hready hchanged (hookChange_kept v s.part)
  have hconnects : t.part.calls.connects = (hookChange v s.part).calls.connects := by rw [hcalls]
  have hhook : (callSlot t.part v).hook = (callSlot s.part v).hookInput.settled := by rw [htoned v, ← hookChange_hook]
  have hlifted := hookChange_lifted (s := s) rfl (htoned v)
  have hdown := hookChange_hungUp (s := s) rfl (htoned v)
  rw [← hattention, ← hconnects] at hlifted
  rw [← hattention] at hdown
  exact ⟨t, ht, hframe, hhook, fun u hu => toned_same hready.2.2.2 (hookChange_ne hu s.part) (by rw [hpart]) hquiet, hlifted, hdown⟩

/-! ### The timers of a call (R175, R177, R181, R183) -/

section
variable {v : VoiceNo} {s : State} (hready : Ready s)
include hready

theorem noAnswerTimeout_ends (hstate : (callSlot s.part v).state = .seizing ∨ (callSlot s.part v).state = .ringingOut)
    (hended : ended s.part.clock.now (callSlot s.part v).noAnswer = true) : After (.noAnswerTimeout v) s (fun t =>
      Frame [.window, .calls] s t ∧ (callSlot t.part v).state = .idle ∧ (callSlot t.part v).reason = .noAnswer ∧
      (callSlot t.part v).ownSeize = false ∧ (callSlot t.part v).noAnswer = none ∧ (callSlot t.part v).order = none ∧
      (∀ j, (callSlot s.part v).order = some j → (slotOf t.part j).state = .done ∧
        (slotOf t.part j).result = asOctet Result.failed.code ∧ (slotOf t.part j).detail = 1)) := by
  have hkept : CallKeeps s.part (noAnswer v s.part) := by simp [CallKeeps, PortKept, noAnswer, modCall]
  set p := callToIdle v (modCall v (fun c => { c with reason := .noAnswer }) s.part) with hp
  have hslot : callSlot p v = idleSlot { callSlot s.part v with reason := .noAnswer } := by
    rw [hp, callToIdle_slot, callSlot_modCall_same]
  obtain ⟨t, ht, hframe, -, -, htoned, hslots, -, -⟩ := occurs_call (g := noAnswerOver v) (f := noAnswer v) hready
    (by obtain h | h := hstate <;> simp [noAnswerOver, h, hended]) hkept
  have hd := htoned v
  rw [noAnswer, answerCall_slot, ← hp, hslot] at hd
  refine ⟨t, ht, hframe, by rw [hd]; rfl, by rw [hd]; rfl, by rw [hd]; rfl, by rw [hd]; rfl, by rw [hd], fun j hj => ?_⟩
  have hanswered : slotOf t.part j = { slotOf p j with state := .done, result := asOctet Result.failed.code, detail := asOctet 1 } :=
    (hslots j).trans (answerCall_slotOf_same .failed 1 (by rw [hslot]; exact hj))
  rw [hanswered]
  exact ⟨rfl, rfl, rfl⟩

theorem guardExpiry_ends (hstate : (callSlot s.part v).state = .clearing)
    (hended : ended s.part.clock.now (callSlot s.part v).guardEnds = true) : After (.guardExpiry v) s (fun t =>
      Frame [.window, .calls] s t ∧ (callSlot t.part v).state = .idle ∧ (callSlot t.part v).guardEnds = none ∧
      (callSlot t.part v).reason = (callSlot s.part v).reason ∧ t.part.window.attention.getLsbD 10 = true) := by
  obtain ⟨t, ht, hframe, -, -, htoned, -, hattention, -⟩ := occurs_call (g := guardOver v) (f := callToIdle v) hready
    (by simp [guardOver, hstate, hended]) (callToIdle_kept v s.part)
  have hd := htoned v
  rw [callToIdle_slot] at hd
  refine ⟨t, ht, hframe, by rw [hd]; rfl, by rw [hd]; rfl, by rw [hd]; rfl, ?_⟩
  rw [hattention]
  exact callToIdle_attention (by rw [hstate]; decide)

theorem ringerCadence_turns (hrings : (callSlot s.part v).ringing = true)
    (hreached : reached s.part.clock.now (callSlot s.part v).ringNext = true) : After (.ringerCadence v) s (fun t =>
      Frame [.calls] s t ∧ callSlot t.part v = { callSlot s.part v with
        ringer := !(callSlot s.part v).ringer
        ringNext := (callSlot s.part v).ringNext + ms (if (callSlot s.part v).ringer then 2000 else 1000) }) := by
  obtain ⟨t, ht, hframe, hpart, hquiet⟩ := occurs_quiet (g := cadenceDue v) (f := cadenceStep v) (changed := [.calls]) hready
    (by simp [cadenceDue, hrings, hreached]) hready.2.1 (fun b _ hb => by cases b <;> simp at hb <;> rfl)
  refine ⟨t, ht, hframe, ?_⟩
  have htone : (callSlot (cadenceStep v s.part) v).tone = toneFor (callSlot (cadenceStep v s.part) v) := by
    rw [cadenceStep, callSlot_modCall_same]
    exact hready.2.2.2 v
  rw [hpart, callSlot_finish_same (by rw [hquiet]; exact htone), hquiet, cadenceStep, callSlot_modCall_same]

end

end Sys2Proof.Machine

/-! The events of the Summit Line Interface outside UP: attempts, backoff, sleep, bursts and probes (R148, R149, R151, R155, R157, R160). -/

namespace Sys2Proof.Machine

/-! ### Events that leave the part, and events that call for no judgement -/

/-- A part between two events is left by an event that does nothing. -/
theorem occurs_nothing {g : Part → Bool} {f : Part → Part} {s : State} (hready : Ready s) (h : f s.part = s.part) :
    occurs g f s = .next s := by
  obtain ⟨hbefore, hwork, hpins, htones⟩ := hready
  cases hg : g s.part with
  | false => exact occurs_not hg
  | true => rw [occurs_acts hbefore hg, h, finish_eq_refreshPins hwork htones, refreshPins_steady hpins]

/-- An event that calls for no judgement: beside the pins and the tones, the part is as the event leaves it. -/
theorem occurs_settled {g : Part → Bool} {f : Part → Part} {s : State} (hready : Ready s) (hg : g s.part = true)
    (hwork : (f s.part).work = s.part.work) :
    ∃ t, occurs g f s = .next t ∧ t.part.line = (f s.part).line ∧ (∀ i, slotOf t.part i = slotOf (f s.part) i) ∧
      t.part.window.attention = (f s.part).window.attention ∧
      ∀ changed, (∀ b ∉ changed, Part.same b s.part (f s.part)) → Frame changed s t := by
  have hnone : (f s.part).work = {} := hwork.trans hready.2.1
  have hquiet := settle_of_quiet hnone
  refine ⟨_, occurs_acts hready.1 hg, ?_, fun i => ?_, ?_, fun changed h => frame_finish hready fun b _ hb => ?_⟩
  · rw [finish_line, hquiet]
  · rw [slotOf_finish, hquiet]
  · rw [finish_window, hquiet]
  · rw [hquiet]; exact h b hb

theorem modLine_same (f : Line → Line) (p : Part) : ∀ b ∉ [Block.line], Part.same b p (modLine f p) := by
  intro b hb
  cases b <;> simp at hb <;> rfl

theorem answerHeld_slotOf (j : SlotNo) (r : Result) (d : Nat) (p : Part) :
    slotOf (answerHeld (some j) r d p) j = { slotOf p j with state := .done, result := asOctet r.code, detail := asOctet d } := by
  rw [answerHeld, slotOf_answer_same]

/-! ### Entries into DOWN and TRAINING from a state that is not UP -/

section
variable {p : Part}

theorem enterDown_line (d : Diagnosis) (p : Part) : (enterDown d p).line =
    { stopFrames p.line with diagnosis := d, state := .down, rate := 0, startOrder := none } := by
  rw [enterDown, (answerStart_kept _ _ _).2.1, changeLine_line]
  rfl

theorem enterDown_work (h : p.line.state ≠ .up) (d : Diagnosis) : (enterDown d p).work = p.work := by
  have rested := changeLine_rested (st := .down) (r := 0) (p := modLine (fun l => { stopFrames l with diagnosis := d }) p) h (by decide)
  obtain ⟨-, -, -, -, -, -, -, hwork⟩ := answerStart_kept .failed d.code (changeLine .down 0 (modLine (fun l => { stopFrames l with diagnosis := d }) p))
  exact hwork.trans rested.2.2.2.2.2.2.2.2.2.2.1

/-- A LINE_START in flight fails with the diagnosis. -/
theorem enterDown_start (d : Diagnosis) {j : SlotNo} (h : p.line.startOrder = some j) : (slotOf (enterDown d p) j).state = .done ∧
    (slotOf (enterDown d p) j).result = asOctet Result.failed.code ∧ (slotOf (enterDown d p) j).detail = asOctet d.code := by
  have held : (changeLine .down 0 (modLine (fun l => { stopFrames l with diagnosis := d }) p)).line.startOrder = some j := by
    rw [changeLine_line]; exact h
  rw [enterDown, answerStart, held, answerHeld_slotOf]
  exact ⟨rfl, rfl, rfl⟩

theorem enterDownWaiting_line (d : Diagnosis) (p : Part) (hclock : (enterDown d p).clock = p.clock) : (enterDownWaiting d p).line =
    { stopFrames p.line with
      diagnosis := d, state := .down, rate := 0, startOrder := none
      backoff := if p.line.config.autoStart then some (p.clock.now + ms 5000) else none } := by
  rw [enterDownWaiting, startBackoff, modLine, hclock, enterDown_line]
  rfl

theorem enterDown_clock (d : Diagnosis) (p : Part) : (enterDown d p).clock = p.clock := by
  have h := (answerStart_kept .failed d.code (changeLine .down 0 (modLine (fun l => { stopFrames l with diagnosis := d }) p))).1.1
  rw [enterDown, h]
  simp [modLine]

theorem enterTraining_rested (h : p.line.state ≠ .up) (r : Nat) : LineRested p (enterTraining r p) :=
  (modLine_rested _ p).trans (changeLine_rested (p := modLine (fun l => { nextAttempt (stopLine l) with attemptsUsed := 0 }) p) h (by decide))

end

/-! ### O59: TRAINING_ATTEMPT_FAILED, BACKOFF_EXPIRY, SLEEP_INTERVAL_EXPIRY -/

section
variable {s : State} (hready : Ready s)
include hready

theorem attemptFailed_again (hstate : s.part.line.state = .training) (hended : ended s.part.clock.now s.part.line.attemptEnds = true)
    (hleft : s.part.line.attemptsUsed + 1 < s.part.line.config.attempts) : After .trainingAttemptFailed s (fun t =>
      Frame [.line] s t ∧ t.part.line.state = .training ∧ t.part.line.rate = s.part.line.rate ∧
      t.part.line.attemptsUsed = s.part.line.attemptsUsed + 1 ∧ t.part.line.attemptPending = true ∧ t.part.line.echoRun = 0) := by
  have hbody : attemptFails s.part = modLine (fun l => nextAttempt { l with attemptsUsed := l.attemptsUsed + 1, attemptEnds := none }) s.part :=
    if_pos hleft
  obtain ⟨t, ht, hline, -, -, hframe⟩ := occurs_settled (g := attemptOver) (f := attemptFails) hready
    (by simp [attemptOver, hstate, hended]) (by rw [hbody]; rfl)
  rw [hbody] at hline hframe
  refine ⟨t, ht, hframe _ (modLine_same _ _), ?_⟩
  rw [hline]
  exact ⟨hstate, rfl, rfl, rfl, rfl⟩

theorem attemptFailed_slower (hstate : s.part.line.state = .training) (hended : ended s.part.clock.now s.part.line.attemptEnds = true)
    (hleft : s.part.line.config.attempts ≤ s.part.line.attemptsUsed + 1) (hrate : 1 < s.part.line.rate) :
    After .trainingAttemptFailed s (fun t =>
      t.part.line.state = .training ∧ t.part.line.rate = s.part.line.rate - 1 ∧ t.part.line.attemptsUsed = 0 ∧
      t.part.line.attemptPending = true ∧ t.part.window.attention.getLsbD 7 = true ∧ t.part.calls = s.part.calls ∧
      t.part.messages = s.part.messages) := by
  set q := modLine (fun l => { nextAttempt { l with attemptsUsed := l.attemptsUsed + 1, attemptEnds := none } with attemptsUsed := 0 }) s.part with hq
  have hbody : attemptFails s.part = changeLine .training (s.part.line.rate - 1) q :=
    (if_neg (show ¬ s.part.line.attemptsUsed + 1 < s.part.line.config.attempts by omega)).trans (if_pos hrate)
  have hmoves : changeLine .training (s.part.line.rate - 1) q =
      handLine false (attend .line (modLine (fun l => { l with state := .training, rate := s.part.line.rate - 1 }) q)) := by
    have hstate : q.line.state = .training := hstate
    have hrate : q.line.rate ≠ s.part.line.rate - 1 := by show s.part.line.rate ≠ _; omega
    rw [changeLine, if_neg (by simp [hrate]), hstate]
    rfl
  have rested := changeLine_rested (st := .training) (r := s.part.line.rate - 1) (p := q) (show s.part.line.state ≠ .up by rw [hstate]; decide)
    (by decide)
  have hbit : (changeLine .training (s.part.line.rate - 1) q).window.attention.getLsbD 7 = true := by
    obtain ⟨-, -, -, -, hbits⟩ :=
      handLine_rest (p := attend .line (modLine (fun l => { l with state := .training, rate := s.part.line.rate - 1 }) q))
        (show LineState.training ≠ .up by decide)
    rw [hmoves]
    exact hbits 7 (by simp [Attn.bit])
  obtain ⟨-, -, -, -, -, -, -, -, hmessages, hcalls, hwork, -⟩ := rested
  obtain ⟨t, ht, hline, -, hattention, hframe⟩ := occurs_settled (g := attemptOver) (f := attemptFails) hready
    (by simp [attemptOver, hstate, hended]) (by rw [hbody, hwork]; rfl)
  obtain ⟨-, -, -, -, -, hsame⟩ := hframe [.window, .clock, .track, .cabins, .rope, .sensors, .grip, .launch, .doors, .sequencer, .sup, .line]
    (fun b hb => by
      rw [hbody]
      cases b with
      | messages => exact hmessages
      | calls => exact hcalls
      | _ => exact absurd (by decide) hb)
  rw [hbody, changeLine_line] at hline
  rw [hbody] at hattention
  refine ⟨t, ht, by rw [hline], by rw [hline], by rw [hline]; rfl, by rw [hline]; rfl, by rw [hattention]; exact hbit, ?_, ?_⟩
  · exact hsame .calls (by decide) (by decide)
  · exact hsame .messages (by decide) (by decide)

theorem attemptFailed_gives_up (hstate : s.part.line.state = .training) (hended : ended s.part.clock.now s.part.line.attemptEnds = true)
    (hleft : s.part.line.config.attempts ≤ s.part.line.attemptsUsed + 1) (hrate : s.part.line.rate ≤ 1) :
    After .trainingAttemptFailed s (fun t =>
      t.part.line.state = .down ∧ t.part.line.diagnosis = .trainingFailed ∧ t.part.line.startOrder = none ∧ t.part.line.notes = [] ∧
      t.part.line.backoff = (if s.part.line.config.autoStart then some (s.part.clock.now + ms 5000) else none) ∧
      (∀ j, s.part.line.startOrder = some j → (slotOf t.part j).state = .done ∧
        (slotOf t.part j).result = asOctet Result.failed.code ∧ (slotOf t.part j).detail = 3)) := by
  set q := modLine (fun l => { l with attemptsUsed := l.attemptsUsed + 1, attemptEnds := none }) s.part with hq
  have hbody : attemptFails s.part = enterDownWaiting .trainingFailed q :=
    (if_neg (show ¬ s.part.line.attemptsUsed + 1 < s.part.line.config.attempts by omega)).trans
      (if_neg (show ¬ 1 < s.part.line.rate by omega))
  have hwork : (attemptFails s.part).work = s.part.work := by
    rw [hbody]
    exact enterDown_work (p := q) (show s.part.line.state ≠ .up by rw [hstate]; decide) _
  obtain ⟨t, ht, hline, hslots, -, -⟩ := occurs_settled (g := attemptOver) (f := attemptFails) hready
    (by simp [attemptOver, hstate, hended]) hwork
  rw [hbody, enterDownWaiting_line _ _ (enterDown_clock _ q)] at hline
  refine ⟨t, ht, by rw [hline], by rw [hline], by rw [hline], by rw [hline]; rfl, by rw [hline]; rfl, fun j hj => ?_⟩
  have hslot : slotOf t.part j = slotOf (enterDown .trainingFailed q) j := (hslots j).trans (by rw [hbody]; rfl)
  rw [hslot]
  exact enterDown_start .trainingFailed hj

theorem backoffExpiry_probes (hstate : s.part.line.state = .down) (hended : ended s.part.clock.now s.part.line.backoff = true) :
    After .backoffExpiry s (fun t =>
      Frame [.window, .line, .sup, .rope] s t ∧ t.part.line.state = .probing ∧ t.part.line.backoff = none ∧ t.part.line.probeCount = 0 ∧
      t.part.line.probe = some { start := s.part.clock.now, forOrder := false } ∧ t.part.line.sentBurst = List.replicate 16 0xAA) := by
  obtain ⟨rested, -⟩ := enterProbing_rest hstate
  obtain ⟨t, ht, hline, -, -, hframe⟩ := occurs_settled (g := backoffOver) (f := enterProbing) hready
    (by simp [backoffOver, hstate, hended]) rested.2.2.2.2.2.2.2.2.2.2.1
  rw [enterProbing_line] at hline
  exact ⟨t, ht, hframe _ (fun b => rested.same), by rw [hline], by rw [hline]; rfl, by rw [hline], by rw [hline], by rw [hline]; rfl⟩

theorem sleepInterval_ends (hstate : s.part.line.state = .dormant) (hended : ended s.part.clock.now s.part.line.sleepDue = true)
    (hconfig : s.part.line.config.sleepSeconds ∈ [1, 2, 4, 8]) : After .sleepIntervalExpiry s (fun t =>
      Frame [.line] s t ∧ t.part.line.state = .dormant ∧ t.part.line.draws = s.part.line.draws + 1 ∧
      (s.part.line.probe = none → t.part.line.probe = some { start := s.part.clock.now, forOrder := false } ∧
        t.part.line.sentBurst = List.replicate 16 0xAA) ∧
      (∀ pr, s.part.line.probe = some pr → t.part.line.probe = some pr ∧ t.part.line.sentBurst = s.part.line.sentBurst) ∧
      (∃ d : Nat, t.part.line.sleepDue = some (s.part.clock.now + ms d) ∧ 7 * (1000 * s.part.line.config.sleepSeconds) ≤ 8 * d ∧
        8 * d ≤ 9 * (1000 * s.part.line.config.sleepSeconds))) := by
  have hg : sleepOver s.part = true := by simp [sleepOver, hstate, hended]
  have bounds := drawInterval_bounds (l := s.part.line) hconfig
  cases hprobe : s.part.line.probe with
  | none =>
    have hbody : sleepEnds s.part = drawSleep (sendProbe false s.part) := by rw [sleepEnds, hprobe]; rfl
    obtain ⟨t, ht, hline, -, -, hframe⟩ := occurs_settled (g := sleepOver) (f := sleepEnds) hready hg (by rw [hbody]; rfl)
    rw [hbody] at hline hframe
    refine ⟨t, ht, hframe _ (fun b hb => by cases b <;> simp at hb <;> rfl), ?_⟩
    rw [hline]
    exact ⟨hstate, rfl, fun _ => ⟨rfl, rfl⟩, fun pr h => (by cases h), _, rfl, bounds.1, bounds.2⟩
  | some pr =>
    have hbody : sleepEnds s.part = drawSleep s.part := by rw [sleepEnds, hprobe]; rfl
    obtain ⟨t, ht, hline, -, -, hframe⟩ := occurs_settled (g := sleepOver) (f := sleepEnds) hready hg (by rw [hbody]; rfl)
    rw [hbody] at hline hframe
    refine ⟨t, ht, hframe _ (fun b hb => by cases b <;> simp at hb <;> rfl), ?_⟩
    rw [hline]
    exact ⟨hstate, rfl, fun h => (by cases h), fun pr' h => ⟨hprobe.trans h, rfl⟩, _, rfl, bounds.1, bounds.2⟩

end

/-- Settles O59: each timer's act on the line, from states that are not UP, so that the neighbours take no departure. -/
theorem attemptsBackoffAndSleep : Obligations.AttemptsBackoffAndSleep := by
  unfold Obligations.AttemptsBackoffAndSleep
  intro s hready
  exact ⟨fun hstate hended => ⟨attemptFailed_again hready hstate hended, attemptFailed_slower hready hstate hended,
    attemptFailed_gives_up hready hstate hended⟩, backoffExpiry_probes hready, sleepInterval_ends hready⟩

end Sys2Proof.Machine

/-! Bursts heard and probes (R148, R149, R155, R157, R160). -/

namespace Sys2Proof.Machine

/-! ### Bursts recognised -/

theorem isBurstOf_wake (bits : BitVec 32) : isBurstOf Config.wakeOctet bits = true ↔ bits ∈ [0xAAAAAAAA#32, 0x55555555#32] := by
  simp only [isBurstOf, List.any_eq_true, List.mem_range, beq_iff_eq, List.mem_cons, List.not_mem_nil, or_false]
  constructor
  · rintro ⟨k, hk, rfl⟩
    revert hk k
    decide
  · rintro (rfl | rfl)
    · exact ⟨0, by decide⟩
    · exact ⟨1, by decide⟩

theorem isBurstOf_answer (bits : BitVec 32) : isBurstOf Config.answerOctet bits = true ↔
    bits ∈ [0xCCCCCCCC#32, 0x99999999#32, 0x33333333#32, 0x66666666#32] := by
  simp only [isBurstOf, List.any_eq_true, List.mem_range, beq_iff_eq, List.mem_cons, List.not_mem_nil, or_false]
  constructor
  · rintro ⟨k, hk, rfl⟩
    revert hk k
    decide
  · rintro (rfl | rfl | rfl | rfl)
    · exact ⟨0, by decide⟩
    · exact ⟨1, by decide⟩
    · exact ⟨2, by decide⟩
    · exact ⟨3, by decide⟩

theorem hearBits_wake {bits : BitVec 32} (h : bits ∈ [0xAAAAAAAA#32, 0x55555555#32]) (p : Part) : hearBits bits p = wakeBurstHeard p :=
  if_pos ((isBurstOf_wake bits).2 h)

theorem hearBits_answer {bits : BitVec 32} (h : bits ∈ [0xCCCCCCCC#32, 0x99999999#32, 0x33333333#32, 0x66666666#32]) (p : Part) :
    hearBits bits p = answerBurstHeard p := by
  have hnot : bits ∉ [0xAAAAAAAA#32, 0x55555555#32] := by
    simp only [List.mem_cons, List.not_mem_nil, or_false] at h
    obtain rfl | rfl | rfl | rfl := h <;> decide
  rw [hearBits, if_neg (fun hw => hnot ((isBurstOf_wake bits).1 hw)), if_pos ((isBurstOf_answer bits).2 h)]

theorem hearBits_other {bits : BitVec 32}
    (h : bits ∉ [0xAAAAAAAA#32, 0x55555555#32, 0xCCCCCCCC#32, 0x99999999#32, 0x33333333#32, 0x66666666#32]) (p : Part) :
    hearBits bits p = p := by
  simp only [List.mem_cons, List.not_mem_nil, or_false, not_or] at h
  obtain ⟨h1, h2, h3, h4, h5, h6⟩ := h
  rw [hearBits, if_neg (fun hw => by have := (isBurstOf_wake bits).1 hw; simp_all),
    if_neg (fun hw => by have := (isBurstOf_answer bits).1 hw; simp_all)]

theorem burstBits_wake : burstBits Config.wakeOctet ∈ [0xAAAAAAAA#32, 0x55555555#32] := by decide

theorem burstBits_answer : burstBits Config.answerOctet ∈ [0xCCCCCCCC#32, 0x99999999#32, 0x33333333#32, 0x66666666#32] := by decide

theorem listensForBursts_iff (l : Line) : listensForBursts l = true ↔ l.state ∈ [LineState.down, .probing, .dormant] := by
  simp [listensForBursts, or_assoc]

theorem listens_not_up {l : Line} (h : l.state ∈ [LineState.down, .probing, .dormant]) : l.state ≠ .up := by
  intro hup
  rw [hup] at h
  exact absurd h (by decide)

/-! ### A probe that is answered -/

/-- The line when a probe has been classified ANSWERED and training begins at the ceiling. -/
def answeredLine (l : Line) : Line :=
  { nextAttempt (stopLine { l with probe := none, lastProbe := .answered, probesSent := count16 l.probesSent }) with
    attemptsUsed := 0, state := .training, rate := l.config.rateCeiling }

section
variable {pr : Probe} {p : Part}

/-- The part when an answered probe has been recorded and its LINE_PROBE answered. -/
def answeredProbe (pr : Probe) (p : Part) : Part :=
  if pr.forOrder then answerProbe 0 (recordProbe .answered p) else recordProbe .answered p

theorem probeAnswered_eq (pr : Probe) (p : Part) : probeAnswered pr p = trainAtCeiling (answeredProbe pr p) := rfl

theorem answeredProbe_line (pr : Probe) (p : Part) : ∃ o, (answeredProbe pr p).line = { p.line with
    probe := none, lastProbe := .answered, probesSent := count16 p.line.probesSent, probeOrder := o } := by
  unfold answeredProbe
  split
  · exact ⟨none, by rw [(answerProbe_kept _ _).2.1]; rfl⟩
  · exact ⟨p.line.probeOrder, rfl⟩

theorem answeredProbe_work (pr : Probe) (p : Part) : (answeredProbe pr p).work = p.work := by
  unfold answeredProbe
  split
  · simp [recordProbe, modLine]
  · rfl

theorem probeAnswered_line (pr : Probe) (p : Part) : ∃ o, (probeAnswered pr p).line = { answeredLine p.line with probeOrder := o } := by
  obtain ⟨o, ho⟩ := answeredProbe_line pr p
  refine ⟨o, ?_⟩
  rw [probeAnswered_eq, trainAtCeiling, enterTraining_line, ho]
  rfl

theorem probeAnswered_rested (h : p.line.state ≠ .up) : LineRested (answeredProbe pr p) (probeAnswered pr p) := by
  obtain ⟨o, ho⟩ := answeredProbe_line pr p
  exact enterTraining_rested (by rw [ho]; exact h) _

theorem probeAnswered_work (h : p.line.state ≠ .up) : (probeAnswered pr p).work = p.work :=
  (probeAnswered_rested h).2.2.2.2.2.2.2.2.2.2.1.trans (answeredProbe_work pr p)

/-- A LINE_PROBE whose probe is answered is OK with detail 0 (R160). -/
theorem probeAnswered_order (h : p.line.state ≠ .up) (horder : pr.forOrder = true) {j : SlotNo} (hj : p.line.probeOrder = some j) :
    (slotOf (probeAnswered pr p) j).state = .done ∧ (slotOf (probeAnswered pr p) j).result = 0 ∧
      (slotOf (probeAnswered pr p) j).detail = 0 := by
  have rested := probeAnswered_rested (pr := pr) h
  have hslots : (probeAnswered pr p).window.slots = (answeredProbe pr p).window.slots := rested.2.2.2.2.2.2.2.2.2.2.2.1.1
  have held : (recordProbe .answered p).line.probeOrder = some j := hj
  have hslot : slotOf (answeredProbe pr p) j = { slotOf (recordProbe .answered p) j with
      state := .done, result := asOctet Result.ok.code, detail := asOctet 0 } := by
    rw [answeredProbe, if_pos horder, answerProbe, held]
    exact answerHeld_slotOf j .ok 0 _
  rw [slotOf_of_slots_eq hslots, hslot]
  exact ⟨rfl, rfl, rfl⟩

end

/-! ### Events of bursts -/

section
variable {s : State} (hready : Ready s)
include hready

/-- A probe answered in an event. -/
theorem occurs_probeAnswered {g : Part → Bool} {f : Part → Part} (hg : g s.part = true) {pr : Probe} (hf : f s.part = probeAnswered pr s.part)
    (hstate : s.part.line.state ≠ .up) :
    ∃ t, occurs g f s = .next t ∧ t.part.line.state = .training ∧ t.part.line.rate = s.part.line.config.rateCeiling ∧
      t.part.line.attemptPending = true ∧ t.part.line.attemptsUsed = 0 ∧ t.part.line.lastProbe = .answered ∧ t.part.line.probe = none ∧
      t.part.line.probesSent = count16 s.part.line.probesSent ∧
      (∀ j, pr.forOrder = true → s.part.line.probeOrder = some j →
        (slotOf t.part j).state = .done ∧ (slotOf t.part j).result = 0 ∧ (slotOf t.part j).detail = 0) := by
  obtain ⟨o, hafter⟩ := probeAnswered_line pr s.part
  obtain ⟨t, ht, hline, hslots, -, -⟩ := occurs_settled (g := g) (f := f) hready hg (by rw [hf]; exact probeAnswered_work hstate)
  rw [hf, hafter] at hline
  refine ⟨t, ht, by rw [hline]; rfl, by rw [hline]; rfl, by rw [hline]; rfl, by rw [hline]; rfl, by rw [hline]; rfl, by rw [hline]; rfl,
    by rw [hline]; rfl, fun j horder hj => ?_⟩
  rw [hslots j, hf]
  exact probeAnswered_order hstate horder hj

/-- A change of the line's own state alone. -/
theorem occurs_modLine {g : Part → Bool} {f : Part → Part} {l : Line} (hg : g s.part = true) (hf : f s.part = { s.part with line := l }) :
    ∃ t, occurs g f s = .next t ∧ Frame [.line] s t ∧ t.part.line = l := by
  obtain ⟨t, ht, hline, -, -, hframe⟩ := occurs_settled (g := g) (f := f) hready hg (by rw [hf])
  rw [hf] at hline hframe
  exact ⟨t, ht, hframe _ (fun b hb => by cases b <;> simp at hb <;> rfl), hline⟩

theorem bursts_in_probe {pr : Probe} (hlistens : s.part.line.state ∈ [LineState.down, .probing, .dormant])
    (hprobe : s.part.line.probe = some pr) :
    (elapsed s.part.clock.now pr.start ≤ 1 → After .summitWakeBurst s (fun t =>
      Frame [.line] s t ∧ t.part.line = { s.part.line with probe := some { pr with echoHeard := true } }) ∧
      After .answerBurst s (fun t =>
        Frame [.line] s t ∧ t.part.line = { s.part.line with probe := some { pr with answerHeard := true } })) ∧
    (2 ≤ elapsed s.part.clock.now pr.start → ∀ c ∈ [Instr.summitWakeBurst, Instr.answerBurst], After c s (fun t =>
      t.part.line.state = .training ∧ t.part.line.rate = s.part.line.config.rateCeiling ∧ t.part.line.attemptPending = true ∧
      t.part.line.attemptsUsed = 0 ∧ t.part.line.lastProbe = .answered ∧ t.part.line.probe = none ∧
      t.part.line.probesSent = count16 s.part.line.probesSent ∧
      (∀ j, pr.forOrder = true → s.part.line.probeOrder = some j →
        (slotOf t.part j).state = .done ∧ (slotOf t.part j).result = 0 ∧ (slotOf t.part j).detail = 0))) := by
  have hg : burstDue s.part = true := (listensForBursts_iff _).2 hlistens
  have hwake : hearBits (burstBits Config.wakeOctet) s.part = wakeBurstHeard s.part := hearBits_wake burstBits_wake _
  have hanswer : hearBits (burstBits Config.answerOctet) s.part = answerBurstHeard s.part := hearBits_answer burstBits_answer _
  have hlate : answerBurstHeard s.part = hearAnswer pr s.part := by rw [answerBurstHeard, hprobe]
  refine ⟨fun hsoon => ⟨?_, ?_⟩, fun hlistening c hc => ?_⟩
  · exact occurs_modLine hready hg (by rw [hwake, wakeBurstHeard, hprobe]; exact if_pos hsoon)
  · refine occurs_modLine hready hg ?_
    rw [hanswer, hlate, hearAnswer, if_pos (by omega)]
    rfl
  · have hheard : hearAnswer pr s.part = probeAnswered pr s.part := by rw [hearAnswer, if_neg (by omega)]
    simp only [List.mem_cons, List.not_mem_nil, or_false] at hc
    obtain rfl | rfl := hc
    · refine occurs_probeAnswered hready hg ?_ (listens_not_up hlistens)
      rw [hwake, wakeBurstHeard, hprobe]
      exact (if_neg (by omega)).trans hheard
    · exact occurs_probeAnswered hready hg (by rw [hanswer, hlate, hheard]) (listens_not_up hlistens)

/-- Training begun at the ceiling in an event, from a state of rest. -/
theorem occurs_trains {g : Part → Bool} {f : Part → Part} (hg : g s.part = true) (hf : f s.part = trainAtCeiling s.part)
    (hlistens : s.part.line.state ∈ [LineState.down, .probing, .dormant]) :
    ∃ t, occurs g f s = .next t ∧ t.part.line.state = .training ∧ t.part.line.rate = s.part.line.config.rateCeiling ∧
      t.part.line.attemptPending = true ∧ t.part.line.backoff = none ∧ t.part.line.sleepDue = none ∧
      t.part.window.attention.getLsbD 7 = true := by
  have hne : s.part.line.state ≠ .training := by
    intro h
    rw [h] at hlistens
    exact absurd hlistens (by decide)
  obtain ⟨rested, hbit⟩ := changeLine_rest (st := .training) (r := s.part.line.config.rateCeiling)
    (p := modLine (fun l => { nextAttempt (stopLine l) with attemptsUsed := 0 }) s.part) hne (listens_not_up hlistens) (by decide)
  obtain ⟨t, ht, hline, -, hattention, -⟩ := occurs_settled (g := g) (f := f) hready hg
    (by rw [hf]; exact rested.2.2.2.2.2.2.2.2.2.2.1)
  rw [hf] at hline hattention
  rw [trainAtCeiling, enterTraining_line] at hline
  refine ⟨t, ht, by rw [hline], by rw [hline], by rw [hline]; rfl, by rw [hline]; rfl, by rw [hline]; rfl, ?_⟩
  rw [hattention]
  exact hbit

theorem bursts_outside_probe (hprobe : s.part.line.probe = none) :
    exec .answerBurst s = .next s ∧
    (s.part.line.state = .probing ∨ s.part.line.state = .dormant ∨
        (s.part.line.state = .down ∧ s.part.line.config.autoStart = true) → After .summitWakeBurst s (fun t =>
      t.part.line.state = .training ∧ t.part.line.rate = s.part.line.config.rateCeiling ∧ t.part.line.attemptPending = true ∧
      t.part.line.backoff = none ∧ t.part.line.sleepDue = none ∧ t.part.window.attention.getLsbD 7 = true)) ∧
    (s.part.line.state = .down → s.part.line.config.autoStart = false → After .summitWakeBurst s (fun t =>
      Frame [.window, .line] s t ∧ t.part.window.attention.getLsbD 7 = true ∧
      t.part.line = { s.part.line with wakesHeard := count16 s.part.line.wakesHeard })) := by
  have hwake : hearBits (burstBits Config.wakeOctet) s.part = wakeBurstHeard s.part := hearBits_wake burstBits_wake _
  refine ⟨occurs_nothing hready ?_, fun hstate => ?_, fun hstate hauto => ?_⟩
  · rw [hearBits_answer burstBits_answer, answerBurstHeard, hprobe]
  · have hlistens : s.part.line.state ∈ [LineState.down, .probing, .dormant] := by
      obtain h | h | ⟨h, -⟩ := hstate <;> rw [h] <;> decide
    have hheard : wakeBurstHeard s.part = trainAtCeiling s.part := by
      rw [wakeBurstHeard, hprobe]
      obtain h | h | ⟨h, hauto⟩ := hstate <;> rw [h]
      exact if_pos hauto
    exact occurs_trains hready ((listensForBursts_iff _).2 hlistens) (hwake.trans hheard) hlistens
  · have hlistens : s.part.line.state ∈ [LineState.down, .probing, .dormant] := by rw [hstate]; decide
    have hheard : hearBits (burstBits Config.wakeOctet) s.part =
        attend .line (modLine (fun l => { l with wakesHeard := count16 l.wakesHeard }) s.part) := by
      rw [hwake, wakeBurstHeard, hprobe, hstate]
      exact if_neg (by rw [hauto]; decide)
    obtain ⟨t, ht, hline, -, hattention, hframe⟩ := occurs_settled (g := burstDue) (f := hearBits (burstBits Config.wakeOctet)) hready
      ((listensForBursts_iff _).2 hlistens) (by rw [hheard]; rfl)
    rw [hheard] at hline hattention hframe
    refine ⟨t, ht, hframe _ (fun b hb => by cases b <;> simp at hb <;> rfl), ?_, hline⟩
    rw [hattention]
    simp [Attn.bit]

/-! ### The timers of a probe -/

theorem probeInterval_sends (hdue : probeDue s.part = true) : After .probeInterval s (fun t => Frame [.line] s t ∧
    t.part.line = { s.part.line with
      probe := some { start := s.part.clock.now, forOrder := false }, probeStart := s.part.clock.now
      sentBurst := List.replicate 16 0xAA }) :=
  occurs_modLine hready hdue rfl

end

/-- The line when a probe has been classified ECHO or SILENT. -/
def failedLine (pr : Probe) (l : Line) : Line :=
  { l with probe := none, lastProbe := if pr.echoHeard then .echo else .silent, probesSent := count16 l.probesSent }

/-- The part when a probe has been classified ECHO or SILENT. -/
def probeRecorded (pr : Probe) (p : Part) : Part := recordProbe (if pr.echoHeard then .echo else .silent) p

theorem probeRecorded_line (pr : Probe) (p : Part) : (probeRecorded pr p).line = failedLine pr p.line := rfl

section
variable {pr : Probe} {p : Part} (hprobe : p.line.probe = some pr)
include hprobe

theorem listenEnds_answered (hheard : pr.answerHeard = true) : listenEnds p = probeAnswered pr p := by
  rw [listenEnds, hprobe]
  exact if_pos hheard

theorem listenEnds_order (hheard : pr.answerHeard = false) (horder : pr.forOrder = true) :
    listenEnds p = orderProbeFails pr.echoHeard (probeRecorded pr p) := by
  rw [listenEnds, hprobe]
  exact (if_neg (by rw [hheard]; decide)).trans (if_pos horder)

theorem listenEnds_probing (hheard : pr.answerHeard = false) (horder : pr.forOrder = false) (hstate : p.line.state = .probing) :
    listenEnds p = probingProbeFails pr.echoHeard (probeRecorded pr p) := by
  rw [listenEnds, hprobe]
  refine (if_neg (by rw [hheard]; decide)).trans ((if_neg (by rw [horder]; decide)).trans (if_pos ?_))
  show (p.line.state == .probing) = true
  rw [hstate]
  rfl

theorem listenEnds_asleep (hheard : pr.answerHeard = false) (horder : pr.forOrder = false) (hstate : p.line.state = .dormant) :
    listenEnds p = sleepProbeFails pr.echoHeard (probeRecorded pr p) := by
  rw [listenEnds, hprobe]
  refine (if_neg (by rw [hheard]; decide)).trans ((if_neg (by rw [horder]; decide)).trans (if_neg ?_))
  show ¬ (p.line.state == .probing) = true
  rw [hstate]
  decide

end

/-- The part when an unanswered LINE_PROBE has been answered. -/
def orderProbeAnswered (echo : Bool) (p : Part) : Part :=
  answerProbe (if echo then 1 else 2) (modLine (fun l => { l with diagnosis := diagnosisOf echo }) p)

theorem orderProbeFails_eq (echo : Bool) (p : Part) : orderProbeFails echo p =
    if p.line.state = .down then startBackoff (orderProbeAnswered echo p) else orderProbeAnswered echo p := by
  have hstate : (orderProbeAnswered echo p).line.state = p.line.state := by
    rw [orderProbeAnswered, (answerProbe_kept _ _).2.1]; rfl
  unfold orderProbeFails
  dsimp only
  rw [← orderProbeAnswered, hstate]
  simp

theorem orderProbeFails_line (echo : Bool) (p : Part) : (orderProbeFails echo p).line = { p.line with
    diagnosis := diagnosisOf echo, probeOrder := none
    backoff := if p.line.state = .down then (if p.line.config.autoStart then some (p.clock.now + ms 5000) else none)
      else p.line.backoff } := by
  obtain ⟨hkeeps, hline, -⟩ := answerProbe_kept (if echo then 1 else 2) (modLine (fun l => { l with diagnosis := diagnosisOf echo }) p)
  have hclock : (orderProbeAnswered echo p).clock = p.clock := hkeeps.1
  rw [orderProbeFails_eq]
  split
  · rw [startBackoff, modLine, hclock, orderProbeAnswered, hline]; rfl
  · rw [orderProbeAnswered, hline]; rfl

/-- An order's probe that fails changes the line, and answers the order. -/
theorem orderProbeFails_same (echo : Bool) (p : Part) : (orderProbeFails echo p).work = p.work ∧
    ∀ b ∉ [Block.window, .line], Part.same b p (orderProbeFails echo p) := by
  have answered : (orderProbeAnswered echo p).work = p.work ∧ ∀ b ∉ [Block.window, .line], Part.same b p (orderProbeAnswered echo p) := by
    unfold orderProbeAnswered answerProbe
    generalize (modLine (fun l => { l with diagnosis := diagnosisOf echo }) p).line.probeOrder = o
    cases o <;> exact ⟨rfl, fun b hb => by cases b <;> simp at hb <;> rfl⟩
  rw [orderProbeFails_eq]
  split
  · refine ⟨answered.1, fun b hb => same_trans (answered.2 b hb) ?_⟩
    cases b <;> simp at hb <;> rfl
  · exact answered

theorem orderProbeFails_order (echo : Bool) (p : Part) {j : SlotNo} (hj : p.line.probeOrder = some j) :
    (slotOf (orderProbeFails echo p) j).state = .done ∧ (slotOf (orderProbeFails echo p) j).result = 0 ∧
      (slotOf (orderProbeFails echo p) j).detail = (if echo then 1 else 2) := by
  have held : (modLine (fun l => { l with diagnosis := diagnosisOf echo }) p).line.probeOrder = some j := hj
  have hslot : slotOf (orderProbeFails echo p) j = slotOf (orderProbeAnswered echo p) j := by
    rw [orderProbeFails_eq]
    split
    · rfl
    · rfl
  rw [hslot, orderProbeAnswered, answerProbe, held, answerHeld_slotOf]
  cases echo <;> exact ⟨rfl, rfl, rfl⟩

section
variable {s : State} (hready : Ready s) {pr : Probe} (hprobe : s.part.line.probe = some pr)
  (hover : reached s.part.clock.now (pr.start + ms 22) = true)
include hprobe hover

theorem listenDue_of_over : listenDue s.part = true := by
  rw [listenDue, listenOver, hprobe]
  exact hover

include hready

theorem probeListenEnd_order (hheard : pr.answerHeard = false) (horder : pr.forOrder = true) : After .probeListenEnd s (fun t =>
    Frame [.window, .line] s t ∧ t.part.line.state = s.part.line.state ∧ t.part.line.probe = none ∧ t.part.line.probeOrder = none ∧
    t.part.line.lastProbe = (if pr.echoHeard then .echo else .silent) ∧
    t.part.line.diagnosis = (if pr.echoHeard then .summitUnpowered else .lineOpen) ∧
    (s.part.line.state = .down → t.part.line.backoff =
      (if s.part.line.config.autoStart then some (s.part.clock.now + ms 5000) else none)) ∧
    (∀ j, s.part.line.probeOrder = some j → (slotOf t.part j).state = .done ∧ (slotOf t.part j).result = 0 ∧
      (slotOf t.part j).detail = (if pr.echoHeard then 1 else 2))) := by
  have hends := listenEnds_order hprobe hheard horder
  obtain ⟨hwork, hsame⟩ := orderProbeFails_same pr.echoHeard (probeRecorded pr s.part)
  obtain ⟨t, ht, hline, hslots, -, hframe⟩ := occurs_settled (g := listenDue) (f := listenEnds) hready
    (listenDue_of_over hprobe hover) (by rw [hends, hwork]; rfl)
  have hslot (j : SlotNo) : slotOf t.part j = slotOf (orderProbeFails pr.echoHeard (probeRecorded pr s.part)) j := by rw [hslots, hends]
  rw [hends, orderProbeFails_line] at hline
  refine ⟨t, ht, hframe _ (fun b hb => ?_), by rw [hline]; rfl, by rw [hline]; rfl, by rw [hline], by rw [hline]; rfl, by rw [hline]; rfl,
    fun hdown => ?_, fun j hj => ?_⟩
  · rw [hends]
    refine same_trans (q := probeRecorded pr s.part) ?_ (hsame b hb)
    cases b <;> simp at hb <;> rfl
  · rw [hline]
    exact if_pos hdown
  · rw [hslot j]
    exact orderProbeFails_order pr.echoHeard (probeRecorded pr s.part) hj

theorem probeListenEnd_probing (hheard : pr.answerHeard = false) (horder : pr.forOrder = false) (hstate : s.part.line.state = .probing)
    (hcount : s.part.line.probeCount < 9) : After .probeListenEnd s (fun t => Frame [.line] s t ∧ t.part.line.state = .probing ∧
      t.part.line.probe = none ∧ t.part.line.probeCount = s.part.line.probeCount + 1 ∧
      t.part.line.probesSent = count16 s.part.line.probesSent) := by
  have hends : listenEnds s.part = { s.part with line :=
      { failedLine pr s.part.line with probeCount := s.part.line.probeCount + 1 } } := by
    rw [listenEnds_probing hprobe hheard horder hstate]
    exact if_neg (show ¬ 10 ≤ s.part.line.probeCount + 1 by omega)
  obtain ⟨t, ht, hframe, hline⟩ := occurs_modLine (g := listenDue) hready (listenDue_of_over hprobe hover) hends
  exact ⟨t, ht, hframe, by rw [hline]; exact hstate, by rw [hline]; rfl, by rw [hline], by rw [hline]; rfl⟩

theorem probeListenEnd_asleep (hheard : pr.answerHeard = false) (horder : pr.forOrder = false) (hstate : s.part.line.state = .dormant) :
    After .probeListenEnd s (fun t =>
      Frame [.window, .line] s t ∧ t.part.line.state = .dormant ∧ t.part.line.sleepDue = s.part.line.sleepDue ∧
      t.part.line.diagnosis = (if pr.echoHeard then .summitUnpowered else .lineOpen)) := by
  have hfails : (sleepProbeFails pr.echoHeard (probeRecorded pr s.part)).work = s.part.work ∧
      (∀ b ∉ [Block.window, .line], Part.same b s.part (sleepProbeFails pr.echoHeard (probeRecorded pr s.part))) ∧
      (sleepProbeFails pr.echoHeard (probeRecorded pr s.part)).line =
        { failedLine pr s.part.line with diagnosis := diagnosisOf pr.echoHeard } := by
    unfold sleepProbeFails
    dsimp only
    split
    next h =>
      have hdiag : (failedLine pr s.part.line).diagnosis = diagnosisOf pr.echoHeard := of_decide_eq_true h
      refine ⟨rfl, fun b hb => by cases b <;> simp at hb <;> rfl, ?_⟩
      rw [probeRecorded_line, ← hdiag]
    next => exact ⟨rfl, fun b hb => by cases b <;> simp at hb <;> rfl, rfl⟩
  have hends := listenEnds_asleep hprobe hheard horder hstate
  obtain ⟨t, ht, hline, -, -, hframe⟩ := occurs_settled (g := listenDue) (f := listenEnds) hready
    (listenDue_of_over hprobe hover) (by rw [hends]; exact hfails.1)
  rw [hends, hfails.2.2] at hline
  exact ⟨t, ht, hframe _ (by rw [hends]; exact hfails.2.1), by rw [hline]; exact hstate, by rw [hline]; rfl, by rw [hline]; rfl⟩

theorem probesExhausted_ends (hheard : pr.answerHeard = false) (horder : pr.forOrder = false) (hstate : s.part.line.state = .probing)
    (hcount : 9 ≤ s.part.line.probeCount) : After .probesExhausted s (fun t =>
      exec .probeListenEnd s = .next t ∧ t.part.line.state = .down ∧ t.part.line.startOrder = none ∧
      t.part.line.diagnosis = (if pr.echoHeard then .summitUnpowered else .lineOpen) ∧
      t.part.line.backoff = (if s.part.line.config.autoStart then some (s.part.clock.now + ms 5000) else none) ∧
      (∀ j, s.part.line.startOrder = some j → (slotOf t.part j).state = .done ∧
        (slotOf t.part j).result = asOctet Result.failed.code ∧ (slotOf t.part j).detail = (if pr.echoHeard then 1 else 2))) := by
  set q := modLine (fun l => { l with probeCount := s.part.line.probeCount + 1 }) (probeRecorded pr s.part) with hq
  have hends : listenEnds s.part = enterDownWaiting (diagnosisOf pr.echoHeard) q := by
    rw [listenEnds_probing hprobe hheard horder hstate]
    exact if_pos (show 10 ≤ s.part.line.probeCount + 1 by omega)
  have hlisten := listenDue_of_over hprobe hover
  have hg : probesOver s.part = true := by
    simp only [probesOver, hlisten, hstate, hprobe, hheard, horder, beq_self_eq_true, Bool.not_false, Bool.and_true]
    exact decide_eq_true (show 10 ≤ s.part.line.probeCount + 1 by omega)
  have hwork : (listenEnds s.part).work = s.part.work := by
    rw [hends]
    exact enterDown_work (p := q) (show s.part.line.state ≠ .up by rw [hstate]; decide) _
  obtain ⟨t, ht, hline, hslots, -, -⟩ := occurs_settled (g := probesOver) (f := listenEnds) hready hg hwork
  have hlistened : occurs listenDue listenEnds s = .next t := by
    rw [occurs_acts hready.1 hlisten, ← occurs_acts hready.1 hg]; exact ht
  have hslot (j : SlotNo) : slotOf t.part j = slotOf (enterDown (diagnosisOf pr.echoHeard) q) j := (hslots j).trans (by rw [hends]; rfl)
  rw [hends, enterDownWaiting_line _ _ (enterDown_clock _ q)] at hline
  refine ⟨t, ht, hlistened, by rw [hline], by rw [hline], by rw [hline]; rfl, by rw [hline]; rfl, fun j hj => ?_⟩
  rw [hslot j]
  obtain ⟨hdone, hresult, hdetail⟩ := enterDown_start (p := q) (diagnosisOf pr.echoHeard) hj
  refine ⟨hdone, hresult, hdetail.trans ?_⟩
  cases pr.echoHeard <;> rfl

end

/-- Settles O58: the bits that make a burst are told from all others, and each burst and timer acts on the probe that runs. -/
theorem burstsAndProbes : Obligations.BurstsAndProbes := by
  unfold Obligations.BurstsAndProbes
  refine ⟨fun bits p => ⟨fun h => hearBits_wake h p, fun h => hearBits_answer h p, fun h => hearBits_other h p⟩,
    fun s hready => ⟨fun hnot => ?_, fun pr => bursts_in_probe hready, bursts_outside_probe hready⟩,
    fun s hready => ⟨probeInterval_sends hready, fun pr hprobe hover => ⟨fun hheard hstate => ?_, probeListenEnd_order hready hprobe hover,
      probeListenEnd_probing hready hprobe hover, probeListenEnd_asleep hready hprobe hover, probesExhausted_ends hready hprobe hover⟩⟩⟩
  · have hg : burstDue s.part = false := by
      rw [burstDue, ← Bool.not_eq_true, listensForBursts_iff]
      exact hnot
    exact ⟨occurs_not hg, occurs_not hg⟩
  · obtain ⟨t, ht, htraining, hrate, -, -, hlast, -⟩ := occurs_probeAnswered (g := listenDue) (f := listenEnds) hready
      (listenDue_of_over hprobe hover) (listenEnds_answered hprobe hheard) (listens_not_up hstate)
    exact ⟨t, ht, htraining, hrate, hlast⟩

end Sys2Proof.Machine

/-! An answer of the summit judged (R143, R145, R150 to R153): its stages, and what it leaves at the end of its event. -/

namespace Sys2Proof.Machine

/-! ### The end of an event after which at most Launch Control judges -/

/-- A part at the end of an event that leaves `q`, where Launch Control alone has judged. -/
structure LeftBy (q r : Part) : Prop where
  line : r.line = q.line
  track : r.track = q.track
  cabins : r.cabins = q.cabins
  messages : r.messages = q.messages
  clock : r.clock = q.clock
  sensors : r.sensors = q.sensors
  attention : r.window.attention = q.window.attention
  slots : ∀ i, slotOf r i = slotOf q i
  sup : r.sup = { q.sup with svcStop := svcStopFor q.sup, fastStop := fastStopFor q.sup }
  calls : ∀ v, Toned (callSlot q v) (callSlot r v)
  counts : CountsStay q r

theorem LaunchAlone.leftBy {q : Part} (alone : LaunchAlone q (settle 64 q)) : LeftBy q (finish q) := by
  have hall := alone.1
  have hwindow : (settle 64 q).window = q.window := by rw [hall]
  have hsup : (settle 64 q).sup = q.sup := by rw [hall]
  have hcalls : (settle 64 q).calls = q.calls := by rw [hall]
  refine ⟨by rw [finish_line, hall], by rw [finish_track, hall], by rw [finish_cabins, hall], by rw [finish_messages, hall],
    by rw [finish_clock, hall], by rw [finish_sensors, hall], by rw [finish_window, hwindow], fun i => ?_, by rw [finish_sup, hsup],
    fun v => ?_, ?_⟩
  · rw [slotOf_finish, slotOf, hwindow, slotOf]
  · have hslot := callSlot_finish q v
    rwa [callSlot_of_calls_eq hcalls v] at hslot
  · have hslots := finish_calls_slots q
    rwa [hcalls] at hslots

/-- An event of which the station stays as it is or leaves RUN. -/
theorem occurs_leaves {g : Part → Bool} {f : Part → Part} {s : State} (hready : Ready s) (hg : g s.part = true)
    (hstops : StaysOrStops s.part (f s.part)) (harb : (f s.part).work.arbiter = s.part.work.arbiter)
    (hseq : (f s.part).work.sequencer = s.part.work.sequencer) : ∃ t, occurs g f s = .next t ∧ LeftBy (f s.part) t.part :=
  ⟨_, occurs_acts hready.1 hg, (settle_stops hready.2.1 hstops harb hseq).leftBy⟩

/-! ### What the blocks' parts of a judgement do to the mode and to ATTENTION -/

/-- The station stays as it is or leaves RUN, and no bit of ATTENTION goes out. -/
abbrev Answerable (p q : Part) : Prop := StaysOrStops p q ∧ BitsStay p.window q.window

theorem Answerable.trans {p q r : Part} (h : Answerable p q) (g : Answerable q r) : Answerable p r :=
  ⟨h.1.trans g.1, h.2.trans g.2⟩

theorem Answerable.of_kept {p q : Part} (hwork : q.work = p.work) (hsup : q.sup = p.sup) (hbits : BitsStay p.window q.window) :
    Answerable p q :=
  ⟨.inl ⟨hwork, by rw [hsup]⟩, hbits⟩

theorem Answerable.refl (p : Part) : Answerable p p := .of_kept rfl rfl (.of_eq rfl)

theorem Undisturbed.answerable {p q : Part} (h : Undisturbed p q) : Answerable p q := ⟨h.stays, h.2.2.2.2⟩

theorem LineRested.answerable {p q : Part} (h : LineRested p q) : Answerable p q := by
  obtain ⟨-, -, -, -, -, -, -, -, -, -, hwork, -, hmode, hbits⟩ := h
  exact ⟨.inl ⟨hwork, hmode⟩, hbits⟩

theorem CallKeeps.answerable {p q : Part} (h : CallKeeps p q) (hbits : BitsStay p.window q.window) : Answerable p q := by
  obtain ⟨-, -, -, -, -, -, -, -, -, hsup, -, -, hwork, -⟩ := h
  exact .of_kept hwork hsup hbits

theorem report_answerable (k : CauseKind) (n : Nat) (c : Category) (b : Bool) (p : Part) : Answerable p (report k n c b p) :=
  ⟨.inr (report_stops _ _ _ _ _), report_bitsStay _ _ _ _ _⟩

/-- The first of the summit's stops brought up to date: STOP_SERVICE (R130). -/
def refreshServiceStop (svc was : Bool) (p : Part) : Part :=
  if svc && !was then report .summitStop 0 .service true p else if !svc && was then gone .summitStop 0 p else p

/-- The second of the summit's stops brought up to date: STOP_FAST (R130). -/
def refreshFastStop (fast was : Bool) (p : Part) : Part :=
  if fast && !was then report .summitFastStop 0 .fast true p else if !fast && was then gone .summitFastStop 0 p else p

/-- The summit's stops as the line shows them. -/
def stopsNoted (p : Part) : Part := modSup (fun s => { s with
  stopServiceStands := p.line.state == .up && summitBit p.line 1, stopFastStands := p.line.state == .up && summitBit p.line 2 }) p

theorem refreshSummitStops_eq (p : Part) : refreshSummitStops p =
    refreshFastStop (p.line.state == .up && summitBit p.line 2) p.sup.stopFastStands
      (refreshServiceStop (p.line.state == .up && summitBit p.line 1) p.sup.stopServiceStands (stopsNoted p)) := rfl

theorem refreshServiceStop_answerable (svc was : Bool) (p : Part) : Answerable p (refreshServiceStop svc was p) := by
  unfold refreshServiceStop
  split
  · exact report_answerable _ _ _ _ _
  · split
    · exact (gone_undisturbed _ _ _).answerable
    · exact .refl p

theorem refreshFastStop_answerable (fast was : Bool) (p : Part) : Answerable p (refreshFastStop fast was p) := by
  unfold refreshFastStop
  split
  · exact report_answerable _ _ _ _ _
  · split
    · exact (gone_undisturbed _ _ _).answerable
    · exact .refl p

theorem refreshSummitStops_answerable (p : Part) : Answerable p (refreshSummitStops p) := by
  rw [refreshSummitStops_eq]
  have noted : Answerable p (stopsNoted p) := (modSup_undisturbed rfl).answerable
  exact (noted.trans (refreshServiceStop_answerable _ _ _)).trans (refreshFastStop_answerable _ _ _)

theorem takeWord_answerable (w : Half) (p : Part) : Answerable p (takeWord w p) := by
  have accepted : Answerable p (modLine (acceptWord w) p) := .of_kept rfl rfl (.of_eq rfl)
  unfold takeWord
  dsimp only
  split
  · exact accepted
  · exact ((accepted.trans (attend_undisturbed _ _).answerable).trans (refreshSummitStops_answerable _)).trans
      (setCaps_undisturbed _ _).answerable

/-! #### The Message Channel -/

theorem answer_bitsStay (i : SlotNo) (r : Result) (d : Nat) (p : Part) : BitsStay p.window (answer i r d p).window :=
  fun n h => by simp [answer, h]

theorem failTransfer_bitsStay (t : Transfer) (d : Nat) (p : Part) : BitsStay p.window (failTransfer t d p).window := by
  unfold failTransfer
  split
  · exact .of_eq (by simp)
  · exact answer_bitsStay _ _ _ p

theorem acceptOctet_bitsStay (t : Transfer) (p : Part) : BitsStay p.window (acceptOctet t p).window := by
  unfold acceptOctet
  dsimp only
  split
  · split
    · exact .of_eq (by simp)
    · exact .of_eq rfl
  · split
    · exact fun n h => answer_bitsStay _ _ _ _ n h
    · exact .of_eq rfl

theorem refuseOctet_bitsStay (p : Part) : BitsStay p.window (refuseOctet p).window := by
  unfold refuseOctet
  dsimp only
  split
  · exact .of_eq rfl
  · split
    · exact fun n h => failTransfer_bitsStay _ _ _ n h
    · exact .of_eq rfl

theorem judgeAccept_bitsStay (n : Option Nat) (b : Bool) (p : Part) : BitsStay p.window (judgeAccept n b p).window := by
  unfold judgeAccept
  split
  · exact .of_eq rfl
  · split
    · split
      · exact acceptOctet_bitsStay _ p
      · exact refuseOctet_bitsStay p
    · split
      · exact .of_eq rfl
      · exact refuseOctet_bitsStay p
    · exact .of_eq rfl

theorem passageNote_bitsStay (k : Nat) (p : Part) : BitsStay p.window (passageNote k p).window := by
  unfold passageNote
  dsimp only
  split
  · rw [copyMarks_kept]; exact .of_eq rfl
  · exact attend_bitsStay _ p

theorem deliverNote_bitsStay (l : List Byte) (p : Part) : BitsStay p.window (deliverNote l p).window := by
  unfold deliverNote
  split
  · exact passageNote_bitsStay _ p
  · exact attend_bitsStay _ p

theorem endAssembly_bitsStay (p : Part) : BitsStay p.window (endAssembly p).window := by
  unfold endAssembly
  dsimp only
  split
  · exact .of_eq rfl
  · exact attend_bitsStay .messageIn _
  · exact deliverNote_bitsStay _ (modMsg _ p)
  · exact .of_eq rfl

theorem receiveOctet_bitsStay (b : Byte) (m : MsgMark) (p : Part) : BitsStay p.window (receiveOctet b m p).2.window := by
  cases m with
  | last =>
    have ended (r : Bool × Messages) :
        BitsStay p.window (if (takeAssembly r p).1 then (true, endAssembly (takeAssembly r p).2) else takeAssembly r p).2.window := by
      split
      · exact endAssembly_bitsStay { p with messages := r.2 }
      · exact .of_eq rfl
    exact ended _
  | middle => unfold receiveOctet; dsimp only; split <;> exact .of_eq rfl
  | _ => exact .of_eq rfl

theorem judgeOffer_bitsStay (o : Option (Byte × MsgMark)) (p : Part) : BitsStay p.window (judgeOffer o p).window := by
  unfold judgeOffer
  split
  · exact .of_eq rfl
  · split
    · exact .of_eq rfl
    · exact receiveOctet_bitsStay _ _ p

theorem messagesGood_sup (n : Option Nat) (b : Bool) (o : Option (Byte × MsgMark)) (p : Part) :
    (messagesGood n b o p).sup = p.sup ∧ (messagesGood n b o p).line = p.line ∧ (messagesGood n b o p).calls = p.calls ∧
      (messagesGood n b o p).work = p.work ∧ (messagesGood n b o p).doors = p.doors ∧ (messagesGood n b o p).clock = p.clock := by
  simp [messagesGood]

theorem messagesGood_bitsStay (n : Option Nat) (b : Bool) (o : Option (Byte × MsgMark)) (p : Part) :
    BitsStay p.window (messagesGood n b o p).window :=
  (judgeAccept_bitsStay n b p).trans (judgeOffer_bitsStay o (judgeAccept n b p))

theorem messagesGood_answerable (n : Option Nat) (b : Bool) (o : Option (Byte × MsgMark)) (p : Part) :
    Answerable p (messagesGood n b o p) := by
  obtain ⟨hsup, -, -, hwork, -⟩ := messagesGood_sup n b o p
  exact .of_kept hwork hsup (messagesGood_bitsStay n b o p)

/-! #### The Call Unit -/

theorem connect_bitsStay (v : VoiceNo) (p : Part) : BitsStay p.window (connect v p).window := by
  have connected : BitsStay p.window (callConnected v p).window :=
    BitsStay.trans (enterCall_bitsStay v .connected (modCall v _ p)) (answerCall_bitsStay v .ok 0 (countConnect _))
  rw [connect_eq]
  split <;> exact connected

theorem clearBySummit_bitsStay (v : VoiceNo) (p : Part) : BitsStay p.window (clearBySummit v p).window := by
  unfold clearBySummit
  dsimp only
  split
  · exact enterCall_bitsStay v .clearing (modCall v _ (modCall v _ p))
  · exact callToIdle_bitsStay v (modCall v _ p)

theorem incoming_bitsStay (v : VoiceNo) (p : Part) : BitsStay p.window (incoming v p).window := by
  unfold incoming
  dsimp only
  split
  · exact BitsStay.trans (enterCall_bitsStay v .ringingIn (modCall v _ p)) (connect_bitsStay v _)
  · exact enterCall_bitsStay v .ringingIn (modCall v _ p)

theorem glare_bitsStay (v : VoiceNo) (p : Part) : BitsStay p.window (glare v p).window := by
  unfold glare
  dsimp only
  split
  · exact .of_eq rfl
  · exact fun n h => incoming_bitsStay v _ n (answerCall_bitsStay v .failed 4 _ n h)

theorem seizeStands_bitsStay (v : VoiceNo) (p : Part) : BitsStay p.window (seizeStands v p).window := by
  unfold seizeStands
  split
  · exact incoming_bitsStay v p
  · exact glare_bitsStay v p
  · exact glare_bitsStay v p
  · exact .of_eq rfl

theorem seizeDrops_bitsStay (v : VoiceNo) (p : Part) : BitsStay p.window (seizeDrops v p).window := by
  unfold seizeDrops
  dsimp only
  split
  · exact callToIdle_bitsStay v (modCall v _ p)
  · split
    · exact clearBySummit_bitsStay v p
    · exact .of_eq rfl
  · split
    · exact callToIdle_bitsStay v p
    · exact .of_eq rfl
  · exact .of_eq rfl

theorem answerStands_bitsStay (v : VoiceNo) (p : Part) : BitsStay p.window (answerStands v p).window := by
  unfold answerStands
  split
  · exact connect_bitsStay v p
  · exact connect_bitsStay v p
  · exact .of_eq rfl

theorem answerDrops_bitsStay (v : VoiceNo) (p : Part) : BitsStay p.window (answerDrops v p).window := by
  unfold answerDrops
  dsimp only
  split
  · split
    · exact clearBySummit_bitsStay v p
    · exact .of_eq rfl
  · split
    · exact callToIdle_bitsStay v p
    · exact .of_eq rfl
  · exact .of_eq rfl

/-- The SEIZE bit taken: it comes to stand, drops, or stays (R176). -/
def seizeTurn (v : VoiceNo) (now before : Bool) (p : Part) : Part :=
  if now && !before then seizeStands v p else if !now && before then seizeDrops v p else p

/-- The ANSWER bit taken: it comes to stand, drops, or stays (R176). -/
def answerTurn (v : VoiceNo) (now before : Bool) (p : Part) : Part :=
  if now && !before then answerStands v p else if !now && before then answerDrops v p else p

/-- The summit's bits as a slot takes them at a good answer (R176): clear until the second one of UP. -/
def bitsTaken (v : VoiceNo) (p : Part) : Part :=
  modCall v (fun c => { c with
    goodSinceUp := min 2 ((callSlot p v).goodSinceUp + 1)
    seizeTaken := min 2 ((callSlot p v).goodSinceUp + 1) == 2 && summitBit p.line (seizeBit v)
    answerTaken := min 2 ((callSlot p v).goodSinceUp + 1) == 2 && summitBit p.line (seizeBit v + 1) }) p

theorem takeSummitBits_eq (v : VoiceNo) (p : Part) : takeSummitBits v p =
    answerTurn v (callSlot (bitsTaken v p) v).answerTaken (callSlot p v).answerTaken
      (seizeTurn v (callSlot (bitsTaken v p) v).seizeTaken (callSlot p v).seizeTaken (bitsTaken v p)) := by
  rw [bitsTaken, callSlot_modCall_same]
  rfl

theorem seizeTurn_bitsStay (v : VoiceNo) (now before : Bool) (p : Part) : BitsStay p.window (seizeTurn v now before p).window := by
  unfold seizeTurn
  split
  · exact seizeStands_bitsStay v p
  · split
    · exact seizeDrops_bitsStay v p
    · exact .of_eq rfl

theorem answerTurn_bitsStay (v : VoiceNo) (now before : Bool) (p : Part) : BitsStay p.window (answerTurn v now before p).window := by
  unfold answerTurn
  split
  · exact answerStands_bitsStay v p
  · split
    · exact answerDrops_bitsStay v p
    · exact .of_eq rfl

theorem takeSummitBits_bitsStay (v : VoiceNo) (p : Part) : BitsStay p.window (takeSummitBits v p).window := by
  rw [takeSummitBits_eq]
  exact fun n h => answerTurn_bitsStay v _ _ _ n (seizeTurn_bitsStay v _ _ (bitsTaken v p) n h)

theorem countSeizing_bitsStay (v : VoiceNo) (a b : Bool) (p : Part) : BitsStay p.window (countSeizing v a b p).window := by
  unfold countSeizing
  dsimp only
  split
  · split
    · exact enterCall_bitsStay v .ringingOut (modCall v _ p)
    · exact .of_eq rfl
  · exact .of_eq rfl

theorem callGoodAnswer_bitsStay (v : VoiceNo) (w : Half) (b : Bool) (p : Part) : BitsStay p.window (callGoodAnswer v w b p).window := by
  unfold callGoodAnswer
  dsimp only
  exact fun n h => countSeizing_bitsStay v b _ _ n (takeSummitBits_bitsStay v p n h)

theorem playVoices_bitsStay (r : Nat) (a b : List Byte) (p : Part) : BitsStay p.window (playVoices r a b p).window := by
  have played (v : VoiceNo) (l : List Byte) (q : Part) : (playVoice v l q).window = q.window := by
    unfold playVoice
    split <;> rfl
  refine .of_eq ?_
  unfold playVoices
  dsimp only
  (repeat' split) <;> simp only [played]

/-- The Call Unit's part of a good answer. -/
def callsGood (note : FrameNote) (f : FrameContent) (p : Part) : Part :=
  playVoices note.rate f.voice0 f.voice1 (callGoodAnswer 1 f.word note.ownSeize1 (callGoodAnswer 0 f.word note.ownSeize0 p))

theorem callsGood_kept (note : FrameNote) (f : FrameContent) (p : Part) : CallKeeps p (callsGood note f p) := by
  simp [CallKeeps, PortKept, callsGood]

theorem callsGood_bitsStay (note : FrameNote) (f : FrameContent) (p : Part) : BitsStay p.window (callsGood note f p).window :=
  ((callGoodAnswer_bitsStay 0 _ _ p).trans (callGoodAnswer_bitsStay 1 _ _ _)).trans (playVoices_bitsStay _ _ _ _)

/-- The Message Channel's part of a good answer. -/
def messagesTaken (note : FrameNote) (f : FrameContent) (p : Part) : Part :=
  messagesGood note.offered f.accept (if f.offer then some (f.octet, readMark f.mark) else none) p

theorem useAnswer_eq (note : FrameNote) (f : FrameContent) (p : Part) : useAnswer note f p =
    callsGood note f (messagesTaken note f (takeWord f.word (modLine (fun l => { l with farErrored := f.errored }) p))) := rfl

theorem useAnswer_answerable (note : FrameNote) (f : FrameContent) (p : Part) : Answerable p (useAnswer note f p) := by
  rw [useAnswer_eq]
  have noted : Answerable p (modLine (fun l => { l with farErrored := f.errored }) p) := .of_kept rfl rfl (.of_eq rfl)
  exact ((noted.trans (takeWord_answerable _ _)).trans (messagesGood_answerable _ _ _ _)).trans
    ((callsGood_kept note f _).answerable (callsGood_bitsStay note f _))

theorem useErrored_answerable (note : FrameNote) (p : Part) : Answerable p (useErrored note p) :=
  CallKeeps.answerable (p := messagesErrored p) (playVoices_kept _ _ _ _) (playVoices_bitsStay _ _ _ (messagesErrored p))

end Sys2Proof.Machine

/-! SUMMIT_ANSWER: what a judgement changes of the mode and of ATTENTION, and its form in UP and in TRAINING. -/

namespace Sys2Proof.Machine

/-! ### Changes of line state -/

theorem callLineUp_bitsStay (r : Nat) (v : VoiceNo) (p : Part) : BitsStay p.window (callLineUp r v p).window := by
  unfold callLineUp
  dsimp only
  split
  · exact enterCall_bitsStay v .idle (modCall v _ p)
  · exact .of_eq rfl

theorem supLineChange_answerable (wasUp : Bool) (p : Part) : Answerable p (supLineChange wasUp p) := by
  have capped := (setCaps_undisturbed { p.sup.caps with link := !(p.line.state == .up) } p).answerable
  have began (q : Part) : Answerable q (startGrace q) := ⟨(startGrace_stays q).2, startGrace_bitsStay q⟩
  have ended (q : Part) : Answerable q (gone .linkLost 0 (modSup (fun s => { s with graceTimer := none }) q)) :=
    (Undisturbed.trans (modSup_undisturbed rfl) (gone_undisturbed _ _ _)).answerable
  unfold supLineChange
  dsimp only
  refine Answerable.trans ?_ (refreshSummitStops_answerable _)
  split
  · exact capped.trans (began _)
  · split
    · exact capped.trans (ended _)
    · exact capped

theorem handLine_answerable (wasUp : Bool) (p : Part) : Answerable p (handLine wasUp p) := by
  have called (tr : Option Nat) (v : VoiceNo) (q : Part) : Answerable q (callLineDown tr v q) :=
    (callLineDown_kept tr v q).answerable (callLineDown_bitsStay tr v q)
  have raised (r : Nat) (v : VoiceNo) (q : Part) : Answerable q (callLineUp r v q) :=
    (callLineUp_kept r v q).answerable (callLineUp_bitsStay r v q)
  have silenced (q : Part) : Answerable q (messagesLineDown q) :=
    .of_kept (by simp) (by simp) (messagesLineDown_bitsStay q)
  unfold handLine
  dsimp only
  refine Answerable.trans ?_ (supLineChange_answerable wasUp _)
  split
  · exact ((silenced p).trans (called _ 0 _)).trans (called _ 1 _)
  · split
    · exact (raised _ 0 p).trans (raised _ 1 _)
    · exact .refl p

theorem changeLine_answerable (st : LineState) (r : Nat) (p : Part) : Answerable p (changeLine st r p) := by
  unfold changeLine
  dsimp only
  split
  · exact .refl p
  · have moved : Answerable p (attend .line (modLine (fun l => { l with state := st, rate := r }) p)) :=
      .of_kept rfl rfl (attend_bitsStay .line (modLine _ p))
    exact moved.trans (handLine_answerable _ _)

theorem changeLine_after {f : Line → Line} (st : LineState) (r : Nat) (p : Part) : Answerable p (changeLine st r (modLine f p)) :=
  Answerable.trans (.of_kept rfl rfl (.of_eq rfl)) (changeLine_answerable st r (modLine f p))

theorem answerStart_answerable (r : Result) (d : Nat) (p : Part) : Answerable p (answerStart r d p) := by
  obtain ⟨-, -, -, hsup, -, -, -, hwork⟩ := answerStart_kept r d p
  exact .of_kept hwork hsup (answerHeld_bitsStay p.line.startOrder r d (modLine _ p))

theorem enterDown_answerable (d : Diagnosis) (p : Part) : Answerable p (enterDown d p) :=
  (changeLine_after .down 0 p).trans (answerStart_answerable _ _ _)

theorem enterProbing_answerable (p : Part) : Answerable p (enterProbing p) :=
  (changeLine_after .probing 0 p).trans (.of_kept rfl rfl (.of_eq rfl))

theorem enterTraining_answerable (r : Nat) (p : Part) : Answerable p (enterTraining r p) := changeLine_after .training r p

theorem enterUp_answerable (a b : Nat) (p : Part) : Answerable p (enterUp a b p) :=
  (changeLine_after .up _ p).trans (answerStart_answerable _ _ _)

/-! ### The judgement -/

theorem loseLine_answerable (p : Part) : Answerable p (loseLine p) := by
  have lost : Answerable p (enterDown .lost (modLine (fun l => { l with losses := count16 l.losses }) p)) :=
    Answerable.trans (.of_kept rfl rfl (.of_eq rfl)) (enterDown_answerable .lost (modLine _ p))
  unfold loseLine
  dsimp only
  split
  · exact lost.trans (enterProbing_answerable _)
  · exact lost

theorem qualityFails_answerable (p : Part) : Answerable p (qualityFails p) := by
  have noted (f : Line → Line) (q : Part) : Answerable q (modLine f q) := .of_kept rfl rfl (.of_eq rfl)
  unfold qualityFails
  dsimp only
  split
  · exact (noted _ p).trans (enterTraining_answerable _ _)
  · exact ((noted _ p).trans (noted _ _)).trans (attend_undisturbed _ _).answerable

theorem judgeQuality_answerable (p : Part) : Answerable p (judgeQuality p) := by
  unfold judgeQuality
  split
  · exact loseLine_answerable p
  · split
    · exact qualityFails_answerable p
    · exact .refl p

theorem takeEcho_answerable (n : FrameNote) (f : FrameContent) (o : Int) (p : Part) : Answerable p (takeEcho n f o p) := by
  have noted (g : Line → Line) : Answerable p (modLine g p) := .of_kept rfl rfl (.of_eq rfl)
  unfold takeEcho
  dsimp only
  split
  · exact (noted _).trans (enterUp_answerable _ _ _)
  · exact noted _

theorem judgeTraining_answerable (n : FrameNote) (f : FrameContent) (o : Int) (good : Bool) (p : Part) :
    Answerable p (judgeTraining n f o good p) := by
  unfold judgeTraining
  split
  · exact takeEcho_answerable n f o p
  · exact .of_kept rfl rfl (.of_eq rfl)

/-- The part when the answer to the oldest frame has been taken and counted (R143). -/
def answerCounted (good : Bool) (rest : List FrameNote) (p : Part) : Part :=
  modLine (fun l => { l with
    notes := rest
    goodAnswers := if good then l.goodAnswers + 1 else l.goodAnswers
    erroredAnswers := if good then l.erroredAnswers else l.erroredAnswers + 1 }) p

/-- The part of an answer in UP when the loss run and the quality window have counted it (R152, R153). -/
def answerWeighed (good : Bool) (rest : List FrameNote) (p : Part) : Part :=
  modLine (countAnswer (!good)) (answerCounted good rest p)

/-- The part of an answer in UP when its contents have been used, before loss and quality are judged. -/
def answerUsed (n : FrameNote) (fr : Option SummitFrame) (good : Bool) (p : Part) : Part :=
  if good then useAnswer n (answerRead fr n) p else useErrored n p

section
variable {fr : Option SummitFrame} {n : FrameNote} {rest : List FrameNote} {p : Part} (hnotes : p.line.notes = n :: rest)
include hnotes

theorem answerGood_eq : answerGood fr p = frameGood p.line n (fr.getD { offset := 0, octets := [] }) := by
  rw [answerGood, hnotes]

theorem takeAnswer_up (hstate : p.line.state = .up) : takeAnswer fr p =
    judgeQuality (answerUsed n fr (answerGood fr p) (answerWeighed (answerGood fr p) rest p)) := by
  have hup : (p.line.state == .up) = true := by rw [hstate]; rfl
  rw [takeAnswer, hnotes, answerGood_eq hnotes]
  exact if_pos hup

theorem takeAnswer_training (hstate : p.line.state = .training) : takeAnswer fr p =
    judgeTraining n (answerRead fr n) (fr.getD { offset := 0, octets := [] }).offset (answerGood fr p)
      (answerCounted (answerGood fr p) rest p) := by
  have hup : ¬ (p.line.state == .up) = true := by rw [hstate]; decide
  rw [takeAnswer, hnotes, answerGood_eq hnotes]
  exact if_neg hup

end

theorem answerCounted_answerable (good : Bool) (rest : List FrameNote) (p : Part) : Answerable p (answerCounted good rest p) :=
  .of_kept rfl rfl (.of_eq rfl)

theorem answerUsed_answerable (n : FrameNote) (fr : Option SummitFrame) (good : Bool) (p : Part) :
    Answerable p (answerUsed n fr good p) := by
  unfold answerUsed
  split
  · exact useAnswer_answerable _ _ p
  · exact useErrored_answerable _ p

theorem takeAnswer_answerable {fr : Option SummitFrame} {p : Part} (h : summitDue p = true) : Answerable p (takeAnswer fr p) := by
  rw [summitDue, answerDue] at h
  cases hnotes : p.line.notes with
  | nil => rw [hnotes] at h; simp at h
  | cons n rest =>
    have hstate : p.line.state = .training ∨ p.line.state = .up := by
      simp only [Bool.and_eq_true, Bool.or_eq_true, beq_iff_eq] at h
      exact h.1
    obtain hstate | hstate := hstate
    · rw [takeAnswer_training hnotes hstate]
      exact (answerCounted_answerable _ rest p).trans (judgeTraining_answerable _ _ _ _ _)
    · rw [takeAnswer_up hnotes hstate]
      have weighed : Answerable p (answerWeighed (answerGood fr p) rest p) := .of_kept rfl rfl (.of_eq rfl)
      exact (weighed.trans (answerUsed_answerable n fr _ _)).trans (judgeQuality_answerable _)

/-- SUMMIT_ANSWER, and each command that names what comes about in it. -/
theorem occurs_answer {g : Part → Bool} {fr : Option SummitFrame} {s : State} (hready : Ready s) (hg : g s.part = true)
    (hdue : summitDue s.part = true) :
    ∃ t, occurs g (takeAnswer fr) s = .next t ∧ exec (.summitAnswer fr) s = .next t ∧ LeftBy (takeAnswer fr s.part) t.part ∧
      BitsStay s.part.window t.part.window := by
  obtain ⟨hstops, hbits⟩ := takeAnswer_answerable (fr := fr) hdue
  obtain ⟨hclock, htrack, hsensors, -, -, -, -, harb, hseq, -⟩ := takeAnswer_kept fr s.part
  obtain ⟨t, ht, hleft⟩ := occurs_leaves (f := takeAnswer fr) hready hg hstops harb hseq
  refine ⟨t, ht, ?_, hleft, hbits.trans (.of_eq hleft.attention)⟩
  rw [← ht]
  exact (occurs_acts hready.1 hdue).trans (occurs_acts hready.1 hg).symm

theorem summitDue_of {p : Part} {n : FrameNote} {rest : List FrameNote} (hstate : p.line.state ∈ [LineState.training, .up])
    (hnotes : p.line.notes = n :: rest) (hout : 3 ≤ elapsed p.clock.now n.start) : summitDue p = true := by
  simp only [List.mem_cons, List.not_mem_nil, or_false] at hstate
  simp only [summitDue, answerDue, hnotes, Bool.and_eq_true, Bool.or_eq_true, beq_iff_eq, decide_eq_true_eq]
  exact ⟨hstate, hout⟩

/-! ### The line's own state at each stage -/

theorem refreshSummitStops_line (p : Part) : (refreshSummitStops p).line = p.line := by simp

theorem refreshWindCap_line (p : Part) : (refreshWindCap p).line = p.line := (setCaps_undisturbed _ p).1.2.2.2.2.2.2.2.2.1

theorem takeWord_line (w : Half) (p : Part) : (takeWord w p).line = acceptWord w p.line := by
  unfold takeWord
  dsimp only
  split
  · rfl
  · rw [refreshWindCap_line, refreshSummitStops_line]; rfl

theorem useAnswer_line (note : FrameNote) (f : FrameContent) (p : Part) :
    (useAnswer note f p).line = acceptWord f.word { p.line with farErrored := f.errored } := by
  have hmessages := (messagesGood_sup note.offered f.accept (if f.offer then some (f.octet, readMark f.mark) else none)
    (takeWord f.word (modLine (fun l => { l with farErrored := f.errored }) p))).2.1
  rw [useAnswer_eq, (callsGood_kept note f _).2.2.2.2.2.2.2.2.2.2.1, messagesTaken, hmessages, takeWord_line]
  rfl

theorem useErrored_line (note : FrameNote) (p : Part) : (useErrored note p).line = p.line := by
  simp [useErrored, messagesErrored, modMsg]

theorem loseLine_line (p : Part) : (loseLine p).line = { stopFrames p.line with
    losses := count16 p.line.losses, diagnosis := .lost, startOrder := none, rate := 0
    state := if p.line.config.autoStart then .probing else .down
    probeCount := if p.line.config.autoStart then 0 else p.line.probeCount
    probe := if p.line.config.autoStart then some { start := p.clock.now, forOrder := false } else none
    probeStart := if p.line.config.autoStart then p.clock.now else p.line.probeStart
    sentBurst := if p.line.config.autoStart then wakeBurst else p.line.sentBurst } := by
  have hline := enterDown_line .lost (modLine (fun l => { l with losses := count16 l.losses }) p)
  have hclock := enterDown_clock .lost (modLine (fun l => { l with losses := count16 l.losses }) p)
  have hauto : (enterDown .lost (modLine (fun l => { l with losses := count16 l.losses }) p)).line.config.autoStart =
      p.line.config.autoStart := by rw [hline]; rfl
  unfold loseLine
  dsimp only
  rw [hauto]
  cases p.line.config.autoStart with
  | true => rw [if_pos rfl, enterProbing_line, hclock, hline]; rfl
  | false => rw [if_neg (by decide), hline]; rfl

/-- The line with a quality event counted. -/
def qualityLine (l : Line) : Line := { l with qualityEvents := count16 l.qualityEvents, diagnosis := .quality }

theorem qualityFails_trains {p : Part} (h : 1 < p.line.rate) :
    qualityFails p = enterTraining (p.line.rate - 1) (modLine qualityLine p) := if_pos h

theorem qualityFails_stays {p : Part} (h : p.line.rate ≤ 1) :
    qualityFails p = attend .line (modLine (fun l => { qualityLine l with qualityWindow := [] }) p) :=
  if_neg (show ¬ 1 < p.line.rate by omega)

theorem qualityFails_line (p : Part) : (qualityFails p).line =
    if 1 < p.line.rate then { nextAttempt (stopLine (qualityLine p.line)) with attemptsUsed := 0, state := .training, rate := p.line.rate - 1 }
    else { qualityLine p.line with qualityWindow := [] } := by
  split
  next h => rw [qualityFails_trains h, enterTraining_line]; rfl
  next h => rw [qualityFails_stays (by omega)]; rfl

/-- What the judgement of loss and quality leaves of the line: the counts and what a good answer has handed over (log entry 74). -/
abbrev WordKept (l m : Line) : Prop :=
  (m.notes = l.notes ∨ m.notes = []) ∧ m.config = l.config ∧ m.goodAnswers = l.goodAnswers ∧ m.erroredAnswers = l.erroredAnswers ∧
    m.lossRun = l.lossRun ∧ m.candidate = l.candidate ∧ m.accepted = l.accepted ∧ m.farErrored = l.farErrored

theorem judgeQuality_wordKept (p : Part) : WordKept p.line (judgeQuality p).line := by
  unfold judgeQuality
  split
  · rw [loseLine_line]
    exact ⟨.inr rfl, rfl, rfl, rfl, rfl, rfl, rfl, rfl⟩
  · split
    · rw [qualityFails_line]
      split
      · exact ⟨.inl rfl, rfl, rfl, rfl, rfl, rfl, rfl, rfl⟩
      · exact ⟨.inl rfl, rfl, rfl, rfl, rfl, rfl, rfl, rfl⟩
    · exact ⟨.inl rfl, rfl, rfl, rfl, rfl, rfl, rfl, rfl⟩

theorem judgeQuality_stays {p : Part} (hloss : p.line.lossRun < 50) (hquality : qualityCount p.line ≤ p.line.config.qualityThreshold) :
    judgeQuality p = p := by
  rw [judgeQuality, if_neg (by omega), if_neg (by omega)]

theorem enterUp_line (prio own : Nat) (p : Part) : (enterUp prio own p).line = { stopLine p.line with
    summitPriority := prio, valleyPriority := own, lossRun := 0, qualityWindow := [], candidate := none, upSince := p.clock.now
    state := .up, startOrder := none } := by
  rw [enterUp, (answerStart_kept _ _ _).2.1, changeLine_line]
  rfl

/-- A change of line state leaves the messages, or ends every transfer and assembly (R172). -/
theorem handLine_messages (wasUp : Bool) (p : Part) : (handLine wasUp p).messages =
    if wasUp = true ∧ p.line.state ≠ .up then
      { discardAssembly p.messages with transmitter := .idle, refusals := 0, lastOffer := none, acceptNext := false }
    else p.messages := by
  by_cases hup : p.line.state = .up
  · have hisUp : (p.line.state == .up) = true := by rw [hup]; rfl
    rw [if_neg (fun h => h.2 hup)]
    unfold handLine
    dsimp only
    rw [hisUp]
    cases wasUp <;> simp
  · have hisUp : (p.line.state == .up) = false := by simpa using hup
    unfold handLine
    dsimp only
    rw [hisUp]
    cases wasUp <;> simp [hup, messagesLineDown_messages]

theorem changeLine_messages (st : LineState) (r : Nat) (p : Part) : (changeLine st r p).messages =
    if p.line.state = .up ∧ st ≠ .up then
      { discardAssembly p.messages with transmitter := .idle, refusals := 0, lastOffer := none, acceptNext := false }
    else p.messages := by
  unfold changeLine
  dsimp only
  split
  next h =>
    simp only [Bool.and_eq_true, beq_iff_eq] at h
    rw [if_neg (fun hn => hn.2 (h.1.symm.trans hn.1))]
  next => rw [handLine_messages]; simp [modLine]

/-- ACCEPT stays clear whatever becomes of the line. -/
theorem changeLine_acceptNext (st : LineState) (r : Nat) {p : Part} (h : p.messages.acceptNext = false) :
    (changeLine st r p).messages.acceptNext = false := by
  rw [changeLine_messages]
  split
  · rfl
  · exact h

theorem loseLine_messages (p : Part) : (loseLine p).messages =
    if p.line.state = .up then
      { discardAssembly p.messages with transmitter := .idle, refusals := 0, lastOffer := none, acceptNext := false }
    else p.messages := by
  have down : (enterDown .lost (modLine (fun l => { l with losses := count16 l.losses }) p)).messages =
      if p.line.state = .up then
        { discardAssembly p.messages with transmitter := .idle, refusals := 0, lastOffer := none, acceptNext := false }
      else p.messages := by
    rw [enterDown, (answerStart_kept _ _ _).2.2.2.2.2.1, changeLine_messages]
    simp [modLine, stopFrames, stopLine]
  unfold loseLine
  dsimp only
  split
  · have hstate : (enterDown .lost (modLine (fun l => { l with losses := count16 l.losses }) p)).line.state = .down := by
      rw [enterDown_line]
    rw [← down, enterProbing, (sendProbe_kept _ _).2.2.2.2.1, changeLine_messages, if_neg]
    · rfl
    · intro h
      have : LineState.down = .up := hstate.symm.trans h.1
      cases this
  · exact down

theorem judgeQuality_acceptNext {p : Part} (h : p.messages.acceptNext = false) : (judgeQuality p).messages.acceptNext = false := by
  unfold judgeQuality
  split
  · rw [loseLine_messages]
    split
    · rfl
    · exact h
  · split
    · by_cases hrate : 1 < p.line.rate
      · rw [qualityFails_trains hrate]
        exact changeLine_acceptNext _ _ h
      · rw [qualityFails_stays (by omega)]
        exact h
    · exact h

theorem answerUsed_line (n : FrameNote) (fr : Option SummitFrame) (good : Bool) (p : Part) : (answerUsed n fr good p).line =
    if good then acceptWord (answerRead fr n).word { p.line with farErrored := (answerRead fr n).errored } else p.line := by
  unfold answerUsed
  split
  · exact useAnswer_line _ _ p
  · exact useErrored_line _ p

end Sys2Proof.Machine

/-! SUMMIT_ANSWER: the accepted indications act on the station (R130, R131, R146). -/

namespace Sys2Proof.Machine

/-! ### A report and an end leave the other causes -/

section
variable {k k' : CauseKind} (h : k ≠ k')

theorem repeatCause_names (k' : CauseKind) (n' : Nat) (c : Category) (b : Bool) (k : CauseKind) (n : Nat) (l : List Cause) :
    (repeatCause k' n' c b l).any (fun x => x.names k n) = l.any (fun x => x.names k n) := by
  rw [repeatCause, List.any_map]
  refine List.any_congr rfl fun x => ?_
  dsimp only [Function.comp]
  split <;> rfl

include h

theorem placePresent_other (n n' : Nat) (c : Category) (now : Time) (b : Bool) (l : List PresentCause) :
    (placePresent k' n' c now b l).any (fun x => x.names k n) = l.any (fun x => x.names k n) := by
  unfold placePresent
  split
  · rw [List.any_map]
    refine List.any_congr rfl fun x => ?_
    dsimp only [Function.comp]
    split <;> rfl
  · rw [List.any_append]
    simp [PresentCause.names, Ne.symm h]

theorem enterCause_present_other (n n' : Nat) (c : Category) (b : Bool) (now : Time) (u : Supervisor) :
    ConditionPresent k n (enterCause k' n' c b now u) ↔ ConditionPresent k n u := by
  unfold enterCause
  (repeat' split) <;> simp only [ConditionPresent, placePresent_other h]

theorem report_present_other (n n' : Nat) (c : Category) (b : Bool) (p : Part) :
    ConditionPresent k n (report k' n' c b p).sup ↔ ConditionPresent k n p.sup := by
  obtain ⟨-, hpresent, -⟩ := changeMode_kept_causes (modeAfterCause p.sup.mode c) (causeNoted k' n' c b p)
  rw [report_eq, ConditionPresent, hpresent]
  exact enterCause_present_other h n n' c b p.clock.now p.sup

theorem gone_present_other (n n' : Nat) (p : Part) : ConditionPresent k n (gone k' n' p).sup ↔ ConditionPresent k n p.sup := by
  rw [ConditionPresent, gone_sup_present, List.any_filter, ConditionPresent]
  have hnames (x : PresentCause) : (!x.names k' n' && x.names k n) = x.names k n := by
    by_cases hx : x.kind = k
    · simp [PresentCause.names, hx, h]
    · simp [PresentCause.names, hx]
  simp only [hnames]

end

theorem enterCause_keeps_entered {k : CauseKind} {n : Nat} (k' : CauseKind) (n' : Nat) (c : Category) (b : Bool) (now : Time)
    {u : Supervisor} (h : CauseEntered k n u) : CauseEntered k n (enterCause k' n' c b now u) := by
  unfold enterCause
  split
  · obtain h | h := h
    · exact .inl (by simpa only [repeatCause_names] using h)
    · exact .inr h
  · split
    · obtain h | h := h
      · exact .inl (by simp only [List.any_append, h, Bool.true_or])
      · exact .inr h
    · exact .inr rfl

theorem report_keeps_entered {k : CauseKind} {n : Nat} (k' : CauseKind) (n' : Nat) (c : Category) (b : Bool) {p : Part}
    (h : CauseEntered k n p.sup) : CauseEntered k n (report k' n' c b p).sup := by
  rw [report_eq]
  exact (changeMode_kept_causes _ _).entered (enterCause_keeps_entered k' n' c b p.clock.now h)

theorem gone_keeps_entered {k : CauseKind} {n : Nat} (k' : CauseKind) (n' : Nat) {p : Part} (h : CauseEntered k n p.sup) :
    CauseEntered k n (gone k' n' p).sup := by
  have hcauses : (gone k' n' p).sup.causes = p.sup.causes.map (fun c => if c.names k' n' then { c with present := false } else c) := by
    unfold gone
    dsimp only
    split <;> rfl
  have hover : (gone k' n' p).sup.overflow = p.sup.overflow := by rw [gone_sup]
  rw [CauseEntered, hcauses, hover, List.any_map]
  refine h.imp (fun hlist => ?_) id
  rw [← hlist]
  refine List.any_congr rfl fun x => ?_
  dsimp only [Function.comp]
  split <;> rfl

/-! ### The summit's stops as the Supervisor notes them -/

/-- The notes of the summit's stops are the same. -/
abbrev StopsKept (u v : Supervisor) : Prop := v.stopServiceStands = u.stopServiceStands ∧ v.stopFastStands = u.stopFastStands

theorem enteredSup_stops (m : Mode) (u : Supervisor) : StopsKept u (enteredSup m u) := by
  unfold enteredSup stopModeTimers switchedSup
  dsimp only
  (repeat' split) <;> exact ⟨rfl, rfl⟩

theorem enterMode_stops (m : Mode) (p : Part) : StopsKept p.sup (enterMode m p).sup := by
  by_cases h : p.sup.mode = m
  · rw [enterMode_same h]; exact ⟨rfl, rfl⟩
  · rw [enterMode_sup h]; exact enteredSup_stops m p.sup

theorem changeMode_stops (m : Mode) (p : Part) : StopsKept p.sup (changeMode m p).sup := by
  have entered := enterMode_stops m p
  have ended (n : Mode) := enterMode_stops n (enterMode m p)
  simp only [StopsKept] at entered ended
  simp only [StopsKept, changeMode, standstillEvent]
  (repeat' split) <;> simp [entered, ended]

theorem report_stopsKept (k : CauseKind) (n : Nat) (c : Category) (b : Bool) (p : Part) : StopsKept p.sup (report k n c b p).sup := by
  obtain ⟨hservice, hfast⟩ := changeMode_stops (modeAfterCause p.sup.mode c) (causeNoted k n c b p)
  have noted : StopsKept p.sup (causeNoted k n c b p).sup := by
    simp only [StopsKept, causeNoted, attend_sup, modSup]
    rw [enterCause_kept]
    exact ⟨rfl, rfl⟩
  rw [report_eq]
  exact ⟨hservice.trans noted.1, hfast.trans noted.2⟩

theorem gone_stopsKept (k : CauseKind) (n : Nat) (p : Part) : StopsKept p.sup (gone k n p).sup ∧ (gone k n p).sup.caps = p.sup.caps := by
  rw [gone_sup]
  exact ⟨⟨rfl, rfl⟩, rfl⟩

/-- What the second of the summit's stops leaves of the first one's. -/
theorem refreshFastStop_leaves (fast was : Bool) (p : Part) :
    StopsKept p.sup (refreshFastStop fast was p).sup ∧ (refreshFastStop fast was p).sup.caps = p.sup.caps ∧
      (ConditionPresent .summitStop 0 (refreshFastStop fast was p).sup ↔ ConditionPresent .summitStop 0 p.sup) ∧
      (CauseEntered .summitStop 0 p.sup → CauseEntered .summitStop 0 (refreshFastStop fast was p).sup) ∧
      (p.sup.mode.isRunning = false → (refreshFastStop fast was p).sup.mode.isRunning = false) := by
  unfold refreshFastStop
  split
  · exact ⟨report_stopsKept _ _ _ _ _, report_caps _ _ _ _ _, report_present_other (by decide) _ _ _ _ _,
      report_keeps_entered _ _ _ _, fun _ => report_not_running _ _ _ _ _⟩
  · split
    · obtain ⟨hstops, hcaps⟩ := gone_stopsKept .summitFastStop 0 p
      refine ⟨hstops, hcaps, gone_present_other (by decide) _ _ _, gone_keeps_entered _ _, fun h => ?_⟩
      rw [gone_sup]
      exact h
    · exact ⟨⟨rfl, rfl⟩, rfl, Iff.rfl, id, id⟩

theorem refreshServiceStop_leaves (svc was : Bool) (p : Part) :
    StopsKept p.sup (refreshServiceStop svc was p).sup ∧ (refreshServiceStop svc was p).sup.caps = p.sup.caps := by
  unfold refreshServiceStop
  split
  · exact ⟨report_stopsKept _ _ _ _ _, report_caps _ _ _ _ _⟩
  · split
    · exact gone_stopsKept .summitStop 0 p
    · exact ⟨⟨rfl, rfl⟩, rfl⟩

theorem refreshSummitStops_notes (p : Part) :
    (refreshSummitStops p).sup.stopServiceStands = (p.line.state == .up && summitBit p.line 1) ∧
      (refreshSummitStops p).sup.stopFastStands = (p.line.state == .up && summitBit p.line 2) ∧
      (refreshSummitStops p).sup.caps = p.sup.caps := by
  rw [refreshSummitStops_eq]
  obtain ⟨⟨hservice, hfast⟩, hcaps⟩ := refreshServiceStop_leaves (p.line.state == .up && summitBit p.line 1) p.sup.stopServiceStands (stopsNoted p)
  obtain ⟨⟨gservice, gfast⟩, gcaps, -⟩ := refreshFastStop_leaves (p.line.state == .up && summitBit p.line 2) p.sup.stopFastStands
    (refreshServiceStop (p.line.state == .up && summitBit p.line 1) p.sup.stopServiceStands (stopsNoted p))
  exact ⟨gservice.trans hservice, gfast.trans hfast, gcaps.trans hcaps⟩

/-- STOP_SERVICE ceases (R130). -/
theorem refreshSummitStops_service_ends {p : Part} (hbit : (p.line.state == .up && summitBit p.line 1) = false) (hwas : p.sup.stopServiceStands = true) :
    ¬ ConditionPresent .summitStop 0 (refreshSummitStops p).sup := by
  have first : refreshServiceStop (p.line.state == .up && summitBit p.line 1) p.sup.stopServiceStands (stopsNoted p) =
      gone .summitStop 0 (stopsNoted p) := by rw [hbit, hwas]; rfl
  rw [refreshSummitStops_eq, first]
  obtain ⟨-, -, hpresent, -⟩ := refreshFastStop_leaves (p.line.state == .up && summitBit p.line 2) p.sup.stopFastStands
    (gone .summitStop 0 (stopsNoted p))
  exact fun h => not_present_gone _ _ _ (hpresent.1 h)

/-- STOP_FAST ceases (R130). -/
theorem refreshSummitStops_fast_ends {p : Part} (hbit : (p.line.state == .up && summitBit p.line 2) = false) (hwas : p.sup.stopFastStands = true) :
    ¬ ConditionPresent .summitFastStop 0 (refreshSummitStops p).sup := by
  have second (q : Part) : refreshFastStop (p.line.state == .up && summitBit p.line 2) p.sup.stopFastStands q =
      gone .summitFastStop 0 q := by rw [hbit, hwas]; rfl
  rw [refreshSummitStops_eq, second]
  exact not_present_gone _ _ _

section
variable {p : Part} (hup : p.line.state = .up)
include hup

/-- STOP_SERVICE comes to stand (R130). -/
theorem refreshSummitStops_service (hbit : summitBit p.line 1 = true) (hwas : p.sup.stopServiceStands = false) :
    CauseEntered .summitStop 0 (refreshSummitStops p).sup ∧ ConditionPresent .summitStop 0 (refreshSummitStops p).sup ∧
      (refreshSummitStops p).sup.mode.isRunning = false ∧ (refreshSummitStops p).window.attention.getLsbD 2 = true := by
  have first : refreshServiceStop (p.line.state == .up && summitBit p.line 1) p.sup.stopServiceStands (stopsNoted p) =
      report .summitStop 0 .service true (stopsNoted p) := by rw [hup, hbit, hwas]; rfl
  rw [refreshSummitStops_eq, first]
  obtain ⟨-, -, hpresent, hentered, hmode⟩ := refreshFastStop_leaves (p.line.state == .up && summitBit p.line 2) p.sup.stopFastStands
    (report .summitStop 0 .service true (stopsNoted p))
  exact ⟨hentered (report_entered ..), hpresent.2 (report_present ..), hmode (report_not_running _ _ _ _ _),
    (refreshFastStop_answerable _ _ _).2 2 (report_attention ..)⟩

/-- STOP_FAST comes to stand (R130). -/
theorem refreshSummitStops_fast (hbit : summitBit p.line 2 = true) (hwas : p.sup.stopFastStands = false) :
    CauseEntered .summitFastStop 0 (refreshSummitStops p).sup ∧ FastEntered (refreshSummitStops p).sup ∧
      ConditionPresent .summitFastStop 0 (refreshSummitStops p).sup ∧ (refreshSummitStops p).sup.mode.isRunning = false ∧
      fastStopFor (refreshSummitStops p).sup = true := by
  have second (q : Part) : refreshFastStop (p.line.state == .up && summitBit p.line 2) p.sup.stopFastStands q =
      report .summitFastStop 0 .fast true q := by rw [hup, hbit, hwas]; rfl
  rw [refreshSummitStops_eq, second]
  exact ⟨report_entered .., report_fast .., report_present .., report_not_running _ _ _ _ _, fastStopFor_report _ _ _ _⟩

end

/-! ### The accepted word -/

/-- One bit of a word, taken where it agrees with the word before. -/
theorem agreed_bit : ∀ old before now : Bool, (old && !!(before ^^ now) || now && !(before ^^ now)) = if (before == now) = true then now else old := by
  decide

/-- A word's bits as they are accepted (R146). -/
theorem acceptWord_bit (w : Half) (l : Line) {b : Nat} (hb : b < 16) : (acceptWord w l).accepted.getLsbD b = acceptedAt l w b := by
  unfold acceptWord acceptedAt
  cases l.candidate with
  | none =>
    simp only [Option.any_none, Bool.false_eq_true, if_false, BitVec.ofNat_eq_ofNat, BitVec.getLsbD_or, BitVec.getLsbD_and,
      BitVec.getLsbD_not, BitVec.getLsbD_zero, hb, decide_true, Bool.not_false, Bool.and_true, Bool.and_false, Bool.or_false]
  | some c =>
    simp only [Option.any_some, BitVec.getLsbD_or, BitVec.getLsbD_and, BitVec.getLsbD_not, BitVec.getLsbD_xor, hb, decide_true, Bool.true_and]
    exact agreed_bit _ _ _

theorem takeWord_unchanged {w : Half} {p : Part} (h : (acceptWord w p.line).accepted = p.line.accepted) :
    takeWord w p = modLine (acceptWord w) p :=
  if_pos (by simpa [modLine] using h)

/-- The part when an accepted change of the word has been announced, before the Supervisor takes it. -/
def wordAnnounced (w : Half) (p : Part) : Part := attend .indication (modLine (acceptWord w) p)

theorem takeWord_changed {w : Half} {p : Part} (h : (acceptWord w p.line).accepted ≠ p.line.accepted) :
    takeWord w p = refreshWindCap (refreshSummitStops (wordAnnounced w p)) :=
  if_neg (by simpa [modLine] using h)

theorem takeWord_attention {w : Half} {p : Part} (h : (acceptWord w p.line).accepted ≠ p.line.accepted) :
    (takeWord w p).window.attention.getLsbD 8 = true := by
  have announced : (wordAnnounced w p).window.attention.getLsbD 8 = true := by simp [wordAnnounced, Attn.bit]
  rw [takeWord_changed h]
  exact (setCaps_undisturbed _ _).2.2.2.2 8 ((refreshSummitStops_answerable _).2 8 announced)

theorem acceptWord_unchanged_iff (w : Half) (l : Line) :
    (acceptWord w l).accepted = l.accepted ↔ ∀ b : Fin 16, l.accepted.getLsbD b.val = acceptedAt l w b.val := by
  constructor
  · intro h b
    rw [← acceptWord_bit w l b.isLt, h]
  · intro h
    refine BitVec.eq_of_getLsbD_eq fun i hi => ?_
    rw [acceptWord_bit w l hi]
    exact (h ⟨i, hi⟩).symm

/-! ### An answer in TRAINING (R145, R150) -/

theorem takeEcho_below {n : FrameNote} {f : FrameContent} {o : Int} {p : Part} (h : p.line.echoRun < 15) :
    takeEcho n f o p = modLine (fun l => { l with
      echoRun := l.echoRun + 1, lineDelay := if l.syncKnown then l.lineDelay else o.toNat, syncKnown := true }) p :=
  if_neg (show ¬ 16 ≤ p.line.echoRun + 1 by omega)

theorem takeEcho_sixteenth {n : FrameNote} {f : FrameContent} {o : Int} {p : Part} (h : 15 ≤ p.line.echoRun) :
    takeEcho n f o p = enterUp f.priority.toNat n.priority (modLine (fun l => { l with
      echoRun := l.echoRun + 1, lineDelay := if l.syncKnown then l.lineDelay else o.toNat, syncKnown := true }) p) :=
  if_pos (show 16 ≤ p.line.echoRun + 1 by omega)

theorem judgeTraining_echo {n : FrameNote} {f : FrameContent} {o : Int} {good : Bool} {p : Part}
    (h : good = true ∧ correctEcho p.line n f = true) : judgeTraining n f o good p = takeEcho n f o p :=
  if_pos (by rw [h.1, h.2]; rfl)

theorem judgeTraining_broken {n : FrameNote} {f : FrameContent} {o : Int} {good : Bool} {p : Part}
    (h : ¬ (good = true ∧ correctEcho p.line n f = true)) : judgeTraining n f o good p = modLine (fun l => { l with echoRun := 0 }) p :=
  if_neg (by simpa using h)

/-- An answer in TRAINING uses nothing of the answer but the echo. -/
theorem judgeTraining_leaves (n : FrameNote) (f : FrameContent) (o : Int) (good : Bool) (p : Part) :
    (judgeTraining n f o good p).line.notes = p.line.notes ∧ (judgeTraining n f o good p).line.config = p.line.config ∧
      (judgeTraining n f o good p).line.goodAnswers = p.line.goodAnswers ∧
      (judgeTraining n f o good p).line.erroredAnswers = p.line.erroredAnswers ∧
      (judgeTraining n f o good p).line.accepted = p.line.accepted ∧ (judgeTraining n f o good p).messages = p.messages := by
  by_cases h : good = true ∧ correctEcho p.line n f = true
  · rw [judgeTraining_echo h]
    by_cases hrun : p.line.echoRun < 15
    · rw [takeEcho_below hrun]
      exact ⟨rfl, rfl, rfl, rfl, rfl, by simp [modLine]⟩
    · rw [takeEcho_sixteenth (by omega)]
      refine ⟨by rw [enterUp_line]; rfl, by rw [enterUp_line]; rfl, by rw [enterUp_line]; rfl, by rw [enterUp_line]; rfl,
        by rw [enterUp_line]; rfl, ?_⟩
      rw [enterUp, (answerStart_kept _ _ _).2.2.2.2.2.1, changeLine_messages]
      simp [modLine]
  · rw [judgeTraining_broken h]
    exact ⟨rfl, rfl, rfl, rfl, rfl, by simp [modLine]⟩

end Sys2Proof.Machine

/-! O55: SUMMIT_ANSWER judges an answer, and the accepted indications act on the station. -/

namespace Sys2Proof.Machine

section
variable {fr : Option SummitFrame} {n : FrameNote} {rest : List FrameNote} {s : State} (hready : Ready s)
  (hnotes : s.part.line.notes = n :: rest) (hout : 3 ≤ elapsed s.part.clock.now n.start)
include hnotes

/-- What the line shows after a judged answer, whatever it has come to: the counts of answers (R143). -/
theorem takeAnswer_counts (hstate : s.part.line.state ∈ [LineState.training, .up]) :
    ((takeAnswer fr s.part).line.notes = rest ∨ (takeAnswer fr s.part).line.notes = []) ∧
      (takeAnswer fr s.part).line.config = s.part.line.config ∧
      (takeAnswer fr s.part).line.goodAnswers =
        (if answerGood fr s.part then s.part.line.goodAnswers + 1 else s.part.line.goodAnswers) ∧
      (takeAnswer fr s.part).line.erroredAnswers =
        (if answerGood fr s.part then s.part.line.erroredAnswers else s.part.line.erroredAnswers + 1) := by
  simp only [List.mem_cons, List.not_mem_nil, or_false] at hstate
  obtain hstate | hstate := hstate
  · rw [takeAnswer_training hnotes hstate]
    obtain ⟨h1, h2, h3, h4, -⟩ := judgeTraining_leaves n (answerRead fr n) (fr.getD { offset := 0, octets := [] }).offset
      (answerGood fr s.part) (answerCounted (answerGood fr s.part) rest s.part)
    exact ⟨.inl h1, h2, h3, h4⟩
  · rw [takeAnswer_up hnotes hstate]
    obtain ⟨h1, h2, h3, h4, -⟩ := judgeQuality_wordKept
      (answerUsed n fr (answerGood fr s.part) (answerWeighed (answerGood fr s.part) rest s.part))
    rw [answerUsed_line] at h1 h2 h3 h4
    cases hgood : answerGood fr s.part <;> rw [hgood] at h1 h2 h3 h4 <;> exact ⟨h1, h2, h3, h4⟩

/-- The line after an answer in UP, with the word accepted where the answer is good (R146, R152). -/
theorem takeAnswer_word (hstate : s.part.line.state = .up) :
    (takeAnswer fr s.part).line.lossRun = (if answerGood fr s.part then 0 else s.part.line.lossRun + 1) ∧
      (answerGood fr s.part = true → (takeAnswer fr s.part).line.candidate = some (answerRead fr n).word ∧
        (takeAnswer fr s.part).line.farErrored = (answerRead fr n).errored ∧
        (takeAnswer fr s.part).line.accepted = (acceptWord (answerRead fr n).word s.part.line).accepted) ∧
      (answerGood fr s.part = false → (takeAnswer fr s.part).line.candidate = s.part.line.candidate ∧
        (takeAnswer fr s.part).line.accepted = s.part.line.accepted ∧
        (takeAnswer fr s.part).line.farErrored = s.part.line.farErrored) := by
  rw [takeAnswer_up hnotes hstate]
  obtain ⟨-, -, -, -, hloss, hcandidate, haccepted, hfar⟩ := judgeQuality_wordKept
    (answerUsed n fr (answerGood fr s.part) (answerWeighed (answerGood fr s.part) rest s.part))
  rw [answerUsed_line] at hloss hcandidate haccepted hfar
  cases hgood : answerGood fr s.part <;> rw [hgood] at hloss hcandidate haccepted hfar
  · exact ⟨hloss, (fun h => nomatch h), fun _ => ⟨hcandidate, haccepted, hfar⟩⟩
  · exact ⟨hloss, fun _ => ⟨hcandidate, hfar, haccepted⟩, (fun h => nomatch h)⟩

/-- A good answer that changes the accepted word sets INDICATION (R146). -/
theorem takeAnswer_indication (hstate : s.part.line.state = .up) (hgood : answerGood fr s.part = true)
    (hchanged : (acceptWord (answerRead fr n).word s.part.line).accepted ≠ s.part.line.accepted) :
    (takeAnswer fr s.part).window.attention.getLsbD 8 = true := by
  rw [takeAnswer_up hnotes hstate, hgood]
  have taken : (takeWord (answerRead fr n).word (modLine (fun l => { l with farErrored := (answerRead fr n).errored })
      (answerWeighed true rest s.part))).window.attention.getLsbD 8 = true := takeWord_attention hchanged
  refine (judgeQuality_answerable _).2 8 ?_
  show (useAnswer n (answerRead fr n) _).window.attention.getLsbD 8 = true
  rw [useAnswer_eq]
  exact callsGood_bitsStay _ _ _ 8 (messagesGood_bitsStay _ _ _ _ 8 taken)

include hready hout

/-- The event of an answer that is due. -/
theorem summitAnswer_judges (hstate : s.part.line.state ∈ [LineState.training, .up]) : ∃ t, exec (.summitAnswer fr) s = .next t ∧
    LeftBy (takeAnswer fr s.part) t.part ∧ BitsStay s.part.window t.part.window := by
  have hdue := summitDue_of hstate hnotes hout
  obtain ⟨t, -, ht, hleft⟩ := occurs_answer (g := summitDue) (fr := fr) hready hdue hdue
  exact ⟨t, ht, hleft⟩

theorem summitAnswer_counts (hstate : s.part.line.state ∈ [LineState.training, .up]) : After (.summitAnswer fr) s (fun t =>
    (t.part.line.notes = rest ∨ t.part.line.notes = []) ∧ t.part.track.queue = s.part.track.queue ∧ t.part.clock = s.part.clock ∧
    t.part.sensors = s.part.sensors ∧ t.part.line.config = s.part.line.config ∧
    t.part.line.goodAnswers = (if answerGood fr s.part then s.part.line.goodAnswers + 1 else s.part.line.goodAnswers) ∧
    t.part.line.erroredAnswers = (if answerGood fr s.part then s.part.line.erroredAnswers else s.part.line.erroredAnswers + 1)) := by
  obtain ⟨t, ht, hleft, -⟩ := summitAnswer_judges (fr := fr) hready hnotes hout hstate
  obtain ⟨hnotes', hconfig, hgood, herrored⟩ := takeAnswer_counts (fr := fr) hnotes hstate
  obtain ⟨hclock, ⟨hqueue, -⟩, hsensors, -⟩ := takeAnswer_kept fr s.part
  exact ⟨t, ht, by rw [hleft.line]; exact hnotes', by rw [hleft.track, hqueue], by rw [hleft.clock, hclock],
    by rw [hleft.sensors, hsensors], by rw [hleft.line, hconfig], by rw [hleft.line, hgood], by rw [hleft.line, herrored]⟩

theorem summitAnswer_up (hstate : s.part.line.state = .up) : After (.summitAnswer fr) s (fun t =>
    t.part.line.lossRun = (if answerGood fr s.part then 0 else s.part.line.lossRun + 1) ∧
    (answerGood fr s.part = true → t.part.line.candidate = some (answerRead fr n).word ∧
      t.part.line.farErrored = (answerRead fr n).errored ∧
      t.part.line.accepted = (acceptWord (answerRead fr n).word s.part.line).accepted ∧
      (t.part.line.accepted ≠ s.part.line.accepted → t.part.window.attention.getLsbD 8 = true)) ∧
    (answerGood fr s.part = false → t.part.line.candidate = s.part.line.candidate ∧ t.part.line.accepted = s.part.line.accepted ∧
      t.part.line.farErrored = s.part.line.farErrored ∧ t.part.messages.acceptNext = false)) := by
  obtain ⟨t, ht, hleft, -⟩ := summitAnswer_judges (fr := fr) hready hnotes hout (by rw [hstate]; decide)
  obtain ⟨hloss, hused, herrored⟩ := takeAnswer_word (fr := fr) hnotes hstate
  refine ⟨t, ht, by rw [hleft.line, hloss], fun hgood => ?_, fun hbad => ?_⟩
  · obtain ⟨hcandidate, hfar, haccepted⟩ := hused hgood
    refine ⟨by rw [hleft.line, hcandidate], by rw [hleft.line, hfar], by rw [hleft.line, haccepted], fun hchanged => ?_⟩
    rw [hleft.line, haccepted] at hchanged
    rw [hleft.attention]
    exact takeAnswer_indication hnotes hstate hgood hchanged
  · obtain ⟨hcandidate, haccepted, hfar⟩ := herrored hbad
    refine ⟨by rw [hleft.line, hcandidate], by rw [hleft.line, haccepted], by rw [hleft.line, hfar], ?_⟩
    rw [hleft.messages, takeAnswer_up hnotes hstate, hbad]
    refine judgeQuality_acceptNext ?_
    show (useErrored n _).messages.acceptNext = false
    simp [useErrored, messagesErrored, modMsg]

theorem summitAnswer_training (hstate : s.part.line.state = .training) : After (.summitAnswer fr) s (fun t =>
    t.part.line.accepted = s.part.line.accepted ∧ t.part.messages = s.part.messages ∧ t.part.track = s.part.track ∧
    (answerGood fr s.part = true → correctEcho s.part.line n (answerRead fr n) = true → s.part.line.echoRun < 15 →
      Frame [.line] s t ∧ t.part.line.echoRun = s.part.line.echoRun + 1 ∧ t.part.line.state = .training ∧ t.part.line.syncKnown = true) ∧
    (¬ (answerGood fr s.part = true ∧ correctEcho s.part.line n (answerRead fr n) = true) → Frame [.line] s t ∧
      t.part.line.echoRun = 0 ∧ t.part.line.state = .training)) := by
  have hdue := summitDue_of (by rw [hstate]; decide) hnotes hout
  have hbody := takeAnswer_training (fr := fr) hnotes hstate
  obtain ⟨t, ht, hleft, -⟩ := summitAnswer_judges (fr := fr) hready hnotes hout (by rw [hstate]; decide)
  obtain ⟨-, -, -, -, haccepted, hmessages⟩ := judgeTraining_leaves n (answerRead fr n) (fr.getD { offset := 0, octets := [] }).offset
    (answerGood fr s.part) (answerCounted (answerGood fr s.part) rest s.part)
  have htrack := (judgeTraining_kept n (answerRead fr n) (fr.getD { offset := 0, octets := [] }).offset
    (answerGood fr s.part) (answerCounted (answerGood fr s.part) rest s.part)).2.2.1
  rw [← hbody] at haccepted hmessages htrack
  have framed {l : Line} (h : takeAnswer fr s.part = { s.part with line := l }) : Frame [.line] s t ∧ t.part.line = l := by
    obtain ⟨u, hu, hframe, hline⟩ := occurs_modLine (g := summitDue) hready hdue h
    have : t = u := by
      have := ht.symm.trans hu
      injection this
    rw [this]
    exact ⟨hframe, hline⟩
  refine ⟨t, ht, by rw [hleft.line, haccepted]; rfl, by rw [hleft.messages, hmessages]; rfl, by rw [hleft.track, htrack]; rfl,
    fun hgood hecho hrun => ?_, fun hbroken => ?_⟩
  · have hechoed : takeAnswer fr s.part = takeEcho n (answerRead fr n) (fr.getD { offset := 0, octets := [] }).offset
        (answerCounted (answerGood fr s.part) rest s.part) := by
      rw [hbody]
      exact judgeTraining_echo ⟨hgood, hecho⟩
    obtain ⟨hframe, hline⟩ := framed (hechoed.trans (takeEcho_below (p := answerCounted (answerGood fr s.part) rest s.part) hrun))
    exact ⟨hframe, by rw [hline]; rfl, by rw [hline]; exact hstate, by rw [hline]⟩
  · obtain ⟨hframe, hline⟩ := framed (hbody.trans (judgeTraining_broken (p := answerCounted (answerGood fr s.part) rest s.part) hbroken))
    exact ⟨hframe, by rw [hline], by rw [hline]; exact hstate⟩

end

/-! ### A good answer that leaves the line UP -/

section
variable {fr : Option SummitFrame} {n : FrameNote} {rest : List FrameNote} {s : State}

/-- The part whose word is taken at a good answer. -/
def wordPart (fr : Option SummitFrame) (n : FrameNote) (rest : List FrameNote) (p : Part) : Part :=
  modLine (fun l => { l with farErrored := (answerRead fr n).errored }) (answerWeighed true rest p)

/-- The part whose messages are taken at a good answer. -/
def wordTaken (fr : Option SummitFrame) (n : FrameNote) (rest : List FrameNote) (p : Part) : Part :=
  takeWord (answerRead fr n).word (wordPart fr n rest p)

theorem takeAnswer_goodInUp (h : GoodInUp fr n rest s) : takeAnswer fr s.part =
    callsGood n (answerRead fr n) (messagesTaken n (answerRead fr n) (wordTaken fr n rest s.part)) := by
  obtain ⟨⟨-, hstate, hnotes, -⟩, hgood, hquality⟩ := h
  have used : answerUsed n fr true (answerWeighed true rest s.part) =
      callsGood n (answerRead fr n) (messagesTaken n (answerRead fr n) (wordTaken fr n rest s.part)) := useAnswer_eq _ _ _
  have hline := answerUsed_line n fr true (answerWeighed true rest s.part)
  rw [takeAnswer_up hnotes hstate, hgood, ← used]
  refine judgeQuality_stays ?_ ?_
  · rw [hline]
    exact (by decide : (0 : Nat) < 50)
  · rw [hline]
    exact hquality

theorem messagesTaken_leaves (n : FrameNote) (f : FrameContent) (p : Part) :
    (messagesTaken n f p).sup = p.sup ∧ (messagesTaken n f p).line = p.line ∧ (messagesTaken n f p).calls = p.calls ∧
      (messagesTaken n f p).work = p.work ∧ (messagesTaken n f p).doors = p.doors ∧ (messagesTaken n f p).clock = p.clock :=
  messagesGood_sup _ _ _ p

/-- Of a good answer in UP the word alone acts on the line and the Supervisor. -/
theorem takeAnswer_wordTaken (h : GoodInUp fr n rest s) :
    (takeAnswer fr s.part).line = (wordTaken fr n rest s.part).line ∧ (takeAnswer fr s.part).sup = (wordTaken fr n rest s.part).sup ∧
      BitsStay (wordTaken fr n rest s.part).window (takeAnswer fr s.part).window := by
  rw [takeAnswer_goodInUp h]
  obtain ⟨-, -, -, -, -, -, -, -, -, hsup, hline, -⟩ := callsGood_kept n (answerRead fr n) (messagesTaken n (answerRead fr n) (wordTaken fr n rest s.part))
  obtain ⟨gsup, gline, -⟩ := messagesTaken_leaves n (answerRead fr n) (wordTaken fr n rest s.part)
  exact ⟨hline.trans gline, hsup.trans gsup, fun b hb => callsGood_bitsStay _ _ _ b (messagesGood_bitsStay _ _ _ _ b hb)⟩

theorem goodInUp_judges (h : GoodInUp fr n rest s) : ∃ t, exec (.summitAnswer fr) s = .next t ∧
    LeftBy (takeAnswer fr s.part) t.part ∧ BitsStay s.part.window t.part.window := by
  obtain ⟨⟨hready, hstate, hnotes, hout⟩, -⟩ := h
  exact summitAnswer_judges hready hnotes hout (by rw [hstate]; decide)

/-- The accepted word after a good answer in UP, bit by bit (R146). -/
theorem wordTaken_line (fr : Option SummitFrame) (n : FrameNote) (rest : List FrameNote) (p : Part) :
    (wordTaken fr n rest p).line = acceptWord (answerRead fr n).word (wordPart fr n rest p).line := takeWord_line _ _

end

/-! ### The indications accepted in one word (R130, R131) -/

theorem refreshWindCap_sup (p : Part) : (refreshWindCap p).sup = { p.sup with
    caps := { p.sup.caps with wind := p.sensors.windHigh || summitBit p.line 3 }, ceiling := (refreshWindCap p).sup.ceiling } := by
  rw [refreshWindCap, setCaps_sup]
  split
  next h => rw [h]
  next => rfl

section
variable {w : Half} {p : Part}

theorem takeWord_sup (hchanged : ∃ b : Fin 16, p.line.accepted.getLsbD b.val ≠ acceptedAt p.line w b.val) :
    (takeWord w p).sup = { (refreshSummitStops (wordAnnounced w p)).sup with
      caps := { p.sup.caps with wind := p.sensors.windHigh || acceptedAt p.line w 3 }, ceiling := (takeWord w p).sup.ceiling } := by
  have hword : takeWord w p = refreshWindCap (refreshSummitStops (wordAnnounced w p)) := takeWord_changed fun heq => by
    obtain ⟨b, hb⟩ := hchanged
    exact hb ((acceptWord_unchanged_iff w p.line).1 heq b)
  have hcaps := (refreshSummitStops_notes (wordAnnounced w p)).2.2
  have hsensors : (refreshSummitStops (wordAnnounced w p)).sensors = p.sensors := by simp [wordAnnounced, modLine]
  have hbit : summitBit (refreshSummitStops (wordAnnounced w p)).line 3 = acceptedAt p.line w 3 := by
    rw [refreshSummitStops_line]
    exact acceptWord_bit w p.line (by decide)
  have hsup := refreshWindCap_sup (refreshSummitStops (wordAnnounced w p))
  rw [hcaps, hsensors, hbit] at hsup
  rw [hword]
  exact hsup

variable (hup : p.line.state = .up)
include hup

/-- The indications of a word that changes what is accepted, as the Supervisor takes them. -/
theorem takeWord_indications (hchanged : ∃ b : Fin 16, p.line.accepted.getLsbD b.val ≠ acceptedAt p.line w b.val) :
    (acceptedAt p.line w 1 = true → p.sup.stopServiceStands = false → CauseEntered .summitStop 0 (takeWord w p).sup ∧
      ConditionPresent .summitStop 0 (takeWord w p).sup ∧ (takeWord w p).sup.mode.isRunning = false ∧
      (takeWord w p).window.attention.getLsbD 2 = true) ∧
    (acceptedAt p.line w 1 = false → p.sup.stopServiceStands = true → ¬ ConditionPresent .summitStop 0 (takeWord w p).sup) ∧
    (acceptedAt p.line w 2 = true → p.sup.stopFastStands = false → CauseEntered .summitFastStop 0 (takeWord w p).sup ∧
      FastEntered (takeWord w p).sup ∧ ConditionPresent .summitFastStop 0 (takeWord w p).sup ∧
      (takeWord w p).sup.mode.isRunning = false ∧ fastStopFor (takeWord w p).sup = true) ∧
    (acceptedAt p.line w 2 = false → p.sup.stopFastStands = true → ¬ ConditionPresent .summitFastStop 0 (takeWord w p).sup) ∧
    (takeWord w p).sup.stopServiceStands = acceptedAt p.line w 1 ∧ (takeWord w p).sup.stopFastStands = acceptedAt p.line w 2 := by
  have hline : (wordAnnounced w p).line.state = .up := hup
  have hbit (b : Nat) (hb : b < 16) : summitBit (wordAnnounced w p).line b = acceptedAt p.line w b := acceptWord_bit w p.line hb
  have service := refreshSummitStops_service (p := wordAnnounced w p) hline
  have shown (b : Nat) (hb : b < 16) : ((wordAnnounced w p).line.state == .up && summitBit (wordAnnounced w p).line b) = acceptedAt p.line w b := by
    rw [hline, hbit b hb]; rfl
  have serviceEnds := refreshSummitStops_service_ends (p := wordAnnounced w p)
  have fast := refreshSummitStops_fast (p := wordAnnounced w p) hline
  have fastEnds := refreshSummitStops_fast_ends (p := wordAnnounced w p)
  obtain ⟨hservice, hfast, -⟩ := refreshSummitStops_notes (wordAnnounced w p)
  rw [shown 1 (by decide)] at hservice serviceEnds
  rw [shown 2 (by decide)] at hfast fastEnds
  rw [hbit 1 (by decide)] at service
  rw [hbit 2 (by decide)] at fast
  have hwindow : BitsStay (refreshSummitStops (wordAnnounced w p)).window (takeWord w p).window := by
    rw [takeWord_changed (w := w) (p := p) fun heq => by
      obtain ⟨b, hb⟩ := hchanged
      exact hb ((acceptWord_unchanged_iff w p.line).1 heq b)]
    exact (setCaps_undisturbed _ _).2.2.2.2
  rw [takeWord_sup hchanged]
  generalize refreshSummitStops (wordAnnounced w p) = r at service serviceEnds fast fastEnds hservice hfast hwindow ⊢
  exact ⟨fun hb hwas => ⟨(service hb hwas).1, (service hb hwas).2.1, (service hb hwas).2.2.1, hwindow 2 (service hb hwas).2.2.2⟩, serviceEnds,
    fast, fastEnds, hservice, hfast⟩

end

section
variable {fr : Option SummitFrame} {n : FrameNote} {rest : List FrameNote} {s : State}

theorem wordPart_sup (fr : Option SummitFrame) (n : FrameNote) (rest : List FrameNote) (p : Part) : (wordPart fr n rest p).sup = p.sup := rfl

theorem wordPart_sensors (fr : Option SummitFrame) (n : FrameNote) (rest : List FrameNote) (p : Part) :
    (wordPart fr n rest p).sensors = p.sensors := rfl

theorem wordPart_accepted (fr : Option SummitFrame) (n : FrameNote) (rest : List FrameNote) (p : Part) :
    (wordPart fr n rest p).line.accepted = p.line.accepted := rfl

theorem wordPart_acceptedAt (fr : Option SummitFrame) (n : FrameNote) (rest : List FrameNote) (p : Part) (w : Half) (b : Nat) :
    acceptedAt (wordPart fr n rest p).line w b = acceptedAt p.line w b := rfl

theorem wordTaken_eq (fr : Option SummitFrame) (n : FrameNote) (rest : List FrameNote) (p : Part) :
    wordTaken fr n rest p = takeWord (answerRead fr n).word (wordPart fr n rest p) := rfl

theorem summitAnswer_indications (h : GoodInUp fr n rest s) :
    let old := fun b : Nat => s.part.line.accepted.getLsbD b
    let new := fun b : Nat => acceptedAt s.part.line (answerRead fr n).word b
    After (.summitAnswer fr) s (fun t =>
      t.part.line.state = .up ∧ (∀ b : Fin 16, t.part.line.accepted.getLsbD b.val = new b.val) ∧
      (old 1 = false → new 1 = true → s.part.sup.stopServiceStands = false → CauseEntered .summitStop 0 t.part.sup ∧
        ConditionPresent .summitStop 0 t.part.sup ∧ t.part.sup.stopServiceStands = true ∧ t.part.sup.mode.isRunning = false ∧
        t.part.window.attention.getLsbD 2 = true) ∧
      (old 1 = true → new 1 = false → s.part.sup.stopServiceStands = true →
        ¬ ConditionPresent .summitStop 0 t.part.sup ∧ t.part.sup.stopServiceStands = false) ∧
      (old 2 = false → new 2 = true → s.part.sup.stopFastStands = false → CauseEntered .summitFastStop 0 t.part.sup ∧
        FastEntered t.part.sup ∧ ConditionPresent .summitFastStop 0 t.part.sup ∧ t.part.sup.stopFastStands = true ∧
        t.part.sup.mode.isRunning = false ∧ t.part.sup.fastStop = true) ∧
      (old 2 = true → new 2 = false → s.part.sup.stopFastStands = true →
        ¬ ConditionPresent .summitFastStop 0 t.part.sup ∧ t.part.sup.stopFastStands = false) ∧
      ((∃ b : Fin 16, old b.val ≠ new b.val) →
        t.part.sup.caps = { s.part.sup.caps with wind := s.part.sensors.windHigh || new 3 }) ∧
      ((∀ b : Fin 16, old b.val = new b.val) → t.part.sup.caps = s.part.sup.caps)) := by
  intro old new
  obtain ⟨t, ht, hleft, -⟩ := goodInUp_judges h
  obtain ⟨hline, hsup, hbits⟩ := takeAnswer_wordTaken h
  have hpart := hleft.sup
  have hattention := hleft.attention
  have htline := hleft.line
  rw [hsup] at hpart
  rw [hline, wordTaken_line] at htline
  have hup : (wordPart fr n rest s.part).line.state = .up := h.1.2.1
  have taken := takeWord_indications (w := (answerRead fr n).word) hup
  have hcaps := takeWord_sup (w := (answerRead fr n).word) (p := wordPart fr n rest s.part)
  have hunchanged := (acceptWord_unchanged_iff (answerRead fr n).word (wordPart fr n rest s.part).line).2
  simp only [wordPart_accepted, wordPart_acceptedAt, wordPart_sup, wordPart_sensors, ← wordTaken_eq] at taken hcaps hunchanged
  have hstill : (∀ b : Fin 16, old b.val = new b.val) → (wordTaken fr n rest s.part).sup = s.part.sup := fun hsame => by
    rw [wordTaken, takeWord_unchanged ((hunchanged hsame).trans (wordPart_accepted fr n rest s.part).symm)]
    exact wordPart_sup fr n rest s.part
  have differs {b : Nat} (hb : b < 16) {x y : Bool} (hold : old b = x) (hnew : new b = y) (hne : x ≠ y) :
      ∃ b : Fin 16, old b.val ≠ new b.val := ⟨⟨b, hb⟩, by rw [hold, hnew]; exact hne⟩
  have hbit2 : (wordTaken fr n rest s.part).window.attention.getLsbD 2 = true → t.part.window.attention.getLsbD 2 = true := fun hb => by
    rw [hattention]; exact hbits 2 hb
  refine ⟨t, ht, by rw [htline]; exact hup, fun b => ?_, fun hold hnew hwas => ?_, fun hold hnew hwas => ?_, fun hold hnew hwas => ?_,
    fun hold hnew hwas => ?_, fun hex => ?_, fun hsame => ?_⟩
  · rw [htline]
    exact acceptWord_bit _ _ b.isLt
  · obtain ⟨hservice, -, -, -, hstands, -⟩ := taken (differs (by decide) hold hnew (by decide))
    obtain ⟨hentered, hpresent, hmode, hset⟩ := hservice hnew hwas
    rw [hpart]
    exact ⟨hentered, hpresent, hstands.trans hnew, hmode, hbit2 hset⟩
  · obtain ⟨-, hends, -, -, hstands, -⟩ := taken (differs (by decide) hold hnew (by decide))
    rw [hpart]
    exact ⟨hends hnew hwas, hstands.trans hnew⟩
  · obtain ⟨-, -, hfast, -, -, hstands⟩ := taken (differs (by decide) hold hnew (by decide))
    obtain ⟨hentered, hheld, hpresent, hmode, hstop⟩ := hfast hnew hwas
    rw [hpart]
    exact ⟨hentered, hheld, hpresent, hstands.trans hnew, hmode, hstop⟩
  · obtain ⟨-, -, -, hends, -, hstands⟩ := taken (differs (by decide) hold hnew (by decide))
    rw [hpart]
    exact ⟨hends hnew hwas, hstands.trans hnew⟩
  · rw [hpart]
    show (wordTaken fr n rest s.part).sup.caps = _
    rw [hcaps hex]
  · rw [hpart, hstill hsame]

end

/-- Settles O55: an answer is counted, used by the state of the line, and its indications are taken as they come to stand and cease. -/
theorem summitAnswerIsJudged : Obligations.SummitAnswerIsJudged := by
  unfold Obligations.SummitAnswerIsJudged
  refine ⟨fun fr n rest s hready hnotes hout => ?_, fun fr n rest s h => summitAnswer_indications h⟩
  intro good f
  refine ⟨summitAnswer_counts hready hnotes hout, fun hstate => ?_, summitAnswer_training hready hnotes hout⟩
  obtain ⟨t, ht, hloss, hused, herrored⟩ := summitAnswer_up (fr := fr) hready hnotes hout hstate
  refine ⟨t, ht, hloss, fun hgood => ?_, herrored⟩
  obtain ⟨hcandidate, hfar, haccepted, hset⟩ := hused hgood
  refine ⟨hcandidate, hfar, fun b => ?_, hset⟩
  rw [haccepted, acceptWord_bit _ _ b.isLt]
  unfold acceptedAt
  cases s.part.line.candidate with
  | none => rfl
  | some c => simp [f]

end Sys2Proof.Machine

/-! O56: TRAINING_SUCCESS, LINE_LOSS and QUALITY_EVENT, and when they come about (R151 to R155, R172, R176, R182). -/

namespace Sys2Proof.Machine

/-! ### What the Supervisor's work leaves of the link and of the calls -/

/-- The link grace is not running, and stays so. -/
theorem enteredSup_grace {m : Mode} {u : Supervisor} (h : u.graceTimer = none) : (enteredSup m u).graceTimer = none := by
  unfold enteredSup stopModeTimers switchedSup
  dsimp only
  (repeat' split) <;> simp [h]

theorem enterMode_grace {m : Mode} {p : Part} (h : p.sup.graceTimer = none) : (enterMode m p).sup.graceTimer = none := by
  by_cases hm : p.sup.mode = m
  · rw [enterMode_same hm]; exact h
  · rw [enterMode_sup hm]; exact enteredSup_grace h

theorem report_grace {k : CauseKind} {n : Nat} {c : Category} {b : Bool} {p : Part} (h : p.sup.graceTimer = none) :
    (report k n c b p).sup.graceTimer = none := by
  have noted : (causeNoted k n c b p).sup.graceTimer = none := by
    simp only [causeNoted, attend_sup, modSup]
    rw [enterCause_kept]
    exact h
  rw [report_eq]
  unfold changeMode standstillEvent
  dsimp only
  (repeat' split)
  · exact enterMode_grace (enterMode_grace noted)
  · exact enterMode_grace (enterMode_grace noted)
  · exact enterMode_grace noted
  · exact enterMode_grace noted

theorem refreshSummitStops_grace {p : Part} (h : p.sup.graceTimer = none) : (refreshSummitStops p).sup.graceTimer = none := by
  have ended (k : CauseKind) {q : Part} (hq : q.sup.graceTimer = none) : (gone k 0 q).sup.graceTimer = none := by rw [gone_sup]; exact hq
  have first : (refreshServiceStop (p.line.state == .up && summitBit p.line 1) p.sup.stopServiceStands (stopsNoted p)).sup.graceTimer =
      none := by
    unfold refreshServiceStop
    (repeat' split)
    · exact report_grace h
    · exact ended _ h
    · exact h
  rw [refreshSummitStops_eq]
  unfold refreshFastStop
  (repeat' split)
  · exact report_grace first
  · exact ended _ first
  · exact first

/-- An alert call request lapses while V0 may not be seized. -/
theorem alertRequest_lapses {p : Part} (h : (callSlot p 0).freeRun ≠ 2) : (alertRequest p).calls.slots = p.calls.slots := by
  unfold alertRequest
  dsimp only
  rw [if_neg (by simp [seizeAllowed, h])]

theorem enterMode_lapses {m : Mode} {p : Part} (h : (callSlot p 0).freeRun ≠ 2) : (enterMode m p).calls.slots = p.calls.slots := by
  by_cases hm : p.sup.mode = m
  · rw [enterMode_same hm]
  · have switched : (modeSwitched m p).calls = p.calls := (modeSwitched_kept m p).2
    have composed : (callLaunch (composeCeiling (modeSwitched m p))).calls = p.calls :=
      (composeCeiling_kept (modeSwitched m p)).2.1.trans switched
    have entered : (noteStopEntry p.sup.mode (callLaunch (composeCeiling (modeSwitched m p)))).calls = p.calls := by
      unfold noteStopEntry
      split
      · exact composed
      · exact composed
    rw [enterMode_eq hm]
    show (alertOnFastStop (noteStopEntry p.sup.mode (callLaunch (composeCeiling (modeSwitched m p))))).calls.slots = p.calls.slots
    unfold alertOnFastStop
    split
    · rw [alertRequest_lapses (by rw [callSlot, entered]; exact h), entered]
    · rw [entered]

theorem report_lapses {k : CauseKind} {n : Nat} {c : Category} {b : Bool} {p : Part} (h : (callSlot p 0).freeRun ≠ 2) :
    (report k n c b p).calls.slots = p.calls.slots := by
  have noted : (causeNoted k n c b p).calls = p.calls := (causeNoted_undisturbed k n c b p).2.1
  have hnoted : (callSlot (causeNoted k n c b p) 0).freeRun ≠ 2 := by rw [callSlot, noted]; exact h
  have once (m : Mode) : (enterMode m (causeNoted k n c b p)).calls.slots = p.calls.slots := by rw [enterMode_lapses hnoted, noted]
  have twice (m m' : Mode) : (enterMode m' (enterMode m (causeNoted k n c b p))).calls.slots = p.calls.slots := by
    rw [enterMode_lapses (by rw [callSlot, once m]; exact h), once m]
  rw [report_eq]
  unfold changeMode standstillEvent
  dsimp only
  (repeat' split)
  · exact twice _ _
  · exact twice _ _
  · exact once _
  · exact once _

theorem refreshSummitStops_lapses {p : Part} (h : (callSlot p 0).freeRun ≠ 2) : (refreshSummitStops p).calls.slots = p.calls.slots := by
  have first : (refreshServiceStop (p.line.state == .up && summitBit p.line 1) p.sup.stopServiceStands (stopsNoted p)).calls.slots =
      p.calls.slots := by
    unfold refreshServiceStop
    (repeat' split)
    · exact report_lapses h
    · simp [stopsNoted, modSup]
    · rfl
  rw [refreshSummitStops_eq]
  unfold refreshFastStop
  (repeat' split)
  · rw [report_lapses (by rw [callSlot, first]; exact h), first]
  · rw [(gone_kept _ _ _).2.1, first]
  · exact first

/-! ### The Supervisor at an entry into UP and at a departure (R130, R131, R134) -/

/-- What the Supervisor does first at an entry into UP: the LINK cap goes, the grace stops and LINK_LOST is gone. -/
def linkRestored (p : Part) : Part :=
  gone .linkLost 0 (modSup (fun s => { s with graceTimer := none }) (setLinkCap false p))

theorem supLineChange_arrives {p : Part} (h : p.line.state = .up) :
    supLineChange false p = refreshSummitStops (linkRestored p) := by
  have hup : (p.line.state == .up) = true := by rw [h]; rfl
  simp only [supLineChange, hup, linkRestored]
  rfl

theorem linkRestored_sup (p : Part) : (linkRestored p).sup.caps.link = false ∧ (linkRestored p).sup.graceTimer = none := by
  rw [linkRestored, gone_sup]
  refine ⟨?_, rfl⟩
  show (setLinkCap false p).sup.caps.link = false
  rw [setLinkCap, setCaps_caps]

theorem supLineChange_arrived {p : Part} (h : p.line.state = .up) :
    (supLineChange false p).sup.caps.link = false ∧ (supLineChange false p).sup.graceTimer = none ∧
      ((callSlot p 0).freeRun ≠ 2 → (supLineChange false p).calls.slots = p.calls.slots) := by
  obtain ⟨hlink, hgrace⟩ := linkRestored_sup p
  have hcalls : (linkRestored p).calls = p.calls := by simp [linkRestored, setLinkCap, modSup]
  rw [supLineChange_arrives h]
  refine ⟨by rw [(refreshSummitStops_notes _).2.2]; exact hlink, refreshSummitStops_grace hgrace, fun hfree => ?_⟩
  rw [refreshSummitStops_lapses (by rw [callSlot, hcalls]; exact hfree), hcalls]

theorem startGrace_leaves (p : Part) : (startGrace p).sup.caps = p.sup.caps ∧ StopsKept p.sup (startGrace p).sup ∧
    (startGrace p).line = p.line := by
  have hline : (startGrace p).line = p.line := by simp
  refine ⟨?_, ?_, hline⟩
  · unfold startGrace
    dsimp only
    (repeat' split)
    · exact report_caps _ _ _ _ _
    · rfl
    · rfl
  · unfold startGrace
    dsimp only
    (repeat' split)
    · exact report_stopsKept _ _ _ _ _
    · exact ⟨rfl, rfl⟩
    · exact ⟨rfl, rfl⟩

/-- The summit's stops of a line that is not UP. -/
abbrev StopsGone (p q : Part) : Prop :=
  q.sup.caps.link = true ∧ q.sup.stopServiceStands = false ∧ q.sup.stopFastStands = false ∧
    (p.sup.stopServiceStands = true → ¬ ConditionPresent .summitStop 0 q.sup) ∧
    (p.sup.stopFastStands = true → ¬ ConditionPresent .summitFastStop 0 q.sup)

/-- The Supervisor handed any state but UP: the LINK cap stands and the summit's stops are gone. -/
theorem supLineChange_departed {wasUp : Bool} {p : Part} (h : p.line.state ≠ .up) : StopsGone p (supLineChange wasUp p) := by
  have hup : (p.line.state == .up) = false := by simpa using h
  have capped : (setLinkCap true p).sup.caps.link = true := by rw [setLinkCap, setCaps_caps]
  have hstops : StopsKept p.sup (setLinkCap true p).sup := by
    rw [setLinkCap, setCaps_sup]
    split <;> exact ⟨rfl, rfl⟩
  have hline : (setLinkCap true p).line = p.line := (setCaps_undisturbed _ p).1.2.2.2.2.2.2.2.2.1
  have refreshed (q : Part) (hcap : q.sup.caps.link = true) (hkept : StopsKept p.sup q.sup) (hq : q.line = p.line) :
      StopsGone p (refreshSummitStops q) := by
    have hdown (b : Nat) : (q.line.state == .up && summitBit q.line b) = false := by rw [hq, hup]; rfl
    obtain ⟨hservice, hfast, hcaps⟩ := refreshSummitStops_notes q
    exact ⟨by rw [hcaps]; exact hcap, hservice.trans (hdown 1), hfast.trans (hdown 2),
      fun hwas => refreshSummitStops_service_ends (hdown 1) (hkept.1.trans hwas),
      fun hwas => refreshSummitStops_fast_ends (hdown 2) (hkept.2.trans hwas)⟩
  obtain ⟨hgcaps, hgstops, hgline⟩ := startGrace_leaves (setLinkCap true p)
  simp only [supLineChange, hup, Bool.not_false, Bool.and_true, Bool.false_and, Bool.false_eq_true, if_false]
  split
  · exact refreshed _ (by rw [hgcaps]; exact capped) ⟨hgstops.1.trans hstops.1, hgstops.2.trans hstops.2⟩ (hgline.trans hline)
  · exact refreshed _ capped hstops hline

theorem linesDown_sup (tr : Option Nat) (p : Part) : (linesDown tr p).sup = p.sup := by simp [linesDown]

/-- A departure from UP as the Supervisor takes it. -/
theorem changeLine_departed {st : LineState} {r : Nat} {p : Part} (hup : p.line.state = .up) (hst : st ≠ .up) :
    StopsGone p (changeLine st r p) := by
  have hne : p.line.state ≠ st := fun h => hst (h.symm.trans hup)
  obtain ⟨tr, hhand, hline⟩ := handLine_departs (p := attend .line (modLine (fun l => { l with state := st, rate := r }) p)) hst
  have hstate : (linesDown tr (attend .line (modLine (fun l => { l with state := st, rate := r }) p))).line.state ≠ .up := by
    rw [hline]; exact hst
  have gone := supLineChange_departed (wasUp := true) hstate
  rw [changeLine_moves hne, hup]
  show StopsGone p (handLine true _)
  rw [hhand]
  unfold StopsGone at gone ⊢
  rw [linesDown_sup] at gone
  exact gone

/-! ### TRAINING_SUCCESS (R151, R176, R182) -/

theorem callLineUp_slot (r : Nat) (v : VoiceNo) (p : Part) : (callSlot (callLineUp r v p) v).freeRun = 0 ∧
    (carries r v = true → (callSlot (callLineUp r v p) v).state = .idle) := by
  unfold callLineUp
  dsimp only
  split
  next h => rw [enterCall_slot, callSlot_modCall_same]; exact ⟨rfl, fun _ => rfl⟩
  next h => rw [callSlot_modCall_same]; exact ⟨rfl, fun hc => absurd hc h⟩

theorem callLineUp_ne {v u : VoiceNo} (h : u ≠ v) (r : Nat) (p : Part) : callSlot (callLineUp r v p) u = callSlot p u := by
  unfold callLineUp
  dsimp only
  split <;> simp [h]

/-- The calls handed an entry into UP (R176, R182). -/
def callsUp (r : Nat) (p : Part) : Part := callLineUp r 1 (callLineUp r 0 p)

theorem callsUp_slot (r : Nat) (p : Part) (v : VoiceNo) : (callSlot (callsUp r p) v).freeRun = 0 ∧
    (carries r v = true → (callSlot (callsUp r p) v).state = .idle) := by
  match v with
  | 0 => rw [callsUp, callLineUp_ne (by decide)]; exact callLineUp_slot r 0 p
  | 1 => exact callLineUp_slot r 1 _

theorem changeLine_arrives {r : Nat} {p : Part} (h : p.line.state = .training) :
    changeLine .up r p = supLineChange false (callsUp r (attend .line (modLine (fun l => { l with state := .up, rate := r }) p))) := by
  rw [changeLine_moves (by rw [h]; decide), h]
  rfl

/-- What an entry into UP from TRAINING makes of the station, the calls and ATTENTION. -/
theorem changeLine_arrived {r : Nat} {p : Part} (h : p.line.state = .training) :
    (changeLine .up r p).sup.caps.link = false ∧ (changeLine .up r p).sup.graceTimer = none ∧
      (changeLine .up r p).window.attention.getLsbD 7 = true ∧
      ∀ v : VoiceNo, (callSlot (changeLine .up r p) v).freeRun = 0 ∧
        (carries r v = true → (callSlot (changeLine .up r p) v).state = .idle) := by
  set q := attend .line (modLine (fun l => { l with state := .up, rate := r }) p) with hq
  have hline : (callsUp r q).line.state = .up := by simp [callsUp, hq, modLine]
  obtain ⟨hlink, hgrace, hslots⟩ := supLineChange_arrived hline
  have hbit : q.window.attention.getLsbD 7 = true := by simp [hq, Attn.bit]
  have hcalls := hslots (by rw [(callsUp_slot r q 0).1]; decide)
  have hslot (v : VoiceNo) : callSlot (supLineChange false (callsUp r q)) v = callSlot (callsUp r q) v := by rw [callSlot, hcalls, callSlot]
  rw [changeLine_arrives h]
  refine ⟨hlink, hgrace, (supLineChange_answerable _ _).2 7 ?_, fun v => ?_⟩
  · exact callLineUp_bitsStay r 1 _ 7 (callLineUp_bitsStay r 0 q 7 hbit)
  · rw [hslot v]
    exact callsUp_slot r q v

theorem answerStart_slot (r : Result) (d : Nat) {p : Part} {j : SlotNo} (h : p.line.startOrder = some j) :
    slotOf (answerStart r d p) j = { slotOf p j with state := .done, result := asOctet r.code, detail := asOctet d } := by
  rw [answerStart, h]
  exact answerHeld_slotOf j r d _

theorem enterUp_arrived {prio own : Nat} {p : Part} (h : p.line.state = .training) :
    (enterUp prio own p).sup.caps.link = false ∧ (enterUp prio own p).sup.graceTimer = none ∧
      (enterUp prio own p).window.attention.getLsbD 7 = true ∧
      (∀ v : VoiceNo, carries p.line.rate v = true → (callSlot (enterUp prio own p) v).state = .idle ∧
        (callSlot (enterUp prio own p) v).freeRun = 0) ∧
      (∀ j, p.line.startOrder = some j → (slotOf (enterUp prio own p) j).state = .done ∧ (slotOf (enterUp prio own p) j).result = 0) := by
  set q := modLine (fun l => { stopLine l with
    summitPriority := prio, valleyPriority := own, lossRun := 0, qualityWindow := [], candidate := none, upSince := p.clock.now }) p with hq
  have hstate : q.line.state = .training := h
  have hbody : enterUp prio own p = answerStart .ok 0 (changeLine .up p.line.rate q) := rfl
  obtain ⟨hlink, hgrace, hbit, hslots⟩ := changeLine_arrived (r := p.line.rate) hstate
  obtain ⟨-, -, hcalls, hsup, -⟩ := answerStart_kept .ok 0 (changeLine .up p.line.rate q)
  rw [hbody]
  refine ⟨by rw [hsup]; exact hlink, by rw [hsup]; exact hgrace, (answerStart_answerable _ _ _).2 7 hbit, fun v hv => ?_, fun j hj => ?_⟩
  · rw [callSlot_of_calls_eq hcalls]
    exact ⟨(hslots v).2 hv, (hslots v).1⟩
  · rw [answerStart_slot .ok 0 (j := j) (by rw [changeLine_line]; exact hj)]
    exact ⟨rfl, rfl⟩

/-- The line as the sixteenth echo finds it. -/
def echoLine (o : Int) (l : Line) : Line :=
  { l with echoRun := l.echoRun + 1, lineDelay := if l.syncKnown then l.lineDelay else o.toNat, syncKnown := true }

section
variable {fr : Option SummitFrame} {n : FrameNote} {rest : List FrameNote} {s : State}

/-- The part that the sixteenth echo brings UP. -/
def echoed (fr : Option SummitFrame) (rest : List FrameNote) (p : Part) : Part :=
  modLine (echoLine (fr.getD { offset := 0, octets := [] }).offset) (answerCounted true rest p)

theorem takeAnswer_sixteenth {p : Part} (hnotes : p.line.notes = n :: rest) (hstate : p.line.state = .training)
    (hgood : answerGood fr p = true) (hecho : correctEcho p.line n (answerRead fr n) = true) (hrun : 15 ≤ p.line.echoRun) :
    takeAnswer fr p = enterUp (answerRead fr n).priority.toNat n.priority (echoed fr rest p) := by
  rw [takeAnswer_training hnotes hstate, hgood, judgeTraining_echo (p := answerCounted true rest p) ⟨rfl, hecho⟩]
  exact takeEcho_sixteenth (p := answerCounted true rest p) hrun

/-- The line comes UP by a sixteenth correct echo and by nothing else (R151). -/
theorem succeeds_echo (h : succeeds fr s.part = true) : ∃ n rest, s.part.line.notes = n :: rest ∧ 3 ≤ elapsed s.part.clock.now n.start ∧
    s.part.line.state = .training ∧ answerGood fr s.part = true ∧ correctEcho s.part.line n (answerRead fr n) = true ∧
    15 ≤ s.part.line.echoRun := by
  simp only [succeeds, Bool.and_eq_true, beq_iff_eq] at h
  obtain ⟨⟨hdue, hstate⟩, hup⟩ := h
  rw [summitDue, answerDue, hstate] at hdue
  cases hnotes : s.part.line.notes with
  | nil => rw [hnotes] at hdue; simp at hdue
  | cons n rest =>
    rw [hnotes] at hdue
    have hout : 3 ≤ elapsed s.part.clock.now n.start := by simpa using hdue
    rw [takeAnswer_training hnotes hstate] at hup
    by_cases hecho : answerGood fr s.part = true ∧ correctEcho s.part.line n (answerRead fr n) = true
    · by_cases hrun : 15 ≤ s.part.line.echoRun
      · exact ⟨n, rest, rfl, hout, hstate, hecho.1, hecho.2, hrun⟩
      · rw [judgeTraining_echo (p := answerCounted _ rest s.part) hecho, takeEcho_below (p := answerCounted _ rest s.part) (show s.part.line.echoRun < 15 by omega)] at hup
        have : s.part.line.state = .up := hup
        rw [hstate] at this
        cases this
    · rw [judgeTraining_broken (p := answerCounted _ rest s.part) hecho] at hup
      have : s.part.line.state = .up := hup
      rw [hstate] at this
      cases this

/-- TRAINING_SUCCESS, from the echo that brings the line UP. -/
theorem trainingSuccess_comes_up (hready : Ready s) (hnotes : s.part.line.notes = n :: rest) (hout : 3 ≤ elapsed s.part.clock.now n.start)
    (hstate : s.part.line.state = .training) (hgood : answerGood fr s.part = true)
    (hecho : correctEcho s.part.line n (answerRead fr n) = true) (hrun : 15 ≤ s.part.line.echoRun) :
    After (.trainingSuccess fr) s (fun t => exec (.summitAnswer fr) s = .next t ∧
      t.part.line = (enterUp (answerRead fr n).priority.toNat n.priority (echoed fr rest s.part)).line ∧
      t.part.sup.caps.link = false ∧ t.part.sup.graceTimer = none ∧ t.part.window.attention.getLsbD 7 = true ∧
      (∀ v : VoiceNo, carries s.part.line.rate v = true → (callSlot t.part v).state = .idle ∧ (callSlot t.part v).freeRun = 0) ∧
      (∀ j, s.part.line.startOrder = some j → (slotOf t.part j).state = .done ∧ (slotOf t.part j).result = 0)) := by
  have hdue := summitDue_of (by rw [hstate]; decide) hnotes hout
  have hbody := takeAnswer_sixteenth (fr := fr) hnotes hstate hgood hecho hrun
  have hsucceeds : succeeds fr s.part = true := by
    rw [succeeds, hdue, hstate, hbody, enterUp_line]
    rfl
  obtain ⟨t, ht, hanswer, hleft, -⟩ := occurs_answer (fr := fr) hready hsucceeds hdue
  rw [hbody] at hleft
  obtain ⟨hlink, hgrace, hbit, hslots, horder⟩ := enterUp_arrived (prio := (answerRead fr n).priority.toNat) (own := n.priority)
    (p := echoed fr rest s.part) hstate
  refine ⟨t, ht, hanswer, hleft.line, by rw [hleft.sup]; exact hlink, by rw [hleft.sup]; exact hgrace, by rw [hleft.attention]; exact hbit,
    fun v hv => ?_, fun j hj => ?_⟩
  · rw [hleft.calls v]
    exact hslots v hv
  · rw [hleft.slots j]
    exact horder j hj

/-- The rule of the sixteenth echo in the terms of the frame (R150). -/
theorem correctEcho_iff (l : Line) (note : FrameNote) (f : FrameContent) : correctEcho l note f = true ↔
    f.kind = 1 ∧ f.rate = l.rate ∧ f.number = note.number ∧ f.pattern1 = note.pattern1 ∧ f.pattern2 = note.pattern2 ∧
      f.priority.toNat ≤ 7 := by
  simp [correctEcho, and_assoc]

end

/-! ### LINE_LOSS (R152, R155, R172, R182) -/

/-- The line leaves UP for DOWN: what becomes of the station and of the calls. -/
theorem enterDown_departs {d : Diagnosis} {p : Part} (hup : p.line.state = .up) : StopsGone p (enterDown d p) ∧
    ∀ v : VoiceNo, (callSlot (enterDown d p) v).state = .unavailable := by
  have hdown : (modLine (fun l => { stopFrames l with diagnosis := d }) p).line.state = .up := hup
  have hbody : enterDown d p = answerStart .failed d.code (changeLine .down 0 (modLine (fun l => { stopFrames l with diagnosis := d }) p)) :=
    rfl
  have departed := changeLine_departed (st := .down) (r := 0) hdown (by decide)
  obtain ⟨-, hcalls, -⟩ := changeLine_from_up (st := .down) (r := 0) hdown (by decide)
  generalize hc : changeLine .down 0 (modLine (fun l => { stopFrames l with diagnosis := d }) p) = c at hbody departed hcalls
  obtain ⟨-, -, hkept, hsup, -⟩ := answerStart_kept .failed d.code c
  rw [hbody]
  refine ⟨?_, fun v => ?_⟩
  · unfold StopsGone at departed ⊢
    rw [hsup]
    exact departed
  · rw [callSlot_of_calls_eq hkept]
    exact hcalls v

theorem stopsClear_eta {u : Supervisor} (hservice : u.stopServiceStands = false) (hfast : u.stopFastStands = false) :
    { u with stopServiceStands := false, stopFastStands := false } = u := by
  cases u
  subst hservice hfast
  rfl

/-- The Supervisor handed a state that is not UP, when it has taken the departure already. -/
theorem supLineChange_rests {p : Part} (h : p.line.state ≠ .up) (hlink : p.sup.caps.link = true)
    (hservice : p.sup.stopServiceStands = false) (hfast : p.sup.stopFastStands = false) : supLineChange false p = p := by
  have hup : (p.line.state == .up) = false := by simpa using h
  have hcaps : { p.sup.caps with link := true } = p.sup.caps := by rw [← hlink]
  have hcap : setLinkCap true p = p := by
    rw [setLinkCap, setCaps, if_pos (beq_iff_eq.2 hcaps)]
  have hnoted : stopsNoted p = p := by
    unfold stopsNoted modSup
    rw [hup, Bool.false_and, Bool.false_and]
    dsimp only
    rw [stopsClear_eta hservice hfast]
  simp only [supLineChange, hup, Bool.not_false, Bool.false_and, Bool.false_eq_true, if_false, hcap]
  rw [refreshSummitStops_eq, hup, hservice, hfast, hnoted]
  rfl

/-- Probing begun after a departure that the Supervisor has taken leaves it and the calls. -/
theorem enterProbing_after {p q : Part} (hstate : q.line.state = .down) (hgone : StopsGone p q) :
    (enterProbing q).sup = q.sup ∧ (enterProbing q).calls = q.calls := by
  obtain ⟨hlink, hservice, hfast, -⟩ := hgone
  set r := modLine (fun l => { stopFrames l with probeCount := 0 }) q with hr
  have hrstate : r.line.state = .down := hstate
  have hmoved : changeLine .probing 0 r = attend .line (modLine (fun l => { l with state := .probing, rate := 0 }) r) := by
    rw [changeLine_moves (by rw [hrstate]; decide), hrstate]
    exact supLineChange_rests (show LineState.probing ≠ .up by decide) hlink hservice hfast
  have hbody : enterProbing q = sendProbe false (attend .line (modLine (fun l => { l with state := .probing, rate := 0 }) r)) := by
    rw [enterProbing, ← hr, hmoved]
  rw [hbody]
  exact ⟨rfl, rfl⟩

/-- The line lost while it is UP: what becomes of the station and of the calls. -/
theorem loseLine_departs {p : Part} (hup : p.line.state = .up) : StopsGone p (loseLine p) ∧
    ∀ v : VoiceNo, (callSlot (loseLine p) v).state = .unavailable := by
  have hdown := enterDown_departs (d := .lost) (p := modLine (fun l => { l with losses := count16 l.losses }) p) hup
  have hstate : (enterDown .lost (modLine (fun l => { l with losses := count16 l.losses }) p)).line.state = .down := by rw [enterDown_line]
  unfold loseLine
  dsimp only
  generalize enterDown .lost (modLine (fun l => { l with losses := count16 l.losses }) p) = q at hdown hstate
  obtain ⟨hgone, hcalls⟩ := hdown
  split
  · obtain ⟨hsup, hkept⟩ := enterProbing_after hstate hgone
    refine ⟨?_, fun v => by rw [callSlot_of_calls_eq hkept]; exact hcalls v⟩
    unfold StopsGone at hgone ⊢
    rw [hsup]
    exact hgone
  · exact ⟨hgone, hcalls⟩

section
variable {fr : Option SummitFrame} {n : FrameNote} {rest : List FrameNote} {s : State}

theorem answerUsed_errored (n : FrameNote) (fr : Option SummitFrame) (p : Part) : answerUsed n fr false p = useErrored n p := rfl

theorem useErrored_leaves (n : FrameNote) (p : Part) : (useErrored n p).sup = p.sup ∧ (useErrored n p).line = p.line ∧
    (useErrored n p).messages.notes = p.messages.notes := by
  simp [useErrored, messagesErrored, modMsg]

theorem losesLine_errored (h : losesLine fr s.part = true) : summitDue s.part = true ∧ s.part.line.state = .up ∧
    answerGood fr s.part = false ∧ 49 ≤ s.part.line.lossRun := by
  simp only [losesLine, Bool.and_eq_true, beq_iff_eq, decide_eq_true_eq] at h
  obtain ⟨⟨hdue, hstate⟩, hloss⟩ := h
  refine ⟨hdue, hstate, ?_⟩
  cases hgood : answerGood fr s.part with
  | true => simp [countedAnswer, countAnswer, hgood] at hloss
  | false => simp [countedAnswer, countAnswer, hgood] at hloss; exact ⟨rfl, by omega⟩

theorem losesLine_of (hdue : summitDue s.part = true) (hstate : s.part.line.state = .up) (hgood : answerGood fr s.part = false)
    (hloss : 49 ≤ s.part.line.lossRun) : losesLine fr s.part = true := by
  simp only [losesLine, hdue, hstate, countedAnswer, countAnswer, hgood, Bool.and_eq_true, beq_self_eq_true, decide_eq_true_eq, true_and]
  simp
  omega

theorem summitDue_notes (h : summitDue s.part = true) : ∃ n rest, s.part.line.notes = n :: rest := by
  rw [summitDue, answerDue] at h
  cases hnotes : s.part.line.notes with
  | nil => rw [hnotes] at h; simp at h
  | cons n rest => exact ⟨n, rest, rfl⟩

/-- The errored answer at which the line is lost. -/
theorem takeAnswer_loses (hnotes : s.part.line.notes = n :: rest) (hstate : s.part.line.state = .up)
    (hgood : answerGood fr s.part = false) (hloss : 49 ≤ s.part.line.lossRun) :
    takeAnswer fr s.part = loseLine (useErrored n (answerWeighed false rest s.part)) := by
  rw [takeAnswer_up hnotes hstate, hgood, answerUsed_errored, judgeQuality, if_pos]
  rw [useErrored_line]
  exact (show 50 ≤ s.part.line.lossRun + 1 by omega)

theorem lineLoss_departs (hready : Ready s) (h : losesLine fr s.part = true) : After (.lineLoss fr) s (fun t =>
    exec (.summitAnswer fr) s = .next t ∧
    t.part.line.state = (if s.part.line.config.autoStart then .probing else .down) ∧ t.part.line.rate = 0 ∧
    t.part.line.diagnosis = .lost ∧ t.part.line.losses = count16 s.part.line.losses ∧ t.part.line.notes = [] ∧
    t.part.line.startOrder = none ∧ (∀ v : VoiceNo, (callSlot t.part v).state = .unavailable) ∧
    t.part.messages.transmitter = .idle ∧ t.part.messages.receiver = .idle ∧ t.part.messages.notes = s.part.messages.notes ∧
    t.part.sup.caps.link = true ∧ t.part.sup.stopServiceStands = false ∧ t.part.sup.stopFastStands = false ∧
    (s.part.sup.stopServiceStands = true → ¬ ConditionPresent .summitStop 0 t.part.sup) ∧
    (s.part.sup.stopFastStands = true → ¬ ConditionPresent .summitFastStop 0 t.part.sup)) := by
  obtain ⟨hdue, hstate, hgood, hloss⟩ := losesLine_errored h
  obtain ⟨n, rest, hnotes⟩ := summitDue_notes hdue
  obtain ⟨t, ht, hanswer, hleft, -⟩ := occurs_answer (fr := fr) hready h hdue
  rw [takeAnswer_loses hnotes hstate hgood hloss] at hleft
  set q := useErrored n (answerWeighed false rest s.part) with hq
  obtain ⟨hqsup, hqline, hqnotes⟩ := useErrored_leaves n (answerWeighed false rest s.part)
  have hqup : q.line.state = .up := by rw [hq, hqline]; exact hstate
  obtain ⟨⟨hlink, hservice, hfast, hserviceEnds, hfastEnds⟩, hcalls⟩ := loseLine_departs hqup
  have hline := hleft.line
  rw [loseLine_line, hq, hqline] at hline
  have hmessages := hleft.messages
  rw [loseLine_messages, if_pos hqup] at hmessages
  have hdiscard (m : Messages) : (discardAssembly m).notes = m.notes := by unfold discardAssembly; split <;> rfl
  have hdiscarded (m : Messages) : (discardAssembly m).receiver = .idle := by unfold discardAssembly; split <;> rfl
  rw [hq, hqsup] at hserviceEnds hfastEnds
  refine ⟨t, ht, hanswer, by rw [hline]; rfl, by rw [hline], by rw [hline], by rw [hline]; rfl, by rw [hline]; rfl, by rw [hline],
    fun v => by rw [hleft.calls v]; exact hcalls v, by rw [hmessages], by rw [hmessages]; exact hdiscarded _, ?_, ?_⟩
  · rw [hmessages]
    exact (hdiscard _).trans hqnotes
  · rw [hleft.sup]
    exact ⟨hlink, hservice, hfast, hserviceEnds, hfastEnds⟩

/-! ### QUALITY_EVENT (R153) -/

/-- What an answer in UP leaves of the line before loss and quality are judged. -/
theorem answerUsed_leaves (n : FrameNote) (fr : Option SummitFrame) (rest : List FrameNote) (p : Part) (good : Bool) :
    (answerUsed n fr good (answerWeighed good rest p)).line.state = p.line.state ∧
    (answerUsed n fr good (answerWeighed good rest p)).line.rate = p.line.rate ∧
    (answerUsed n fr good (answerWeighed good rest p)).line.config = p.line.config ∧
    (answerUsed n fr good (answerWeighed good rest p)).line.qualityEvents = p.line.qualityEvents ∧
    (answerUsed n fr good (answerWeighed good rest p)).line.lossRun = (countAnswer (!good) p.line).lossRun ∧
    (answerUsed n fr good (answerWeighed good rest p)).line.qualityWindow = (countAnswer (!good) p.line).qualityWindow := by
  rw [answerUsed_line]
  cases good <;> exact ⟨rfl, rfl, rfl, rfl, rfl, rfl⟩

theorem qualityDue_iff : qualityDue fr s.part = true ↔ summitDue s.part = true ∧ s.part.line.state = .up ∧
    (countedAnswer fr s.part).lossRun < 50 ∧ s.part.line.config.qualityThreshold < qualityCount (countedAnswer fr s.part) := by
  simp [qualityDue, and_assoc]

theorem takeAnswer_quality (hnotes : s.part.line.notes = n :: rest) (hstate : s.part.line.state = .up)
    (hloss : (countedAnswer fr s.part).lossRun < 50)
    (hquality : s.part.line.config.qualityThreshold < qualityCount (countedAnswer fr s.part)) : takeAnswer fr s.part =
    qualityFails (answerUsed n fr (answerGood fr s.part) (answerWeighed (answerGood fr s.part) rest s.part)) := by
  obtain ⟨-, -, hconfig, -, hrun, hwindow⟩ := answerUsed_leaves n fr rest s.part (answerGood fr s.part)
  rw [takeAnswer_up hnotes hstate, judgeQuality, if_neg, if_pos]
  · rw [hconfig, qualityCount, hwindow]
    exact hquality
  · rw [hrun]
    exact Nat.not_le.2 hloss

theorem qualityEvent_comes (hready : Ready s) (h : qualityDue fr s.part = true) : After (.qualityEvent fr) s (fun t =>
    exec (.summitAnswer fr) s = .next t ∧ t.part.line.qualityEvents = count16 s.part.line.qualityEvents ∧
    t.part.line.diagnosis = .quality ∧ t.part.window.attention.getLsbD 7 = true ∧
    (1 < s.part.line.rate → t.part.line.state = .training ∧ t.part.line.rate = s.part.line.rate - 1 ∧
      t.part.line.attemptsUsed = 0 ∧ t.part.line.attemptPending = true ∧
      (∀ v : VoiceNo, (callSlot t.part v).state = .unavailable) ∧ t.part.sup.caps.link = true) ∧
    (s.part.line.rate ≤ 1 → t.part.line.state = .up ∧ t.part.line.rate = s.part.line.rate ∧ t.part.line.qualityWindow = [])) := by
  obtain ⟨hdue, hstate, hloss, hquality⟩ := qualityDue_iff.1 h
  obtain ⟨n, rest, hnotes⟩ := summitDue_notes hdue
  obtain ⟨t, ht, hanswer, hleft, -⟩ := occurs_answer (fr := fr) hready h hdue
  obtain ⟨hqstate, hqrate, -, hqevents, -⟩ := answerUsed_leaves n fr rest s.part (answerGood fr s.part)
  rw [takeAnswer_quality hnotes hstate hloss hquality] at hleft
  generalize answerUsed n fr (answerGood fr s.part) (answerWeighed (answerGood fr s.part) rest s.part) = q at hqstate hqrate hqevents hleft
  have hline := hleft.line
  rw [qualityFails_line, hqrate] at hline
  have hup : q.line.state = .up := hqstate.trans hstate
  by_cases hrate : 1 < s.part.line.rate
  · rw [if_pos hrate] at hline
    have hbody : qualityFails q = changeLine .training (q.line.rate - 1)
        (modLine (fun l => { nextAttempt (stopLine l) with attemptsUsed := 0 }) (modLine qualityLine q)) :=
      qualityFails_trains (by rw [hqrate]; exact hrate)
    have hmod : (modLine (fun l => { nextAttempt (stopLine l) with attemptsUsed := 0 }) (modLine qualityLine q)).line.state = .up := hup
    obtain ⟨hlink, -⟩ := changeLine_departed (st := .training) (r := q.line.rate - 1) hmod (by decide)
    obtain ⟨-, hcalls, -, hbit⟩ := changeLine_from_up (st := .training) (r := q.line.rate - 1) hmod (by decide)
    rw [hbody] at hleft
    refine ⟨t, ht, hanswer, by rw [hline]; exact congrArg count16 hqevents, by rw [hline]; rfl, by rw [hleft.attention]; exact hbit,
      fun _ => ⟨by rw [hline], by rw [hline], by rw [hline], by rw [hline]; rfl, fun v => by rw [hleft.calls v]; exact hcalls v,
        by rw [hleft.sup]; exact hlink⟩, fun hle => absurd hrate (by omega)⟩
  · rw [if_neg hrate] at hline
    have hbody := qualityFails_stays (p := q) (by rw [hqrate]; omega)
    rw [hbody] at hleft
    refine ⟨t, ht, hanswer, by rw [hline]; exact congrArg count16 hqevents, by rw [hline]; rfl, by rw [hleft.attention]; simp [Attn.bit],
      fun hlt => absurd hlt hrate, fun _ => ⟨by rw [hline]; exact hup, by rw [hline]; exact hqrate, by rw [hline]⟩⟩

end

/-- Settles O56: a sixteenth echo is the one way UP; loss and quality are judged of the counts that the answer has brought, loss first. -/
theorem trainingLossAndQuality : Obligations.TrainingLossAndQuality := by
  unfold Obligations.TrainingLossAndQuality
  refine ⟨fun fr s hready hsucceeds => ?_, fun fr s hready => ⟨lineLoss_departs hready, qualityEvent_comes hready⟩,
    fun fr n rest s hready hnotes hout => ?_⟩
  · obtain ⟨n, rest, hnotes, hout, hstate, hgood, hecho, hrun⟩ := succeeds_echo hsucceeds
    obtain ⟨t, ht, hanswer, hline, hlink, hgrace, hbit, hslots, horder⟩ := trainingSuccess_comes_up hready hnotes hout hstate hgood hecho hrun
    rw [enterUp_line] at hline
    refine ⟨t, ht, hanswer, hrun, hgood, by rw [hline], by rw [hline]; rfl, by rw [hline], by rw [hline], by rw [hline], by rw [hline]; rfl,
      by rw [hline]; rfl, by rw [hline]; rfl, by rw [hline], horder, fun m hm => ?_, hlink, hgrace, hbit, hslots⟩
    rw [hnotes] at hm
    obtain rfl : n = m := by simpa using hm
    exact ⟨by rw [hline], by rw [hline]⟩
  · intro f
    refine ⟨fun hstate hrun hgood hkind hrate hnumber h1 h2 hprio => ?_, fun hstate hgood hloss => ?_, fun hstate hgood hloss hquality => ?_⟩
    · obtain ⟨t, ht, hanswer, hline, -⟩ := trainingSuccess_comes_up (fr := fr) hready hnotes hout hstate hgood
        ((correctEcho_iff _ _ _).2 ⟨hkind, hrate, hnumber, h1, h2, hprio⟩) (by omega)
      rw [enterUp_line] at hline
      refine ⟨t, ht, hanswer, by rw [hline], by rw [hline]; rfl, ?_, by rw [hline], by rw [hline], by rw [hline]; rfl⟩
      rw [hline]
      exact congrArg (· + 1) hrun
    · have hdue := summitDue_of (by rw [hstate]; decide) hnotes hout
      have hloses := losesLine_of (fr := fr) hdue hstate hgood hloss
      obtain ⟨t, ht, hanswer, hleft, -⟩ := occurs_answer (fr := fr) hready hloses hdue
      have hline := hleft.line
      rw [takeAnswer_loses hnotes hstate hgood hloss, loseLine_line, useErrored_line] at hline
      exact ⟨t, ht, hanswer, by rw [hline], by rw [hline], by rw [hline]; rfl⟩
    · have hdue := summitDue_of (by rw [hstate]; decide) hnotes hout
      have hqualityDue : qualityDue fr s.part = true := qualityDue_iff.2 ⟨hdue, hstate, by
        simp only [countedAnswer, countAnswer, hgood, Bool.not_false, if_true]; omega, by
        simp only [countedAnswer, countAnswer, hgood, Bool.not_false, qualityCount]; exact hquality⟩
      obtain ⟨t, ht, hanswer, hevents, hdiagnosis, -, hfast, hslow⟩ := qualityEvent_comes hready hqualityDue
      refine ⟨t, ht, hanswer, hdiagnosis, ?_, hevents⟩
      by_cases hrate : 1 < s.part.line.rate
      · rw [if_pos hrate]; exact (hfast hrate).1
      · rw [if_neg hrate]; exact (hslow (by omega)).1

end Sys2Proof.Machine

/-! The Call Unit at a good answer (R176 to R181): the order slots that its work leaves, and its work on one slot. -/

namespace Sys2Proof.Machine

/-! ### An order that no call owns is left by the Call Unit -/

/-- A work on slot `v` leaves the order of slot `k`, where the call does not own it, and does not come to own it. -/
abbrev CallAside (v : VoiceNo) (k : SlotNo) (p q : Part) : Prop :=
  (callSlot p v).order ≠ some k → slotOf q k = slotOf p k ∧ (callSlot q v).order ≠ some k

section
variable {v : VoiceNo} {k : SlotNo}

theorem CallAside.trans {p q r : Part} (h : CallAside v k p q) (g : CallAside v k q r) : CallAside v k p r := fun hk => by
  obtain ⟨hslot, horder⟩ := h hk
  obtain ⟨gslot, gorder⟩ := g horder
  exact ⟨gslot.trans hslot, gorder⟩

theorem CallAside.refl (p : Part) : CallAside v k p p := fun h => ⟨rfl, h⟩

theorem modCall_aside {f : CallSlot → CallSlot} (p : Part) (h : ∀ c, (f c).order = c.order ∨ (f c).order = none) :
    CallAside v k p (modCall v f p) := fun hk => by
  refine ⟨rfl, ?_⟩
  rw [callSlot_modCall_same]
  obtain h | h := h (callSlot p v) <;> rw [h]
  · exact hk
  · exact nofun

theorem enterCall_aside (st : CallState) (p : Part) : CallAside v k p (enterCall v st p) := fun hk =>
  ⟨enterCall_slotOf_ne st hk, by rw [enterCall_slot]; exact hk⟩

theorem answerCall_aside (r : Result) (d : Nat) (p : Part) : CallAside v k p (answerCall v r d p) := fun hk =>
  ⟨answerCall_slotOf_ne r d hk, by rw [answerCall_slot]; exact nofun⟩

theorem stopRinging_aside (p : Part) : CallAside v k p (stopRinging v p) := modCall_aside p (by exact fun _ => .inl rfl)

theorem startRinging_aside (p : Part) : CallAside v k p (startRinging v p) := modCall_aside p (by exact fun _ => .inl rfl)

theorem callToIdle_aside (p : Part) : CallAside v k p (callToIdle v p) :=
  ((enterCall_aside .idle p).trans (modCall_aside _ (by exact fun _ => .inl rfl))).trans (stopRinging_aside _)

theorem originate_aside (o : Originator) (p : Part) : CallAside v k p (originate v o none p) :=
  (modCall_aside p (by exact fun _ => .inr rfl)).trans (enterCall_aside .seizing _)

theorem connect_aside (p : Part) : CallAside v k p (connect v p) := by
  have connected : CallAside v k p (callConnected v p) :=
    ((modCall_aside p (by exact fun _ => .inl rfl)).trans (enterCall_aside .connected _)).trans
      (CallAside.trans (q := countConnect _) (fun h => ⟨rfl, h⟩) (answerCall_aside .ok 0 _))
  rw [connect_eq]
  split
  · exact connected.trans (startRinging_aside _)
  · exact connected.trans (stopRinging_aside _)

theorem clearBySummit_aside (p : Part) : CallAside v k p (clearBySummit v p) := by
  unfold clearBySummit
  dsimp only
  split
  · exact ((modCall_aside p (by exact fun _ => .inl rfl)).trans (modCall_aside _ (by exact fun _ => .inl rfl))).trans
      ((enterCall_aside .clearing _).trans (stopRinging_aside _))
  · exact (modCall_aside p (by exact fun _ => .inl rfl)).trans (callToIdle_aside _)

theorem incoming_aside (p : Part) : CallAside v k p (incoming v p) := by
  have entered : CallAside v k p (enterCall v .ringingIn (modCall v (fun c => { c with
      originator := .far, role := .answerer, order := none, clearedBySummit := false, duration := 0, noAnswer := none }) p)) :=
    (modCall_aside p (by exact fun _ => .inr rfl)).trans (enterCall_aside .ringingIn _)
  unfold incoming
  dsimp only
  split
  · exact entered.trans (connect_aside _)
  · exact entered.trans (startRinging_aside _)

/-- A lost glare is counted. -/
def countGlareLost (p : Part) : Part := { p with calls := { p.calls with glareLost := count16 p.calls.glareLost } }

theorem callSlot_countGlareLost (u : VoiceNo) (p : Part) : callSlot (countGlareLost p) u = callSlot p u := rfl

theorem glare_lost {p : Part} (h : ¬ p.line.summitPriority ≤ p.line.valleyPriority) :
    glare v p = incoming v (answerCall v .failed 4 (countGlareLost p)) := if_neg h

theorem glare_aside (p : Part) : CallAside v k p (glare v p) := by
  by_cases h : p.line.summitPriority ≤ p.line.valleyPriority
  · rw [glare, if_pos h]
    exact fun hk => ⟨rfl, hk⟩
  · have counted : CallAside v k p (countGlareLost p) := fun hk => ⟨rfl, hk⟩
    rw [glare_lost h]
    exact (counted.trans (answerCall_aside .failed 4 _)).trans (incoming_aside _)

theorem seizeTurn_aside (now before : Bool) (p : Part) : CallAside v k p (seizeTurn v now before p) := by
  unfold seizeTurn
  split
  · unfold seizeStands
    split
    · exact incoming_aside p
    · exact glare_aside p
    · exact glare_aside p
    · exact .refl p
  · split
    · unfold seizeDrops
      dsimp only
      split
      · exact (modCall_aside p (by exact fun _ => .inl rfl)).trans (callToIdle_aside _)
      · split
        · exact clearBySummit_aside p
        · exact .refl p
      · split
        · exact callToIdle_aside p
        · exact .refl p
      · exact .refl p
    · exact .refl p

theorem answerTurn_aside (now before : Bool) (p : Part) : CallAside v k p (answerTurn v now before p) := by
  unfold answerTurn
  split
  · unfold answerStands
    split
    · exact connect_aside p
    · exact connect_aside p
    · exact .refl p
  · split
    · unfold answerDrops
      dsimp only
      split
      · split
        · exact clearBySummit_aside p
        · exact .refl p
      · split
        · exact callToIdle_aside p
        · exact .refl p
      · exact .refl p
    · exact .refl p

theorem takeSummitBits_aside (p : Part) : CallAside v k p (takeSummitBits v p) := by
  rw [takeSummitBits_eq]
  exact ((modCall_aside p (by exact fun _ => .inl rfl)).trans (seizeTurn_aside _ _ _)).trans (answerTurn_aside _ _ _)

theorem countSeizing_aside (a b : Bool) (p : Part) : CallAside v k p (countSeizing v a b p) := by
  unfold countSeizing
  dsimp only
  split
  · split
    · exact (modCall_aside p (by exact fun _ => .inl rfl)).trans (enterCall_aside .ringingOut _)
    · exact modCall_aside p (by exact fun _ => .inl rfl)
  · exact .refl p

theorem callGoodAnswer_aside (w : Half) (b : Bool) (p : Part) : CallAside v k p (callGoodAnswer v w b p) :=
  ((takeSummitBits_aside p).trans (countSeizing_aside b _ _)).trans (modCall_aside _ (by exact fun _ => .inl rfl))

end

/-! ### The work on one slot leaves the other -/

section
variable {v u : VoiceNo} (h : u ≠ v)
include h

theorem glare_ne (p : Part) : callSlot (glare v p) u = callSlot p u := by
  unfold glare
  dsimp only
  split
  · rfl
  · rw [incoming_ne h, answerCall_ne h]; rfl

theorem seizeTurn_ne (now before : Bool) (p : Part) : callSlot (seizeTurn v now before p) u = callSlot p u := by
  unfold seizeTurn seizeStands seizeDrops
  dsimp only
  (repeat' split) <;> simp [h, glare_ne h]

theorem answerTurn_ne (now before : Bool) (p : Part) : callSlot (answerTurn v now before p) u = callSlot p u := by
  unfold answerTurn answerStands answerDrops
  dsimp only
  (repeat' split) <;> simp [h]

theorem bitsTaken_ne (p : Part) : callSlot (bitsTaken v p) u = callSlot p u := callSlot_modCall_ne _ _ _ _ h

theorem takeSummitBits_ne (p : Part) : callSlot (takeSummitBits v p) u = callSlot p u := by
  rw [takeSummitBits_eq, answerTurn_ne h, seizeTurn_ne h, bitsTaken_ne h]

theorem countSeizing_ne (a b : Bool) (p : Part) : callSlot (countSeizing v a b p) u = callSlot p u := by
  unfold countSeizing
  dsimp only
  (repeat' split) <;> simp [h]

theorem updateFreeRun_ne (w : Half) (b : Bool) (p : Part) : callSlot (updateFreeRun v w b p) u = callSlot p u := callSlot_modCall_ne _ _ _ _ h

theorem callGoodAnswer_ne (w : Half) (b : Bool) (p : Part) : callSlot (callGoodAnswer v w b p) u = callSlot p u := by
  unfold callGoodAnswer
  dsimp only
  rw [updateFreeRun_ne h, countSeizing_ne h, takeSummitBits_ne h]

end

/-! ### Both slots at a good answer -/

theorem playVoice_slot (u v : VoiceNo) (l : List Byte) (p : Part) :
    callSlot (playVoice v l p) u = { callSlot p u with voiceOctets := (callSlot (playVoice v l p) u).voiceOctets } := by
  unfold playVoice
  split
  · by_cases h : u = v
    · subst h; rw [callSlot_modCall_same]
    · rw [callSlot_modCall_ne _ _ _ _ h]
  · rfl

theorem playVoices_slot (u : VoiceNo) (r : Nat) (a b : List Byte) (p : Part) :
    callSlot (playVoices r a b p) u = { callSlot p u with voiceOctets := (callSlot (playVoices r a b p) u).voiceOctets } := by
  have second (q : Part) (hq : callSlot q u = { callSlot p u with voiceOctets := (callSlot q u).voiceOctets }) :
      callSlot (playVoice 1 b q) u = { callSlot p u with voiceOctets := (callSlot (playVoice 1 b q) u).voiceOctets } := by
    rw [playVoice_slot u 1 b q, hq]
  unfold playVoices
  dsimp only
  (repeat' split)
  · exact second _ (playVoice_slot u 0 a p)
  · exact second p rfl
  · exact playVoice_slot u 0 a p
  · rfl

theorem playVoices_slotOf (k : SlotNo) (r : Nat) (a b : List Byte) (p : Part) : slotOf (playVoices r a b p) k = slotOf p k := by
  unfold playVoices playVoice
  dsimp only
  (repeat' split) <;> rfl

/-- The own SEIZE of a slot in the frame that a note describes. -/
def carriedSeize (n : FrameNote) (v : VoiceNo) : Bool := if v = 0 then n.ownSeize0 else n.ownSeize1

theorem voice_cases : ∀ v : VoiceNo, v = 0 ∨ v = 1 := by decide

/-- What a slot is given to work on at a good answer: V1 comes after V0. -/
def slotEntry (n : FrameNote) (f : FrameContent) (v : VoiceNo) (p : Part) : Part :=
  if v = 0 then p else callGoodAnswer 0 f.word n.ownSeize0 p

theorem slotEntry_slot (n : FrameNote) (f : FrameContent) (v : VoiceNo) (p : Part) : callSlot (slotEntry n f v p) v = callSlot p v := by
  obtain rfl | rfl := voice_cases v
  · rfl
  · exact callGoodAnswer_ne (by decide) f.word n.ownSeize0 p

/-- The voice octets aside, a slot at a good answer is as its own work leaves it. -/
theorem callsGood_slot (n : FrameNote) (f : FrameContent) (v : VoiceNo) (p : Part) : callSlot (callsGood n f p) v =
    { callSlot (callGoodAnswer v f.word (carriedSeize n v) (slotEntry n f v p)) v with
      voiceOctets := (callSlot (callsGood n f p) v).voiceOctets } := by
  have played := playVoices_slot v n.rate f.voice0 f.voice1
    (callGoodAnswer 1 f.word n.ownSeize1 (callGoodAnswer 0 f.word n.ownSeize0 p))
  have worked : callSlot (callGoodAnswer 1 f.word n.ownSeize1 (callGoodAnswer 0 f.word n.ownSeize0 p)) v =
      callSlot (callGoodAnswer v f.word (carriedSeize n v) (slotEntry n f v p)) v := by
    obtain rfl | rfl := voice_cases v
    · rw [callGoodAnswer_ne (by decide) f.word n.ownSeize1]
      rfl
    · rfl
  exact played.trans (by rw [worked]; rfl)

/-- An order that no call owns is left at a good answer. -/
theorem callsGood_slotOf {n : FrameNote} {f : FrameContent} {k : SlotNo} {p : Part} (h : ∀ v, (callSlot p v).order ≠ some k) :
    slotOf (callsGood n f p) k = slotOf p k ∧ ∀ v, (callSlot (callsGood n f p) v).order ≠ some k := by
  obtain ⟨hslot0, horder0⟩ := callGoodAnswer_aside (v := 0) (k := k) f.word n.ownSeize0 p (h 0)
  obtain ⟨hslot1, -⟩ := callGoodAnswer_aside (v := 1) (k := k) f.word n.ownSeize1 (callGoodAnswer 0 f.word n.ownSeize0 p)
    (by rw [callGoodAnswer_ne (by decide)]; exact h 1)
  refine ⟨?_, fun v => ?_⟩
  · rw [callsGood, playVoices_slotOf, hslot1, hslot0]
  · rw [callsGood_slot]
    exact (callGoodAnswer_aside (v := v) (k := k) f.word (carriedSeize n v) (slotEntry n f v p) (by rw [slotEntry_slot]; exact h v)).2

/-- An order that the call of `v` alone owns is at the end of a good answer as the work on `v` leaves it. -/
theorem callsGood_slotOf_own {n : FrameNote} {f : FrameContent} {v : VoiceNo} {k : SlotNo} {p : Part}
    (h : ∀ u, u ≠ v → (callSlot p u).order ≠ some k) :
    slotOf (callsGood n f p) k = slotOf (callGoodAnswer v f.word (carriedSeize n v) (slotEntry n f v p)) k ∧
      slotOf (slotEntry n f v p) k = slotOf p k := by
  obtain rfl | rfl := voice_cases v
  · refine ⟨?_, rfl⟩
    have horder : (callSlot (callGoodAnswer 0 f.word n.ownSeize0 p) 1).order ≠ some k := by
      rw [callGoodAnswer_ne (by decide)]; exact h 1 (by decide)
    rw [callsGood, playVoices_slotOf, (callGoodAnswer_aside (v := 1) (k := k) f.word n.ownSeize1 _ horder).1]
    rfl
  · refine ⟨?_, (callGoodAnswer_aside (v := 0) (k := k) f.word n.ownSeize0 p (h 0 (by decide))).1⟩
    rw [callsGood, playVoices_slotOf]
    rfl

end Sys2Proof.Machine

/-! The call machine at a good answer (R176 to R181): what its turn on the summit's bits is, case by case. -/

namespace Sys2Proof.Machine

/-! ### The Supervisor's alert call (R139, R177) -/

/-- The counts of the Call Unit that R186 gives, the lapsed alert calls aside. -/
abbrev TalliesStay (p q : Part) : Prop :=
  q.calls.connects = p.calls.connects ∧ q.calls.glareWon = p.calls.glareWon ∧ q.calls.glareLost = p.calls.glareLost

theorem TalliesStay.trans {p q r : Part} (h : TalliesStay p q) (g : TalliesStay q r) : TalliesStay p r :=
  ⟨g.1.trans h.1, g.2.1.trans h.2.1, g.2.2.trans h.2.2⟩

theorem TalliesStay.of_counts {p q : Part} (h : CountsStay p q) : TalliesStay p q := by
  unfold TalliesStay
  rw [h]
  exact ⟨rfl, rfl, rfl⟩

/-- A work of the Supervisor on the calls: nothing, or the ALERT call begun on an IDLE V0. -/
structure AlertsAlone (p q : Part) : Prop where
  other : ∀ u, u ≠ 0 → callSlot q u = callSlot p u
  first : callSlot q 0 = callSlot p 0 ∨
    ((callSlot p 0).state = .idle ∧ ∃ ends, callSlot q 0 = seizingSlot .alert none ends (callSlot p 0))
  tallies : TalliesStay p q

theorem AlertsAlone.of_calls {p q : Part} (h : q.calls = p.calls) : AlertsAlone p q where
  other u _ := by rw [callSlot, h]; rfl
  first := .inl (by rw [callSlot, h]; rfl)
  tallies := by unfold TalliesStay; rw [h]; exact ⟨rfl, rfl, rfl⟩

theorem AlertsAlone.trans {p q r : Part} (h : AlertsAlone p q) (g : AlertsAlone q r) : AlertsAlone p r where
  other u hu := (g.other u hu).trans (h.other u hu)
  tallies := h.tallies.trans g.tallies
  first := by
    obtain gsame | ⟨gidle, ends, gfirst⟩ := g.first
    · rw [gsame]; exact h.first
    · obtain hsame | ⟨hidle, ends', hfirst⟩ := h.first
      · rw [hsame] at gidle gfirst; exact .inr ⟨gidle, ends, gfirst⟩
      · rw [hfirst] at gidle; cases gidle

theorem originate_counts (v : VoiceNo) (o : Originator) (order : Option SlotNo) (p : Part) : CountsStay p (originate v o order p) :=
  CountsStay.trans (modCall_counts v _ p) (enterCall_counts v .seizing _)

theorem alertRequest_alone (p : Part) : AlertsAlone p (alertRequest p) := by
  unfold alertRequest
  dsimp only
  split
  next h =>
    obtain ⟨hidle, -⟩ := Bool.and_eq_true_iff.mp h
    exact ⟨fun u hu => originate_ne hu _ _ p, .inr ⟨by simpa using hidle, _, originate_slot 0 .alert none p⟩,
      .of_counts (originate_counts 0 .alert none p)⟩
  next => exact ⟨fun _ _ => rfl, .inl rfl, rfl, rfl, rfl⟩

theorem enterMode_alone (m : Mode) (p : Part) : AlertsAlone p (enterMode m p) := by
  by_cases hm : p.sup.mode = m
  · rw [enterMode_same hm]; exact .of_calls rfl
  · have switched : (modeSwitched m p).calls = p.calls := (modeSwitched_kept m p).2
    have composed : (callLaunch (composeCeiling (modeSwitched m p))).calls = p.calls :=
      (composeCeiling_kept (modeSwitched m p)).2.1.trans switched
    have entered : (noteStopEntry p.sup.mode (callLaunch (composeCeiling (modeSwitched m p)))).calls = p.calls := by
      unfold noteStopEntry
      split
      · exact composed
      · exact composed
    have alerted (q : Part) : AlertsAlone q (alertOnFastStop q) := by
      unfold alertOnFastStop
      split
      · exact alertRequest_alone q
      · exact .of_calls rfl
    have noted (q : Part) : AlertsAlone q (attend .mode (modSup stopModeTimers q)) := .of_calls rfl
    rw [enterMode_eq hm]
    exact ((AlertsAlone.of_calls entered).trans (alerted _)).trans (noted _)

theorem report_alone (k : CauseKind) (n : Nat) (c : Category) (b : Bool) (p : Part) : AlertsAlone p (report k n c b p) := by
  have noted : AlertsAlone p (causeNoted k n c b p) := .of_calls (causeNoted_undisturbed k n c b p).2.1
  rw [report_eq]
  unfold changeMode standstillEvent
  dsimp only
  (repeat' split)
  · exact (noted.trans (enterMode_alone _ _)).trans (enterMode_alone _ _)
  · exact (noted.trans (enterMode_alone _ _)).trans (enterMode_alone _ _)
  · exact noted.trans (enterMode_alone _ _)
  · exact noted.trans (enterMode_alone _ _)

theorem refreshServiceStop_calls (svc was : Bool) (p : Part) : (refreshServiceStop svc was p).calls = p.calls := by
  unfold refreshServiceStop
  (repeat' split)
  · exact report_service_calls _ _ _ p
  · exact (gone_kept _ _ _).2.1
  · rfl

theorem refreshFastStop_alone (fast was : Bool) (p : Part) : AlertsAlone p (refreshFastStop fast was p) ∧
    (fast = false ∨ was = true → (refreshFastStop fast was p).calls = p.calls) := by
  unfold refreshFastStop
  split
  next h =>
    obtain ⟨hfast, hwas⟩ := Bool.and_eq_true_iff.mp h
    refine ⟨report_alone _ _ _ _ p, fun hno => ?_⟩
    simp [hfast] at hno
    simp [hno] at hwas
  next =>
    have stays : (if (!fast && was) = true then gone .summitFastStop 0 p else p).calls = p.calls := by
      split
      · exact (gone_kept _ _ _).2.1
      · rfl
    exact ⟨.of_calls stays, fun _ => stays⟩

theorem refreshSummitStops_alone (p : Part) : AlertsAlone p (refreshSummitStops p) ∧
    (summitBit p.line 2 = false ∨ p.sup.stopFastStands = true → (refreshSummitStops p).calls = p.calls) := by
  have first : (refreshServiceStop (p.line.state == .up && summitBit p.line 1) p.sup.stopServiceStands (stopsNoted p)).calls =
      p.calls := refreshServiceStop_calls _ _ _
  obtain ⟨alone, still⟩ := refreshFastStop_alone (p.line.state == .up && summitBit p.line 2) p.sup.stopFastStands
    (refreshServiceStop (p.line.state == .up && summitBit p.line 1) p.sup.stopServiceStands (stopsNoted p))
  rw [refreshSummitStops_eq]
  refine ⟨(AlertsAlone.of_calls first).trans alone, fun h => (still ?_).trans first⟩
  exact h.imp_left fun hbit => by rw [hbit, Bool.and_false]

/-- A word taken begins at most the ALERT call, and that only where STOP_FAST comes to stand. -/
theorem takeWord_alone (w : Half) (p : Part) : AlertsAlone p (takeWord w p) ∧
    (summitBit (acceptWord w p.line) 2 = false ∨ p.sup.stopFastStands = true → (takeWord w p).calls = p.calls) := by
  by_cases h : (acceptWord w p.line).accepted = p.line.accepted
  · rw [takeWord_unchanged h]
    exact ⟨.of_calls rfl, fun _ => rfl⟩
  · obtain ⟨alone, still⟩ := refreshSummitStops_alone (wordAnnounced w p)
    have wind : (refreshWindCap (refreshSummitStops (wordAnnounced w p))).calls = (refreshSummitStops (wordAnnounced w p)).calls :=
      (refreshWindCap_kept _).2.1
    have announced : AlertsAlone p (wordAnnounced w p) := .of_calls rfl
    rw [takeWord_changed h]
    exact ⟨(announced.trans alone).trans (.of_calls wind), fun hno => wind.trans (still hno)⟩

/-! ### A slot's turn on the summit's bits -/

/-- A glare that the valley wins is counted. -/
def countGlareWon (p : Part) : Part := { p with calls := { p.calls with glareWon := count16 p.calls.glareWon } }

theorem callSlot_countGlareWon (u : VoiceNo) (p : Part) : callSlot (countGlareWon p) u = callSlot p u := rfl

theorem bitsTaken_slot (v : VoiceNo) (p : Part) : callSlot (bitsTaken v p) v = { callSlot p v with
    goodSinceUp := min 2 ((callSlot p v).goodSinceUp + 1)
    seizeTaken := decide (1 ≤ (callSlot p v).goodSinceUp) && summitBit p.line (seizeBit v)
    answerTaken := decide (1 ≤ (callSlot p v).goodSinceUp) && summitBit p.line (seizeBit v + 1) } := by
  have second : (min 2 ((callSlot p v).goodSinceUp + 1) == 2) = decide (1 ≤ (callSlot p v).goodSinceUp) := by
    by_cases h : 1 ≤ (callSlot p v).goodSinceUp
    · rw [decide_eq_true h, Nat.min_eq_left (by omega)]; rfl
    · rw [decide_eq_false h, Nat.min_eq_right (by omega), beq_eq_false_iff_ne]; omega
  rw [bitsTaken, callSlot_modCall_same, second]

section
variable {v : VoiceNo} {now before : Bool} {p : Part}

theorem seizeTurn_stands (h : now = true ∧ before = false) : seizeTurn v now before p = seizeStands v p := by
  obtain ⟨rfl, rfl⟩ := h; rfl

theorem seizeTurn_drops (h : now = false ∧ before = true) : seizeTurn v now before p = seizeDrops v p := by
  obtain ⟨rfl, rfl⟩ := h; rfl

theorem answerTurn_stands (h : now = true ∧ before = false) : answerTurn v now before p = answerStands v p := by
  obtain ⟨rfl, rfl⟩ := h; rfl

theorem answerTurn_drops (h : now = false ∧ before = true) : answerTurn v now before p = answerDrops v p := by
  obtain ⟨rfl, rfl⟩ := h; rfl

/-- A SEIZE that drops is no matter in a call that waits for its answer, nor in one connected or clearing but for the answerer. -/
theorem seizeTurn_rests (hstands : ¬ (now = true ∧ before = false) ∨
      (callSlot p v).state ∈ [CallState.unavailable, .ringingIn, .connected, .clearing])
    (hdrops : ¬ (now = false ∧ before = true) ∨ (callSlot p v).state ∈ [CallState.unavailable, .idle, .seizing, .ringingOut] ∨
      ((callSlot p v).state = .connected ∧ (callSlot p v).role ≠ .answerer) ∨
      ((callSlot p v).state = .clearing ∧ ((callSlot p v).clearedBySummit = true ∨ (callSlot p v).role ≠ .answerer))) :
    seizeTurn v now before p = p := by
  unfold seizeTurn
  split
  next h =>
    have hst := hstands.resolve_left (by simpa using h)
    unfold seizeStands
    split <;> simp_all
  next =>
    split
    next h =>
      have hst := hdrops.resolve_left (by simpa using h)
      unfold seizeDrops
      dsimp only
      split <;> grind
    next => rfl

/-- An ANSWER is no matter in an unused slot or one that rings, nor does its drop matter in a connected or clearing call but for the
caller. -/
theorem answerTurn_rests (hstands : ¬ (now = true ∧ before = false) ∨
      (callSlot p v).state ∈ [CallState.unavailable, .idle, .ringingIn, .connected, .clearing])
    (hdrops : ¬ (now = false ∧ before = true) ∨ (callSlot p v).state ∈ [CallState.unavailable, .idle, .seizing, .ringingOut, .ringingIn] ∨
      ((callSlot p v).state = .connected ∧ (callSlot p v).role ≠ .caller) ∨
      ((callSlot p v).state = .clearing ∧ ((callSlot p v).clearedBySummit = true ∨ (callSlot p v).role ≠ .caller))) :
    answerTurn v now before p = p := by
  unfold answerTurn
  split
  next h =>
    have hst := hstands.resolve_left (by simpa using h)
    unfold answerStands
    split <;> simp_all
  next =>
    split
    next h =>
      have hst := hdrops.resolve_left (by simpa using h)
      unfold answerDrops
      dsimp only
      split <;> grind
    next => rfl

end

end Sys2Proof.Machine

/-! O60: the call timers, and what an answer does to a call (R175 to R181, R183). -/

namespace Sys2Proof.Machine

/-! ### The four things a slot may see in the summit's bits (R176) -/

abbrev SeizeStands (v : VoiceNo) (p : Part) : Prop := (callSlot (bitsTaken v p) v).seizeTaken = true ∧ (callSlot p v).seizeTaken = false
abbrev SeizeDrops (v : VoiceNo) (p : Part) : Prop := (callSlot (bitsTaken v p) v).seizeTaken = false ∧ (callSlot p v).seizeTaken = true
abbrev AnswerStands (v : VoiceNo) (p : Part) : Prop := (callSlot (bitsTaken v p) v).answerTaken = true ∧ (callSlot p v).answerTaken = false
abbrev AnswerDrops (v : VoiceNo) (p : Part) : Prop := (callSlot (bitsTaken v p) v).answerTaken = false ∧ (callSlot p v).answerTaken = true

/-- The bit that a connected or clearing call's role looks at drops (R181). -/
abbrev AwaitedDrops (v : VoiceNo) (p : Part) : Prop :=
  ((callSlot p v).role = .caller ∧ AnswerDrops v p) ∨ ((callSlot p v).role = .answerer ∧ SeizeDrops v p)

/-! ### The turn, case by case -/

section
variable {v : VoiceNo} {p : Part}

theorem bitsTaken_state (v : VoiceNo) (p : Part) : (callSlot (bitsTaken v p) v).state = (callSlot p v).state ∧
    (callSlot (bitsTaken v p) v).role = (callSlot p v).role ∧
    (callSlot (bitsTaken v p) v).clearedBySummit = (callSlot p v).clearedBySummit ∧
    (callSlot (bitsTaken v p) v).hook = (callSlot p v).hook := by
  rw [bitsTaken_slot]
  exact ⟨rfl, rfl, rfl, rfl⟩

theorem incoming_state (v : VoiceNo) (p : Part) : (callSlot (incoming v p) v).role = .answerer ∧
    ((callSlot (incoming v p) v).state = .connected ∨ (callSlot (incoming v p) v).state = .ringingIn) := by
  rw [incoming_slot]
  split
  · exact ⟨rfl, .inl rfl⟩
  · exact ⟨rfl, .inr rfl⟩

/-- After an incoming call the ANSWER bit is no matter. -/
theorem answerTurn_incoming (now before : Bool) (q : Part) : answerTurn v now before (incoming v q) = incoming v q := by
  obtain ⟨hrole, hstate⟩ := incoming_state v q
  have answerer : (callSlot (incoming v q) v).role ≠ .caller := by rw [hrole]; decide
  refine answerTurn_rests (.inr ?_) (.inr ?_)
  · obtain h | h := hstate <;> rw [h] <;> decide
  · obtain h | h := hstate
    · exact .inr (.inl ⟨h, answerer⟩)
    · exact .inl (by rw [h]; decide)

/-- Glare that the valley wins is counted, and nothing more (R178). -/
theorem takeSummitBits_wins (hstate : (callSlot p v).state ∈ [CallState.seizing, .ringingOut]) (hseize : SeizeStands v p)
    (hanswer : ¬ AnswerStands v p) (hwins : p.line.summitPriority ≤ p.line.valleyPriority) :
    takeSummitBits v p = countGlareWon (bitsTaken v p) := by
  have hbits := (bitsTaken_state v p).1
  have glared : seizeStands v (bitsTaken v p) = countGlareWon (bitsTaken v p) := by
    have won : glare v (bitsTaken v p) = countGlareWon (bitsTaken v p) := if_pos hwins
    unfold seizeStands
    simp only [List.mem_cons, List.not_mem_nil, or_false] at hstate
    rw [hbits]
    obtain h | h := hstate <;> rw [h] <;> exact won
  rw [takeSummitBits_eq, seizeTurn_stands hseize, glared]
  refine answerTurn_rests (.inl hanswer) (.inr (.inl ?_))
  rw [callSlot_countGlareWon, hbits]
  simp only [List.mem_cons, List.not_mem_nil, or_false] at hstate ⊢
  exact .inr (.inr (hstate.imp_right .inl))

/-- Glare that the valley loses is counted, its order answered, and the summit's call comes in (R178). -/
theorem takeSummitBits_loses (hstate : (callSlot p v).state ∈ [CallState.seizing, .ringingOut]) (hseize : SeizeStands v p)
    (hloses : ¬ p.line.summitPriority ≤ p.line.valleyPriority) :
    takeSummitBits v p = incoming v (answerCall v .failed 4 (countGlareLost (bitsTaken v p))) := by
  have glared : seizeStands v (bitsTaken v p) = incoming v (answerCall v .failed 4 (countGlareLost (bitsTaken v p))) := by
    have lost := glare_lost (v := v) (p := bitsTaken v p) hloses
    unfold seizeStands
    simp only [List.mem_cons, List.not_mem_nil, or_false] at hstate
    rw [(bitsTaken_state v p).1]
    obtain h | h := hstate <;> rw [h] <;> exact lost
  rw [takeSummitBits_eq, seizeTurn_stands hseize, glared, answerTurn_incoming]

/-- A SEIZE that comes to stand on an IDLE slot is an incoming call (R180). -/
theorem takeSummitBits_incoming (hstate : (callSlot p v).state = .idle) (hseize : SeizeStands v p) :
    takeSummitBits v p = incoming v (bitsTaken v p) := by
  have came : seizeStands v (bitsTaken v p) = incoming v (bitsTaken v p) := by
    unfold seizeStands
    rw [(bitsTaken_state v p).1, hstate]
  rw [takeSummitBits_eq, seizeTurn_stands hseize, came, answerTurn_incoming]

/-- A SEIZE that drops ends an incoming call that rings (R180). -/
theorem takeSummitBits_ringEnds (hstate : (callSlot p v).state = .ringingIn) (hseize : SeizeDrops v p) :
    takeSummitBits v p = callToIdle v (modCall v (fun c => { c with reason := .farClear }) (bitsTaken v p)) := by
  have ended : seizeDrops v (bitsTaken v p) = callToIdle v (modCall v (fun c => { c with reason := .farClear }) (bitsTaken v p)) := by
    unfold seizeDrops
    dsimp only
    rw [(bitsTaken_state v p).1, hstate]
  have idle : (callSlot (callToIdle v (modCall v (fun c => { c with reason := .farClear }) (bitsTaken v p))) v).state = .idle := by
    rw [callToIdle_slot]; rfl
  rw [takeSummitBits_eq, seizeTurn_drops hseize, ended]
  exact answerTurn_rests (.inr (by rw [idle]; decide)) (.inr (.inl (by rw [idle]; decide)))

/-- An ANSWER that comes to stand connects a call that waits for it, where no SEIZE comes to stand (R179). -/
theorem takeSummitBits_connects (hstate : (callSlot p v).state ∈ [CallState.seizing, .ringingOut]) (hseize : ¬ SeizeStands v p)
    (hanswer : AnswerStands v p) : takeSummitBits v p = connect v (bitsTaken v p) := by
  have hbits := (bitsTaken_state v p).1
  simp only [List.mem_cons, List.not_mem_nil, or_false] at hstate
  have seize : seizeTurn v (callSlot (bitsTaken v p) v).seizeTaken (callSlot p v).seizeTaken (bitsTaken v p) = bitsTaken v p := by
    refine seizeTurn_rests (.inl hseize) (.inr (.inl ?_))
    rw [hbits]
    simp only [List.mem_cons, List.not_mem_nil, or_false]
    exact .inr (.inr hstate)
  rw [takeSummitBits_eq, seize, answerTurn_stands hanswer, answerStands, hbits]
  obtain h | h := hstate <;> rw [h]

/-- The bits are no matter where none of them bears on the state. -/
theorem takeSummitBits_rests (hstate : (callSlot p v).state ∈ [CallState.connected, .clearing])
    (hdrops : ¬ AwaitedDrops v p ∨ ((callSlot p v).state = .clearing ∧ (callSlot p v).clearedBySummit = true)) :
    takeSummitBits v p = bitsTaken v p := by
  obtain ⟨hbits, hrole, hcleared, -⟩ := bitsTaken_state v p
  simp only [List.mem_cons, List.not_mem_nil, or_false] at hstate
  have standing (l : List CallState) (hl : CallState.connected ∈ l) (hl' : CallState.clearing ∈ l) : (callSlot p v).state ∈ l := by
    obtain h | h := hstate <;> rw [h]
    · exact hl
    · exact hl'
  have seize : seizeTurn v (callSlot (bitsTaken v p) v).seizeTaken (callSlot p v).seizeTaken (bitsTaken v p) = bitsTaken v p := by
    refine seizeTurn_rests (.inr ?_) ?_
    · rw [hbits]; exact standing _ (by decide) (by decide)
    · rw [hbits, hrole, hcleared]; grind
  have answer : answerTurn v (callSlot (bitsTaken v p) v).answerTaken (callSlot p v).answerTaken (bitsTaken v p) = bitsTaken v p := by
    refine answerTurn_rests (.inr ?_) ?_
    · rw [hbits]; exact standing _ (by decide) (by decide)
    · rw [hbits, hrole, hcleared]; grind
  rw [takeSummitBits_eq, seize, answer]

/-- The drop that a call's role looks at, alone of the two, reaches its own half of the turn. -/
theorem takeSummitBits_drops {q : Part} (hstate : (callSlot p v).state ∈ [CallState.connected, .clearing]) (hdrops : AwaitedDrops v p)
    (hseize : (callSlot p v).role = .answerer → seizeDrops v (bitsTaken v p) = q)
    (hanswer : (callSlot p v).role = .caller → answerDrops v (bitsTaken v p) = q)
    (hrests : (callSlot q v).state = .idle ∨ ((callSlot q v).state = .clearing ∧ (callSlot q v).clearedBySummit = true)) :
    takeSummitBits v p = q := by
  obtain ⟨hbits, hrole, -⟩ := bitsTaken_state v p
  simp only [List.mem_cons, List.not_mem_nil, or_false] at hstate
  rw [takeSummitBits_eq]
  obtain ⟨hcaller, hdrop⟩ | ⟨hanswerer, hdrop⟩ := hdrops
  · have seize : seizeTurn v (callSlot (bitsTaken v p) v).seizeTaken (callSlot p v).seizeTaken (bitsTaken v p) = bitsTaken v p := by
      refine seizeTurn_rests (.inr ?_) (.inr (.inr ?_))
      · rw [hbits]; obtain h | h := hstate <;> simp [h]
      · rw [hbits, hrole, hcaller]
        exact hstate.imp (fun h => ⟨h, by decide⟩) (fun h => ⟨h, .inr (by decide)⟩)
    rw [seize, answerTurn_drops hdrop, hanswer hcaller]
  · rw [seizeTurn_drops hdrop, hseize hanswerer]
    refine answerTurn_rests (.inr ?_) (.inr ?_)
    · obtain h | ⟨h, -⟩ := hrests <;> simp [h]
    · obtain h | ⟨h, hcleared⟩ := hrests
      · exact .inl (by simp [h])
      · exact .inr (.inr ⟨h, .inl hcleared⟩)

/-- The summit clears first (R181). -/
theorem takeSummitBits_farClears (hstate : (callSlot p v).state = .connected) (hdrops : AwaitedDrops v p) :
    takeSummitBits v p = clearBySummit v (bitsTaken v p) := by
  obtain ⟨hbits, hrole, -⟩ := bitsTaken_state v p
  refine takeSummitBits_drops (by simp [hstate]) hdrops (fun h => ?_) (fun h => ?_) ?_
  · simp [seizeDrops, hbits, hstate, hrole, h]
  · simp [answerDrops, hbits, hstate, hrole, h]
  · rw [clearBySummit_slot]
    split
    · exact .inr ⟨rfl, rfl⟩
    · exact .inl rfl

/-- The summit ends a clearing of the valley's (R181). -/
theorem takeSummitBits_clearingEnds (hstate : (callSlot p v).state = .clearing) (hcleared : (callSlot p v).clearedBySummit = false)
    (hdrops : AwaitedDrops v p) : takeSummitBits v p = callToIdle v (bitsTaken v p) := by
  obtain ⟨hbits, hrole, hsummit, -⟩ := bitsTaken_state v p
  refine takeSummitBits_drops (by simp [hstate]) hdrops (fun h => ?_) (fun h => ?_) ?_
  · simp [seizeDrops, hbits, hstate, hrole, hsummit, hcleared, h]
  · simp [answerDrops, hbits, hstate, hrole, hsummit, hcleared, h]
  · rw [callToIdle_slot]; exact .inl rfl

/-- An UNAVAILABLE slot only notes the bits. -/
theorem takeSummitBits_unavailable (hstate : (callSlot p v).state = .unavailable) : takeSummitBits v p = bitsTaken v p := by
  have hbits := (bitsTaken_state v p).1.trans hstate
  rw [takeSummitBits_eq, seizeTurn_rests (.inr (by rw [hbits]; decide)) (.inr (.inl (by rw [hbits]; decide))),
    answerTurn_rests (.inr (by rw [hbits]; decide)) (.inr (.inl (by rw [hbits]; decide)))]

/-! ### What every turn leaves -/

/-- The bits as taken, the count of good answers and the handset. -/
abbrev TakenStays (c d : CallSlot) : Prop :=
  d.seizeTaken = c.seizeTaken ∧ d.answerTaken = c.answerTaken ∧ d.goodSinceUp = c.goodSinceUp ∧ d.hook = c.hook

theorem connect_takes (q : Part) : TakenStays (callSlot q v) (callSlot (connect v q) v) := by
  rw [connect_slot]; exact ⟨rfl, rfl, rfl, rfl⟩

theorem incoming_takes (q : Part) : TakenStays (callSlot q v) (callSlot (incoming v q) v) := by
  rw [incoming_slot]; split <;> exact ⟨rfl, rfl, rfl, rfl⟩

theorem clearBySummit_takes (q : Part) : TakenStays (callSlot q v) (callSlot (clearBySummit v q) v) := by
  rw [clearBySummit_slot]; split <;> exact ⟨rfl, rfl, rfl, rfl⟩

theorem callToIdle_takes (q : Part) : TakenStays (callSlot q v) (callSlot (callToIdle v q) v) := by
  rw [callToIdle_slot]; exact ⟨rfl, rfl, rfl, rfl⟩

theorem glare_takes (q : Part) : TakenStays (callSlot q v) (callSlot (glare v q) v) := by
  by_cases h : q.line.summitPriority ≤ q.line.valleyPriority
  · rw [glare, if_pos h]; exact ⟨rfl, rfl, rfl, rfl⟩
  · obtain ⟨h1, h2, h3, h4⟩ := incoming_takes (v := v) (answerCall v .failed 4 (countGlareLost q))
    rw [answerCall_slot, callSlot_countGlareLost] at h1 h2 h3 h4
    rw [glare_lost h]
    exact ⟨h1, h2, h3, h4⟩

theorem seizeTurn_takes (now before : Bool) (q : Part) : TakenStays (callSlot q v) (callSlot (seizeTurn v now before q) v) := by
  have same : TakenStays (callSlot q v) (callSlot q v) := ⟨rfl, rfl, rfl, rfl⟩
  unfold seizeTurn
  split
  · unfold seizeStands
    split
    · exact incoming_takes q
    · exact glare_takes q
    · exact glare_takes q
    · exact same
  · split
    · unfold seizeDrops
      dsimp only
      split
      · have ended := callToIdle_takes (v := v) (modCall v (fun c => { c with reason := .farClear }) q)
        rwa [callSlot_modCall_same] at ended
      · split
        · exact clearBySummit_takes q
        · exact same
      · split
        · exact callToIdle_takes q
        · exact same
      · exact same
    · exact same

theorem answerTurn_takes (now before : Bool) (q : Part) : TakenStays (callSlot q v) (callSlot (answerTurn v now before q) v) := by
  have same : TakenStays (callSlot q v) (callSlot q v) := ⟨rfl, rfl, rfl, rfl⟩
  unfold answerTurn
  split
  · unfold answerStands
    split
    · exact connect_takes q
    · exact connect_takes q
    · exact same
  · split
    · unfold answerDrops
      dsimp only
      split
      · split
        · exact clearBySummit_takes q
        · exact same
      · split
        · exact callToIdle_takes q
        · exact same
      · exact same
    · exact same

theorem takeSummitBits_takes (v : VoiceNo) (p : Part) :
    TakenStays (callSlot (bitsTaken v p) v) (callSlot (takeSummitBits v p) v) := by
  obtain ⟨hs, ha, hg, hh⟩ := seizeTurn_takes (v := v) (callSlot (bitsTaken v p) v).seizeTaken (callSlot p v).seizeTaken (bitsTaken v p)
  obtain ⟨gs, ga, gg, gh⟩ := answerTurn_takes (v := v) (callSlot (bitsTaken v p) v).answerTaken (callSlot p v).answerTaken
    (seizeTurn v (callSlot (bitsTaken v p) v).seizeTaken (callSlot p v).seizeTaken (bitsTaken v p))
  rw [takeSummitBits_eq]
  exact ⟨gs.trans hs, ga.trans ha, gg.trans hg, gh.trans hh⟩

end

/-! ### After the turn: the count for SEIZING and the free run (R176, R177) -/

/-- What follows a slot's turn leaves of its call: all but the counts of answers and the voice octets. -/
abbrev CountsAfter (c d : CallSlot) : Prop :=
  d = { c with seizeAnswers := d.seizeAnswers, freeRun := d.freeRun, voiceOctets := d.voiceOctets }

section
variable {v : VoiceNo} {w : Half} {b : Bool} {p : Part}

theorem updateFreeRun_slot (v : VoiceNo) (w : Half) (b : Bool) (q : Part) :
    CountsAfter (callSlot q v) (callSlot (updateFreeRun v w b q) v) := by
  unfold updateFreeRun
  dsimp only
  rw [callSlot_modCall_same]

/-- Where the slot is not SEIZING, or a glare came with the answer, the count for SEIZING changes no state. -/
theorem countSeizing_rests {glareNow : Bool} {q : Part} (h : (callSlot q v).state ≠ .seizing ∨ glareNow = true) :
    CountsAfter (callSlot q v) (callSlot (countSeizing v b glareNow q) v) ∧ (countSeizing v b glareNow q).window = q.window ∧
      CountsStay q (countSeizing v b glareNow q) := by
  unfold countSeizing
  dsimp only
  split
  next hcounts =>
    have hglare : glareNow = true := h.resolve_left (by simp at hcounts; simp [hcounts])
    rw [if_neg (by simp [hglare])]
    exact ⟨by rw [callSlot_modCall_same], rfl, rfl⟩
  next => exact ⟨rfl, rfl, rfl⟩

/-- The work of one good answer on a slot, where the count for SEIZING does not move it to RINGING_OUT. -/
theorem callGoodAnswer_rests (h : (callSlot (takeSummitBits v p) v).state ≠ .seizing ∨ SeizeStands v p) :
    CountsAfter (callSlot (takeSummitBits v p) v) (callSlot (callGoodAnswer v w b p) v) ∧
      (callGoodAnswer v w b p).window = (takeSummitBits v p).window ∧ CountsStay (takeSummitBits v p) (callGoodAnswer v w b p) := by
  obtain ⟨hseize, -⟩ := takeSummitBits_takes v p
  obtain ⟨hslot, hwindow, hcounts⟩ := countSeizing_rests (b := b) (q := takeSummitBits v p)
    (glareNow := (callSlot (takeSummitBits v p) v).seizeTaken && !(callSlot p v).seizeTaken)
    (h.imp_right fun ⟨hnow, hbefore⟩ => by rw [hseize, hnow, hbefore]; rfl)
  refine ⟨?_, hwindow, hcounts.trans (modCall_counts v _ _)⟩
  have hfree := updateFreeRun_slot v w b (countSeizing v b
    ((callSlot (takeSummitBits v p) v).seizeTaken && !(callSlot p v).seizeTaken) (takeSummitBits v p))
  rw [hslot] at hfree
  exact hfree

theorem countSeizing_takes (glareNow : Bool) (q : Part) : TakenStays (callSlot q v) (callSlot (countSeizing v b glareNow q) v) := by
  unfold countSeizing
  dsimp only
  split
  · split
    · rw [enterCall_slot, callSlot_modCall_same]; exact ⟨rfl, rfl, rfl, rfl⟩
    · rw [callSlot_modCall_same]; exact ⟨rfl, rfl, rfl, rfl⟩
  · exact ⟨rfl, rfl, rfl, rfl⟩

theorem callGoodAnswer_takes (v : VoiceNo) (w : Half) (b : Bool) (p : Part) :
    TakenStays (callSlot (bitsTaken v p) v) (callSlot (callGoodAnswer v w b p) v) := by
  obtain ⟨hs, ha, hg, hh⟩ := takeSummitBits_takes v p
  obtain ⟨gs, ga, gg, gh⟩ := countSeizing_takes (v := v) (b := b)
    ((callSlot (takeSummitBits v p) v).seizeTaken && !(callSlot p v).seizeTaken) (takeSummitBits v p)
  have hfree := updateFreeRun_slot v w b (countSeizing v b
    ((callSlot (takeSummitBits v p) v).seizeTaken && !(callSlot p v).seizeTaken) (takeSummitBits v p))
  show TakenStays _ (callSlot (updateFreeRun v w b _) v)
  rw [hfree]
  exact ⟨gs.trans hs, ga.trans ha, gg.trans hg, gh.trans hh⟩

theorem callGoodAnswer_unavailable (h : (callSlot p v).state = .unavailable) : CountsStay p (callGoodAnswer v w b p) ∧
    (callSlot (callGoodAnswer v w b p) v).state = .unavailable := by
  have hbits : takeSummitBits v p = bitsTaken v p := takeSummitBits_unavailable h
  have hstate : (callSlot (bitsTaken v p) v).state = .unavailable := (bitsTaken_state v p).1.trans h
  obtain ⟨hslot, -, hcounts⟩ := callGoodAnswer_rests (v := v) (w := w) (b := b) (p := p) (.inl (by rw [hbits, hstate]; decide))
  rw [hbits] at hslot hcounts
  refine ⟨CountsStay.trans (modCall_counts v _ p) hcounts, ?_⟩
  rw [hslot]
  exact hstate

end

end Sys2Proof.Machine

/-! O60: the call timers, and what an answer does to a call (R175 to R181, R183). -/

namespace Sys2Proof.Machine

/-! ### A slot before and after its work at a good answer in UP -/

section
variable {fr : Option SummitFrame} {n : FrameNote} {rest : List FrameNote} {s : State}

/-- The part that a slot's work at a good answer begins from. -/
def callEntry (fr : Option SummitFrame) (n : FrameNote) (rest : List FrameNote) (v : VoiceNo) (p : Part) : Part :=
  slotEntry n (answerRead fr n) v (messagesTaken n (answerRead fr n) (wordTaken fr n rest p))

theorem slotEntry_kept (n : FrameNote) (f : FrameContent) (v : VoiceNo) (p : Part) : CallKeeps p (slotEntry n f v p) := by
  unfold slotEntry
  split
  · simp [CallKeeps, PortKept]
  · exact callGoodAnswer_kept _ _ _ p

theorem wordTaken_alone (fr : Option SummitFrame) (n : FrameNote) (rest : List FrameNote) (p : Part) :
    AlertsAlone p (wordTaken fr n rest p) ∧
      (acceptedAt p.line (answerRead fr n).word 2 = false ∨ p.sup.stopFastStands = true → (wordTaken fr n rest p).calls = p.calls) := by
  obtain ⟨alone, still⟩ := takeWord_alone (answerRead fr n).word (wordPart fr n rest p)
  have before : AlertsAlone p (wordPart fr n rest p) := .of_calls rfl
  refine ⟨before.trans alone, fun h => still (h.imp_left fun hbit => ?_)⟩
  rw [summitBit, acceptWord_bit _ _ (by decide), wordPart_acceptedAt]
  exact hbit

theorem messagesTaken_alone (fr : Option SummitFrame) (n : FrameNote) (rest : List FrameNote) (p : Part) :
    AlertsAlone p (messagesTaken n (answerRead fr n) (wordTaken fr n rest p)) :=
  (wordTaken_alone fr n rest p).1.trans (.of_calls (messagesTaken_leaves _ _ _).2.2.1)

theorem callEntry_slot (fr : Option SummitFrame) (n : FrameNote) (rest : List FrameNote) (v : VoiceNo) (p : Part) :
    callSlot (callEntry fr n rest v p) v = callSlot (wordTaken fr n rest p) v := by
  rw [callEntry, slotEntry_slot, callSlot, (messagesTaken_leaves _ _ _).2.2.1]; rfl

/-- A slot is found as it stood, or V0 with the ALERT call just begun. -/
theorem callEntry_found (fr : Option SummitFrame) (n : FrameNote) (rest : List FrameNote) (v : VoiceNo) (p : Part) :
    callSlot (callEntry fr n rest v p) v = callSlot p v ∨
      (v = 0 ∧ (callSlot p 0).state = .idle ∧ acceptedAt p.line (answerRead fr n).word 2 = true ∧ p.sup.stopFastStands = false ∧
        ∃ ends, callSlot (callEntry fr n rest v p) v = seizingSlot .alert none ends (callSlot p v)) := by
  obtain ⟨alone, still⟩ := wordTaken_alone fr n rest p
  rw [callEntry_slot]
  obtain rfl | rfl := voice_cases v
  · by_cases hstop : acceptedAt p.line (answerRead fr n).word 2 = false ∨ p.sup.stopFastStands = true
    · exact .inl (by rw [callSlot, still hstop]; rfl)
    · obtain hsame | ⟨hidle, halert⟩ := alone.first
      · exact .inl hsame
      · exact .inr ⟨rfl, hidle, by simpa using fun h => hstop (.inl h), by simpa using fun h => hstop (.inr h), halert⟩
  · exact .inl (alone.other 1 (by decide))

theorem callEntry_takes (fr : Option SummitFrame) (n : FrameNote) (rest : List FrameNote) (v : VoiceNo) (p : Part) :
    TakenStays (callSlot p v) (callSlot (callEntry fr n rest v p) v) := by
  obtain h | ⟨-, -, -, -, ends, h⟩ := callEntry_found fr n rest v p <;> rw [h] <;> exact ⟨rfl, rfl, rfl, rfl⟩

theorem wordTaken_clock (fr : Option SummitFrame) (n : FrameNote) (rest : List FrameNote) (p : Part) :
    (wordTaken fr n rest p).clock = p.clock := (takeWord_kept _ (wordPart fr n rest p)).1.1

theorem callEntry_line (fr : Option SummitFrame) (n : FrameNote) (rest : List FrameNote) (v : VoiceNo) (p : Part) :
    (callEntry fr n rest v p).line = acceptWord (answerRead fr n).word (wordPart fr n rest p).line ∧
      (callEntry fr n rest v p).clock = p.clock := by
  obtain ⟨hclock, -, -, -, -, -, -, -, -, -, hline, -⟩ := slotEntry_kept n (answerRead fr n) v (messagesTaken n (answerRead fr n) (wordTaken fr n rest p))
  obtain ⟨-, gline, -, -, -, gclock⟩ := messagesTaken_leaves n (answerRead fr n) (wordTaken fr n rest p)
  exact ⟨(hline.trans gline).trans (wordTaken_line fr n rest p), (hclock.trans gclock).trans (wordTaken_clock fr n rest p)⟩

/-- The bits that a slot takes at a good answer in UP. -/
theorem callEntry_bits (fr : Option SummitFrame) (n : FrameNote) (rest : List FrameNote) (v : VoiceNo) (p : Part) :
    callSlot (bitsTaken v (callEntry fr n rest v p)) v = { callSlot (callEntry fr n rest v p) v with
      goodSinceUp := min 2 ((callSlot p v).goodSinceUp + 1)
      seizeTaken := decide (1 ≤ (callSlot p v).goodSinceUp) && acceptedAt p.line (answerRead fr n).word (4 + 2 * v.val)
      answerTaken := decide (1 ≤ (callSlot p v).goodSinceUp) && acceptedAt p.line (answerRead fr n).word (5 + 2 * v.val) } := by
  obtain ⟨hline, -⟩ := callEntry_line fr n rest v p
  obtain ⟨-, -, hgood, -⟩ := callEntry_takes fr n rest v p
  have bit {b : Nat} (hb : b < 16) : summitBit (callEntry fr n rest v p).line b = acceptedAt p.line (answerRead fr n).word b := by
    rw [summitBit, hline, acceptWord_bit _ _ hb, wordPart_acceptedAt]
  have numbers : seizeBit v = 4 + 2 * v.val ∧ seizeBit v + 1 = 5 + 2 * v.val ∧ 5 + 2 * v.val < 16 := by
    obtain rfl | rfl := voice_cases v <;> decide
  obtain ⟨hs, ha, hlt⟩ := numbers
  rw [bitsTaken_slot, hgood, ha, hs, bit hlt, bit (by omega)]

/-- No other slot holds a call. -/
abbrev OtherQuiet (v : VoiceNo) (p : Part) : Prop := ∀ u : VoiceNo, u ≠ v → (callSlot p u).state = .unavailable

theorem messagesTaken_quiet {v : VoiceNo} (h : OtherQuiet v s.part) :
    OtherQuiet v (messagesTaken n (answerRead fr n) (wordTaken fr n rest s.part)) := fun u hu => by
  have alone := messagesTaken_alone fr n rest s.part
  obtain rfl | rfl := voice_cases u
  · obtain hsame | ⟨hidle, -⟩ := alone.first
    · rw [hsame]; exact h 0 hu
    · rw [h 0 hu] at hidle; cases hidle
  · rw [alone.other 1 (by decide)]; exact h 1 hu

theorem callEntry_tallies {v : VoiceNo} (h : OtherQuiet v s.part) : TalliesStay s.part (callEntry fr n rest v s.part) := by
  have messages := (messagesTaken_alone fr n rest s.part).tallies
  unfold callEntry slotEntry
  split
  · exact messages
  next hv =>
    exact messages.trans (.of_counts (callGoodAnswer_unavailable (messagesTaken_quiet h 0 (Ne.symm hv))).1)

theorem messagesTaken_order {v : VoiceNo} {j : SlotNo} (h : ∀ u : VoiceNo, u ≠ v → (callSlot s.part u).order ≠ some j) (u : VoiceNo)
    (hu : u ≠ v) : (callSlot (messagesTaken n (answerRead fr n) (wordTaken fr n rest s.part)) u).order ≠ some j := by
  have alone := messagesTaken_alone fr n rest s.part
  obtain rfl | rfl := voice_cases u
  · obtain hsame | ⟨-, ends, halert⟩ := alone.first
    · rw [hsame]; exact h 0 hu
    · rw [halert]; exact nofun
  · rw [alone.other 1 (by decide)]; exact h 1 hu

/-- The call as it is shown after the event: as its work left it but for the counts of answers, the voice octets and the tone's moment. -/
abbrev CallLeft (c d : CallSlot) : Prop :=
  d = { c with
    seizeAnswers := d.seizeAnswers, freeRun := d.freeRun, voiceOctets := d.voiceOctets, tone := toneFor c, toneSince := d.toneSince }

/-- A slot after a good answer: what its work `q` on the entry `e` leaves. -/
structure CallDone (s : State) (v : VoiceNo) (e r : Part) : Prop where
  takes : TakenStays (callSlot (bitsTaken v e) v) (callSlot r v)
  clock : e.clock = s.part.clock
  attention : (callSlot (takeSummitBits v e) v).state ≠ .seizing ∨ SeizeStands v e →
    (takeSummitBits v e).window.attention.getLsbD 10 = true → r.window.attention.getLsbD 10 = true
  slot : (callSlot (takeSummitBits v e) v).state ≠ .seizing ∨ SeizeStands v e → CallLeft (callSlot (takeSummitBits v e) v) (callSlot r v)
  order : (callSlot (takeSummitBits v e) v).state ≠ .seizing ∨ SeizeStands v e →
    ∀ j, (∀ u : VoiceNo, u ≠ v → (callSlot s.part u).order ≠ some j) → slotOf r j = slotOf (takeSummitBits v e) j
  before : OtherQuiet v s.part → TalliesStay s.part e
  after : (callSlot (takeSummitBits v e) v).state ≠ .seizing ∨ SeizeStands v e → OtherQuiet v s.part →
    TalliesStay (takeSummitBits v e) r

theorem playVoices_counts (r : Nat) (a b : List Byte) (p : Part) : CountsStay p (playVoices r a b p) := by
  unfold playVoices playVoice
  dsimp only
  (repeat' split) <;> rfl

/-- From a slot's own work to the end of a good answer, the calls' counts stay where the other slot holds no call. -/
theorem callsGood_tallies {f : FrameContent} {v : VoiceNo} {p : Part} (h : OtherQuiet v p) :
    TalliesStay (callGoodAnswer v f.word (carriedSeize n v) (slotEntry n f v p)) (callsGood n f p) := by
  have played (q : Part) := TalliesStay.of_counts (playVoices_counts n.rate f.voice0 f.voice1 q)
  obtain rfl | rfl := voice_cases v
  · have quiet : (callSlot (callGoodAnswer 0 f.word n.ownSeize0 p) 1).state = .unavailable := by
      rw [callGoodAnswer_ne (by decide)]; exact h 1 (by decide)
    have second : TalliesStay (callGoodAnswer 0 f.word n.ownSeize0 p)
        (callGoodAnswer 1 f.word n.ownSeize1 (callGoodAnswer 0 f.word n.ownSeize0 p)) := .of_counts (callGoodAnswer_unavailable quiet).1
    exact second.trans (played _)
  · exact played _

theorem playVoices_window (r : Nat) (a b : List Byte) (p : Part) : (playVoices r a b p).window = p.window := by
  unfold playVoices playVoice
  dsimp only
  (repeat' split) <;> rfl

theorem slotEntry_zero (n : FrameNote) (f : FrameContent) (p : Part) : slotEntry n f 0 p = p := if_pos rfl

theorem slotEntry_one (n : FrameNote) (f : FrameContent) (p : Part) : slotEntry n f 1 p = callGoodAnswer 0 f.word n.ownSeize0 p :=
  if_neg (by decide)

theorem carriedSeize_one (n : FrameNote) : carriedSeize n 1 = n.ownSeize1 := if_neg (by decide)

theorem carriedSeize_zero (n : FrameNote) : carriedSeize n 0 = n.ownSeize0 := if_pos rfl

theorem callsGood_attention {f : FrameContent} {v : VoiceNo} {p : Part} {b : Nat}
    (h : (callGoodAnswer v f.word (carriedSeize n v) (slotEntry n f v p)).window.attention.getLsbD b = true) :
    (callsGood n f p).window.attention.getLsbD b = true := by
  rw [callsGood, playVoices_window]
  obtain rfl | rfl := voice_cases v
  · rw [slotEntry_zero, carriedSeize_zero] at h
    generalize callGoodAnswer 0 f.word n.ownSeize0 p = q at h ⊢
    have stays := callGoodAnswer_bitsStay 1 f.word n.ownSeize1 q
    exact stays b h
  · rw [slotEntry_one, carriedSeize_one] at h
    generalize callGoodAnswer 1 f.word n.ownSeize1 (callGoodAnswer 0 f.word n.ownSeize0 p) = q at h ⊢
    exact h

theorem callLeft_of {c d g k : CallSlot} (hslot : CountsAfter c k) (hvoice : g = { k with voiceOctets := g.voiceOctets })
    (htone : Toned g d) : CallLeft c d := by
  rw [CallLeft, htone, hvoice, hslot]
  rfl

theorem taken_of {c d g k : CallSlot} (takes : TakenStays c k) (hvoice : g = { k with voiceOctets := g.voiceOctets })
    (htone : Toned g d) : TakenStays c d := by
  rw [hvoice] at htone
  rw [htone]
  exact takes

theorem goodInUp_calls (h : GoodInUp fr n rest s) (v : VoiceNo) :
    ∃ t, exec (.summitAnswer fr) s = .next t ∧ CallDone s v (callEntry fr n rest v s.part) t.part := by
  obtain ⟨t, ht, hleft, -⟩ := goodInUp_judges h
  have hshown := hleft.calls v
  have hattention := hleft.attention
  have hslots := hleft.slots
  have hcounts : TalliesStay (takeAnswer fr s.part) t.part := .of_counts hleft.counts
  rw [takeAnswer_goodInUp h] at hshown hattention hslots hcounts
  have worked := callsGood_slot n (answerRead fr n) v (messagesTaken n (answerRead fr n) (wordTaken fr n rest s.part))
  have takes := callGoodAnswer_takes v (answerRead fr n).word (carriedSeize n v) (callEntry fr n rest v s.part)
  refine ⟨t, ht, taken_of takes worked hshown, (callEntry_line fr n rest v s.part).2, fun hrests hbit => ?_, fun hrests => ?_,
    fun hrests j hj => ?_, callEntry_tallies, fun hrests hquiet => ?_⟩
  all_goals
    obtain ⟨hslot, hwindow, hstays⟩ := callGoodAnswer_rests (w := (answerRead fr n).word) (b := carriedSeize n v) hrests
  · rw [hattention]
    refine callsGood_attention (v := v) ?_
    show (callGoodAnswer v (answerRead fr n).word (carriedSeize n v) (callEntry fr n rest v s.part)).window.attention.getLsbD 10 = true
    rw [hwindow]
    exact hbit
  · exact callLeft_of hslot worked hshown
  · have own := (callsGood_slotOf_own (n := n) (f := answerRead fr n) (messagesTaken_order (fr := fr) (n := n) (rest := rest) hj)).1
    rw [hslots j, own]
    exact slotOf_of_slots_eq (congrArg Window.slots hwindow) j
  · have own := callsGood_tallies (n := n) (f := answerRead fr n) (messagesTaken_quiet (fr := fr) (n := n) (rest := rest) hquiet)
    exact ((TalliesStay.of_counts hstays).trans own).trans hcounts

end

end Sys2Proof.Machine

/-! O60: the call timers, and what an answer does to a call (R175 to R181, R183). -/

namespace Sys2Proof.Machine

/-! ### What the turns show -/

/-- The slot shows the summit's call, just come in. -/
abbrev CameIn (hook : Option Bool) (d : CallSlot) (r : Part) : Prop :=
  d.originator = .far ∧ d.role = .answerer ∧ d.order = none ∧ d.noAnswer = none ∧ d.duration = 0 ∧
    d.state = (if hook = some true then .connected else .ringingIn) ∧ d.ringing = decide (¬ hook = some true) ∧
    d.ringer = decide (¬ hook = some true) ∧ r.window.attention.getLsbD 10 = true

/-- The slot has just become IDLE. -/
abbrev EndsIdle (d : CallSlot) (r : Part) : Prop :=
  d.state = .idle ∧ d.originator = .none ∧ d.role = .none ∧ d.noAnswer = none ∧ d.guardEnds = none ∧
    d.ringing = false ∧ d.ringer = false ∧ r.window.attention.getLsbD 10 = true

theorem incoming_attention {v : VoiceNo} {q : Part} (h : (callSlot q v).state ≠ .ringingIn) :
    (incoming v q).window.attention.getLsbD 10 = true := by
  have entered : (enterCall v .ringingIn (modCall v (fun c => { c with
      originator := .far, role := .answerer, order := none, clearedBySummit := false, duration := 0, noAnswer := none }) q)).window.attention.getLsbD
      10 = true := enterCall_attention (by rw [callSlot_modCall_same]; exact h)
  unfold incoming
  dsimp only
  split
  · exact connect_bitsStay v _ _ entered
  · exact entered

theorem clearBySummit_attention {v : VoiceNo} {q : Part} (h : (callSlot q v).state = .connected) :
    (clearBySummit v q).window.attention.getLsbD 10 = true := by
  unfold clearBySummit
  dsimp only
  split
  · exact enterCall_attention (by rw [callSlot_modCall_same, callSlot_modCall_same, h]; decide)
  · exact callToIdle_attention (by rw [callSlot_modCall_same, h]; decide)

theorem incoming_slotOf {v : VoiceNo} {j : SlotNo} {q : Part} (h : (callSlot q v).order = some j) (d : Nat) (r : Result) :
    slotOf (incoming v (answerCall v r d q)) j = { slotOf q j with state := .done, result := asOctet r.code, detail := asOctet d } := by
  have free : (callSlot (answerCall v r d q) v).order ≠ some j := by rw [answerCall_slot]; exact nofun
  rw [(incoming_aside (v := v) (k := j) _ free).1, answerCall_slotOf_same r d h]

theorem connect_slotOf {v : VoiceNo} {j : SlotNo} {q : Part} (h : (callSlot q v).order = some j) :
    (slotOf (connect v q) j).state = .done ∧ (slotOf (connect v q) j).result = 0 ∧ (slotOf (connect v q) j).detail = 0 := by
  have answered : slotOf (connect v q) j = slotOf (callConnected v q) j := by
    rw [connect_eq]
    split <;> rfl
  rw [answered, callConnected, answerCall_slotOf_same .ok 0 (by rw [callSlot_countConnect, enterCall_slot, callSlot_modCall_same]; exact h)]
  exact ⟨rfl, rfl, rfl⟩

theorem incoming_glares (v : VoiceNo) (q : Part) : (incoming v q).calls.glareWon = q.calls.glareWon ∧
    (incoming v q).calls.glareLost = q.calls.glareLost := by
  have entered : CountsStay q (enterCall v .ringingIn (modCall v (fun c => { c with
      originator := .far, role := .answerer, order := none, clearedBySummit := false, duration := 0, noAnswer := none }) q)) :=
    (modCall_counts v _ q).trans (enterCall_counts v .ringingIn _)
  unfold incoming
  dsimp only
  split
  · rw [connect_connects, entered]
    exact ⟨rfl, rfl⟩
  · show (enterCall v .ringingIn _).calls.glareWon = _ ∧ (enterCall v .ringingIn _).calls.glareLost = _
    rw [entered]
    exact ⟨rfl, rfl⟩

section
variable {s : State} {v : VoiceNo} {e r : Part} (hdone : CallDone s v e r)
include hdone

theorem CallDone.came {q : Part} (hturn : takeSummitBits v e = incoming v q) (hhook : (callSlot q v).hook = (callSlot e v).hook)
    (hstate : (callSlot q v).state ≠ .ringingIn) : CameIn (callSlot e v).hook (callSlot r v) r := by
  have rests : (callSlot (takeSummitBits v e) v).state ≠ .seizing ∨ SeizeStands v e := by
    rw [hturn]
    obtain h | h := (incoming_state v q).2 <;> rw [h] <;> exact .inl (by decide)
  have hshown := hdone.slot rests
  have hattention := hdone.attention rests (by rw [hturn]; exact incoming_attention hstate)
  rw [hturn, incoming_slot, hhook] at hshown
  by_cases h : (callSlot e v).hook = some true
  · rw [if_pos h] at hshown
    rw [hshown, h]
    exact ⟨rfl, rfl, rfl, rfl, rfl, rfl, rfl, rfl, hattention⟩
  · rw [if_neg h] at hshown
    rw [hshown]
    simp only [CameIn, h, if_false]
    exact ⟨rfl, rfl, rfl, rfl, rfl, rfl, rfl, rfl, hattention⟩

theorem CallDone.ends {q : Part} (hturn : takeSummitBits v e = callToIdle v q) (hstate : (callSlot q v).state ≠ .idle) :
    EndsIdle (callSlot r v) r ∧ (callSlot r v).reason = (callSlot q v).reason := by
  have rests : (callSlot (takeSummitBits v e) v).state ≠ .seizing ∨ SeizeStands v e := by
    rw [hturn, callToIdle_slot]; exact .inl nofun
  have hshown := hdone.slot rests
  have hattention := hdone.attention rests (by rw [hturn]; exact callToIdle_attention hstate)
  rw [hturn, callToIdle_slot] at hshown
  rw [hshown]
  exact ⟨⟨rfl, rfl, rfl, rfl, rfl, rfl, rfl, hattention⟩, rfl⟩

/-- A slot whose turn is nothing but the bits. -/
theorem CallDone.stays (hturn : takeSummitBits v e = bitsTaken v e) (hstate : (callSlot e v).state ≠ .seizing) :
    (callSlot r v).state = (callSlot e v).state ∧ (callSlot r v).role = (callSlot e v).role ∧
      (callSlot r v).originator = (callSlot e v).originator ∧ (callSlot r v).guardEnds = (callSlot e v).guardEnds ∧
      (callSlot r v).reason = (callSlot e v).reason := by
  have hshown := hdone.slot (by rw [hturn, bitsTaken_slot]; exact .inl hstate)
  rw [hturn, bitsTaken_slot] at hshown
  rw [hshown]
  exact ⟨rfl, rfl, rfl, rfl, rfl⟩

/-- Glare won (R178). -/
theorem CallDone.wins (hstate : (callSlot e v).state ∈ [CallState.seizing, .ringingOut]) (hseize : SeizeStands v e)
    (hanswer : ¬ AnswerStands v e) (hwins : e.line.summitPriority ≤ e.line.valleyPriority) :
    (callSlot r v).state = (callSlot e v).state ∧ (callSlot r v).originator = (callSlot e v).originator ∧
      (callSlot r v).role = (callSlot e v).role ∧ (callSlot r v).noAnswer = (callSlot e v).noAnswer ∧
      (callSlot r v).order = (callSlot e v).order ∧
      (OtherQuiet v s.part → r.calls.glareWon = count16 s.part.calls.glareWon ∧ r.calls.glareLost = s.part.calls.glareLost) := by
  have hturn := takeSummitBits_wins hstate hseize hanswer hwins
  have hshown := hdone.slot (.inr hseize)
  have tallies (hquiet) := hdone.after (.inr hseize) hquiet
  rw [hturn] at tallies
  rw [hturn, callSlot_countGlareWon, bitsTaken_slot] at hshown
  rw [hshown]
  refine ⟨rfl, rfl, rfl, rfl, rfl, fun hquiet => ?_⟩
  obtain ⟨-, hwon, hlost⟩ := hdone.before hquiet
  obtain ⟨-, gwon, glost⟩ := tallies hquiet
  exact ⟨gwon.trans (congrArg count16 hwon), glost.trans hlost⟩

/-- Glare lost (R178). -/
theorem CallDone.loses (hstate : (callSlot e v).state ∈ [CallState.seizing, .ringingOut]) (hseize : SeizeStands v e)
    (hloses : ¬ e.line.summitPriority ≤ e.line.valleyPriority) :
    CameIn (callSlot e v).hook (callSlot r v) r ∧
      (OtherQuiet v s.part → r.calls.glareLost = count16 s.part.calls.glareLost ∧ r.calls.glareWon = s.part.calls.glareWon) ∧
      (∀ j, (callSlot e v).order = some j → (∀ u : VoiceNo, u ≠ v → (callSlot s.part u).order ≠ some j) → (slotOf r j).state = .done ∧
        (slotOf r j).result = asOctet Result.failed.code ∧ (slotOf r j).detail = 4) := by
  have hturn := takeSummitBits_loses hstate hseize hloses
  have slot : callSlot (answerCall v .failed 4 (countGlareLost (bitsTaken v e))) v = { callSlot (bitsTaken v e) v with order := none } := by
    rw [answerCall_slot, callSlot_countGlareLost]
  obtain ⟨hbits, -, -, hhook⟩ := bitsTaken_state v e
  refine ⟨hdone.came hturn (by rw [slot]; exact hhook) ?_, fun hquiet => ?_, fun j hj hother => ?_⟩
  · rw [slot]
    show (callSlot (bitsTaken v e) v).state ≠ .ringingIn
    rw [hbits]
    simp only [List.mem_cons, List.not_mem_nil, or_false] at hstate
    obtain h | h := hstate <;> rw [h] <;> decide
  · obtain ⟨-, hwon, hlost⟩ := hdone.before hquiet
    obtain ⟨-, gwon, glost⟩ := hdone.after (.inr hseize) hquiet
    obtain ⟨kwon, klost⟩ := incoming_glares v (answerCall v .failed 4 (countGlareLost (bitsTaken v e)))
    have answered := answerCall_counts v .failed 4 (countGlareLost (bitsTaken v e))
    rw [hturn, kwon, answered] at gwon
    rw [hturn, klost, answered] at glost
    exact ⟨glost.trans (congrArg count16 hlost), gwon.trans hwon⟩
  · have order : (callSlot (countGlareLost (bitsTaken v e)) v).order = some j := by
      rw [callSlot_countGlareLost, bitsTaken_slot]; exact hj
    rw [hdone.order (.inr hseize) j hother, hturn, incoming_slotOf order]
    exact ⟨rfl, rfl, rfl⟩

/-- The call is answered (R179). -/
theorem CallDone.connects (hstate : (callSlot e v).state ∈ [CallState.seizing, .ringingOut]) (hseize : ¬ SeizeStands v e)
    (hanswer : AnswerStands v e) :
    (callSlot r v).state = .connected ∧ (callSlot r v).role = (callSlot e v).role ∧
      (callSlot r v).originator = (callSlot e v).originator ∧ (callSlot r v).noAnswer = none ∧ (callSlot r v).order = none ∧
      (callSlot r v).nextSecond = s.part.clock.now + ms 1000 ∧
      ((callSlot e v).role = .caller → (callSlot r v).ownSeize = true) ∧ (callSlot r v).tone = .voice ∧
      ((callSlot e v).role = .caller →
        (callSlot r v).ringing = decide ((callSlot e v).originator ∈ [Originator.order, .alert] ∧ ¬ (callSlot e v).hook = some true) ∧
        (callSlot r v).ringer = (callSlot r v).ringing) ∧
      (OtherQuiet v s.part → r.calls.connects = count16 s.part.calls.connects) ∧
      (∀ j, (callSlot e v).order = some j → (∀ u : VoiceNo, u ≠ v → (callSlot s.part u).order ≠ some j) →
        (slotOf r j).state = .done ∧ (slotOf r j).result = 0 ∧ (slotOf r j).detail = 0) := by
  have hturn := takeSummitBits_connects hstate hseize hanswer
  have rests : (callSlot (takeSummitBits v e) v).state ≠ .seizing ∨ SeizeStands v e := by
    rw [hturn, connect_slot]; exact .inl nofun
  have hshown := hdone.slot rests
  have horder := hdone.order rests
  have clock : (bitsTaken v e).clock.now = s.part.clock.now := congrArg Clock.now hdone.clock
  have rings : (callSlot e v).role = .caller → ringsConnected (callSlot (bitsTaken v e) v) =
      decide ((callSlot e v).originator ∈ [Originator.order, .alert] ∧ ¬ (callSlot e v).hook = some true) := fun hrole => by
    rw [bitsTaken_slot, Bool.eq_iff_iff]
    simp [ringsConnected, hrole]
  have toned (c : CallSlot) : toneFor (connectedSlot s.part.clock.now c) = .voice := by
    unfold toneFor
    split <;> rfl
  rw [hturn, connect_slot, clock] at hshown
  have fields := hshown
  rw [bitsTaken_slot] at fields
  refine ⟨by rw [fields]; rfl, by rw [fields]; rfl, by rw [fields]; rfl, by rw [fields]; rfl, by rw [fields]; rfl, by rw [fields]; rfl,
    fun hrole => ?_, by rw [hshown]; exact toned _, fun hrole => ?_, fun hquiet => ?_, fun j hj hother => ?_⟩
  · have : (callSlot r v).state = .connected ∧ (callSlot r v).role = .caller := ⟨by rw [fields]; rfl, by rw [fields]; exact hrole⟩
    simp [CallSlot.ownSeize, this]
  · rw [← rings hrole]
    exact ⟨by rw [hshown]; rfl, by rw [hshown]; rfl⟩
  · obtain ⟨hconnects, -⟩ := hdone.before hquiet
    obtain ⟨gconnects, -⟩ := hdone.after rests hquiet
    rw [hturn, connect_connects] at gconnects
    exact gconnects.trans (congrArg count16 hconnects)
  · rw [horder j hother, hturn]
    exact connect_slotOf (by rw [bitsTaken_slot]; exact hj)

/-- The summit clears a connected call first (R181). -/
theorem CallDone.farClears (hstate : (callSlot e v).state = .connected) (hdrops : AwaitedDrops v e) :
    (callSlot r v).reason = .farClear ∧ (callSlot r v).ownSeize = false ∧ (callSlot r v).ownAnswer = false ∧
      ((callSlot e v).hook = some true → (callSlot r v).state = .clearing ∧ (callSlot r v).clearedBySummit = true ∧
        (callSlot r v).tone = .clear ∧ (callSlot r v).ringer = false) ∧
      (¬ (callSlot e v).hook = some true → EndsIdle (callSlot r v) r) := by
  have hturn := takeSummitBits_farClears hstate hdrops
  obtain ⟨hbits, -, -, hhook⟩ := bitsTaken_state v e
  have rests : (callSlot (takeSummitBits v e) v).state ≠ .seizing ∨ SeizeStands v e := by
    rw [hturn, clearBySummit_slot]; split <;> exact .inl nofun
  have hshown := hdone.slot rests
  have hattention := hdone.attention rests (by rw [hturn]; exact clearBySummit_attention (hbits.trans hstate))
  rw [hturn, clearBySummit_slot, hhook] at hshown
  by_cases h : (callSlot e v).hook = some true
  · rw [if_pos h] at hshown
    have tone : (callSlot r v).tone = .clear := by
      rw [hshown]
      show toneFor _ = _
      simp [toneFor, hhook, h]
    refine ⟨by rw [hshown], by rw [hshown]; rfl, by rw [hshown]; rfl,
      fun _ => ⟨by rw [hshown], by rw [hshown], tone, by rw [hshown]⟩, fun hno => absurd h hno⟩
  · rw [if_neg h] at hshown
    rw [hshown]
    exact ⟨rfl, rfl, rfl, fun hyes => absurd hyes h, fun _ => ⟨rfl, rfl, rfl, rfl, rfl, rfl, rfl, hattention⟩⟩

end

/-! ### The obligation -/

section
variable {fr : Option SummitFrame} {n : FrameNote} {rest : List FrameNote} {s : State}

/-- A slot that no ALERT call may have taken before its turn is found as it stood. -/
theorem callEntry_same {v : VoiceNo} (h : (callSlot s.part v).state ≠ .idle ∨ v = 1 ∨
      acceptedAt s.part.line (answerRead fr n).word 2 = false ∨ s.part.sup.stopFastStands = true) :
    callSlot (callEntry fr n rest v s.part) v = callSlot s.part v := by
  obtain hsame | ⟨hv, hidle, hbit, hfast, -⟩ := callEntry_found fr n rest v s.part
  · exact hsame
  · subst hv
    obtain h | h | h | h := h
    · exact absurd hidle h
    · exact absurd h (by decide)
    · rw [hbit] at h; cases h
    · rw [hfast] at h; cases h

theorem callEntry_priorities (v : VoiceNo) : (callEntry fr n rest v s.part).line.summitPriority = s.part.line.summitPriority ∧
    (callEntry fr n rest v s.part).line.valleyPriority = s.part.line.valleyPriority := by
  have accepts (w : Half) (l : Line) : (acceptWord w l).summitPriority = l.summitPriority ∧
      (acceptWord w l).valleyPriority = l.valleyPriority := ⟨rfl, rfl⟩
  have counted (good : Bool) (q : Part) : (answerWeighed good rest q).line.summitPriority = q.line.summitPriority ∧
      (answerWeighed good rest q).line.valleyPriority = q.line.valleyPriority := ⟨rfl, rfl⟩
  obtain ⟨hsummit, hvalley⟩ := accepts (answerRead fr n).word (wordPart fr n rest s.part).line
  rw [(callEntry_line fr n rest v s.part).1, hsummit, hvalley]
  exact counted true s.part

end

/-- Settles O60: the call timers end their states, and of a slot's turn at a good answer each case is one operation on its call. -/
theorem callTimers : Obligations.CallTimers := by
  unfold Obligations.CallTimers
  refine ⟨fun v s hready => ⟨noAnswerTimeout_ends hready, guardExpiry_ends hready, ringerCadence_turns hready⟩,
    fun v fr n rest s h => ?_⟩
  intro c accepted seize answer seizeStands seizeDrops answerStands answerDrops valleyWins otherQuiet offHook
  obtain ⟨t, ht, hdone⟩ := goodInUp_calls h v
  refine ⟨t, ht, ?_⟩
  beta_reduce
  intro d comesIn endsIdle
  obtain ⟨hsummit, hvalley⟩ := callEntry_priorities (fr := fr) (n := n) (rest := rest) (s := s) v
  have hbits := callEntry_bits fr n rest v s.part
  obtain ⟨hbefore, abefore, -, hookSame⟩ := callEntry_takes fr n rest v s.part
  have found := callEntry_same (fr := fr) (n := n) (rest := rest) (s := s) (v := v)
  generalize callEntry fr n rest v s.part = e at *
  have hnow : (callSlot (bitsTaken v e) v).seizeTaken = seize := by rw [hbits]
  have anow : (callSlot (bitsTaken v e) v).answerTaken = answer := by rw [hbits]
  have sstands : SeizeStands v e ↔ seizeStands := by unfold SeizeStands; rw [hnow, hbefore]
  have sdrops : SeizeDrops v e ↔ seizeDrops := by unfold SeizeDrops; rw [hnow, hbefore]
  have astands : AnswerStands v e ↔ answerStands := by unfold AnswerStands; rw [anow, abefore]
  have adrops : AnswerDrops v e ↔ answerDrops := by unfold AnswerDrops; rw [anow, abefore]
  have wins : e.line.summitPriority ≤ e.line.valleyPriority ↔ valleyWins := by rw [hsummit, hvalley]
  have waits (hst : c.state ∈ [CallState.seizing, .ringingOut]) : callSlot e v = c :=
    found (.inl fun hidle => by rw [hidle] at hst; revert hst; decide)
  have stood (st : CallState) (hne : st ≠ .idle) (hst : c.state = st) : callSlot e v = c := found (.inl (by rw [hst]; exact hne))
  have awaited (hc : callSlot e v = c) : AwaitedDrops v e ↔ (c.role = .caller ∧ answerDrops) ∨ (c.role = .answerer ∧ seizeDrops) := by
    unfold AwaitedDrops; rw [sdrops, adrops, hc]
  have came (hcame : CameIn (callSlot e v).hook d t.part) : comesIn := by rw [hookSame] at hcame; exact hcame
  obtain ⟨ts, ta, tg, th⟩ := hdone.takes
  refine ⟨ts.trans hnow, ta.trans anow, tg.trans (by rw [hbits]), th.trans (by rw [hbits]; exact hookSame), fun hs hw ha hst => ?_,
    fun hs hw hst => ?_, fun hs hst hno => ?_, fun hs hst => ?_, fun ha hs hst => ?_, fun hst hdrops => ?_, fun hst hdrops => ?_,
    fun hst hsummitClears hdrops => ?_, fun hst hno => ?_⟩
  · have hc := waits hst
    have won := hdone.wins (by rw [hc]; exact hst) (sstands.2 hs) (fun h => ha (astands.1 h)) (wins.2 hw)
    rw [hc] at won
    exact won
  · have hc := waits hst
    obtain ⟨hcame, hlost, hanswered⟩ := hdone.loses (by rw [hc]; exact hst) (sstands.2 hs) (fun h => hw (wins.1 h))
    exact ⟨came hcame, hlost, fun j hj hheld => hanswered j (by rw [hc]; exact hj) hheld.1⟩
  · have hc := found (.inr hno)
    have hidle : (callSlot e v).state = .idle := by rw [hc]; exact hst
    refine came (hdone.came (takeSummitBits_incoming hidle (sstands.2 hs)) (bitsTaken_state v e).2.2.2 ?_)
    rw [(bitsTaken_state v e).1, hidle]
    decide
  · have hc := stood .ringingIn (by decide) hst
    have hring : (callSlot e v).state = .ringingIn := by rw [hc]; exact hst
    obtain ⟨hends, hreason⟩ := hdone.ends (takeSummitBits_ringEnds hring (sdrops.2 hs)) (by
      rw [callSlot_modCall_same]
      show (callSlot (bitsTaken v e) v).state ≠ .idle
      rw [(bitsTaken_state v e).1, hring]
      decide)
    exact ⟨hends, hreason.trans (by rw [callSlot_modCall_same])⟩
  · have hc := waits hst
    obtain ⟨hstate, hrole, horiginator, hanswer, horder, hsecond, hown, htone, hring, hconnects, hanswered⟩ :=
      hdone.connects (by rw [hc]; exact hst) (fun h => hs (sstands.1 h)) (astands.2 ha)
    rw [hc] at hrole horiginator hown hring hanswered
    exact ⟨hstate, hrole, horiginator, hanswer, horder, hsecond, hown, htone, hring, hconnects, fun j hj hheld => hanswered j hj hheld.1⟩
  · have hc := stood .connected (by decide) hst
    have cleared := hdone.farClears (by rw [hc]; exact hst) ((awaited hc).2 hdrops)
    rw [hc] at cleared
    exact cleared
  · have hc := stood .connected (by decide) hst
    have hturn := takeSummitBits_rests (v := v) (p := e) (by rw [hc, hst]; decide) (.inl fun h => hdrops ((awaited hc).1 h))
    obtain ⟨hstate, hrole, horiginator, -, hreason⟩ := hdone.stays hturn (by rw [hc, hst]; decide)
    rw [hc] at hstate hrole horiginator hreason
    exact ⟨hstate.trans hst, hrole, horiginator, hreason⟩
  · have hc := stood .clearing (by decide) hst
    have hclearing : (callSlot e v).state = .clearing := by rw [hc]; exact hst
    obtain ⟨hends, hreason⟩ := hdone.ends
      (takeSummitBits_clearingEnds hclearing (by rw [hc]; exact hsummitClears) ((awaited hc).2 hdrops))
      (by rw [(bitsTaken_state v e).1, hclearing]; decide)
    refine ⟨hends, hreason.trans ?_⟩
    rw [bitsTaken_slot, hc]
  · have hc := stood .clearing (by decide) hst
    have hturn := takeSummitBits_rests (v := v) (p := e) (by rw [hc, hst]; decide) (by
      obtain h | h := hno
      · exact .inr ⟨by rw [hc]; exact hst, by rw [hc]; exact h⟩
      · exact .inl fun hd => h ((awaited hc).1 hd))
    obtain ⟨hstate, -, -, hguard, hreason⟩ := hdone.stays hturn (by rw [hc, hst]; decide)
    rw [hc] at hstate hguard hreason
    exact ⟨hstate.trans hst, hguard, hreason⟩

end Sys2Proof.Machine

/-! The transmitter at a good answer (R164, R166 to R168). -/

namespace Sys2Proof.Machine

/-! ### What the receiver leaves of the transmitter and of the launch notes -/

/-- The transmitter's own fields and its two lists are the same. -/
abbrev TransmitterStays (m m' : Messages) : Prop :=
  m'.transmitter = m.transmitter ∧ m'.refusals = m.refusals ∧ m'.offerSerial = m.offerSerial ∧ m'.notes = m.notes ∧ m'.waiting = m.waiting

theorem TransmitterStays.trans {a b c : Messages} (h : TransmitterStays a b) (g : TransmitterStays b c) : TransmitterStays a c :=
  ⟨g.1.trans h.1, g.2.1.trans h.2.1, g.2.2.1.trans h.2.2.1, g.2.2.2.1.trans h.2.2.2.1, g.2.2.2.2.trans h.2.2.2.2⟩

/-- Every record keeps its launch note. -/
abbrev NotesKept (p q : Part) : Prop := ∀ k, (cabin q k).note = (cabin p k).note

/-- The receiver's work leaves the transmitter and every launch note. -/
abbrev TransmitterAside (p q : Part) : Prop := TransmitterStays p.messages q.messages ∧ NotesKept p q

theorem TransmitterAside.trans {p q r : Part} (h : TransmitterAside p q) (g : TransmitterAside q r) : TransmitterAside p r :=
  ⟨h.1.trans g.1, fun k => (g.2 k).trans (h.2 k)⟩

theorem TransmitterAside.of_messages {p : Part} {m : Messages} (h : TransmitterStays p.messages m) :
    TransmitterAside p { p with messages := m } := ⟨h, fun _ => rfl⟩

theorem discardAssembly_aside (m : Messages) : TransmitterStays m (discardAssembly m) := by
  unfold discardAssembly
  split <;> exact ⟨rfl, rfl, rfl, rfl, rfl⟩

theorem startAssembly_aside (b : Byte) (m : Messages) : TransmitterStays m (startAssembly b m).2 := by
  unfold startAssembly
  dsimp only
  (repeat' split) <;> exact ⟨rfl, rfl, rfl, rfl, rfl⟩

theorem appendOctet_aside (b : Byte) (m : Messages) : TransmitterStays m (appendOctet b m).2 := by
  unfold appendOctet
  split
  · exact discardAssembly_aside m
  · split <;> exact ⟨rfl, rfl, rfl, rfl, rfl⟩

theorem copyMark_notes (e : RosterEntry) (p : Part) : NotesKept p (copyMark p e) := fun k => by
  by_cases h : k = e.cabin
  · subst h
    by_cases hk : isCabin e.cabin = true
    · rw [copyMark, cabin_modCabin_same _ _ _ hk]
    · have : ¬ (1 ≤ e.cabin ∧ e.cabin ≤ 128) := by simpa [isCabin] using hk
      simp [copyMark, modCabin, this]
  · rw [copyMark, cabin_modCabin_ne _ _ _ _ h]

theorem copyMarks_notes (l : List RosterEntry) (p : Part) : NotesKept p (l.foldl copyMark p) := by
  induction l generalizing p with
  | nil => exact fun _ => rfl
  | cons e l ih => exact fun k => (ih _ k).trans (copyMark_notes e p k)

theorem passageNote_notes (k : Nat) (p : Part) : NotesKept p (passageNote k p) := by
  unfold passageNote
  split
  · exact fun j => copyMarks_notes _ (setRoster (noteRoster k p.track.roster) p) j
  · exact fun _ => rfl

theorem deliverNote_aside (l : List Byte) (p : Part) : TransmitterAside p (deliverNote l p) := by
  refine ⟨by rw [(deliverNote_kept l p).2]; exact ⟨rfl, rfl, rfl, rfl, rfl⟩, ?_⟩
  unfold deliverNote
  split
  · exact passageNote_notes _ p
  · exact fun _ => rfl

theorem endAssembly_aside (p : Part) : TransmitterAside p (endAssembly p) := by
  have idle : TransmitterAside p (modMsg (fun m => { m with receiver := .idle }) p) := .of_messages ⟨rfl, rfl, rfl, rfl, rfl⟩
  unfold endAssembly
  cases p.messages.receiver with
  | note l => exact idle.trans (deliverNote_aside l _)
  | idle => exact idle
  | slot i => exact idle.trans ⟨⟨rfl, rfl, rfl, rfl, rfl⟩, fun _ => rfl⟩
  | discarding n => exact idle

theorem takeAssembly_aside {r : Bool × Messages} {p : Part} (h : TransmitterStays p.messages r.2) : TransmitterAside p (takeAssembly r p).2 :=
  .of_messages h

theorem endTaken_aside {r : Bool × Messages} {p : Part} (h : TransmitterStays p.messages r.2) : TransmitterAside p
    (if (takeAssembly r p).1 then (true, endAssembly (takeAssembly r p).2) else takeAssembly r p).2 := by
  split
  · exact (takeAssembly_aside h).trans (endAssembly_aside _)
  · exact takeAssembly_aside h

theorem receiveOctet_aside (b : Byte) (mark : MsgMark) (p : Part) : TransmitterAside p (receiveOctet b mark p).2 := by
  cases mark with
  | first => exact takeAssembly_aside ((discardAssembly_aside _).trans (startAssembly_aside b _))
  | middle =>
    unfold receiveOctet
    dsimp only
    split
    · exact .of_messages ⟨rfl, rfl, rfl, rfl, rfl⟩
    · exact takeAssembly_aside (appendOctet_aside b _)
  | last =>
    refine endTaken_aside ?_
    split
    · exact startAssembly_aside b _
    · exact appendOctet_aside b _
  | abandon => exact .of_messages (discardAssembly_aside _)

theorem judgeOffer_aside (o : Option (Byte × MsgMark)) (p : Part) : TransmitterAside p (judgeOffer o p) := by
  unfold judgeOffer
  split
  · exact .of_messages ⟨rfl, rfl, rfl, rfl, rfl⟩
  · split
    · exact .of_messages ⟨rfl, rfl, rfl, rfl, rfl⟩
    · exact (receiveOctet_aside _ _ p).trans (.of_messages ⟨rfl, rfl, rfl, rfl, rfl⟩)

/-! ### The transmitter's turn -/

section
variable {p : Part} {serial : Option Nat}

theorem judgeAccept_other {b : Bool} (h : ¬ serial = some p.messages.offerSerial ∨ p.messages.transmitter = .idle ∨
      ∃ x, p.messages.transmitter = .pause x) : judgeAccept serial b p = p := by
  unfold judgeAccept
  split
  · rfl
  next hserial =>
    obtain h | h | ⟨x, h⟩ := h
    · exact absurd (by simpa using hserial) h
    · rw [h]
    · rw [h]

theorem judgeAccept_offering {tr : Transfer} {b : Bool} (h : p.messages.transmitter = .offering tr)
    (hserial : serial = some p.messages.offerSerial) :
    judgeAccept serial b p = if b then acceptOctet tr p else refuseOctet p := by
  unfold judgeAccept
  rw [if_neg (by simp [hserial]), h]

theorem judgeAccept_abandoning {b : Bool} (h : p.messages.transmitter = .abandoning) (hserial : serial = some p.messages.offerSerial) :
    judgeAccept serial b p =
      if b then modMsg (fun m => { m with transmitter := .pause none, refusals := 0 }) p else refuseOctet p := by
  unfold judgeAccept
  rw [if_neg (by simp [hserial]), h]

theorem refuseOctet_first (h : p.messages.refusals = 0) : refuseOctet p = modMsg (fun m => { m with refusals := 1 }) p := by
  simp [refuseOctet, h]

/-- The transmitter just ended. -/
def transmitterEnded (p : Part) : Part := modMsg (fun m => { m with transmitter := .idle, refusals := 0 }) p

theorem refuseOctet_second {tr : Transfer} (h : p.messages.refusals ≠ 0) (htr : p.messages.transmitter = .offering tr) :
    refuseOctet p = failTransfer tr 1 (transmitterEnded p) := by
  simp [refuseOctet, h, htr, transmitterEnded]

theorem refuseOctet_abandoned (h : p.messages.refusals ≠ 0) (htr : p.messages.transmitter = .abandoning) :
    refuseOctet p = transmitterEnded p := by
  simp [refuseOctet, h, htr, transmitterEnded]

end

/-- The transfer's octet accepted, as the Message Channel shows it (R164). -/
theorem acceptOctet_messages (tr : Transfer) (p : Part) : (acceptOctet tr p).messages = { p.messages with
    transmitter := .pause (if tr.accepted + 1 = tr.octets.length then none else some { tr with accepted := tr.accepted + 1 })
    refusals := 0 } := by
  by_cases h : tr.accepted + 1 = tr.octets.length
  · unfold acceptOctet
    dsimp only
    cases tr.source <;> simp [h, modMsg]
  · unfold acceptOctet
    dsimp only
    cases tr.source <;> simp [h, modMsg]

theorem judgeAccept_lists (serial : Option Nat) (b : Bool) (p : Part) : (judgeAccept serial b p).messages.notes = p.messages.notes ∧
    (judgeAccept serial b p).messages.waiting = p.messages.waiting := by
  have accepted (tr : Transfer) : (acceptOctet tr p).messages.notes = p.messages.notes ∧
      (acceptOctet tr p).messages.waiting = p.messages.waiting := by rw [acceptOctet_messages]; exact ⟨rfl, rfl⟩
  have refused : (refuseOctet p).messages.notes = p.messages.notes ∧ (refuseOctet p).messages.waiting = p.messages.waiting := by
    unfold refuseOctet
    dsimp only
    split
    · exact ⟨rfl, rfl⟩
    · split
      · rw [(failTransfer_kept _ _ _).2]; exact ⟨rfl, rfl⟩
      · exact ⟨rfl, rfl⟩
  unfold judgeAccept
  split
  · exact ⟨rfl, rfl⟩
  · split
    · split
      · exact accepted _
      · exact refused
    · split
      · exact ⟨rfl, rfl⟩
      · exact refused
    · exact ⟨rfl, rfl⟩

theorem noteOutcome_note {k : Nat} {n : LaunchNote} {p : Part} (hk : isCabin k = true) : (cabin (noteOutcome k n p) k).note =
    if (cabin p k).registered = true ∧ k ∉ p.messages.notes then n else (cabin p k).note := by
  unfold noteOutcome
  by_cases h : (cabin p k).registered = true ∧ k ∉ p.messages.notes
  · rw [if_pos (by simpa using h), if_pos h, setNote, cabin_modCabin_same _ _ _ hk]
  · rw [if_neg (by simpa using h), if_neg h]

theorem acceptOctet_order {tr : Transfer} {j : SlotNo} {p : Part} (h : tr.source = .order j) :
    slotOf (acceptOctet tr p) j = { slotOf p j with
      progress := BitVec.ofNat 16 (tr.accepted + 1)
      state := if tr.accepted + 1 = tr.octets.length then .done else (slotOf p j).state
      result := if tr.accepted + 1 = tr.octets.length then 0 else (slotOf p j).result
      detail := if tr.accepted + 1 = tr.octets.length then 0 else (slotOf p j).detail } := by
  unfold acceptOctet
  simp only [h]
  by_cases hlast : tr.accepted + 1 = tr.octets.length
  · simp [hlast, setProgress, answer, modMsg, slotOf, modSlot, Result.code]
  · simp [hlast, setProgress, modMsg, slotOf, modSlot]

theorem acceptOctet_note {tr : Transfer} {k : Nat} {p : Part} (h : tr.source = .note k) (hk : isCabin k = true) :
    (cabin (acceptOctet tr p) k).note =
      if tr.accepted + 1 = tr.octets.length ∧ (cabin p k).registered = true ∧ k ∉ p.messages.notes then .sent else (cabin p k).note := by
  unfold acceptOctet
  simp only [h]
  by_cases hlast : tr.accepted + 1 = tr.octets.length
  · simp only [hlast, beq_self_eq_true, if_true, true_and]
    exact noteOutcome_note (p := modMsg (fun m => { m with transmitter := .pause none, refusals := 0 }) p) hk
  · simp [hlast, modMsg, cabin]

theorem failTransfer_order {tr : Transfer} {j : SlotNo} {d : Nat} {p : Part} (h : tr.source = .order j) :
    slotOf (failTransfer tr d p) j = { slotOf p j with
      state := .done, result := asOctet Result.failed.code, detail := asOctet d } := by
  simp [failTransfer, h, answer, slotOf, modSlot, asOctet]

theorem failTransfer_note {tr : Transfer} {k d : Nat} {p : Part} (h : tr.source = .note k) (hk : isCabin k = true)
    (hreg : (cabin p k).registered = true) (hno : k ∉ p.messages.notes) : (cabin (failTransfer tr d p) k).note = .dropped := by
  simp only [failTransfer, h]
  rw [noteOutcome_note hk, if_pos ⟨hreg, hno⟩]

end Sys2Proof.Machine

/-! A good answer at the transmitter, with what its refusal ends, and RINGING_OUT (R164, R166 to R168, R177). -/

namespace Sys2Proof.Machine

section
variable {fr : Option SummitFrame} {n : FrameNote} {rest : List FrameNote} {s : State}

/-! ### The part of a good answer at the Message Channel -/

theorem wordTaken_leaves (fr : Option SummitFrame) (n : FrameNote) (rest : List FrameNote) (p : Part) :
    (wordTaken fr n rest p).messages = p.messages ∧ (wordTaken fr n rest p).cabins = p.cabins ∧
      (wordTaken fr n rest p).window.slots = p.window.slots ∧ (wordTaken fr n rest p).track = p.track := by
  obtain ⟨hkept, hmessages, hcabins, hslots⟩ := takeWord_kept (answerRead fr n).word (wordPart fr n rest p)
  exact ⟨hmessages, hcabins, hslots, hkept.2.2.1⟩

/-- The transmitter's turn at a good answer. -/
def accepted (fr : Option SummitFrame) (n : FrameNote) (rest : List FrameNote) (p : Part) : Part :=
  judgeAccept n.offered (answerRead fr n).accept (wordTaken fr n rest p)

theorem messagesTaken_aside (fr : Option SummitFrame) (n : FrameNote) (rest : List FrameNote) (p : Part) :
    TransmitterAside (accepted fr n rest p) (messagesTaken n (answerRead fr n) (wordTaken fr n rest p)) :=
  judgeOffer_aside _ _

theorem messagesTaken_slots (fr : Option SummitFrame) (n : FrameNote) (rest : List FrameNote) (p : Part) :
    (messagesTaken n (answerRead fr n) (wordTaken fr n rest p)).window.slots = (accepted fr n rest p).window.slots :=
  (judgeOffer_kept _ _).2.2.2.2.2.2.2.2.2.2.2.2.1

/-- The part of a good answer before loss and quality are judged. -/
def goodUsed (fr : Option SummitFrame) (n : FrameNote) (rest : List FrameNote) (p : Part) : Part :=
  callsGood n (answerRead fr n) (messagesTaken n (answerRead fr n) (wordTaken fr n rest p))

theorem goodUsed_leaves (fr : Option SummitFrame) (n : FrameNote) (rest : List FrameNote) (p : Part) :
    (goodUsed fr n rest p).messages = (messagesTaken n (answerRead fr n) (wordTaken fr n rest p)).messages ∧
      (goodUsed fr n rest p).cabins = (messagesTaken n (answerRead fr n) (wordTaken fr n rest p)).cabins ∧
      (goodUsed fr n rest p).track = (messagesTaken n (answerRead fr n) (wordTaken fr n rest p)).track := by
  obtain ⟨-, htrack, hcabins, -, -, -, -, -, -, -, -, hmessages, -⟩ := callsGood_kept n (answerRead fr n) (messagesTaken n (answerRead fr n) (wordTaken fr n rest p))
  exact ⟨hmessages, hcabins, htrack⟩

theorem goodUsed_aside (fr : Option SummitFrame) (n : FrameNote) (rest : List FrameNote) (p : Part) :
    TransmitterAside (accepted fr n rest p) (goodUsed fr n rest p) := by
  obtain ⟨hstays, hnotes⟩ := messagesTaken_aside fr n rest p
  obtain ⟨hmessages, hcabins, -⟩ := goodUsed_leaves fr n rest p
  refine ⟨by rw [hmessages]; exact hstays, fun k => ?_⟩
  have same : cabin (goodUsed fr n rest p) k = cabin (messagesTaken n (answerRead fr n) (wordTaken fr n rest p)) k := by
    unfold cabin; rw [hcabins]
  rw [same]
  exact hnotes k

/-- An order that no call owns is left as the transmitter's turn left it. -/
theorem goodUsed_slotOf {j : SlotNo} (h : ∀ v : VoiceNo, (callSlot s.part v).order ≠ some j) :
    slotOf (goodUsed fr n rest s.part) j = slotOf (accepted fr n rest s.part) j ∧
      ∀ v, (callSlot (goodUsed fr n rest s.part) v).order ≠ some j := by
  have free (v : VoiceNo) : (callSlot (messagesTaken n (answerRead fr n) (wordTaken fr n rest s.part)) v).order ≠ some j := by
    obtain rfl | rfl := voice_cases v
    · exact messagesTaken_order (v := 1) (fun u _ => h u) 0 (by decide)
    · exact messagesTaken_order (v := 0) (fun u _ => h u) 1 (by decide)
  obtain ⟨hslot, horder⟩ := callsGood_slotOf (n := n) (f := answerRead fr n) free
  exact ⟨hslot.trans (slotOf_of_slots_eq (messagesTaken_slots fr n rest s.part) j), horder⟩

theorem takeAnswer_good (hnotes : s.part.line.notes = n :: rest) (hstate : s.part.line.state = .up)
    (hgood : answerGood fr s.part = true) : takeAnswer fr s.part = judgeQuality (goodUsed fr n rest s.part) ∧
      (goodUsed fr n rest s.part).line.state = .up ∧ (goodUsed fr n rest s.part).line.lossRun = 0 := by
  have used : answerUsed n fr true (answerWeighed true rest s.part) = goodUsed fr n rest s.part := useAnswer_eq _ _ _
  obtain ⟨hup, -, -, -, hrun, -⟩ := answerUsed_leaves n fr rest s.part true
  rw [used] at hup hrun
  rw [takeAnswer_up hnotes hstate, hgood, ← used]
  refine ⟨rfl, ?_, ?_⟩
  · rw [used, hup]; exact hstate
  · rw [used, hrun]; rfl

end

/-! ### A departure from UP with no transfer under way -/

theorem callLineDown_aside {v : VoiceNo} {k : SlotNo} (tr : Option Nat) (p : Part) : CallAside v k p (callLineDown tr v p) := by
  have noted : CallAside v k p (modCall v (fun c => { c with seizeTaken := false, answerTaken := false, goodSinceUp := 0 }) p) :=
    modCall_aside p (by exact fun _ => .inl rfl)
  unfold callLineDown
  dsimp only
  split
  · exact noted
  · exact noted.trans (enterCall_aside .unavailable _)
  · exact (noted.trans (enterCall_aside .unavailable _)).trans ((modCall_aside _ (by exact fun _ => .inl rfl)).trans (stopRinging_aside _))
  · exact ((noted.trans (answerCall_aside .failed _ _)).trans (enterCall_aside .unavailable _)).trans
      ((modCall_aside _ (by exact fun _ => .inl rfl)).trans (stopRinging_aside _))

theorem linesDown_leaves {tr : Option Nat} {j : SlotNo} {p : Part} (hidle : p.messages.transmitter = .idle) :
    ((∀ v, (callSlot p v).order ≠ some j) → slotOf (linesDown tr p) j = slotOf p j) ∧ (linesDown tr p).cabins = p.cabins := by
  have down : messagesLineDown p = modMsg (fun m =>
      { discardAssembly m with transmitter := .idle, refusals := 0, lastOffer := none, acceptNext := false }) p := by
    unfold messagesLineDown
    rw [hidle]
  have hcabins : (linesDown tr p).cabins = (messagesLineDown p).cabins := by simp [linesDown]
  refine ⟨fun horder => ?_, by rw [hcabins, down]; rfl⟩
  have first := callLineDown_aside (v := 0) (k := j) tr (messagesLineDown p) (by rw [down]; exact horder 0)
  have second := callLineDown_aside (v := 1) (k := j) tr (callLineDown tr 0 (messagesLineDown p))
    (by rw [callLineDown_ne (by decide), down]; exact horder 1)
  rw [linesDown, second.1, first.1, down]
  rfl

theorem changeLine_leaves {st : LineState} {r : Nat} {j : SlotNo} {p : Part} (hup : p.line.state = .up) (hst : st ≠ .up)
    (hidle : p.messages.transmitter = .idle) :
    ((∀ v, (callSlot p v).order ≠ some j) → slotOf (changeLine st r p) j = slotOf p j) ∧ (changeLine st r p).cabins = p.cabins := by
  have hne : p.line.state ≠ st := fun h => hst (h.symm.trans hup)
  obtain ⟨tr, hhand, -⟩ := handLine_departs (p := attend .line (modLine (fun l => { l with state := st, rate := r }) p)) hst
  obtain ⟨hslot, hcabins⟩ := linesDown_leaves (tr := tr) (j := j)
    (p := attend .line (modLine (fun l => { l with state := st, rate := r }) p)) hidle
  obtain ⟨-, -, gcabins, -, -, -, -, -, -, -, gslots, -⟩ := supLineChange_kept true
    (linesDown tr (attend .line (modLine (fun l => { l with state := st, rate := r }) p)))
  rw [changeLine_moves hne, hup, show (LineState.up == LineState.up) = true from rfl, hhand, slotOf_of_slots_eq gslots, gcabins, hcabins]
  exact ⟨fun horder => hslot horder, rfl⟩

/-- Loss and quality judged with no transfer under way and no loss: the ended transfer stays ended. -/
theorem judgeQuality_leaves {j : SlotNo} {p : Part} (hup : p.line.state = .up) (hrun : p.line.lossRun = 0)
    (hidle : p.messages.transmitter = .idle) (hrefusals : p.messages.refusals = 0) :
    (judgeQuality p).messages.transmitter = .idle ∧ (judgeQuality p).messages.refusals = 0 ∧
      (judgeQuality p).messages.notes = p.messages.notes ∧ (judgeQuality p).messages.waiting = p.messages.waiting ∧
      ((∀ v, (callSlot p v).order ≠ some j) → slotOf (judgeQuality p) j = slotOf p j) ∧ (judgeQuality p).cabins = p.cabins := by
  have hloss : ¬ 50 ≤ p.line.lossRun := by rw [hrun]; decide
  unfold judgeQuality
  rw [if_neg hloss]
  split
  · by_cases hrate : 1 < p.line.rate
    · rw [qualityFails_trains hrate, enterTraining]
      generalize hq : modLine (fun l => { nextAttempt (stopLine l) with attemptsUsed := 0 }) (modLine qualityLine p) = q
      have hqup : q.line.state = .up := by rw [← hq]; exact hup
      have hqmessages : q.messages = p.messages := by rw [← hq]; rfl
      have hqcalls : q.calls = p.calls := by rw [← hq]; rfl
      have hqslot : slotOf q j = slotOf p j := by rw [← hq]; rfl
      have hqcabins : q.cabins = p.cabins := by rw [← hq]; rfl
      obtain ⟨-, -, hmessages, -⟩ := changeLine_from_up (r := p.line.rate - 1) (p := q) hqup (show LineState.training ≠ .up by decide)
      obtain ⟨hslot, hcabins⟩ := changeLine_leaves (r := p.line.rate - 1) (j := j) hqup
        (show LineState.training ≠ .up by decide) (by rw [hqmessages]; exact hidle)
      obtain ⟨-, -, -, hnotes, hwaiting⟩ := discardAssembly_aside q.messages
      rw [hqmessages] at hnotes hwaiting
      refine ⟨by rw [hmessages], by rw [hmessages], by rw [hmessages, hqmessages]; exact hnotes,
        by rw [hmessages, hqmessages]; exact hwaiting, fun horder => ?_, hcabins.trans hqcabins⟩
      rw [hslot fun v => by rw [callSlot, hqcalls]; exact horder v, hqslot]
    · rw [qualityFails_stays (by omega)]
      exact ⟨hidle, hrefusals, rfl, rfl, fun _ => rfl, rfl⟩
  · exact ⟨hidle, hrefusals, rfl, rfl, fun _ => rfl, rfl⟩

/-! ### The second refusal in a row (R164, R166, R167) -/

section
variable {fr : Option SummitFrame} {n : FrameNote} {rest : List FrameNote} {s : State}

theorem accepted_of (hturn : n.offered = some s.part.messages.offerSerial) :
    n.offered = some (wordTaken fr n rest s.part).messages.offerSerial := by
  rw [(wordTaken_leaves fr n rest s.part).1]; exact hturn

theorem transferRefused_ends (hready : Ready s) (hstate : s.part.line.state = .up) (hnotes : s.part.line.notes = n :: rest)
    (hout : 3 ≤ elapsed s.part.clock.now n.start) (hgood : answerGood fr s.part = true) {tr : Transfer}
    (htr : s.part.messages.transmitter = .offering tr) (hrefusals : s.part.messages.refusals = 1)
    (hoffer : n.offered = some s.part.messages.offerSerial) (haccept : (answerRead fr n).accept = false) :
    After (.transferRefused fr) s (fun t =>
      exec (.summitAnswer fr) s = .next t ∧ t.part.messages.transmitter = .idle ∧ t.part.messages.refusals = 0 ∧
      t.part.messages.notes = s.part.messages.notes ∧ t.part.messages.waiting = s.part.messages.waiting ∧
      (∀ j, tr.source = .order j → (∀ v : VoiceNo, (callSlot s.part v).order ≠ some j) →
        (∀ m : ChannelNo, (channel s.part m).owner ≠ .order j) →
        (slotOf t.part j).state = .done ∧ (slotOf t.part j).result = asOctet Result.failed.code ∧ (slotOf t.part j).detail = 1) ∧
      (∀ k, tr.source = .note k → (cabin s.part k).registered = true → k ∉ s.part.messages.notes → isCabin k = true →
        (cabin t.part k).note = .dropped)) := by
  have hdue := summitDue_of (by rw [hstate]; decide) hnotes hout
  have hrefused : refusedNow fr s.part = true := by
    have offering : isOffering s.part.messages = true := by rw [isOffering, htr]
    simp [refusedNow, hdue, hstate, hgood, offering, hrefusals, hnotes, hoffer, haccept]
  obtain ⟨t, ht, hanswer, hleft, -⟩ := occurs_answer (fr := fr) hready hrefused hdue
  obtain ⟨htake, hup, hrun⟩ := takeAnswer_good (fr := fr) hnotes hstate hgood
  rw [htake] at hleft
  obtain ⟨hmessages, hcabins, -⟩ := wordTaken_leaves fr n rest s.part
  have ended : accepted fr n rest s.part = failTransfer tr 1 (transmitterEnded (wordTaken fr n rest s.part)) := by
    rw [accepted, judgeAccept_offering (by rw [hmessages]; exact htr) (accepted_of hoffer), haccept, if_neg (by decide),
      refuseOctet_second (by rw [hmessages, hrefusals]; decide) (by rw [hmessages]; exact htr)]
  have emessages : (accepted fr n rest s.part).messages = { s.part.messages with transmitter := .idle, refusals := 0 } := by
    rw [ended, (failTransfer_kept tr 1 _).2, ← hmessages]; rfl
  obtain ⟨⟨gtr, grefusals, -, gnotes, gwaiting⟩, gcabins⟩ := goodUsed_aside fr n rest s.part
  rw [emessages] at gtr grefusals gnotes gwaiting
  have judged (j : SlotNo) := judgeQuality_leaves (j := j) hup hrun gtr grefusals
  obtain ⟨ktr, krefusals, knotes, kwaiting, -, kcabins⟩ := judged 0
  refine ⟨t, ht, hanswer, by rw [hleft.messages, ktr], by rw [hleft.messages, krefusals], by rw [hleft.messages, knotes, gnotes],
    by rw [hleft.messages, kwaiting, gwaiting], fun j hj hcalls _ => ?_, fun k hk hregistered hno hcabin => ?_⟩
  · obtain ⟨hslot, horder⟩ := goodUsed_slotOf (fr := fr) (n := n) (rest := rest) hcalls
    rw [hleft.slots j, (judged j).2.2.2.2.1 horder, hslot, ended, failTransfer_order hj]
    exact ⟨rfl, rfl, rfl⟩
  · have same : cabin t.part k = cabin (goodUsed fr n rest s.part) k := by
      unfold cabin; rw [hleft.cabins, kcabins]
    have before : cabin (transmitterEnded (wordTaken fr n rest s.part)) k = cabin s.part k := by
      show cabin (wordTaken fr n rest s.part) k = _
      unfold cabin; rw [hcabins]
    rw [same, gcabins, ended]
    refine failTransfer_note hk hcabin (by rw [before]; exact hregistered) ?_
    show k ∉ (wordTaken fr n rest s.part).messages.notes
    rw [hmessages]
    exact hno

/-! ### RINGING_OUT (R177, R183) -/

theorem countSeizing_second {v : VoiceNo} {p : Part} (hstate : (callSlot p v).state = .seizing) (hcount : (callSlot p v).seizeAnswers = 1) :
    countSeizing v true false p = enterCall v .ringingOut (modCall v (fun c => { c with seizeAnswers := min 2 (c.seizeAnswers + 1) }) p) := by
  unfold countSeizing
  simp [hstate, hcount]

/-- The work of a second counted good answer on a SEIZING slot. -/
theorem callGoodAnswer_ringsOut {v : VoiceNo} {w : Half} {p : Part} (hstate : (callSlot p v).state = .seizing)
    (hcount : (callSlot p v).seizeAnswers = 1) (hseize : ¬ SeizeStands v p) (hanswer : ¬ AnswerStands v p) :
    (callSlot (callGoodAnswer v w true p) v).state = .ringingOut ∧
      (callSlot (callGoodAnswer v w true p) v).noAnswer = (callSlot p v).noAnswer ∧
      (callGoodAnswer v w true p).window.attention.getLsbD 10 = true ∧
      (∀ j, (callSlot p v).order = some j → (slotOf (callGoodAnswer v w true p) j).progress = 3) := by
  obtain ⟨hbits, -⟩ := bitsTaken_state v p
  have stays : takeSummitBits v p = bitsTaken v p := by
    rw [takeSummitBits_eq, seizeTurn_rests (.inl hseize) (.inr (.inl (by rw [hbits, hstate]; decide))),
      answerTurn_rests (.inl hanswer) (.inr (.inl (by rw [hbits, hstate]; decide)))]
  have noGlare : ((callSlot (bitsTaken v p) v).seizeTaken && !(callSlot p v).seizeTaken) = false := by
    simpa [SeizeStands] using hseize
  have turned : callGoodAnswer v w true p = updateFreeRun v w true (enterCall v .ringingOut
      (modCall v (fun c => { c with seizeAnswers := min 2 (c.seizeAnswers + 1) }) (bitsTaken v p))) := by
    unfold callGoodAnswer
    dsimp only
    rw [stays, noGlare, countSeizing_second (hbits.trans hstate) (by rw [bitsTaken_slot]; exact hcount)]
  have hfree := updateFreeRun_slot v w true (enterCall v .ringingOut
    (modCall v (fun c => { c with seizeAnswers := min 2 (c.seizeAnswers + 1) }) (bitsTaken v p)))
  rw [enterCall_slot, callSlot_modCall_same, bitsTaken_slot] at hfree
  rw [turned]
  refine ⟨by rw [hfree], by rw [hfree], ?_, fun j hj => ?_⟩
  · exact enterCall_attention (by rw [callSlot_modCall_same]; show (callSlot (bitsTaken v p) v).state ≠ _; rw [hbits, hstate]; decide)
  · show (slotOf (enterCall v .ringingOut _) j).progress = 3
    simp [enterCall, callSlot_modCall_same, bitsTaken_slot, hj, slotOf, setProgress, modSlot, CallState.code]

theorem wordPart_state (fr : Option SummitFrame) (n : FrameNote) (rest : List FrameNote) (p : Part) :
    (wordPart fr n rest p).line.state = p.line.state := rfl

theorem acceptWord_state (w : Half) (l : Line) : (acceptWord w l).state = l.state := rfl

/-- A good answer that leaves the line UP leaves it UP. -/
theorem goodInUp_stays (h : GoodInUp fr n rest s) : (takeAnswer fr s.part).line.state = .up := by
  rw [(takeAnswer_wordTaken h).1, wordTaken_line, acceptWord_state, wordPart_state]
  exact h.1.2.1

section
variable {v : VoiceNo} (hseizing : (callSlot s.part v).state = .seizing)
  (hseize : (acceptWord (answerRead fr n).word s.part.line).accepted.getLsbD (4 + 2 * v.val) = true → (callSlot s.part v).seizeTaken = true)
  (hanswer : (acceptWord (answerRead fr n).word s.part.line).accepted.getLsbD (5 + 2 * v.val) = true →
    (callSlot s.part v).answerTaken = true)
include hseizing hseize hanswer

/-- Neither of the summit's bits comes to stand at the slot's turn. -/
theorem callEntry_still : ¬ SeizeStands v (callEntry fr n rest v s.part) ∧ ¬ AnswerStands v (callEntry fr n rest v s.part) := by
  have hentry := callEntry_same (fr := fr) (n := n) (rest := rest) (s := s) (v := v) (.inl (by rw [hseizing]; decide))
  have hbits := callEntry_bits fr n rest v s.part
  have within : 4 + 2 * v.val < 16 ∧ 5 + 2 * v.val < 16 := by obtain rfl | rfl := voice_cases v <;> decide
  rw [acceptWord_bit _ _ within.1] at hseize
  rw [acceptWord_bit _ _ within.2] at hanswer
  constructor
  · rintro ⟨hnow, hbefore⟩
    rw [hbits] at hnow
    rw [hentry, hseize (Bool.and_eq_true_iff.mp hnow).2] at hbefore
    cases hbefore
  · rintro ⟨hnow, hbefore⟩
    rw [hbits] at hnow
    rw [hentry, hanswer (Bool.and_eq_true_iff.mp hnow).2] at hbefore
    cases hbefore

/-- The slot at the end of the answer that rings. -/
theorem goodUsed_ringsOut (hcarried : carriedSeize n v = true) (hcount : (callSlot s.part v).seizeAnswers = 1) :
    (callSlot (goodUsed fr n rest s.part) v).state = .ringingOut ∧
      (callSlot (goodUsed fr n rest s.part) v).noAnswer = (callSlot s.part v).noAnswer ∧
      (goodUsed fr n rest s.part).window.attention.getLsbD 10 = true ∧
      (∀ j, (callSlot s.part v).order = some j → (∀ u : VoiceNo, u ≠ v → (callSlot s.part u).order ≠ some j) →
        (slotOf (goodUsed fr n rest s.part) j).progress = 3) := by
  have hentry := callEntry_same (fr := fr) (n := n) (rest := rest) (s := s) (v := v) (.inl (by rw [hseizing]; decide))
  obtain ⟨noSeize, noAnswer⟩ := callEntry_still (rest := rest) hseizing hseize hanswer
  obtain ⟨rstate, ranswer, rattention, rprogress⟩ := callGoodAnswer_ringsOut (w := (answerRead fr n).word)
    (p := callEntry fr n rest v s.part) (by rw [hentry]; exact hseizing) (by rw [hentry]; exact hcount) noSeize noAnswer
  rw [hentry] at ranswer rprogress
  have worked := callsGood_slot n (answerRead fr n) v (messagesTaken n (answerRead fr n) (wordTaken fr n rest s.part))
  rw [hcarried] at worked
  refine ⟨(congrArg CallSlot.state worked).trans rstate, (congrArg CallSlot.noAnswer worked).trans ranswer,
    callsGood_attention (v := v) (by rw [hcarried]; exact rattention), fun j hj hother => ?_⟩
  have own := (callsGood_slotOf_own (n := n) (f := answerRead fr n) (messagesTaken_order (fr := fr) (n := n) (rest := rest) hother)).1
  rw [hcarried] at own
  exact (congrArg Slot.progress own).trans (rprogress j hj)

theorem ringingOut_rings (hready : Ready s) (hstate : s.part.line.state = .up) (hnotes : s.part.line.notes = n :: rest)
    (hout : 3 ≤ elapsed s.part.clock.now n.start) (hgood : answerGood fr s.part = true)
    (hcarried : carriedSeize n v = true) (hcount : (callSlot s.part v).seizeAnswers = 1)
    (hquality : ((false :: s.part.line.qualityWindow).take 500).countP (fun errored => errored) ≤ s.part.line.config.qualityThreshold) :
    After (.ringingOut v fr) s (fun t =>
      exec (.summitAnswer fr) s = .next t ∧ (callSlot t.part v).state = .ringingOut ∧ (callSlot t.part v).ownSeize = true ∧
      (callSlot t.part v).noAnswer = (callSlot s.part v).noAnswer ∧ t.part.window.attention.getLsbD 10 = true ∧
      t.part.line.state = .up ∧
      (∀ j, (callSlot s.part v).order = some j → (∀ u : VoiceNo, u ≠ v → (callSlot s.part u).order ≠ some j) →
        (∀ m : ChannelNo, (channel s.part m).owner ≠ .order j) → (slotOf t.part j).progress = 3)) := by
  have h : GoodInUp fr n rest s := ⟨⟨hready, hstate, hnotes, hout⟩, hgood, hquality⟩
  obtain ⟨gstate, ganswer, gattention, gprogress⟩ := goodUsed_ringsOut (rest := rest) hseizing hseize hanswer hcarried hcount
  have htake : takeAnswer fr s.part = goodUsed fr n rest s.part := takeAnswer_goodInUp h
  have hup := goodInUp_stays h
  have hdue := summitDue_of (by rw [hstate]; decide) hnotes hout
  rw [← htake] at gstate ganswer gattention gprogress
  have hrings : ringsOut v fr s.part = true := by
    rw [ringsOut, gstate, hseizing, hdue]; rfl
  obtain ⟨t, ht, hall, hleft, -⟩ := occurs_answer (fr := fr) hready hrings hdue
  have hstateT : (callSlot t.part v).state = .ringingOut := by rw [hleft.calls v]; exact gstate
  exact ⟨t, ht, hall, hstateT, by simp [CallSlot.ownSeize, hstateT], by rw [hleft.calls v]; exact ganswer,
    by rw [hleft.attention]; exact gattention, by rw [hleft.line]; exact hup,
    fun j hj hother _ => by rw [hleft.slots j]; exact gprogress j hj hother⟩

end

/-! ### Every other answer (R164) -/

theorem goodInUp_transmitter (h : GoodInUp fr n rest s) : ∃ t, exec (.summitAnswer fr) s = .next t ∧
    TransmitterStays (accepted fr n rest s.part).messages t.part.messages ∧ NotesKept (accepted fr n rest s.part) t.part ∧
    (∀ j, (∀ v : VoiceNo, (callSlot s.part v).order ≠ some j) → slotOf t.part j = slotOf (accepted fr n rest s.part) j) := by
  obtain ⟨t, ht, hleft, -⟩ := goodInUp_judges h
  have htake : takeAnswer fr s.part = goodUsed fr n rest s.part := takeAnswer_goodInUp h
  rw [htake] at hleft
  obtain ⟨hstays, hnotes⟩ := goodUsed_aside fr n rest s.part
  refine ⟨t, ht, by rw [hleft.messages]; exact hstays, fun k => ?_, fun j hj => ?_⟩
  · rw [← hnotes k]
    unfold cabin
    rw [hleft.cabins]
  · rw [hleft.slots j]
    exact (goodUsed_slotOf hj).1

theorem summitAnswer_transmits (h : GoodInUp fr n rest s) :
    let m := s.part.messages
    let onOffer := n.offered = some m.offerSerial
    let accept := (answerRead fr n).accept
    After (.summitAnswer fr) s (fun t =>
      let g := t.part.messages
      g.notes = m.notes ∧ g.waiting = m.waiting ∧
      (∀ tr, m.transmitter = .offering tr → onOffer → accept = true →
        let last := tr.accepted + 1 = tr.octets.length
        g.transmitter = .pause (if last then none else some { tr with accepted := tr.accepted + 1 }) ∧ g.refusals = 0 ∧
        (∀ j, tr.source = .order j → (∀ v : VoiceNo, (callSlot s.part v).order ≠ some j) →
          (∀ c : ChannelNo, (channel s.part c).owner ≠ .order j) →
          slotOf t.part j = { slotOf s.part j with
            progress := BitVec.ofNat 16 (tr.accepted + 1), state := if last then .done else (slotOf s.part j).state
            result := if last then 0 else (slotOf s.part j).result, detail := if last then 0 else (slotOf s.part j).detail }) ∧
        (∀ k, tr.source = .note k → isCabin k = true → (cabin t.part k).note =
          (if last ∧ (cabin s.part k).registered = true ∧ k ∉ m.notes then .sent else (cabin s.part k).note))) ∧
      (∀ tr, m.transmitter = .offering tr → onOffer → accept = false → m.refusals = 0 →
        g.transmitter = .offering tr ∧ g.refusals = 1 ∧ g.offerSerial = m.offerSerial) ∧
      (m.transmitter = .abandoning → onOffer →
        (accept = true → g.transmitter = .pause none) ∧ (accept = false → m.refusals = 0 → g.transmitter = .abandoning ∧ g.refusals = 1) ∧
        (accept = false → m.refusals ≠ 0 → g.transmitter = .idle)) ∧
      (¬ onOffer ∨ m.transmitter = .idle ∨ (∃ x, m.transmitter = .pause x) → g.transmitter = m.transmitter ∧ g.refusals = m.refusals)) := by
  intro m onOffer accept
  obtain ⟨t, ht, ⟨htr, hrefusals, hserial, hnotes, hwaiting⟩, hcabins, hslots⟩ := goodInUp_transmitter h
  obtain ⟨wmessages, wcabins, wslots, -⟩ := wordTaken_leaves fr n rest s.part
  have wcabin (k : Nat) : cabin (wordTaken fr n rest s.part) k = cabin s.part k := by unfold cabin; rw [wcabins]
  have wslot (j : SlotNo) : slotOf (wordTaken fr n rest s.part) j = slotOf s.part j := slotOf_of_slots_eq wslots j
  have offering {tr : Transfer} (htr : m.transmitter = .offering tr) (hon : onOffer) : accepted fr n rest s.part =
      if accept then acceptOctet tr (wordTaken fr n rest s.part) else refuseOctet (wordTaken fr n rest s.part) :=
    judgeAccept_offering (by rw [wmessages]; exact htr) (accepted_of hon)
  have abandoning (htr : m.transmitter = .abandoning) (hon : onOffer) : accepted fr n rest s.part =
      if accept then modMsg (fun m => { m with transmitter := .pause none, refusals := 0 }) (wordTaken fr n rest s.part)
      else refuseOctet (wordTaken fr n rest s.part) :=
    judgeAccept_abandoning (by rw [wmessages]; exact htr) (accepted_of hon)
  have lists : (accepted fr n rest s.part).messages.notes = m.notes ∧ (accepted fr n rest s.part).messages.waiting = m.waiting := by
    have := judgeAccept_lists n.offered accept (wordTaken fr n rest s.part)
    rwa [wmessages] at this
  refine ⟨t, ht, hnotes.trans lists.1, hwaiting.trans lists.2, fun tr hoffering hon haccept => ?_,
    fun tr hoffering hon haccept hnone => ?_, fun habandons hon => ⟨fun haccept => ?_, fun haccept hnone => ?_, fun haccept hsome => ?_⟩,
    fun hother => ?_⟩
  · have turned : accepted fr n rest s.part = acceptOctet tr (wordTaken fr n rest s.part) := by
      rw [offering hoffering hon, haccept]; rfl
    have hmessages := acceptOctet_messages tr (wordTaken fr n rest s.part)
    rw [← turned] at hmessages
    refine ⟨by rw [htr, hmessages], by rw [hrefusals, hmessages], fun j hj hcalls _ => ?_, fun k hk hcabin => ?_⟩
    · rw [hslots j hcalls, turned, acceptOctet_order hj, wslot]
    · rw [hcabins k, turned, acceptOctet_note hk hcabin, wcabin, wmessages]
  · have turned : accepted fr n rest s.part = modMsg (fun m => { m with refusals := 1 }) (wordTaken fr n rest s.part) := by
      rw [offering hoffering hon, haccept, if_neg (by decide), refuseOctet_first (by rw [wmessages]; exact hnone)]
    rw [turned] at htr hrefusals hserial
    refine ⟨htr.trans ?_, hrefusals, hserial.trans ?_⟩
    · show (wordTaken fr n rest s.part).messages.transmitter = _
      rw [wmessages]; exact hoffering
    · show (wordTaken fr n rest s.part).messages.offerSerial = _
      rw [wmessages]
  · have turned := abandoning habandons hon
    rw [haccept, if_pos rfl] at turned
    rw [turned] at htr
    exact htr
  · have turned := abandoning habandons hon
    rw [haccept, if_neg (by decide), refuseOctet_first (by rw [wmessages]; exact hnone)] at turned
    rw [turned] at htr hrefusals
    refine ⟨htr.trans ?_, hrefusals⟩
    show (wordTaken fr n rest s.part).messages.transmitter = _
    rw [wmessages]; exact habandons
  · have turned := abandoning habandons hon
    rw [haccept, if_neg (by decide), refuseOctet_abandoned (by rw [wmessages]; exact hsome) (by rw [wmessages]; exact habandons)] at turned
    rw [turned] at htr
    exact htr
  · have turned : accepted fr n rest s.part = wordTaken fr n rest s.part := judgeAccept_other (by rw [wmessages]; exact hother)
    rw [turned, wmessages] at htr hrefusals
    exact ⟨htr, hrefusals⟩

end

end Sys2Proof.Machine

/-! The receiver at a good answer: the table of R170, and the passage notes (R16, R169 to R171). -/

namespace Sys2Proof.Machine

/-! ### Starting, appending and discarding -/

/-- The state of a receive slot once the assembly under way is discarded. -/
def leftState (m : Messages) (q : Fin 4) : ReceiveState := if m.receiver = .slot q then .empty else (m.slots.get q).state

theorem discardAssembly_receiver (m : Messages) : (discardAssembly m).receiver = .idle := by
  unfold discardAssembly
  split <;> rfl

theorem discardAssembly_slot (m : Messages) (q : Fin 4) : (discardAssembly m).slots.get q = { m.slots.get q with state := leftState m q } := by
  unfold discardAssembly leftState
  cases h : m.receiver with
  | slot i =>
    by_cases hq : i = q
    · subst hq
      simp [modReceive]
    · have hne : Receiver.slot i ≠ .slot q := fun heq => hq (by injection heq)
      rw [if_neg hne]
      exact modTable_get_ne _ _ _ _ (fun heq => hq heq.symm)
  | _ => rw [if_neg (by simp)]

theorem discardAssembly_idle {m : Messages} (h : m.receiver = .idle) : discardAssembly m = m := by
  unfold discardAssembly
  rw [h]
  cases m
  cases h
  rfl

theorem emptySlot_some {m : Messages} {q : Fin 4} (h : (m.slots.get q).state = .empty)
    (hbefore : ∀ j : Fin 4, j < q → (m.slots.get j).state ≠ .empty) : emptySlot m = some q := by
  unfold emptySlot
  rw [List.find?_eq_some_iff_getElem]
  refine ⟨by simpa using h, q.val, by simp, by simp, fun j hj => ?_⟩
  simpa using hbefore ⟨j, by omega⟩ hj

theorem emptySlot_none {m : Messages} (h : ∀ j : Fin 4, (m.slots.get j).state ≠ .empty) : emptySlot m = none := by
  unfold emptySlot
  rw [List.find?_eq_none]
  intro j _
  simpa using h j

/-- The slot in which an assembly has just begun. -/
def startedSlot (b : Byte) (s : ReceiveSlot) : ReceiveSlot := ReceiveSlot.put { s with state := .assembling, type := b, length := 1 } 0 b

theorem startedSlot_fields (b : Byte) (s : ReceiveSlot) : (startedSlot b s).state = .assembling ∧ (startedSlot b s).type = b ∧
    (startedSlot b s).length = 1 ∧ (startedSlot b s).octets.toList = s.octets.toList.set 0 b := by
  unfold startedSlot ReceiveSlot.put
  rw [dif_pos (by decide)]
  exact ⟨rfl, rfl, rfl, Vector.toList_set (by decide)⟩

section
variable {b : Byte} {m : Messages}

theorem startAssembly_slot {q : Fin 4} (hlow : 1 ≤ b.toNat) (hhigh : b.toNat ≤ 0x7F) (hq : emptySlot m = some q) :
    startAssembly b m = (true, { modReceive q (startedSlot b) m with receiver := .slot q }) := by
  unfold startAssembly
  dsimp only
  rw [if_pos (by simp [hlow, hhigh]), hq]
  rfl

theorem startAssembly_full (hlow : 1 ≤ b.toNat) (hhigh : b.toNat ≤ 0x7F) (hq : emptySlot m = none) :
    startAssembly b m = (false, { m with receiver := .idle }) := by
  unfold startAssembly
  dsimp only
  rw [if_pos (by simp [hlow, hhigh]), hq]

theorem startAssembly_note (h : b = 0x80) : startAssembly b m = (true, { m with receiver := .note [0x80] }) := by
  subst h; rfl

theorem startAssembly_other (h : b = 0 ∨ 0x80 < b.toNat) : startAssembly b m = (true, { m with receiver := .discarding 1 }) := by
  have text : (decide (1 ≤ b.toNat) && decide (b.toNat ≤ 0x7F)) = false := by
    obtain h | h := h
    · subst h; rfl
    · simp only [Bool.and_eq_false_iff, decide_eq_false_iff_not]; omega
  have note : (b.toNat == 0x80) = false := by
    obtain h | h := h
    · subst h; rfl
    · simp only [beq_eq_false_iff_ne]; omega
  unfold startAssembly
  dsimp only
  rw [if_neg (by rw [text]; decide), if_neg (by rw [note]; decide)]

/-- A slot with one more octet. -/
def appendedSlot (b : Byte) (s : ReceiveSlot) : ReceiveSlot := { s.put s.length b with length := s.length + 1 }

theorem appendedSlot_fields {s : ReceiveSlot} (h : s.length < 64) : (appendedSlot b s).state = s.state ∧ (appendedSlot b s).type = s.type ∧
    (appendedSlot b s).length = s.length + 1 ∧ (appendedSlot b s).octets.toList = s.octets.toList.set s.length b := by
  unfold appendedSlot ReceiveSlot.put
  rw [dif_pos h]
  exact ⟨rfl, rfl, rfl, Vector.toList_set h⟩

theorem appendOctet_long (h : 64 ≤ assemblyLength m) : appendOctet b m = (false, discardAssembly m) := if_pos h

theorem appendOctet_slot {q : Fin 4} (hrec : m.receiver = .slot q) (h : assemblyLength m < 64) :
    appendOctet b m = (true, modReceive q (appendedSlot b) m) := by
  have hshort : ¬ Config.messageMax ≤ assemblyLength m := not_le.2 h
  rw [appendOctet, if_neg hshort, hrec]
  rfl

theorem appendOctet_note {l : List Byte} (hrec : m.receiver = .note l) (h : assemblyLength m < 64) :
    appendOctet b m = (true, { m with receiver := .note (l ++ [b]) }) := by
  have hshort : ¬ Config.messageMax ≤ assemblyLength m := not_le.2 h
  rw [appendOctet, if_neg hshort, hrec]

theorem appendOctet_discarding {k : Nat} (hrec : m.receiver = .discarding k) (h : assemblyLength m < 64) :
    appendOctet b m = (true, { m with receiver := .discarding (k + 1) }) := by
  have hshort : ¬ Config.messageMax ≤ assemblyLength m := not_le.2 h
  rw [appendOctet, if_neg hshort, hrec]

end

/-! ### The end of an assembly -/

section
variable {p : Part}

theorem endAssembly_slot {q : Fin 4} (h : p.messages.receiver = .slot q) :
    (endAssembly p).messages = { modReceive q (fun s => { s with state := .full }) p.messages with receiver := .idle } ∧
      (endAssembly p).window.attention.getLsbD 9 = true := by
  unfold endAssembly
  rw [h]
  refine ⟨rfl, ?_⟩
  simp [modMsg, Attn.bit]

theorem endAssembly_note {l : List Byte} (h : p.messages.receiver = .note l) :
    endAssembly p = deliverNote l (modMsg (fun m => { m with receiver := .idle }) p) := by
  unfold endAssembly
  rw [h]

theorem endAssembly_discarding {k : Nat} (h : p.messages.receiver = .discarding k) :
    endAssembly p = modMsg (fun m => { m with receiver := .idle }) p := by
  unfold endAssembly
  rw [h]

end

/-! ### The table of R170, by mark -/

section
variable {b : Byte} {p : Part}

theorem receiveOctet_first : receiveOctet b .first p = takeAssembly (startAssembly b (discardAssembly p.messages)) p := rfl

theorem receiveOctet_abandon : receiveOctet b .abandon p = (true, modMsg discardAssembly p) := rfl

theorem receiveOctet_middle_idle (h : p.messages.receiver = .idle) : receiveOctet b .middle p = (true, p) := by
  simp [receiveOctet, h]

theorem receiveOctet_middle (h : p.messages.receiver ≠ .idle) : receiveOctet b .middle p = takeAssembly (appendOctet b p.messages) p := by
  simp [receiveOctet, h]

/-- A LAST octet that is taken ends its assembly. -/
def lastTaken (r : Bool × Messages) (p : Part) : Bool × Part :=
  if r.1 then (true, endAssembly { p with messages := r.2 }) else (false, { p with messages := r.2 })

theorem lastTaken_eq (r : Bool × Messages) (p : Part) :
    (if (takeAssembly r p).1 then (true, endAssembly (takeAssembly r p).2) else takeAssembly r p) = lastTaken r p := by
  obtain ⟨taken, m⟩ := r
  cases taken <;> rfl

theorem receiveOctet_last_idle (h : p.messages.receiver = .idle) :
    receiveOctet b .last p = lastTaken (startAssembly b (discardAssembly p.messages)) p := by
  rw [discardAssembly_idle h, ← lastTaken_eq]
  simp [receiveOctet, h]

theorem receiveOctet_last (h : p.messages.receiver ≠ .idle) : receiveOctet b .last p = lastTaken (appendOctet b p.messages) p := by
  rw [← lastTaken_eq]
  simp [receiveOctet, h]

end

/-! ### A new offer and its repeat -/

section
variable {b : Byte} {mark : MsgMark} {p : Part}

theorem judgeOffer_repeat {o : JudgedOffer} (h : o ∈ p.messages.lastOffer) (hoctet : o.octet = b) (hmark : o.mark = mark) :
    judgeOffer (some (b, mark)) p = modMsg (fun m => { m with lastOffer := none, acceptNext := o.taken }) p := by
  have same : repeated b mark p.messages = some o := by
    rw [repeated, Option.mem_def.1 h]
    simp [Option.filter, hoctet, hmark]
  simp only [judgeOffer, same]

theorem judgeOffer_fresh (h : ∀ o ∈ p.messages.lastOffer, ¬ (o.octet = b ∧ o.mark = mark)) :
    judgeOffer (some (b, mark)) p = judgeNewOffer b mark p := by
  have fresh : repeated b mark p.messages = none := by
    rw [repeated, Option.filter_eq_none_iff]
    intro o ho
    simpa using h o ho
  simp only [judgeOffer, fresh]

theorem overfills_iff : overfills mark p.messages = true ↔
    (mark = .middle ∨ mark = .last) ∧ p.messages.receiver ≠ .idle ∧ 64 ≤ assemblyLength p.messages := by
  simp [overfills, Config.messageMax, and_assoc]

end

/-! ### A passage note (R16) -/

/-- The marks of the roster entries ahead of the one that the note names. -/
theorem noteRoster_split {k : Nat} (before after : List RosterEntry) {e : RosterEntry} (he : e.cabin = k)
    (hbefore : ∀ x ∈ before, x.cabin ≠ k) : noteRoster k (before ++ e :: after) =
      before.map (fun x => if x.mark = .none then { x with mark := .missed } else x) ++ { e with mark := .passed } :: after := by
  induction before with
  | nil => simp [noteRoster, he]
  | cons x before ih =>
    obtain ⟨hx, hrest⟩ := List.forall_mem_cons.1 hbefore
    simp [noteRoster, hx, ih hrest]

theorem copyMark_mark_ne {e : RosterEntry} {j : Fin 128} (p : Part) (h : e.cabin ≠ j.val + 1) :
    ((copyMark p e).cabins.get j).mark = (p.cabins.get j).mark := by
  unfold copyMark modCabin
  split
  next hrange =>
    rw [modTable_get_ne]
    intro heq
    have := congrArg Fin.val heq
    simp only at this
    omega
  next => rfl

theorem copyMark_mark_same {e : RosterEntry} {j : Fin 128} (p : Part) (h : e.cabin = j.val + 1) :
    ((copyMark p e).cabins.get j).mark = e.mark := by
  have hrange : 1 ≤ e.cabin ∧ e.cabin ≤ 128 := by omega
  have hj : (⟨e.cabin - 1, by omega⟩ : Fin 128) = j := Fin.ext (by simp only; omega)
  unfold copyMark modCabin
  rw [dif_pos hrange, hj, modTable_get_same]

/-- A record takes the mark that every entry copied for it has, and keeps its own where none is. -/
theorem copyMarks_mark {j : Fin 128} {mk : SummitMark} {l : List RosterEntry} (h : ∀ e ∈ l, e.cabin = j.val + 1 → e.mark = mk) (p : Part) :
    ((l.foldl copyMark p).cabins.get j).mark = if ∃ e ∈ l, e.cabin = j.val + 1 then mk else (p.cabins.get j).mark := by
  induction l generalizing p with
  | nil => simp
  | cons e l ih =>
    obtain ⟨he, hl⟩ := List.forall_mem_cons.1 h
    rw [List.foldl_cons, ih hl]
    by_cases hrest : ∃ x ∈ l, x.cabin = j.val + 1
    · rw [if_pos hrest, if_pos (hrest.imp fun x hx => ⟨List.mem_cons_of_mem _ hx.1, hx.2⟩)]
    · rw [if_neg hrest]
      by_cases hcabin : e.cabin = j.val + 1
      · rw [copyMark_mark_same p hcabin, he hcabin, if_pos ⟨e, List.mem_cons_self, hcabin⟩]
      · rw [copyMark_mark_ne p hcabin, if_neg]
        rintro ⟨x, hx, hxcabin⟩
        obtain rfl | hx := List.mem_cons.1 hx
        · exact hcabin hxcabin
        · exact hrest ⟨x, hx, hxcabin⟩

theorem copyMarks_track (l : List RosterEntry) (p : Part) : (l.foldl copyMark p).track = p.track := by
  induction l generalizing p with
  | nil => rfl
  | cons e l ih => rw [List.foldl_cons, ih, copyMark, modCabin_track]

theorem passageNote_unknown {k : Nat} {p : Part} (h : k ∉ rosterNumbers p) : passageNote k p = attend .track p := by
  refine if_neg ?_
  simpa [onRoster, rosterNumbers] using h

section
variable {k : Nat} {p : Part} {before after : List RosterEntry} {e : RosterEntry} (hroster : p.track.roster = before ++ e :: after)
  (he : e.cabin = k) (hbefore : ∀ x ∈ before, x.cabin ≠ k)
include hroster he hbefore

theorem passageNote_roster : (passageNote k p).track.roster =
    before.map (fun x => if x.mark = .none then { x with mark := .missed } else x) ++ { e with mark := .passed } :: after := by
  have listed : onRoster p k = true := by simp [onRoster, hroster, he]
  unfold passageNote
  rw [if_pos listed]
  dsimp only
  rw [copyMarks_track]
  show noteRoster k p.track.roster = _
  rw [hroster, noteRoster_split before after he hbefore]

/-- The entries whose marks a passage note copies, told apart by what they were before it. -/
theorem copied_cases (hnodup : (rosterNumbers p).Nodup) {x : RosterEntry}
    (hx : x ∈ (noteRoster k p.track.roster).filter (fun x => x.cabin == k || !p.track.roster.contains x)) :
    (x.cabin = k ∧ x.mark = .passed) ∨
      (x.cabin ≠ k ∧ x.mark = .missed ∧ ∃ y ∈ before, y.cabin = x.cabin ∧ y.mark = .none) := by
  obtain ⟨hmem, hkept⟩ := List.mem_filter.1 hx
  have apart : e.cabin ∉ after.map (·.cabin) := by
    have numbers : (before.map (·.cabin) ++ e.cabin :: after.map (·.cabin)).Nodup := by simpa [rosterNumbers, hroster] using hnodup
    exact (List.nodup_cons.1 (List.nodup_append.1 numbers).2.1).1
  rw [hroster, noteRoster_split before after he hbefore, List.mem_append, List.mem_cons, List.mem_map] at hmem
  have changed (hne : x.cabin ≠ k) : x ∉ p.track.roster := by simpa [hne] using hkept
  obtain ⟨y, hy, hxy⟩ | rfl | hafter := hmem
  · have hcabin : x.cabin = y.cabin := by rw [← hxy]; split <;> rfl
    have hne : x.cabin ≠ k := by rw [hcabin]; exact hbefore y hy
    by_cases hmark : y.mark = .none
    · rw [if_pos hmark] at hxy
      exact .inr ⟨hne, by rw [← hxy], y, hy, hcabin.symm, hmark⟩
    · rw [if_neg hmark] at hxy
      exact absurd (by rw [hroster, ← hxy]; exact List.mem_append_left _ hy) (changed hne)
  · exact .inl ⟨he, rfl⟩
  · have hne : x.cabin ≠ k := fun h => apart (List.mem_map.2 ⟨x, hafter, h.trans he.symm⟩)
    exact absurd (by rw [hroster]; exact List.mem_append_right _ (List.mem_cons_of_mem _ hafter)) (changed hne)

theorem passageNote_marks (hnodup : (rosterNumbers p).Nodup) (j : Fin 128) : ((passageNote k p).cabins.get j).mark =
    if j.val + 1 = e.cabin then .passed
    else if before.any (fun x => x.cabin == j.val + 1 && x.mark == .none) then .missed else (p.cabins.get j).mark := by
  have listed : onRoster p k = true := by simp [onRoster, hroster, he]
  have noted : noteRoster k p.track.roster =
      before.map (fun x => if x.mark = .none then { x with mark := .missed } else x) ++ { e with mark := .passed } :: after := by
    rw [hroster, noteRoster_split before after he hbefore]
  have cases {x : RosterEntry} := copied_cases hroster he hbefore hnodup (x := x)
  unfold passageNote
  rw [if_pos listed]
  dsimp only
  by_cases hj : j.val + 1 = e.cabin
  · rw [if_pos hj, copyMarks_mark (mk := .passed), if_pos]
    · refine ⟨{ e with mark := .passed }, List.mem_filter.2 ⟨?_, by simp [he]⟩, hj.symm⟩
      rw [noted]
      exact List.mem_append_right _ List.mem_cons_self
    · intro x hx hcabin
      obtain ⟨-, hmark⟩ | ⟨hne, -⟩ := cases hx
      · exact hmark
      · exact absurd (hcabin.trans (hj.trans he)) hne
  · have missed {x : RosterEntry} (hx : x ∈ (noteRoster k p.track.roster).filter (fun x => x.cabin == k || !p.track.roster.contains x))
        (hcabin : x.cabin = j.val + 1) : x.mark = .missed ∧ ∃ y ∈ before, y.cabin = x.cabin ∧ y.mark = .none := by
      obtain ⟨heq, -⟩ | ⟨-, hmark⟩ := cases hx
      · exact absurd (hcabin.symm.trans (heq.trans he.symm)) hj
      · exact hmark
    rw [if_neg hj, copyMarks_mark (mk := .missed) fun x hx hcabin => (missed hx hcabin).1]
    refine if_congr ⟨fun ⟨x, hx, hcabin⟩ => ?_, fun hany => ?_⟩ rfl rfl
    · obtain ⟨-, y, hy, hycabin, hymark⟩ := missed hx hcabin
      exact List.any_eq_true.2 ⟨y, hy, by simp [hycabin, hcabin, hymark]⟩
    · obtain ⟨y, hy, hyes⟩ := List.any_eq_true.1 hany
      obtain ⟨hycabin, hymark⟩ : y.cabin = j.val + 1 ∧ y.mark = .none := by simpa using hyes
      have hroll : y ∈ p.track.roster := by rw [hroster]; exact List.mem_append_left _ hy
      have fresh : { y with mark := .missed } ∉ p.track.roster := fun hin => by
        have same : { y with mark := .missed } = y := List.inj_on_of_nodup_map hnodup hin hroll rfl
        rw [← same] at hymark
        cases hymark
      refine ⟨{ y with mark := .missed }, List.mem_filter.2 ⟨?_, by simpa using .inr fresh⟩, hycabin⟩
      rw [noted]
      refine List.mem_append_left _ (List.mem_map.2 ⟨y, hy, ?_⟩)
      rw [if_pos hymark]

end

end Sys2Proof.Machine

/-! O57: what an answer does to the transmitter, the receiver and the summit marks (R16, R164 to R171, R177, R183). -/

namespace Sys2Proof.Machine

/-! ### The rows of the table of R170 -/

section
variable {b : Byte} {mark : MsgMark} {p : Part}

/-- "Start" of a text message with a slot left (R170). -/
theorem receiveOctet_starts {q : Fin 4} (hmark : mark = .first ∨ (mark = .last ∧ p.messages.receiver = .idle)) (hlow : 1 ≤ b.toNat)
    (hhigh : b.toNat ≤ 0x7F) (hq : leftState p.messages q = .empty) (hbefore : ∀ j : Fin 4, j < q → leftState p.messages j ≠ .empty) :
    (receiveOctet b mark p).1 = true ∧
      (receiveOctet b mark p).2.messages.receiver = (if mark = .first then .slot q else .idle) ∧
      ((receiveOctet b mark p).2.messages.slots.get q).state = (if mark = .first then .assembling else .full) ∧
      ((receiveOctet b mark p).2.messages.slots.get q).type = b ∧ ((receiveOctet b mark p).2.messages.slots.get q).length = 1 ∧
      ((receiveOctet b mark p).2.messages.slots.get q).octets.toList = (p.messages.slots.get q).octets.toList.set 0 b ∧
      (∀ j : Fin 4, j ≠ q → (receiveOctet b mark p).2.messages.slots.get j =
        { p.messages.slots.get j with state := leftState p.messages j }) ∧
      (mark = .last → (receiveOctet b mark p).2.window.attention.getLsbD 9 = true) := by
  have left (j : Fin 4) := discardAssembly_slot p.messages j
  have found : emptySlot (discardAssembly p.messages) = some q :=
    emptySlot_some (by rw [left]; exact hq) fun j hj => by rw [left]; exact hbefore j hj
  have started := startAssembly_slot hlow hhigh found
  obtain ⟨hstate, htype, hlength, hoctets⟩ := startedSlot_fields b ((discardAssembly p.messages).slots.get q)
  replace hoctets := hoctets.trans (congrArg (fun s : ReceiveSlot => s.octets.toList.set 0 b) (left q))
  have slot : (modReceive q (startedSlot b) (discardAssembly p.messages)).slots.get q =
      startedSlot b ((discardAssembly p.messages).slots.get q) := modTable_get_same _ _ _
  have other (j : Fin 4) (hj : j ≠ q) : (modReceive q (startedSlot b) (discardAssembly p.messages)).slots.get j =
      { p.messages.slots.get j with state := leftState p.messages j } := (modTable_get_ne _ _ _ _ hj).trans (left j)
  obtain rfl | ⟨rfl, hidle⟩ := hmark
  · rw [receiveOctet_first, started]
    simp only [takeAssembly, slot]
    exact ⟨trivial, rfl, hstate, htype, hlength, hoctets, other, nofun⟩
  · obtain ⟨hmessages, hattention⟩ := endAssembly_slot (q := q)
      (p := { p with messages := { modReceive q (startedSlot b) (discardAssembly p.messages) with receiver := .slot q } }) rfl
    have full : ((modReceive q (fun s => { s with state := .full })
        { modReceive q (startedSlot b) (discardAssembly p.messages) with receiver := .slot q }).slots.get q) =
        { startedSlot b ((discardAssembly p.messages).slots.get q) with state := .full } :=
      (modTable_get_same _ _ _).trans (by rw [slot])
    rw [receiveOctet_last_idle hidle, started]
    simp only [lastTaken, if_true]
    rw [hmessages]
    simp only [full]
    exact ⟨trivial, rfl, rfl, htype, hlength, hoctets, fun j hj => (modTable_get_ne _ _ _ _ hj).trans (other j hj), fun _ => hattention⟩

/-- "Start" of a text message with no slot left: refused (R170). -/
theorem receiveOctet_noSlot (hmark : mark = .first ∨ (mark = .last ∧ p.messages.receiver = .idle)) (hlow : 1 ≤ b.toNat)
    (hhigh : b.toNat ≤ 0x7F) (hfull : ∀ j : Fin 4, leftState p.messages j ≠ .empty) :
    (receiveOctet b mark p).1 = false ∧ (receiveOctet b mark p).2.messages.receiver = .idle ∧
      ∀ j : Fin 4, ((receiveOctet b mark p).2.messages.slots.get j).state = leftState p.messages j := by
  have left (j : Fin 4) := discardAssembly_slot p.messages j
  have none : emptySlot (discardAssembly p.messages) = none := emptySlot_none fun j => by rw [left]; exact hfull j
  have started := startAssembly_full hlow hhigh none
  obtain rfl | ⟨rfl, hidle⟩ := hmark
  · rw [receiveOctet_first, started]
    exact ⟨rfl, rfl, fun j => by rw [takeAssembly, left]⟩
  · rw [receiveOctet_last_idle hidle, started]
    exact ⟨rfl, rfl, fun j => by simp only [lastTaken, Bool.false_eq_true, if_false]; rw [left]⟩

/-- A FIRST octet that begins a passage note or an assembly thrown away (R170). -/
theorem receiveOctet_begins {r : Receiver} (h : startAssembly b (discardAssembly p.messages) =
    (true, { discardAssembly p.messages with receiver := r })) : (receiveOctet b .first p).1 = true ∧
      (receiveOctet b .first p).2.messages.receiver = r ∧
      ∀ j : Fin 4, ((receiveOctet b .first p).2.messages.slots.get j).state = leftState p.messages j := by
  rw [receiveOctet_first, h]
  exact ⟨rfl, rfl, fun j => by rw [takeAssembly, discardAssembly_slot]⟩

/-- ABANDON (R170). -/
theorem receiveOctet_abandons : (receiveOctet b .abandon p).1 = true ∧ (receiveOctet b .abandon p).2.messages.receiver = .idle ∧
    ∀ j : Fin 4, ((receiveOctet b .abandon p).2.messages.slots.get j).state = leftState p.messages j := by
  rw [receiveOctet_abandon]
  exact ⟨rfl, discardAssembly_receiver _, fun j => congrArg ReceiveSlot.state (discardAssembly_slot p.messages j)⟩

variable (hmark : mark = .middle ∨ mark = .last)
include hmark

/-- A 65th octet is refused, and the assembly discarded (R170). -/
theorem receiveOctet_overfills (hrec : p.messages.receiver ≠ .idle) (hlong : 64 ≤ assemblyLength p.messages) :
    (receiveOctet b mark p).1 = false ∧ (receiveOctet b mark p).2.messages.receiver = .idle ∧
      ∀ j : Fin 4, ((receiveOctet b mark p).2.messages.slots.get j).state = leftState p.messages j := by
  have discarded : receiveOctet b mark p = (false, { p with messages := discardAssembly p.messages }) := by
    obtain rfl | rfl := hmark
    · rw [receiveOctet_middle hrec, appendOctet_long hlong]; rfl
    · rw [receiveOctet_last hrec, appendOctet_long hlong]; rfl
  rw [discarded]
  exact ⟨rfl, discardAssembly_receiver _, fun j => congrArg ReceiveSlot.state (discardAssembly_slot p.messages j)⟩

/-- An octet appended in a slot, which the LAST one makes FULL (R170). -/
theorem receiveOctet_slot {q : Fin 4} (hrec : p.messages.receiver = .slot q) (hshort : assemblyLength p.messages < 64) :
    (receiveOctet b mark p).1 = true ∧
      (receiveOctet b mark p).2.messages.receiver = (if mark = .last then .idle else .slot q) ∧
      ((receiveOctet b mark p).2.messages.slots.get q).type = (p.messages.slots.get q).type ∧
      ((receiveOctet b mark p).2.messages.slots.get q).state = (if mark = .last then .full else (p.messages.slots.get q).state) ∧
      ((receiveOctet b mark p).2.messages.slots.get q).length = assemblyLength p.messages + 1 ∧
      ((receiveOctet b mark p).2.messages.slots.get q).octets.toList =
        (p.messages.slots.get q).octets.toList.set (assemblyLength p.messages) b ∧
      (∀ j : Fin 4, j ≠ q → (receiveOctet b mark p).2.messages.slots.get j = p.messages.slots.get j) ∧
      (mark = .last → (receiveOctet b mark p).2.window.attention.getLsbD 9 = true) := by
  have hne : p.messages.receiver ≠ .idle := by rw [hrec]; nofun
  have hsize : assemblyLength p.messages = (p.messages.slots.get q).length := by rw [assemblyLength, hrec]
  have appended := appendOctet_slot (b := b) hrec hshort
  obtain ⟨hstate, htype, hlength, hoctets⟩ := appendedSlot_fields (b := b) (s := p.messages.slots.get q) (by rw [← hsize]; exact hshort)
  rw [← hsize] at hlength hoctets
  have slot : (modReceive q (appendedSlot b) p.messages).slots.get q = appendedSlot b (p.messages.slots.get q) := modTable_get_same _ _ _
  have other (j : Fin 4) (hj : j ≠ q) : (modReceive q (appendedSlot b) p.messages).slots.get j = p.messages.slots.get j :=
    modTable_get_ne _ _ _ _ hj
  obtain rfl | rfl := hmark
  · rw [receiveOctet_middle hne, appended]
    simp only [takeAssembly, slot]
    exact ⟨trivial, hrec, htype, hstate, hlength, hoctets, other, nofun⟩
  · obtain ⟨hmessages, hattention⟩ := endAssembly_slot (q := q)
      (p := { p with messages := modReceive q (appendedSlot b) p.messages }) hrec
    have full : ((modReceive q (fun s => { s with state := .full }) (modReceive q (appendedSlot b) p.messages)).slots.get q) =
        { appendedSlot b (p.messages.slots.get q) with state := .full } := (modTable_get_same _ _ _).trans (by rw [slot])
    rw [receiveOctet_last hne, appended]
    simp only [lastTaken, if_true]
    rw [hmessages]
    simp only [full]
    exact ⟨trivial, trivial, htype, trivial, hlength, hoctets, fun j hj => (modTable_get_ne _ _ _ _ hj).trans (other j hj), fun _ => hattention⟩

/-- An octet appended to a passage note, which the LAST one delivers (R170, R171). -/
theorem receiveOctet_note {l : List Byte} (hrec : p.messages.receiver = .note l) (hshort : assemblyLength p.messages < 64) :
    (receiveOctet b mark p).1 = true ∧ (receiveOctet b mark p).2.messages.slots = p.messages.slots ∧
      (receiveOctet b mark p).2.messages.receiver = (if mark = .last then .idle else .note (l ++ [b])) := by
  have hne : p.messages.receiver ≠ .idle := by rw [hrec]; nofun
  have appended := appendOctet_note (b := b) hrec hshort
  obtain rfl | rfl := hmark
  · rw [receiveOctet_middle hne, appended]
    exact ⟨rfl, rfl, rfl⟩
  · rw [receiveOctet_last hne, appended]
    simp only [lastTaken, if_true]
    rw [endAssembly_note rfl, (deliverNote_kept _ _).2]
    exact ⟨trivial, rfl, rfl⟩

/-- An octet appended to an assembly that is thrown away (R170). -/
theorem receiveOctet_discarding {k : Nat} (hrec : p.messages.receiver = .discarding k) (hshort : assemblyLength p.messages < 64) :
    (receiveOctet b mark p).1 = true ∧ (receiveOctet b mark p).2.messages.slots = p.messages.slots ∧
      (receiveOctet b mark p).2.messages.receiver = (if mark = .last then .idle else .discarding (k + 1)) := by
  have hne : p.messages.receiver ≠ .idle := by rw [hrec]; nofun
  have appended := appendOctet_discarding (b := b) hrec hshort
  obtain rfl | rfl := hmark
  · rw [receiveOctet_middle hne, appended]
    exact ⟨rfl, rfl, rfl⟩
  · rw [receiveOctet_last hne, appended]
    simp only [lastTaken, if_true]
    rw [endAssembly_discarding rfl]
    exact ⟨trivial, rfl, rfl⟩

end

/-- A LAST octet on a passage note delivers it (R16, R171). -/
theorem receiveOctet_delivers {b : Byte} {l : List Byte} {p : Part} (hrec : p.messages.receiver = .note l)
    (hshort : assemblyLength p.messages < 64) : ∃ m, (receiveOctet b .last p).2 = deliverNote (l ++ [b]) { p with messages := m } := by
  have hne : p.messages.receiver ≠ .idle := by rw [hrec]; nofun
  rw [receiveOctet_last hne, appendOctet_note hrec hshort]
  simp only [lastTaken, if_true]
  exact ⟨_, endAssembly_note rfl⟩

theorem deliverNote_other {l : List Byte} {b : Byte} {p : Part} (h : l.length ≠ 1 ∨ b.toNat ∉ rosterNumbers p) :
    deliverNote (l ++ [b]) p = attend .track p := by
  obtain h | h := h
  · match l, h with
    | [], _ => rfl
    | _ :: _ :: _, _ => simp [deliverNote]
  · match l with
    | [] => rfl
    | [_] => exact passageNote_unknown h
    | _ :: _ :: _ => simp [deliverNote]

end Sys2Proof.Machine

/-! O57: what an answer does to the transmitter, the receiver and the summit marks (R16, R164 to R171, R177, R183). -/

namespace Sys2Proof.Machine

/-! ### A good answer at the receiver -/

theorem refuseOctet_receiver (p : Part) : (refuseOctet p).messages.receiver = p.messages.receiver ∧
    (refuseOctet p).messages.slots = p.messages.slots ∧ (refuseOctet p).messages.lastOffer = p.messages.lastOffer := by
  unfold refuseOctet
  dsimp only
  split
  · exact ⟨rfl, rfl, rfl⟩
  · split
    · rw [(failTransfer_kept _ _ _).2]; exact ⟨rfl, rfl, rfl⟩
    · exact ⟨rfl, rfl, rfl⟩

theorem judgeAccept_receiver (serial : Option Nat) (b : Bool) (p : Part) :
    (judgeAccept serial b p).messages.receiver = p.messages.receiver ∧ (judgeAccept serial b p).messages.slots = p.messages.slots ∧
      (judgeAccept serial b p).messages.lastOffer = p.messages.lastOffer := by
  unfold judgeAccept
  split
  · exact ⟨rfl, rfl, rfl⟩
  · split
    · split
      · rw [acceptOctet_messages]; exact ⟨rfl, rfl, rfl⟩
      · exact refuseOctet_receiver p
    · split
      · exact ⟨rfl, rfl, rfl⟩
      · exact refuseOctet_receiver p
    · exact ⟨rfl, rfl, rfl⟩

section
variable {fr : Option SummitFrame} {n : FrameNote} {rest : List FrameNote} {s : State}

theorem accepted_receiver (fr : Option SummitFrame) (n : FrameNote) (rest : List FrameNote) (p : Part) :
    (accepted fr n rest p).messages.receiver = p.messages.receiver ∧ (accepted fr n rest p).messages.slots = p.messages.slots ∧
      (accepted fr n rest p).messages.lastOffer = p.messages.lastOffer ∧ (accepted fr n rest p).track = p.track ∧
      ∀ j : Fin 128, ((accepted fr n rest p).cabins.get j).mark = (p.cabins.get j).mark := by
  obtain ⟨hreceiver, hslots, hlast⟩ := judgeAccept_receiver n.offered (answerRead fr n).accept (wordTaken fr n rest p)
  obtain ⟨wmessages, wcabins, -, wtrack⟩ := wordTaken_leaves fr n rest p
  obtain ⟨-, hlisting, htrack, -⟩ := judgeAccept_kept n.offered (answerRead fr n).accept (wordTaken fr n rest p)
  rw [wmessages] at hreceiver hslots hlast
  refine ⟨hreceiver, hslots, hlast, htrack.trans wtrack, fun j => ?_⟩
  have listed := congrArg (fun v => (v.get j).2.2.2) hlisting
  simp only [mapTable_get, CabinRecord.listing] at listed
  rw [wcabins] at listed
  exact listed

/-- What is offered to the receiver by an answer. -/
def offeredBy (f : FrameContent) : Option (Byte × MsgMark) := if f.offer then some (f.octet, readMark f.mark) else none

/-- A good answer leaves the receiver, the roster and the marks as its offer is judged on the transmitter's part. -/
theorem goodInUp_receiver (h : GoodInUp fr n rest s) : ∃ t, exec (.summitAnswer fr) s = .next t ∧
    t.part.messages = (judgeOffer (offeredBy (answerRead fr n)) (accepted fr n rest s.part)).messages ∧
    t.part.track = (judgeOffer (offeredBy (answerRead fr n)) (accepted fr n rest s.part)).track ∧
    t.part.cabins = (judgeOffer (offeredBy (answerRead fr n)) (accepted fr n rest s.part)).cabins ∧
    ∀ b, (judgeOffer (offeredBy (answerRead fr n)) (accepted fr n rest s.part)).window.attention.getLsbD b = true →
      t.part.window.attention.getLsbD b = true := by
  obtain ⟨t, ht, hleft, -⟩ := goodInUp_judges h
  have htake : takeAnswer fr s.part = goodUsed fr n rest s.part := takeAnswer_goodInUp h
  obtain ⟨hmessages, hcabins, htrack⟩ := goodUsed_leaves fr n rest s.part
  have judged : messagesTaken n (answerRead fr n) (wordTaken fr n rest s.part) =
      judgeOffer (offeredBy (answerRead fr n)) (accepted fr n rest s.part) := rfl
  rw [htake] at hleft
  rw [judged] at hmessages hcabins htrack
  refine ⟨t, ht, hleft.messages.trans hmessages, hleft.track.trans htrack, hleft.cabins.trans hcabins, fun b hb => ?_⟩
  have stays := callsGood_bitsStay n (answerRead fr n) (messagesTaken n (answerRead fr n) (wordTaken fr n rest s.part)) b
  rw [judged] at stays
  rw [hleft.attention]
  exact stays hb

end

theorem markIndex (mk : MsgMark) {k : Nat} (hk : k < 4) :
    ([MsgMark.middle, .first, .last, .abandon].idxOf mk = k) ↔ mk = readMark k := by
  interval_cases k <;> cases mk <;> decide

theorem readMark_first {k : Nat} (hk : k < 4) : readMark k = .first ↔ k = 1 := by interval_cases k <;> decide

theorem readMark_middle {k : Nat} (hk : k < 4) : readMark k = .middle ↔ k = 0 := by interval_cases k <;> decide

theorem readMark_last {k : Nat} (hk : k < 4) : readMark k = .last ↔ k = 2 := by interval_cases k <;> decide

theorem assemblyLength_eq {m m' : Messages} (hreceiver : m'.receiver = m.receiver) (hslots : m'.slots = m.slots) :
    assemblyLength m' = assemblyLength m := by rw [assemblyLength, hreceiver, hslots, assemblyLength]

theorem readFrame_mark (r : Nat) (l : List Byte) : (readFrame r l).mark < 4 := Nat.mod_lt _ (by decide)

section
variable {b : Byte} {mark : MsgMark} {p : Part}

theorem judgeNewOffer_lastOffer : (judgeNewOffer b mark p).messages.lastOffer =
    if overfills mark p.messages then none else some { octet := b, mark := mark, taken := (receiveOctet b mark p).1 } := rfl

theorem judgeNewOffer_track : (judgeNewOffer b mark p).track = (receiveOctet b mark p).2.track := rfl

theorem judgeNewOffer_cabins : (judgeNewOffer b mark p).cabins = (receiveOctet b mark p).2.cabins := rfl

theorem judgeNewOffer_bits {n : Nat} (h : (receiveOctet b mark p).2.window.attention.getLsbD n = true) :
    (judgeNewOffer b mark p).window.attention.getLsbD n = true := h

end

/-- Settles O57: the transmitter and the receiver take their turns at an answer row by row, and RINGING_OUT is the second counted one. -/
theorem refusedTransfersAndRinging : Obligations.RefusedTransfersAndRinging := by
  unfold Obligations.RefusedTransfersAndRinging
  refine ⟨fun fr n rest s hready hstate hnotes hout hgood => ?_, fun fr n rest s h => summitAnswer_transmits h,
    fun fr n rest s h => ?_⟩
  · intro f
    exact ⟨fun tr htr hrefusals hoffer haccept => transferRefused_ends hready hstate hnotes hout hgood htr hrefusals hoffer haccept,
      fun v hseizing hcarried hcount hseize hanswer hquality =>
        ringingOut_rings hseizing hseize hanswer hready hstate hnotes hout hgood hcarried hcount hquality⟩
  · intro m f marks fresh first last appends left size
    obtain ⟨t, ht, hmessages, htrack, hcabins, hbits⟩ := goodInUp_receiver h
    obtain ⟨hreceiver, hslots, hlast, hroster, hmarks⟩ := accepted_receiver fr n rest s.part
    have hmark : f.mark < 4 := readFrame_mark _ _
    generalize accepted fr n rest s.part = p at *
    have hleft : ∀ q, left q = leftState p.messages q := fun q => by rw [leftState, hreceiver, hslots]
    have hsize : assemblyLength p.messages = size := (assemblyLength_eq hreceiver hslots : _ = assemblyLength m)
    have hroll : rosterNumbers p = rosterNumbers s.part := by rw [rosterNumbers, hroster, rosterNumbers]
    have offered (hoffer : f.offer = true) : offeredBy f = some (f.octet, readMark f.mark) := if_pos hoffer
    have new (hfresh : fresh) : judgeOffer (offeredBy f) p = judgeNewOffer f.octet (readMark f.mark) p := by
      rw [offered hfresh.1]
      refine judgeOffer_fresh fun o ho ⟨hoctet, heq⟩ => ?_
      rw [hlast] at ho
      exact hfresh.2 o ho ⟨hoctet, (markIndex _ hmark).2 heq⟩
    refine ⟨t, ht, ?_⟩
    beta_reduce
    intro g kept othersLeft
    have gnew (hfresh : fresh) : g = (judgeNewOffer f.octet (readMark f.mark) p).messages := by
      rw [← new hfresh]; exact hmessages
    have starts (hk : first ∨ (last ∧ m.receiver = .idle)) :
        readMark f.mark = .first ∨ (readMark f.mark = .last ∧ p.messages.receiver = .idle) := by
      rw [hreceiver]
      exact hk.imp (fun h => by rw [show f.mark = 1 from h]; rfl) (fun h => ⟨by rw [show f.mark = 2 from h.1]; rfl, h.2⟩)
    have adds (hk : appends) : readMark f.mark = .middle ∨ readMark f.mark = .last :=
      hk.imp (fun h => by rw [h]; rfl) (fun h => by rw [h]; rfl)
    have isFirst : readMark f.mark = .first ↔ first := readMark_first hmark
    have isLast : readMark f.mark = .last ↔ last := readMark_last hmark
    have firstOf (hk : first) : f.mark = 1 := hk
    have lastOf (hk : last) : f.mark = 2 := hk
    have offersNone (hno : f.offer = false) : offeredBy f = none := if_neg (by rw [hno]; decide)
    have leftAs (hfresh : fresh) (hrest : ∀ j : Fin 4, ((receiveOctet f.octet (readMark f.mark) p).2.messages.slots.get j).state =
        leftState p.messages j) : othersLeft := fun q => by
      rw [gnew hfresh, hleft]
      exact hrest q
    refine ⟨fun hno => ?_, fun o ho hoffer hoctet hidx => ?_, fun hfresh hk hlow hhigh => ⟨fun q hq hbefore => ?_, fun hfull => ?_⟩,
      fun hfresh hk hb => ?_, fun hfresh hk hb => ?_, fun hfresh hk hidle => ?_, fun q hfresh hk hrec hshort => ?_,
      fun l hfresh hk hrec hshort => ?_, fun k hfresh hk hrec hshort => ?_, fun hfresh hk hrec hlong => ?_, fun hfresh hk => ?_,
      fun hfresh hk o ho => ?_, fun a hfresh hk hrec before after e hbefore he hbeforeNe => ?_, fun l hfresh hk hrec hshort hother => ?_⟩
    · have hg : g = { p.messages with lastOffer := none, acceptNext := false } := by
        have none := offersNone hno
        exact hmessages.trans (by rw [none]; rfl)
      rw [hg]
      exact ⟨rfl, rfl, by show g.receiver = _; rw [hg]; exact hreceiver, by show g.slots = _; rw [hg]; exact hslots⟩
    · have hg : g = { p.messages with lastOffer := none, acceptNext := o.taken } := by
        have repeats := judgeOffer_repeat (p := p) (b := f.octet) (mark := readMark f.mark) (by rw [hlast]; exact ho) hoctet
          ((markIndex _ hmark).1 hidx)
        exact hmessages.trans (by rw [offered hoffer, repeats]; rfl)
      rw [hg]
      exact ⟨rfl, rfl, by show g.receiver = _; rw [hg]; exact hreceiver, by show g.slots = _; rw [hg]; exact hslots⟩
    · obtain ⟨htaken, hrec, hstate, htype, hlength, hoctets, hother, hbit⟩ := receiveOctet_starts (starts hk) hlow hhigh
        (by rw [← hleft]; exact hq) (fun j hj => by rw [← hleft]; exact hbefore j hj)
      simp only [isFirst, hslots] at hrec hstate hoctets hother
      rw [gnew hfresh]
      exact ⟨htaken, hrec, hstate, htype, hlength, hoctets, fun j hj => (hother j hj).trans (by rw [hleft]),
        fun hl => hbits 9 (by rw [new hfresh]; exact judgeNewOffer_bits (hbit (isLast.2 hl)))⟩
    · obtain ⟨htaken, hrec, hstates⟩ := receiveOctet_noSlot (starts hk) hlow hhigh (fun j => by rw [← hleft]; exact hfull j)
      have others := leftAs hfresh hstates
      rw [gnew hfresh]
      exact ⟨htaken, hrec, others⟩
    · have begins := receiveOctet_begins (b := f.octet) (p := p) (startAssembly_note hb)
      rw [← isFirst.2 hk] at begins
      have others := leftAs hfresh begins.2.2
      rw [gnew hfresh]
      exact ⟨begins.1, begins.2.1, others⟩
    · have begins := receiveOctet_begins (b := f.octet) (p := p) (startAssembly_other hb)
      rw [← isFirst.2 hk] at begins
      have others := leftAs hfresh begins.2.2
      rw [gnew hfresh]
      exact ⟨begins.1, begins.2.1, others⟩
    · have middle : readMark f.mark = .middle := by rw [hk]; rfl
      have idle := receiveOctet_middle_idle (b := f.octet) (p := p) (by rw [hreceiver]; exact hidle)
      rw [← middle] at idle
      have htaken : (judgeNewOffer f.octet (readMark f.mark) p).messages.acceptNext = true := congrArg Prod.fst idle
      have hrec : g.receiver = m.receiver := by
        rw [gnew hfresh]; exact (congrArg (fun r => r.2.messages.receiver) idle).trans hreceiver
      have hsl : g.slots = m.slots := by rw [gnew hfresh]; exact (congrArg (fun r => r.2.messages.slots) idle).trans hslots
      exact ⟨by rw [gnew hfresh]; exact htaken, hrec, hsl⟩
    · obtain ⟨htaken, hr, htype, hstate, hlength, hoctets, hother, hbit⟩ := receiveOctet_slot (b := f.octet) (adds hk)
        (by rw [hreceiver]; exact hrec) (by rw [hsize]; exact hshort)
      simp only [isLast, hslots, hsize] at hr htype hstate hlength hoctets hother
      rw [gnew hfresh]
      exact ⟨htaken, hr, htype, hstate, hlength, hoctets, hother,
        fun hl => hbits 9 (by rw [new hfresh]; exact judgeNewOffer_bits (hbit (isLast.2 hl)))⟩
    · obtain ⟨htaken, hsl, hr⟩ := receiveOctet_note (b := f.octet) (adds hk) (by rw [hreceiver]; exact hrec) (by rw [hsize]; exact hshort)
      simp only [isLast] at hr
      rw [gnew hfresh]
      exact ⟨htaken, hsl.trans hslots, hr⟩
    · obtain ⟨htaken, hsl, hr⟩ := receiveOctet_discarding (b := f.octet) (adds hk) (by rw [hreceiver]; exact hrec)
        (by rw [hsize]; exact hshort)
      simp only [isLast] at hr
      rw [gnew hfresh]
      exact ⟨htaken, hsl.trans hslots, hr⟩
    · have hne : p.messages.receiver ≠ .idle := by rw [hreceiver]; exact hrec
      obtain ⟨htaken, hr, hstates⟩ := receiveOctet_overfills (b := f.octet) (adds hk) hne (by rw [hsize]; exact hlong)
      have others := leftAs hfresh hstates
      rw [gnew hfresh]
      refine ⟨htaken, hr, ?_, others⟩
      rw [judgeNewOffer_lastOffer, if_pos (overfills_iff.2 ⟨adds hk, hne, by rw [hsize]; exact hlong⟩)]
    · have abandon : readMark f.mark = .abandon := by rw [hk]; rfl
      have abandons := receiveOctet_abandons (b := f.octet) (p := p)
      rw [← abandon] at abandons
      have others := leftAs hfresh abandons.2.2
      rw [gnew hfresh]
      exact ⟨abandons.1, abandons.2.1, others⟩
    · have fits : ¬ overfills (readMark f.mark) p.messages = true := fun hover => by
        obtain ⟨hmk, hne, hlong⟩ := overfills_iff.1 hover
        refine hk ⟨hmk.imp (fun h => ?_) (fun h => isLast.1 h), by rw [← hreceiver]; exact hne, by rw [← hsize]; exact hlong⟩
        exact (readMark_middle hmark).1 h
      rw [gnew hfresh, judgeNewOffer_lastOffer, if_neg fits, Option.mem_def] at ho
      obtain rfl := Option.some.inj ho
      refine ⟨rfl, (markIndex _ hmark).2 rfl, ?_⟩
      rw [gnew hfresh]
      rfl
    · have hnote : p.messages.receiver = .note [a] := by rw [hreceiver]; exact hrec
      obtain ⟨m', delivered⟩ := receiveOctet_delivers (b := f.octet) hnote (by simp [assemblyLength, hnote])
      rw [← isLast.2 hk] at delivered
      have roster : { p with messages := m' : Part }.track.roster = before ++ e :: after := by rw [← hbefore]; exact congrArg Track.roster hroster
      have dtrack : t.part.track = (passageNote f.octet.toNat { p with messages := m' }).track :=
        htrack.trans (by rw [new hfresh, judgeNewOffer_track, delivered]; rfl)
      have dcabins : t.part.cabins = (passageNote f.octet.toNat { p with messages := m' }).cabins :=
        hcabins.trans (by rw [new hfresh, judgeNewOffer_cabins, delivered]; rfl)
      refine ⟨by rw [dtrack, passageNote_roster roster he hbeforeNe], fun hnodup j => ?_⟩
      have marked := passageNote_marks roster he hbeforeNe (by rw [← hroll] at hnodup; exact hnodup) j
      rw [dcabins, marked]
      show (if _ then _ else if _ then _ else (p.cabins.get j).mark) = _
      rw [hmarks j]
    · have hnote : p.messages.receiver = .note l := by rw [hreceiver]; exact hrec
      obtain ⟨m', delivered⟩ := receiveOctet_delivers (b := f.octet) hnote (by rw [hsize]; exact hshort)
      rw [← isLast.2 hk, deliverNote_other (by rw [← hroll] at hother; exact hother)] at delivered
      have dtrack : t.part.track = p.track := htrack.trans (by rw [new hfresh, judgeNewOffer_track, delivered]; rfl)
      have dcabins : t.part.cabins = p.cabins := hcabins.trans (by rw [new hfresh, judgeNewOffer_cabins, delivered]; rfl)
      refine ⟨by rw [dtrack, hroster], fun j => by rw [dcabins]; exact hmarks j, hbits 4 ?_⟩
      rw [new hfresh]
      refine judgeNewOffer_bits ?_
      rw [delivered]
      simp [Attn.bit]

end Sys2Proof.Machine

/-! O44: FRAME_TICK (R142, R144, R148, R150, R162 to R165, R174). -/

namespace Sys2Proof.Machine

/-! ### The octets of a frame, read back -/

/-- A frame's content as its octets carry it: the voice of the slots of its rate, and the errored count in 16 bits. -/
def carried (f : FrameContent) : FrameContent :=
  { f with
    errored := f.errored % 65536, voice0 := if 2 ≤ f.rate then f.voice0 else [], voice1 := if f.rate = 3 then f.voice1 else [] }

theorem frameOctets_carried (f : FrameContent) : frameOctets (carried f) = frameOctets f := by
  have errored : BitVec.ofNat 16 (f.errored % 65536) = BitVec.ofNat 16 f.errored := by
    apply BitVec.eq_of_toNat_eq
    simp
  have control : controlOctet (carried f) = controlOctet f := rfl
  have body : frameBody (carried f) = frameBody f := by
    rw [frameBody, frameBody, control]
    simp only [carried, errored]
    by_cases h2 : 2 ≤ f.rate <;> by_cases h3 : f.rate = 3 <;> simp [h2, h3]
  rw [frameOctets, frameOctets, body]

/-- A frame is read back as its octets carry it, its check is right, and its sync stands first. -/
theorem readFrame_carried {f : FrameContent} (hkind : f.kind < 4) (hlo : 1 ≤ f.rate) (hhi : f.rate ≤ 3) (hmark : f.mark < 4)
    (h0 : f.voice0.length = 16) (h1 : f.voice1.length = 16) :
    readFrame f.rate (frameOctets f) = carried f ∧ checkRight f.rate (frameOctets f) = true ∧ (frameOctets f).take 4 = syncOctets := by
  have wellFormed : FrameWellFormed (carried f) := by
    refine ⟨hkind, hlo, hhi, hmark, Nat.mod_lt _ (by decide), ?_, ?_⟩
    · by_cases h : 2 ≤ f.rate <;> simp [carried, h, h0]
    · by_cases h : f.rate = 3 <;> simp [carried, h, h1]
  have readBack := frameOctetsReadBack (carried f) wellFormed
  rwa [frameOctets_carried] at readBack

/-! ### The frame that is composed -/

theorem MsgMark.code_lt (m : MsgMark) : m.code < 4 := by cases m <;> decide

theorem presentedVoice_length (c : CallSlot) : (presentedVoice c).length = 16 := by
  unfold presentedVoice
  split <;> simp

theorem presentedVoice_connected {c : CallSlot} (h : c.state = .connected) (hmic : c.micOctets.length = 16) :
    presentedVoice c = c.micOctets := by
  simp [presentedVoice, h, List.take_left' hmic]

theorem presentedVoice_silent {c : CallSlot} (h : c.state ≠ .connected) : presentedVoice c = List.replicate 16 0xD5 := by
  simp [presentedVoice, h]

theorem frameContent_octets (p : Part) (hlo : 1 ≤ p.line.rate) (hhi : p.line.rate ≤ 3) :
    readFrame p.line.rate (frameOctets (frameContent p)) = carried (frameContent p) ∧
      checkRight p.line.rate (frameOctets (frameContent p)) = true ∧ (frameOctets (frameContent p)).take 4 = syncOctets := by
  have voice (b : Bool) (c : CallSlot) : (if b then presentedVoice c else List.replicate 16 Config.silence).length = 16 := by
    cases b
    · simp
    · exact presentedVoice_length c
  refine readFrame_carried (f := frameContent p) ?_ hlo hhi (MsgMark.code_lt _) (voice _ _) (voice _ _)
  simp only [frameContent]
  split <;> decide

/-- The part a frame is composed of: in UP an idle transmitter has begun its next transfer. -/
def composing (p : Part) : Part := if p.line.state == .up then modMsg beginTransfer p else p

theorem composing_up {p : Part} (h : p.line.state = .up) : composing p = modMsg beginTransfer p := if_pos (by rw [h]; rfl)

theorem composing_training {p : Part} (h : p.line.state ≠ .up) : composing p = p := if_neg (by simpa using h)

/-- The frame's note for the judgement of its answer. -/
def noteOf (p : Part) : FrameNote :=
  { start := p.clock.now, number := (frameContent p).number, rate := (frameContent p).rate, pattern1 := (frameContent p).pattern1
    pattern2 := (frameContent p).pattern2, priority := (frameContent p).priority.toNat
    offered := if p.line.state == .up then (offerOf p.messages).serial else none
    ownSeize0 := (frameContent p).word.getLsbD 4, ownSeize1 := (frameContent p).word.getLsbD 6 }

theorem composing_line (p : Part) : (composing p).line = p.line := by
  unfold composing
  split <;> rfl

theorem composeFrame_line (p : Part) : (composeFrame p).line = { p.line with
    frameNumber := p.line.frameNumber + 1, notes := p.line.notes ++ [noteOf (composing p)]
    sentWord := (frameContent (composing p)).word, sentFrame := frameOctets (frameContent (composing p)) } := by
  have composed : (composeFrame p).line = { (composing p).line with
      frameNumber := (composing p).line.frameNumber + 1, notes := (composing p).line.notes ++ [noteOf (composing p)]
      sentWord := (frameContent (composing p)).word, sentFrame := frameOctets (frameContent (composing p)) } := rfl
  rw [composed, composing_line]

theorem composeFrame_messages (p : Part) : (composeFrame p).messages =
    if p.line.state = .up then { afterFrame (beginTransfer p.messages) with acceptNext := false }
    else { p.messages with acceptNext := false } := by
  have composed : (composeFrame p).messages = { (if (composing p).line.state == .up then afterFrame (composing p).messages
      else (composing p).messages) with acceptNext := false } := rfl
  rw [composed, composing_line]
  by_cases h : p.line.state = .up
  · rw [if_pos h, if_pos (by rw [h]; rfl), composing_up h]; rfl
  · rw [if_neg h, if_neg (by simpa using h), composing_training h]

/-! ### The tick -/

section
variable {mic0 mic1 : List Byte} {s : State}

/-- The part at a frame tick, with the octets of the codec slots gathered. -/
def frameTicked (mic0 mic1 : List Byte) (p : Part) : Part :=
  modCall 1 (fun c => { c with micOctets := mic1 }) (modCall 0 (fun c => { c with micOctets := mic0 })
    (modClock (fun c => { c with frameTaken := true }) p))

theorem frameTicked_slot (mic0 mic1 : List Byte) (p : Part) :
    callSlot (frameTicked mic0 mic1 p) 0 = { callSlot p 0 with micOctets := mic0 } ∧
      callSlot (frameTicked mic0 mic1 p) 1 = { callSlot p 1 with micOctets := mic1 } := by
  have clocked (v : VoiceNo) : callSlot (modClock (fun c => { c with frameTaken := true }) p) v = callSlot p v := rfl
  constructor
  · rw [frameTicked, callSlot_modCall_ne _ _ _ _ (by decide), callSlot_modCall_same, clocked]
  · rw [frameTicked, callSlot_modCall_same, callSlot_modCall_ne _ _ _ _ (by decide), clocked]

/-- The word of the indications does not look at the codec slots. -/
theorem frameTicked_word (mic0 mic1 : List Byte) (p : Part) : valleyWord (frameTicked mic0 mic1 p) = valleyWord p := by
  obtain ⟨h0, h1⟩ := frameTicked_slot mic0 mic1 p
  have s0 : (frameTicked mic0 mic1 p).calls.slots.get 0 = { callSlot p 0 with micOctets := mic0 } := h0
  have s1 : (frameTicked mic0 mic1 p).calls.slots.get 1 = { callSlot p 1 with micOctets := mic1 } := h1
  unfold valleyWord
  rw [s0, s1]
  rfl

theorem frameTicked_line (mic0 mic1 : List Byte) (p : Part) : (frameTicked mic0 mic1 p).line = p.line := rfl

theorem frameTicked_messages (mic0 mic1 : List Byte) (p : Part) : (frameTicked mic0 mic1 p).messages = p.messages := rfl

theorem frameTicked_clock (mic0 mic1 : List Byte) (p : Part) :
    (frameTicked mic0 mic1 p).clock = { p.clock with frameTaken := true } := rfl

theorem frameTicked_kept (mic0 mic1 : List Byte) (p : Part) : (frameTicked mic0 mic1 p).work = p.work ∧
    ∀ b ∈ Block.all, b ∉ [Block.clock, .calls] → Part.same b p (frameTicked mic0 mic1 p) := by
  refine ⟨rfl, fun b _ hb => ?_⟩
  cases b <;> simp at hb <;> rfl

theorem frameStep_eq (mic0 mic1 : List Byte) (p : Part) : frameStep mic0 mic1 p = lineTick (frameTicked mic0 mic1 p) := rfl

theorem lineTick_silent {p : Part} (hdue : p.line.autoStartDue = false) (hpending : p.line.attemptPending = false)
    (hstate : p.line.state ∈ [LineState.down, .probing, .dormant]) : lineTick p = p := by
  simp only [List.mem_cons, List.not_mem_nil, or_false] at hstate
  have silent : sendsFrames p.line = false := by obtain h | h | h := hstate <;> simp [sendsFrames, h]
  simp [lineTick, autoStart, hdue, hpending, silent]

theorem lineTick_sends {p : Part} (hdue : p.line.autoStartDue = false) (hpending : p.line.attemptPending = false)
    (hstate : p.line.state = .up ∨ p.line.state = .training) : lineTick p = composeFrame p := by
  have sends : sendsFrames p.line = true := by obtain h | h := hstate <;> simp [sendsFrames, h, hpending]
  simp [lineTick, autoStart, hdue, hpending, sends]

/-- A silent line keeps the octets of the codec slots for the next frame. -/
theorem frameTick_silent (hready : Ready s) (htick : frameDue s.part = true) (hdue : s.part.line.autoStartDue = false)
    (hpending : s.part.line.attemptPending = false) (hstate : s.part.line.state ∈ [LineState.down, .probing, .dormant]) :
    After (.frameTick mic0 mic1) s (fun t =>
      Frame [.clock, .calls] s t ∧ t.part.clock = { s.part.clock with frameTaken := true } ∧
      (callSlot t.part 0).micOctets = mic0 ∧ (callSlot t.part 1).micOctets = mic1) := by
  obtain ⟨hwork, hsame⟩ := frameTicked_kept mic0 mic1 s.part
  have hstep : frameStep mic0 mic1 s.part = frameTicked mic0 mic1 s.part := lineTick_silent hdue hpending hstate
  obtain ⟨t, ht, hframe, hpart, hquiet⟩ := occurs_quiet (f := frameStep mic0 mic1) (changed := [.clock, .calls]) hready htick
    (by rw [hstep, hwork]; exact hready.2.1) (by rw [hstep]; exact hsame)
  obtain ⟨h0, h1⟩ := frameTicked_slot mic0 mic1 s.part
  refine ⟨t, ht, hframe, ?_, ?_, ?_⟩
  · rw [hpart, finish_clock, hquiet, hstep]; rfl
  · rw [hpart, callSlot_finish, hquiet, hstep, h0]
  · rw [hpart, callSlot_finish, hquiet, hstep, h1]

theorem autoStart_probes {p : Part} (hdue : p.line.autoStartDue = true) (hauto : p.line.config.autoStart = true)
    (hstate : p.line.state = .down) (hprobe : p.line.probe = none) :
    autoStart p = enterProbing (modLine (fun l => { l with autoStartDue := false }) p) := by
  simp [autoStart, hdue, modLine, hauto, hstate, hprobe]

/-- The first frame tick after a reset, with auto-start on. -/
theorem frameTick_starts (hready : Ready s) (htick : frameDue s.part = true) (hdue : s.part.line.autoStartDue = true)
    (hauto : s.part.line.config.autoStart = true) (hstate : s.part.line.state = .down) (hprobe : s.part.line.probe = none) :
    After (.frameTick mic0 mic1) s (fun t =>
      t.part.line.state = .probing ∧ t.part.line.probe = some { start := s.part.clock.now, forOrder := false } ∧
      t.part.line.sentBurst = List.replicate 16 0xAA ∧
      t.part.line.autoStartDue = false ∧ t.part.line.probeCount = 0 ∧ t.part.window.attention.getLsbD 7 = true) := by
  set q := modLine (fun l => { l with autoStartDue := false }) (frameTicked mic0 mic1 s.part) with hq
  have started : autoStart (frameTicked mic0 mic1 s.part) = enterProbing q := autoStart_probes hdue hauto hstate hprobe
  have hline := enterProbing_line q
  have hpending : (enterProbing q).line.attemptPending = false := by rw [hline]; rfl
  have hsends : sendsFrames (enterProbing q).line = false := by rw [hline]; rfl
  have hstep : frameStep mic0 mic1 s.part = enterProbing q := by
    rw [frameStep_eq, lineTick, started]
    simp only [hpending, Bool.false_eq_true, if_false, hsends]
  obtain ⟨rested, hbit⟩ := enterProbing_rest (p := q) hstate
  obtain ⟨-, -, -, -, -, -, -, -, -, -, hwork, -⟩ := rested
  obtain ⟨t, ht, htline, -, hattention, -⟩ := occurs_settled (f := frameStep mic0 mic1) hready htick (by rw [hstep, hwork]; rfl)
  rw [hstep] at htline hattention
  rw [hline] at htline
  exact ⟨t, ht, by rw [htline], by rw [htline]; rfl, by rw [htline]; rfl, by rw [htline]; rfl, by rw [htline],
    by rw [hattention]; exact hbit⟩

/-! ### The beginning of an attempt (R150) -/

/-- An attempt begun on a line. -/
def attemptBegun (now : Time) (l : Line) : Line :=
  { l with
    attemptPending := false, attemptEnds := some (now + ms 300), frameNumber := 0
    attemptPattern1 := l.config.pattern1, attemptPattern2 := l.config.pattern2, attemptMask := l.config.mask }

theorem beginAttempt_within {p : Part} (h : p.line.rate ≤ p.line.config.rateCeiling) :
    beginAttempt p = modLine (attemptBegun p.clock.now) p := by
  unfold beginAttempt
  dsimp only
  rw [if_neg (not_lt.2 h)]
  rfl

/-- A line that lowers its rate to the ceiling. -/
def loweredLine (p : Part) : Part :=
  changeLine .training p.line.config.rateCeiling (modLine (fun l => { nextAttempt l with attemptsUsed := 0 }) p)

theorem beginAttempt_lowers {p : Part} (h : p.line.config.rateCeiling < p.line.rate) :
    beginAttempt p = modLine (attemptBegun (loweredLine p).clock.now) (loweredLine p) := by
  unfold beginAttempt
  dsimp only
  rw [if_pos h]
  rfl

theorem loweredLine_line (p : Part) : (loweredLine p).line = { nextAttempt p.line with
    attemptsUsed := 0, state := .training, rate := p.line.config.rateCeiling } := by
  rw [loweredLine, changeLine_line]
  rfl

/-- A new rate out of UP sets LINE (R154). -/
theorem changeLine_newRate {st : LineState} {r : Nat} {p : Part} (h : p.line.state ≠ .up) (hst : st ≠ .up) (hr : p.line.rate ≠ r) :
    (changeLine st r p).window.attention.getLsbD 7 = true := by
  have hup : (p.line.state == .up) = false := by simpa using h
  have hmoves : changeLine st r p = handLine false (attend .line (modLine (fun l => { l with state := st, rate := r }) p)) := by
    rw [changeLine, if_neg (by simp [hr]), hup]
  obtain ⟨-, -, -, -, hbits⟩ := handLine_rest (p := attend .line (modLine (fun l => { l with state := st, rate := r }) p)) hst
  rw [hmoves]
  exact hbits 7 (by simp [Attn.bit])

theorem lineTick_attempt {p : Part} (hdue : p.line.autoStartDue = false) (hpending : p.line.attemptPending = true)
    (hstate : (beginAttempt p).line.state = .training) (hbegun : (beginAttempt p).line.attemptPending = false) :
    lineTick p = composeFrame (beginAttempt p) := by
  have sends : sendsFrames (beginAttempt p).line = true := by simp [sendsFrames, hstate, hbegun]
  simp [lineTick, autoStart, hdue, hpending, sends]

/-- The first frame of an attempt. -/
theorem firstFrame {q : Part} (hstate : q.line.state = .training) (hnumber : q.line.frameNumber = 0) (hlo : 1 ≤ q.line.rate)
    (hhi : q.line.rate ≤ 3) : (composeFrame q).line.frameNumber = 1 ∧
      (readFrame q.line.rate (composeFrame q).line.sentFrame).kind = 1 ∧
      (readFrame q.line.rate (composeFrame q).line.sentFrame).rate = q.line.rate ∧
      (readFrame q.line.rate (composeFrame q).line.sentFrame).number = 0 ∧
      (readFrame q.line.rate (composeFrame q).line.sentFrame).pattern1 = q.line.attemptPattern1 ∧
      (readFrame q.line.rate (composeFrame q).line.sentFrame).pattern2 = q.line.attemptPattern2 := by
  have hup : q.line.state ≠ .up := by rw [hstate]; decide
  obtain ⟨hread, -⟩ := frameContent_octets q hlo hhi
  have hline := composeFrame_line q
  rw [composing_training hup] at hline
  rw [hline, hread]
  refine ⟨by rw [hnumber]; rfl, ?_, rfl, hnumber, ?_, ?_⟩
  · simp [carried, frameContent, hstate]
  · simp [carried, frameContent, hstate, trainingPattern, hnumber]
  · simp [carried, frameContent, hstate, trainingPattern, hnumber]

theorem frameTick_attempt (hready : Ready s) (htick : frameDue s.part = true) (hdue : s.part.line.autoStartDue = false)
    (hpending : s.part.line.attemptPending = true) (hstate : s.part.line.state = .training)
    (hwithin : s.part.line.rate ≤ s.part.line.config.rateCeiling) (hlo : 1 ≤ s.part.line.rate) (hhi : s.part.line.rate ≤ 3) :
    After (.frameTick mic0 mic1) s (fun t =>
      t.part.line.attemptPending = false ∧ t.part.line.attemptEnds = some (s.part.clock.now + ms 300) ∧
      t.part.line.frameNumber = 1 ∧ (readFrame s.part.line.rate t.part.line.sentFrame).number = 0 ∧
      (readFrame s.part.line.rate t.part.line.sentFrame).pattern1 = s.part.line.config.pattern1 ∧
      (readFrame s.part.line.rate t.part.line.sentFrame).pattern2 = s.part.line.config.pattern2 ∧
      t.part.line.attemptPattern1 = s.part.line.config.pattern1 ∧ t.part.line.attemptPattern2 = s.part.line.config.pattern2 ∧
      t.part.line.attemptMask = s.part.line.config.mask ∧ t.part.line.rate = s.part.line.rate ∧
      t.part.line.attemptsUsed = s.part.line.attemptsUsed) := by
  have begun := beginAttempt_within (p := frameTicked mic0 mic1 s.part) hwithin
  set q := modLine (attemptBegun (frameTicked mic0 mic1 s.part).clock.now) (frameTicked mic0 mic1 s.part) with hq
  have hqline : q.line = attemptBegun s.part.clock.now s.part.line := rfl
  have hstep : frameStep mic0 mic1 s.part = composeFrame q := by
    rw [frameStep_eq, lineTick_attempt (p := frameTicked mic0 mic1 s.part) hdue hpending (by rw [begun]; exact hstate) (by rw [begun]; rfl), begun]
  obtain ⟨hnumber, -, -, hzero, h1, h2⟩ := firstFrame (q := q) hstate rfl hlo hhi
  obtain ⟨t, ht, htline, -⟩ := occurs_settled (f := frameStep mic0 mic1) hready htick (by rw [hstep]; simp [hq, frameTicked])
  rw [hstep] at htline
  have hline := composeFrame_line q
  rw [← htline] at hnumber hzero h1 h2 hline
  exact ⟨t, ht, by rw [hline]; rfl, by rw [hline]; rfl, hnumber, hzero, h1, h2, by rw [hline]; rfl, by rw [hline]; rfl,
    by rw [hline]; rfl, by rw [hline]; rfl, by rw [hline]; rfl⟩

theorem frameTick_lowers (hready : Ready s) (htick : frameDue s.part = true) (hdue : s.part.line.autoStartDue = false)
    (hpending : s.part.line.attemptPending = true) (hstate : s.part.line.state = .training)
    (habove : s.part.line.config.rateCeiling < s.part.line.rate) (hlo : 1 ≤ s.part.line.config.rateCeiling)
    (hhi : s.part.line.config.rateCeiling ≤ 3) :
    After (.frameTick mic0 mic1) s (fun t =>
      let f := readFrame s.part.line.config.rateCeiling t.part.line.sentFrame
      t.part.line.state = .training ∧ t.part.line.rate = s.part.line.config.rateCeiling ∧ t.part.line.attemptsUsed = 0 ∧
      t.part.line.attemptPending = false ∧ t.part.line.attemptEnds = some (s.part.clock.now + ms 300) ∧ t.part.line.frameNumber = 1 ∧
      f.kind = 1 ∧ f.rate = s.part.line.config.rateCeiling ∧ f.number = 0 ∧ f.pattern1 = s.part.line.config.pattern1 ∧
      f.pattern2 = s.part.line.config.pattern2 ∧ t.part.window.attention.getLsbD 7 = true) := by
  have begun := beginAttempt_lowers (p := frameTicked mic0 mic1 s.part) habove
  set l := loweredLine (frameTicked mic0 mic1 s.part) with hl
  have hlline : l.line = { nextAttempt s.part.line with attemptsUsed := 0, state := .training, rate := s.part.line.config.rateCeiling } :=
    loweredLine_line _
  have hnotUp : (frameTicked mic0 mic1 s.part).line.state ≠ .up := by
    show s.part.line.state ≠ .up
    rw [hstate]; decide
  have rested : LineRested (frameTicked mic0 mic1 s.part) l := (modLine_rested _ _).trans
    (changeLine_rested (p := modLine (fun l => { nextAttempt l with attemptsUsed := 0 }) (frameTicked mic0 mic1 s.part)) hnotUp (by decide))
  obtain ⟨hclock, -, -, -, -, -, -, -, -, -, hwork, -⟩ := rested
  have hnow : l.clock.now = s.part.clock.now := (congrArg Clock.now hclock :)
  rw [hnow] at begun
  set q := modLine (attemptBegun s.part.clock.now) l with hq
  have hqline : q.line = attemptBegun s.part.clock.now l.line := rfl
  have hqstate : q.line.state = .training := by rw [hqline, hlline]; rfl
  have hqrate : q.line.rate = s.part.line.config.rateCeiling := by rw [hqline, hlline]; rfl
  have hstep : frameStep mic0 mic1 s.part = composeFrame q := by
    rw [frameStep_eq, lineTick_attempt (p := frameTicked mic0 mic1 s.part) hdue hpending (by rw [begun]; exact hqstate) (by rw [begun]; rfl), begun]
  obtain ⟨hnumber, hkind, hrate, hzero, h1, h2⟩ := firstFrame (q := q) hqstate rfl (by rw [hqrate]; exact hlo) (by rw [hqrate]; exact hhi)
  obtain ⟨t, ht, htline, -, hattention, -⟩ := occurs_settled (f := frameStep mic0 mic1) hready htick (by
    rw [hstep]
    have : (composeFrame q).work = l.work := by simp [hq]
    rw [this, hwork]
    rfl)
  have hbit : (composeFrame q).window.attention.getLsbD 7 = true := by
    have kept : (composeFrame q).window = l.window := by simp [hq]
    rw [kept]
    exact changeLine_newRate hnotUp (by decide) (ne_of_gt habove)
  rw [hstep] at htline hattention
  have hline := composeFrame_line q
  rw [hqrate, ← htline] at hkind hrate hzero h1 h2
  rw [← htline] at hnumber hline
  rw [hqline, hlline] at hline
  refine ⟨t, ht, by rw [hline]; rfl, by rw [hline]; rfl, by rw [hline]; rfl, by rw [hline]; rfl, by rw [hline]; rfl, hnumber, hkind, hrate,
    hzero, h1.trans ?_, h2.trans ?_, by rw [hattention]; exact hbit⟩
  · rw [hqline, hlline]; rfl
  · rw [hqline, hlline]; rfl

end

end Sys2Proof.Machine

/-! O44: FRAME_TICK (R142, R144, R148, R150, R162 to R165, R174). -/

namespace Sys2Proof.Machine

/-! ### The transmitter as a frame takes it (R163 to R165, R168) -/

section
variable {m : Messages}

theorem beginTransfer_note {k : Nat} {rest : List Nat} (hidle : m.transmitter = .idle) (hnotes : m.notes = k :: rest) :
    beginTransfer m = offerNew (.offering { source := .note k, octets := [0x81, BitVec.ofNat 8 k] }) { m with notes := rest } := by
  unfold beginTransfer
  rw [hidle, hnotes]

theorem beginTransfer_message {w : WaitingMessage} {rest : List WaitingMessage} (hidle : m.transmitter = .idle) (hnotes : m.notes = [])
    (hwaiting : m.waiting = w :: rest) :
    beginTransfer m = offerNew (.offering { source := .order w.slot, octets := w.octets }) { m with waiting := rest } := by
  unfold beginTransfer
  rw [hidle, hnotes, hwaiting]

theorem beginTransfer_same (h : m.transmitter ≠ .idle ∨ (m.notes = [] ∧ m.waiting = [])) : beginTransfer m = m := by
  unfold beginTransfer
  obtain h | ⟨hnotes, hwaiting⟩ := h
  · split
    next heq _ => exact absurd heq h
    next heq _ _ => exact absurd heq h
    next => rfl
  · rw [hnotes, hwaiting]
    split
    next heq => cases heq
    next heq => cases heq
    next => rfl

end

theorem beginTransfer_receiver (m : Messages) : (beginTransfer m).receiver = m.receiver ∧ (beginTransfer m).slots = m.slots ∧
    (beginTransfer m).acceptNext = m.acceptNext := by
  unfold beginTransfer
  split <;> exact ⟨rfl, rfl, rfl⟩

theorem afterFrame_receiver (m : Messages) : (afterFrame m).receiver = m.receiver ∧ (afterFrame m).slots = m.slots := by
  unfold afterFrame
  split <;> exact ⟨rfl, rfl⟩

theorem afterFrame_resting {m : Messages} (h : m.transmitter = .idle ∨ m.transmitter = .abandoning) : afterFrame m = m := by
  unfold afterFrame
  obtain h | h := h <;> rw [h]

/-- What a frame offers of the Message Channel. -/
abbrev Offers (o : Offer) (octet : Byte) (mark : Nat) : Prop := o.serial.isSome = true ∧ o.octet = octet ∧ o.mark.code = mark

abbrev OffersNothing (o : Offer) : Prop := o.serial.isSome = false ∧ o.octet = 0 ∧ o.mark.code = 0

theorem markOf_code (i n : Nat) : (markOf i n).code = if i + 1 = n then 2 else if i = 0 then 1 else 0 := by
  unfold markOf
  by_cases h : i + 1 = n
  · simp [h, MsgMark.code]
  · rw [if_neg (by simpa using h), if_neg h]
    by_cases hi : i = 0 <;> simp [hi, MsgMark.code]

/-- The transmitter's part of a frame in UP, case by case. -/
theorem transmitter_frames (m : Messages) :
    let o := offerOf (beginTransfer m)
    let g : Messages := { afterFrame (beginTransfer m) with acceptNext := false }
    (∀ k rest, m.transmitter = .idle → m.notes = k :: rest → Offers o 0x81 1 ∧ g.notes = rest ∧ g.waiting = m.waiting ∧
      g.refusals = 0 ∧ g.transmitter = .offering { source := .note k, octets := [0x81, asOctet k], accepted := 0 }) ∧
    (∀ w rest, m.transmitter = .idle → m.notes = [] → m.waiting = w :: rest →
      Offers o (w.octets.getD 0 0) (if w.octets.length = 1 then 2 else 1) ∧ g.notes = [] ∧ g.waiting = rest ∧ g.refusals = 0 ∧
      g.transmitter = .offering { source := .order w.slot, octets := w.octets, accepted := 0 }) ∧
    (m.transmitter = .idle → m.notes = [] → m.waiting = [] → OffersNothing o ∧ g = { m with acceptNext := false }) ∧
    (∀ tr, m.transmitter = .offering tr →
      Offers o (tr.octets.getD tr.accepted 0) (if tr.accepted + 1 = tr.octets.length then 2 else if tr.accepted = 0 then 1 else 0) ∧
      g = { m with acceptNext := false }) ∧
    (m.transmitter = .pause none → OffersNothing o ∧ g = { m with acceptNext := false, transmitter := .idle }) ∧
    (∀ tr, m.transmitter = .pause (some tr) → OffersNothing o ∧ g.transmitter = .offering tr ∧ g.refusals = 0 ∧
      g.notes = m.notes ∧ g.waiting = m.waiting) ∧
    (m.transmitter = .abandoning → Offers o 0 3 ∧ g = { m with acceptNext := false }) ∧
    g.acceptNext = false ∧ g.receiver = m.receiver ∧ g.slots = m.slots := by
  intro o g
  have offering {q : Messages} {tr : Transfer} (h : q.transmitter = .offering tr) : Offers (offerOf q) (tr.octets.getD tr.accepted 0)
      (if tr.accepted + 1 = tr.octets.length then 2 else if tr.accepted = 0 then 1 else 0) ∧ afterFrame q = q := by
    unfold offerOf afterFrame
    rw [h]
    exact ⟨⟨rfl, rfl, markOf_code _ _⟩, rfl⟩
  obtain ⟨hreceiver, hslots, -⟩ := beginTransfer_receiver m
  obtain ⟨hreceiver', hslots'⟩ := afterFrame_receiver (beginTransfer m)
  have begun {q : Messages} (h : beginTransfer m = q) : o = offerOf q ∧ g = { afterFrame q with acceptNext := false } := by
    show offerOf (beginTransfer m) = _ ∧ ({ afterFrame (beginTransfer m) with acceptNext := false } : Messages) = _
    rw [h]
    exact ⟨rfl, rfl⟩
  refine ⟨fun k rest hidle hnotes => ?_, fun w rest hidle hnotes hwaiting => ?_, fun hidle hnotes hwaiting => ?_, fun tr htr => ?_,
    fun hpause => ?_, fun tr hpause => ?_, fun habandons => ?_, rfl, hreceiver'.trans hreceiver, hslots'.trans hslots⟩
  · obtain ⟨ho, hg⟩ := begun (beginTransfer_note hidle hnotes)
    obtain ⟨hoffers, hafter⟩ := offering (q := offerNew (.offering { source := .note k, octets := [0x81, BitVec.ofNat 8 k] })
      { m with notes := rest }) rfl
    rw [hafter] at hg
    rw [ho, hg]
    exact ⟨hoffers, rfl, rfl, rfl, rfl⟩
  · obtain ⟨ho, hg⟩ := begun (beginTransfer_message hidle hnotes hwaiting)
    obtain ⟨⟨hserial, hoctet, hcode⟩, hafter⟩ := offering (q := offerNew (.offering { source := .order w.slot, octets := w.octets })
      { m with waiting := rest }) rfl
    rw [hafter] at hg
    rw [ho, hg]
    refine ⟨⟨hserial, hoctet, hcode.trans ?_⟩, hnotes, rfl, rfl, rfl⟩
    simp [eq_comm]
  · obtain ⟨ho, hg⟩ := begun (beginTransfer_same (m := m) (.inr ⟨hnotes, hwaiting⟩))
    have nothing : OffersNothing (offerOf m) := by rw [offerOf, hidle]; exact ⟨rfl, rfl, rfl⟩
    rw [ho, hg, afterFrame_resting (.inl hidle)]
    exact ⟨nothing, rfl⟩
  · obtain ⟨ho, hg⟩ := begun (beginTransfer_same (m := m) (.inl (by rw [htr]; nofun)))
    obtain ⟨hoffers, hafter⟩ := offering htr
    rw [ho, hg, hafter]
    exact ⟨hoffers, rfl⟩
  · obtain ⟨ho, hg⟩ := begun (beginTransfer_same (m := m) (.inl (by rw [hpause]; nofun)))
    rw [ho, hg, offerOf, afterFrame, hpause]
    exact ⟨⟨rfl, rfl, rfl⟩, rfl⟩
  · obtain ⟨ho, hg⟩ := begun (beginTransfer_same (m := m) (.inl (by rw [hpause]; nofun)))
    rw [ho, hg, offerOf, afterFrame, hpause]
    exact ⟨⟨rfl, rfl, rfl⟩, rfl, rfl, rfl, rfl⟩
  · obtain ⟨ho, hg⟩ := begun (beginTransfer_same (m := m) (.inl (by rw [habandons]; nofun)))
    have abandon : Offers (offerOf m) 0 3 := by rw [offerOf, habandons]; exact ⟨rfl, rfl, rfl⟩
    rw [ho, hg, afterFrame_resting (.inr habandons)]
    exact ⟨abandon, rfl⟩

/-! ### A frame of the present state -/

section
variable {mic0 mic1 : List Byte} {s : State}

theorem composing_slot (p : Part) (v : VoiceNo) : callSlot (composing p) v = callSlot p v := by
  unfold composing
  split <;> rfl

theorem composing_word (p : Part) : valleyWord (composing p) = valleyWord p := by
  unfold composing
  split <;> rfl

theorem composing_messages (p : Part) : (composing p).messages = if p.line.state = .up then beginTransfer p.messages else p.messages := by
  by_cases h : p.line.state = .up
  · rw [composing_up h, if_pos h]; rfl
  · rw [composing_training h, if_neg h]

/-- The event of a frame tick at which a frame is sent. -/
theorem frameTick_composes (hready : Ready s) (htick : frameDue s.part = true) (hdue : s.part.line.autoStartDue = false)
    (hpending : s.part.line.attemptPending = false) (hstate : s.part.line.state = .up ∨ s.part.line.state = .training) :
    ∃ t, exec (.frameTick mic0 mic1) s = .next t ∧ Frame [.clock, .line, .messages, .calls] s t ∧
      t.part.clock = { s.part.clock with frameTaken := true } ∧ t.part.line = (composeFrame (frameTicked mic0 mic1 s.part)).line ∧
      t.part.messages = (composeFrame (frameTicked mic0 mic1 s.part)).messages := by
  have hstep : frameStep mic0 mic1 s.part = composeFrame (frameTicked mic0 mic1 s.part) :=
    lineTick_sends (p := frameTicked mic0 mic1 s.part) hdue hpending hstate
  obtain ⟨hline, -, -, hrope, hcabins, hwindow, hwork⟩ := composeFrame_kept (frameTicked mic0 mic1 s.part)
  obtain ⟨t, ht, hframe, hpart, hquiet⟩ := occurs_quiet (f := frameStep mic0 mic1) (changed := [.clock, .line, .messages, .calls])
    hready htick (by rw [hstep, hwork]; exact hready.2.1) (fun b _ hb => by
      rw [hstep]
      cases b <;> simp at hb <;> simp [Part.same, frameTicked])
  rw [hstep] at hpart hquiet
  refine ⟨t, ht, hframe, ?_, ?_, ?_⟩
  · rw [hpart, finish_clock, hquiet, hline.1]; rfl
  · rw [hpart, finish_line, hquiet]
  · rw [hpart, finish_messages, hquiet]

theorem carriedVoice {c : CallSlot} {mic : List Byte} (hlength : mic.length = 16) :
    presentedVoice { c with micOctets := mic } = if c.state = .connected then mic else List.replicate 16 0xD5 := by
  by_cases h : c.state = .connected
  · rw [if_pos h, presentedVoice_connected (c := { c with micOctets := mic }) h hlength]
  · rw [if_neg h, presentedVoice_silent (c := { c with micOctets := mic }) h]

end

theorem frameContent_up {q : Part} (h : q.line.state = .up) : frameContent q =
    { kind := 2, rate := q.line.rate, mark := (offerOf q.messages).mark.code, offer := (offerOf q.messages).serial.isSome
      accept := q.messages.acceptNext, number := q.line.frameNumber, word := valleyWord q, octet := (offerOf q.messages).octet
      pattern1 := q.line.config.pattern1, pattern2 := q.line.config.pattern2, priority := BitVec.ofNat 8 q.line.config.glarePriority
      errored := qualityCount q.line, voice0 := presentedVoice (callSlot q 0), voice1 := presentedVoice (callSlot q 1) } := by
  simp [frameContent, h]

theorem frameContent_training {q : Part} (h : q.line.state ≠ .up) : frameContent q =
    { kind := 1, rate := q.line.rate, mark := 0, offer := false, accept := false, number := q.line.frameNumber, word := valleyWord q
      octet := 0, pattern1 := trainingPattern q.line q.line.attemptPattern1, pattern2 := trainingPattern q.line q.line.attemptPattern2
      priority := BitVec.ofNat 8 q.line.config.glarePriority, errored := 0, voice0 := List.replicate 16 Config.silence
      voice1 := List.replicate 16 Config.silence } := by
  have hup : (q.line.state == .up) = false := by simpa using h
  simp [frameContent, hup, MsgMark.code]

theorem trainingPattern_eq (l : Line) (b : Byte) :
    trainingPattern l b = b ^^^ (if l.frameNumber.getLsbD 0 then l.attemptMask else 0) := by
  unfold trainingPattern
  split <;> simp

/-- Settles O44: a frame reads back as the content it was composed of, and each row of the transmitter is its own frame. -/
theorem frameTickSendsAFrame : Obligations.FrameTickSendsAFrame := by
  unfold Obligations.FrameTickSendsAFrame
  refine fun mic0 mic1 s hready htick => ⟨fun hdue hpending hstate hlo hhi hprio => ?_, frameTick_silent hready htick,
    frameTick_starts hready htick, frameTick_attempt hready htick, frameTick_lowers hready htick⟩
  obtain ⟨t, ht, hframe, hclock, htline, htmessages⟩ := frameTick_composes (mic0 := mic0) (mic1 := mic1) hready htick hdue hpending hstate
  refine ⟨t, ht, ?_⟩
  beta_reduce
  intro f
  obtain ⟨h0, h1⟩ := frameTicked_slot mic0 mic1 s.part
  have hword := (composing_word _).trans (frameTicked_word mic0 mic1 s.part)
  have hmessages := composeFrame_messages (frameTicked mic0 mic1 s.part)
  have hmsg := composing_messages (frameTicked mic0 mic1 s.part)
  have hline := composing_line (frameTicked mic0 mic1 s.part)
  have hsent := composeFrame_line (frameTicked mic0 mic1 s.part)
  have hstart : (noteOf (composing (frameTicked mic0 mic1 s.part))).start = s.part.clock.now := by
    unfold composing
    split <;> rfl
  rw [← composing_slot] at h0 h1
  rw [frameTicked_line] at hmessages hmsg hline hsent
  rw [frameTicked_messages] at hmessages hmsg
  rw [← htmessages] at hmessages
  rw [← htline] at hsent
  generalize composing (frameTicked mic0 mic1 s.part) = q at *
  obtain ⟨hread, hcheck, hsync⟩ := frameContent_octets q (by rw [hline]; exact hlo) (by rw [hline]; exact hhi)
  rw [hline] at hread hcheck
  have hf : f = carried (frameContent q) := by
    show readFrame s.part.line.rate t.part.line.sentFrame = _
    rw [hsent]; exact hread
  have hrate : f.rate = s.part.line.rate := by rw [hf]; exact congrArg Line.rate hline
  have hnumber : f.number = s.part.line.frameNumber := by rw [hf]; exact congrArg Line.frameNumber hline
  have hpriority : f.priority = BitVec.ofNat 8 s.part.line.config.glarePriority := by
    rw [hf]; exact congrArg (fun l => BitVec.ofNat 8 l.config.glarePriority) hline
  refine ⟨hframe, hclock, by rw [hsent], by rw [hsent], by rw [hsent]; exact hcheck, by rw [hsent]; exact hsync, hrate, hnumber,
    by rw [hf]; exact hword, ?_, by rw [hf]; simp [carried, frameContent, hline], fun htraining => ?_, fun hup => ?_,
    noteOf q, by rw [hsent], hstart, ?_, ?_, ?_, ?_⟩
  · rw [hpriority, BitVec.toNat_ofNat, Nat.mod_eq_of_lt (by omega)]
  · have hnot : s.part.line.state ≠ .up := by rw [htraining]; decide
    rw [if_neg hnot] at hmessages
    have hcontent := frameContent_training (q := q) (by rw [hline]; exact hnot)
    rw [hline] at hcontent
    rw [hf, hcontent]
    exact ⟨rfl, rfl, rfl, rfl, rfl, ⟨trainingPattern_eq _ _, trainingPattern_eq _ _⟩, rfl, rfl, hmessages⟩
  · rw [if_pos hup] at hmessages hmsg
    have table := transmitter_frames s.part.messages
    have hcontent := frameContent_up (q := q) (by rw [hline]; exact hup)
    rw [hline, h0, h1, hmsg] at hcontent
    rw [hf, hcontent, hmessages]
    refine ⟨(beginTransfer_receiver _).2.2, rfl, rfl, rfl, fun hmic => ?_, fun hmic => ?_, table⟩
    · show (if 2 ≤ s.part.line.rate then presentedVoice { callSlot s.part 0 with micOctets := mic0 } else []) = _
      rw [carriedVoice hmic]
      rfl
    · show (if s.part.line.rate = 3 then presentedVoice { callSlot s.part 1 with micOctets := mic1 } else []) = _
      rw [carriedVoice hmic]
      rfl
  · rw [hf]; rfl
  · rw [hf]; rfl
  · rw [hf]; rfl
  · rw [hf]; rfl

end Sys2Proof.Machine

/-! The Door Sequencer's work on a passage: the removals, the lateness and the new actions (R104, R105, R109, R110). -/

namespace Sys2Proof.Machine

/-! ### Counts raised -/

theorem raised_zero (x : Nat) : raised 0 x = x := by
  unfold raised
  split <;> omega

theorem raised_one (x : Nat) : raised 1 x = count16 x := by
  simp only [raised, count16, countTo, Config.countMax]
  grind

theorem raised_raised (m n x : Nat) : raised m (raised n x) = raised (m + n) x := by
  simp only [raised]
  grind

theorem raised_count16 (n x : Nat) : raised n (count16 x) = raised (n + 1) x := by rw [← raised_one, raised_raised]

/-! ### Door states lost -/

/-- Attention bits stay, and a door state UNKNOWN stays so. -/
structure LosesDoors (p q : Part) : Prop where
  bits : BitsStay p.window q.window
  unknown : ∀ k, isCabin k = true → (cabin p k).door = .unknown → (cabin q k).door = .unknown

namespace LosesDoors

theorem refl (p : Part) : LosesDoors p p := ⟨fun _ h => h, fun _ _ h => h⟩

theorem trans {p q r : Part} (h : LosesDoors p q) (g : LosesDoors q r) : LosesDoors p r :=
  ⟨h.bits.trans g.bits, fun k hk hd => g.unknown k hk (h.unknown k hk hd)⟩

theorem of_eq {p q : Part} (hbits : BitsStay p.window q.window) (hcabins : q.cabins = p.cabins) : LosesDoors p q :=
  ⟨hbits, fun k _ hd => by rwa [cabin_of_cabins_eq hcabins]⟩

theorem foldl {α : Type} {f : Part → α → Part} (h : ∀ p a, LosesDoors p (f p a)) (l : List α) (p : Part) :
    LosesDoors p (l.foldl f p) := by
  induction l generalizing p with
  | nil => exact refl p
  | cons a l ih => exact (h p a).trans (ih _)

end LosesDoors

theorem modSeq_loses (f : Sequencer → Sequencer) (p : Part) : LosesDoors p (modSeq f p) := .of_eq (.of_eq rfl) rfl

theorem attend_loses (a : Attn) (p : Part) : LosesDoors p (attend a p) := .of_eq (attend_bitsStay a p) rfl

theorem setDoor_unknown_loses (k : Nat) (p : Part) : LosesDoors p (setDoor k .unknown p) := by
  refine ⟨.of_eq (by simp), fun j hj hd => ?_⟩
  by_cases h : j = k
  · subst h; rw [cabin_setDoor_same hj]
  · rwa [cabin_setDoor_ne h]

theorem loseDoor_loses (b : Bool) (k : Nat) (p : Part) : LosesDoors p (loseDoor b k p) := by
  unfold loseDoor
  split
  · exact setDoor_unknown_loses k p
  · exact .refl p

theorem loseDoor_unknown {k : Nat} (hk : isCabin k = true) (p : Part) : (cabin (loseDoor true k p) k).door = .unknown := by
  rw [loseDoor, if_pos (by simp [hk]), cabin_setDoor_same hk]

/-! ### The removals (R109) -/

theorem countRemoval_loses (p : Part) (a : Action) : LosesDoors p (countRemoval p a) :=
  (loseDoor_loses _ _ p).trans (modSeq_loses _ _)

theorem countRemoval_sequencer (p : Part) (a : Action) :
    (countRemoval p a).sequencer = { p.sequencer with removals := count16 p.sequencer.removals } := by
  simp only [countRemoval, modSeq, loseDoor]
  split <;> simp

theorem countRemoval_unknown (p : Part) {a : Action} (ha : a.isCabin = true) (hk : isCabin a.cabin = true) :
    (cabin (countRemoval p a) a.cabin).door = .unknown := by
  rw [countRemoval, ha]
  exact (modSeq_loses _ _).unknown _ hk (loseDoor_unknown hk p)

theorem countRemovals_sequencer (l : List Action) (p : Part) :
    (l.foldl countRemoval p).sequencer = { p.sequencer with removals := raised l.length p.sequencer.removals } := by
  induction l generalizing p with
  | nil => rw [List.foldl_nil, List.length_nil, raised_zero]
  | cons a l ih => rw [List.foldl_cons, ih, countRemoval_sequencer, List.length_cons, raised_count16]

theorem countRemovals_unknown (l : List Action) (p : Part) {a : Action} (ha : a ∈ l) (hcabin : a.isCabin = true)
    (hk : isCabin a.cabin = true) : (cabin (l.foldl countRemoval p) a.cabin).door = .unknown := by
  induction l generalizing p with
  | nil => cases ha
  | cons b l ih =>
    obtain rfl | ha := List.mem_cons.mp ha
    · exact (LosesDoors.foldl countRemoval_loses l _).unknown _ hk (countRemoval_unknown p hcabin hk)
    · exact ih _ ha

theorem removeActions_loses (which : Action → Bool) (p : Part) : LosesDoors p (removeActions which false p) := by
  unfold removeActions
  dsimp only
  split
  · exact .refl p
  · exact (modSeq_loses _ p).trans ((LosesDoors.foldl countRemoval_loses _ _).trans (attend_loses ..))

theorem removeActions_sequencer (which : Action → Bool) (p : Part) :
    (removeActions which false p).sequencer = { p.sequencer with
      actions := p.sequencer.actions.filter (fun a => !which a)
      removals := raised (p.sequencer.actions.filter which).length p.sequencer.removals } := by
  have hactions := removeActions_actions which false p
  unfold removeActions at hactions ⊢
  dsimp only at hactions ⊢
  split
  next hnone =>
    rw [if_pos hnone] at hactions
    have hempty : p.sequencer.actions.filter which = [] := by simpa using hnone
    rw [← hactions, hempty, List.length_nil, raised_zero]
  next => exact countRemovals_sequencer ..

theorem removeActions_unknown (which : Action → Bool) (p : Part) {a : Action} (ha : a ∈ p.sequencer.actions.filter which) :
    (removeActions which false p).window.attention.getLsbD 5 = true ∧
      (a.isCabin = true → isCabin a.cabin = true → (cabin (removeActions which false p) a.cabin).door = .unknown) := by
  unfold removeActions
  dsimp only
  rw [if_neg (by simpa using fun h => List.ne_nil_of_mem ha h)]
  exact ⟨by simp [attend, Attn.bit], fun hcabin hk => countRemovals_unknown _ _ ha hcabin hk⟩

/-! ### The lateness (R110) -/

/-- The action in flight on channel `n` becomes late. -/
def lateBy (which : ChannelNo → Flight → Bool) (n : ChannelNo) (f : Flight) : Bool := f.isCabin && !f.late && which n f

theorem lateOn_on {which : ChannelNo → Flight → Bool} {p : Part} {n : ChannelNo} {f : Flight} (hf : p.sequencer.flights.get n = some f)
    (h : lateBy which n f = true) : lateOn which false p n = attend .door (makeLate n f p) := by
  rw [lateOn, hf]
  exact if_pos h

theorem lateOn_off {which : ChannelNo → Flight → Bool} {p : Part} {n : ChannelNo}
    (h : (p.sequencer.flights.get n).any (lateBy which n) = false) : lateOn which false p n = p := by
  rw [lateOn]
  split
  · rfl
  next f hf =>
    rw [hf] at h
    exact if_neg (by simpa [lateBy] using h)

theorem makeLate_sequencer (n : ChannelNo) (f : Flight) (p : Part) : (makeLate n f p).sequencer = { p.sequencer with
    flights := modTable p.sequencer.flights n (fun _ => some { f with late := true }), lates := count16 p.sequencer.lates } := by
  simp only [makeLate, loseDoor]
  split <;> simp [modSeq]

theorem lateOn_loses (which : ChannelNo → Flight → Bool) (p : Part) (n : ChannelNo) : LosesDoors p (lateOn which false p n) := by
  unfold lateOn
  split
  · exact .refl p
  · split
    · exact (modSeq_loses _ p).trans ((loseDoor_loses ..).trans (attend_loses ..))
    · exact .refl p

/-- The record in flight as the lateness of a passage leaves it. -/
def lateSet (which : ChannelNo → Flight → Bool) (n : ChannelNo) (f : Flight) : Flight :=
  if lateBy which n f then { f with late := true } else f

theorem lateOn_flights (which : ChannelNo → Flight → Bool) (p : Part) (n m : ChannelNo) :
    (lateOn which false p n).sequencer.flights.get m =
      if m = n then (p.sequencer.flights.get m).map (lateSet which m) else p.sequencer.flights.get m := by
  by_cases h : (p.sequencer.flights.get n).any (lateBy which n) = true
  · obtain ⟨f, hf, hlate⟩ := (Option.any_eq_true _ _).mp h
    rw [lateOn_on hf hlate]
    show (makeLate n f p).sequencer.flights.get m = _
    rw [makeLate_sequencer, modTable_get]
    split
    next e => subst e; rw [hf, Option.map_some, lateSet, if_pos hlate]
    next e => rfl
  · rw [lateOn_off (by simpa using h)]
    split
    next e =>
      subst e
      cases hf : p.sequencer.flights.get m with
      | none => rfl
      | some f =>
        rw [hf] at h
        rw [Option.map_some, lateSet, if_neg (by simpa using h)]
    · rfl

theorem lateOn_lates (which : ChannelNo → Flight → Bool) (p : Part) (n : ChannelNo) :
    (lateOn which false p n).sequencer = { p.sequencer with
      flights := (lateOn which false p n).sequencer.flights
      lates := if (p.sequencer.flights.get n).any (lateBy which n) then count16 p.sequencer.lates else p.sequencer.lates } := by
  by_cases h : (p.sequencer.flights.get n).any (lateBy which n) = true
  · obtain ⟨f, hf, hlate⟩ := (Option.any_eq_true _ _).mp h
    rw [lateOn_on hf hlate, if_pos h]
    show (makeLate n f p).sequencer = { p.sequencer with
      flights := (makeLate n f p).sequencer.flights, lates := count16 p.sequencer.lates }
    rw [makeLate_sequencer]
  · rw [lateOn_off (by simpa using h), if_neg h]

theorem lateOns_flights (which : ChannelNo → Flight → Bool) {l : List ChannelNo} (hl : l.Nodup) (p : Part) (m : ChannelNo) :
    (l.foldl (lateOn which false) p).sequencer.flights.get m =
      if m ∈ l then (p.sequencer.flights.get m).map (lateSet which m) else p.sequencer.flights.get m := by
  induction l generalizing p with
  | nil => rfl
  | cons n l ih =>
    obtain ⟨hn, hl⟩ := List.nodup_cons.mp hl
    rw [List.foldl_cons, ih hl, lateOn_flights]
    by_cases hm : m = n
    · subst hm; simp [hn]
    · simp [hm]

theorem lateOns_lates (which : ChannelNo → Flight → Bool) {l : List ChannelNo} (hl : l.Nodup) (p : Part) :
    (l.foldl (lateOn which false) p).sequencer = { p.sequencer with
      flights := (l.foldl (lateOn which false) p).sequencer.flights
      lates := raised (l.countP (fun n => (p.sequencer.flights.get n).any (lateBy which n))) p.sequencer.lates } := by
  induction l generalizing p with
  | nil => rw [List.countP_nil, raised_zero]; rfl
  | cons n l ih =>
    obtain ⟨hn, hl⟩ := List.nodup_cons.mp hl
    have hrest : l.countP (fun m => ((lateOn which false p n).sequencer.flights.get m).any (lateBy which m)) =
        l.countP (fun m => (p.sequencer.flights.get m).any (lateBy which m)) :=
      List.countP_congr fun m hm => by rw [lateOn_flights, if_neg (fun e => hn (by rwa [← e]))]
    rw [List.foldl_cons, ih hl, hrest, List.countP_cons]
    generalize (l.foldl (lateOn which false) (lateOn which false p n)).sequencer.flights = flights
    rw [lateOn_lates]
    split
    · rw [raised_count16]
    · rw [Nat.add_zero]

theorem lateOns_unknown (which : ChannelNo → Flight → Bool) {l : List ChannelNo} (hl : l.Nodup) (p : Part) {n : ChannelNo} (hn : n ∈ l)
    {f : Flight} (hf : p.sequencer.flights.get n = some f) (hlate : lateBy which n f = true) :
    (l.foldl (lateOn which false) p).window.attention.getLsbD 5 = true ∧
      (isCabin f.cabin = true → (cabin (l.foldl (lateOn which false) p) f.cabin).door = .unknown) := by
  induction l generalizing p with
  | nil => cases hn
  | cons m l ih =>
    obtain ⟨hm, hl⟩ := List.nodup_cons.mp hl
    rw [List.foldl_cons]
    obtain rfl | hn := List.mem_cons.mp hn
    · rw [lateOn_on hf hlate]
      have after := LosesDoors.foldl (lateOn_loses which) l (attend .door (makeLate n f p))
      exact ⟨after.bits 5 (by simp [attend, Attn.bit]), fun hk => after.unknown _ hk (loseDoor_unknown hk _)⟩
    · refine ih hl (lateOn which false p m) hn ?_
      rw [lateOn_flights, if_neg (fun e : n = m => hm (e ▸ hn)), hf]

end Sys2Proof.Machine

/-! The actions that a passage makes (R104, R105, R109). -/

namespace Sys2Proof.Machine

/-! ### One entry of the program -/

/-- The action that an entry of the program makes on a passage. -/
def entryAction (g : Passage) (p : Part) (i : Fin 24) : Option Action :=
  match p.sequencer.program.get i with
  | none => none
  | some e => if e.trigger = g.detector then some (actionOf (i.val + 1) e g p) else none

theorem madeAt_eq {g : Passage} {ref : Option Nat} (href : ref = if g.detector == 7 then none else some g.serial) (p : Part) :
    madeAt p g.detector g.cabin ref = (List.finRange 24).filterMap (entryAction g p) := by
  subst href
  rfl

/-- An action made is counted for its entry. -/
def countMade (i : Fin 24) (p : Part) : Part := modSeq (fun s => { s with made := modTable s.made i count16 }) p

theorem triggerEntry_makes {g : Passage} {p : Part} {i : Fin 24} {a : Action} (h : entryAction g p i = some a) :
    triggerEntry g p i = makeAction g a (countMade i p) := by
  unfold entryAction at h
  unfold triggerEntry
  cases he : p.sequencer.program.get i with
  | none => simp [he] at h
  | some e =>
    simp only [he, Option.ite_none_right_eq_some, Option.some.injEq] at h
    obtain ⟨htrigger, rfl⟩ := h
    exact if_pos (by simpa using htrigger)

theorem triggerEntry_passes {g : Passage} {p : Part} {i : Fin 24} (h : entryAction g p i = none) : triggerEntry g p i = p := by
  unfold entryAction at h
  unfold triggerEntry
  cases he : p.sequencer.program.get i with
  | none => rfl
  | some e =>
    simp only [he, ite_eq_right_iff, reduceCtorEq, imp_false] at h
    exact if_neg (by simpa using h)

/-! ### One action -/

theorem placeAction_eq (a : Action) (l : List Action) : placeAction a l = placedIn l a := by
  induction l with
  | nil => rfl
  | cons b l ih =>
    unfold placeAction placedIn
    by_cases h : earlier a.due b.due = true
    · simp [h]
    · rw [Bool.not_eq_true] at h
      simp only [h, Bool.false_eq_true, if_false, ih, placedIn, List.takeWhile_cons, List.dropWhile_cons, Bool.not_false, if_true,
        List.cons_append]

theorem placedIn_length (l : List Action) (a : Action) : (placedIn l a).length = l.length + 1 := by
  rw [placedIn, List.length_append, List.length_cons, ← Nat.add_assoc, ← List.length_append, List.takeWhile_append_dropWhile]

/-- The list with a new action, which a full list and an action beyond its reach segment leave. -/
def placedOr (p : Part) (d : Nat) (l : List Action) (a : Action) : List Action :=
  if 16 ≤ l.length ∨ pastReach p d a.isCabin a.channel = true then l else placedIn l a

/-- The doors, the clock and the program of a part. -/
abbrev SameProgram (p q : Part) : Prop := q.doors = p.doors ∧ q.clock = p.clock ∧ q.sequencer.program = p.sequencer.program

theorem entryAction_congr {p q : Part} (h : SameProgram p q) (g : Passage) (i : Fin 24) : entryAction g q i = entryAction g p i := by
  obtain ⟨hdoors, hclock, hprogram⟩ := h
  simp only [entryAction, actionOf, channel_of_doors_eq hdoors, hclock, hprogram]

theorem triggerEntry_program (g : Passage) {p q : Part} (h : SameProgram p q) (i : Fin 24) : SameProgram p (triggerEntry g q i) := by
  simp [SameProgram, h]

section
variable {g : Passage} {a : Action} {p q : Part}

theorem makeAction_drops (h : 16 ≤ q.sequencer.actions.length) : makeAction g a q = dropFull a q := if_pos h

theorem makeAction_removes (hroom : ¬ 16 ≤ q.sequencer.actions.length) (h : pastReach q g.detector a.isCabin a.channel = true) :
    makeAction g a q = attend .door (countRemoval q a) :=
  (if_neg hroom).trans (if_pos h)

theorem makeAction_places (hroom : ¬ 16 ≤ q.sequencer.actions.length) (h : pastReach q g.detector a.isCabin a.channel = false) :
    makeAction g a q = modSeq (fun s => { s with actions := placedIn s.actions a }) q := by
  refine ((if_neg hroom).trans (if_neg ?_)).trans (by simp only [placeAction_eq])
  exact (Bool.not_eq_true _).mpr h

theorem makeAction_loses : LosesDoors q (makeAction g a q) := by
  by_cases hfull : 16 ≤ q.sequencer.actions.length
  · rw [makeAction_drops hfull]
    exact (loseDoor_loses _ _ q).trans ((modSeq_loses ..).trans (attend_loses ..))
  · by_cases hpast : pastReach q g.detector a.isCabin a.channel = true
    · rw [makeAction_removes hfull hpast]
      exact (countRemoval_loses q a).trans (attend_loses ..)
    · rw [makeAction_places hfull (by simpa using hpast)]
      exact modSeq_loses ..

theorem dropFull_sequencer : (dropFull a q).sequencer = { q.sequencer with fullDrops := count16 q.sequencer.fullDrops } := by
  simp only [dropFull, modSeq, loseDoor]
  split <;> simp

/-- What a new action makes of the Door Sequencer's state. -/
theorem makeAction_sequencer : (makeAction g a q).sequencer = { q.sequencer with
    actions := placedOr q g.detector q.sequencer.actions a
    fullDrops := if 16 ≤ q.sequencer.actions.length then count16 q.sequencer.fullDrops else q.sequencer.fullDrops
    removals := if ¬ 16 ≤ q.sequencer.actions.length ∧ pastReach q g.detector a.isCabin a.channel = true then
      count16 q.sequencer.removals else q.sequencer.removals } := by
  unfold placedOr
  by_cases hfull : 16 ≤ q.sequencer.actions.length
  · simp [makeAction_drops hfull, hfull, dropFull_sequencer]
  · by_cases hpast : pastReach q g.detector a.isCabin a.channel = true
    · rw [makeAction_removes hfull hpast]
      simp [hfull, hpast, countRemoval_sequencer]
    · rw [makeAction_places hfull (by simpa using hpast)]
      simp [hfull, hpast, modSeq]

/-- An action that is not placed sets DOOR and loses its cabin's door state. -/
theorem makeAction_lost (h : 16 ≤ q.sequencer.actions.length ∨ pastReach q g.detector a.isCabin a.channel = true) :
    (makeAction g a q).window.attention.getLsbD 5 = true ∧
      (a.isCabin = true → isCabin a.cabin = true → (cabin (makeAction g a q) a.cabin).door = .unknown) := by
  by_cases hfull : 16 ≤ q.sequencer.actions.length
  · rw [makeAction_drops hfull]
    refine ⟨by simp [dropFull, attend, Attn.bit], fun ha hk => ?_⟩
    rw [dropFull, ha]
    exact loseDoor_unknown hk q
  · rw [makeAction_removes hfull (h.resolve_left hfull)]
    exact ⟨by simp [attend, Attn.bit], fun ha hk => countRemoval_unknown q ha hk⟩

end

/-! ### The whole program -/

theorem countMade_loses (i : Fin 24) (p : Part) : LosesDoors p (countMade i p) := modSeq_loses ..

theorem triggerEntry_loses (g : Passage) (p : Part) (i : Fin 24) : LosesDoors p (triggerEntry g p i) := by
  cases h : entryAction g p i with
  | none => rw [triggerEntry_passes h]; exact .refl p
  | some a => rw [triggerEntry_makes h]; exact (countMade_loses i p).trans makeAction_loses

/-- What one entry makes of the Door Sequencer's state. -/
theorem triggerEntry_sequencer (g : Passage) (p : Part) (i : Fin 24) :
    (triggerEntry g p i).sequencer.flights = p.sequencer.flights ∧ (triggerEntry g p i).sequencer.lates = p.sequencer.lates ∧
      (triggerEntry g p i).sequencer.made =
        if (p.sequencer.program.get i).any (fun e => e.trigger == g.detector) then modTable p.sequencer.made i count16
        else p.sequencer.made := by
  unfold triggerEntry
  split
  next he => simp [he]
  next e he =>
    split
    next h => rw [makeAction_sequencer, he]; simp [modSeq, h]
    next h => simp [he, h]

theorem triggered_made (g : Passage) {l : List (Fin 24)} (hl : l.Nodup) (q : Part) (j : Fin 24) :
    (l.foldl (triggerEntry g) q).sequencer.made.get j =
      if j ∈ l ∧ (q.sequencer.program.get j).any (fun e => e.trigger == g.detector) = true then count16 (q.sequencer.made.get j)
      else q.sequencer.made.get j := by
  induction l generalizing q with
  | nil => simp
  | cons i l ih =>
    obtain ⟨hi, hl⟩ := List.nodup_cons.mp hl
    obtain ⟨-, -, hmade⟩ := triggerEntry_sequencer g q i
    have hprogram : (triggerEntry g q i).sequencer.program = q.sequencer.program := by simp
    rw [List.foldl_cons, ih hl, hprogram, hmade]
    by_cases hj : j = i
    · subst hj
      simp only [hi, false_and, if_false, List.mem_cons, true_or, true_and]
      split <;> simp
    · have hget : (if (q.sequencer.program.get i).any (fun e => e.trigger == g.detector) = true then
          modTable q.sequencer.made i count16 else q.sequencer.made).get j = q.sequencer.made.get j := by
        split
        · exact modTable_get_ne _ _ _ _ hj
        · rfl
      rw [hget]
      simp [hj]

theorem triggered_flights (g : Passage) (l : List (Fin 24)) (q : Part) :
    (l.foldl (triggerEntry g) q).sequencer.flights = q.sequencer.flights ∧
      (l.foldl (triggerEntry g) q).sequencer.lates = q.sequencer.lates := by
  induction l generalizing q with
  | nil => exact ⟨rfl, rfl⟩
  | cons i l ih =>
    obtain ⟨hflights, hlates, -⟩ := triggerEntry_sequencer g q i
    obtain ⟨ihflights, ihlates⟩ := ih (triggerEntry g q i)
    exact ⟨ihflights.trans hflights, ihlates.trans hlates⟩

section
variable {g : Passage} {p : Part}

theorem pastReach_congr {q : Part} (h : q.doors = p.doors) (d : Nat) (b : Bool) (n : ChannelNo) :
    pastReach q d b n = pastReach p d b n := by
  simp only [pastReach, channel_of_doors_eq h]

theorem placedOr_congr {q : Part} (h : q.doors = p.doors) (d : Nat) (l : List Action) (a : Action) :
    placedOr q d l a = placedOr p d l a := by
  simp only [placedOr, pastReach_congr h]

/-- The list after the actions that the entries make. -/
theorem triggered_actions (l : List (Fin 24)) {q : Part} (h : SameProgram p q) :
    (l.foldl (triggerEntry g) q).sequencer.actions =
      (l.filterMap (entryAction g p)).foldl (placedOr p g.detector) q.sequencer.actions := by
  induction l generalizing q with
  | nil => rfl
  | cons i l ih =>
    rw [List.foldl_cons, ih (triggerEntry_program g h i)]
    cases ha : entryAction g p i with
    | none => rw [triggerEntry_passes (by rw [entryAction_congr h, ha]), List.filterMap_cons_none ha]
    | some a =>
      rw [triggerEntry_makes (by rw [entryAction_congr h, ha]), List.filterMap_cons_some ha, List.foldl_cons, makeAction_sequencer]
      dsimp only
      rw [placedOr_congr (q := countMade i q) h.1]
      rfl

/-- With room for all, the actions beyond their reach segment are removals. -/
theorem triggered_room (l : List (Fin 24)) {q : Part} (h : SameProgram p q)
    (hroom : q.sequencer.actions.length + (l.filterMap (entryAction g p)).length ≤ 16) :
    (l.foldl (triggerEntry g) q).sequencer.fullDrops = q.sequencer.fullDrops ∧
      (l.foldl (triggerEntry g) q).sequencer.removals =
        raised ((l.filterMap (entryAction g p)).filter (fun a => pastReach p g.detector a.isCabin a.channel)).length
          q.sequencer.removals := by
  induction l generalizing q with
  | nil => exact ⟨rfl, (raised_zero _).symm⟩
  | cons i l ih =>
    rw [List.foldl_cons]
    cases ha : entryAction g p i with
    | none =>
      rw [List.filterMap_cons_none ha] at hroom ⊢
      rw [triggerEntry_passes (by rw [entryAction_congr h, ha])]
      exact ih h hroom
    | some a =>
      rw [List.filterMap_cons_some ha, List.length_cons] at hroom
      have hmakes : triggerEntry g q i = makeAction g a (countMade i q) := triggerEntry_makes (by rw [entryAction_congr h, ha])
      have hfull : ¬ 16 ≤ (countMade i q).sequencer.actions.length := by
        show ¬ 16 ≤ q.sequencer.actions.length
        omega
      have hpast := pastReach_congr (p := p) (q := countMade i q) h.1 g.detector a.isCabin a.channel
      have hseq := (congrArg Part.sequencer hmakes).trans makeAction_sequencer
      have hlength : (triggerEntry g q i).sequencer.actions.length ≤ q.sequencer.actions.length + 1 := by
        rw [hseq]
        show (placedOr _ _ q.sequencer.actions a).length ≤ _
        unfold placedOr
        split
        · omega
        · rw [placedIn_length]
      obtain ⟨ihdrops, ihremovals⟩ := ih (triggerEntry_program g h i) (by omega)
      rw [ihdrops, ihremovals, hseq, List.filterMap_cons_some ha]
      simp only [hpast, hfull, not_false_iff, true_and]
      refine ⟨rfl, ?_⟩
      rw [List.filter_cons]
      split
      · rw [raised_count16]; rfl
      · rfl

/-- A full list drops all. -/
theorem triggered_full (l : List (Fin 24)) {q : Part} (h : SameProgram p q) (hfull : 16 ≤ q.sequencer.actions.length) :
    (l.foldl (triggerEntry g) q).sequencer.fullDrops = raised (l.filterMap (entryAction g p)).length q.sequencer.fullDrops ∧
      (l.foldl (triggerEntry g) q).sequencer.removals = q.sequencer.removals := by
  induction l generalizing q with
  | nil => exact ⟨(raised_zero _).symm, rfl⟩
  | cons i l ih =>
    rw [List.foldl_cons]
    cases ha : entryAction g p i with
    | none =>
      rw [List.filterMap_cons_none ha, triggerEntry_passes (by rw [entryAction_congr h, ha])]
      exact ih h hfull
    | some a =>
      have hmakes : triggerEntry g q i = dropFull a (countMade i q) :=
        (triggerEntry_makes (by rw [entryAction_congr h, ha])).trans (makeAction_drops hfull)
      have hseq := (congrArg Part.sequencer hmakes).trans dropFull_sequencer
      obtain ⟨ihdrops, ihremovals⟩ := ih (triggerEntry_program g h i) (by rw [hseq]; exact hfull)
      rw [ihdrops, ihremovals, hseq, List.filterMap_cons_some ha, List.length_cons]
      exact ⟨raised_count16 .., rfl⟩

/-- An action beyond its reach segment, and every action where the list is full, sets DOOR and loses its cabin's door state. -/
theorem triggered_lost (l : List (Fin 24)) {q : Part} (h : SameProgram p q) {a : Action} (ha : a ∈ l.filterMap (entryAction g p))
    (hlost : 16 ≤ q.sequencer.actions.length ∨ pastReach p g.detector a.isCabin a.channel = true) :
    (l.foldl (triggerEntry g) q).window.attention.getLsbD 5 = true ∧
      (a.isCabin = true → isCabin a.cabin = true → (cabin (l.foldl (triggerEntry g) q) a.cabin).door = .unknown) := by
  induction l generalizing q with
  | nil => cases ha
  | cons i l ih =>
    rw [List.foldl_cons]
    cases hb : entryAction g p i with
    | none =>
      rw [List.filterMap_cons_none hb] at ha
      rw [triggerEntry_passes (by rw [entryAction_congr h, hb])]
      exact ih h ha hlost
    | some b =>
      rw [List.filterMap_cons_some hb] at ha
      have hmakes : triggerEntry g q i = makeAction g b (countMade i q) := triggerEntry_makes (by rw [entryAction_congr h, hb])
      obtain rfl | ha := List.mem_cons.mp ha
      · have after := LosesDoors.foldl (triggerEntry_loses g) l (triggerEntry g q i)
        have lost := makeAction_lost (g := g) (a := a) (q := countMade i q)
          (by rwa [pastReach_congr (p := p) (q := countMade i q) h.1])
        rw [← hmakes] at lost
        exact ⟨after.bits 5 lost.1, fun hcabin hk => after.unknown _ hk (lost.2 hcabin hk)⟩
      · refine ih (triggerEntry_program g h i) ha (hlost.imp_left fun hfull => ?_)
        rw [hmakes, makeAction_sequencer]
        show 16 ≤ (placedOr _ _ q.sequencer.actions b).length
        rwa [placedOr, if_pos (.inl hfull)]

end

end Sys2Proof.Machine

/-! What the Door Sequencer has made of a passage at the end of its event (R104, R105, R109, R110). -/

namespace Sys2Proof.Machine

/-! ### The stages of the work -/

/-- The lateness that a passage brings. -/
def passedLate (g : Passage) (p : Part) (n : ChannelNo) (f : Flight) : Bool := f.ref == some g.serial && reachOf p n < g.detector

/-- After the removals and the lateness of a passage. -/
def passageCleared (g : Passage) (p : Part) : Part :=
  judgeLate (passedLate g (removeActions (beyondReach p g.serial g.detector) false p)) false
    (removeActions (beyondReach p g.serial g.detector) false p)

/-- After the actions made. -/
def passageMade (g : Passage) (p : Part) : Part := (List.finRange 24).foldl (triggerEntry g) (passageCleared g p)

/-- After the lock check and the end of an unlocked condition. -/
def passageChecked (g : Passage) (p : Part) : Part :=
  let q := if g.detector == 4 then lockCheck g p else p
  if g.detector == 5 then endUnlocked g.cabin q else q

theorem sequencerPassage_eq (g : Passage) (p : Part) :
    sequencerPassage g p = judgeSequencer true (passageChecked g (passageMade g p)) := rfl

theorem reportUnlocked_sequencer (k : Nat) (b : Bool) (p : Part) :
    (reportUnlocked k b p).sequencer = { p.sequencer with unlocked := (reportUnlocked k b p).sequencer.unlocked } := by
  simp only [reportUnlocked]
  split <;> simp [modSeq]

theorem lockCheck_sequencer (g : Passage) (p : Part) :
    (lockCheck g p).sequencer = { p.sequencer with unlocked := (lockCheck g p).sequencer.unlocked } := by
  simp only [lockCheck]
  split
  · split
    · simp
    · rw [reportUnlocked_sequencer]; simp
  · simp

theorem passageChecked_sequencer (g : Passage) (p : Part) : (passageChecked g p).sequencer =
    { p.sequencer with unlocked := (passageChecked g p).sequencer.unlocked } ∧ (passageChecked g p).doors = p.doors ∧
      (passageChecked g p).clock = p.clock := by
  have locked : (if g.detector == 4 then lockCheck g p else p).sequencer = { p.sequencer with
      unlocked := (if g.detector == 4 then lockCheck g p else p).sequencer.unlocked } ∧
      (if g.detector == 4 then lockCheck g p else p).doors = p.doors ∧
      (if g.detector == 4 then lockCheck g p else p).clock = p.clock := by
    split
    · exact ⟨lockCheck_sequencer g p, by simp, by simp⟩
    · exact ⟨rfl, rfl, rfl⟩
  unfold passageChecked
  generalize (if g.detector == 4 then lockCheck g p else p) = q at locked ⊢
  obtain ⟨hseq, hdoors, hclock⟩ := locked
  dsimp only
  split
  · refine ⟨?_, by simp [hdoors], by simp [hclock]⟩
    rw [endUnlocked_sequencer]
    dsimp only
    rw [hseq]
  · exact ⟨hseq, hdoors, hclock⟩

theorem reportUnlocked_bits (k : Nat) (b : Bool) (p : Part) : BitsStay p.window (reportUnlocked k b p).window := by
  unfold reportUnlocked
  dsimp only
  refine BitsStay.trans (attend_bitsStay .door p) (BitsStay.trans (BitsStay.of_eq ?_) (by exact report_bitsStay _ _ _ _ _))
  split <;> rfl

theorem endUnlocked_loses (k : Nat) (p : Part) : LosesDoors p (endUnlocked k p) := by
  unfold endUnlocked
  split
  · exact (modSeq_loses _ p).trans (.of_eq (gone_undisturbed ..).2.2.2.2 (by simp))
  · exact .refl p

/-- The lock check loses no attention bit, and no UNKNOWN door state but that of the cabin whose lock it shows. -/
theorem lockCheck_bits (g : Passage) (p : Part) : BitsStay p.window (lockCheck g p).window ∧
    ∀ k, k ≠ g.cabin → cabin (lockCheck g p) k = cabin p k := by
  unfold lockCheck
  dsimp only
  have shown (d : CabinDoor) (k : Nat) (hk : k ≠ g.cabin) : cabin (setDoor g.cabin d p) k = cabin p k := cabin_setDoor_ne hk d p
  split
  · split
    · exact ⟨.of_eq (by simp), fun k hk => shown _ k hk⟩
    · have told := reportUnlocked_bits g.cabin true (setDoor g.cabin .notLocked p)
      exact ⟨BitsStay.trans (.of_eq (by simp)) told, fun k hk => (cabin_of_cabins_eq (by simp) k).trans (shown .notLocked k hk)⟩
  · exact ⟨.of_eq (by simp), fun k _ => cabin_of_cabins_eq (by simp) k⟩

theorem passageChecked_bits (g : Passage) (p : Part) : BitsStay p.window (passageChecked g p).window ∧
    ∀ k, isCabin k = true → (g.detector = 4 → k ≠ g.cabin) → (cabin p k).door = .unknown →
      (cabin (passageChecked g p) k).door = .unknown := by
  unfold passageChecked
  dsimp only
  have locked : BitsStay p.window (if g.detector == 4 then lockCheck g p else p).window ∧
      ∀ k, (g.detector = 4 → k ≠ g.cabin) → cabin (if g.detector == 4 then lockCheck g p else p) k = cabin p k := by
    split
    next h => exact ⟨(lockCheck_bits g p).1, fun k hk => (lockCheck_bits g p).2 k (hk (by simpa using h))⟩
    next h => exact ⟨fun _ h => h, fun _ _ => rfl⟩
  generalize (if g.detector == 4 then lockCheck g p else p) = q at locked ⊢
  obtain ⟨hbits, hcabins⟩ := locked
  have ended : LosesDoors q (if g.detector == 5 then endUnlocked g.cabin q else q) := by
    split
    · exact endUnlocked_loses ..
    · exact .refl q
  exact ⟨hbits.trans ended.bits, fun k hk h4 hd => ended.unknown k hk (by rwa [hcabins k h4])⟩

/-! ### The made part -/

theorem judgeLate_lates (which : ChannelNo → Flight → Bool) (p : Part) : (judgeLate which false p).sequencer = { p.sequencer with
    flights := (judgeLate which false p).sequencer.flights
    lates := raised ((List.finRange 8).countP (fun n => (p.sequencer.flights.get n).any (lateBy which n))) p.sequencer.lates } := by
  unfold judgeLate
  exact lateOns_lates which (List.nodup_finRange 8) p

section
variable {g : Passage} {p q : Part}

theorem passageCleared_program (h : SameProgram p q) : SameProgram p (passageCleared g q) := by
  simp [SameProgram, passageCleared, h]

theorem passageCleared_loses (q : Part) : LosesDoors q (passageCleared g q) :=
  (removeActions_loses ..).trans (LosesDoors.foldl (lateOn_loses _) _ _)

theorem passageMade_loses (q : Part) : LosesDoors (passageCleared g q) (passageMade g q) := LosesDoors.foldl (triggerEntry_loses g) _ _

/-- A pending action that the passage removes. -/
theorem beyondReach_eq (h : q.doors = p.doors) (serial d : Nat) : beyondReach q serial d = leavesAt p d serial := by
  funext a
  simp only [beyondReach, leavesAt, pastReach, reachOf, channel_of_doors_eq h, beq_eq_decide]
  rw [Bool.and_comm a.isCabin, Bool.and_assoc]

/-- An action in flight that the passage makes late. -/
theorem passedLate_eq (h : q.doors = p.doors) : lateBy (passedLate g q) = lateAt p g.detector g.serial := by
  funext n f
  simp only [lateBy, passedLate, lateAt, pastReach, reachOf, channel_of_doors_eq h, beq_eq_decide]
  cases f.isCabin <;> cases f.late <;> simp

variable (hq : q.sequencer = p.sequencer) (hdoors : q.doors = p.doors)

include hq hdoors in
theorem passageMade_made (hclock : q.clock = p.clock) (j : Fin 24) : (passageMade g q).sequencer.made.get j =
    if (p.sequencer.program.get j).any (fun e => e.trigger == g.detector) then count16 (p.sequencer.made.get j)
    else p.sequencer.made.get j := by
  have hprogram := passageCleared_program (g := g) (p := p) (q := q) ⟨hdoors, hclock, by rw [hq]⟩
  have hmade : (passageCleared g q).sequencer.made = p.sequencer.made := by
    rw [passageCleared, judgeLate, lateOns_lates _ (List.nodup_finRange 8), removeActions_sequencer, hq]
  rw [passageMade, triggered_made g (List.nodup_finRange 24), hprogram.2.2, hmade]
  simp

include hq hdoors

/-- The list, the counts and the actions in flight after the removals and the lateness. -/
theorem passageCleared_sequencer : (passageCleared g q).sequencer = { p.sequencer with
    actions := p.sequencer.actions.filter (fun a => !leavesAt p g.detector g.serial a)
    removals := raised (p.sequencer.actions.filter (leavesAt p g.detector g.serial)).length p.sequencer.removals
    flights := (passageCleared g q).sequencer.flights
    lates := raised ((List.finRange 8).countP (fun n => (p.sequencer.flights.get n).any (lateAt p g.detector g.serial n)))
      p.sequencer.lates } := by
  have hlate (w : Action → Bool) : (removeActions w false q).doors = p.doors := by simp [hdoors]
  rw [passageCleared, judgeLate_lates]
  dsimp only
  rw [removeActions_sequencer, beyondReach_eq hdoors, hq]
  dsimp only
  rw [passedLate_eq (hlate _)]

theorem passageCleared_flights (n : ChannelNo) : (passageCleared g q).sequencer.flights.get n =
    (p.sequencer.flights.get n).map (fun f => if lateAt p g.detector g.serial n f then { f with late := true } else f) := by
  have hlate : (removeActions (beyondReach q g.serial g.detector) false q).doors = p.doors := by simp [hdoors]
  rw [passageCleared, judgeLate, lateOns_flights _ (List.nodup_finRange 8), if_pos (List.mem_finRange n), removeActions_sequencer, hq]
  refine congrArg (fun f => Option.map f (p.sequencer.flights.get n)) (funext fun f => ?_)
  rw [lateSet, passedLate_eq hlate]

end

end Sys2Proof.Machine

/-! What a passage makes of the door actions, at the end of its event (R104, R105, R109, R110). -/

namespace Sys2Proof.Machine

/-! ### The counts of actions made (R104) -/

theorem judgeArbiter_made (p : Part) : (judgeArbiter p).sequencer.made = p.sequencer.made := by
  simp only [judgeArbiter, handGrant]
  (repeat' split) <;> simp

theorem settle_made (p : Part) : (settle 64 p).sequencer.made = p.sequencer.made := by
  refine settle_keeps (P := fun q => q.sequencer.made = p.sequencer.made) (fun q hq => ?_) (fun q hq => ?_) 64 rfl
  · rw [← hq]
    unfold settleOnce
    (repeat' split) <;> simp [judgeArbiter_made]
  · simpa using hq

/-! ### The lateness at once on every channel (R110) -/

theorem judgeLate_loses (which : ChannelNo → Flight → Bool) (p : Part) : LosesDoors p (judgeLate which false p) := by
  unfold judgeLate
  exact LosesDoors.foldl (lateOn_loses which) _ p

theorem judgeLate_unknown (which : ChannelNo → Flight → Bool) (p : Part) {n : ChannelNo} {f : Flight}
    (hf : p.sequencer.flights.get n = some f) (hlate : lateBy which n f = true) :
    (judgeLate which false p).window.attention.getLsbD 5 = true ∧
      (isCabin f.cabin = true → (cabin (judgeLate which false p) f.cabin).door = .unknown) := by
  unfold judgeLate
  exact lateOns_unknown which (List.nodup_finRange 8) p (List.mem_finRange n) hf hlate

/-! ### The part that the passage leaves -/

theorem triggered_program (g : Passage) (l : List (Fin 24)) {p q : Part} (h : SameProgram p q) :
    SameProgram p (l.foldl (triggerEntry g) q) :=
  List.foldlRecOn (motive := fun r : Part => SameProgram p r) l (triggerEntry g) h fun _ hr i _ => triggerEntry_program g hr i

theorem passageMade_program {g : Passage} {p q : Part} (h : SameProgram p q) : SameProgram p (passageMade g q) := by
  unfold passageMade
  exact triggered_program g _ (passageCleared_program h)

section
variable {g : Passage} {p q : Part} {ref : Option Nat}
variable (href : ref = if g.detector == 7 then none else some g.serial)
variable (hq : q.sequencer = p.sequencer) (hdoors : q.doors = p.doors)
include hq hdoors

theorem passageCleared_start (hclock : q.clock = p.clock) : SameProgram p (passageCleared g q) := passageCleared_program ⟨hdoors, hclock, by rw [hq]⟩

theorem passageCleared_actions : (passageCleared g q).sequencer.actions =
    p.sequencer.actions.filter (fun a => !leavesAt p g.detector g.serial a) := by
  rw [passageCleared_sequencer hq hdoors]

/-- Each action made late sets DOOR, and its cabin's door state is UNKNOWN. -/
theorem passageMade_late {n : ChannelNo} {f : Flight} (hf : p.sequencer.flights.get n = some f)
    (hlate : lateAt p g.detector g.serial n f = true) : (passageMade g q).window.attention.getLsbD 5 = true ∧
      (isCabin f.cabin = true → (cabin (passageMade g q) f.cabin).door = .unknown) := by
  have hdoors' : (removeActions (beyondReach q g.serial g.detector) false q).doors = p.doors := by simp [hdoors]
  have late : (passageCleared g q).window.attention.getLsbD 5 = true ∧
      (isCabin f.cabin = true → (cabin (passageCleared g q) f.cabin).door = .unknown) := by
    unfold passageCleared
    exact judgeLate_unknown _ _ (by rw [removeActions_sequencer, hq]; exact hf) (by rw [passedLate_eq hdoors']; exact hlate)
  have later := passageMade_loses (g := g) q
  exact ⟨later.bits 5 late.1, fun hk => later.unknown _ hk (late.2 hk)⟩

theorem passageMade_flights (n : ChannelNo) : (passageMade g q).sequencer.flights.get n =
    (p.sequencer.flights.get n).map (fun f => if lateAt p g.detector g.serial n f then { f with late := true } else f) := by
  rw [passageMade, (triggered_flights ..).1, passageCleared_flights hq hdoors]

theorem passageMade_lates : (passageMade g q).sequencer.lates =
    raised ((List.finRange 8).countP (fun n => (p.sequencer.flights.get n).any (lateAt p g.detector g.serial n))) p.sequencer.lates := by
  rw [passageMade, (triggered_flights ..).2, passageCleared_sequencer hq hdoors]

variable (hclock : q.clock = p.clock)
include hclock href

theorem passageMade_actions : (passageMade g q).sequencer.actions = actionsAfter p g.detector g.cabin g.serial ref := by
  rw [passageMade, triggered_actions _ (passageCleared_start hq hdoors hclock), passageCleared_actions hq hdoors, ← madeAt_eq href]
  rfl

/-- The counts of removals and of full-list drops. -/
theorem passageMade_counts :
    let made := madeAt p g.detector g.cabin ref
    let kept := p.sequencer.actions.filter (fun a => !leavesAt p g.detector g.serial a)
    let gone := p.sequencer.actions.filter (leavesAt p g.detector g.serial)
    let past := made.filter (fun a => pastReach p g.detector a.isCabin a.channel)
    (kept.length + made.length ≤ 16 → (passageMade g q).sequencer.fullDrops = p.sequencer.fullDrops ∧
      (passageMade g q).sequencer.removals = raised (gone.length + past.length) p.sequencer.removals) ∧
    (16 ≤ kept.length → (passageMade g q).sequencer.fullDrops = raised made.length p.sequencer.fullDrops ∧
      (passageMade g q).sequencer.removals = raised gone.length p.sequencer.removals) := by
  have start := passageCleared_start (g := g) hq hdoors hclock
  have actions := passageCleared_actions (g := g) hq hdoors
  have hdrops : (passageCleared g q).sequencer.fullDrops = p.sequencer.fullDrops := by rw [passageCleared_sequencer hq hdoors]
  have hremovals : (passageCleared g q).sequencer.removals =
      raised (p.sequencer.actions.filter (leavesAt p g.detector g.serial)).length p.sequencer.removals := by
    rw [passageCleared_sequencer hq hdoors]
  intro made kept gone past
  have hkept : (passageCleared g q).sequencer.actions.length = kept.length := congrArg List.length actions
  have hmade : made = (List.finRange 24).filterMap (entryAction g p) := madeAt_eq href p
  refine ⟨fun h => ?_, fun h => ?_⟩
  · rw [hmade, ← hkept] at h
    obtain ⟨drops, removals⟩ := triggered_room (List.finRange 24) start h
    rw [← passageMade] at drops removals
    refine ⟨drops.trans hdrops, removals.trans ?_⟩
    rw [hremovals, raised_raised, ← hmade, Nat.add_comm]
  · rw [← hkept] at h
    obtain ⟨drops, removals⟩ := triggered_full (List.finRange 24) start h
    rw [← passageMade] at drops removals
    rw [← hmade, hdrops] at drops
    exact ⟨drops, removals.trans hremovals⟩

/-- Each action lost sets DOOR, and its cabin's door state is UNKNOWN. -/
theorem passageMade_lost {a : Action}
    (ha : a ∈ p.sequencer.actions.filter (leavesAt p g.detector g.serial) ∨
      a ∈ (madeAt p g.detector g.cabin ref).filter (fun a => pastReach p g.detector a.isCabin a.channel) ∨
      16 ≤ (p.sequencer.actions.filter (fun a => !leavesAt p g.detector g.serial a)).length ∧ a ∈ madeAt p g.detector g.cabin ref) :
    (passageMade g q).window.attention.getLsbD 5 = true ∧
      (a.isCabin = true → isCabin a.cabin = true → (cabin (passageMade g q) a.cabin).door = .unknown) := by
  have start := passageCleared_start (g := g) hq hdoors hclock
  have madeLost (hmade : a ∈ madeAt p g.detector g.cabin ref)
      (h : 16 ≤ (passageCleared g q).sequencer.actions.length ∨ pastReach p g.detector a.isCabin a.channel = true) :
      (passageMade g q).window.attention.getLsbD 5 = true ∧
        (a.isCabin = true → isCabin a.cabin = true → (cabin (passageMade g q) a.cabin).door = .unknown) := by
    rw [madeAt_eq href] at hmade
    unfold passageMade
    exact triggered_lost _ start hmade h
  obtain ha | ha | ⟨hfull, ha⟩ := ha
  · have removed := removeActions_unknown (beyondReach q g.serial g.detector) q (a := a)
      (by rw [beyondReach_eq hdoors, hq]; exact ha)
    have cleared : LosesDoors (removeActions (beyondReach q g.serial g.detector) false q) (passageCleared g q) := by
      unfold passageCleared
      exact judgeLate_loses ..
    have later := cleared.trans (passageMade_loses q)
    exact ⟨later.bits 5 removed.1, fun hcabin hk => later.unknown _ hk (removed.2 hcabin hk)⟩
  · obtain ⟨hmade, hpast⟩ := List.mem_filter.mp ha
    exact madeLost hmade (.inr hpast)
  · exact madeLost ha (.inl (by rwa [passageCleared_actions hq hdoors]))

end

end Sys2Proof.Machine

/-! A passage's work on the door actions as the end of its event shows it (R104, R105, R109, R110). -/

namespace Sys2Proof.Machine

/-- A later part with the same actions, records and doors, in which attention bits stay. -/
structure ActionsStand (p q : Part) : Prop where
  sequencer : q.sequencer = p.sequencer
  cabins : q.cabins = p.cabins
  doors : q.doors = p.doors
  bits : BitsStay p.window q.window

/-- An action of the list after the passage was pending or is new. -/
theorem actionsAfter_waitless {p : Part} {d k serial : Nat} {ref : Option Nat} (h : ∀ a ∈ p.sequencer.actions, a.dueWaiting = false) :
    ∀ a ∈ actionsAfter p d k serial ref, a.dueWaiting = false := by
  have placed (l m : List Action) (hl : ∀ a ∈ l, a.dueWaiting = false) (hm : ∀ a ∈ m, a.dueWaiting = false) :
      ∀ a ∈ l.foldl (placedOr p d) m, a.dueWaiting = false := by
    induction l generalizing m with
    | nil => exact hm
    | cons b l ih =>
      refine ih _ (fun a ha => hl a (List.mem_cons_of_mem b ha)) fun a ha => ?_
      unfold placedOr at ha
      split at ha
      · exact hm a ha
      · rw [placedIn, List.mem_append, List.mem_cons] at ha
        obtain ha | rfl | ha := ha
        · exact hm a (List.takeWhile_subset _ ha)
        · exact hl a (List.mem_cons_self ..)
        · exact hm a (List.dropWhile_subset _ ha)
  refine placed _ _ (fun a ha => ?_) fun a ha => h a (List.mem_filter.mp ha).1
  obtain ⟨j, -, hj⟩ := List.mem_filterMap.mp ha
  split at hj
  · cases hj
  · split at hj
    · rw [← Option.some.inj hj]
    · cases hj

theorem lost_cases {a : Action} {gone past made : List Action} {n : Nat} (h : a ∈ gone ++ past ++ (if 16 ≤ n then made else [])) :
    a ∈ gone ∨ a ∈ past ∨ 16 ≤ n ∧ a ∈ made := by
  obtain h | h := List.mem_append.mp h
  · exact (List.mem_append.mp h).imp_right .inl
  · split at h
    next hn => exact .inr (.inr ⟨hn, h⟩)
    next => cases h

section
variable {g : Passage} {s : State} {q : Part} {ref : Option Nat}
variable (href : ref = if g.detector == 7 then none else some g.serial)
variable (hq : q.sequencer = s.part.sequencer) (hdoors : q.doors = s.part.doors) (hclock : q.clock = s.part.clock)
include href hq hdoors hclock

theorem passageChecked_actions : (passageChecked g (passageMade g q)).sequencer.actions =
    actionsAfter s.part g.detector g.cabin g.serial ref := by
  have made := passageMade_actions href hq hdoors hclock
  obtain ⟨checked, -, -⟩ := passageChecked_sequencer g (passageMade g q)
  generalize passageMade g q = r at made checked ⊢
  rw [checked]
  exact made

/-- Where no action is due, the Door Sequencer's work ends with the lock check. -/
theorem sequencerPassage_undue (hdue : NoneDueAt g.detector g.cabin g.serial ref s.part) :
    sequencerPassage g q = passageChecked g (passageMade g q) := by
  obtain ⟨⟨-, hwaitless⟩, hdue⟩ := hdue
  have hnow : (passageChecked g (passageMade g q)).clock = s.part.clock := by
    obtain ⟨-, made, -⟩ := passageMade_program (g := g) (p := q) ⟨rfl, rfl, rfl⟩
    obtain ⟨-, -, checked⟩ := passageChecked_sequencer g (passageMade g q)
    rw [checked, made, hclock]
  rw [sequencerPassage_eq]
  refine judgeSequencer_none fun a ha => ?_
  rw [passageChecked_actions href hq hdoors hclock] at ha
  rw [takenUp, actionsAfter_waitless hwaitless a ha, hnow, hdue a ha]
  rfl

theorem sequencerPassage_doors (hdue : NoneDueAt g.detector g.cabin g.serial ref s.part) : (sequencerPassage g q).doors = s.part.doors := by
  obtain ⟨made, -, -⟩ := passageMade_program (g := g) (p := q) ⟨rfl, rfl, rfl⟩
  obtain ⟨-, checked, -⟩ := passageChecked_sequencer g (passageMade g q)
  rw [sequencerPassage_undue href hq hdoors hclock hdue, checked, made, hdoors]

/-- Then no door and no action waits. -/
theorem sequencerPassage_nothingWaits (hdue : NoneDueAt g.detector g.cabin g.serial ref s.part) {r : Part}
    (hr : ActionsStand (sequencerPassage g q) r) : NothingWaits r := by
  have hactions : r.sequencer.actions = actionsAfter s.part g.detector g.cabin g.serial ref := by
    rw [hr.sequencer, sequencerPassage_undue href hq hdoors hclock hdue, passageChecked_actions href hq hdoors hclock]
  refine ⟨?_, fun a ha => actionsAfter_waitless hdue.1.2 a (hactions ▸ ha)⟩
  rw [hr.doors, sequencerPassage_doors href hq hdoors hclock hdue]
  exact hdue.1.1

/-- The Door Sequencer's work on a passage, as the end of the event leaves it. -/
theorem sequencerPassage_actionsMade {r : Part} {t : State} (hr : ActionsStand (sequencerPassage g q) r) (ht : t.part = finish r) :
    ActionsMade g.detector g.cabin g.serial ref s t := by
  have hmade : t.part.sequencer.made = (passageMade g q).sequencer.made := by
    obtain ⟨checked, -, -⟩ := passageChecked_sequencer g (passageMade g q)
    rw [ht, finish_sequencer, settle_made, hr.sequencer, sequencerPassage_eq, (judgeSequencer_kept ..).2.1, checked]
  refine ⟨fun j => by rw [hmade]; exact passageMade_made hq hdoors hclock j, fun hdue => ?_⟩
  have hwaits := sequencerPassage_nothingWaits href hq hdoors hclock hdue hr
  obtain ⟨hseq, hcabins, hbits⟩ : t.part.sequencer = r.sequencer ∧ t.part.cabins = r.cabins ∧ BitsStay r.window t.part.window := by
    obtain ⟨-, hbits, -, -, hcabins, -, -, -, -, hsequencer, -⟩ := (settle_calm hwaits).1
    rw [ht]
    exact ⟨(finish_sequencer r).trans hsequencer, (finish_cabins r).trans hcabins, BitsStay.trans hbits (.of_eq (by rw [finish_window]))⟩
  have hundue := sequencerPassage_undue href hq hdoors hclock hdue
  obtain ⟨checked, -, -⟩ := passageChecked_sequencer g (passageMade g q)
  obtain ⟨checkedBits, checkedDoors⟩ := passageChecked_bits g (passageMade g q)
  have hstate : t.part.sequencer = { (passageMade g q).sequencer with unlocked := t.part.sequencer.unlocked } := by
    rw [hseq, hr.sequencer, hundue, checked]
  have hwindow : BitsStay (passageMade g q).window t.part.window := by
    refine checkedBits.trans (BitsStay.trans ?_ hbits)
    rw [← hundue]
    exact hr.bits
  have hdoor (k : Nat) (hk : isCabin k = true) (h4 : g.detector = 4 → k ≠ g.cabin) (h : (cabin (passageMade g q) k).door = .unknown) :
      (cabin t.part k).door = .unknown := by
    rw [cabin_of_cabins_eq (hcabins.trans (hr.cabins.trans (congrArg Part.cabins hundue)))]
    exact checkedDoors k hk h4 h
  have actions := passageMade_actions href hq hdoors hclock
  obtain ⟨room, full⟩ := passageMade_counts href hq hdoors hclock
  have flights := passageMade_flights (g := g) hq hdoors
  have lates := passageMade_lates (g := g) hq hdoors
  have lost := fun a => passageMade_lost (a := a) href hq hdoors hclock
  have late := fun n f => passageMade_late (g := g) (n := n) (f := f) hq hdoors
  clear hmade checkedBits checkedDoors checked hundue hseq
  generalize passageMade g q = m at *
  refine ⟨?_, ?_, ?_, fun n => ?_, ?_, ?_, fun a ha hcabin hk h4 => ?_, fun n f hf hlate hk h4 => ?_⟩
  · rw [hstate]; exact actions
  · rw [hstate]; exact room
  · rw [hstate]; exact full
  · rw [hstate]; exact flights n
  · rw [hstate]; exact lates
  · rintro (hlost | ⟨n, hn⟩)
    · obtain ⟨a, ha⟩ := List.exists_mem_of_ne_nil _ hlost
      exact hwindow 5 (lost a (lost_cases ha)).1
    · obtain ⟨f, hf, hlate⟩ := (Option.any_eq_true _ _).mp hn
      exact hwindow 5 (late n f hf hlate).1
  · exact hdoor _ hk h4 ((lost a (lost_cases ha)).2 hcabin hk)
  · have hlate : (s.part.sequencer.flights.get n).any (lateAt s.part g.detector g.serial n) = true := hlate
    rw [Option.mem_def.mp hf] at hlate
    exact hdoor _ hk h4 ((late n f hf hlate).2 hk)

end

end Sys2Proof.Machine

/-! What later work of an event leaves of a cause, of a mode that has stopped, of the HOLD cap and of the launch gap. -/

namespace Sys2Proof.Machine

/-! ### Conditions stay -/

section
variable {k : CauseKind} {n : Nat} {u : Supervisor}

theorem placePresent_keeps (l : CauseKind) (m : Nat) (c : Category) (now : Time) (listed : Bool) {t : List PresentCause}
    (h : t.any (fun c => c.names k n) = true) : (placePresent l m c now listed t).any (fun c => c.names k n) = true := by
  obtain ⟨x, hx, hnames⟩ := List.any_eq_true.mp h
  unfold placePresent
  split
  · refine List.any_eq_true.mpr ⟨_, List.mem_map_of_mem hx, ?_⟩
    split
    · exact hnames
    · exact hnames
  · exact List.any_eq_true.mpr ⟨x, List.mem_append_left _ hx, hnames⟩

theorem enterCause_keeps_present (l : CauseKind) (m : Nat) (c : Category) (b : Bool) (now : Time) (h : ConditionPresent k n u) :
    ConditionPresent k n (enterCause l m c b now u) := by
  have placed (listed : Bool) :
      (if b then placePresent l m c now listed u.present else u.present).any (fun c => c.names k n) = true := by
    split
    · exact placePresent_keeps l m c now listed h
    · exact h
  unfold enterCause
  split
  · exact placed true
  · split
    · exact placed true
    · exact placed false

theorem report_keeps_present (l : CauseKind) (m : Nat) (c : Category) (b : Bool) {p : Part} (h : ConditionPresent k n p.sup) :
    ConditionPresent k n (report l m c b p).sup := by
  rw [report_eq]
  exact (changeMode_kept_causes _ _).present (enterCause_keeps_present l m c b p.clock.now h)

theorem gone_keeps_present {l : CauseKind} (hl : l ≠ k) (m : Nat) {p : Part} (h : ConditionPresent k n p.sup) :
    ConditionPresent k n (gone l m p).sup := by
  rw [ConditionPresent, gone_sup_present, List.any_filter]
  obtain ⟨x, hx, hnames⟩ := List.any_eq_true.mp h
  refine List.any_eq_true.mpr ⟨x, hx, ?_⟩
  have hkind : x.kind = k := by
    rw [PresentCause.names, Bool.and_eq_true] at hnames
    simpa using hnames.1
  rw [hnames]
  simp [PresentCause.names, hkind, hl.symm]

end

/-! ### What is remembered -/

/-- Attention bits, entered causes and the condition of a full queue stay, a mode that does not run stays so, and the launch gap's
accumulator is the same. -/
structure Remembers (p q : Part) : Prop where
  bits : BitsStay p.window q.window
  entered : ∀ {k n}, CauseEntered k n p.sup → CauseEntered k n q.sup
  overflow : ConditionPresent .trackOverflow 1 p.sup → ConditionPresent .trackOverflow 1 q.sup
  stopped : p.sup.mode.isRunning = false → q.sup.mode.isRunning = false
  gap : q.rope.gapAcc = p.rope.gapAcc

namespace Remembers
variable {p q r : Part}

theorem refl (p : Part) : Remembers p p := ⟨fun _ h => h, fun h => h, fun h => h, fun h => h, rfl⟩

theorem trans (h : Remembers p q) (g : Remembers q r) : Remembers p r :=
  ⟨h.bits.trans g.bits, fun e => g.entered (h.entered e), fun e => g.overflow (h.overflow e), fun e => g.stopped (h.stopped e),
    g.gap.trans h.gap⟩

theorem of_eq (hsup : q.sup = p.sup) (hrope : q.rope = p.rope) (hbits : BitsStay p.window q.window) : Remembers p q :=
  ⟨hbits, fun h => by rw [hsup]; exact h, fun h => by rw [hsup]; exact h, fun h => by rw [hsup]; exact h, by rw [hrope]⟩

/-- A change of the caps, and of what follows from it. -/
theorem of_kept (hcauses : q.sup.causes = p.sup.causes) (hpresent : q.sup.present = p.sup.present)
    (hoverflow : q.sup.overflow = p.sup.overflow) (hmode : q.sup.mode = p.sup.mode) (hgap : q.rope.gapAcc = p.rope.gapAcc)
    (hbits : BitsStay p.window q.window) : Remembers p q := by
  refine ⟨hbits, fun h => ?_, fun h => ?_, fun h => by rw [hmode]; exact h, hgap⟩
  · rw [CauseEntered, hcauses, hoverflow]; exact h
  · rw [ConditionPresent, hpresent]; exact h

theorem foldl {α : Type} {f : Part → α → Part} (h : ∀ p a, Remembers p (f p a)) (l : List α) (p : Part) : Remembers p (l.foldl f p) := by
  induction l generalizing p with
  | nil => exact refl p
  | cons a l ih => exact (h p a).trans (ih _)

end Remembers

theorem report_remembers (k : CauseKind) (n : Nat) (c : Category) (b : Bool) (p : Part) : Remembers p (report k n c b p) where
  bits := report_bitsStay k n c b p
  entered h := report_keeps_entered k n c b h
  overflow h := report_keeps_present k n c b h
  stopped _ := report_not_running k n c b p
  gap := by rw [report_rope]

theorem gone_remembers {k : CauseKind} (hk : k ≠ .trackOverflow) (n : Nat) (p : Part) : Remembers p (gone k n p) where
  bits := (gone_undisturbed k n p).2.2.2.2
  entered h := gone_keeps_entered k n h
  overflow h := gone_keeps_present hk n h
  stopped h := by rw [gone_sup]; exact h
  gap := by simp

theorem setCaps_remembers (c : Caps) (p : Part) : Remembers p (setCaps c p) := by
  have hgap : (setCaps c p).rope.gapAcc = p.rope.gapAcc := by
    unfold setCaps
    split
    · rfl
    · rw [(composeCeiling_rope _).1]; rfl
  have hsup := setCaps_sup c p
  split at hsup
  · exact .of_kept (by rw [hsup]) (by rw [hsup]) (by rw [hsup]) (by rw [hsup]) hgap (setCaps_undisturbed c p).2.2.2.2
  · exact .of_kept (by rw [hsup]) (by rw [hsup]) (by rw [hsup]) (by rw [hsup]) hgap (setCaps_undisturbed c p).2.2.2.2

theorem Works.remembers {p q : Part} (h : Works p q) : Remembers p q :=
  h.relates (S := Remembers) (fun _ _ h => .of_eq h.sup h.rope h.bits) report_remembers (fun n p => gone_remembers (by decide) n p)
    (fun c p _ => setCaps_remembers c p) (fun h g => h.trans g)

/-- The HOLD cap through work that tells the Supervisor. -/
theorem Works.hold {p q : Part} (h : Works p q) : q.sup.caps.hold = p.sup.caps.hold :=
  h.relates (S := fun p q => q.sup.caps.hold = p.sup.caps.hold) (fun _ _ h => by rw [h.sup]) (fun k n c b p => by rw [report_caps])
    (fun n p => by rw [gone_sup]) (fun c p h => by rw [setCaps_caps, h]) (fun h g => g.trans h)

/-- The judgements of an event. -/
theorem settle_remembers (p : Part) : Remembers p (settle 64 p) := (works_settle p).remembers

theorem finish_remembers (p : Part) : Remembers p (finish p) := by
  have settled := settle_remembers p
  refine settled.trans (.of_kept ?_ ?_ ?_ ?_ ?_ (.of_eq ?_)) <;> simp

end Sys2Proof.Machine

/-! Arrivals at the station (R14, R15). -/

namespace Sys2Proof.Machine

/-! ### What the end of an event and the Door Sequencer's work leave of the lists -/

/-- The lists, but for held lock results, the records but for their door states, the line, the messages, the sensors, the grip test and the clock. -/
structure ListsStand (p q : Part) : Prop where
  queue : q.track.queue.map QueueEntry.listing = p.track.queue.map QueueEntry.listing
  roster : q.track.roster = p.track.roster
  matcher : q.track.matcher = p.track.matcher
  detectors : q.track.detectors = p.track.detectors
  holdOverflow : q.track.holdOverflow = p.track.holdOverflow
  trackOverflow : q.track.trackOverflow = p.track.trackOverflow
  record : ∀ k, cabin q k = { cabin p k with door := (cabin q k).door }
  line : q.line = p.line
  messages : q.messages = p.messages
  sensors : q.sensors = p.sensors
  grip : q.grip = p.grip
  clock : q.clock = p.clock

namespace ListsStand

theorem trans {p q r : Part} (h : ListsStand p q) (g : ListsStand q r) : ListsStand p r where
  queue := g.queue.trans h.queue
  roster := g.roster.trans h.roster
  matcher := g.matcher.trans h.matcher
  detectors := g.detectors.trans h.detectors
  holdOverflow := g.holdOverflow.trans h.holdOverflow
  trackOverflow := g.trackOverflow.trans h.trackOverflow
  record k := by rw [g.record k, h.record k]
  line := g.line.trans h.line
  messages := g.messages.trans h.messages
  sensors := g.sensors.trans h.sensors
  grip := g.grip.trans h.grip
  clock := g.clock.trans h.clock

theorem refl (p : Part) : ListsStand p p := ⟨rfl, rfl, rfl, rfl, rfl, rfl, fun _ => rfl, rfl, rfl, rfl, rfl, rfl⟩

/-- What the queue shows of its entries. -/
theorem shown {p q : Part} (h : ListsStand p q) : q.track.queue.map shownEntry = p.track.queue.map shownEntry := by
  have hmap := congrArg (List.map (fun x : Nat × Nat × Nat × Time => (x.2.1, x.2.2.1, x.2.2.2))) h.queue
  simpa [List.map_map, Function.comp_def, QueueEntry.listing] using hmap

theorem places {p q : Part} (h : ListsStand p q) (j : Fin 128) : (q.cabins.get j).place = (p.cabins.get j).place := by
  have hj := congrArg CabinRecord.place (h.record (j.val + 1))
  simpa [cabin, show j.val + 1 ≤ 128 by omega] using hj

theorem segment {p q : Part} (h : ListsStand p q) (n : Nat) : segmentCount q n = segmentCount p n := by
  have counted (l : List QueueEntry) : l.countP (fun e => e.segment == n) =
      (l.map QueueEntry.listing).countP (fun x => x.2.2.1 == n) := by
    rw [List.countP_map]; rfl
  rw [segmentCount, counted, h.queue, ← counted, segmentCount]

theorem passage {p q : Part} (h : ListsStand p q) (k : Nat) : passageAt k q = passageAt k p := by
  simp only [passageAt, h.detectors]

end ListsStand

theorem record_of_still {p q : Part} (h : q.still = p.still) (k : Nat) : cabin q k = { cabin p k with door := (cabin q k).door } := by
  unfold cabin
  split
  · exact still_cabins h _
  · rfl

/-- The end of an event leaves them. -/
theorem finish_lists (p : Part) : ListsStand p (finish p) := by
  have still := still_finish p
  obtain ⟨hclock, htrack, hsensors, hgrip, hline, hmessages, -⟩ := still_fields still
  exact ⟨by rw [htrack], by rw [htrack], by rw [htrack], by rw [htrack], by rw [htrack], by rw [htrack], record_of_still still, hline,
    hmessages, hsensors, hgrip, hclock⟩

theorem lateOn_still (which : ChannelNo → Flight → Bool) (b : Bool) (p : Part) (n : ChannelNo) : (lateOn which b p n).still = p.still := by
  simp only [lateOn, makeLate, loseDoor]
  (repeat' split) <;> simp

theorem triggerEntry_still (g : Passage) (p : Part) (i : Fin 24) : (triggerEntry g p i).still = p.still := by
  simp only [triggerEntry, makeAction, dropFull, countRemoval, loseDoor]
  (repeat' split) <;> simp

theorem passageMade_still (g : Passage) (p : Part) : (passageMade g p).still = p.still := by
  have cleared : (passageCleared g p).still = p.still := by
    unfold passageCleared judgeLate
    exact List.foldlRecOn (motive := fun r : Part => r.still = p.still) _ _ (removeActions_still ..)
      fun r hr n _ => (lateOn_still _ _ r n).trans hr
  unfold passageMade
  exact List.foldlRecOn (motive := fun r : Part => r.still = p.still) _ _ cleared fun r hr i _ => (triggerEntry_still g r i).trans hr

theorem passageChecked_record (g : Passage) (p : Part) (k : Nat) :
    cabin (passageChecked g p) k = { cabin p k with door := (cabin (passageChecked g p) k).door } := by
  have hcabins : (passageChecked g p).cabins = (if g.detector == 4 then lockCheck g p else p).cabins := by
    unfold passageChecked
    dsimp only
    split
    · simp
    · rfl
  rw [cabin_of_cabins_eq hcabins]
  unfold lockCheck
  have shown (d : CabinDoor) : cabin (setDoor g.cabin d p) k = { cabin p k with door := (cabin (setDoor g.cabin d p) k).door } :=
    record_of_still (still_setDoor ..) k
  (repeat' split)
  · exact shown _
  · rw [cabin_of_cabins_eq (show (reportUnlocked g.cabin true (setDoor g.cabin .notLocked p)).cabins = (setDoor g.cabin .notLocked p).cabins by simp)]
    exact shown _
  · rw [cabin_of_cabins_eq (show (modEntry g.serial (fun e => { e with heldLock := some g.lockSensed }) p).cabins = p.cabins by simp)]
  · rfl

theorem sequencerPassage_record (g : Passage) (p : Part) (k : Nat) :
    cabin (sequencerPassage g p) k = { cabin p k with door := (cabin (sequencerPassage g p) k).door } := by
  rw [sequencerPassage_eq, record_of_still (still_judgeSequencer true (passageChecked g (passageMade g p))) k, passageChecked_record,
    record_of_still (passageMade_still g p)]

/-- The Door Sequencer's work on a passage leaves them. -/
theorem sequencerPassage_lists (g : Passage) (p : Part) : ListsStand p (sequencerPassage g p) := by
  obtain ⟨hclock, -, hqueue, hroster, hmatcher, hdetectors, -, hhold, htrack, hsensors, hgrip, -, hline, hmessages, -⟩ :=
    sequencerPassage_kept g p
  exact ⟨hqueue, hroster, hmatcher, hdetectors, hhold, htrack, sequencerPassage_record g p, hline, hmessages, hsensors, hgrip, hclock⟩

theorem actionKeeps_remembers {p q : Part} (h : ActionKeeps p q) (hbits : BitsStay p.window q.window) : Remembers p q := by
  obtain ⟨-, -, hsup, hrope, -⟩ := h
  exact .of_eq hsup hrope hbits

theorem reportUnlocked_remembers (k : Nat) (b : Bool) (p : Part) : Remembers p (reportUnlocked k b p) := by
  unfold reportUnlocked
  dsimp only
  refine Remembers.trans (q := attend .door p) (.of_eq rfl rfl (attend_bitsStay .door p)) (Remembers.trans ?_ (report_remembers ..))
  split
  · exact .of_eq rfl rfl (.of_eq rfl)
  · exact .refl _

theorem lockCheck_remembers (g : Passage) (p : Part) : Remembers p (lockCheck g p) := by
  have shown (d : CabinDoor) : Remembers p (setDoor g.cabin d p) := .of_eq (by simp) (by simp) (.of_eq (by simp))
  unfold lockCheck
  dsimp only
  split
  · split
    · exact shown _
    · exact (shown _).trans (reportUnlocked_remembers ..)
  · exact .of_eq (by simp) (by simp) (.of_eq (by simp))

theorem endUnlocked_remembers (k : Nat) (p : Part) : Remembers p (endUnlocked k p) := by
  unfold endUnlocked
  split
  · exact Remembers.trans (q := modSeq _ p) (.of_eq rfl rfl (.of_eq rfl)) (gone_remembers (k := .cabinDoorUnlocked) (by decide) ..)
  · exact .refl p

theorem passageChecked_remembers (g : Passage) (p : Part) : Remembers p (passageChecked g p) := by
  have locked : Remembers p (if g.detector == 4 then lockCheck g p else p) := by
    split
    · exact lockCheck_remembers g p
    · exact .refl p
  unfold passageChecked
  generalize (if g.detector == 4 then lockCheck g p else p) = q at locked ⊢
  refine locked.trans ?_
  dsimp only
  split
  · exact endUnlocked_remembers ..
  · exact .refl _

theorem passageMade_remembers (g : Passage) (p : Part) : Remembers p (passageMade g p) := by
  have cleared : ActionKeeps p (passageCleared g p) := by
    unfold passageCleared
    exact (removeActions_kept ..).trans (judgeLate_kept ..)
  have made : ActionKeeps (passageCleared g p) (passageMade g p) := by
    unfold passageMade
    exact triggered_kept g _
  exact actionKeeps_remembers (cleared.trans made) ((passageCleared_loses p).trans (passageMade_loses p)).bits

theorem sequencerPassage_remembers (g : Passage) (p : Part) : Remembers p (sequencerPassage g p) := by
  rw [sequencerPassage_eq]
  exact ((passageMade_remembers g p).trans (passageChecked_remembers ..)).trans (stirs_judgeSequencer ..).works.remembers

end Sys2Proof.Machine

/-! An arrival at a station queue with room, and at a full one (R14, R15). -/

namespace Sys2Proof.Machine

/-! ### The cabin identified (R14) -/

section
variable {rep : Option Nat} {p q : Part} {passed : Time}

theorem identified_eq (rep : Option Nat) (p : Part) : identified p rep = match rep with
    | some n => if n ∈ rosterNumbers p then some n else none
    | none => (rosterNumbers p).head? := by
  cases rep with
  | none => rw [identified, rosterNumbers, List.head?_map]
  | some n => simp only [identified, mem_rosterNumbers]

theorem outOfTurn_of (h : identified p rep = none ∨ (rep ≠ none ∧ (rosterNumbers p).head? ≠ identified p rep)) :
    outOfTurn p rep = true := by
  rw [identified_eq] at h
  unfold outOfTurn
  unfold rosterNumbers at h
  cases rep with
  | none =>
    cases hroster : p.track.roster with
    | nil => rfl
    | cons e l => simp [hroster] at h
  | some n =>
    cases hroster : p.track.roster with
    | nil => rfl
    | cons e l =>
      simp only [hroster, List.map_cons, List.head?_cons, List.mem_cons] at h
      simp only [bne_iff_ne, ne_eq]
      rintro rfl
      simp at h

/-! ### The stages of an arrival with room -/

/-- The roster without the cabin identified. -/
def rosterLeft (who : Option Nat) (p : Part) : Part :=
  match who with
  | none => p
  | some n => leaveRoster n p

/-- The new entry stands at the tail of the queue. -/
def arrivalJoined (rep : Option Nat) (passed : Time) (p : Part) : Part :=
  appendArrival ((identified p rep).getD 0) passed (rosterLeft (identified p rep) p)

/-- An arrival of the roster's head without a report is announced. -/
def arrivalMarked (rep : Option Nat) (p q : Part) : Part := if rep == none && identified p rep != none then attend .track q else q

/-- The arrival is announced, and reported where it is out of turn. -/
def arrivalTold (rep : Option Nat) (p q : Part) : Part :=
  if outOfTurn p rep then reportTrack .sequenceFault 1 .service false (arrivalMarked rep p q) else arrivalMarked rep p q

/-- The passage as the Door Sequencer is handed it. -/
def arrivalPassage (rep : Option Nat) (p : Part) : Passage :=
  { detector := 1, cabin := (identified p rep).getD 0, serial := p.track.nextSerial }

theorem rosterLeft_track (who : Option Nat) (p : Part) : (rosterLeft who p).track = { p.track with roster := (rosterLeft who p).track.roster } := by
  cases who <;> rfl

theorem decideArrival_room (h : p.track.queue.length < 15) :
    decideArrival rep passed p = sequencerPassage (arrivalPassage rep p) (arrivalTold rep p (arrivalJoined rep passed p)) := by
  have hserial : (rosterLeft (identified p rep) p).track.nextSerial = p.track.nextSerial := by rw [rosterLeft_track]
  refine (if_neg (Nat.not_le.mpr h)).trans ?_
  unfold arrivalPassage
  rw [← hserial]
  rfl

theorem decideArrival_full (h : 15 ≤ p.track.queue.length) : decideArrival rep passed p = refuseArrival rep p := if_pos h

/-! ### The new entry and the roster -/

/-- All but the lists, the records and the judgements called for. -/
structure OutsideLists (p q : Part) : Prop where
  window : q.window = p.window
  clock : q.clock = p.clock
  rope : q.rope = p.rope
  sensors : q.sensors = p.sensors
  grip : q.grip = p.grip
  launch : q.launch = p.launch
  doors : q.doors = p.doors
  sequencer : q.sequencer = p.sequencer
  sup : q.sup = p.sup
  line : q.line = p.line
  messages : q.messages = p.messages
  matcher : q.track.matcher = p.track.matcher
  detectors : q.track.detectors = p.track.detectors
  holdOverflow : q.track.holdOverflow = p.track.holdOverflow
  trackOverflow : q.track.trackOverflow = p.track.trackOverflow

theorem OutsideLists.remembers (h : OutsideLists p q) : Remembers p q := .of_eq h.sup h.rope (.of_eq (by rw [h.window]))

theorem OutsideLists.trans {r : Part} (h : OutsideLists p q) (g : OutsideLists q r) : OutsideLists p r where
  window := g.window.trans h.window
  clock := g.clock.trans h.clock
  rope := g.rope.trans h.rope
  sensors := g.sensors.trans h.sensors
  grip := g.grip.trans h.grip
  launch := g.launch.trans h.launch
  doors := g.doors.trans h.doors
  sequencer := g.sequencer.trans h.sequencer
  sup := g.sup.trans h.sup
  line := g.line.trans h.line
  messages := g.messages.trans h.messages
  matcher := g.matcher.trans h.matcher
  detectors := g.detectors.trans h.detectors
  holdOverflow := g.holdOverflow.trans h.holdOverflow
  trackOverflow := g.trackOverflow.trans h.trackOverflow

theorem rosterLeft_outside (who : Option Nat) (p : Part) : OutsideLists p (rosterLeft who p) := by
  cases who <;> exact ⟨rfl, rfl, rfl, rfl, rfl, rfl, rfl, rfl, rfl, rfl, rfl, rfl, rfl, rfl, rfl⟩

theorem rosterNumbers_rosterLeft (who : Option Nat) (p : Part) : rosterNumbers (rosterLeft who p) =
    match who with
    | none => rosterNumbers p
    | some n => (rosterNumbers p).filter (fun k => k != n) := by
  cases who with
  | none => rfl
  | some n => exact rosterNumbers_leaveRoster n p

theorem appendArrival_outside (k : Nat) (t : Time) (p : Part) : OutsideLists p (appendArrival k t p) := by
  constructor <;> simp [appendArrival]

theorem appendArrival_queue (k : Nat) (t : Time) (p : Part) : (appendArrival k t p).track.queue =
    p.track.queue ++ [{ serial := p.track.nextSerial, cabin := k, segment := 1, entered := t }] := by
  simp [appendArrival]

theorem arrivalJoined_outside : OutsideLists p (arrivalJoined rep passed p) :=
  (rosterLeft_outside ..).trans (appendArrival_outside ..)

theorem arrivalJoined_queue : (arrivalJoined rep passed p).track.queue =
    p.track.queue ++ [{ serial := p.track.nextSerial, cabin := (identified p rep).getD 0, segment := 1, entered := passed }] := by
  rw [arrivalJoined, appendArrival_queue, rosterLeft_track]

theorem arrivalJoined_roster : rosterNumbers (arrivalJoined rep passed p) =
    match identified p rep with
    | none => rosterNumbers p
    | some n => (rosterNumbers p).filter (fun k => k != n) := by
  rw [arrivalJoined, rosterNumbers_appendArrival, rosterNumbers_rosterLeft]

theorem arrivalJoined_place (k : Nat) : (cabin (arrivalJoined rep passed p) k).place =
    if identified p rep = some k ∧ isCabin k = true then .inStation else (cabin p k).place := by
  have hleft : cabin (rosterLeft (identified p rep) p) k = cabin p k := by cases identified p rep <;> rfl
  rw [arrivalJoined, cabin_appendArrival, hleft]
  cases hwho : identified p rep with
  | none => grind [isCabin]
  | some n => grind

/-! ### The report of an arrival out of turn -/

theorem reportTrack_lists (k : CauseKind) (n : Nat) (c : Category) (b : Bool) (p : Part) : ListsStand p (reportTrack k n c b p) := by
  obtain ⟨hclock, htrack, hcabins, hsensors, hgrip, -, -, -, hline, hmessages, -⟩ := reportTrack_kept k n c b p
  exact ⟨by rw [htrack], by rw [htrack], by rw [htrack], by rw [htrack], by rw [htrack], by rw [htrack],
    fun j => by rw [cabin_of_cabins_eq hcabins], hline, hmessages, hsensors, hgrip, hclock⟩

theorem reportTrack_remembers (k : CauseKind) (n : Nat) (c : Category) (b : Bool) (p : Part) : Remembers p (reportTrack k n c b p) :=
  Remembers.trans (q := attend .track p) (.of_eq rfl rfl (attend_bitsStay .track p)) (report_remembers ..)

theorem reportTrack_told (k : CauseKind) (n : Nat) (c : Category) (b : Bool) (p : Part) :
    CauseEntered k n (reportTrack k n c b p).sup ∧ (reportTrack k n c b p).sup.mode.isRunning = false ∧
      (reportTrack k n c b p).window.attention.getLsbD 4 = true :=
  ⟨report_entered .., report_not_running .., report_bitsStay _ _ _ _ _ 4 (by simp [Attn.bit])⟩

theorem attend_lists (a : Attn) (p : Part) : ListsStand p (attend a p) :=
  ⟨rfl, rfl, rfl, rfl, rfl, rfl, fun _ => rfl, rfl, rfl, rfl, rfl, rfl⟩

theorem arrivalTold_lists : ListsStand q (arrivalTold rep p q) := by
  have marked : ListsStand q (arrivalMarked rep p q) := by
    unfold arrivalMarked
    split
    · exact attend_lists ..
    · exact .refl q
  unfold arrivalTold
  split
  · exact marked.trans (reportTrack_lists ..)
  · exact marked

theorem arrivalMarked_remembers : Remembers q (arrivalMarked rep p q) := by
  unfold arrivalMarked
  split
  · exact .of_eq rfl rfl (attend_bitsStay .track q)
  · exact .refl q

/-- What is reported of an arrival adds to what stands. -/
theorem arrivalTold_marked : Remembers (arrivalMarked rep p q) (arrivalTold rep p q) := by
  unfold arrivalTold
  split
  · exact reportTrack_remembers ..
  · exact .refl _

theorem arrivalTold_doors : (arrivalTold rep p q).doors = q.doors ∧ (arrivalTold rep p q).sequencer = q.sequencer := by
  simp only [arrivalTold, arrivalMarked]
  (repeat' split) <;> simp

theorem arrivalTold_positional (hrep : rep = none) (hwho : identified p rep ≠ none) :
    (arrivalTold rep p q).window.attention.getLsbD 4 = true := by
  refine arrivalTold_marked.bits 4 ?_
  rw [arrivalMarked, if_pos (by simpa [hrep] using hwho)]
  simp [attend, Attn.bit]

theorem arrivalTold_fault (h : outOfTurn p rep = true) :
    CauseEntered .sequenceFault 1 (arrivalTold rep p q).sup ∧ (arrivalTold rep p q).sup.mode.isRunning = false := by
  rw [arrivalTold, if_pos h]
  obtain ⟨entered, stopped, -⟩ := reportTrack_told .sequenceFault 1 .service false (arrivalMarked rep p q)
  exact ⟨entered, stopped⟩

end

end Sys2Proof.Machine

/-! TAG_REPORT, D1_PASSAGE and the waits of the tag matcher (R10 to R15). -/

namespace Sys2Proof.Machine

/-! ### What the command makes of the matcher -/

/-- The part to which an arrival comes: the passage may be taken and the matcher set. -/
structure ArrivalStart (p q : Part) : Prop where
  part : q = { p with track := { p.track with matcher := q.track.matcher, detectors := q.track.detectors } }

theorem setMatcher_same {m : TagMatcher} {p : Part} (h : p.track.matcher = m) : setMatcher m p = p := by
  subst h; rfl

/-- The cabin that a full queue turns away has left the roster. -/
def arrivalTurned (rep : Option Nat) (p : Part) : Part :=
  match identified p rep with
  | none => p
  | some n => setPlace n .unknown (leaveRoster n p)

theorem refuseArrival_eq (rep : Option Nat) (p : Part) : refuseArrival rep p =
    reportTrack .trackOverflow 1 .fast true (modTrack (fun t => { t with trackOverflow := true }) (arrivalTurned rep p)) := rfl

theorem arrivalTurned_outside (rep : Option Nat) (p : Part) : OutsideLists p (arrivalTurned rep p) := by
  unfold arrivalTurned
  split
  · exact ⟨rfl, rfl, rfl, rfl, rfl, rfl, rfl, rfl, rfl, rfl, rfl, rfl, rfl, rfl, rfl⟩
  next n _ => constructor <;> simp [leaveRoster, setRoster]

theorem arrivalTurned_lists (rep : Option Nat) (p : Part) : (arrivalTurned rep p).track.queue = p.track.queue ∧
    rosterNumbers (arrivalTurned rep p) = (match identified p rep with
      | none => rosterNumbers p
      | some n => (rosterNumbers p).filter (fun k => k != n)) ∧
    ∀ k, (cabin (arrivalTurned rep p) k).place = if identified p rep = some k ∧ isCabin k = true then .unknown else (cabin p k).place := by
  unfold arrivalTurned
  cases hwho : identified p rep with
  | none => exact ⟨rfl, rfl, fun k => by simp⟩
  | some n =>
    refine ⟨by simp [leaveRoster, setRoster], by rw [rosterNumbers_setPlace, rosterNumbers_leaveRoster], fun k => ?_⟩
    have hleft : cabin (leaveRoster n p) k = cabin p k := rfl
    rw [cabin_setPlace, hleft]
    grind

theorem decideArrival_lists (rep : Option Nat) (passed : Time) (p : Part) :
    (decideArrival rep passed p).track.matcher = p.track.matcher ∧ (decideArrival rep passed p).track.detectors = p.track.detectors := by
  by_cases hroom : p.track.queue.length < 15
  · rw [decideArrival_room hroom]
    have stands := (arrivalTold_lists (rep := rep) (p := p) (q := arrivalJoined rep passed p)).trans (sequencerPassage_lists (arrivalPassage rep p) _)
    have outside := arrivalJoined_outside (rep := rep) (p := p) (passed := passed)
    exact ⟨stands.matcher.trans outside.matcher, stands.detectors.trans outside.detectors⟩
  · rw [decideArrival_full (Nat.not_lt.mp hroom), refuseArrival_eq]
    have outside := arrivalTurned_outside rep p
    exact ⟨(reportTrack_lists ..).matcher.trans outside.matcher, (reportTrack_lists ..).detectors.trans outside.detectors⟩

theorem passageAt_clearPassage {k : Nat} (hk : 1 ≤ k ∧ k ≤ 7) (p : Part) : passageAt k (clearPassage k p) = none := by
  rw [passageAt, dif_pos hk, clearPassage, dif_pos hk]
  simp [modTrack]

theorem clearPassage_start (k : Nat) (p : Part) (m : TagMatcher) :
    ArrivalStart p (setMatcher m (clearPassage k p)) ∧ ArrivalStart p (clearPassage k p) := by
  unfold clearPassage
  split <;> exact ⟨⟨rfl⟩, ⟨rfl⟩⟩

theorem withPassage_some {k : Nat} {p : Part} {n : PassageNote} (h : passageAt k p = some n) (f : PassageNote → Part → Part) :
    withPassage k f p = f n (clearPassage k p) := by rw [withPassage, h]

theorem clearPassage_matcher (k : Nat) (p : Part) : (clearPassage k p).track.matcher = p.track.matcher := by
  unfold clearPassage
  split <;> rfl

/-- Every command that decides an arrival decides it alike. -/
theorem arrival_runs {c : Instr} {rep : Option Nat} {passed : Time} {s : State} (hready : Ready s) (h : Arrival c rep passed s) :
    ∃ t p, exec c s = .next t ∧ ArrivalStart s.part p ∧
      t.part = finish (setMatcher (matcherAfter c s.part) (decideArrival rep passed p)) ∧ (c = .d1Passage → passageAt 1 p = none) := by
  have same (p : Part) (hp : p.track.matcher = .empty) :
      setMatcher .empty (decideArrival rep passed p) = decideArrival rep passed p :=
    setMatcher_same ((decideArrival_lists rep passed p).1.trans hp)
  obtain ⟨raw, rfl, hm, rfl⟩ | ⟨rfl, n, arrived, hn, rfl, hm⟩ | ⟨rfl, hm, rfl, hdue⟩ | ⟨rfl, hn, hm, rfl⟩ := h
  · refine ⟨_, setMatcher .empty s.part, occurs_acts (g := fun _ => true) (f := tagArrives raw) hready.1 rfl, ⟨rfl⟩, ?_, nofun⟩
    have hafter : matcherAfter (.tagReport raw) s.part = .empty := rfl
    have hbody : tagArrives raw s.part = decideArrival (readTag raw) passed (setMatcher .empty s.part) := by rw [tagArrives, hm]
    rw [hafter, same _ rfl, hbody]
  · refine ⟨_, setMatcher .empty (clearPassage 1 s.part), occurs_acts (f := withPassage 1 (fun n => d1Arrives n.time)) hready.1 (by rw [passageDue, hn]; rfl),
      (clearPassage_start 1 s.part .empty).1, ?_, fun _ => passageAt_clearPassage (by omega) s.part⟩
    have hafter : matcherAfter .d1Passage s.part = .empty := by simp only [matcherAfter, hm]
    have hbody : withPassage 1 (fun n => d1Arrives n.time) s.part = decideArrival rep n.time (setMatcher .empty (clearPassage 1 s.part)) := by
      simp only [withPassage_some hn, d1Arrives, clearPassage_matcher, hm]
    rw [hafter, same _ rfl, hbody]
  · refine ⟨_, setMatcher .empty s.part, occurs_acts hready.1 (by rw [passageExpired, hm]; exact hdue), ⟨rfl⟩, ?_, nofun⟩
    have hafter : matcherAfter .tagPassageExpiry s.part = .empty := rfl
    have hbody : endWait s.part = decideArrival none passed (setMatcher .empty s.part) := by rw [endWait, hm]
    rw [hafter, same _ rfl, hbody]
  · obtain ⟨n, hn⟩ := Option.isSome_iff_exists.mp hn
    refine ⟨_, clearPassage 1 s.part, occurs_acts (f := withPassage 1 (fun n => d1Arrives n.time)) hready.1 (by rw [passageDue, hn]; rfl),
      (clearPassage_start 1 s.part .empty).2, ?_, fun _ => passageAt_clearPassage (by omega) s.part⟩
    have hafter : matcherAfter .d1Passage s.part = .passageWaiting n.time := by simp only [matcherAfter, hm, hn]
    have hbody : withPassage 1 (fun n => d1Arrives n.time) s.part =
        setMatcher (.passageWaiting n.time) (decideArrival none passed (clearPassage 1 s.part)) := by
      simp only [withPassage_some hn, d1Arrives, clearPassage_matcher, hm]
    rw [hafter, hbody]

/-! ### The waits -/

section
variable {s : State} (hready : Ready s)
include hready

theorem tagReport_held {rep : Option Nat} (h : ∀ d, s.part.track.matcher ≠ .passageWaiting d) :
    After (.tagReport rep) s (fun t => Frame [.track] s t ∧ t.part.track = { s.part.track with
      matcher := .reportHeld (match rep with | none => none | some n => if 1 ≤ n ∧ n ≤ 128 then some n else none) s.part.clock.now }) := by
  have hread : readTag rep = match rep with | none => none | some n => if 1 ≤ n ∧ n ≤ 128 then some n else none := by
    cases rep with
    | none => rfl
    | some n => simp only [readTag, isCabin_iff]
  have hbody : tagArrives rep s.part = setMatcher (.reportHeld (readTag rep) s.part.clock.now) s.part := by
    unfold tagArrives
    split
    next d hd => exact absurd hd (h d)
    next => rfl
  obtain ⟨t, hrun, hframe, ht, hquiet⟩ := occurs_quiet (g := fun _ => true) (f := tagArrives rep) (changed := [.track]) hready rfl
    (by rw [hbody]; exact hready.2.1) fun b _ hb => by
      rw [hbody]
      cases b with
      | track => simp at hb
      | _ => rfl
  refine ⟨t, hrun, hframe, ?_⟩
  rw [ht, finish_track, hquiet, hbody, hread]
  rfl

theorem d1Passage_waits {n : PassageNote} (hn : passageAt 1 s.part = some n) (hm : s.part.track.matcher = .empty) :
    After .d1Passage s (fun t => Frame [.track] s t ∧ t.part.track.matcher = .passageWaiting n.time ∧ passageAt 1 t.part = none ∧
      t.part.track.queue = s.part.track.queue ∧ t.part.track.roster = s.part.track.roster) := by
  have hbody : withPassage 1 (fun n => d1Arrives n.time) s.part = setMatcher (.passageWaiting n.time) (clearPassage 1 s.part) := by
    simp only [withPassage_some hn, d1Arrives, clearPassage_matcher, hm]
  have hstart := (clearPassage_start 1 s.part (.passageWaiting n.time)).1.part
  obtain ⟨t, hrun, hframe, ht, hquiet⟩ := occurs_quiet (g := passageDue 1) (f := withPassage 1 (fun n => d1Arrives n.time))
    (changed := [.track]) hready (by rw [passageDue, hn]; rfl) (by rw [hbody, hstart]; exact hready.2.1) fun b _ hb => by
      rw [hbody, hstart]
      cases b with
      | track => simp at hb
      | _ => rfl
  have htrack : t.part.track = (setMatcher (.passageWaiting n.time) (clearPassage 1 s.part)).track := by
    rw [ht, finish_track, hquiet, hbody]
  refine ⟨t, hrun, hframe, by rw [htrack]; rfl, ?_, by rw [htrack, hstart], by rw [htrack, hstart]⟩
  have cleared := passageAt_clearPassage (k := 1) (by omega) s.part
  rw [passageAt, htrack]
  exact cleared

theorem tagReport_expires {held : Option Nat} {arrived : Time} (hm : s.part.track.matcher = .reportHeld held arrived)
    (hdue : reached s.part.clock.now (arrived + ms 200) = true) :
    After .tagReportExpiry s (fun t => Frame [.track] s t ∧ t.part.track = { s.part.track with matcher := .empty }) := by
  obtain ⟨t, hrun, hframe, ht, hquiet⟩ := occurs_quiet (g := reportExpired) (f := setMatcher .empty) (changed := [.track]) hready
    (by rw [reportExpired, hm]; exact hdue) hready.2.1 fun b _ hb => by
      cases b with
      | track => simp at hb
      | _ => rfl
  exact ⟨t, hrun, hframe, by rw [ht, finish_track, hquiet]; rfl⟩

end

end Sys2Proof.Machine

/-! The arrival decision, whichever command decides it (R14, R15). -/

namespace Sys2Proof.Machine

section
variable {rep : Option Nat} {passed : Time} {p q : Part} {m : TagMatcher}

/-- The number of the cabin that an arrival identifies. -/
abbrev arrivedWho (rep : Option Nat) (p : Part) : Option Nat :=
  match rep with
  | some n => if n ∈ rosterNumbers p then some n else none
  | none => (rosterNumbers p).head?

theorem ArrivalStart.outside (h : ArrivalStart p q) : q.track.queue = p.track.queue ∧ q.track.roster = p.track.roster ∧
    q.track.nextSerial = p.track.nextSerial ∧ q.cabins = p.cabins ∧ q.window = p.window ∧ q.sequencer = p.sequencer ∧
    q.doors = p.doors ∧ q.clock = p.clock ∧ q.line = p.line ∧ q.messages = p.messages ∧ q.sensors = p.sensors ∧ q.grip = p.grip ∧
    q.sup = p.sup := by
  rw [h.part]
  exact ⟨rfl, rfl, rfl, rfl, rfl, rfl, rfl, rfl, rfl, rfl, rfl, rfl, rfl⟩

theorem ArrivalStart.who (h : ArrivalStart p q) : identified q rep = arrivedWho rep p := by
  have hnumbers : rosterNumbers q = rosterNumbers p := by rw [rosterNumbers, h.outside.2.1, rosterNumbers]
  rw [identified_eq, hnumbers] <;> rfl

/-- The decided arrival with the matcher set is as the decision leaves it but for the matcher. -/
theorem setMatcher_decided (m : TagMatcher) (r : Part) : Remembers r (setMatcher m r) ∧ ActionsStand r (setMatcher m r) ∧
    (∀ k, cabin (setMatcher m r) k = cabin r k) ∧ rosterNumbers (setMatcher m r) = rosterNumbers r :=
  ⟨.of_eq rfl rfl (.of_eq rfl), ⟨rfl, rfl, rfl, fun _ h => h⟩, fun _ => rfl, rfl⟩

/-- The end of the event of an arrival keeps what the decision leaves. -/
theorem finish_decided {r u : Part} (hu : u = finish (setMatcher m r)) :
    Remembers r u ∧ u.track.queue.map shownEntry = r.track.queue.map shownEntry ∧ rosterNumbers u = rosterNumbers r ∧
      u.track.matcher = m ∧ u.track.detectors = r.track.detectors ∧ (∀ k, (cabin u k).place = (cabin r k).place) ∧
      u.line = r.line ∧ u.messages = r.messages ∧ u.sensors = r.sensors ∧ u.grip = r.grip ∧ u.clock = r.clock ∧
      u.track.queue = r.track.queue ∧ u.track.trackOverflow = r.track.trackOverflow := by
  have still := still_finish (setMatcher m r)
  obtain ⟨hclock, htrack, hsensors, hgrip, hline, hmessages, -⟩ := still_fields still
  rw [hu]
  refine ⟨(setMatcher_decided m r).1.trans (finish_remembers _), by rw [htrack]; rfl, by rw [rosterNumbers, htrack]; rfl, by rw [htrack]; rfl,
    by rw [htrack]; rfl, fun k => ?_, hline, hmessages, hsensors, hgrip, hclock, by rw [htrack]; rfl, by rw [htrack]; rfl⟩
  have hplace := congrArg CabinRecord.place (record_of_still still k)
  exact hplace

theorem place_get {f g : Part} {k : Nat → Prop} (h : ∀ n, ¬ k n → (cabin g n).place = (cabin f n).place) (j : Fin 128)
    (hj : ¬ k (j.val + 1)) : (g.cabins.get j).place = (f.cabins.get j).place := by
  have hplace := h (j.val + 1) hj
  simpa [cabin, show j.val + 1 ≤ 128 by omega] using hplace

end

section
variable {c : Instr} {rep : Option Nat} {passed : Time} {s : State} (hready : Ready s) (harrival : Arrival c rep passed s)
include hready harrival

/-- An arrival at a queue with room (R14). -/
theorem arrival_joins (hroom : s.part.track.queue.length < 15) : After c s (fun t =>
    t.part.track.queue.map shownEntry = s.part.track.queue.map shownEntry ++ [((arrivedWho rep s.part).getD 0, 1, passed)] ∧
    rosterNumbers t.part = (match arrivedWho rep s.part with
      | none => rosterNumbers s.part
      | some n => (rosterNumbers s.part).filter (fun k => k != n)) ∧
    t.part.track.matcher = matcherAfter c s.part ∧ (c = .d1Passage → passageAt 1 t.part = none) ∧
    (∀ n ∈ arrivedWho rep s.part, isCabin n = true → (cabin t.part n).place = .inStation) ∧
    (∀ j : Fin 128, arrivedWho rep s.part ≠ some (j.val + 1) → (t.part.cabins.get j).place = (s.part.cabins.get j).place) ∧
    (rep = none → arrivedWho rep s.part ≠ none → t.part.window.attention.getLsbD 4 = true) ∧
    ((arrivedWho rep s.part = none ∨ (rep ≠ none ∧ (rosterNumbers s.part).head? ≠ arrivedWho rep s.part)) →
      CauseEntered .sequenceFault 1 t.part.sup ∧ t.part.sup.mode.isRunning = false) ∧
    ActionsMade 1 ((arrivedWho rep s.part).getD 0) s.part.track.nextSerial (some s.part.track.nextSerial) s t ∧
    t.part.line = s.part.line ∧ t.part.messages = s.part.messages ∧ t.part.sensors = s.part.sensors ∧ t.part.grip = s.part.grip ∧
    t.part.clock = s.part.clock) := by
  obtain ⟨t, p, hrun, hstart, ht, hpassage⟩ := arrival_runs hready harrival
  have hwho := hstart.who (rep := rep)
  obtain ⟨hqueue, hroster, hserial, hcabins, hwindow, hsequencer, hdoors, hclock, hline, hmessages, hsensors, hgrip, -⟩ := hstart.outside
  have hnumbers : rosterNumbers p = rosterNumbers s.part := by rw [rosterNumbers, hroster, rosterNumbers]
  have hbody := decideArrival_room (rep := rep) (passed := passed) (p := p) (by rw [hqueue]; exact hroom)
  have outside := arrivalJoined_outside (rep := rep) (passed := passed) (p := p)
  have joinedQueue := arrivalJoined_queue (rep := rep) (passed := passed) (p := p)
  have joinedRoster := arrivalJoined_roster (rep := rep) (passed := passed) (p := p)
  have joinedPlace := arrivalJoined_place (rep := rep) (passed := passed) (p := p)
  have lists : ListsStand (arrivalJoined rep passed p) (decideArrival rep passed p) := by
    rw [hbody]; exact arrivalTold_lists.trans (sequencerPassage_lists ..)
  have remembers : Remembers (arrivalTold rep p (arrivalJoined rep passed p)) (decideArrival rep passed p) := by
    rw [hbody]; exact sequencerPassage_remembers ..
  obtain ⟨kept, queue, roster, matcher, detectors, place, line, messages, sensors, grip, clock, -, -⟩ := finish_decided ht
  have later := remembers.trans kept
  have placed (k : Nat) : (cabin t.part k).place = if arrivedWho rep s.part = some k ∧ isCabin k = true then .inStation
      else (cabin s.part k).place := by
    rw [place k, congrArg CabinRecord.place (lists.record k)]
    show (cabin (arrivalJoined rep passed p) k).place = _
    rw [joinedPlace k, hwho, cabin_of_cabins_eq hcabins]
  refine ⟨t, hrun, ?_, ?_, matcher, fun hc => ?_, fun n hn hk => ?_, fun j hj => ?_, fun hrep hne => ?_, fun hturn => ?_, ?_,
    line.trans (lists.line.trans (outside.line.trans hline)), messages.trans (lists.messages.trans (outside.messages.trans hmessages)),
    sensors.trans (lists.sensors.trans (outside.sensors.trans hsensors)), grip.trans (lists.grip.trans (outside.grip.trans hgrip)),
    clock.trans (lists.clock.trans (outside.clock.trans hclock))⟩
  · rw [queue, lists.shown, joinedQueue, List.map_append, hqueue, hwho]; rfl
  · rw [roster, rosterNumbers, lists.roster]
    refine joinedRoster.trans ?_
    rw [hwho, hnumbers] <;> rfl
  · rw [passageAt, detectors, lists.detectors, outside.detectors, ← passageAt]
    exact hpassage hc
  · rw [placed n, if_pos ⟨hn, hk⟩]
  · exact place_get (k := fun n => arrivedWho rep s.part = some n) (fun n hn => by rw [placed n, if_neg fun h => hn h.1]) j hj
  · exact later.bits 4 (arrivalTold_positional hrep (by rwa [hwho]))
  · obtain ⟨entered, stopped⟩ := arrivalTold_fault (q := arrivalJoined rep passed p) (outOfTurn_of (by rwa [hwho, hnumbers]))
    exact ⟨later.entered entered, later.stopped stopped⟩
  · obtain ⟨toldDoors, toldSequencer⟩ := arrivalTold_doors (rep := rep) (p := p) (q := arrivalJoined rep passed p)
    have made := sequencerPassage_actionsMade (g := arrivalPassage rep p) (s := s) (t := t) (ref := some p.track.nextSerial) rfl
      (toldSequencer.trans (outside.sequencer.trans hsequencer)) (toldDoors.trans (outside.doors.trans hdoors))
      (arrivalTold_lists.clock.trans (outside.clock.trans hclock)) (setMatcher_decided (matcherAfter c s.part) _).2.1
      (by rw [ht, hbody])
    rw [arrivalPassage, hwho, hserial] at made
    exact made

/-- An arrival at a full queue (R15). -/
theorem arrival_turned (hfull : 15 ≤ s.part.track.queue.length) : After c s (fun t =>
    t.part.track.queue = s.part.track.queue ∧ t.part.track.matcher = matcherAfter c s.part ∧
    rosterNumbers t.part = (match arrivedWho rep s.part with
      | none => rosterNumbers s.part
      | some n => (rosterNumbers s.part).filter (fun k => k != n)) ∧
    (∀ n ∈ arrivedWho rep s.part, isCabin n = true → (cabin t.part n).place = .unknown) ∧ t.part.track.trackOverflow = true ∧
    CauseEntered .trackOverflow 1 t.part.sup ∧ ConditionPresent .trackOverflow 1 t.part.sup ∧ t.part.sup.mode.isRunning = false ∧
    t.part.window.attention.getLsbD 4 = true) := by
  obtain ⟨t, p, hrun, hstart, ht, -⟩ := arrival_runs hready harrival
  have hwho := hstart.who (rep := rep)
  obtain ⟨hqueue, hroster, -⟩ := hstart.outside
  have hnumbers : rosterNumbers p = rosterNumbers s.part := by rw [rosterNumbers, hroster, rosterNumbers]
  have hbody := (decideArrival_full (rep := rep) (passed := passed) (p := p) (by rw [hqueue]; exact hfull)).trans (refuseArrival_eq rep p)
  obtain ⟨turnedQueue, turnedRoster, turnedPlace⟩ := arrivalTurned_lists rep p
  have lists := reportTrack_lists .trackOverflow 1 .fast true (modTrack (fun t => { t with trackOverflow := true }) (arrivalTurned rep p))
  have told := reportTrack_told .trackOverflow 1 .fast true (modTrack (fun t => { t with trackOverflow := true }) (arrivalTurned rep p))
  have present : ConditionPresent .trackOverflow 1 (decideArrival rep passed p).sup := by rw [hbody]; exact report_present ..
  rw [← hbody] at lists told
  obtain ⟨entered, stopped, bit⟩ := told
  obtain ⟨kept, -, roster, matcher, -, place, -, -, -, -, -, queue, overflow⟩ := finish_decided ht
  refine ⟨t, hrun, ?_, matcher, ?_, fun n hn hk => ?_, ?_, kept.entered entered, kept.overflow present, kept.stopped stopped, kept.bits 4 bit⟩
  · rw [queue, hbody, (reportTrack_kept ..).2.1]
    exact turnedQueue.trans hqueue
  · rw [roster, rosterNumbers, lists.roster, ← hnumbers, ← hwho]
    exact turnedRoster
  · rw [place n, congrArg CabinRecord.place (lists.record n)]
    show (cabin (arrivalTurned rep p) n).place = _
    rw [turnedPlace n, hwho, if_pos ⟨hn, hk⟩]
  · rw [overflow, lists.trackOverflow]; rfl

end

/-- Settles O45: each command that decides an arrival runs the same decision, of which the lists, the cause and the door actions are read off
stage by stage. -/
theorem arrivalsAndTheTagMatcher : Obligations.ArrivalsAndTheTagMatcher := by
  refine ⟨fun rep s hready => ⟨tagReport_held hready, fun n hn hm => d1Passage_waits hready hn hm,
    fun held arrived hm hdue => tagReport_expires hready hm hdue⟩, fun c rep passed s hready harrival => ?_⟩
  exact ⟨arrival_joins hready harrival, arrival_turned hready harrival⟩

end Sys2Proof.Machine

/-! EXIT_PASSAGE at D7 (R4, R5, R60, R166). -/

namespace Sys2Proof.Machine

/-! ### The oldest entry before a passage (R3) -/

section
variable {p : Part} {k : Nat} {passed : Time} {before after : List QueueEntry} {e : QueueEntry}

theorem oldestBefore_some (h : p.track.queue = before ++ e :: after) (hseg : e.segment = k) (hearlier : earlier e.entered passed = true)
    (hbefore : ∀ x ∈ before, ¬ (x.segment = k ∧ earlier x.entered passed = true)) : oldestBefore p k passed = some e := by
  have hnone : before.find? (fun e => e.segment == k && earlier e.entered passed) = none := by
    rw [List.find?_eq_none]
    intro x hx
    simpa using hbefore x hx
  rw [oldestBefore, h, List.find?_append, hnone, Option.none_or, List.find?_cons_of_pos (by simp [hseg, hearlier])]

theorem oldestBefore_none (h : ∀ x ∈ p.track.queue, ¬ (x.segment = k ∧ earlier x.entered passed = true)) :
    oldestBefore p k passed = none := by
  rw [oldestBefore, List.find?_eq_none]
  intro x hx
  simpa using h x hx

/-- Where the serials name the entries apart, one serial picks out one entry. -/
theorem serials_apart (h : ((before ++ e :: after).map (fun e => e.serial)).Nodup) :
    ∀ x ∈ before ++ after, x.serial ≠ e.serial := by
  rw [List.map_append, List.map_cons, List.nodup_append] at h
  obtain ⟨-, hcons, hapart⟩ := h
  intro x hx
  obtain hx | hx := List.mem_append.mp hx
  · exact hapart _ (List.mem_map_of_mem hx) _ (List.mem_cons_self ..)
  · exact fun hxe => (List.nodup_cons.mp hcons).1 (hxe ▸ List.mem_map_of_mem hx)

theorem removeEntry_split (h : p.track.queue = before ++ e :: after) (hserials : (p.track.queue.map (fun e => e.serial)).Nodup) :
    (removeEntry e.serial p).track.queue = before ++ after := by
  rw [h] at hserials
  have apart := serials_apart hserials
  have same (l : List QueueEntry) (hl : ∀ x ∈ l, x.serial ≠ e.serial) : l.filter (fun x => x.serial != e.serial) = l :=
    List.filter_eq_self.mpr fun x hx => by simpa using hl x hx
  show p.track.queue.filter (fun x => x.serial != e.serial) = _
  rw [h, List.filter_append, List.filter_cons_of_neg (by simp), same _ fun x hx => apart x (List.mem_append_left _ hx),
    same _ fun x hx => apart x (List.mem_append_right _ hx)]

end

/-! ### A phantom passage (R5) -/

theorem phantomPassage_elsewhere {k : Nat} (hk : k ≠ 5) (passed : Time) (p : Part) :
    phantomPassage k passed p = reportTrack .sequenceFault k .service false p := by
  rw [phantomPassage, if_neg (by simpa using hk)]

/-! ### What an exit does -/

/-- Apart from the track, the records, the messages and the grip test. -/
structure ExitKeeps (p q : Part) : Prop where
  sequencer : q.sequencer = p.sequencer
  doors : q.doors = p.doors
  clock : q.clock = p.clock
  line : q.line = p.line
  sensors : q.sensors = p.sensors
  detectors : q.track.detectors = p.track.detectors

theorem ExitKeeps.trans {p q r : Part} (h : ExitKeeps p q) (g : ExitKeeps q r) : ExitKeeps p r :=
  ⟨g.sequencer.trans h.sequencer, g.doors.trans h.doors, g.clock.trans h.clock, g.line.trans h.line, g.sensors.trans h.sensors,
    g.detectors.trans h.detectors⟩

/-- The queue after an exit has been recounted. -/
def exitQueue (n : Nat) (p : Part) : Part := recountQueue (removeEntry n p)

theorem exitQueue_keeps (n : Nat) (p : Part) : ExitKeeps p (exitQueue n p) ∧ (exitQueue n p).track.roster = p.track.roster ∧
    (exitQueue n p).track.queue = (removeEntry n p).track.queue ∧ (exitQueue n p).messages = p.messages ∧
    (exitQueue n p).cabins = p.cabins ∧ (exitQueue n p).grip = p.grip := by
  refine ⟨⟨?_, ?_, ?_, ?_, ?_, ?_⟩, ?_, ?_, ?_, ?_, ?_⟩ <;> simp [exitQueue, removeEntry]

section
variable {k : Nat} {p : Part}

/-- A numbered cabin joins the roster, and its launch note is queued or dropped (R4, R166). -/
theorem exitCabin_numbered (hk : isCabin k = true) :
    ExitKeeps p (exitCabin k p) ∧ (exitCabin k p).track.queue = p.track.queue ∧ (exitCabin k p).grip = p.grip ∧
      (exitCabin k p).track.roster = p.track.roster ++ [{ cabin := k, mark := .none, seconds := 0 }] ∧
      (exitCabin k p).messages.notes = (let l := p.messages.notes.filter (fun j => j != k)
        if 8 ≤ l.length then l else l ++ [k]) ∧
      (∀ j, cabin (exitCabin k p) j = if j = k then { cabin p j with
        place := .onLine
        mark := .none
        note := if 8 ≤ (p.messages.notes.filter (fun j => j != k)).length then .dropped else .queued } else cabin p j) := by
  have hbody : exitCabin k p = exitNote k (joinRoster k p) := if_pos hk
  rw [hbody]
  obtain ⟨⟨hclock, -, htrack, -, hsensors, hgrip, -, hdoors, hsequencer, -, hline, -⟩, -⟩ := exitNote_kept k (joinRoster k p)
  have hmessages : (joinRoster k p).messages = p.messages := by simp [joinRoster]
  refine ⟨⟨by rw [hsequencer]; simp [joinRoster], by rw [hdoors]; simp [joinRoster], by rw [hclock]; simp [joinRoster],
    by rw [hline]; simp [joinRoster], by rw [hsensors]; simp [joinRoster], by rw [htrack]; simp [joinRoster]⟩,
    by rw [htrack]; simp [joinRoster], by rw [hgrip]; simp [joinRoster], by rw [htrack]; simp [joinRoster, setRoster], ?_, fun j => ?_⟩
  · dsimp only [exitNote]
    rw [hmessages]
    simp only [Config.notesMax]
    split <;> simp [setNote, modMsg]
  · have hnote : cabin (exitNote k (joinRoster k p)) j = cabin (setNote k
        (if 8 ≤ (p.messages.notes.filter (fun j => j != k)).length then .dropped else .queued) (joinRoster k p)) j := by
      dsimp only [exitNote]
      rw [hmessages]
      simp only [Config.notesMax]
      split <;> exact cabin_of_cabins_eq (by simp only [setNote, modCabin, modMsg]; split <;> rfl) j
    rw [hnote, setNote]
    by_cases hj : j = k
    · subst hj
      rw [cabin_modCabin_same _ _ _ hk, if_pos rfl, joinRoster, cabin_modCabin_same _ _ _ hk]
      rfl
    · rw [cabin_modCabin_ne _ _ _ _ hj, if_neg hj, joinRoster, cabin_modCabin_ne _ _ _ _ hj]
      rfl

theorem exitCabin_unnumbered (hk : isCabin k = false) : exitCabin k p = reportTrack .sequenceFault 7 .service false p :=
  if_neg (by simp [hk])

/-- A window of the cabin that exits closes (R60). -/
theorem gripExit_closes {w : GripWindow} (hw : p.grip.window = some w) (hk : w.cabin = k) : (gripExit k p).grip.window = none := by
  have hbody : gripExit k p = closeGrip false p := by
    rw [gripExit, hw]
    exact if_pos (by simpa using hk)
  rw [hbody, closeGrip, hw]
  dsimp only
  split <;> simp [countGrip] <;> split <;> rfl

/-- The closing of a window writes the grip result alone into a record. -/
theorem closeGrip_record (b : Bool) (p : Part) (j : Nat) : cabin (closeGrip b p) j = { cabin p j with
    grip := (cabin (closeGrip b p) j).grip
    gripMin := (cabin (closeGrip b p) j).gripMin
    gripMax := (cabin (closeGrip b p) j).gripMax } := by
  cases hw : p.grip.window with
  | none => rw [closeGrip, hw]
  | some w =>
    obtain ⟨f, hf, hcabins⟩ : ∃ f : CabinRecord → CabinRecord, (∀ c, f c = { c with
        grip := (f c).grip, gripMin := (f c).gripMin, gripMax := (f c).gripMax }) ∧
        (closeGrip b p).cabins = (modCabin w.cabin f p).cabins := by
      refine ⟨fun c => { c with grip := gripResult w b, gripMin := (w.forces.getD (0, 0)).1, gripMax := (w.forces.getD (0, 0)).2 },
        fun _ => rfl, ?_⟩
      rw [closeGrip, hw]
      dsimp only
      split <;> simp [modCabin] <;> split <;> rfl
    rw [cabin_of_cabins_eq hcabins]
    by_cases hk : isCabin w.cabin = true
    · by_cases hj : j = w.cabin
      · subst hj
        rw [cabin_modCabin_same _ _ _ hk]
        exact hf _
      · rw [cabin_modCabin_ne _ _ _ _ hj]
    · rw [modCabin, dif_neg (by simpa [isCabin] using hk)]

theorem gripExit_record (k : Nat) (p : Part) (j : Nat) : (cabin (gripExit k p) j).place = (cabin p j).place ∧
    (cabin (gripExit k p) j).mark = (cabin p j).mark ∧ (cabin (gripExit k p) j).note = (cabin p j).note := by
  unfold gripExit
  split
  · exact ⟨rfl, rfl, rfl⟩
  · split
    · rw [closeGrip_record]; exact ⟨rfl, rfl, rfl⟩
    · exact ⟨rfl, rfl, rfl⟩

theorem closeGrip_remembers (b : Bool) (p : Part) : Remembers p (closeGrip b p) := by
  unfold closeGrip
  split
  · exact .refl p
  next w _ =>
    dsimp only
    have marked (q : Part) : Remembers q (attend .grip q) := .of_eq rfl rfl (attend_bitsStay .grip q)
    split
    · exact Remembers.trans (.of_eq (by simp) (by simp) (.of_eq (by simp))) ((marked _).trans (report_remembers ..))
    · exact Remembers.trans (.of_eq (by simp) (by simp) (.of_eq (by simp))) ((marked _).trans (report_remembers ..))
    · exact Remembers.trans (.of_eq (by simp) (by simp) (.of_eq (by simp))) (marked _)

theorem gripExit_remembers (k : Nat) (p : Part) : Remembers p (gripExit k p) := by
  unfold gripExit
  split
  · exact .refl p
  · split
    · exact closeGrip_remembers ..
    · exact .refl p

theorem gripExit_keeps (k : Nat) (p : Part) : ExitKeeps p (gripExit k p) ∧ (gripExit k p).track = p.track ∧
    (gripExit k p).messages = p.messages := by
  refine ⟨⟨?_, ?_, ?_, ?_, ?_, ?_⟩, ?_, ?_⟩ <;> simp

end

end Sys2Proof.Machine

/-! The launch of a cabin at D7 (R4, R5, R166). -/

namespace Sys2Proof.Machine

section
variable {s : State} (hready : Ready s) {n : PassageNote} (hn : passageAt 7 s.part = some n)
include hready hn

theorem exitPassage_runs : exec .exitPassage s = .next { s with part := finish (takeExit n.time (clearPassage 7 s.part)) } := by
  have hbody : withPassage 7 (fun n => takeExit n.time) s.part = takeExit n.time (clearPassage 7 s.part) := withPassage_some hn _
  have hacts := occurs_acts (g := passageDue 7) (f := withPassage 7 (fun n => takeExit n.time)) hready.1
    (show passageDue 7 s.part = true by rw [passageDue, hn]; rfl)
  rw [hbody] at hacts
  exact hacts

/-- A phantom exit (R5). -/
theorem exitPassage_phantom (hnone : ∀ x ∈ s.part.track.queue, ¬ (x.segment = 6 ∧ earlier x.entered n.time = true)) :
    After .exitPassage s (fun t => t.part.track.queue = s.part.track.queue ∧ t.part.track.roster = s.part.track.roster ∧
      passageAt 7 t.part = none ∧ CauseEntered .sequenceFault 7 t.part.sup ∧ t.part.sup.mode.isRunning = false ∧
      t.part.grip = s.part.grip ∧ t.part.messages = s.part.messages) := by
  refine ⟨_, exitPassage_runs hready hn, ?_⟩
  have cleared := passageAt_clearPassage (k := 7) (by omega) s.part
  have hstart := (clearPassage_start 7 s.part .empty).2.part
  generalize clearPassage 7 s.part = p at cleared hstart ⊢
  have hbody : takeExit n.time p = reportTrack .sequenceFault 7 .service false p := by
    rw [takeExit, oldestBefore_none (by rw [hstart]; exact hnone)]
    exact phantomPassage_elsewhere (by omega) n.time p
  rw [hbody]
  obtain ⟨entered, stopped, -⟩ := reportTrack_told .sequenceFault 7 .service false p
  have lists := (reportTrack_lists .sequenceFault 7 .service false p).trans (finish_lists _)
  have htrack : (finish (reportTrack .sequenceFault 7 .service false p)).track = p.track :=
    (still_fields (still_finish _)).2.1.trans (by simp)
  have kept := finish_remembers (reportTrack .sequenceFault 7 .service false p)
  refine ⟨?_, ?_, ?_, kept.entered entered, kept.stopped stopped, ?_, ?_⟩
  · show (finish _).track.queue = _
    rw [htrack, hstart]
  · show (finish _).track.roster = _
    rw [htrack, hstart]
  · show passageAt 7 (finish _) = none
    rw [passageAt, htrack]; exact cleared
  · show (finish _).grip = _
    rw [lists.grip, hstart]
  · show (finish _).messages = _
    rw [lists.messages, hstart]

/-- What the exit of an entry leaves, before the Door Sequencer's work. -/
def exitLeft (e : QueueEntry) (p : Part) : Part := gripExit e.cabin (exitCabin e.cabin (exitQueue e.serial p))

/-- The exit of the oldest entry of S6 (R4). -/
theorem exitPassage_exits {before after : List QueueEntry} {e : QueueEntry} (hqueue : s.part.track.queue = before ++ e :: after)
    (hseg : e.segment = 6) (hearlier : earlier e.entered n.time = true)
    (hbefore : ∀ x ∈ before, ¬ (x.segment = 6 ∧ earlier x.entered n.time = true)) :
    ∃ t p, exec .exitPassage s = .next t ∧ ArrivalStart s.part p ∧ passageAt 7 p = none ∧
      t.part = finish (sequencerPassage { detector := 7, cabin := e.cabin, serial := e.serial } (exitLeft e p)) := by
  refine ⟨_, clearPassage 7 s.part, exitPassage_runs hready hn, (clearPassage_start 7 s.part .empty).2,
    passageAt_clearPassage (by omega) s.part, ?_⟩
  have hstart := (clearPassage_start 7 s.part .empty).2.part
  generalize clearPassage 7 s.part = p at hstart ⊢
  have hbody : takeExit n.time p = sequencerPassage { detector := 7, cabin := e.cabin, serial := e.serial } (exitLeft e p) := by
    rw [takeExit, oldestBefore_some (by rw [hstart]; exact hqueue) hseg hearlier hbefore]
    rfl
  rw [hbody]

end

/-- Of an exit through the Door Sequencer's work and the end of the event. -/
theorem exit_ends {g : Passage} {r u : Part} (hu : u = finish (sequencerPassage g r)) : ListsStand r u ∧ Remembers r u := by
  rw [hu]
  exact ⟨(sequencerPassage_lists g r).trans (finish_lists _), (sequencerPassage_remembers g r).trans (finish_remembers _)⟩

theorem exitCabin_keeps (k : Nat) (p : Part) : ExitKeeps p (exitCabin k p) ∧ (exitCabin k p).track.queue = p.track.queue ∧
    (exitCabin k p).grip = p.grip := by
  by_cases hk : isCabin k = true
  · obtain ⟨keeps, queue, grip, -⟩ := exitCabin_numbered (p := p) hk
    exact ⟨keeps, queue, grip⟩
  · rw [exitCabin_unnumbered (by simpa using hk)]
    refine ⟨⟨?_, ?_, ?_, ?_, ?_, ?_⟩, ?_, ?_⟩ <;> simp

theorem exitLeft_keeps (e : QueueEntry) (p : Part) : ExitKeeps p (exitLeft e p) :=
  ((exitQueue_keeps e.serial p).1.trans (exitCabin_keeps ..).1).trans (gripExit_keeps ..).1

theorem exitLeft_queue {p : Part} {before after : List QueueEntry} {e : QueueEntry} (h : p.track.queue = before ++ e :: after)
    (hserials : (p.track.queue.map (fun e => e.serial)).Nodup) : (exitLeft e p).track.queue = before ++ after := by
  rw [exitLeft, (gripExit_keeps ..).2.1, (exitCabin_keeps ..).2.1, (exitQueue_keeps ..).2.2.1, removeEntry_split h hserials]

theorem exitLeft_window {p : Part} {e : QueueEntry} {w : GripWindow} (hw : p.grip.window = some w) (hk : w.cabin = e.cabin) :
    (exitLeft e p).grip.window = none :=
  gripExit_closes (by rw [(exitCabin_keeps ..).2.2, (exitQueue_keeps ..).2.2.2.2.2]; exact hw) hk

/-- The place of a record other than that of the cabin that exits. -/
theorem exitLeft_place (e : QueueEntry) (p : Part) {j : Nat} (hj : j ≠ e.cabin) : (cabin (exitLeft e p) j).place = (cabin p j).place := by
  rw [exitLeft, (gripExit_record ..).1]
  by_cases hk : isCabin e.cabin = true
  · obtain ⟨-, -, -, -, -, record⟩ := exitCabin_numbered (p := exitQueue e.serial p) hk
    rw [record, if_neg hj, cabin_of_cabins_eq (exitQueue_keeps ..).2.2.2.2.1]
  · rw [exitCabin_unnumbered (by simpa using hk), (reportTrack_lists ..).record, cabin_of_cabins_eq (exitQueue_keeps ..).2.2.2.2.1]

theorem exitLeft_numbered {e : QueueEntry} {p : Part} (hk : isCabin e.cabin = true) :
    (exitLeft e p).track.roster = p.track.roster ++ [{ cabin := e.cabin, mark := .none, seconds := 0 }] ∧
      (cabin (exitLeft e p) e.cabin).place = .onLine ∧ (cabin (exitLeft e p) e.cabin).mark = .none ∧
      (exitLeft e p).messages.notes = (let l := p.messages.notes.filter (fun j => j != e.cabin)
        if 8 ≤ l.length then l else l ++ [e.cabin]) ∧
      (cabin (exitLeft e p) e.cabin).note =
        (if 8 ≤ (p.messages.notes.filter (fun j => j != e.cabin)).length then .dropped else .queued) := by
  obtain ⟨-, -, -, roster, notes, record⟩ := exitCabin_numbered (p := exitQueue e.serial p) hk
  obtain ⟨-, queueRoster, -, queueMessages, -⟩ := exitQueue_keeps e.serial p
  obtain ⟨-, gripTrack, gripMessages⟩ := gripExit_keeps e.cabin (exitCabin e.cabin (exitQueue e.serial p))
  obtain ⟨place, mark, note⟩ := gripExit_record e.cabin (exitCabin e.cabin (exitQueue e.serial p)) e.cabin
  rw [queueMessages] at notes record
  have recorded := record e.cabin
  rw [if_pos rfl] at recorded
  refine ⟨?_, ?_, ?_, ?_, ?_⟩
  · rw [exitLeft, gripTrack, roster, queueRoster]
  · rw [exitLeft, place, recorded]
  · rw [exitLeft, mark, recorded]
  · rw [exitLeft, gripMessages, notes]
  · rw [exitLeft, note, recorded]

theorem exitLeft_unnumbered {e : QueueEntry} {p : Part} (hk : isCabin e.cabin = false) :
    (exitLeft e p).track.roster = p.track.roster ∧ (exitLeft e p).messages = p.messages ∧
      CauseEntered .sequenceFault 7 (exitLeft e p).sup ∧ (exitLeft e p).sup.mode.isRunning = false := by
  obtain ⟨-, queueRoster, -, queueMessages, -⟩ := exitQueue_keeps e.serial p
  obtain ⟨-, gripTrack, gripMessages⟩ := gripExit_keeps e.cabin (exitCabin e.cabin (exitQueue e.serial p))
  have kept := gripExit_remembers e.cabin (exitCabin e.cabin (exitQueue e.serial p))
  have lists := reportTrack_lists .sequenceFault 7 .service false (exitQueue e.serial p)
  obtain ⟨entered, stopped, -⟩ := reportTrack_told .sequenceFault 7 .service false (exitQueue e.serial p)
  rw [← exitCabin_unnumbered hk] at lists entered stopped
  exact ⟨by rw [exitLeft, gripTrack, lists.roster, queueRoster], by rw [exitLeft, gripMessages, lists.messages, queueMessages],
    kept.entered entered, kept.stopped stopped⟩

/-- Settles O47: the exit is read off before the Door Sequencer's work, and that work and the end of the event leave it standing. -/
theorem exitPassageLaunchesTheCabin : Obligations.ExitPassageLaunchesTheCabin := by
  intro s hready hserials n hn
  refine ⟨fun before after e hqueue hseg hearlier hbefore => ?_, exitPassage_phantom hready hn⟩
  obtain ⟨t, p, hrun, hstart, hpassage, ht⟩ := exitPassage_exits hready hn hqueue hseg hearlier hbefore
  obtain ⟨pqueue, proster, -, pcabins, -, psequencer, pdoors, pclock, pline, pmessages, psensors, pgrip, -⟩ := hstart.outside
  obtain ⟨lists, kept⟩ := exit_ends ht
  have keeps := exitLeft_keeps e p
  have recorded (j : Nat) : (cabin t.part j).place = (cabin (exitLeft e p) j).place ∧ (cabin t.part j).mark = (cabin (exitLeft e p) j).mark ∧
      (cabin t.part j).note = (cabin (exitLeft e p) j).note := by
    rw [lists.record j]; exact ⟨rfl, rfl, rfl⟩
  refine ⟨t, hrun, ?_, ?_, fun hk => ?_, fun hk => ?_, fun j hj => ?_, fun w hw hwk => ?_, ?_,
    lists.line.trans (keeps.line.trans pline), lists.clock.trans (keeps.clock.trans pclock),
    lists.sensors.trans (keeps.sensors.trans psensors)⟩
  · rw [lists.shown, exitLeft_queue (pqueue.trans hqueue) (by rw [pqueue]; exact hserials), List.map_append]
  · rw [passageAt, lists.detectors, keeps.detectors, ← passageAt]
    exact hpassage
  · obtain ⟨roster, place, mark, notes, note⟩ := exitLeft_numbered (p := p) hk
    rw [proster] at roster
    rw [pmessages] at notes note
    exact ⟨lists.roster.trans roster, (recorded _).1.trans place, (recorded _).2.1.trans mark,
      (congrArg Messages.notes lists.messages).trans notes, (recorded _).2.2.trans note⟩
  · obtain ⟨roster, messages, entered, stopped⟩ := exitLeft_unnumbered (p := p) hk
    exact ⟨lists.roster.trans (roster.trans proster), by rw [lists.messages, messages, pmessages], kept.entered entered,
      kept.stopped stopped⟩
  · refine place_get (k := fun i => i = e.cabin) (fun i hi => ?_) j hj
    rw [(recorded i).1, exitLeft_place e p hi, cabin_of_cabins_eq pcabins]
  · rw [lists.grip]
    exact exitLeft_window (by rw [pgrip]; exact hw) hwk
  · exact sequencerPassage_actionsMade (g := { detector := 7, cabin := e.cabin, serial := e.serial }) (q := exitLeft e p) rfl
      (keeps.sequencer.trans psequencer) (keeps.doors.trans pdoors) (keeps.clock.trans pclock) ⟨rfl, rfl, rfl, fun _ h => h⟩ ht

end Sys2Proof.Machine

/-! What calls for Launch Control's judgement (R65): reports, ended conditions, caps, and the doors' and the Door Sequencer's work. -/

namespace Sys2Proof.Machine

theorem Undisturbed.heeds {p q : Part} (h : Undisturbed p q) (hprofile : activeProfile q.sup = activeProfile p.sup)
    (hview : q.rope.view = p.rope.view) : Heeds p q := by
  obtain ⟨⟨-, htrack, hcabins, -, -, hlaunch, -⟩, -, hwork, hmode, -⟩ := h
  exact .inr ⟨by rw [hwork], hmode, hprofile, by rw [htrack], fun k => by rw [cabin_of_cabins_eq hcabins], by rw [hlaunch], hview,
    by rw [hlaunch]⟩

theorem report_heeds (k : CauseKind) (n : Nat) (c : Category) (b : Bool) (p : Part) : Heeds p (report k n c b p) := by
  rw [report_eq]
  have noted : Heeds p (causeNoted k n c b p) := by
    refine (causeNoted_undisturbed k n c b p).heeds ?_ rfl
    have hkept := enterCause_kept k n c b p.clock.now p.sup
    rw [show (causeNoted k n c b p).sup = enterCause k n c b p.clock.now p.sup from rfl, hkept]
    rfl
  by_cases h : (causeNoted k n c b p).sup.mode = modeAfterCause p.sup.mode c
  · rwa [changeMode_same h]
  · exact .inl (changeMode_called h).1

theorem gone_heeds (k : CauseKind) (n : Nat) (p : Part) : Heeds p (gone k n p) :=
  (gone_undisturbed k n p).heeds (by rw [gone_sup]; rfl) (by simp)

theorem setCaps_heeds (c : Caps) (p : Part) : Heeds p (setCaps c p) := by
  refine (setCaps_undisturbed c p).heeds ?_ ?_
  · rw [setCaps_sup]
    split <;> rfl
  · unfold setCaps
    split
    · rfl
    · rw [(composeCeiling_rope _).1]; rfl

theorem Stirs.heeds {p q : Part} (h : Stirs p q) : Heeds p q :=
  h.relates (S := Heeds) (fun _ _ h => h.heeds) report_heeds (fun n p => gone_heeds _ n p) (fun c p _ => setCaps_heeds c p)
    (fun h g => h.trans g)

/-! ### A passage at the Door Sequencer -/

theorem attend_heeds (a : Attn) (p : Part) : Heeds p (attend a p) := .of_eq rfl rfl rfl rfl rfl rfl
theorem modSeq_heeds (f : Sequencer → Sequencer) (p : Part) : Heeds p (modSeq f p) := .of_eq rfl rfl rfl rfl rfl rfl
theorem setDoor_heeds (k : Nat) (d : CabinDoor) (p : Part) : Heeds p (setDoor k d p) := .inl rfl
theorem modEntry_heeds (n : Nat) (f : QueueEntry → QueueEntry) (p : Part) : Heeds p (modEntry n f p) := .inl rfl

theorem Heeds.foldl {α : Type} {f : Part → α → Part} (h : ∀ p a, Heeds p (f p a)) (l : List α) (p : Part) : Heeds p (l.foldl f p) := by
  induction l generalizing p with
  | nil => exact .refl p
  | cons a l ih => exact (h p a).trans (ih _)

theorem loseDoor_heeds (b : Bool) (k : Nat) (p : Part) : Heeds p (loseDoor b k p) := by
  unfold loseDoor
  split
  · exact setDoor_heeds ..
  · exact .refl p

theorem countRemoval_heeds (p : Part) (a : Action) : Heeds p (countRemoval p a) := (loseDoor_heeds ..).trans (modSeq_heeds ..)

theorem removeActions_heeds (which : Action → Bool) (quiet : Bool) (p : Part) : Heeds p (removeActions which quiet p) := by
  unfold removeActions
  dsimp only
  have counted := (modSeq_heeds (fun s => { s with actions := s.actions.filter (fun a => !which a) }) p).trans
    (Heeds.foldl countRemoval_heeds (p.sequencer.actions.filter which) _)
  (repeat' split)
  · exact .refl p
  · exact counted
  · exact counted.trans (attend_heeds ..)

theorem lateOn_heeds (which : ChannelNo → Flight → Bool) (quiet : Bool) (p : Part) (n : ChannelNo) : Heeds p (lateOn which quiet p n) := by
  have made (f : Flight) : Heeds p (makeLate n f p) := (modSeq_heeds _ p).trans (loseDoor_heeds ..)
  unfold lateOn
  (repeat' split)
  · exact .refl p
  · exact made _
  · exact (made _).trans (attend_heeds ..)
  · exact .refl p

theorem judgeLate_heeds (which : ChannelNo → Flight → Bool) (quiet : Bool) (p : Part) : Heeds p (judgeLate which quiet p) := by
  unfold judgeLate
  exact .foldl (lateOn_heeds which quiet) _ p

theorem makeAction_heeds (g : Passage) (a : Action) (p : Part) : Heeds p (makeAction g a p) := by
  unfold makeAction
  (repeat' split)
  · exact (loseDoor_heeds ..).trans ((modSeq_heeds ..).trans (attend_heeds ..))
  · exact (countRemoval_heeds p a).trans (attend_heeds ..)
  · exact modSeq_heeds ..

theorem triggerEntry_heeds (g : Passage) (p : Part) (i : Fin 24) : Heeds p (triggerEntry g p i) := by
  unfold triggerEntry
  (repeat' split)
  · exact .refl p
  · exact (modSeq_heeds _ p).trans (makeAction_heeds ..)
  · exact .refl p

theorem reportUnlocked_heeds (k : Nat) (b : Bool) (p : Part) : Heeds p (reportUnlocked k b p) := by
  unfold reportUnlocked
  dsimp only
  refine (attend_heeds .door p).trans (Heeds.trans ?_ (report_heeds ..))
  split
  · exact modSeq_heeds ..
  · exact .refl _

theorem lockCheck_heeds (g : Passage) (p : Part) : Heeds p (lockCheck g p) := by
  unfold lockCheck
  dsimp only
  (repeat' split)
  · exact setDoor_heeds ..
  · exact (setDoor_heeds ..).trans (reportUnlocked_heeds ..)
  · exact modEntry_heeds ..

theorem endUnlocked_heeds (k : Nat) (p : Part) : Heeds p (endUnlocked k p) := by
  unfold endUnlocked
  split
  · exact (modSeq_heeds ..).trans (gone_heeds ..)
  · exact .refl p

theorem sequencerPassage_heeds (g : Passage) (p : Part) : Heeds p (sequencerPassage g p) := by
  rw [sequencerPassage_eq]
  have cleared : Heeds p (passageCleared g p) := by
    unfold passageCleared
    exact (removeActions_heeds ..).trans (judgeLate_heeds ..)
  have made : Heeds (passageCleared g p) (passageMade g p) := by
    unfold passageMade
    exact .foldl (triggerEntry_heeds g) _ _
  have checked (q : Part) : Heeds q (passageChecked g q) := by
    have locked : Heeds q (if g.detector == 4 then lockCheck g q else q) := by
      split
      · exact lockCheck_heeds g q
      · exact .refl q
    unfold passageChecked
    generalize (if g.detector == 4 then lockCheck g q else q) = r at locked ⊢
    dsimp only
    split
    · exact locked.trans (endUnlocked_heeds ..)
    · exact locked
  exact ((cleared.trans made).trans (checked _)).trans (stirs_judgeSequencer ..).heeds

end Sys2Proof.Machine

/-! The stages of a station passage (R3, R6, R7, R69, R71). -/

namespace Sys2Proof.Machine

/-! ### The entry moves (R3) -/

theorem moveEntry_split {p : Part} {before after : List QueueEntry} {e : QueueEntry} {f : QueueEntry → QueueEntry}
    (h : p.track.queue = before ++ e :: after) (hserials : (p.track.queue.map (fun e => e.serial)).Nodup) :
    (modEntry e.serial f p).track.queue = before ++ f e :: after := by
  rw [h] at hserials
  have apart := serials_apart hserials
  have same (l : List QueueEntry) (hl : ∀ x ∈ l, x.serial ≠ e.serial) :
      l.map (fun x => if x.serial == e.serial then f x else x) = l := by
    refine (List.map_congr_left (g := fun x => x) fun x hx => ?_).trans (List.map_id' l)
    exact if_neg (by simpa using hl x hx)
  show p.track.queue.map (fun x => if x.serial == e.serial then f x else x) = _
  rw [h, List.map_append, List.map_cons, if_pos (by simp), same _ fun x hx => apart x (List.mem_append_left _ hx),
    same _ fun x hx => apart x (List.mem_append_right _ hx)]

theorem moveEntry_outside (serial k : Nat) (passed : Time) (p : Part) : OutsideLists p (moveEntry serial k passed p) ∧
    (moveEntry serial k passed p).track.roster = p.track.roster ∧ (moveEntry serial k passed p).cabins = p.cabins :=
  ⟨⟨rfl, rfl, rfl, rfl, rfl, rfl, rfl, rfl, rfl, rfl, rfl, rfl, rfl, rfl, rfl⟩, rfl, rfl⟩

/-! ### The hold section recounted (R7) -/

section
variable {p : Part}

theorem recountHold_remembers (b : Bool) (p : Part) : Remembers p (recountHold b p) := by
  unfold recountHold
  dsimp only
  have capped : Remembers p (setHoldCap (decide (3 ≤ segmentCount p 4)) p) := setCaps_remembers ..
  generalize setHoldCap (decide (3 ≤ segmentCount p 4)) p = q at capped ⊢
  refine capped.trans ?_
  have told : Remembers q (reportHoldOverflow q) :=
    Remembers.trans (q := modTrack (fun t => { t with holdOverflow := true }) q) (.of_eq rfl rfl (.of_eq rfl)) (reportTrack_remembers ..)
  split
  · split
    · exact told
    · exact .refl q
  · split
    · exact Remembers.trans (q := modTrack (fun t => { t with holdOverflow := false }) q) (.of_eq rfl rfl (.of_eq rfl))
        (gone_remembers (by decide) ..)
    · exact .refl q

/-- An entry into a segment S4 of four or more reports the overflow (R7). -/
theorem recountHold_enters (h : 4 ≤ segmentCount p 4) : CauseEntered .holdOverflow 4 (recountHold true p).sup := by
  unfold recountHold
  dsimp only
  rw [if_pos h, if_pos (Bool.true_or _)]
  exact report_entered ..

end

/-! ### The HOLD cap stays -/

/-- The HOLD cap is the same. -/
abbrev HoldStays (p q : Part) : Prop := q.sup.caps.hold = p.sup.caps.hold

theorem reportUnlocked_hold (k : Nat) (b : Bool) (p : Part) : HoldStays p (reportUnlocked k b p) := by
  rw [HoldStays, reportUnlocked, report_caps]
  split <;> rfl

theorem passageChecked_hold (g : Passage) (p : Part) : HoldStays p (passageChecked g p) := by
  have locked : HoldStays p (if g.detector == 4 then lockCheck g p else p) := by
    unfold lockCheck
    dsimp only
    have shown (d : CabinDoor) : HoldStays p (setDoor g.cabin d p) := by rw [HoldStays]; simp
    (repeat' split)
    · exact shown _
    · exact (reportUnlocked_hold ..).trans (shown _)
    · rw [HoldStays]; simp
    · rfl
  unfold passageChecked endUnlocked
  generalize (if g.detector == 4 then lockCheck g p else p) = q at locked ⊢
  dsimp only
  (repeat' split)
  · rw [HoldStays, gone_sup]; exact locked
  · exact locked
  · exact locked

theorem sequencerPassage_hold (g : Passage) (p : Part) : HoldStays p (sequencerPassage g p) := by
  have made : (passageMade g p).sup = p.sup := by
    have cleared : ActionKeeps p (passageCleared g p) := by
      unfold passageCleared
      exact (removeActions_kept ..).trans (judgeLate_kept ..)
    have made : ActionKeeps (passageCleared g p) (passageMade g p) := by
      unfold passageMade
      exact triggered_kept g _
    exact (cleared.trans made).2.2.1
  rw [sequencerPassage_eq]
  exact ((stirs_judgeSequencer ..).works.hold).trans ((passageChecked_hold ..).trans (by rw [made]))

theorem closeGrip_hold (b : Bool) (p : Part) : HoldStays p (closeGrip b p) := by
  unfold closeGrip
  split
  · rfl
  · dsimp only
    split
    · rw [HoldStays, report_caps]; simp
    · rw [HoldStays, report_caps]; simp
    · rw [HoldStays]; simp

theorem finish_hold (p : Part) : HoldStays p (finish p) := by
  have settled := (works_settle p).hold
  rw [HoldStays, finish_sup]
  exact settled

end Sys2Proof.Machine

/-! A D5 passage at Launch Control, and what the end of its event judges (R65, R69, R71, R72). -/

namespace Sys2Proof.Machine

/-! ### A D5 passage -/

/-- The pending profile switch is applied and Launch Control is called (R138). -/
def pendingTaken (p : Part) : Part := callLaunch (applyPendingSwitch p)

/-- An uncommanded passage is counted (R71). -/
def uncommandedNoted (p : Part) : Part := modLaunch (fun l => { l with uncommanded := count16 l.uncommanded, gapRestarted := true }) p

theorem retainerPassage_releases {k : Option Nat} {passed : Time} {p : Part} (h : p.launch.state = .releasing) :
    retainerPassage k passed p = pendingTaken (releasePassage (k.getD 0) passed (modLaunch (fun l => { l with gapRestarted := true }) p)) := by
  unfold retainerPassage
  dsimp only
  rw [if_pos (by simp [modLaunch, h])]
  rfl

theorem retainerPassage_uncommanded {k : Nat} {passed : Time} {p : Part} (h : p.launch.state ≠ .releasing) :
    retainerPassage (some k) passed p = pendingTaken (report .sequenceFault 5 .service false (uncommandedNoted p)) := by
  unfold retainerPassage
  dsimp only
  rw [if_neg (by simpa [modLaunch] using h)]
  rfl

theorem retainerPassage_phantom {passed : Time} {p : Part} (h : p.launch.state ≠ .releasing) :
    retainerPassage none passed p = pendingTaken (modLaunch (fun l => { l with gapRestarted := true }) p) := by
  unfold retainerPassage
  dsimp only
  rw [if_neg (by simpa [modLaunch] using h)]
  rfl

theorem pendingTaken_remembers (p : Part) : Remembers p (pendingTaken p) := by
  have hsup := applyPendingSwitch_sup p
  obtain ⟨⟨hcauses, hpresent, hoverflow, -⟩, hmode⟩ := switchedSup_kept p.sup
  refine .of_kept ?_ ?_ ?_ ?_ ?_ (applyPendingSwitch_bitsStay p)
  · show (applyPendingSwitch p).sup.causes = _; rw [hsup, hcauses]
  · show (applyPendingSwitch p).sup.present = _; rw [hsup, hpresent]
  · show (applyPendingSwitch p).sup.overflow = _; rw [hsup, hoverflow]
  · show (applyPendingSwitch p).sup.mode = _; rw [hsup, hmode]
  · show (applyPendingSwitch p).rope.gapAcc = _; rw [(applyPendingSwitch_rope p).1]

theorem pendingTaken_hold (p : Part) : HoldStays p (pendingTaken p) := by
  obtain ⟨⟨-, -, -, -, -, hcaps, -⟩, -⟩ := switchedSup_kept p.sup
  show (applyPendingSwitch p).sup.caps.hold = _
  rw [applyPendingSwitch_sup, hcaps]

theorem pendingTaken_launch (p : Part) : (pendingTaken p).launch = p.launch ∧ (pendingTaken p).cabins = p.cabins ∧
    (pendingTaken p).work.launch = true := by
  refine ⟨?_, ?_, rfl⟩ <;> simp [pendingTaken]

section
variable {k : Nat} {passed : Time} {p : Part}

/-- What a D5 passage leaves of the causes, the HOLD cap and the gap. -/
theorem retainerPassage_remembers (k : Option Nat) (passed : Time) (p : Part) :
    Remembers p (retainerPassage k passed p) ∧ HoldStays p (retainerPassage k passed p) := by
  by_cases h : p.launch.state = .releasing
  · rw [retainerPassage_releases h]
    have released : Remembers p (releasePassage (k.getD 0) passed (modLaunch (fun l => { l with gapRestarted := true }) p)) :=
      .of_eq (by simp [releasePassage]) (by simp [releasePassage]) (.of_eq (by simp [releasePassage]))
    exact ⟨released.trans (pendingTaken_remembers _), (pendingTaken_hold _).trans (by simp [releasePassage])⟩
  · cases k with
    | none =>
      rw [retainerPassage_phantom h]
      exact ⟨Remembers.trans (q := modLaunch (fun l => { l with gapRestarted := true }) p) (.of_eq rfl rfl (.of_eq rfl))
        (pendingTaken_remembers _), pendingTaken_hold _⟩
    | some k =>
      rw [retainerPassage_uncommanded h]
      have told : Remembers p (report .sequenceFault 5 .service false (uncommandedNoted p)) :=
        Remembers.trans (q := uncommandedNoted p) (.of_eq rfl rfl (.of_eq rfl)) (report_remembers ..)
      exact ⟨told.trans (pendingTaken_remembers _), (pendingTaken_hold _).trans (by rw [report_caps]; rfl)⟩

/-- A D5 passage that ends a release (R69). -/
theorem retainerPassage_ends (h : p.launch.state = .releasing) :
    (retainerPassage (some k) passed p).launch.state = .idle ∧ (retainerPassage (some k) passed p).launch.retain = false ∧
      (isCabin k = true → (cabin (retainerPassage (some k) passed p) k).lastRelease = passed) := by
  rw [retainerPassage_releases h]
  obtain ⟨hlaunch, hcabins, -⟩ := pendingTaken_launch (releasePassage k passed (modLaunch (fun l => { l with gapRestarted := true }) p))
  refine ⟨?_, ?_, fun hk => ?_⟩
  · rw [Option.getD_some, hlaunch]; rfl
  · rw [Option.getD_some, hlaunch]; rfl
  · rw [Option.getD_some, cabin_of_cabins_eq hcabins]
    have hreleased : (releasePassage k passed (modLaunch (fun l => { l with gapRestarted := true }) p)).cabins =
        (modCabin k (fun c => { c with lastRelease := passed }) p).cabins := by
      simp only [releasePassage, endRelease, modCabin, modLaunch, callLaunch]
      split <;> rfl
    rw [cabin_of_cabins_eq hreleased, cabin_modCabin_same _ _ _ hk]

/-- An uncommanded D5 passage (R71). -/
theorem retainerPassage_faults (h : p.launch.state ≠ .releasing) :
    (retainerPassage (some k) passed p).launch.state = p.launch.state ∧
      (retainerPassage (some k) passed p).launch.retain = p.launch.retain ∧
      CauseEntered .sequenceFault 5 (retainerPassage (some k) passed p).sup ∧
      (retainerPassage (some k) passed p).sup.mode.isRunning = false := by
  rw [retainerPassage_uncommanded h]
  have kept := pendingTaken_remembers (report .sequenceFault 5 .service false (uncommandedNoted p))
  have hlaunch : (report .sequenceFault 5 .service false (uncommandedNoted p)).launch = (uncommandedNoted p).launch := by simp
  rw [(pendingTaken_launch _).1, hlaunch]
  exact ⟨rfl, rfl, kept.entered (report_entered ..), kept.stopped (report_not_running ..)⟩

theorem retainerPassage_calls (k : Option Nat) : (retainerPassage k passed p).work.launch = true := rfl

/-- A passage that moves no cabin writes no record. -/
theorem retainerPassage_record (k : Option Nat) (passed : Time) (p : Part) (j : Nat) :
    (cabin (retainerPassage k passed p) j).place = (cabin p j).place := by
  obtain ⟨-, hcabins, -⟩ := (retainerPassage_kept k passed p).1
  have listing := cabin_listing hcabins j
  exact congrArg (fun x => x.2.2.1) listing

end

/-! ### No release can be requested -/

/-- The mode does not run, or S5 is occupied. -/
def Blocked (p : Part) : Prop := p.sup.mode.isRunning = false ∨ segmentCount p 5 ≠ 0

theorem holdReason_blocked {p : Part} (h : Blocked p) : holdReason p ≠ .none := by
  unfold holdReason
  dsimp only
  by_cases hmode : p.sup.mode = .run
  · have hseg : segmentCount p 5 ≠ 0 := h.resolve_left (by rw [hmode]; decide)
    rw [if_neg (by simp [hmode])]
    (repeat' split) <;> simp_all
  · rw [if_pos (by simpa using hmode)]
    decide

theorem judgeLaunch_blocked {p : Part} (h : Blocked p) (hstate : p.launch.state ≠ .releasing) :
    (judgeLaunch p).launch.state = .idle ∧ (judgeLaunch p).launch.retain = p.launch.retain := by
  have hwhy : (holdReason p == .none) = false := by simpa using holdReason_blocked h
  unfold judgeLaunch
  dsimp only [modLaunch]
  rw [hwhy]
  split
  next hs => exact ⟨hs, rfl⟩
  next hs => exact ⟨rfl, rfl⟩
  next hs => exact absurd hs hstate

theorem settleOnce_blocked {p : Part} (h : Blocked p) (hstate : p.launch.state = .idle) :
    Blocked (settleOnce p) ∧ (settleOnce p).launch.state = .idle ∧ (settleOnce p).launch.retain = p.launch.retain := by
  have hblocked : Blocked (settleOnce p) := by
    refine h.imp (works_settleOnce p).remembers.stopped fun h => ?_
    rw [segmentCount, (still_fields (still_settleOnce p)).2.1]
    exact h
  refine ⟨hblocked, ?_⟩
  unfold settleOnce
  split
  · exact judgeLaunch_blocked (p := { p with work := { p.work with launch := false } }) h (by simp [hstate])
  · split
    · unfold judgeArbiter
      dsimp only
      split
      · exact ⟨hstate, rfl⟩
      next r rest _ =>
        split
        · cases r with
          | door n =>
            rw [handGrant]
            have hlaunch : (callArbiter (startMotion n { p with
                work := { p.work with arbiter := false }
                doors := recordGrant (.door n) p.clock.now { p.doors with queue := rest } })).launch = p.launch := by simp
            rw [hlaunch]
            exact ⟨hstate, rfl⟩
          | retainer =>
            rw [handGrant, grantRetainer, if_neg (by simp [hstate])]
            exact ⟨hstate, rfl⟩
        · exact ⟨hstate, rfl⟩
    · split
      · rw [show (judgeSequencer false { p with work := { p.work with sequencer := false } }).launch = p.launch by simp]
        exact ⟨hstate, rfl⟩
      · exact ⟨hstate, rfl⟩

theorem settle_blocked (n : Nat) {p : Part} (h : Blocked p) (hstate : p.launch.state = .idle) :
    (settle n p).launch.state = .idle ∧ (settle n p).launch.retain = p.launch.retain := by
  induction n generalizing p with
  | zero =>
    rw [settle]
    split
    · exact judgeLaunch_blocked h (by simp [hstate])
    · exact ⟨hstate, rfl⟩
  | succ n ih =>
    rw [settle]
    split
    · exact ⟨hstate, rfl⟩
    · obtain ⟨hblocked, hidle, hretain⟩ := settleOnce_blocked h hstate
      obtain ⟨ihstate, ihretain⟩ := ih hblocked hidle
      exact ⟨ihstate, ihretain.trans hretain⟩

/-- Called to judge, Launch Control takes back a request, and no judgement of the event brings it back. -/
theorem finish_blocked {p : Part} (hcall : p.work.launch = true) (h : Blocked p) (hstate : p.launch.state ≠ .releasing) :
    (finish p).launch.state = .idle ∧ (finish p).launch.retain = p.launch.retain := by
  have honce : settleOnce p = judgeLaunch { p with work := { p.work with launch := false } } := by rw [settleOnce, if_pos hcall]
  obtain ⟨hidle, hretain⟩ := judgeLaunch_blocked (p := { p with work := { p.work with launch := false } }) h hstate
  have hblocked : Blocked (settleOnce p) := by
    refine h.imp (works_settleOnce p).remembers.stopped fun h => ?_
    rw [segmentCount, (still_fields (still_settleOnce p)).2.1]
    exact h
  rw [← honce] at hidle hretain
  obtain ⟨hstate', hretain'⟩ := settle_blocked 63 hblocked hidle
  have hsettle : settle 64 p = settle 63 (settleOnce p) := by
    rw [settle, if_neg (by simp [Work.quiet, hcall])]
  rw [finish_launch, hsettle]
  exact ⟨hstate', hretain'.trans hretain⟩

end Sys2Proof.Machine

/-! A passage at D2 to D6 that moves an entry: what it leaves before the Door Sequencer's work (R3, R6, R7). -/

namespace Sys2Proof.Machine

/-! ### The stages -/

/-- The entry has moved and the hold section is recounted. -/
def passageMoved (k : Nat) (e : QueueEntry) (n : PassageNote) (p : Part) : Part := recountHold (k == 4) (moveEntry e.serial k n.time p)

/-- A D5 passage has been handed to Launch Control. -/
def passageLaunched (k : Nat) (e : QueueEntry) (n : PassageNote) (p : Part) : Part :=
  if k == 5 then retainerPassage (some e.cabin) n.time (restartGap p) else p

/-- A D6 passage has opened the grip window. -/
def passageGripped (k : Nat) (e : QueueEntry) (n : PassageNote) (p : Part) : Part :=
  if k == 6 then openGrip e.cabin n.time p else p

/-- The passage as the Door Sequencer is handed it. -/
def passageOf (k : Nat) (e : QueueEntry) (n : PassageNote) : Passage :=
  { detector := k, cabin := e.cabin, serial := e.serial, lockSensed := n.lockSensed }

/-- The part that is handed to the Door Sequencer. -/
def passageHanded (k : Nat) (e : QueueEntry) (n : PassageNote) (p : Part) : Part :=
  passageGripped k e n (passageLaunched k e n (passageMoved k e n p))

theorem takePassage_moves {k : Nat} {n : PassageNote} {p : Part} {e : QueueEntry}
    (hwait : (if k == 2 then endWait p else p) = p) (h : oldestBefore p (k - 1) n.time = some e) :
    takePassage k n p = sequencerPassage (passageOf k e n) (passageHanded k e n p) := by
  unfold takePassage
  dsimp only
  rw [hwait, h]
  rfl

theorem takePassage_phantom {k : Nat} {n : PassageNote} {p : Part}
    (hwait : (if k == 2 then endWait p else p) = p) (h : oldestBefore p (k - 1) n.time = none) :
    takePassage k n p = phantomPassage k n.time p := by
  unfold takePassage
  dsimp only
  rw [hwait, h]

theorem endWait_none {k : Nat} {p : Part} (h : k = 2 → ∀ d, p.track.matcher ≠ .passageWaiting d) :
    (if k == 2 then endWait p else p) = p := by
  split
  next hk =>
    unfold endWait
    split
    next d hd => exact absurd hd (h (by simpa using hk) d)
    next => rfl
  next => rfl

/-! ### What the stages keep -/

/-- What a station passage keeps besides the queue. -/
structure PassageStands (p q : Part) : Prop where
  roster : q.track.roster = p.track.roster
  matcher : q.track.matcher = p.track.matcher
  detectors : q.track.detectors = p.track.detectors
  trackOverflow : q.track.trackOverflow = p.track.trackOverflow
  place : ∀ k, (cabin q k).place = (cabin p k).place
  line : q.line = p.line
  messages : q.messages = p.messages
  sensors : q.sensors = p.sensors
  clock : q.clock = p.clock
  doors : q.doors = p.doors
  sequencer : q.sequencer = p.sequencer

theorem PassageStands.trans {p q r : Part} (h : PassageStands p q) (g : PassageStands q r) : PassageStands p r where
  roster := g.roster.trans h.roster
  matcher := g.matcher.trans h.matcher
  detectors := g.detectors.trans h.detectors
  trackOverflow := g.trackOverflow.trans h.trackOverflow
  place k := (g.place k).trans (h.place k)
  line := g.line.trans h.line
  messages := g.messages.trans h.messages
  sensors := g.sensors.trans h.sensors
  clock := g.clock.trans h.clock
  doors := g.doors.trans h.doors
  sequencer := g.sequencer.trans h.sequencer

theorem PassageStands.refl (p : Part) : PassageStands p p := ⟨rfl, rfl, rfl, rfl, fun _ => rfl, rfl, rfl, rfl, rfl, rfl, rfl⟩

section
variable (k : Nat) (e : QueueEntry) (n : PassageNote) (p : Part)

theorem passageMoved_stands : PassageStands p (passageMoved k e n p) := by
  refine ⟨?_, ?_, ?_, ?_, fun j => ?_, ?_, ?_, ?_, ?_, ?_, ?_⟩
  case refine_5 => rw [passageMoved, cabin_of_cabins_eq (show _ = p.cabins by simp)]
  all_goals simp [passageMoved, moveEntry, modEntry]

theorem passageMoved_queue : (passageMoved k e n p).track.queue = (moveEntry e.serial k n.time p).track.queue ∧
    (passageMoved k e n p).launch = p.launch ∧ (passageMoved k e n p).grip = p.grip := by
  refine ⟨?_, ?_, ?_⟩
  · simp [passageMoved]
  · simp [passageMoved]
  · simp [passageMoved, moveEntry, modEntry]

theorem passageMoved_remembers : Remembers p (passageMoved k e n p) :=
  Remembers.trans (q := moveEntry e.serial k n.time p) (.of_eq rfl rfl (.of_eq rfl)) (recountHold_remembers ..)

theorem passageLaunched_stands : PassageStands p (passageLaunched k e n p) ∧ (passageLaunched k e n p).track = p.track ∧
    (passageLaunched k e n p).grip = p.grip ∧ HoldStays p (passageLaunched k e n p) := by
  unfold passageLaunched
  split
  · obtain ⟨⟨hclock, -, htrack, hsensors, hgrip, hline, hmessages, hseq, -⟩, hdoors⟩ := retainerPassage_kept (some e.cabin) n.time (restartGap p)
    have hold := (retainerPassage_remembers (some e.cabin) n.time (restartGap p)).2
    exact ⟨⟨by rw [htrack]; rfl, by rw [htrack]; rfl, by rw [htrack]; rfl, by rw [htrack]; rfl, fun j => retainerPassage_record ..,
      hline, hmessages, hsensors, hclock, hdoors, hseq⟩, htrack, hgrip, hold⟩
  · exact ⟨.refl p, rfl, rfl, rfl⟩

theorem openGrip_place (j : Nat) : (cabin (openGrip e.cabin n.time p) j).place = (cabin p j).place := by
  have hopen : cabin (openGrip e.cabin n.time p) j = cabin (closeGrip true p) j := rfl
  rw [hopen, closeGrip_record]

theorem passageGripped_stands : PassageStands p (passageGripped k e n p) ∧ (passageGripped k e n p).track = p.track ∧
    HoldStays p (passageGripped k e n p) := by
  unfold passageGripped
  split
  · obtain ⟨hclock, -, htrack, hsensors, -, hdoors, hseq, hline, hmessages, -⟩ := openGrip_kept e.cabin n.time p
    have hhold : HoldStays p (openGrip e.cabin n.time p) := closeGrip_hold true p
    exact ⟨⟨by rw [htrack], by rw [htrack], by rw [htrack], by rw [htrack], openGrip_place e n p, hline, hmessages, hsensors, hclock,
      hdoors, hseq⟩, htrack, hhold⟩
  · exact ⟨.refl p, rfl, rfl⟩

theorem passageHanded_stands : PassageStands p (passageHanded k e n p) ∧
    (passageHanded k e n p).track = (passageMoved k e n p).track ∧ HoldStays (passageMoved k e n p) (passageHanded k e n p) := by
  obtain ⟨launched, launchedTrack, -, launchedHold⟩ := passageLaunched_stands k e n (passageMoved k e n p)
  obtain ⟨gripped, grippedTrack, grippedHold⟩ := passageGripped_stands k e n (passageLaunched k e n (passageMoved k e n p))
  exact ⟨((passageMoved_stands k e n p).trans launched).trans gripped, grippedTrack.trans launchedTrack, grippedHold.trans launchedHold⟩

end

section
variable {k : Nat} {e : QueueEntry} {n : PassageNote} {p : Part}

theorem passageHanded_early (h5 : k ≠ 5) (h6 : k ≠ 6) : passageHanded k e n p = passageMoved k e n p := by
  rw [passageHanded, passageLaunched, if_neg (by simpa using h5), passageGripped, if_neg (by simpa using h6)]

theorem passageHanded_D5 : passageHanded 5 e n p = retainerPassage (some e.cabin) n.time (restartGap (passageMoved 5 e n p)) := rfl

theorem passageHanded_D6 : passageHanded 6 e n p = openGrip e.cabin n.time (passageMoved 6 e n p) := rfl

theorem passageHanded_grip (h6 : k ≠ 6) : (passageHanded k e n p).grip = p.grip := by
  rw [passageHanded, passageGripped, if_neg (by simpa using h6), (passageLaunched_stands ..).2.2.1, (passageMoved_queue ..).2.2]

theorem passageHanded_queue {before after : List QueueEntry} (h : p.track.queue = before ++ e :: after)
    (hserials : (p.track.queue.map (fun e => e.serial)).Nodup) :
    (passageHanded k e n p).track.queue = before ++ { e with segment := k, entered := n.time } :: after := by
  rw [(passageHanded_stands ..).2.1, (passageMoved_queue ..).1]
  exact moveEntry_split h hserials

/-- The HOLD cap and the overflow follow the count of S4 that the passage leaves. -/
theorem passageHanded_hold : (passageHanded k e n p).sup.caps.hold = decide (3 ≤ segmentCount (passageHanded k e n p) 4) ∧
    (passageHanded k e n p).track.holdOverflow = decide (4 ≤ segmentCount (passageHanded k e n p) 4) := by
  obtain ⟨-, htrack, hhold⟩ := passageHanded_stands k e n p
  have hcount : segmentCount (passageHanded k e n p) 4 = segmentCount (moveEntry e.serial k n.time p) 4 := by
    rw [segmentCount, htrack, (passageMoved_queue ..).1, segmentCount]
  obtain ⟨hcap, hover⟩ := recountHold_counts (k == 4) (moveEntry e.serial k n.time p)
  exact ⟨hhold.trans (hcap.trans (by rw [hcount])), by rw [htrack, hcount]; exact hover⟩

end

end Sys2Proof.Machine

/-! The lock check at D4 (R112), and a D2 passage that finds a D1 passage waiting (R13). -/

namespace Sys2Proof.Machine

/-! ### The causes of another kind -/

/-- The causes of unlocked cabin doors. -/
abbrev unlockedListed (u : Supervisor) : List Cause := u.causes.filter (fun c => c.kind == .cabinDoorUnlocked)

theorem filter_map_other {k : CauseKind} (hk : k ≠ .cabinDoorUnlocked) (n : Nat) (f : Cause → Cause) (hf : ∀ c, (f c).kind = c.kind)
    (l : List Cause) : (l.map (fun c => if c.names k n then f c else c)).filter (fun c => c.kind == .cabinDoorUnlocked) =
      l.filter (fun c => c.kind == .cabinDoorUnlocked) := by
  induction l with
  | nil => rfl
  | cons c l ih =>
    rw [List.map_cons]
    by_cases hc : c.names k n = true
    · have hkind : (c.kind == .cabinDoorUnlocked) = false := by
        simp only [Cause.names, Bool.and_eq_true, beq_iff_eq] at hc
        simpa [hc.1] using hk
      rw [if_pos hc, List.filter_cons_of_neg (by rw [hf, hkind]; simp), List.filter_cons_of_neg (by rw [hkind]; simp), ih]
    · rw [if_neg hc, List.filter_cons, List.filter_cons, ih]

theorem report_unlockedListed {k : CauseKind} (hk : k ≠ .cabinDoorUnlocked) (n : Nat) (c : Category) (b : Bool) (p : Part) :
    unlockedListed (report k n c b p).sup = unlockedListed p.sup := by
  have hcauses := (changeMode_kept_causes (modeAfterCause p.sup.mode c) (causeNoted k n c b p)).1
  rw [report_eq, unlockedListed, hcauses]
  show (enterCause k n c b p.clock.now p.sup).causes.filter _ = _
  unfold enterCause
  split
  · exact filter_map_other hk n (fun x => { x with
      category := x.category.max c, repeats := countTo 255 x.repeats, present := x.present || b }) (fun _ => rfl) p.sup.causes
  · split
    · rw [List.filter_append, List.filter_cons_of_neg (by simpa using hk), List.filter_nil, List.append_nil]
    · rfl

theorem gone_unlockedListed {k : CauseKind} (hk : k ≠ .cabinDoorUnlocked) (n : Nat) (p : Part) :
    unlockedListed (gone k n p).sup = unlockedListed p.sup := by
  have hcauses : (gone k n p).sup.causes = p.sup.causes.map (fun c => if c.names k n then { c with present := false } else c) := by
    unfold gone
    dsimp only
    split <;> rfl
  rw [unlockedListed, hcauses]
  exact filter_map_other hk n (fun x => { x with present := false }) (fun _ => rfl) p.sup.causes

theorem setHoldCap_causes (b : Bool) (p : Part) : (setHoldCap b p).sup.causes = p.sup.causes := by
  rw [setHoldCap, setCaps_sup]
  split <;> rfl

theorem recountHold_unlockedListed (b : Bool) (p : Part) : unlockedListed (recountHold b p).sup = unlockedListed p.sup := by
  have capped := congrArg (List.filter (fun c => c.kind == .cabinDoorUnlocked)) (setHoldCap_causes (decide (3 ≤ segmentCount p 4)) p)
  unfold recountHold
  dsimp only
  generalize setHoldCap (decide (3 ≤ segmentCount p 4)) p = q at capped ⊢
  have told : unlockedListed (reportHoldOverflow q).sup = unlockedListed q.sup := report_unlockedListed (by decide) ..
  (repeat' split)
  · exact told.trans capped
  · exact capped
  · exact (gone_unlockedListed (by decide) ..).trans capped
  · exact capped

/-! ### The lock check (R112) -/

section
variable {e : QueueEntry} {n : PassageNote} {p : Part}

theorem lockCheck_numbered (hk : isCabin e.cabin = true) :
    (cabin (lockCheck (passageOf 4 e n) p) e.cabin).door = (if n.lockSensed then .locked else .notLocked) ∧
      (lockCheck (passageOf 4 e n) p).track = p.track ∧
      (n.lockSensed = false → (lockCheck (passageOf 4 e n) p).window.attention.getLsbD 5 = true ∧
        CauseEntered .cabinDoorUnlocked e.cabin (lockCheck (passageOf 4 e n) p).sup ∧
        ConditionPresent .cabinDoorUnlocked e.cabin (lockCheck (passageOf 4 e n) p).sup ∧
        (lockCheck (passageOf 4 e n) p).sup.mode.isRunning = false) ∧
      (n.lockSensed = true → (lockCheck (passageOf 4 e n) p).sup = p.sup) := by
  have hbody : lockCheck (passageOf 4 e n) p = if n.lockSensed then setDoor e.cabin .locked p
      else reportUnlocked e.cabin true (setDoor e.cabin .notLocked p) := by
    unfold lockCheck
    rw [if_pos (show isCabin (passageOf 4 e n).cabin = true from hk)]
    cases hl : n.lockSensed <;> simp [passageOf, hl]
  rw [hbody]
  cases n.lockSensed with
  | true => exact ⟨by rw [if_pos rfl, cabin_setDoor_same hk]; rfl, by simp, nofun, fun _ => by simp⟩
  | false =>
    rw [if_neg (by decide)]
    refine ⟨?_, by simp, fun _ => ⟨?_, report_entered .., report_present .., report_not_running ..⟩, nofun⟩
    · have hcabins : (reportUnlocked e.cabin true (setDoor e.cabin .notLocked p)).cabins = (setDoor e.cabin .notLocked p).cabins := by simp
      rw [cabin_of_cabins_eq hcabins, cabin_setDoor_same hk]
      rfl
    · unfold reportUnlocked
      dsimp only
      refine report_bitsStay _ _ _ _ _ 5 ?_
      split <;> simp [attend, Attn.bit, modSeq]

theorem lockCheck_unnumbered (hk : isCabin e.cabin = false) :
    lockCheck (passageOf 4 e n) p = modEntry e.serial (fun e => { e with heldLock := some n.lockSensed }) p :=
  if_neg (by simp [passageOf, hk])

theorem passageChecked_D4 (q : Part) : passageChecked (passageOf 4 e n) q = lockCheck (passageOf 4 e n) q := rfl

/-- The judgements of a part in which nothing waits keep the causes of unlocked doors and their conditions. -/
theorem finish_calm {q u : Part} (hu : u = finish q) (hwaits : NothingWaits q) : u.cabins = q.cabins ∧ u.track = q.track ∧
    unlockedListed u.sup = unlockedListed q.sup ∧
    (∀ k, ConditionPresent .cabinDoorUnlocked k q.sup → ConditionPresent .cabinDoorUnlocked k u.sup) := by
  have calm := (settle_calm hwaits).1
  have hpresent := fun k => (calm.present_iff (k := .cabinDoorUnlocked) (by decide) k).mpr
  obtain ⟨-, -, -, htrack, hcabins, -, -, -, -, -, -, hcauses, -⟩ := calm
  have listed (l : List Cause) : l.filter (fun c => c.kind == .cabinDoorUnlocked) =
      (l.filter (fun c => c.kind != .releaseTimeout)).filter (fun c => c.kind == .cabinDoorUnlocked) := by
    rw [List.filter_filter]
    refine List.filter_congr fun c _ => ?_
    cases c.kind <;> rfl
  rw [hu]
  refine ⟨(finish_cabins q).trans hcabins, (finish_track q).trans htrack, ?_, fun k hk => ?_⟩
  · rw [unlockedListed, finish_sup]
    show (settle 64 q).sup.causes.filter _ = _
    rw [listed, hcauses, ← listed]
  · rw [finish_sup]
    exact hpresent k hk

end

/-! ### The arrival that a D2 passage decides (R13) -/

section
variable {rep : Option Nat} {passed : Time} {p : Part}

/-- What the queue lists and what the roster holds after an arrival with room, and where it is out of turn. -/
theorem decideArrival_joins (hroom : p.track.queue.length < 15) :
    (decideArrival rep passed p).track.queue.map QueueEntry.listing = p.track.queue.map QueueEntry.listing ++
      [(p.track.nextSerial, (identified p rep).getD 0, 1, passed)] ∧
    rosterNumbers (decideArrival rep passed p) = (match identified p rep with
      | none => rosterNumbers p
      | some n => (rosterNumbers p).filter (fun k => k != n)) ∧
    (∀ k, (cabin (decideArrival rep passed p) k).place = if identified p rep = some k ∧ isCabin k = true then .inStation
      else (cabin p k).place) ∧
    (outOfTurn p rep = true → CauseEntered .sequenceFault 1 (decideArrival rep passed p).sup) := by
  have lists := (arrivalTold_lists (rep := rep) (p := p) (q := arrivalJoined rep passed p)).trans
    (sequencerPassage_lists (arrivalPassage rep p) _)
  have kept := sequencerPassage_remembers (arrivalPassage rep p) (arrivalTold rep p (arrivalJoined rep passed p))
  rw [← decideArrival_room hroom] at lists kept
  refine ⟨?_, ?_, fun k => ?_, fun h => kept.entered (arrivalTold_fault h).1⟩
  · rw [lists.queue, arrivalJoined_queue, List.map_append]; rfl
  · rw [rosterNumbers, lists.roster]; exact arrivalJoined_roster
  · rw [lists.record k]; exact arrivalJoined_place k

/-- And at a full queue. -/
theorem decideArrival_turns (hfull : 15 ≤ p.track.queue.length) :
    (decideArrival rep passed p).track.queue = p.track.queue ∧
    rosterNumbers (decideArrival rep passed p) = (match identified p rep with
      | none => rosterNumbers p
      | some n => (rosterNumbers p).filter (fun k => k != n)) ∧
    (∀ k, (cabin (decideArrival rep passed p) k).place = if identified p rep = some k ∧ isCabin k = true then .unknown
      else (cabin p k).place) ∧
    CauseEntered .trackOverflow 1 (decideArrival rep passed p).sup ∧ (decideArrival rep passed p).track.trackOverflow = true := by
  obtain ⟨queue, roster, place⟩ := arrivalTurned_lists rep p
  have lists := reportTrack_lists .trackOverflow 1 .fast true (modTrack (fun t => { t with trackOverflow := true }) (arrivalTurned rep p))
  have entered := (reportTrack_told .trackOverflow 1 .fast true (modTrack (fun t => { t with trackOverflow := true }) (arrivalTurned rep p))).1
  have track := (reportTrack_kept .trackOverflow 1 .fast true (modTrack (fun t => { t with trackOverflow := true }) (arrivalTurned rep p))).2.1
  rw [← refuseArrival_eq, ← decideArrival_full (passed := passed) hfull] at lists entered track
  refine ⟨?_, ?_, fun k => ?_, entered, ?_⟩
  · rw [track]; exact queue
  · rw [rosterNumbers, lists.roster]; exact roster
  · rw [lists.record k]; exact place k
  · rw [track]; rfl

end

end Sys2Proof.Machine

/-! STATION_PASSAGE at D2 to D6 (R3, R5, R6, R7, R50, R112). -/

namespace Sys2Proof.Machine

section
variable {k : Nat} {s : State} (hready : Ready s) (h2 : 2 ≤ k) (h6 : k ≤ 6) {n : PassageNote} (hn : passageAt k s.part = some n)
include hready h2 h6 hn

theorem stationPassage_runs :
    exec (.stationPassage k) s = .next { s with part := finish (takePassage k n (clearPassage k s.part)) } := by
  have hbody : withPassage k (takePassage k) s.part = takePassage k n (clearPassage k s.part) := withPassage_some hn _
  have hdue : stationPassageDue k s.part = true := by
    simp [stationPassageDue, stationDetectorOk, passageDue, hn, h2, h6]
  have hacts := occurs_acts (f := withPassage k (takePassage k)) hready.1 hdue
  rw [hbody] at hacts
  exact hacts

end

/-- The actions, the doors and the clock as the Door Sequencer takes up a passage. -/
structure SequencerStart (p q : Part) : Prop where
  sequencer : q.sequencer = p.sequencer
  doors : q.doors = p.doors
  clock : q.clock = p.clock

/-! ### Between the hand-over and the end of the event -/

section
variable {k : Nat} {e : QueueEntry} {n : PassageNote} {r u : Part} (hu : u = finish (sequencerPassage (passageOf k e n) r))
include hu

theorem handed_hold : HoldStays r u := by
  rw [hu]
  exact (finish_hold _).trans (sequencerPassage_hold ..)

theorem handed_lists : ListsStand r u ∧ Remembers r u := exit_ends hu

end

/-! ### D5 -/

section
variable {e : QueueEntry} {n : PassageNote} {p u : Part} {before after : List QueueEntry}
variable (hu : u = finish (sequencerPassage (passageOf 5 e n) (passageHanded 5 e n p)))
variable (hqueue : p.track.queue = before ++ e :: after) (hserials : (p.track.queue.map (fun e => e.serial)).Nodup)
include hu hqueue hserials

/-- The entry in S5, or the report, keeps Launch Control from a request. -/
theorem passage_D5_launch : u.launch.state = .idle ∧
    u.launch.retain = (p.launch.retain && decide (p.launch.state ≠ .releasing)) := by
  have hlaunch : (restartGap (passageMoved 5 e n p)).launch = p.launch := by
    show (passageMoved 5 e n p).launch = _
    exact (passageMoved_queue 5 e n p).2.1
  have hseg : segmentCount (passageHanded 5 e n p) 5 ≠ 0 := by
    rw [segmentCount, passageHanded_queue hqueue hserials]
    have : 0 < (before ++ { e with segment := 5, entered := n.time } :: after).countP (fun e => e.segment == 5) :=
      List.countP_pos_iff.mpr ⟨_, List.mem_append_right _ (List.mem_cons_self ..), rfl⟩
    omega
  have hblocked : Blocked (sequencerPassage (passageOf 5 e n) (passageHanded 5 e n p)) :=
    .inr (by rw [(sequencerPassage_lists ..).segment]; exact hseg)
  have hcall := (sequencerPassage_heeds (passageOf 5 e n) (passageHanded 5 e n p)).called (by rw [passageHanded_D5]; rfl)
  have hkept : (sequencerPassage (passageOf 5 e n) (passageHanded 5 e n p)).launch = (passageHanded 5 e n p).launch := by simp
  have hstart : (passageHanded 5 e n p).launch.state ≠ .releasing ∧
      (passageHanded 5 e n p).launch.retain = (p.launch.retain && decide (p.launch.state ≠ .releasing)) := by
    rw [passageHanded_D5]
    by_cases h : p.launch.state = .releasing
    · obtain ⟨hstate, hretain, -⟩ := retainerPassage_ends (k := e.cabin) (passed := n.time) (p := restartGap (passageMoved 5 e n p))
        (by rw [hlaunch]; exact h)
      exact ⟨by rw [hstate]; decide, by rw [hretain]; simp [h]⟩
    · obtain ⟨hstate, hretain, -⟩ := retainerPassage_faults (k := e.cabin) (passed := n.time) (p := restartGap (passageMoved 5 e n p))
        (by rw [hlaunch]; exact h)
      rw [hlaunch] at hstate hretain
      exact ⟨by rw [hstate]; exact h, by rw [hretain]; simp [h]⟩
  obtain ⟨hidle, hretain⟩ := finish_blocked hcall hblocked (by rw [hkept]; exact hstart.1)
  rw [hu]
  exact ⟨hidle, hretain.trans (by rw [hkept, hstart.2])⟩

omit hqueue hserials

theorem passage_D5_gap : u.rope.gapAcc = 0 := by
  have kept := (handed_lists hu).2.gap
  rw [passageHanded_D5, (retainerPassage_remembers ..).1.gap] at kept
  exact kept

theorem passage_D5_release (h : p.launch.state = .releasing) (hk : isCabin e.cabin = true) :
    (cabin u e.cabin).lastRelease = n.time := by
  have hlaunch : (restartGap (passageMoved 5 e n p)).launch = p.launch := (passageMoved_queue 5 e n p).2.1
  have hlast := (retainerPassage_ends (k := e.cabin) (passed := n.time) (p := restartGap (passageMoved 5 e n p)) (by rw [hlaunch]; exact h)).2.2 hk
  rw [(handed_lists hu).1.record]
  exact hlast

theorem passage_D5_fault (h : p.launch.state ≠ .releasing) : CauseEntered .sequenceFault 5 u.sup := by
  have hlaunch : (restartGap (passageMoved 5 e n p)).launch = p.launch := (passageMoved_queue 5 e n p).2.1
  obtain ⟨-, -, entered, -⟩ := retainerPassage_faults (k := e.cabin) (passed := n.time) (p := restartGap (passageMoved 5 e n p)) (by rw [hlaunch]; exact h)
  exact (handed_lists hu).2.entered entered

end

/-! ### D4 -/

section
variable {e : QueueEntry} {n : PassageNote} {p u : Part} {before after : List QueueEntry}
variable (hu : u = finish (sequencerPassage (passageOf 4 e n) (passageHanded 4 e n p)))
include hu

theorem passage_D4_overflow (h : 4 ≤ segmentCount u 4) : CauseEntered .holdOverflow 4 u.sup := by
  obtain ⟨lists, kept⟩ := handed_lists hu
  refine kept.entered ?_
  have hcount : segmentCount (moveEntry e.serial 4 n.time p) 4 = segmentCount u 4 := by
    rw [lists.segment, passageHanded_early (by omega) (by omega), segmentCount, ← (passageMoved_queue ..).1]
    rfl
  rw [passageHanded_early (by omega) (by omega)]
  exact recountHold_enters (by rw [hcount]; exact h)

variable {s : State} (hstands : SequencerStart s.part (passageHanded 4 e n p))
variable (hdue : NoneDueAt 4 e.cabin e.serial (some e.serial) s.part)
include hstands hdue

/-- Where no action is due, the lock check ends the passage's work. -/
theorem passage_D4_checked : ∃ q, ActionKeeps (passageHanded 4 e n p) q ∧ NothingWaits (lockCheck (passageOf 4 e n) q) ∧ u = finish (lockCheck (passageOf 4 e n) q) := by
  have hundue := sequencerPassage_undue (g := passageOf 4 e n) (s := s) (ref := some e.serial) rfl hstands.sequencer hstands.doors
    hstands.clock hdue
  have hwaits := sequencerPassage_nothingWaits (g := passageOf 4 e n) (s := s) (ref := some e.serial) rfl hstands.sequencer hstands.doors
    hstands.clock hdue (r := sequencerPassage (passageOf 4 e n) (passageHanded 4 e n p)) ⟨rfl, rfl, rfl, fun _ h => h⟩
  refine ⟨passageMade (passageOf 4 e n) (passageHanded 4 e n p), ?_, ?_, ?_⟩
  · have cleared : ActionKeeps (passageHanded 4 e n p) (passageCleared (passageOf 4 e n) (passageHanded 4 e n p)) := by
      unfold passageCleared
      exact (removeActions_kept ..).trans (judgeLate_kept ..)
    refine cleared.trans ?_
    unfold passageMade
    exact triggered_kept ..
  · rw [hundue, passageChecked_D4] at hwaits
    exact hwaits
  · rw [hu, hundue, passageChecked_D4]

end

end Sys2Proof.Machine

/-! STATION_PASSAGE at D2 to D6 with an entry to move, and as a phantom (R3, R5, R6, R7, R112). -/

namespace Sys2Proof.Machine

/-! ### The lock check as the end of the event shows it (R112) -/

section
variable {e : QueueEntry} {n : PassageNote} {p u : Part} {before after : List QueueEntry} {s : State}
variable (hu : u = finish (sequencerPassage (passageOf 4 e n) (passageHanded 4 e n p)))
variable (hstands : SequencerStart s.part (passageHanded 4 e n p))
variable (hdue : NoneDueAt 4 e.cabin e.serial (some e.serial) s.part)
variable (hqueue : p.track.queue = before ++ e :: after) (hserials : (p.track.queue.map (fun e => e.serial)).Nodup)

theorem passage_D4_listed {q : Part} (hq : ActionKeeps (passageHanded 4 e n p) q) : unlockedListed q.sup = unlockedListed p.sup := by
  obtain ⟨-, -, hsup, -⟩ := hq
  rw [hsup, passageHanded_early (by omega) (by omega)]
  exact recountHold_unlockedListed ..

include hu hstands hdue hqueue hserials

theorem passage_D4_numbered (hk : isCabin e.cabin = true) :
    (cabin u e.cabin).door = (if n.lockSensed then .locked else .notLocked) ∧
      u.track.queue.map (fun x => x.heldLock) = p.track.queue.map (fun x => x.heldLock) ∧
      (n.lockSensed = false → u.window.attention.getLsbD 5 = true ∧ CauseEntered .cabinDoorUnlocked e.cabin u.sup ∧
        ConditionPresent .cabinDoorUnlocked e.cabin u.sup ∧ u.sup.mode.isRunning = false) ∧
      (n.lockSensed = true → unlockedListed u.sup = unlockedListed p.sup) := by
  obtain ⟨q, hq, hwaits, hchecked⟩ := passage_D4_checked hu hstands hdue
  obtain ⟨ucabins, utrack, ulisted, upresent⟩ := finish_calm hchecked hwaits
  obtain ⟨door, track, told, locked⟩ := lockCheck_numbered (e := e) (n := n) (p := q) hk
  have listed := passage_D4_listed hq
  have kept : Remembers (lockCheck (passageOf 4 e n) q) u := by rw [hchecked]; exact finish_remembers _
  have qtrack : q.track = (passageHanded 4 e n p).track := hq.1.2.2.1
  refine ⟨by rw [cabin_of_cabins_eq ucabins, door], ?_, fun hl => ?_, fun hl => ?_⟩
  · rw [utrack, track, qtrack, passageHanded_queue hqueue hserials, hqueue, List.map_append, List.map_append]
    rfl
  · obtain ⟨bit, entered, present, stopped⟩ := told hl
    exact ⟨kept.bits 5 bit, kept.entered entered, upresent _ present, kept.stopped stopped⟩
  · rw [ulisted, locked hl, listed]

theorem passage_D4_unnumbered (hk : isCabin e.cabin = false) : unlockedListed u.sup = unlockedListed p.sup ∧
    u.track.queue.map (fun x => x.heldLock) =
      before.map (fun x => x.heldLock) ++ some n.lockSensed :: after.map (fun x => x.heldLock) := by
  obtain ⟨q, hq, hwaits, hchecked⟩ := passage_D4_checked hu hstands hdue
  obtain ⟨-, utrack, ulisted, -⟩ := finish_calm hchecked hwaits
  have listed := passage_D4_listed hq
  rw [lockCheck_unnumbered hk] at utrack ulisted
  have qqueue : q.track.queue = before ++ { e with segment := 4, entered := n.time } :: after := by
    rw [hq.1.2.2.1]; exact passageHanded_queue hqueue hserials
  have qserials : (q.track.queue.map (fun e => e.serial)).Nodup := by
    rw [qqueue]
    rw [hqueue] at hserials
    simpa using hserials
  have noted := moveEntry_split (f := fun e => { e with heldLock := some n.lockSensed }) qqueue qserials
  refine ⟨ulisted.trans ((congrArg unlockedListed (by simp)).trans listed), ?_⟩
  rw [utrack]
  refine (congrArg (List.map (fun x : QueueEntry => x.heldLock)) noted).trans ?_
  rw [List.map_append, List.map_cons]

end

/-- What a phantom passage leaves before the end of its event. -/
theorem phantomPassage_leaves (k : Nat) (passed : Time) (p : Part) :
    (phantomPassage k passed p).track = p.track ∧ (∀ j, (cabin (phantomPassage k passed p) j).place = (cabin p j).place) ∧
      CauseEntered .sequenceFault k (phantomPassage k passed p).sup ∧ (phantomPassage k passed p).sup.mode.isRunning = false ∧
      (phantomPassage k passed p).window.attention.getLsbD 4 = true ∧ (k = 5 → (phantomPassage k passed p).rope.gapAcc = 0) ∧
      (phantomPassage k passed p).grip = p.grip ∧ (phantomPassage k passed p).messages = p.messages := by
  obtain ⟨entered, stopped, bit⟩ := reportTrack_told .sequenceFault k .service false p
  have lists := reportTrack_lists .sequenceFault k .service false p
  have track := (reportTrack_kept .sequenceFault k .service false p).2.1
  by_cases h5 : k = 5
  · subst h5
    have hbody : phantomPassage 5 passed p = retainerPassage none passed (restartGap (reportTrack .sequenceFault 5 .service false p)) := rfl
    rw [hbody]
    generalize reportTrack .sequenceFault 5 .service false p = q at entered stopped bit lists track
    have kept := (retainerPassage_remembers none passed (restartGap q)).1
    obtain ⟨-, -, rtrack, -, rgrip, -, rmessages, -⟩ := (retainerPassage_kept none passed (restartGap q)).1
    refine ⟨rtrack.trans track, fun j => ?_, kept.entered entered, kept.stopped stopped, kept.bits 4 bit, fun _ => kept.gap,
      rgrip.trans lists.grip, rmessages.trans lists.messages⟩
    rw [retainerPassage_record]
    show (cabin q j).place = _
    rw [lists.record]
  · rw [phantomPassage_elsewhere h5]
    exact ⟨track, fun j => by rw [lists.record], entered, stopped, bit, fun h => absurd h h5, lists.grip, lists.messages⟩

section
variable {k : Nat} {s : State} (hready : Ready s) (h2 : 2 ≤ k) (h6 : k ≤ 6) {n : PassageNote} (hn : passageAt k s.part = some n)
include hready h2 h6 hn

/-- A station passage that moves an entry is handed to the Door Sequencer. -/
theorem stationPassage_hands {before after : List QueueEntry} {e : QueueEntry}
    (hwait : k = 2 → ∀ d, s.part.track.matcher ≠ .passageWaiting d) (hqueue : s.part.track.queue = before ++ e :: after)
    (hseg : e.segment = k - 1) (hearlier : earlier e.entered n.time = true)
    (hbefore : ∀ x ∈ before, ¬ (x.segment = k - 1 ∧ earlier x.entered n.time = true)) :
    ∃ t p, exec (.stationPassage k) s = .next t ∧ ArrivalStart s.part p ∧ p.track.matcher = s.part.track.matcher ∧
      passageAt k p = none ∧ t.part = finish (sequencerPassage (passageOf k e n) (passageHanded k e n p)) := by
  have hstart := (clearPassage_start k s.part .empty).2
  refine ⟨_, clearPassage k s.part, stationPassage_runs hready h2 h6 hn, hstart, clearPassage_matcher k s.part,
    passageAt_clearPassage (by omega) s.part, ?_⟩
  have hmatcher := clearPassage_matcher k s.part
  generalize clearPassage k s.part = p at hstart hmatcher ⊢
  have hqueue' : p.track.queue = before ++ e :: after := hstart.outside.1.trans hqueue
  rw [takePassage_moves (endWait_none (by rw [hmatcher]; exact hwait)) (oldestBefore_some hqueue' hseg hearlier hbefore)]

/-- A phantom passage (R5). -/
theorem stationPassage_phantom (hwait : k = 2 → ∀ d, s.part.track.matcher ≠ .passageWaiting d)
    (hnone : ∀ x ∈ s.part.track.queue, ¬ (x.segment = k - 1 ∧ earlier x.entered n.time = true)) :
    After (.stationPassage k) s (fun t =>
      t.part.track.queue = s.part.track.queue ∧ t.part.track.roster = s.part.track.roster ∧ passageAt k t.part = none ∧
      (∀ j : Fin 128, (t.part.cabins.get j).place = (s.part.cabins.get j).place) ∧
      CauseEntered .sequenceFault k t.part.sup ∧ t.part.sup.mode.isRunning = false ∧ t.part.window.attention.getLsbD 4 = true ∧
      (k = 5 → t.part.rope.gapAcc = 0) ∧ t.part.grip = s.part.grip ∧ t.part.messages = s.part.messages) := by
  have hstart := (clearPassage_start k s.part .empty).2
  have hmatcher := clearPassage_matcher k s.part
  have hpassage := passageAt_clearPassage (k := k) (by omega) s.part
  refine ⟨_, stationPassage_runs hready h2 h6 hn, ?_⟩
  generalize clearPassage k s.part = p at hstart hmatcher hpassage ⊢
  obtain ⟨pqueue, proster, -, pcabins, -, -, -, -, -, pmessages, -, pgrip, -⟩ := hstart.outside
  rw [takePassage_phantom (endWait_none (by rw [hmatcher]; exact hwait)) (oldestBefore_none (by rw [pqueue]; exact hnone))]
  obtain ⟨track, place, entered, stopped, bit, gap, grip, messages⟩ := phantomPassage_leaves k n.time p
  generalize phantomPassage k n.time p = q at track place entered stopped bit gap grip messages ⊢
  have kept := finish_remembers q
  have lists := finish_lists q
  have utrack : (finish q).track = p.track := ((still_fields (still_finish q)).2.1).trans track
  refine ⟨?_, ?_, ?_, fun j => ?_, kept.entered entered, kept.stopped stopped, kept.bits 4 bit, fun h5 => kept.gap.trans (gap h5), ?_, ?_⟩
  · exact (congrArg Track.queue utrack).trans pqueue
  · exact (congrArg Track.roster utrack).trans proster
  · show passageAt k (finish q) = none
    rw [passageAt, utrack]
    exact hpassage
  · refine place_get (f := s.part) (g := finish q) (k := fun _ => False) (fun i _ => ?_) j id
    rw [lists.record i]
    exact (place i).trans (by rw [cabin_of_cabins_eq pcabins])
  · exact lists.grip.trans (grip.trans pgrip)
  · exact lists.messages.trans (messages.trans pmessages)

end

end Sys2Proof.Machine

/-! STATION_PASSAGE (R3 to R7, R13, R112). -/

namespace Sys2Proof.Machine

section
variable {k : Nat} {s : State} (hready : Ready s) (h2 : 2 ≤ k) (h6 : k ≤ 6) {n : PassageNote} (hn : passageAt k s.part = some n)
include hready h2 h6 hn

/-- A station passage with an entry to move. -/
theorem stationPassage_moves (hserials : (s.part.track.queue.map (fun e => e.serial)).Nodup) (before after : List QueueEntry)
    (e : QueueEntry) (hwait : k = 2 → ∀ d, s.part.track.matcher ≠ .passageWaiting d) (hqueue : s.part.track.queue = before ++ e :: after)
    (hseg : e.segment = k - 1) (hearlier : earlier e.entered n.time = true)
    (hbefore : ∀ x ∈ before, ¬ (x.segment = k - 1 ∧ earlier x.entered n.time = true)) :
    After (.stationPassage k) s (fun t =>
      t.part.track.queue.map shownEntry =
        before.map shownEntry ++ (e.cabin, k, n.time) :: after.map shownEntry ∧
      t.part.track.roster = s.part.track.roster ∧ passageAt k t.part = none ∧
      (∀ j : Fin 128, (t.part.cabins.get j).place = (s.part.cabins.get j).place) ∧
      t.part.sup.caps.hold = decide (3 ≤ segmentCount t.part 4) ∧
      t.part.track.holdOverflow = decide (4 ≤ segmentCount t.part 4) ∧
      (k = 4 → 4 ≤ segmentCount t.part 4 → CauseEntered .holdOverflow 4 t.part.sup) ∧
      (k = 5 → t.part.rope.gapAcc = 0 ∧ t.part.launch.state = .idle ∧ t.part.launch.retain = (s.part.launch.retain &&
        decide (s.part.launch.state ≠ .releasing))) ∧
      (k = 5 → s.part.launch.state = .releasing → isCabin e.cabin = true → (cabin t.part e.cabin).lastRelease = n.time) ∧
      (k = 5 → s.part.launch.state ≠ .releasing → CauseEntered .sequenceFault 5 t.part.sup) ∧
      (k = 6 → ∃ w : GripWindow, t.part.grip.window = some w ∧ w.cabin = e.cabin ∧ w.opened = n.time ∧ w.samples = 0 ∧ w.codes = 0) ∧
      (k ≠ 6 → t.part.grip = s.part.grip) ∧ t.part.line = s.part.line ∧ t.part.messages = s.part.messages ∧
      t.part.clock = s.part.clock ∧ t.part.sensors = s.part.sensors ∧ ActionsMade k e.cabin e.serial (some e.serial) s t ∧
      (k = 4 → NoneDueAt 4 e.cabin e.serial (some e.serial) s.part →
        (isCabin e.cabin = true →
          (cabin t.part e.cabin).door = (if n.lockSensed then .locked else .notLocked) ∧
          t.part.track.queue.map (fun x => x.heldLock) = s.part.track.queue.map (fun x => x.heldLock) ∧
          (n.lockSensed = false → t.part.window.attention.getLsbD 5 = true ∧ CauseEntered .cabinDoorUnlocked e.cabin t.part.sup ∧
            ConditionPresent .cabinDoorUnlocked e.cabin t.part.sup ∧ t.part.sup.mode.isRunning = false) ∧
          (n.lockSensed = true → unlockedListed t.part.sup = unlockedListed s.part.sup)) ∧
        (isCabin e.cabin = false → unlockedListed t.part.sup = unlockedListed s.part.sup ∧ t.part.track.queue.map (fun x => x.heldLock) =
          before.map (fun x => x.heldLock) ++ some n.lockSensed :: after.map (fun x => x.heldLock)))) := by
  obtain ⟨t, p, hrun, hstart, -, hpassage, ht⟩ := stationPassage_hands hready h2 h6 hn hwait hqueue hseg hearlier hbefore
  obtain ⟨pqueue, proster, -, pcabins, -, psequencer, pdoors, pclock, pline, pmessages, psensors, pgrip, psup⟩ := hstart.outside
  have plaunch : p.launch = s.part.launch := by rw [hstart.part]
  have hqueue' := pqueue.trans hqueue
  have hserials' : (p.track.queue.map (fun e => e.serial)).Nodup := by rw [pqueue]; exact hserials
  obtain ⟨lists, kept⟩ := handed_lists ht
  have handed := (passageHanded_stands k e n p).1
  have stands : SequencerStart s.part (passageHanded k e n p) :=
    ⟨handed.sequencer.trans psequencer, handed.doors.trans pdoors, handed.clock.trans pclock⟩
  have queue := passageHanded_queue (k := k) (n := n) hqueue' hserials'
  obtain ⟨hold, overflow⟩ := passageHanded_hold (k := k) (e := e) (n := n) (p := p)
  refine ⟨t, hrun, ?_, ?_, ?_, fun j => ?_, ?_, ?_, fun h4 hcount => ?_, fun h5 => ?_, fun h5 hstate hk => ?_, fun h5 hstate => ?_,
    fun h => ?_, fun h => ?_, ?_, ?_, ?_, ?_, ?_, fun h4 hdue => ?_⟩
  · rw [lists.shown, queue, List.map_append]; rfl
  · rw [lists.roster, handed.roster, proster]
  · rw [lists.passage, passageAt, handed.detectors, ← passageAt]; exact hpassage
  · refine place_get (f := s.part) (g := t.part) (k := fun _ => False) (fun i _ => ?_) j id
    rw [lists.record i]
    exact (handed.place i).trans (by rw [cabin_of_cabins_eq pcabins])
  · rw [lists.segment]; exact (handed_hold ht).trans hold
  · rw [lists.segment, lists.holdOverflow]; exact overflow
  · subst h4; exact passage_D4_overflow ht hcount
  · subst h5
    rw [← plaunch]
    exact ⟨passage_D5_gap ht, passage_D5_launch ht hqueue' hserials'⟩
  · subst h5; exact passage_D5_release ht (by rw [plaunch]; exact hstate) hk
  · subst h5; exact passage_D5_fault ht (by rw [plaunch]; exact hstate)
  · subst h
    rw [lists.grip, passageHanded_D6]
    exact ⟨_, rfl, rfl, rfl, rfl, rfl⟩
  · rw [lists.grip, passageHanded_grip h, pgrip]
  · rw [lists.line, handed.line, pline]
  · rw [lists.messages, handed.messages, pmessages]
  · rw [lists.clock, handed.clock, pclock]
  · rw [lists.sensors, handed.sensors, psensors]
  · exact sequencerPassage_actionsMade (g := passageOf k e n) (q := passageHanded k e n p)
      (by rw [if_neg (by simp [passageOf]; omega)]; rfl) stands.sequencer stands.doors stands.clock ⟨rfl, rfl, rfl, fun _ h => h⟩ ht
  · subst h4
    rw [← psup, ← pqueue]
    exact ⟨passage_D4_numbered ht stands hdue hqueue' hserials', passage_D4_unnumbered ht stands hdue hqueue' hserials'⟩

end

end Sys2Proof.Machine

/-! A D2 passage that finds a D1 passage waiting (R13), and the whole of STATION_PASSAGE. -/

namespace Sys2Proof.Machine

/-! ### What a D2 passage leaves of the part that the decided arrival leaves -/

section
variable {n : PassageNote} {q : Part}

/-- The D2 passage on the part `q` that the decided arrival leaves. -/
def passageAtD2 (n : PassageNote) (q : Part) : Part :=
  match oldestBefore q 1 n.time with
  | none => phantomPassage 2 n.time q
  | some e => sequencerPassage (passageOf 2 e n) (passageMoved 2 e n q)

theorem passageAtD2_none (h : oldestBefore q 1 n.time = none) : passageAtD2 n q = phantomPassage 2 n.time q := by rw [passageAtD2, h]

theorem passageAtD2_some {e : QueueEntry} (h : oldestBefore q 1 n.time = some e) :
    passageAtD2 n q = sequencerPassage (passageOf 2 e n) (passageMoved 2 e n q) := by rw [passageAtD2, h]

theorem takePassage_D2 (p : Part) : takePassage 2 n p = passageAtD2 n (endWait p) := rfl

theorem passageAtD2_kept (n : PassageNote) (q : Part) : Remembers q (passageAtD2 n q) ∧ (passageAtD2 n q).track.matcher = q.track.matcher ∧
    (passageAtD2 n q).track.detectors = q.track.detectors ∧ (passageAtD2 n q).track.roster = q.track.roster ∧
    (passageAtD2 n q).track.trackOverflow = q.track.trackOverflow ∧ ∀ k, (cabin (passageAtD2 n q) k).place = (cabin q k).place := by
  cases h : oldestBefore q 1 n.time with
  | none =>
    rw [passageAtD2_none h, phantomPassage_elsewhere (by omega)]
    have lists := reportTrack_lists .sequenceFault 2 .service false q
    exact ⟨reportTrack_remembers .., lists.matcher, lists.detectors, lists.roster, lists.trackOverflow, fun k => by rw [lists.record k]⟩
  | some e =>
    rw [passageAtD2_some h]
    have lists := sequencerPassage_lists (passageOf 2 e n) (passageMoved 2 e n q)
    have moved := passageMoved_stands 2 e n q
    exact ⟨(passageMoved_remembers 2 e n q).trans (sequencerPassage_remembers ..), lists.matcher.trans moved.matcher,
      lists.detectors.trans moved.detectors, lists.roster.trans moved.roster, lists.trackOverflow.trans moved.trackOverflow,
      fun k => by rw [lists.record k]; exact moved.place k⟩

theorem passageAtD2_moves {before after : List (Nat × Nat × Time)} {x : Nat × Nat × Time}
    (hserials : (q.track.queue.map (fun e => e.serial)).Nodup) (hqueue : q.track.queue.map shownEntry = before ++ x :: after)
    (hx : x.2.1 = 1 ∧ earlier x.2.2 n.time = true) (hbefore : ∀ y ∈ before, ¬ (y.2.1 = 1 ∧ earlier y.2.2 n.time = true)) :
    (passageAtD2 n q).track.queue.map shownEntry = before ++ (x.1, 2, n.time) :: after := by
  obtain ⟨l, rest, hsplit, rfl, hrest⟩ := List.map_eq_append_iff.mp hqueue
  obtain ⟨e, m, rfl, rfl, rfl⟩ := List.map_eq_cons_iff.mp hrest
  have hfound : oldestBefore q 1 n.time = some e :=
    oldestBefore_some hsplit hx.1 hx.2 fun y hy => hbefore (shownEntry y) (List.mem_map_of_mem hy)
  rw [passageAtD2_some hfound, (sequencerPassage_lists ..).shown, (passageMoved_queue ..).1]
  have moved := moveEntry_split (f := fun e => { e with segment := 2, entered := n.time }) hsplit hserials
  refine (congrArg (List.map shownEntry) moved).trans ?_
  rw [List.map_append, List.map_cons]

theorem passageAtD2_phantom (hnone : ∀ y ∈ q.track.queue.map shownEntry, ¬ (y.2.1 = 1 ∧ earlier y.2.2 n.time = true)) :
    (passageAtD2 n q).track.queue = q.track.queue ∧ CauseEntered .sequenceFault 2 (passageAtD2 n q).sup ∧
      (passageAtD2 n q).sup.mode.isRunning = false := by
  have hnot : oldestBefore q 1 n.time = none := oldestBefore_none fun y hy => hnone (shownEntry y) (List.mem_map_of_mem hy)
  obtain ⟨track, -, entered, stopped, -⟩ := phantomPassage_leaves 2 n.time q
  rw [passageAtD2_none hnot]
  exact ⟨by rw [track], entered, stopped⟩

end

/-! ### The arrival that the D2 passage decides -/

section
variable {s : State} {p : Part} (hstart : ArrivalStart s.part p) {d : Time}
variable (hbelow : ∀ e ∈ s.part.track.queue, e.serial < s.part.track.nextSerial)
variable (hserials : (s.part.track.queue.map (fun e => e.serial)).Nodup)

/-- What the queue shows once the arrival is decided. -/
abbrev arrivedShown (s : State) (d : Time) : List (Nat × Nat × Time) :=
  s.part.track.queue.map shownEntry ++ (if s.part.track.queue.length < 15 then [((rosterNumbers s.part).head?.getD 0, 1, d)] else [])

include hstart

theorem decidedWaiting_who : identified p none = (rosterNumbers s.part).head? := hstart.who (rep := none)

theorem decidedWaiting_numbers : rosterNumbers p = rosterNumbers s.part := by
  rw [rosterNumbers, hstart.outside.2.1, rosterNumbers]

theorem decidedWaiting_queue : (decideArrival none d p).track.queue.map shownEntry = arrivedShown s d := by
  have hqueue := hstart.outside.1
  by_cases hroom : s.part.track.queue.length < 15
  · have joined := (decideArrival_joins (rep := none) (passed := d) (p := p) (by rw [hqueue]; exact hroom)).1
    have shown := congrArg (List.map (fun x : Nat × Nat × Nat × Time => (x.2.1, x.2.2.1, x.2.2.2))) joined
    rw [decidedWaiting_who hstart, hqueue] at shown
    rw [arrivedShown, if_pos hroom]
    simpa [List.map_map, Function.comp_def, QueueEntry.listing] using shown
  · have turned := (decideArrival_turns (rep := none) (passed := d) (p := p) (by rw [hqueue]; omega)).1
    rw [arrivedShown, if_neg hroom, turned, hqueue, List.append_nil]

include hbelow hserials in
theorem decidedWaiting_serials : ((decideArrival none d p).track.queue.map (fun e => e.serial)).Nodup := by
  obtain ⟨hqueue, -, hnext, -⟩ := hstart.outside
  by_cases hroom : s.part.track.queue.length < 15
  · have joined := (decideArrival_joins (rep := none) (passed := d) (p := p) (by rw [hqueue]; exact hroom)).1
    have serials := congrArg (List.map (fun x : Nat × Nat × Nat × Time => x.1)) joined
    have hmap : (decideArrival none d p).track.queue.map (fun e => e.serial) =
        s.part.track.queue.map (fun e => e.serial) ++ [s.part.track.nextSerial] := by
      rw [hqueue, hnext] at serials
      simpa [List.map_map, Function.comp_def, QueueEntry.listing] using serials
    rw [hmap, List.nodup_append]
    refine ⟨hserials, List.nodup_singleton _, fun a ha b hb => ?_⟩
    obtain ⟨e, he, rfl⟩ := List.mem_map.mp ha
    rw [List.mem_singleton.mp hb]
    exact Nat.ne_of_lt (hbelow e he)
  · have turned := (decideArrival_turns (rep := none) (passed := d) (p := p) (by rw [hqueue]; omega)).1
    rw [turned, hqueue]
    exact hserials

theorem decidedWaiting_roster : rosterNumbers (decideArrival none d p) =
    (rosterNumbers s.part).filter (fun j => some j != (rosterNumbers s.part).head?) := by
  have hqueue := hstart.outside.1
  have hwho := decidedWaiting_who hstart
  have hnumbers := decidedWaiting_numbers hstart
  have removed : rosterNumbers (decideArrival none d p) = (match identified p none with
      | none => rosterNumbers p
      | some n => (rosterNumbers p).filter (fun k => k != n)) := by
    by_cases hroom : s.part.track.queue.length < 15
    · exact (decideArrival_joins (by rw [hqueue]; exact hroom)).2.1
    · exact (decideArrival_turns (by rw [hqueue]; omega)).2.1
  rw [removed, hwho, hnumbers]
  cases hhead : (rosterNumbers s.part).head? with
  | none => rw [List.head?_eq_none_iff.mp hhead]; rfl
  | some n =>
    exact List.filter_congr fun k _ => rfl

theorem decidedWaiting_place (j : Nat) : (cabin (decideArrival none d p) j).place =
    if (rosterNumbers s.part).head? = some j ∧ isCabin j = true then
      (if s.part.track.queue.length < 15 then .inStation else .unknown) else (cabin s.part j).place := by
  obtain ⟨hqueue, -, -, hcabins, -⟩ := hstart.outside
  by_cases hroom : s.part.track.queue.length < 15
  · rw [(decideArrival_joins (by rw [hqueue]; exact hroom)).2.2.1 j, decidedWaiting_who hstart, cabin_of_cabins_eq hcabins, if_pos hroom]
  · rw [(decideArrival_turns (by rw [hqueue]; omega)).2.2.1 j, decidedWaiting_who hstart, cabin_of_cabins_eq hcabins, if_neg hroom]

theorem decidedWaiting_fault (hhead : (rosterNumbers s.part).head? = none) (hroom : s.part.track.queue.length < 15) :
    CauseEntered .sequenceFault 1 (decideArrival none d p).sup :=
  (decideArrival_joins (by rw [hstart.outside.1]; exact hroom)).2.2.2 (outOfTurn_of (.inl (by rw [decidedWaiting_who hstart, hhead])))

theorem decidedWaiting_overflow (hroom : ¬ s.part.track.queue.length < 15) :
    CauseEntered .trackOverflow 1 (decideArrival none d p).sup ∧ (decideArrival none d p).track.trackOverflow = true :=
  (decideArrival_turns (by rw [hstart.outside.1]; omega)).2.2.2

end

/-- Settles O46: the entry that moves is followed through the recount, the launch and the grip window to the Door Sequencer, whose work and
the end of the event leave it standing; at D2 a waiting passage is decided first. -/
theorem stationPassageMovesTheEntry : Obligations.StationPassageMovesTheEntry := by
  intro k s hready h2 h6 hserials n hn
  refine ⟨fun before after e => stationPassage_moves hready h2 h6 hn hserials before after e, fun d hk hwaits hbelow => ?_,
    stationPassage_phantom hready h2 h6 hn⟩
  subst hk
  intro room head arrived moves
  have hrun := stationPassage_runs hready h2 h6 hn
  have hpassage := passageAt_clearPassage (k := 2) (by omega) s.part
  have hstart := (clearPassage_start 2 s.part .empty).1
  have hwait : endWait (clearPassage 2 s.part) = decideArrival none d (setMatcher .empty (clearPassage 2 s.part)) := by
    rw [endWait, clearPassage_matcher, hwaits]
  rw [takePassage_D2, hwait] at hrun
  have hdetectors : passageAt 2 (setMatcher .empty (clearPassage 2 s.part)) = none := hpassage
  have hmatcher : (setMatcher .empty (clearPassage 2 s.part)).track.matcher = .empty := rfl
  generalize setMatcher .empty (clearPassage 2 s.part) = p at hstart hrun hdetectors hmatcher
  obtain ⟨decidedMatcher, decidedDetectors⟩ := decideArrival_lists none d p
  have queue := decidedWaiting_queue hstart (d := d)
  have serials := decidedWaiting_serials hstart (d := d) hbelow hserials
  have roster := decidedWaiting_roster hstart (d := d)
  have place := decidedWaiting_place hstart (d := d)
  have fault := decidedWaiting_fault hstart (d := d)
  have overflow := decidedWaiting_overflow hstart (d := d)
  generalize decideArrival none d p = q at hrun decidedMatcher decidedDetectors queue serials roster place fault overflow
  obtain ⟨kept, matcher, detectors, stands, keeps, places⟩ := passageAtD2_kept n q
  have lists := finish_lists (passageAtD2 n q)
  have later := finish_remembers (passageAtD2 n q)
  have placed (j : Nat) : (cabin (finish (passageAtD2 n q)) j).place = (cabin q j).place := by rw [lists.record j]; exact places j
  refine ⟨_, hrun, ?_⟩
  beta_reduce
  refine ⟨lists.matcher.trans (matcher.trans (decidedMatcher.trans hmatcher)), ?_, ?_, fun j hj hk => ?_, fun j hj => ?_, fun hhead hroom => ?_,
    fun hroom => ?_, fun before after x hx hmoves hbefore => ?_, fun hnone => ?_⟩
  · show passageAt 2 (finish (passageAtD2 n q)) = none
    rw [lists.passage, passageAt, detectors, decidedDetectors, ← passageAt]
    exact hdetectors
  · show rosterNumbers (finish (passageAtD2 n q)) = _
    rw [rosterNumbers, lists.roster, stands]
    exact roster
  · show (cabin (finish (passageAtD2 n q)) j).place = _
    rw [placed j, place j, if_pos ⟨hj, hk⟩]
  · refine place_get (f := s.part) (g := finish (passageAtD2 n q)) (k := fun i => head = some i) (fun i hi => ?_) j hj
    rw [placed i, place i, if_neg fun h => hi h.1]
  · exact later.entered (kept.entered (fault hhead hroom))
  · obtain ⟨entered, full⟩ := overflow hroom
    exact ⟨later.entered (kept.entered entered), lists.trackOverflow.trans (keeps.trans full)⟩
  · exact lists.shown.trans (passageAtD2_moves serials (queue.trans hx) hmoves hbefore)
  · obtain ⟨same, entered, stopped⟩ := passageAtD2_phantom (n := n) (q := q) (by rw [queue]; exact hnone)
    exact ⟨lists.shown.trans ((congrArg (List.map shownEntry) same).trans queue), later.entered entered, later.stopped stopped⟩

end Sys2Proof.Machine

namespace Sys2Proof.Machine

/-- A gate with no retries left and a FAST fault category waits for the start of its reversal; the limit of its open end is active. -/
def gateAboutToFault : Channel where
  config := { kind := .platformGate, retries := 0, category := .fast }
  state := .waitingStart
  target := some .a
  waits := .reversal
  limB := { last := some true, settled := some true }

/-- CABIN_IDENTIFY of the entry at position 1 as cabin 3, posted. -/
def orderToIdentify : Slot where
  state := .posted
  kind := 0x14
  params := Vector.ofFn (fun j => ([1, 3] : List Byte).getD j.val 0)

/-- Cabin 3 is registered; an unidentified cabin whose lock was found locked stands at the head of S4 in RUN, all release conditions but its
number met; a gate waits for its start; and a CABIN_IDENTIFY of the entry as cabin 3 is posted. -/
def partBeforeIdentify : Part where
  cabins := (modCabin 3 (fun r => { r with registered := true }) {}).cabins
  track := { queue := [{ serial := 0, cabin := 0, segment := 4, entered := 0, heldLock := some true }], nextSerial := 1 }
  doors := { channels := (Vector.replicate 8 {}).set 0 gateAboutToFault, queue := [.door 0] }
  sup := { mode := .run }
  rope := { view := { v := 5000, gap := 2000000000 } }
  window := { slots := (Vector.replicate 32 {}).set 0 orderToIdentify, intake := [0] }

/-- The part before the order, its tones and pins in order. -/
def stateBeforeIdentify : State where
  part := refreshPins (refreshTone 1 (refreshTone 0 partBeforeIdentify))

/-- The alert call requests that lapsed, after a command. -/
def lapsesAfter (c : Instr) (s : State) : Option Nat :=
  match exec c s with
  | .next t => some t.part.calls.alertLapses
  | _ => none

theorem identify_lapses : lapsesAfter (.cabinIdentify 0) stateBeforeIdentify = some 1 := by decide +kernel

theorem stateBeforeIdentify_orderNext : OrderNext 0 0x14 stateBeforeIdentify := by decide +kernel

theorem entryToIdentify :
    entryAt stateBeforeIdentify.part (param 0 stateBeforeIdentify 0) =
      some { serial := 0, cabin := 0, segment := 4, entered := 0, heldLock := some true } := by decide +kernel

theorem numberToIdentify : param 0 stateBeforeIdentify 1 = 3 := by decide +kernel

theorem noLapseBefore : stateBeforeIdentify.part.calls.alertLapses = 0 := by decide +kernel

/-- No cabin has a place but UNKNOWN, and only cabin 3 is registered. -/
theorem recordBeforeIdentify (k : Nat) : cabin stateBeforeIdentify.part k = { registered := k == 3 } := by
  by_cases h : 1 ≤ k ∧ k ≤ 128
  · have each : ∀ j : Fin 128, cabin stateBeforeIdentify.part (j.val + 1) = { registered := j.val + 1 == 3 } := by decide +kernel
    have this := each ⟨k - 1, by omega⟩
    rwa [show (⟨k - 1, by omega⟩ : Fin 128).val + 1 = k by simp; omega] at this
  · have hk : (k == 3) = false := by simp; omega
    rw [hk]
    simp [cabin, h]

theorem stateBeforeIdentify_agrees : TrackAgrees stateBeforeIdentify.part where
  queueLength := by decide +kernel
  queueOnce := by decide +kernel
  rosterOnce := by decide +kernel
  numbers := by decide +kernel
  inStation k _ _ := by
    rw [recordBeforeIdentify, show queueNumbers stateBeforeIdentify.part = [] by decide +kernel]
    simp
  onLine k _ _ := by
    rw [recordBeforeIdentify, show rosterNumbers stateBeforeIdentify.part = [] by decide +kernel]
    simp
  registered := by decide +kernel
  unregistered k _ := by
    rw [recordBeforeIdentify]
    exact ⟨rfl, rfl, rfl⟩
  serialsOnce := by decide +kernel
  serialsBelow := by decide +kernel

/-- Refutes O16: the frame of the third clause leaves out the calls, but where a door channel waits for a start, the release that the new number
lets Launch Control request gives the arbiter the occasion to grant that start; the gate gives up its reversal and faults, FAST, and the entry into
STOPPING_FAST makes an alert call request (R139), which lapses. -/
theorem not_cabinIdentifyNumbersTheEntry : ¬ Obligations.CabinIdentifyNumbersTheEntry := by
  intro h
  obtain ⟨_, _, identified⟩ := h 0 stateBeforeIdentify stateBeforeIdentify_orderNext
  obtain ⟨t, ht, _, _, _, _, _, frame, _⟩ := identified _ entryToIdentify (by rw [numberToIdentify]; decide) rfl
    (by rw [numberToIdentify, recordBeforeIdentify]; rfl) (by decide +kernel) (by decide +kernel) stateBeforeIdentify_agrees
  have calls : t.part.calls = stateBeforeIdentify.part.calls := frame.2.2.2.2.2 .calls (by decide) (by decide)
  have lapses := identify_lapses
  rw [lapsesAfter, ht] at lapses
  have after : t.part.calls.alertLapses = 1 := Option.some.inj lapses
  rw [calls, noLapseBefore] at after
  exact absurd after (by decide)

end Sys2Proof.Machine

/-! The release conditions (R65 to R68): what Launch Control's judgement and a grant decide, and when a request stands. -/

namespace Sys2Proof.Machine

/-! ### The judgement -/

theorem modeNotRun_iff (p : Part) : (p.sup.mode != .run) = true ↔ p.sup.mode ≠ .run := by simp

/-- The conditions hold exactly where no hold reason but a release under way is found (R65). -/
theorem holdReason_none_iff {p : Part} (h : p.launch.state ≠ .releasing) : (holdReason p == .none) = true ↔ ReleaseConditions p := by
  have hstate : (p.launch.state == .releasing) = false := by simpa using h
  have count : segmentCount p 5 = 0 ↔ ∀ x ∈ p.track.queue, x.segment ≠ 5 := by
    simp [segmentCount, List.countP_eq_zero]
  unfold holdReason ReleaseConditions
  rw [← count]
  by_cases hmode : p.sup.mode = .run
  · cases hhead : oldestIn p 4 with
    | none => simp [hmode]
    | some e => simp [hmode, hstate]; grind
  · simp [hmode]

theorem judgeLaunch_releasing {p : Part} (h : p.launch.state = .releasing) : (judgeLaunch p).launch.state = .releasing := by
  simp [judgeLaunch, modLaunch, h]

theorem judgeLaunch_state {p : Part} (h : p.launch.state ≠ .releasing) :
    (judgeLaunch p).launch.state = if holdReason p == .none then .requested else .idle := by
  cases hs : p.launch.state with
  | idle => by_cases hw : (holdReason p == .none) = true <;> simp [judgeLaunch, modLaunch, hs, hw, requestRelease, callArbiter]
  | requested => by_cases hw : (holdReason p == .none) = true <;> simp [judgeLaunch, modLaunch, hs, hw, removeRequest]
  | releasing => exact absurd hs h

theorem judgeLaunch_requests {p : Part} (hidle : p.launch.state = .idle) (hrequested : (judgeLaunch p).launch.state = .requested) :
    (judgeLaunch p).doors.queue = .retainer :: p.doors.queue ∧ (judgeLaunch p).launch.requestTime = p.clock.now := by
  by_cases hw : (holdReason p == .none) = true
  · simp [judgeLaunch, modLaunch, hidle, hw, requestRelease, callArbiter]
  · rw [judgeLaunch_state (by rw [hidle]; decide), if_neg hw] at hrequested
    exact nomatch hrequested

theorem judgeLaunch_removes {p : Part} (hrequested : p.launch.state = .requested) (hidle : (judgeLaunch p).launch.state = .idle) :
    .retainer ∉ (judgeLaunch p).doors.queue := by
  by_cases hw : (holdReason p == .none) = true
  · rw [judgeLaunch_state (by rw [hrequested]; decide), if_pos hw] at hidle
    exact nomatch hidle
  · simp [judgeLaunch, modLaunch, hrequested, hw, removeRequest]

theorem grantRetainer_releases {p : Part} (h : p.launch.state = .requested) :
    (grantRetainer p).launch.retain = true ∧ (grantRetainer p).launch.state = .releasing ∧
      (grantRetainer p).launch.grantTime = p.clock.now ∧ (grantRetainer p).launch.watch = .openAllowed := by
  simp only [grantRetainer, h, beq_self_eq_true, if_true, callLaunch, judgeWatch]
  (repeat' split) <;> simp [modLaunch]

theorem grantRetainer_other {p : Part} (h : p.launch.state ≠ .requested) : grantRetainer p = p := by
  simp [grantRetainer, h]

/-! ### Requests that stand -/

/-- What the conditions are judged by is the same (R65). -/
theorem ReleaseConditions.congr {p q : Part} (h : HoldInputs p q) (hp : ReleaseConditions p) : ReleaseConditions q := by
  obtain ⟨hmode, ⟨e, he, hcabin, hdoor⟩, hs5, hgap, hvalid, hspeed⟩ := hp
  have segment (x : QueueEntry) : x.segment = x.listing.2.2.1 := rfl
  have oldest (r : Part) : (oldestIn r 4).map QueueEntry.listing =
      (r.track.queue.map QueueEntry.listing).find? (fun x => x.2.2.1 == 4) := by
    rw [List.find?_map]; rfl
  have head : (oldestIn q 4).map QueueEntry.listing = some e.listing := by
    rw [oldest, h.queue, ← oldest, he]; rfl
  obtain ⟨x, hx, hlisting⟩ := Option.map_eq_some_iff.1 head
  have number : x.cabin = e.cabin := congrArg (fun l => l.2.1) hlisting
  refine ⟨h.mode.trans hmode, ⟨x, hx, number ▸ hcabin, ?_⟩, fun y hy => ?_, ?_, ?_, ?_⟩
  · rw [number, h.door, hdoor]
  · have : y.listing ∈ p.track.queue.map QueueEntry.listing := h.queue ▸ List.mem_map_of_mem hy
    obtain ⟨z, hz, hzy⟩ := List.mem_map.1 this
    rw [segment, ← hzy]
    exact hs5 z hz
  · rw [judgedGap, h.profile, h.gap, h.view]; exact hgap
  · rw [h.view]; exact hvalid
  · rw [h.profile, h.view]; exact hspeed

/-- Launch Control is called to judge, or a request that stands has all its conditions (R65 to R67). -/
def Judged (p : Part) : Prop := p.work.launch = true ∨ RequestStands p

theorem HoldInputs.stands {p q : Part} (h : HoldInputs p q) (hp : RequestStands p) : RequestStands q :=
  fun hq => (hp (h.state.symm.trans hq)).congr h

theorem Heeds.judged {p q : Part} (h : Heeds p q) (hp : Judged p) : Judged q := by
  obtain h | ⟨hcall, inputs⟩ := h
  · exact .inl h
  · exact hp.imp (fun hp => hcall.trans hp) inputs.stands

/-- Outside RUN no request stands. -/
theorem Judged.outside_run {p q : Part} (hp : Judged p) (hcall : q.work.launch = p.work.launch) (hstate : q.launch.state = p.launch.state)
    (hmode : p.sup.mode ≠ .run) : Judged q :=
  hp.imp (fun hp => hcall.trans hp) fun hp hq => absurd (hp (hstate.symm.trans hq)).1 hmode

/-- The judgement changes nothing that it judges by. -/
theorem judgeLaunch_inputs (p : Part) : (judgeLaunch p).sup = p.sup ∧ (judgeLaunch p).track = p.track ∧ (judgeLaunch p).cabins = p.cabins ∧
    (judgeLaunch p).rope = p.rope ∧ (judgeLaunch p).launch.gapRestarted = p.launch.gapRestarted := by
  unfold judgeLaunch
  dsimp only
  (repeat' split) <;> exact ⟨rfl, rfl, rfl, rfl, rfl⟩

theorem judgeLaunch_conditions {p : Part} (h : ReleaseConditions p) : ReleaseConditions (judgeLaunch p) := by
  obtain ⟨hsup, htrack, hcabins, hrope, hgap⟩ := judgeLaunch_inputs p
  unfold ReleaseConditions oldestIn judgedGap
  simp only [hsup, htrack, cabin_of_cabins_eq hcabins, hrope, hgap]
  exact h

theorem requestStands_judgeLaunch (p : Part) : RequestStands (judgeLaunch p) := by
  intro hrequested
  by_cases h : p.launch.state = .releasing
  · rw [judgeLaunch_releasing h] at hrequested
    exact nomatch hrequested
  · rw [judgeLaunch_state h] at hrequested
    split at hrequested
    next hwhy =>
      have conditions := (holdReason_none_iff h).1 hwhy
      exact judgeLaunch_conditions conditions
    · exact nomatch hrequested

end Sys2Proof.Machine

/-! The end of an event keeps that a request stands only with its conditions, and energises RETAIN only by a grant (R66 to R68). -/

namespace Sys2Proof.Machine

theorem workNoted_heeds (w : Work) {p : Part} (h : w.launch = p.work.launch) : Heeds p { p with work := w } := .of_eq h rfl rfl rfl rfl rfl
theorem doorsNoted_heeds (d : Doors) (p : Part) : Heeds p { p with doors := d } := .of_eq rfl rfl rfl rfl rfl rfl
theorem callLaunch_heeds (p : Part) : Heeds p (callLaunch p) := .inl rfl
theorem callArbiter_heeds (p : Part) : Heeds p (callArbiter p) := .of_eq rfl rfl rfl rfl rfl rfl

theorem grantRetainer_heeds (p : Part) : Heeds p (grantRetainer p) := by
  by_cases h : p.launch.state = .requested
  · exact .inl (by simp [grantRetainer, h, callLaunch])
  · rw [grantRetainer_other h]; exact .refl p

theorem handGrant_heeds (r : Requester) (p : Part) : Heeds p (handGrant r p) := by
  cases r with
  | door n => exact (stirs_startMotion n p).heeds
  | retainer => exact grantRetainer_heeds p

theorem judgeArbiter_heeds (p : Part) : Heeds p (judgeArbiter p) := by
  unfold judgeArbiter
  split
  · exact .refl p
  · split
    · exact ((doorsNoted_heeds _ p).trans (handGrant_heeds _ _)).trans (callArbiter_heeds _)
    · exact .refl p

theorem judged_settleOnce {p : Part} (h : Judged p) : Judged (settleOnce p) := by
  unfold settleOnce
  split
  · exact .inr (requestStands_judgeLaunch _)
  · split
    · exact (judgeArbiter_heeds _).judged ((workNoted_heeds { p.work with arbiter := false } rfl).judged h)
    · split
      · exact (stirs_judgeSequencer false _).heeds.judged ((workNoted_heeds { p.work with sequencer := false } rfl).judged h)
      · exact h

theorem quiet_uncalled {p : Part} (h : p.work.quiet = true) : p.work.launch = false := by
  simp only [Work.quiet, Bool.and_eq_true, Bool.not_eq_true'] at h
  exact h.1.1

theorem requestStands_settle (n : Nat) {p : Part} (h : Judged p) : RequestStands (settle n p) := by
  induction n generalizing p with
  | zero =>
    unfold settle
    split
    · exact requestStands_judgeLaunch p
    next hcall => exact h.resolve_left hcall
  | succ n ih =>
    unfold settle
    split
    next hquiet => exact h.resolve_left (by rw [quiet_uncalled hquiet]; decide)
    · exact ih (judged_settleOnce h)

/-! ### The grant -/

/-- A grant given to a request that stands. -/
structure GrantTaken (p : Part) : Prop where
  requested : p.launch.state = .requested
  conditions : ReleaseConditions p
  off : p.launch.retain = false
  head : p.doors.queue.head? = some .retainer
  energised : (settleOnce p).launch.retain = true

theorem judgeLaunch_retain (p : Part) : (judgeLaunch p).launch.retain = p.launch.retain := by
  unfold judgeLaunch
  dsimp only
  (repeat' split) <;> rfl

theorem judgeArbiter_energises {p : Part} (hoff : p.launch.retain = false) (hon : (judgeArbiter p).launch.retain = true) :
    p.launch.state = .requested ∧ p.doors.queue.head? = some .retainer := by
  unfold judgeArbiter at hon
  split at hon
  · rw [hoff] at hon; exact nomatch hon
  next r rest hqueue =>
    split at hon
    · cases r with
      | door n =>
        rw [show ∀ q, (callArbiter (handGrant (.door n) q)).launch = q.launch from fun q => by simp [callArbiter, handGrant]] at hon
        rw [hoff] at hon; exact nomatch hon
      | retainer =>
        refine ⟨Classical.byContradiction fun h => ?_, by rw [hqueue]; rfl⟩
        simp only [handGrant] at hon
        rw [grantRetainer_other (p := { p with doors := recordGrant .retainer p.clock.now { p.doors with queue := rest } }) h] at hon
        exact absurd (hoff.symm.trans hon) (by decide)
    · rw [hoff] at hon; exact nomatch hon

theorem settleOnce_energises {p : Part} (h : Judged p) (hoff : p.launch.retain = false) (hon : (settleOnce p).launch.retain = true) :
    GrantTaken p := by
  have hon' := hon
  unfold settleOnce at hon'
  split at hon'
  · rw [judgeLaunch_retain] at hon'
    exact absurd (hoff.symm.trans hon') (by decide)
  next hcall =>
    split at hon'
    · obtain ⟨requested, head⟩ := judgeArbiter_energises (p := { p with work := { p.work with arbiter := false } }) hoff hon'
      exact ⟨requested, h.resolve_left hcall requested, hoff, head, hon⟩
    · split at hon'
      · rw [show (judgeSequencer false { p with work := { p.work with sequencer := false } }).launch = p.launch by simp] at hon'
        exact absurd (hoff.symm.trans hon') (by decide)
      · exact absurd (hoff.symm.trans hon') (by decide)

theorem settle_succ (n : Nat) (p : Part) : settle (n + 1) p = if p.work.quiet then p else settle n (settleOnce p) := rfl

theorem settle_energises (n : Nat) {p : Part} (h : Judged p) (hoff : p.launch.retain = false) (hon : (settle n p).launch.retain = true) :
    ∃ q m, GrantTaken q ∧ settle n p = settle m (settleOnce q) := by
  induction n generalizing p with
  | zero =>
    unfold settle at hon
    split at hon
    · rw [judgeLaunch_retain] at hon
      exact absurd (hoff.symm.trans hon) (by decide)
    · exact absurd (hoff.symm.trans hon) (by decide)
  | succ n ih =>
    rw [settle_succ] at hon ⊢
    split at hon
    · exact absurd (hoff.symm.trans hon) (by decide)
    next hquiet =>
      rw [if_neg hquiet]
      cases hnext : (settleOnce p).launch.retain with
      | true => exact ⟨p, n, settleOnce_energises h hoff hnext, rfl⟩
      | false => exact ih (judged_settleOnce h) hnext hon

/-- A release is under way, commanded at the present time. -/
def ReleasedNow (p : Part) : Prop := p.launch.state = .releasing ∧ p.launch.grantTime = p.clock.now

theorem ReleasedNow.of_eq {p q : Part} (h : ReleasedNow p) (hlaunch : q.launch = p.launch) (hclock : q.clock = p.clock) : ReleasedNow q := by
  unfold ReleasedNow; rw [hlaunch, hclock]; exact h

theorem releasedNow_judgeLaunch {p : Part} (h : ReleasedNow p) : ReleasedNow (judgeLaunch p) := by
  have noted : judgeLaunch p = modLaunch (fun l => { l with hold := holdReason p }) p := by simp [judgeLaunch, modLaunch, h.1]
  rw [noted]
  exact h

theorem releasedNow_judgeArbiter {p : Part} (h : ReleasedNow p) : ReleasedNow (judgeArbiter p) := by
  unfold judgeArbiter
  split
  · exact h
  next r rest _ =>
    split
    · have granted : ReleasedNow { p with doors := recordGrant r p.clock.now { p.doors with queue := rest } } := h
      cases r with
      | door n => exact granted.of_eq (by simp [callArbiter, handGrant]) (by simp [callArbiter, handGrant])
      | retainer =>
        rw [handGrant, grantRetainer_other (by rw [granted.1]; decide)]
        exact granted
    · exact h

theorem releasedNow_settleOnce {p : Part} (h : ReleasedNow p) : ReleasedNow (settleOnce p) := by
  unfold settleOnce
  split
  · exact releasedNow_judgeLaunch h
  · split
    · exact releasedNow_judgeArbiter h
    · split
      · exact h.of_eq (by simp) (by simp)
      · exact h

theorem releasedNow_grant {p : Part} (h : GrantTaken p) : ReleasedNow (settleOnce p) := by
  have hon := h.energised
  unfold settleOnce at hon ⊢
  have hoff := h.off
  split at hon
  · rw [judgeLaunch_retain] at hon
    exact absurd (hoff.symm.trans hon) (by decide)
  next hcall =>
    rw [if_neg hcall]
    split at hon
    next harbiter =>
      rw [if_pos harbiter]
      obtain ⟨rest, hqueue⟩ : ∃ rest, p.doors.queue = .retainer :: rest := by
        cases hq : p.doors.queue with
        | nil => have := h.head; rw [hq] at this; exact nomatch this
        | cons r rest =>
          have := h.head
          rw [hq] at this
          obtain rfl : r = .retainer := Option.some.inj this
          exact ⟨rest, rfl⟩
      unfold judgeArbiter at hon ⊢
      simp only [hqueue] at hon ⊢
      split at hon
      next hroom =>
        rw [if_pos hroom]
        obtain ⟨-, hstate, htime, -⟩ := grantRetainer_releases (p := { p with
          work := { p.work with arbiter := false }, doors := recordGrant .retainer p.clock.now { p.doors with queue := rest } }) h.requested
        exact ⟨hstate, htime.trans (by simp [callArbiter, handGrant])⟩
      · exact absurd (hoff.symm.trans hon) (by decide)
    · split at hon
      · rw [show (judgeSequencer false { p with work := { p.work with sequencer := false } }).launch = p.launch by simp] at hon
        exact absurd (hoff.symm.trans hon) (by decide)
      · exact absurd (hoff.symm.trans hon) (by decide)

end Sys2Proof.Machine

/-! What every operation keeps of Launch Control's judgement (R65 to R67) and of the composition of C (R132): the Supervisor, the Call Unit and
the Message Channel. -/

namespace Sys2Proof.Machine

/-! ### Two ways to keep both -/

/-- Nothing that Launch Control or the composition of C depends on has changed. -/
structure Beside (p q : Part) : Prop where
  call : q.work.launch = p.work.launch
  sup : q.sup = p.sup
  queue : q.track.queue.map QueueEntry.listing = p.track.queue.map QueueEntry.listing
  door : ∀ k, (cabin q k).door = (cabin p k).door
  launch : q.launch = p.launch
  view : q.rope.view = p.rope.view

/-- Launch Control's judgement and the composition of C are kept. -/
structure Follows (p q : Part) : Prop where
  judged : Judged p → Judged q
  composed : Composed p.sup → Composed q.sup

namespace Beside

theorem refl (p : Part) : Beside p p := ⟨rfl, rfl, rfl, fun _ => rfl, rfl, rfl⟩

theorem trans {p q r : Part} (h : Beside p q) (g : Beside q r) : Beside p r where
  call := g.call.trans h.call
  sup := g.sup.trans h.sup
  queue := g.queue.trans h.queue
  door k := (g.door k).trans (h.door k)
  launch := g.launch.trans h.launch
  view := g.view.trans h.view

theorem of_eq {p q : Part} (call : q.work.launch = p.work.launch) (sup : q.sup = p.sup) (track : q.track = p.track)
    (cabins : q.cabins = p.cabins) (launch : q.launch = p.launch) (rope : q.rope = p.rope) : Beside p q :=
  ⟨call, sup, by rw [track], fun k => by rw [cabin_of_cabins_eq cabins], launch, by rw [rope]⟩

theorem heeds {p q : Part} (h : Beside p q) : Heeds p q :=
  .inr ⟨h.call, by rw [h.sup], by rw [h.sup], h.queue, h.door, by rw [h.launch], h.view, by rw [h.launch]⟩

theorem follows {p q : Part} (h : Beside p q) : Follows p q := ⟨h.heeds.judged, fun hp => h.sup ▸ hp⟩

theorem foldl {α : Type} {f : Part → α → Part} (h : ∀ p a, Beside p (f p a)) (l : List α) (p : Part) : Beside p (l.foldl f p) := by
  induction l generalizing p with
  | nil => exact .refl p
  | cons a l ih => exact (h p a).trans (ih _)

end Beside

namespace Follows

theorem refl (p : Part) : Follows p p := ⟨id, id⟩

theorem trans {p q r : Part} (h : Follows p q) (g : Follows q r) : Follows p r := ⟨g.judged ∘ h.judged, g.composed ∘ h.composed⟩

theorem foldl {α : Type} {f : Part → α → Part} (h : ∀ p a, Follows p (f p a)) (l : List α) (p : Part) : Follows p (l.foldl f p) := by
  induction l generalizing p with
  | nil => exact .refl p
  | cons a l ih => exact (h p a).trans (ih _)

/-- Launch Control is called, and the Supervisor stays. -/
theorem of_call {p q : Part} (hcall : q.work.launch = true) (hsup : q.sup = p.sup) : Follows p q := ⟨fun _ => .inl hcall, fun h => hsup ▸ h⟩

/-- In a change of the Supervisor's own timers, causes and notes. -/
theorem of_sup {p q : Part} (hmode : q.sup.mode = p.sup.mode) (hcaps : q.sup.caps = p.sup.caps)
    (hprofile : activeProfile q.sup = activeProfile p.sup) (hceiling : q.sup.ceiling = p.sup.ceiling) (hcall : q.work.launch = p.work.launch)
    (htrack : q.track = p.track) (hcabins : q.cabins = p.cabins) (hlaunch : q.launch = p.launch) (hrope : q.rope = p.rope) : Follows p q where
  judged := Heeds.judged (.inr ⟨hcall, hmode, hprofile, by rw [htrack], fun k => by rw [cabin_of_cabins_eq hcabins], by rw [hlaunch],
    by rw [hrope], by rw [hlaunch]⟩)
  composed h := h.congr hmode hcaps hprofile hceiling

end Follows

/-! ### The Supervisor -/

theorem follows_report (k : CauseKind) (n : Nat) (c : Category) (b : Bool) (p : Part) : Follows p (report k n c b p) :=
  ⟨(report_heeds k n c b p).judged, report_keeps_composed k n c b⟩

theorem follows_gone (k : CauseKind) (n : Nat) (p : Part) : Follows p (gone k n p) := ⟨(gone_heeds k n p).judged, gone_keeps_composed k n⟩

theorem follows_setCaps (c : Caps) (p : Part) : Follows p (setCaps c p) := ⟨(setCaps_heeds c p).judged, setCaps_keeps_composed c⟩

theorem changeMode_heeds (m : Mode) (p : Part) : Heeds p (changeMode m p) := by
  by_cases h : p.sup.mode = m
  · rw [changeMode_same h]; exact .refl p
  · exact .inl (changeMode_called h).1

theorem follows_changeMode (m : Mode) (p : Part) : Follows p (changeMode m p) :=
  ⟨(changeMode_heeds m p).judged, changeMode_keeps_composed m⟩

theorem follows_enterMode (m : Mode) (p : Part) : Follows p (enterMode m p) := by
  by_cases h : p.sup.mode = m
  · rw [enterMode_same h]; exact .refl p
  · exact ⟨fun _ => .inl (enterMode_called h).1, fun _ => enterMode_composed h⟩

theorem follows_standstillEvent (p : Part) : Follows p (standstillEvent p) := by
  unfold standstillEvent
  split
  · exact follows_enterMode ..
  · exact .refl p

theorem attend_beside (a : Attn) (p : Part) : Beside p (attend a p) := .of_eq rfl rfl rfl rfl rfl rfl
theorem follows_attend (a : Attn) (p : Part) : Follows p (attend a p) := (attend_beside a p).follows

theorem follows_refreshWindCap (p : Part) : Follows p (refreshWindCap p) := follows_setCaps _ p
theorem follows_refreshDoorCap (p : Part) : Follows p (refreshDoorCap p) := follows_setCaps _ p

theorem composeCeiling_composed (p : Part) : Composed (composeCeiling p).sup := by
  unfold composeCeiling
  dsimp only
  split
  next h => exact (beq_iff_eq.1 h).symm
  · rfl

theorem follows_applySwitch (n : ProfileName) (p : Part) : Follows p (applySwitch n p) :=
  ⟨fun _ => .inl rfl, fun _ => composeCeiling_composed _⟩

theorem follows_applyPendingSwitch (p : Part) : Follows p (applyPendingSwitch p) := by
  unfold applyPendingSwitch
  split
  · exact .refl p
  · exact follows_applySwitch ..

theorem follows_deliver (p : Part) (n : Notice) : Follows p (deliver p n) := by
  cases n with
  | report => exact follows_report ..
  | gone => exact follows_gone ..

/-- A report where a condition begins, its end where it ceases. -/
theorem follows_turn {b c : Prop} [Decidable b] [Decidable c] (k : CauseKind) (n : Nat) (cat : Category) (present : Bool) (p : Part) :
    Follows p (if b then report k n cat present p else if c then gone k n p else p) := by
  split
  · exact follows_report ..
  · split
    · exact follows_gone ..
    · exact .refl p

theorem follows_refreshSummitStops (p : Part) : Follows p (refreshSummitStops p) := by
  unfold refreshSummitStops
  dsimp only
  have noted (u v : Bool) : Follows p (modSup (fun s => { s with stopServiceStands := u, stopFastStands := v }) p) :=
    .of_sup rfl rfl rfl rfl rfl rfl rfl rfl rfl
  exact ((noted ..).trans (follows_turn ..)).trans (follows_turn ..)

theorem follows_startGrace (p : Part) : Follows p (startGrace p) := by
  unfold startGrace
  dsimp only
  split
  · split
    · exact follows_report ..
    · exact .of_sup rfl rfl rfl rfl rfl rfl rfl rfl rfl
  · exact .refl p

theorem follows_supLineChange (b : Bool) (p : Part) : Follows p (supLineChange b p) := by
  unfold supLineChange
  dsimp only
  have ungraced (q : Part) : Follows q (modSup (fun s => { s with graceTimer := none }) q) := .of_sup rfl rfl rfl rfl rfl rfl rfl rfl rfl
  split
  · exact ((follows_setCaps _ p).trans (follows_startGrace _)).trans (follows_refreshSummitStops _)
  · split
    · exact (((follows_setCaps _ p).trans (ungraced _)).trans (follows_gone ..)).trans (follows_refreshSummitStops _)
    · exact (follows_setCaps _ p).trans (follows_refreshSummitStops _)

theorem follows_startComplete (p : Part) : Follows p (startComplete p) := by
  unfold startComplete
  split
  · exact follows_changeMode ..
  · exact .refl p

/-! ### The Call Unit and the Message Channel -/

theorem CallKeeps.beside {p q : Part} (h : CallKeeps p q) : Beside p q := by
  obtain ⟨-, htrack, hcabins, hrope, -, -, hlaunch, -, -, hsup, -, -, hwork, -⟩ := h
  exact .of_eq (by rw [hwork]) hsup htrack hcabins hlaunch hrope

theorem CallKeeps.follows {p q : Part} (h : CallKeeps p q) : Follows p q := h.beside.follows

theorem modCabin_beside {k : Nat} {f : CabinRecord → CabinRecord} {p : Part} (h : ∀ c, (f c).door = c.door) : Beside p (modCabin k f p) where
  call := by simp
  sup := by simp
  queue := by simp
  door j := by
    by_cases hj : j = k
    · subst hj
      by_cases hk : isCabin j = true
      · rw [cabin_modCabin_same _ _ _ hk, h]
      · have : ¬ (1 ≤ j ∧ j ≤ 128) := by simpa [isCabin] using hk
        simp [modCabin, this]
    · rw [cabin_modCabin_ne _ _ _ _ hj]
  launch := by simp
  view := by simp

theorem modMsg_beside (f : Messages → Messages) (p : Part) : Beside p (modMsg f p) := .of_eq rfl rfl rfl rfl rfl rfl
theorem answer_beside (i : SlotNo) (r : Result) (d : Nat) (p : Part) : Beside p (answer i r d p) := .of_eq rfl rfl rfl rfl rfl rfl
theorem setProgress_beside (i : SlotNo) (n : Nat) (p : Part) : Beside p (setProgress i n p) := .of_eq rfl rfl rfl rfl rfl rfl
theorem setNote_beside (k : Nat) (n : LaunchNote) (p : Part) : Beside p (setNote k n p) := modCabin_beside fun _ => rfl

theorem exitNote_beside (k : Nat) (p : Part) : Beside p (exitNote k p) := by
  unfold exitNote
  dsimp only
  split
  · exact (modMsg_beside ..).trans (setNote_beside ..)
  · exact (modMsg_beside ..).trans (setNote_beside ..)

theorem noteOutcome_beside (k : Nat) (n : LaunchNote) (p : Part) : Beside p (noteOutcome k n p) := by
  unfold noteOutcome
  split
  · exact setNote_beside ..
  · exact .refl p

theorem failTransfer_beside (t : Transfer) (d : Nat) (p : Part) : Beside p (failTransfer t d p) := by
  unfold failTransfer
  split
  · exact noteOutcome_beside ..
  · exact answer_beside ..

theorem acceptOctet_beside (t : Transfer) (p : Part) : Beside p (acceptOctet t p) := by
  unfold acceptOctet
  dsimp only
  split
  · split
    · exact (modMsg_beside _ p).trans (noteOutcome_beside ..)
    · exact modMsg_beside ..
  · split
    · exact ((modMsg_beside _ p).trans (setProgress_beside ..)).trans (answer_beside ..)
    · exact (modMsg_beside _ p).trans (setProgress_beside ..)

theorem refuseOctet_beside (p : Part) : Beside p (refuseOctet p) := by
  unfold refuseOctet
  dsimp only
  split
  · exact modMsg_beside ..
  · split
    · exact (modMsg_beside ..).trans (failTransfer_beside ..)
    · exact modMsg_beside ..

theorem judgeAccept_beside (n : Option Nat) (b : Bool) (p : Part) : Beside p (judgeAccept n b p) := by
  unfold judgeAccept
  (repeat' split)
  · exact .refl p
  · exact acceptOctet_beside ..
  · exact refuseOctet_beside ..
  · exact modMsg_beside ..
  · exact refuseOctet_beside ..
  · exact .refl p

theorem messagesLineDown_beside (p : Part) : Beside p (messagesLineDown p) := by
  unfold messagesLineDown
  dsimp only
  split
  · exact (modMsg_beside ..).trans (failTransfer_beside ..)
  · exact (modMsg_beside ..).trans (failTransfer_beside ..)
  · exact modMsg_beside ..

theorem withdrawMessage_beside (i : SlotNo) (p : Part) : Beside p (withdrawMessage i p) := by
  unfold withdrawMessage
  split
  · exact (modMsg_beside ..).trans (answer_beside ..)
  · exact (modMsg_beside ..).trans (answer_beside ..)

end Sys2Proof.Machine

/-! What the receiver and the line keep of Launch Control's judgement and of the composition of C. -/

namespace Sys2Proof.Machine

/-! ### The receiver -/

theorem Beside.of_eq_queue {p q : Part} (call : q.work.launch = p.work.launch) (sup : q.sup = p.sup) (queue : q.track.queue = p.track.queue)
    (cabins : q.cabins = p.cabins) (launch : q.launch = p.launch) (rope : q.rope = p.rope) : Beside p q :=
  ⟨call, sup, by rw [queue], fun k => by rw [cabin_of_cabins_eq cabins], launch, by rw [rope]⟩

theorem copyMark_beside (p : Part) (e : RosterEntry) : Beside p (copyMark p e) := modCabin_beside fun _ => rfl

theorem passageNote_beside (k : Nat) (p : Part) : Beside p (passageNote k p) := by
  unfold passageNote
  dsimp only
  split
  · have placed (r : List RosterEntry) : Beside p (setRoster r p) := .of_eq_queue rfl rfl rfl rfl rfl rfl
    exact (placed _).trans (.foldl copyMark_beside _ _)
  · exact attend_beside ..

theorem deliverNote_beside (l : List Byte) (p : Part) : Beside p (deliverNote l p) := by
  unfold deliverNote
  split
  · exact passageNote_beside ..
  · exact attend_beside ..

theorem endAssembly_beside (p : Part) : Beside p (endAssembly p) := by
  unfold endAssembly
  dsimp only
  split
  · exact modMsg_beside ..
  · exact ((modMsg_beside ..).trans (modMsg_beside ..)).trans (attend_beside ..)
  · exact (modMsg_beside ..).trans (deliverNote_beside ..)
  · exact modMsg_beside ..

theorem takeAssembly_beside (r : Bool × Messages) (p : Part) : Beside p (takeAssembly r p).2 := .of_eq rfl rfl rfl rfl rfl rfl

theorem endTaken_beside (r : Bool × Messages) (p : Part) :
    Beside p (if (takeAssembly r p).1 then (true, endAssembly (takeAssembly r p).2) else takeAssembly r p).2 := by
  split
  · exact (takeAssembly_beside ..).trans (endAssembly_beside _)
  · exact takeAssembly_beside ..

theorem receiveOctet_beside (b : Byte) (m : MsgMark) (p : Part) : Beside p (receiveOctet b m p).2 := by
  unfold receiveOctet
  dsimp only
  split
  · exact takeAssembly_beside ..
  · split
    · exact .refl p
    · exact takeAssembly_beside ..
  · exact endTaken_beside ..
  · exact modMsg_beside ..

theorem judgeNewOffer_beside (b : Byte) (m : MsgMark) (p : Part) : Beside p (judgeNewOffer b m p) := by
  unfold judgeNewOffer
  exact (receiveOctet_beside b m p).trans (modMsg_beside ..)

theorem judgeOffer_beside (o : Option (Byte × MsgMark)) (p : Part) : Beside p (judgeOffer o p) := by
  unfold judgeOffer
  split
  · exact modMsg_beside ..
  · split
    · exact modMsg_beside ..
    · exact judgeNewOffer_beside ..

theorem messagesGood_beside (n : Option Nat) (b : Bool) (o : Option (Byte × MsgMark)) (p : Part) : Beside p (messagesGood n b o p) :=
  (judgeAccept_beside ..).trans (judgeOffer_beside ..)

/-! ### Changes of the line's state -/

theorem modLine_beside (f : Line → Line) (p : Part) : Beside p (modLine f p) := .of_eq rfl rfl rfl rfl rfl rfl
theorem follows_modLine (f : Line → Line) (p : Part) : Follows p (modLine f p) := (modLine_beside f p).follows
theorem follows_answerHeld (i : Option SlotNo) (r : Result) (d : Nat) (p : Part) : Follows p (answerHeld i r d p) :=
  (answerHeld_kept i r d p).1.follows
theorem follows_answer (i : SlotNo) (r : Result) (d : Nat) (p : Part) : Follows p (answer i r d p) := (answer_beside i r d p).follows

theorem follows_handLine (b : Bool) (p : Part) : Follows p (handLine b p) := by
  unfold handLine
  dsimp only
  split
  · exact (((messagesLineDown_beside p).follows.trans (callLineDown_kept _ 0 _).follows).trans (callLineDown_kept _ 1 _).follows).trans
      (follows_supLineChange ..)
  · split
    · exact ((callLineUp_kept _ 0 _).follows.trans (callLineUp_kept _ 1 _).follows).trans (follows_supLineChange ..)
    · exact follows_supLineChange ..

theorem follows_changeLine (st : LineState) (r : Nat) (p : Part) : Follows p (changeLine st r p) := by
  unfold changeLine
  dsimp only
  split
  · exact .refl p
  · exact ((follows_modLine _ p).trans (follows_attend ..)).trans (follows_handLine ..)

theorem follows_sendProbe (b : Bool) (p : Part) : Follows p (sendProbe b p) := follows_modLine ..

theorem follows_enterProbing (p : Part) : Follows p (enterProbing p) :=
  ((follows_modLine ..).trans (follows_changeLine ..)).trans (follows_sendProbe ..)

theorem follows_enterTraining (r : Nat) (p : Part) : Follows p (enterTraining r p) := (follows_modLine ..).trans (follows_changeLine ..)

theorem follows_trainAtCeiling (p : Part) : Follows p (trainAtCeiling p) := follows_enterTraining ..

theorem follows_answerStart (r : Result) (d : Nat) (p : Part) : Follows p (answerStart r d p) :=
  (follows_modLine ..).trans (follows_answerHeld ..)

theorem follows_answerProbe (d : Nat) (p : Part) : Follows p (answerProbe d p) := (follows_modLine ..).trans (follows_answerHeld ..)

theorem follows_startBackoff (p : Part) : Follows p (startBackoff p) := follows_modLine ..

theorem follows_enterDown (d : Diagnosis) (p : Part) : Follows p (enterDown d p) :=
  ((follows_modLine ..).trans (follows_changeLine ..)).trans (follows_answerStart ..)

theorem follows_enterDownWaiting (d : Diagnosis) (p : Part) : Follows p (enterDownWaiting d p) :=
  (follows_enterDown d p).trans (follows_startBackoff _)

theorem follows_enterUp (a b : Nat) (p : Part) : Follows p (enterUp a b p) :=
  ((follows_modLine ..).trans (follows_changeLine ..)).trans (follows_answerStart ..)

/-! ### Probes, training and dormancy -/

theorem follows_beginAttempt (p : Part) : Follows p (beginAttempt p) := by
  unfold beginAttempt
  dsimp only
  split
  · exact ((follows_modLine ..).trans (follows_changeLine ..)).trans (follows_modLine ..)
  · exact follows_modLine ..

theorem follows_attemptFails (p : Part) : Follows p (attemptFails p) := by
  unfold attemptFails
  dsimp only
  split
  · exact (follows_modLine ..).trans (follows_modLine ..)
  · split
    · exact ((follows_modLine ..).trans (follows_modLine ..)).trans (follows_changeLine ..)
    · exact (follows_modLine ..).trans (follows_enterDownWaiting ..)

theorem follows_recordProbe (r : ProbeResult) (p : Part) : Follows p (recordProbe r p) := follows_modLine ..

theorem follows_probeAnswered (pr : Probe) (p : Part) : Follows p (probeAnswered pr p) := by
  unfold probeAnswered
  dsimp only
  split
  · exact ((follows_recordProbe ..).trans (follows_answerProbe ..)).trans (follows_trainAtCeiling _)
  · exact (follows_recordProbe ..).trans (follows_trainAtCeiling _)

theorem follows_orderProbeFails (b : Bool) (p : Part) : Follows p (orderProbeFails b p) := by
  unfold orderProbeFails
  refine ((follows_modLine (fun l => { l with diagnosis := diagnosisOf b }) p).trans (follows_answerProbe (if b then 1 else 2) _)).trans ?_
  dsimp only
  generalize answerProbe _ _ = q
  split
  · exact follows_startBackoff q
  · exact .refl q

theorem follows_sleepProbeFails (b : Bool) (p : Part) : Follows p (sleepProbeFails b p) := by
  unfold sleepProbeFails
  dsimp only
  split
  · exact .refl p
  · exact (follows_modLine ..).trans (follows_attend ..)

theorem follows_probingProbeFails (b : Bool) (p : Part) : Follows p (probingProbeFails b p) := by
  unfold probingProbeFails
  dsimp only
  split
  · exact (follows_modLine ..).trans (follows_enterDownWaiting ..)
  · exact follows_modLine ..

theorem follows_probeFails (pr : Probe) (p : Part) : Follows p (probeFails pr p) := by
  unfold probeFails
  refine (follows_recordProbe (if pr.echoHeard then .echo else .silent) p).trans ?_
  dsimp only
  generalize recordProbe _ p = q
  split
  · exact follows_orderProbeFails ..
  · split
    · exact follows_probingProbeFails ..
    · exact follows_sleepProbeFails ..

theorem follows_listenEnds (p : Part) : Follows p (listenEnds p) := by
  unfold listenEnds
  split
  · exact .refl p
  · split
    · exact follows_probeAnswered ..
    · exact follows_probeFails ..

theorem follows_hearAnswer (pr : Probe) (p : Part) : Follows p (hearAnswer pr p) := by
  unfold hearAnswer
  split
  · exact follows_modLine ..
  · exact follows_probeAnswered ..

theorem follows_answerBurstHeard (p : Part) : Follows p (answerBurstHeard p) := by
  unfold answerBurstHeard
  split
  · exact .refl p
  · exact follows_hearAnswer ..

theorem follows_wakeInDown (p : Part) : Follows p (wakeInDown p) := by
  unfold wakeInDown
  split
  · exact follows_trainAtCeiling p
  · exact (follows_modLine ..).trans (follows_attend ..)

theorem follows_wakeBurstHeard (p : Part) : Follows p (wakeBurstHeard p) := by
  unfold wakeBurstHeard
  split
  · split
    · exact follows_modLine ..
    · exact follows_hearAnswer ..
  · split
    · exact follows_wakeInDown p
    · exact follows_trainAtCeiling p
    · exact follows_trainAtCeiling p
    · exact .refl p

theorem follows_hearBits (x : BitVec 32) (p : Part) : Follows p (hearBits x p) := by
  unfold hearBits
  split
  · exact follows_wakeBurstHeard p
  · split
    · exact follows_answerBurstHeard p
    · exact .refl p

theorem follows_drawSleep (p : Part) : Follows p (drawSleep p) := follows_modLine ..

theorem follows_enterDormant (p : Part) : Follows p (enterDormant p) :=
  ((follows_modLine ..).trans (follows_changeLine ..)).trans (follows_drawSleep _)

theorem follows_sleepEnds (p : Part) : Follows p (sleepEnds p) := by
  unfold sleepEnds
  split
  · exact follows_drawSleep p
  · exact (follows_sendProbe ..).trans (follows_drawSleep _)

/-! ### Frames and answers -/

theorem follows_composeFrame (p : Part) : Follows p (composeFrame p) := by
  unfold composeFrame
  dsimp only
  split
  · exact ((modMsg_beside ..).follows.trans (follows_modLine ..)).trans (modMsg_beside ..).follows
  · exact (follows_modLine ..).trans (modMsg_beside ..).follows

theorem follows_autoStart (p : Part) : Follows p (autoStart p) := by
  unfold autoStart
  dsimp only
  split
  · split
    · exact (follows_modLine ..).trans (follows_enterProbing _)
    · exact follows_modLine ..
  · exact .refl p

theorem follows_lineTick (p : Part) : Follows p (lineTick p) := by
  unfold lineTick
  refine (follows_autoStart p).trans ?_
  dsimp only
  have attempt (q : Part) : Follows q (if q.line.attemptPending then beginAttempt q else q) := by
    split
    · exact follows_beginAttempt q
    · exact .refl q
  refine (attempt (autoStart p)).trans ?_
  generalize (if (autoStart p).line.attemptPending then beginAttempt (autoStart p) else autoStart p) = q
  split
  · exact follows_composeFrame _
  · exact .refl _

theorem follows_takeEcho (n : FrameNote) (f : FrameContent) (o : Int) (p : Part) : Follows p (takeEcho n f o p) := by
  unfold takeEcho
  dsimp only
  split
  · exact (follows_modLine ..).trans (follows_enterUp ..)
  · exact follows_modLine ..

theorem follows_judgeTraining (n : FrameNote) (f : FrameContent) (o : Int) (b : Bool) (p : Part) : Follows p (judgeTraining n f o b p) := by
  unfold judgeTraining
  split
  · exact follows_takeEcho ..
  · exact follows_modLine ..

theorem follows_loseLine (p : Part) : Follows p (loseLine p) := by
  unfold loseLine
  dsimp only
  split
  · exact ((follows_modLine ..).trans (follows_enterDown ..)).trans (follows_enterProbing _)
  · exact (follows_modLine ..).trans (follows_enterDown ..)

theorem follows_qualityFails (p : Part) : Follows p (qualityFails p) := by
  unfold qualityFails
  dsimp only
  split
  · exact (follows_modLine ..).trans (follows_enterTraining ..)
  · exact ((follows_modLine ..).trans (follows_modLine ..)).trans (follows_attend ..)

theorem follows_judgeQuality (p : Part) : Follows p (judgeQuality p) := by
  unfold judgeQuality
  split
  · exact follows_loseLine p
  · split
    · exact follows_qualityFails p
    · exact .refl p

theorem follows_takeWord (w : Half) (p : Part) : Follows p (takeWord w p) := by
  unfold takeWord
  dsimp only
  split
  · exact follows_modLine ..
  · exact (((follows_modLine ..).trans (follows_attend ..)).trans (follows_refreshSummitStops _)).trans (follows_refreshWindCap _)

theorem follows_useAnswer (n : FrameNote) (f : FrameContent) (p : Part) : Follows p (useAnswer n f p) :=
  (((((follows_modLine ..).trans (follows_takeWord ..)).trans (messagesGood_beside ..).follows).trans
    (callGoodAnswer_kept 0 ..).follows).trans (callGoodAnswer_kept 1 ..).follows).trans (playVoices_kept ..).follows

theorem follows_useErrored (n : FrameNote) (p : Part) : Follows p (useErrored n p) :=
  (modMsg_beside ..).follows.trans (playVoices_kept ..).follows

theorem follows_judgeInUp (n : FrameNote) (f : FrameContent) (good : Bool) (p : Part) :
    Follows p (judgeQuality (if good then useAnswer n f p else useErrored n p)) := by
  split
  · exact (follows_useAnswer ..).trans (follows_judgeQuality _)
  · exact (follows_useErrored ..).trans (follows_judgeQuality _)

theorem follows_judgeByState (n : FrameNote) (f : FrameContent) (offset : Int) (good : Bool) (p : Part) :
    Follows p (if p.line.state == .up then
      judgeQuality (if good then useAnswer n f (modLine (countAnswer (!good)) p) else useErrored n (modLine (countAnswer (!good)) p))
      else judgeTraining n f offset good p) := by
  by_cases h : (p.line.state == .up) = true
  · rw [if_pos h]
    exact (follows_modLine ..).trans (follows_judgeInUp ..)
  · rw [if_neg h]
    exact follows_judgeTraining ..

theorem follows_judgeAnswer (n : FrameNote) (f : Option SummitFrame) (p : Part) : Follows p (judgeAnswer n f p) :=
  (follows_modLine ..).trans (follows_judgeByState ..)

theorem follows_takeAnswer (f : Option SummitFrame) (p : Part) : Follows p (takeAnswer f p) := by
  unfold takeAnswer
  split
  · exact .refl p
  · exact (follows_modLine ..).trans (follows_judgeAnswer ..)

end Sys2Proof.Machine

/-! What the doors, the sensors, the Door Sequencer and the Track Monitor keep of Launch Control's judgement and of the composition of C. -/

namespace Sys2Proof.Machine

theorem Stirs.follows {p q : Part} (h : Stirs p q) : Follows p q := ⟨h.heeds.judged, h.works.composed⟩

theorem Heeds.follows {p q : Part} (h : Heeds p q) (hsup : q.sup = p.sup) : Follows p q := ⟨h.judged, fun hp => hsup ▸ hp⟩

/-! ### One step of a channel -/

theorem follows_modChannel (n : ChannelNo) (f : Channel → Channel) (p : Part) : Follows p (modChannel n f p) :=
  Beside.follows (.of_eq rfl rfl rfl rfl rfl rfl)

theorem follows_leaveEnd (n : ChannelNo) (p : Part) : Follows p (leaveEnd n p) :=
  ((follows_modChannel ..).trans (stirs_endOperation ..).follows).trans (follows_attend ..)

theorem follows_findLimit (n : ChannelNo) (p : Part) : Follows p (findLimit n p) := by
  unfold findLimit
  dsimp only
  split
  · exact (stirs_restIn ..).follows
  · split
    · exact (stirs_restIn ..).follows
    · exact .refl p

theorem follows_dropLockRel (n : ChannelNo) (p : Part) : Follows p (dropLockRel n p) := by
  unfold dropLockRel
  split
  · exact .refl p
  · exact follows_modChannel ..

theorem follows_judgeLimits (n : ChannelNo) (p : Part) : Follows p (judgeLimits n p) := by
  unfold judgeLimits
  dsimp only
  split
  · exact .refl p
  · split
    · exact (stirs_enterFault ..).follows
    · split
      · split
        · exact .refl p
        · exact follows_leaveEnd ..
      · split
        · exact .refl p
        · exact follows_leaveEnd ..
      · split
        · exact .refl p
        · exact follows_leaveEnd ..
      · exact follows_findLimit ..
      · exact follows_findLimit ..
      · split
        · exact (stirs_arriveMove ..).follows
        · exact follows_dropLockRel ..
      · split
        · exact (stirs_arriveMove ..).follows
        · exact follows_dropLockRel ..
      · split
        · exact (stirs_arriveReversal ..).follows
        · exact .refl p
      · exact .refl p

theorem follows_judgeLock (n : ChannelNo) (p : Part) : Follows p (judgeLock n p) := by
  unfold judgeLock
  dsimp only
  split
  · split
    · exact (stirs_finishAt ..).follows
    · exact .refl p
  · split
    · exact .refl p
    · exact (stirs_enterWaiting ..).follows
  · exact .refl p

theorem follows_judgeTimers (n : ChannelNo) (p : Part) : Follows p (judgeTimers n p) := by
  unfold judgeTimers
  dsimp only
  split
  · exact (stirs_enterFault ..).follows
  · split
    · exact (stirs_enterFault ..).follows
    · split
      · exact (stirs_retryMove ..).follows
      · exact .refl p

theorem follows_judgeCurrent (n : ChannelNo) (p : Part) : Follows p (judgeCurrent n p) := by
  unfold judgeCurrent
  dsimp only
  split
  · split
    · exact ((follows_modChannel ..).trans (stirs_stopOutputs ..).follows).trans (stirs_enterWaiting ..).follows
    · exact follows_modChannel ..
  · exact .refl p

theorem follows_sampleChannel (n : ChannelNo) (x : ChannelInputs) (p : Part) : Follows p (sampleChannel n x p) := follows_modChannel ..

theorem follows_channelStep (n : ChannelNo) (x : ChannelInputs) (p : Part) : Follows p (channelStep n x p) := by
  have timed (c : Clock) : Follows p { p with clock := c } := Beside.follows (.of_eq rfl rfl rfl rfl rfl rfl)
  unfold channelStep
  dsimp only
  split
  · exact ((timed _).trans (follows_sampleChannel ..)).trans (stirs_restIn ..).follows
  · exact (((((timed _).trans (follows_sampleChannel ..)).trans (follows_judgeLimits ..)).trans (follows_judgeLock ..)).trans
      (follows_judgeTimers ..)).trans (follows_judgeCurrent ..)

theorem follows_haltChannel (n : ChannelNo) (p : Part) : Follows p (haltChannel n p) := by
  unfold haltChannel
  dsimp only
  split
  · exact .refl p
  · split
    · exact follows_modChannel ..
    · exact (((follows_modChannel ..).trans (stirs_stopOutputs ..).follows).trans (stirs_leaveQueue ..).follows).trans
        (stirs_restIn ..).follows

/-! ### The orders to the doors -/

theorem follows_removeActions (which : Action → Bool) (quiet : Bool) (p : Part) : Follows p (removeActions which quiet p) :=
  (removeActions_heeds which quiet p).follows (by simp)

theorem follows_judgeLate (which : ChannelNo → Flight → Bool) (quiet : Bool) (p : Part) : Follows p (judgeLate which quiet p) :=
  (judgeLate_heeds which quiet p).follows (by simp)

theorem follows_leaveFaultAsNone (n : ChannelNo) (p : Part) : Follows p (leaveFaultAsNone n p) := by
  unfold leaveFaultAsNone
  dsimp only
  split
  · exact (stirs_restIn ..).follows.trans (follows_gone ..)
  · exact .refl p

theorem follows_configureDoor (n : ChannelNo) (cfg : DoorConfig) (p : Part) : Follows p (configureDoor n cfg p) := by
  unfold configureDoor
  dsimp only
  split
  · exact ((((follows_modChannel ..).trans (follows_attend ..)).trans (follows_removeActions ..)).trans
      (follows_leaveFaultAsNone ..)).trans (follows_refreshDoorCap _)
  · exact (((follows_modChannel ..).trans (follows_attend ..)).trans (follows_leaveFaultAsNone ..)).trans (follows_refreshDoorCap _)

theorem follows_haltDoor (n : ChannelNo) (p : Part) : Follows p (haltDoor n p) :=
  (stirs_tellOwner ..).follows.trans (follows_haltChannel ..)

theorem follows_resetFault (n : ChannelNo) (p : Part) : Follows p (resetFault n p) := by
  have ended {q : Part} (h : Follows p q) : Follows p (attend .door (refreshDoorCap (gone .doorFault n.val q))) :=
    ((h.trans (follows_gone ..)).trans (follows_refreshDoorCap _)).trans (follows_attend ..)
  unfold resetFault
  dsimp only
  split
  · exact ended (stirs_restIn ..).follows
  · split
    · exact ended (stirs_restIn ..).follows
    · exact ended (follows_modChannel ..)

theorem follows_takeForOrder (i : SlotNo) (n m : ChannelNo) (t : End) (p : Part) : Follows p (takeOperation n t (claimForOrder i m) p) :=
  (stirs_takeOperation n t (fun q => (stirs_modChannel m _ q).trans (stirs_setProgress ..)) p).follows

/-! ### The sensors and the grip test -/

theorem follows_reportSwitch (i : Fin 8) (c : Option (CauseKind × Category)) (p : Part) : Follows p (reportSwitch i c p) := by
  unfold reportSwitch
  split
  · exact .refl p
  · exact follows_report ..

theorem follows_endSwitch (i : Fin 8) (c : Option (CauseKind × Category)) (p : Part) : Follows p (endSwitch i c p) := by
  unfold endSwitch
  split
  · exact .refl p
  · exact follows_gone ..

theorem follows_modSwitch (i : Fin 8) (f : Switch → Switch) (p : Part) : Follows p (modSwitch i f p) :=
  Beside.follows (.of_eq rfl rfl rfl rfl rfl rfl)

theorem follows_switchChange (i : Fin 8) (p : Part) : Follows p (switchChange i p) := by
  unfold switchChange
  dsimp only
  split
  · exact (follows_modSwitch ..).trans (follows_attend ..)
  · exact (((follows_modSwitch ..).trans (follows_attend ..)).trans (follows_endSwitch ..)).trans (follows_reportSwitch ..)

theorem follows_configureSwitch (i : Fin 8) (k : SwitchKind) (c : FaultCategory) (p : Part) : Follows p (configureSwitch i k c p) :=
  (((follows_endSwitch ..).trans (follows_modSwitch ..)).trans (follows_reportSwitch ..)).trans (follows_attend ..)

theorem follows_grip (g : Grip) (p : Part) : Follows p { p with grip := g } := Beside.follows (.of_eq rfl rfl rfl rfl rfl rfl)

theorem follows_sensors (x : Sensors) (p : Part) : Follows p { p with sensors := x } := Beside.follows (.of_eq rfl rfl rfl rfl rfl rfl)

theorem follows_gripRecord (k : Nat) (r : GripResult) (lo hi : Nat) (p : Part) :
    Follows p (modCabin k (fun c => { c with grip := r, gripMin := lo, gripMax := hi }) p) :=
  Beside.follows (modCabin_beside fun _ => rfl)

theorem follows_closeGrip (b : Bool) (p : Part) : Follows p (closeGrip b p) := by
  unfold closeGrip
  dsimp only
  split
  · exact .refl p
  · split
    · exact (((follows_grip ..).trans (follows_gripRecord ..)).trans (follows_attend ..)).trans (follows_report ..)
    · exact (((follows_grip ..).trans (follows_gripRecord ..)).trans (follows_attend ..)).trans (follows_report ..)
    · exact ((follows_grip ..).trans (follows_gripRecord ..)).trans (follows_attend ..)

theorem follows_openGrip (k : Nat) (t : Time) (p : Part) : Follows p (openGrip k t p) := (follows_closeGrip ..).trans (follows_grip ..)

theorem follows_gripExit (k : Nat) (p : Part) : Follows p (gripExit k p) := by
  unfold gripExit
  split
  · exact .refl p
  · split
    · exact follows_closeGrip ..
    · exact .refl p

theorem follows_gripSample (p : Part) : Follows p (gripSample p) := by
  unfold gripSample
  dsimp only
  split
  · exact .refl p
  · split
    · split
      · exact (follows_grip ..).trans (follows_closeGrip ..)
      · exact follows_grip ..
    · exact .refl p

theorem follows_tensionCheck (p : Part) : Follows p (tensionCheck p) := by
  unfold tensionCheck
  dsimp only
  split
  · exact .refl p
  · split
    · split
      · exact (follows_sensors ..).trans (follows_attend ..)
      · exact ((follows_sensors ..).trans (follows_attend ..)).trans (follows_gone ..)
    · split
      · exact ((follows_sensors ..).trans (follows_attend ..)).trans (follows_report ..)
      · exact (((follows_sensors ..).trans (follows_attend ..)).trans (follows_gone ..)).trans (follows_report ..)

theorem follows_windCheck (p : Part) : Follows p (windCheck p) := by
  unfold windCheck
  dsimp only
  split
  · exact ((follows_sensors ..).trans (follows_attend ..)).trans (follows_refreshWindCap _)
  · exact follows_sensors ..

theorem follows_scanTick (a : ScanAnswers) (p : Part) : Follows p (scanTick a p) := by
  have scanned (x : Sensors) (c : Clock) : Follows p { p with sensors := x, clock := c } := Beside.follows (.of_eq rfl rfl rfl rfl rfl rfl)
  have checked (q : Part) : Follows q (gripSample (if scanGood a then windCheck (tensionCheck q) else q)) := by
    split
    · exact ((follows_tensionCheck q).trans (follows_windCheck _)).trans (follows_gripSample _)
    · exact follows_gripSample q
  unfold scanTick
  refine Follows.trans ?_ (checked _)
  dsimp only
  split
  · exact ((scanned ..).trans (follows_attend ..)).trans (follows_report ..)
  · split
    · exact ((scanned ..).trans (follows_attend ..)).trans (follows_gone ..)
    · exact scanned ..

end Sys2Proof.Machine

/-! What the Door Sequencer, Launch Control, the Track Monitor and the orders keep of Launch Control's judgement and of the composition of C. -/

namespace Sys2Proof.Machine

/-! ### The Door Sequencer -/

theorem follows_modSeq (f : Sequencer → Sequencer) (p : Part) : Follows p (modSeq f p) := Beside.follows (.of_eq rfl rfl rfl rfl rfl rfl)

theorem follows_setDoor (k : Nat) (d : CabinDoor) (p : Part) : Follows p (setDoor k d p) := .of_call rfl (by simp)

theorem follows_setQueue (l : List QueueEntry) (p : Part) : Follows p (setQueue l p) := .of_call rfl rfl

theorem follows_modEntry (n : Nat) (f : QueueEntry → QueueEntry) (p : Part) : Follows p (modEntry n f p) := follows_setQueue ..

theorem follows_reportUnlocked (k : Nat) (b : Bool) (p : Part) : Follows p (reportUnlocked k b p) := by
  unfold reportUnlocked
  dsimp only
  split
  · exact ((follows_attend ..).trans (follows_modSeq ..)).trans (follows_report ..)
  · exact (follows_attend ..).trans (follows_report ..)

theorem follows_endUnlocked (k : Nat) (p : Part) : Follows p (endUnlocked k p) := by
  unfold endUnlocked
  split
  · exact (follows_modSeq ..).trans (follows_gone ..)
  · exact .refl p

theorem follows_lockCheck (g : Passage) (p : Part) : Follows p (lockCheck g p) := by
  unfold lockCheck
  dsimp only
  (repeat' split)
  · exact follows_setDoor ..
  · exact (follows_setDoor ..).trans (follows_reportUnlocked ..)
  · exact follows_modEntry ..

theorem follows_sequencerPassage (g : Passage) (p : Part) : Follows p (sequencerPassage g p) := by
  rw [sequencerPassage_eq]
  have cleared : Follows p (passageCleared g p) := by
    unfold passageCleared
    exact (follows_removeActions ..).trans (follows_judgeLate ..)
  have made : Follows (passageCleared g p) (passageMade g p) := by
    unfold passageMade
    exact (Heeds.foldl (triggerEntry_heeds g) _ _).follows (by simp)
  have checked (q : Part) : Follows q (passageChecked g q) := by
    have locked : Follows q (if g.detector == 4 then lockCheck g q else q) := by
      split
      · exact follows_lockCheck g q
      · exact .refl q
    unfold passageChecked
    generalize (if g.detector == 4 then lockCheck g q else q) = r at locked ⊢
    dsimp only
    split
    · exact locked.trans (follows_endUnlocked ..)
    · exact locked
  exact ((cleared.trans made).trans (checked _)).trans (stirs_judgeSequencer ..).follows

theorem follows_identifyLock (e : QueueEntry) (k : Nat) (p : Part) : Follows p (identifyLock e k p) := by
  have taken (d : CabinDoor) {q : Part} (hq : q = modEntry e.serial (fun e => { e with heldLock := none }) (setDoor k d p)) :
      Follows p (if d == .notLocked then reportUnlocked k (e.segment == 4) q else q) := by
    have noted : Follows p q := by
      rw [hq]
      exact (follows_setDoor k d p).trans (follows_modEntry ..)
    split
    · exact noted.trans (follows_reportUnlocked ..)
    · exact noted
  exact taken _ rfl

theorem follows_sequencerLoad (old : List QueueEntry) (l : List Nat) (p : Part) : Follows p (sequencerLoad old l p) :=
  (((follows_removeActions ..).trans (follows_judgeLate ..)).trans (.foldl (fun p e => follows_endUnlocked e.cabin p) old _)).trans
    (.foldl (fun p k => follows_setDoor k .unknown p) l _)

/-! ### Launch Control's own events -/

theorem follows_modLaunch {f : Launch → Launch} {p : Part} (hstate : (f p.launch).state = p.launch.state)
    (hgap : (f p.launch).gapRestarted = p.launch.gapRestarted) : Follows p (modLaunch f p) :=
  Heeds.follows (.inr ⟨rfl, rfl, rfl, rfl, fun _ => rfl, hgap, rfl, hstate⟩) rfl

theorem follows_judgeWatch (p : Part) : Follows p (judgeWatch p) := by
  have noted (b : Bool) : Follows p (modLaunch (fun l => { l with watchFault := b }) p) := follows_modLaunch rfl rfl
  unfold judgeWatch
  split
  · exact (noted true).trans (follows_report ..)
  · split
    · exact (noted false).trans (follows_gone ..)
    · exact .refl p

theorem follows_retainerChange (p : Part) : Follows p (retainerChange p) := (follows_modLaunch rfl rfl).trans (follows_judgeWatch _)

theorem follows_closingEnds (p : Part) : Follows p (closingEnds p) := (follows_modLaunch rfl rfl).trans (follows_judgeWatch _)

theorem follows_releaseTimesOut (p : Part) : Follows p (releaseTimesOut p) := by
  have reported := follows_report .releaseTimeout 1 .service false p
  unfold releaseTimesOut
  generalize report .releaseTimeout 1 .service false p = q at reported ⊢
  exact reported.trans (.of_call rfl rfl)

theorem follows_retainerPassage (k : Option Nat) (t : Time) (p : Part) : Follows p (retainerPassage k t p) := by
  refine ⟨fun _ => .inl rfl, fun h => ?_⟩
  unfold retainerPassage
  dsimp only
  refine (follows_applyPendingSwitch _).composed ?_
  split
  · simpa [releasePassage, endRelease, callLaunch, modLaunch] using h
  · split
    · exact h
    · exact (follows_report ..).composed h

/-! ### The Track Monitor -/

theorem follows_modTrack {f : Track → Track} {p : Part} (h : (f p.track).queue = p.track.queue) : Follows p (modTrack f p) :=
  Beside.follows (.of_eq_queue rfl rfl h rfl rfl rfl)

theorem follows_setRoster (l : List RosterEntry) (p : Part) : Follows p (setRoster l p) := Beside.follows (.of_eq_queue rfl rfl rfl rfl rfl rfl)

theorem follows_setPlace (k : Nat) (pl : Place) (p : Part) : Follows p (setPlace k pl p) :=
  Beside.follows (modCabin_beside fun _ => rfl)

theorem follows_reportTrack (k : CauseKind) (n : Nat) (c : Category) (b : Bool) (p : Part) : Follows p (reportTrack k n c b p) :=
  (follows_attend ..).trans (follows_report ..)

theorem follows_reportHoldOverflow (p : Part) : Follows p (reportHoldOverflow p) := (follows_modTrack rfl).trans (follows_reportTrack ..)

theorem follows_recountHold (b : Bool) (p : Part) : Follows p (recountHold b p) := by
  unfold recountHold
  dsimp only
  split
  · split
    · exact (follows_setCaps ..).trans (follows_reportHoldOverflow _)
    · exact follows_setCaps ..
  · split
    · exact ((follows_setCaps ..).trans (follows_modTrack rfl)).trans (follows_gone ..)
    · exact follows_setCaps ..

theorem follows_recountQueue (p : Part) : Follows p (recountQueue p) := by
  unfold recountQueue
  split
  · exact (follows_modTrack rfl).trans (follows_gone ..)
  · exact .refl p

theorem follows_leaveRoster (k : Nat) (p : Part) : Follows p (leaveRoster k p) := follows_setRoster ..

theorem follows_refuseArrival (r : Option Nat) (p : Part) : Follows p (refuseArrival r p) := by
  unfold refuseArrival
  dsimp only
  split
  · exact (follows_modTrack rfl).trans (follows_reportTrack ..)
  · exact (((follows_leaveRoster ..).trans (follows_setPlace ..)).trans (follows_modTrack rfl)).trans (follows_reportTrack ..)

theorem follows_appendArrival (k : Nat) (t : Time) (p : Part) : Follows p (appendArrival k t p) :=
  ((follows_modTrack rfl).trans (follows_setQueue ..)).trans (follows_setPlace ..)

theorem follows_left (who : Option Nat) (p : Part) :
    Follows p (match who with
      | none => p
      | some n => leaveRoster n p) := by
  split
  · exact .refl p
  · exact follows_leaveRoster ..

theorem follows_told (positional fault : Bool) (p : Part) :
    Follows p (if fault then reportTrack .sequenceFault 1 .service false (if positional then attend .track p else p)
      else if positional then attend .track p else p) := by
  cases positional <;> cases fault
  · exact .refl p
  · exact follows_reportTrack ..
  · exact follows_attend ..
  · exact (follows_attend ..).trans (follows_reportTrack ..)

theorem follows_decideArrival (r : Option Nat) (t : Time) (p : Part) : Follows p (decideArrival r t p) := by
  unfold decideArrival
  by_cases h : Config.queueMax ≤ p.track.queue.length
  · rw [if_pos h]; exact follows_refuseArrival ..
  · rw [if_neg h]
    exact (((follows_left (identified p r) p).trans (follows_appendArrival ..)).trans (follows_told ..)).trans (follows_sequencerPassage ..)

theorem follows_setMatcher (m : TagMatcher) (p : Part) : Follows p (setMatcher m p) := follows_modTrack rfl

theorem follows_tagArrives (r : Option Nat) (p : Part) : Follows p (tagArrives r p) := by
  unfold tagArrives
  split
  · exact (follows_setMatcher ..).trans (follows_decideArrival ..)
  · exact follows_setMatcher ..

theorem follows_d1Arrives (t : Time) (p : Part) : Follows p (d1Arrives t p) := by
  unfold d1Arrives
  split
  · exact follows_setMatcher ..
  · exact (follows_setMatcher ..).trans (follows_decideArrival ..)
  · exact (follows_decideArrival ..).trans (follows_setMatcher ..)

theorem follows_endWait (p : Part) : Follows p (endWait p) := by
  unfold endWait
  split
  · exact (follows_setMatcher ..).trans (follows_decideArrival ..)
  · exact .refl p

theorem follows_restartGap (p : Part) : Follows p (restartGap p) :=
  Beside.follows ⟨rfl, rfl, rfl, fun _ => rfl, rfl, rfl⟩

theorem follows_phantomPassage (k : Nat) (t : Time) (p : Part) : Follows p (phantomPassage k t p) := by
  unfold phantomPassage
  dsimp only
  split
  · exact ((follows_reportTrack ..).trans (follows_restartGap _)).trans (follows_retainerPassage ..)
  · exact follows_reportTrack ..

theorem follows_handPassage (k : Nat) (e : QueueEntry) (n : PassageNote) (p : Part) : Follows p (handPassage k e n p) := by
  have atD5 : Follows p (if k == 5 then retainerPassage (some e.cabin) n.time (restartGap p) else p) := by
    split
    · exact (follows_restartGap p).trans (follows_retainerPassage ..)
    · exact .refl p
  have atD6 (q : Part) : Follows q (if k == 6 then openGrip e.cabin n.time q else q) := by
    split
    · exact follows_openGrip ..
    · exact .refl q
  exact (atD5.trans (atD6 _)).trans (follows_sequencerPassage ..)

theorem follows_takePassage (k : Nat) (n : PassageNote) (p : Part) : Follows p (takePassage k n p) := by
  have waited : Follows p (if k == 2 then endWait p else p) := by
    split
    · exact follows_endWait p
    · exact .refl p
  unfold takePassage
  dsimp only
  generalize (if k == 2 then endWait p else p) = q at waited ⊢
  refine waited.trans ?_
  split
  · exact follows_phantomPassage ..
  · exact ((follows_modEntry ..).trans (follows_recountHold ..)).trans (follows_handPassage ..)

theorem follows_joinRoster (k : Nat) (p : Part) : Follows p (joinRoster k p) :=
  (follows_setRoster ..).trans (Beside.follows (modCabin_beside fun _ => rfl))

theorem follows_exitCabin (k : Nat) (p : Part) : Follows p (exitCabin k p) := by
  unfold exitCabin
  split
  · exact (follows_joinRoster ..).trans (exitNote_beside ..).follows
  · exact follows_reportTrack ..

theorem follows_takeExit (t : Time) (p : Part) : Follows p (takeExit t p) := by
  unfold takeExit
  dsimp only
  split
  · exact follows_phantomPassage ..
  · exact ((((follows_setQueue ..).trans (follows_recountQueue _)).trans (follows_exitCabin ..)).trans (follows_gripExit ..)).trans
      (follows_sequencerPassage ..)

theorem follows_clearPassage (k : Nat) (p : Part) : Follows p (clearPassage k p) := by
  unfold clearPassage
  split
  · exact follows_modTrack rfl
  · exact .refl p

theorem follows_withPassage {f : PassageNote → Part → Part} (h : ∀ n p, Follows p (f n p)) (k : Nat) (p : Part) :
    Follows p (withPassage k f p) := by
  unfold withPassage
  split
  · exact .refl p
  · exact (follows_clearPassage ..).trans (h ..)

theorem follows_emptyRoster (l : List Nat) (p : Part) : Follows p (emptyRoster l p) :=
  (follows_setRoster [] p).trans (.foldl (fun p (e : RosterEntry) => follows_setPlace e.cabin .unknown p) _ _)

theorem follows_loadRoster (b : Bool) (l : List Nat) (p : Part) : Follows p (loadRoster b l p) := by
  unfold loadRoster
  split
  · exact .foldl (fun p k => follows_joinRoster k p) l p
  · exact (follows_emptyRoster l p).trans (.foldl (fun p k => follows_joinRoster k p) l _)

theorem follows_unplaced (old : List QueueEntry) (p : Part) : Follows p (old.foldl (fun p e => setPlace e.cabin .unknown p) p) :=
  .foldl (f := fun p e => setPlace e.cabin .unknown p) (fun p e => follows_setPlace e.cabin .unknown p) old p

theorem follows_placed (l : List Nat) (p : Part) : Follows p (l.foldl (fun p k => setPlace k .inStation p) p) :=
  .foldl (f := fun p k => setPlace k .inStation p) (fun p k => follows_setPlace k .inStation p) l p

theorem follows_newQueue (n : Nat) (l : List QueueEntry) (p : Part) :
    Follows p (setQueue l (modTrack (fun t => { t with nextSerial := n, matcher := .empty }) p)) :=
  (follows_modTrack (f := fun t => { t with nextSerial := n, matcher := .empty }) rfl).trans (follows_setQueue ..)

theorem follows_loadQueue (l : List (Nat × Nat)) (p : Part) : Follows p (loadQueue l p) := by
  unfold loadQueue
  dsimp only
  exact (((((follows_unplaced _ p).trans (follows_newQueue ..)).trans (follows_placed ..)).trans (follows_sequencerLoad ..)).trans
    (follows_recountHold ..)).trans (follows_recountQueue _)

end Sys2Proof.Machine

/-! What every command keeps of Launch Control's judgement and of the composition of C; and the ceiling and the release (R65 to R68, R132). -/

namespace Sys2Proof.Machine

/-! ### The orders -/

theorem follows_registerCabin {k : Nat} {b : Bool} {p : Part} (hmode : p.sup.mode ≠ .run) : Follows p (registerCabin k b p) where
  judged h := h.outside_run (by simp [registerCabin]) (by simp [registerCabin]) hmode
  composed h := by simpa [registerCabin] using h

theorem writeProfile_profile {n : ProfileName} {f : Profile} {p : Part} (h : p.sup.active ≠ n) :
    activeProfile (writeProfile n f p).sup = activeProfile p.sup := by
  cases n <;> cases hactive : p.sup.active <;> simp_all [writeProfile, modSup, activeProfile]

theorem follows_writeProfile {n : ProfileName} (f : Profile) {p : Part} (h : ¬ (p.sup.active = n ∧ p.sup.mode ≠ .off)) :
    Follows p (writeProfile n f p) := by
  have kept : (writeProfile n f p).sup.mode = p.sup.mode ∧ (writeProfile n f p).sup.caps = p.sup.caps ∧
      (writeProfile n f p).sup.ceiling = p.sup.ceiling := by cases n <;> exact ⟨rfl, rfl, rfl⟩
  obtain ⟨mode, caps, ceiling⟩ := kept
  by_cases hactive : p.sup.active = n
  · have off : p.sup.mode = .off := by simpa [hactive] using h
    refine ⟨fun hj => hj.outside_run rfl rfl (by rw [off]; decide), fun hc => ?_⟩
    rw [Composed, ceiling, hc.zero (by rw [off]; rfl)]
    simp [composedCeiling, mode, off, Mode.isRunning]
  · exact .of_sup mode caps (writeProfile_profile hactive) ceiling rfl rfl rfl rfl rfl

theorem follows_acknowledge (p : Part) : Follows p (modSup acknowledge p) := by
  have kept : (acknowledge p.sup).mode = p.sup.mode ∧ (acknowledge p.sup).caps = p.sup.caps ∧
      activeProfile (acknowledge p.sup) = activeProfile p.sup ∧ (acknowledge p.sup).ceiling = p.sup.ceiling := by
    unfold acknowledge
    dsimp only
    split <;> exact ⟨rfl, rfl, rfl, rfl⟩
  exact .of_sup kept.1 kept.2.1 kept.2.2.1 kept.2.2.2 rfl rfl rfl rfl rfl

theorem follows_configureLine (c : LineConfig) (p : Part) : Follows p (configureLine c p) := by
  unfold configureLine
  refine (follows_modLine (fun l => { l with config := c, backoff := if c.autoStart then l.backoff else none }) p).trans ?_
  dsimp only
  generalize modLine _ p = q
  split
  · exact follows_enterProbing q
  · exact .refl q

theorem follows_startLine (p : Part) : Follows p (startLine p) := by
  unfold startLine
  split
  · exact follows_enterProbing p
  · exact follows_modLine ..
  · exact follows_trainAtCeiling p
  · split
    · exact follows_answerStart ..
    · exact follows_trainAtCeiling p
  · exact follows_trainAtCeiling p

theorem isOff_mode {p : Part} (h : ¬ (!isOff p) = true) : p.sup.mode = .off := by simpa [isOff] using h

theorem follows_answerCall (v : VoiceNo) (r : Result) (d : Nat) (p : Part) : Follows p (answerCall v r d p) := (answerCall_kept v r d p).follows

theorem follows_clearCall (v : VoiceNo) (p : Part) : Follows p (clearCall v p) := by
  unfold clearCall
  split
  · split
    · exact (callToIdle_kept v p).follows
    · exact .refl p
  · exact (clearByValley_kept ..).follows.trans (follows_answerCall ..)

theorem follows_ok {p q : Part} (h : Follows p q) : Follows p (ok q).part := h

theorem follows_okDetail {d : Nat} {p q : Part} (h : Follows p q) : Follows p (okDetail d q).part := h

theorem follows_clampedBy {n : Nat} {p q : Part} (h : Follows p q) : Follows p (clampedBy n q).part := by
  rw [clampedBy_eq]; exact h

theorem follows_orderCabinIdentify (x : Slot) (p : Part) : Follows p (orderCabinIdentify x p).part := by
  unfold orderCabinIdentify identifyEntry
  dsimp only
  (repeat' split)
  · exact .refl p
  · exact .refl p
  · exact .refl p
  · exact (((follows_modEntry ..).trans (follows_setPlace ..)).trans (follows_attend ..)).trans (follows_identifyLock ..)

theorem follows_orderCauseAcknowledge (x : Slot) (p : Part) : Follows p (orderCauseAcknowledge x p).part := by
  by_cases h : p.sup.mode = .stopped ∧ (acknowledge p.sup).causes = []
  · rw [orderCauseAcknowledge_off h]
    exact follows_okDetail (((follows_acknowledge p).trans (follows_attend .stopCause _)).trans (follows_changeMode ..))
  · rw [orderCauseAcknowledge_stays h]
    exact (follows_acknowledge p).trans (follows_attend ..)

theorem follows_switchInRun (n : ProfileName) (p : Part) : Follows p (switchInRun n p).part := by
  have noted (x : Option ProfileName) : Follows p (modSup (fun u => { u with pendingSwitch := x }) p) :=
    .of_sup rfl rfl rfl rfl rfl rfl rfl rfl rfl
  unfold switchInRun
  split
  · exact noted none
  · exact noted (some n)

theorem follows_orderProfileWrite (x : Slot) (p : Part) : Follows p (orderProfileWrite x p).part := by
  unfold orderProfileWrite
  (repeat' split)
  · exact .refl p
  · exact .refl p
  · exact .refl p
  next h _ => exact follows_clampedBy (follows_writeProfile _ (by simpa [isOff] using h))

theorem follows_orderBody {body : Slot → Part → Reply} (hb : OrderBody body) (x : Slot) (p : Part) : Follows p (body x p).part := by
  cases hb with
  | cabinRegister =>
    unfold orderCabinRegister
    dsimp only
    (repeat' split)
    · exact .refl p
    · exact .refl p
    next h => exact follows_registerCabin (by rw [isOff_mode h]; decide)
  | cabinUnregister =>
    unfold orderCabinUnregister
    dsimp only
    (repeat' split)
    · exact .refl p
    · exact .refl p
    · exact Beside.follows (modCabin_beside fun _ => rfl)
  | cabinPlace =>
    unfold orderCabinPlace
    dsimp only
    (repeat' split)
    · exact .refl p
    · exact .refl p
    · exact .refl p
    · exact follows_setPlace ..
  | cabinSetService =>
    unfold orderCabinSetService
    dsimp only
    (repeat' split)
    · exact .refl p
    · exact .refl p
    · exact Beside.follows (modCabin_beside fun _ => rfl)
  | cabinIdentify => exact follows_orderCabinIdentify x p
  | rosterLoad =>
    unfold orderRosterLoad
    dsimp only
    (repeat' split)
    · exact .refl p
    · exact .refl p
    · exact .refl p
    · exact .refl p
    · exact follows_loadRoster ..
  | stationQueueLoad =>
    unfold orderStationQueueLoad
    dsimp only
    (repeat' split)
    · exact .refl p
    · exact .refl p
    · exact .refl p
    · exact .refl p
    · exact follows_loadQueue ..
  | sensorConfigure =>
    unfold orderSensorConfigure
    split
    · exact .refl p
    · exact .refl p
    · exact .refl p
    · split
      · exact .refl p
      · exact follows_clampedBy (follows_configureSwitch ..)
  | doorConfigure =>
    unfold orderDoorConfigure
    (repeat' split)
    · exact .refl p
    · exact .refl p
    · exact .refl p
    · exact follows_clampedBy (follows_configureDoor ..)
  | doorHalt =>
    unfold orderDoorHalt
    dsimp only
    (repeat' split)
    · exact .refl p
    · exact .refl p
    · exact follows_haltDoor ..
  | doorResetFault =>
    unfold orderDoorResetFault
    dsimp only
    (repeat' split)
    · exact .refl p
    · exact .refl p
    · exact .refl p
    · exact follows_resetFault ..
  | startBudgetSet => exact follows_clampedBy (Beside.follows (.of_eq rfl rfl rfl rfl rfl rfl))
  | doorProgramLoad =>
    unfold orderDoorProgramLoad
    dsimp only
    (repeat' split)
    · exact .refl p
    · exact .refl p
    · exact .refl p
    · exact follows_clampedBy ((follows_modSeq ..).trans (follows_attend ..))
  | cabinDoorConfirm =>
    unfold orderCabinDoorConfirm confirmDoor
    dsimp only
    (repeat' split)
    · exact .refl p
    · exact .refl p
    · exact .refl p
    · exact .refl p
    · exact ((follows_modSeq ..).trans (follows_setDoor ..)).trans (follows_endUnlocked ..)
  | stationPrepare =>
    unfold orderStationPrepare
    (repeat' split)
    · exact .refl p
    · exact .refl p
    · exact follows_okDetail (follows_changeMode ..)
  | stationStart =>
    unfold orderStationStart
    (repeat' split)
    · exact .refl p
    · exact .refl p
    · exact (follows_changeMode .starting p).trans (.of_sup rfl rfl rfl rfl rfl rfl rfl rfl rfl)
  | stationStop =>
    unfold orderStationStop
    (repeat' split)
    · exact follows_okDetail (follows_changeMode ..)
    · exact .refl p
    · exact .refl p
  | stationFastStop => exact follows_report ..
  | stationOff =>
    unfold orderStationOff
    split
    · exact .refl p
    · exact follows_ok (follows_changeMode ..)
    · exact follows_ok (follows_changeMode ..)
    · exact .refl p
  | causeAcknowledge => exact follows_orderCauseAcknowledge x p
  | profileWrite => exact follows_orderProfileWrite x p
  | profileSwitch =>
    unfold orderProfileSwitch
    (repeat' split)
    · exact .refl p
    · exact .refl p
    · exact .refl p
    · exact .refl p
    · exact follows_switchInRun ..
    · exact .refl p
    · exact follows_applySwitch ..
  | lineConfigure => exact follows_clampedBy (follows_configureLine ..)
  | lineDormant =>
    unfold orderLineDormant
    (repeat' split)
    · exact .refl p
    · exact .refl p
    · exact follows_enterDormant p
  | lineSetIndications =>
    unfold orderLineSetIndications
    split
    · exact .refl p
    · exact follows_ok (follows_modLine ..)
  | callClear =>
    unfold orderCallClear
    dsimp only
    (repeat' split)
    · exact .refl p
    · exact .refl p
    · exact follows_clearCall ..
  | callConfigure => exact follows_clampedBy (Beside.follows (.of_eq rfl rfl rfl rfl rfl rfl))

theorem follows_heldBody {i : SlotNo} {body : Slot → Part → Part} (hb : HeldBody i body) (x : Slot) (p : Part) : Follows p (body x p) := by
  cases hb with
  | doorMove =>
    unfold orderDoorMove
    (repeat' split)
    · exact follows_answer ..
    · exact follows_answer ..
    · exact follows_answer ..
    · exact follows_answer ..
    · exact follows_answer ..
    · exact follows_takeForOrder ..
  | lineStart =>
    unfold orderLineStart
    dsimp only
    split
    · exact follows_answer ..
    · split
      · exact follows_answer ..
      · exact (follows_modLine ..).trans (follows_startLine _)
  | lineProbe =>
    unfold orderLineProbe
    (repeat' split)
    · exact follows_answer ..
    · exact follows_answer ..
    · exact (follows_modLine ..).trans (follows_sendProbe ..)
  | messageSend =>
    unfold orderMessageSend
    dsimp only
    (repeat' split)
    · exact follows_answer ..
    · exact follows_answer ..
    · exact ((modMsg_beside ..).trans (setProgress_beside ..)).follows
  | callPlace =>
    unfold orderCallPlace
    (repeat' split)
    · exact follows_answer ..
    · exact follows_answer ..
    · exact (originate_kept ..).follows

end Sys2Proof.Machine

/-! STATION_PREPARE, STATION_START and the ceiling (R118, R119, R132); the release and its request (R65 to R68). -/

namespace Sys2Proof.Machine

/-! ### The effects of the commands -/

theorem follows_modSlot (i : SlotNo) (f : Slot → Slot) (p : Part) : Follows p (modSlot i f p) := Beside.follows (.of_eq rfl rfl rfl rfl rfl rfl)

theorem follows_window (w : Window) (p : Part) : Follows p { p with window := w } := Beside.follows (.of_eq rfl rfl rfl rfl rfl rfl)

theorem follows_takeHead (i : SlotNo) (p : Part) : Follows p (takeHead i p) := (follows_window _ p).trans (follows_modSlot ..)

theorem follows_withdrawMove (i : SlotNo) (p : Part) : Follows p (withdrawMove i p) := by
  unfold withdrawMove
  split
  · exact .refl p
  · exact ((follows_modChannel ..).trans (follows_answer ..)).trans (follows_haltChannel ..)

theorem follows_withdrawStart (i : SlotNo) (p : Part) : Follows p (withdrawStart i p) := by
  unfold withdrawStart
  dsimp only
  split
  · exact (((follows_answerStart ..).trans (follows_modLine ..)).trans (follows_changeLine ..)).trans (follows_startBackoff _)
  · exact .refl p

theorem follows_withdrawCall (i : SlotNo) (p : Part) : Follows p (withdrawCall i p) := by
  unfold withdrawCall
  split
  · exact .refl p
  · exact (clearByValley_kept ..).follows.trans (follows_answerCall ..)

theorem follows_tellWithdraw (i : SlotNo) (p : Part) : Follows p (tellWithdraw i p) := by
  unfold tellWithdraw
  dsimp only
  (repeat' split)
  · exact follows_withdrawMove ..
  · exact follows_withdrawStart ..
  · exact (withdrawMessage_beside ..).follows
  · exact follows_withdrawCall ..
  · exact .refl p

theorem follows_writeStateOctet (i : SlotNo) (b : Byte) (p : Part) : Follows p (writeStateOctet i b p) := by
  unfold writeStateOctet
  split
  · split
    · exact (follows_modSlot ..).trans (follows_window ..)
    · exact .refl p
  · split
    · exact (follows_window ..).trans (follows_answer ..)
    · exact .refl p
  · split
    · exact (follows_modSlot ..).trans (follows_tellWithdraw ..)
    · exact .refl p
  · exact .refl p
  · split
    · exact follows_modSlot ..
    · exact .refl p

theorem follows_writeEffect {f : Part → Part} (hf : WriteEffect f) (p : Part) : Follows p (f p) := by
  cases hf with
  | state i b => exact follows_writeStateOctet ..
  | slot i j b => exact follows_modSlot ..
  | receive r b =>
    unfold writeReceiveState
    split
    · exact (modMsg_beside ..).follows
    · exact .refl p
  | enable on => exact follows_window ..
  | clear bits => exact follows_window ..
  | mask bits => exact follows_window ..
  | nothing => exact .refl p

/-- The end of a sample calls for Launch Control's judgement, whatever the rope has reported. -/
theorem samplePublished (b : Bool) (p : Part) :
    Judged (if b then standstillEvent (callLaunch (startComplete p)) else callLaunch (startComplete p)) ∧
      (Composed p.sup → Composed (if b then standstillEvent (callLaunch (startComplete p)) else callLaunch (startComplete p)).sup) := by
  have completed : Follows p (callLaunch (startComplete p)) := (follows_startComplete p).trans ((callLaunch_heeds _).follows rfl)
  have called : Judged (callLaunch (startComplete p)) := .inl rfl
  generalize callLaunch (startComplete p) = q at completed called ⊢
  cases b
  · exact ⟨called, completed.composed⟩
  · exact ⟨(follows_standstillEvent q).judged called, fun h => (follows_standstillEvent q).composed (completed.composed h)⟩

theorem follows_ropeTick (a b : EncoderInterval) (p : Part) : Follows p (ropeTick a b p) := by
  unfold ropeTick
  generalize ropeSample (activeProfile p.sup) p.sup.ceiling p.sup.mode p.clock.now a b p.rope = res
  have delivered := (Follows.foldl follows_deliver res.notices
    { p with rope := res.rope, launch := { p.launch with gapRestarted := false } }).composed
  dsimp only
  generalize res.notices.foldl deliver { p with rope := res.rope, launch := { p.launch with gapRestarted := false } } = q at delivered ⊢
  obtain ⟨judged, composed⟩ := samplePublished res.standstill q
  exact ⟨fun _ => judged, fun h => composed (delivered h)⟩

theorem follows_sampledInputs (x : SampleInputs) (p : Part) : Follows p (sampledInputs x p) := by
  have heeds : Heeds p (sampledInputs x p) := .inr ⟨by simp, by simp, by simp [activeProfile], by simp,
    fun k => by rw [cabin_of_cabins_eq (show (sampledInputs x p).cabins = p.cabins by simp)], by simp, by simp, by simp⟩
  exact ⟨heeds.judged, fun h => h.congr (by simp) (by simp) (by simp [activeProfile]) (by simp)⟩

theorem follows_frameStep (mic0 mic1 : List Byte) (p : Part) : Follows p (frameStep mic0 mic1 p) := by
  have gathered : Follows p (modCall 1 (fun c => { c with micOctets := mic1 }) (modCall 0 (fun c => { c with micOctets := mic0 })
      (modClock (fun c => { c with frameTaken := true }) p))) := Beside.follows (.of_eq rfl rfl rfl rfl rfl rfl)
  exact gathered.trans (follows_lineTick _)

theorem follows_modCall (v : VoiceNo) (f : CallSlot → CallSlot) (p : Part) : Follows p (modCall v f p) :=
  Beside.follows (.of_eq rfl rfl rfl rfl rfl rfl)

theorem follows_hookChange (v : VoiceNo) (p : Part) : Follows p (hookChange v p) := by
  unfold hookChange
  dsimp only
  split
  · exact (follows_modCall ..).trans (handsetLifted_kept ..).follows
  · exact (follows_modCall ..).trans (handsetHungUp_kept ..).follows

theorem follows_modClock (f : Clock → Clock) (p : Part) : Follows p (modClock f p) := Beside.follows (.of_eq rfl rfl rfl rfl rfl rfl)

theorem follows_graceEnds (p : Part) : Follows p (graceEnds p) :=
  Follows.trans (q := modSup _ p) (.of_sup rfl rfl rfl rfl rfl rfl rfl rfl rfl) (follows_report ..)

theorem follows_declareStandstill (p : Part) : Follows p (declareStandstill p) := by
  have declared : Follows p { p with rope := { p.rope with standstill := true } } := Beside.follows ⟨rfl, rfl, rfl, fun _ => rfl, rfl, rfl⟩
  exact declared.trans (follows_standstillEvent _)

/-- Every command's effect keeps Launch Control's judgement and the composition of C. -/
theorem follows_effect {f : Part → Part} (hf : Effect f) (p : Part) : Follows p (f p) := by
  cases hf with
  | order i hb => exact ((follows_takeHead i p).trans (follows_orderBody hb _ _)).trans (follows_answer ..)
  | held i hb =>
    unfold heldEffect
    split
    · exact (follows_takeHead i p).trans (follows_answer ..)
    · exact (follows_takeHead i p).trans (follows_heldBody hb _ _)
  | unknownKind i => exact (follows_takeHead i p).trans (follows_answer ..)
  | write hw => exact follows_writeEffect hw p
  | sample x => exact (follows_sampledInputs x p).trans (follows_ropeTick ..)
  | frame a b => exact follows_frameStep a b p
  | second => exact (follows_modClock _ p).trans (follows_setRoster ..)
  | callSecond v => exact follows_modCall ..
  | tag r => exact follows_tagArrives ..
  | arrival => exact follows_withPassage (fun n p => follows_d1Arrives n.time p) 1 p
  | passage k => exact follows_withPassage (follows_takePassage k) k p
  | exit => exact follows_withPassage (fun n p => follows_takeExit n.time p) 7 p
  | switch i => exact follows_switchChange ..
  | retainer => exact follows_retainerChange p
  | hook v => exact follows_hookChange ..
  | door n x => exact follows_channelStep ..
  | scan a => exact follows_scanTick ..
  | answer x => exact follows_takeAnswer ..
  | burst bits => exact follows_hearBits ..
  | reportExpiry => exact follows_setMatcher ..
  | passageExpiry => exact follows_endWait p
  | pulseOver => exact follows_modLaunch rfl rfl
  | releaseOver => exact follows_releaseTimesOut p
  | closingOver => exact follows_closingEnds p
  | grantWindow => exact (callArbiter_heeds p).follows rfl
  | actionDue => exact (stirs_judgeSequencer ..).follows
  | startFailed => exact follows_report ..
  | graceOver => exact follows_graceEnds p
  | standstill => exact follows_declareStandstill p
  | probe => exact follows_sendProbe ..
  | listen => exact follows_listenEnds p
  | attempt => exact follows_attemptFails p
  | backoff => exact follows_enterProbing p
  | sleep => exact follows_sleepEnds p
  | noAnswer v => exact ((follows_modCall ..).trans (callToIdle_kept ..).follows).trans (follows_answerCall ..)
  | guard v => exact (callToIdle_kept ..).follows
  | cadence v => exact follows_modCall ..
  | millisecond => exact follows_modClock ..

theorem follows_writeHalf (a : BitVec 13) (d : Half) (lo hi : Bool) (p : Part) : Follows p (writeHalf a d lo hi p) :=
  writeHalf_relates (R := Follows) .refl (fun _ _ _ h g => h.trans g) (fun _ hf q => follows_writeEffect hf q) a d lo hi p

end Sys2Proof.Machine

/-! The release and its request (R65 to R68), and STATION_PREPARE, STATION_START and the ceiling (R118, R119, R132). -/

namespace Sys2Proof.Machine

/-! ### RETAIN is energised by a grant alone -/

/-- RETAIN has not been energised. -/
def RetainOff (p q : Part) : Prop := p.launch.retain = false → q.launch.retain = false

theorem RetainOff.of_launch {p q : Part} (h : q.launch = p.launch) : RetainOff p q := fun hp => by rw [h]; exact hp

theorem RetainOff.of_kept {p q : Part} (h : RetainKept p q) : RetainOff p q := fun hp => h.2.trans hp

theorem RetainOff.trans {p q r : Part} (h : RetainOff p q) (g : RetainOff q r) : RetainOff p r := g ∘ h

theorem retainerPassage_off (k : Option Nat) (t : Time) (p : Part) : RetainOff p (retainerPassage k t p) := by
  intro h
  unfold retainerPassage
  dsimp only
  split
  · simp [releasePassage, endRelease, modLaunch]
  · split <;> simpa [modLaunch] using h

theorem phantomPassage_off (k : Nat) (t : Time) (p : Part) : RetainOff p (phantomPassage k t p) := by
  unfold phantomPassage
  dsimp only
  split
  · exact RetainOff.trans (q := restartGap (reportTrack .sequenceFault k .service false p)) (.of_launch (by simp)) (retainerPassage_off _ _ _)
  · exact .of_launch (by simp)

theorem takePassage_off (k : Nat) (n : PassageNote) (p : Part) : RetainOff p (takePassage k n p) := by
  have waited : RetainOff p (if k == 2 then endWait p else p) := .of_launch (by split <;> simp)
  unfold takePassage
  dsimp only
  generalize (if k == 2 then endWait p else p) = q at waited ⊢
  refine waited.trans ?_
  split
  · exact phantomPassage_off _ _ _
  next e _ =>
    have moved : RetainOff q (recountHold (k == 4) (moveEntry e.serial k n.time q)) := .of_launch (by simp)
    generalize recountHold (k == 4) (moveEntry e.serial k n.time q) = r at moved ⊢
    refine moved.trans ?_
    unfold handPassage
    dsimp only
    have atD5 : RetainOff r (if k == 5 then retainerPassage (some e.cabin) n.time (restartGap r) else r) := by
      split
      · exact RetainOff.trans (q := restartGap r) (.of_launch rfl) (retainerPassage_off _ _ _)
      · exact id
    generalize (if k == 5 then retainerPassage (some e.cabin) n.time (restartGap r) else r) = x at atD5 ⊢
    exact atD5.trans (.of_launch (by split <;> simp))

theorem takeExit_off (t : Time) (p : Part) : RetainOff p (takeExit t p) := by
  unfold takeExit
  dsimp only
  split
  · exact phantomPassage_off _ _ _
  · exact .of_launch (by simp [removeEntry])

theorem withPassage_off {f : PassageNote → Part → Part} (hf : ∀ n p, RetainOff p (f n p)) (k : Nat) (p : Part) :
    RetainOff p (withPassage k f p) := by
  unfold withPassage
  split
  · exact id
  · exact RetainOff.trans (q := clearPassage k p) (.of_launch (by simp)) (hf _ _)

theorem effect_off {f : Part → Part} (hf : Effect f) (p : Part) : RetainOff p (f p) := by
  cases hf with
  | order i hb => exact .of_launch ((orderBody_kept hb _ _).2.trans rfl)
  | held i hb =>
    refine .of_launch ?_
    unfold heldEffect
    split
    · rfl
    · exact (heldBody_kept hb _ _).2
  | unknownKind i => exact .of_launch rfl
  | write hw => exact .of_launch (writeEffect_kept hw p).2
  | sample x => exact .of_kept (by rw [sampleStep_eq]; simp [RetainKept])
  | tag r => exact .of_launch (by simp)
  | arrival => exact withPassage_off (fun n q => .of_launch (by simp)) 1 p
  | passage k => exact withPassage_off (takePassage_off k) k p
  | exit => exact withPassage_off (fun n => takeExit_off n.time) 7 p
  | retainer =>
    refine fun h => (judgeWatch_retain _).2.trans ?_
    simp only [modLaunch, h, ite_self]
  | pulseOver => exact fun _ => rfl
  | releaseOver => exact fun _ => rfl
  | closingOver => exact fun h => (judgeWatch_retain _).2.trans h
  | passageExpiry => exact .of_launch (by simp)
  | hook v => exact .of_launch (by simp only [hookChange]; split <;> simp)
  | _ =>
    exact .of_launch (by simp [secondStep, graceEnds, declareStandstill, noAnswer, cadenceStep, countMillisecond, modClock,
      callSecond, frameStep])

theorem writeHalf_off (a : BitVec 13) (d : Half) (lo hi : Bool) (p : Part) : RetainOff p (writeHalf a d lo hi p) :=
  writeHalf_relates (R := RetainOff) (fun _ => id) (fun _ _ _ h g => h.trans g) (fun _ hf q => .of_launch (writeEffect_kept hf q).2) a d lo hi p

/-! ### The step -/

/-- What a step that energises RETAIN has done (R68). -/
def EnergisedByGrant (p q : Part) : Prop :=
  p.launch.retain = false → q.launch.retain = true →
    ReleasedNow q ∧ ∃ (r : Part) (n : Nat), GrantTaken r ∧
      q = refreshPins (refreshTone 1 (refreshTone 0 { settle n (settleOnce r) with work := {} }))

theorem releasedNow_settle (n : Nat) {p : Part} (h : ReleasedNow p) : ReleasedNow (settle n p) :=
  settle_keeps (P := ReleasedNow) (fun _ hq => releasedNow_settleOnce hq) (fun _ hq => releasedNow_judgeLaunch hq) n h

/-- The end of an event keeps that a request stands, and energises RETAIN by a grant. -/
theorem finish_releases {p q : Part} (hstands : RequestStands p) (hfollows : Follows p q) (hoff : RetainOff p q) :
    RequestStands (finish q) ∧ EnergisedByGrant p (finish q) := by
  have judged := hfollows.judged (.inr hstands)
  have ended : (finish q).launch = (settle 64 q).launch := by simp [finish]
  refine ⟨HoldInputs.stands (p := settle 64 q) ⟨?_, ?_, ?_, fun k => ?_, ?_, ?_, ?_⟩ (requestStands_settle 64 judged), fun hp hon => ?_⟩
  · simp [finish]
  · simp [finish, activeProfile]
  · simp [finish]
  · rw [cabin_of_cabins_eq (show (finish q).cabins = (settle 64 q).cabins by simp [finish])]
  · rw [ended]
  · simp [finish]
  · rw [ended]
  · rw [ended] at hon
    obtain ⟨r, n, grant, same⟩ := settle_energises 64 judged (hoff hp) hon
    refine ⟨?_, r, n, grant, by rw [finish, same]⟩
    rw [finish, same]
    exact (releasedNow_settle n (releasedNow_grant grant)).of_eq (by simp) (by simp)

theorem energisedByGrant_off {p q : Part} (h : q.launch.retain = false) : EnergisedByGrant p q :=
  fun _ hon => absurd (h.symm.trans hon) (by decide)

theorem step_releases {s t : State} (hstep : step s = .next t) :
    RequestStands s.part → RequestStands t.part ∧ EnergisedByGrant s.part t.part :=
  step_relates (R := fun p q => RequestStands p → RequestStands q ∧ EnergisedByGrant p q)
    (fun _ h => ⟨h, fun hoff hon => absurd (hoff.symm.trans hon) (by decide)⟩)
    (fun _ hf p h => finish_releases h (follows_effect hf p) (effect_off hf p))
    (fun a d lo hi p h => finish_releases h (follows_writeHalf a d lo hi p) (writeHalf_off a d lo hi p))
    (fun _ _ h => ⟨h, fun hoff hon => absurd (hoff.symm.trans hon) (by decide)⟩)
    (fun _ _ _ _ => ⟨(fun h => nomatch h), energisedByGrant_off rfl⟩)
    (fun _ _ => ⟨(fun h => nomatch h), energisedByGrant_off rfl⟩) hstep

/-- Settles O49: the judgement decides by the hold reason; every effect keeps that a request stands or calls for the judgement, and in the
end of an event RETAIN is energised by the arbiter's grant to a request that stands. -/
theorem releaseIsRequestedWhileAllConditionsHold : Obligations.ReleaseIsRequestedWhileAllConditionsHold := by
  refine ⟨fun p => ⟨fun h => ?_, judgeLaunch_requests, judgeLaunch_removes, grantRetainer_releases, grantRetainer_other⟩,
    fun s t hstep hstands => ?_⟩
  · rw [judgeLaunch_state h, ← holdReason_none_iff h]
    split
    next hwhy => simp [hwhy]
    next hwhy => simp [hwhy]
  · obtain ⟨stands, energised⟩ := step_releases hstep hstands
    refine ⟨stands, fun hoff hon => ?_⟩
    obtain ⟨⟨state, time⟩, r, n, grant, same⟩ := energised hoff hon
    exact ⟨state, time, r, n, grant.requested, grant.conditions, grant.off, grant.head, grant.energised, same⟩

/-! ### The ceiling -/

theorem finish_composed {p : Part} (h : Composed p.sup) : Composed (finish p).sup := by
  refine ((works_settle p).composed h).congr ?_ ?_ ?_ ?_ <;> simp [finish, activeProfile]

theorem step_composed {s t : State} (hstep : step s = .next t) : Composed s.part.sup → Composed t.part.sup :=
  step_relates (R := fun p q => Composed p.sup → Composed q.sup) (fun _ h => h)
    (fun _ hf p h => finish_composed ((follows_effect hf p).composed h))
    (fun a d lo hi p h => finish_composed ((follows_writeHalf a d lo hi p).composed h))
    (fun _ _ h => h) (fun _ _ _ _ => rfl) (fun _ _ => rfl) hstep

theorem orderStationPrepare_fails {x : Slot} {p : Part} {n : Nat} (hmode : p.sup.mode = .off) (h : prepareConditionFails p = some n) :
    orderStationPrepare x p = refuse .refusedState n p := by
  simp [orderStationPrepare, isOff, hmode, h]

theorem orderStationStart_fails {x : Slot} {p : Part} {n : Nat} (hmode : p.sup.mode = .ready) (h : startConditionFails p = some n) :
    orderStationStart x p = refuse .refusedState n p := by
  simp [orderStationStart, hmode, h]

/-- Settles O27: the first failing condition refuses, and every command keeps the composition of C. -/
theorem stationPrepareAndStart : Obligations.StationPrepareAndStart := by
  refine ⟨fun s t h hstep => (ceilingStands_iff _).2 (step_composed hstep ((ceilingStands_iff _).1 h)), ?_⟩
  intro i s failing
  refine ⟨fun hnext => ?_, fun hnext => ?_⟩
  · refine ⟨fun hmode => ?_, fun hmode => ⟨fun n hn hfails hbefore => ?_, fun h => stationPrepare_prepares hnext hmode h⟩⟩
    · exact atOnce_refuses hnext (by simp [orderStationPrepare, isOff, hmode])
    · exact atOnce_refuses hnext (orderStationPrepare_fails (p := takeHead i s.part) hmode
        (prepareConditionFails_first (p := takeHead i s.part) hn hfails hbefore))
  · refine ⟨fun hmode => ?_, fun hmode => ⟨fun n hn hfails hbefore => ?_, fun h => stationStart_starts hnext hmode h⟩⟩
    · exact atOnce_refuses hnext (by simp [orderStationStart, hmode])
    · exact atOnce_refuses hnext (orderStationStart_fails (p := takeHead i s.part) hmode
        (startConditionFails_first (p := takeHead i s.part) hn hfails hbefore))

end Sys2Proof.Machine

/-! The Window Port: what a host write does at each place of the window (R188 to R192). -/

namespace Sys2Proof.Machine

/-! ### The end of an event that did nothing -/

theorem finish_of_steady {p : Part} (h : Steady p) : finish p = p := by
  obtain ⟨hwork, hpins, htones⟩ := h
  rw [finish, settle_of_quiet hwork, show ({ p with work := {} } : Part) = p by rw [← hwork], refreshTone_same 0 _ (htones 0),
    refreshTone_same 1 _ (htones 1), refreshPins_same p hpins.1 hpins.2.1 hpins.2.2]

/-! ### Octets by their offset -/

theorem writeOctet_slot {i : SlotNo} {j off : Nat} (hj : j < 128) (hoff : off = 0x40 + 128 * i.val + j) (b : Byte) (p : Part) :
    writeOctet off b p = writeSlotOctet i j b p := by
  have range : 0x40 ≤ off ∧ off < 0x1040 := by omega
  rw [writeOctet, dif_pos range]
  have slot : (⟨(off - 0x40) / 128, by omega⟩ : SlotNo) = i := Fin.ext (by simp only; omega)
  have octet : (off - 0x40) % 128 = j := by omega
  rw [slot, octet]

theorem writeOctet_receive {r : Fin 4} {off : Nat} (hoff : off = 0x1F00 + 72 * r.val) (b : Byte) (p : Part) :
    writeOctet off b p = writeReceiveState r b p := by
  have outside : ¬ (0x40 ≤ off ∧ off < 0x1040) := by omega
  have range : 0x1F00 ≤ off ∧ off < 0x2020 := by omega
  have slot : (⟨(off - 0x1F00) / 72, by omega⟩ : Fin 4) = r := Fin.ext (by simp only; omega)
  have first : ((off - 0x1F00) % 72 == 0) = true := by simp; omega
  rw [writeOctet, dif_neg outside, dif_pos range, if_pos first, slot]

theorem writeOctet_nothing {off : Nat} (h : off < 0x40 ∨ (0x1040 ≤ off ∧ off < 0x1F00) ∨
      (0x1F00 ≤ off ∧ off < 0x2020 ∧ (off - 0x1F00) % 72 ≠ 0) ∨ (0x2020 ≤ off ∧ off < 0x3FF2) ∨ off = 0x3FF3 ∨ 0x3FF8 ≤ off)
    (b : Byte) (p : Part) : writeOctet off b p = p := by
  have slots : ¬ (0x40 ≤ off ∧ off < 0x1040) := by omega
  rw [writeOctet, dif_neg slots]
  by_cases receive : 0x1F00 ≤ off ∧ off < 0x2020
  · have inside : ¬ ((off - 0x1F00) % 72 == 0) = true := by simp; omega
    rw [dif_pos receive, if_neg inside]
  · have h2 : ¬ (off == 0x3FF2) = true := by simp; omega
    have h4 : ¬ (off == 0x3FF4) = true := by simp; omega
    have h5 : ¬ (off == 0x3FF5) = true := by simp; omega
    have h6 : ¬ (off == 0x3FF6) = true := by simp; omega
    have h7 : ¬ (off == 0x3FF7) = true := by simp; omega
    rw [dif_neg receive, if_neg h2, if_neg h4, if_neg h5, if_neg h6, if_neg h7]

theorem writeHalf_octets {a : BitVec 13} {low : Byte → Part → Part} {high : Byte → Part → Part}
    (hhigh : ∀ b p, writeOctet (2 * a.toNat + 1) b p = high b p) (hlow : ∀ b p, writeOctet (2 * a.toNat) b p = low b p) (d : Half)
    (lo hi : Bool) (p : Part) :
    writeHalf a d lo hi p =
      (if lo then low (d.extractLsb' 0 8) (if hi then high (d.extractLsb' 8 8) p else p) else if hi then high (d.extractLsb' 8 8) p else p) := by
  cases lo <;> cases hi <;> simp [writeHalf, hhigh, hlow]

/-- Outside PART_CONTROL a host write is an event that writes its octets. -/
theorem hostWrite_writes {s : State} (hbefore : s.before = none) {a : BitVec 13} (ha : a ≠ 0x1FF9) (d : Half) (lo hi : Bool) :
    exec (.hostWrite a d lo hi) s = .next { s with part := finish (writeHalf a d lo hi s.part) } := by
  have outside : (2 * a.toNat == 0x3FF2) = false := by
    simp only [beq_eq_false_iff_ne]
    intro h
    exact ha (BitVec.eq_of_toNat_eq (by simp; omega))
  show Host.Outcome.next (hostWrite a d lo hi s) = _
  simp [hostWrite, hbefore, outside]

/-- A write whose octets change nothing leaves the state. -/
theorem hostWrite_discards {s : State} (hready : Ready s) {a : BitVec 13} (ha : a ≠ 0x1FF9) {d : Half} {lo hi : Bool}
    (h : writeHalf a d lo hi s.part = s.part) : exec (.hostWrite a d lo hi) s = .next s := by
  rw [hostWrite_writes hready.1 ha, h, finish_of_steady hready.2]

/-- A write whose octets act as an event's effect is that event. -/
theorem hostWrite_occurs {s : State} (hready : Ready s) {a : BitVec 13} (ha : a ≠ 0x1FF9) {d : Half} {lo hi : Bool} {f : Part → Part}
    (h : writeHalf a d lo hi s.part = f s.part) : exec (.hostWrite a d lo hi) s = occurs (fun _ => true) f s := by
  rw [hostWrite_writes hready.1 ha, h, occurs_acts hready.1 rfl]

/-! ### The state octets (R171, R192) -/

theorem slotAddress (i : SlotNo) : (BitVec.ofNat 13 (32 + 64 * i.val)).toNat = 32 + 64 * i.val := by simp; omega

theorem writeHalf_slotState (i : SlotNo) (d : Half) (lo hi : Bool) (p : Part) :
    writeHalf (BitVec.ofNat 13 (32 + 64 * i.val)) d lo hi p =
      (if lo then writeStateOctet i (d.extractLsb' 0 8) (if hi then writeSlotOctet i 1 (d.extractLsb' 8 8) p else p)
        else if hi then writeSlotOctet i 1 (d.extractLsb' 8 8) p else p) := by
  refine writeHalf_octets (low := writeStateOctet i) (high := writeSlotOctet i 1) (fun b q => ?_) (fun b q => ?_) d lo hi p
  · exact writeOctet_slot (j := 1) (by omega) (by rw [slotAddress]; omega) b q
  · rw [writeOctet_slot (i := i) (j := 0) (by omega) (by rw [slotAddress]; omega)]
    rfl

theorem writeSlotOctet_held {i : SlotNo} {j : Nat} {b : Byte} {p : Part} (hj : j ≠ 0) (h : (slotOf p i).state ≠ .free) :
    writeSlotOctet i j b p = p := by
  simp [writeSlotOctet, hj, h]

theorem writeSlotOctet_free {i : SlotNo} {j : Nat} {b : Byte} {p : Part} (hj : j ≠ 0) (h : (slotOf p i).state = .free) :
    writeSlotOctet i j b p = modSlot i (putSlot j b) p := by
  simp [writeSlotOctet, hj, h]

/-- In a slot that is not FREE only WITHDRAW to an order that is not done and FREE to a DONE one act (the table of R192). -/
theorem writeStateOctet_discards {i : SlotNo} {b : Byte} {p : Part} (hfree : (slotOf p i).state ≠ .free)
    (hwithdraw : ¬ (b = 3 ∧ (slotOf p i).state ∈ [.posted, .taken])) (hdone : ¬ (b = 0 ∧ (slotOf p i).state = .done)) :
    writeStateOctet i b p = p := by
  unfold writeStateOctet
  cases hs : (slotOf p i).state with
  | free => exact absurd hs hfree
  | posted => exact if_neg fun e => hwithdraw ⟨beq_iff_eq.1 e, by rw [hs]; decide⟩
  | taken => exact if_neg fun e => hwithdraw ⟨beq_iff_eq.1 e, by rw [hs]; decide⟩
  | withdraw => rfl
  | done => exact if_neg fun e => hdone ⟨beq_iff_eq.1 e, hs⟩

end Sys2Proof.Machine

/-! ORDER_SLOT_FREE, RECEIVE_SLOT_EMPTY and HOST_WRITE (R171, R188 to R193). -/

namespace Sys2Proof.Machine

/-! ### FREE and EMPTY -/

theorem discards {s : State} (hready : Ready s) {f : Part → Part} (h : f s.part = s.part) :
    occurs (fun _ => true) f s = .next s := by
  rw [occurs_acts hready.1 rfl, h, finish_of_steady hready.2]

/-- A change of slots and intake list alone. -/
theorem windowWrite {s : State} (hready : Ready s) {i : SlotNo} {q : Part} (hq : q = { s.part with window := q.window })
    (hwindow : q.window = { s.part.window with slots := q.window.slots, intake := q.window.intake })
    (hothers : ∀ j, j ≠ i → slotOf q j = slotOf s.part j) :
    finish q = q ∧ WindowFrame i s { s with part := finish q } ∧ (finish q).window.attention = s.part.window.attention ∧
      Frame [.window] s { s with part := finish q } := by
  obtain ⟨hwork, hpins, htones⟩ := hready.2
  obtain ⟨hsvc, hfast, hattn⟩ := hpins
  have attn : q.window.attn = attnFor q.window := by rw [hwindow]; exact hattn
  have steady : Steady q := by
    refine ⟨?_, ⟨?_, ?_, attn⟩, fun v => ?_⟩ <;> rw [hq]
    · exact hwork
    · exact hsvc
    · exact hfast
    · exact htones v
  have same := finish_of_steady steady
  refine ⟨same, ?_, ?_, frame_finish hready fun b _ hb => ?_⟩
  · show (∀ j, j ≠ i → slotOf (finish q) j = slotOf s.part j) ∧ (finish q).window.latch = _ ∧ (finish q).window.attentionMask = _ ∧
      (finish q).window.attnEnable = _ ∧ (finish q).window.softResets = _
    rw [same]
    exact ⟨hothers, by rw [hwindow], by rw [hwindow], by rw [hwindow], by rw [hwindow]⟩
  · rw [same, hwindow]
  · rw [settle_of_quiet steady.1, hq]
    cases b with
    | window => simp at hb
    | _ => rfl

theorem modSlot_writes {s : State} (hready : Ready s) (i : SlotNo) (f : Slot → Slot) :
    slotOf (finish (modSlot i f s.part)) i = f (slotOf s.part i) ∧ (finish (modSlot i f s.part)).window.intake = s.part.window.intake ∧
      WindowFrame i s { s with part := finish (modSlot i f s.part) } ∧
      (finish (modSlot i f s.part)).window.attention = s.part.window.attention ∧
      Frame [.window] s { s with part := finish (modSlot i f s.part) } := by
  obtain ⟨same, kept⟩ := windowWrite hready (i := i) (q := modSlot i f s.part) rfl rfl (fun j hj => slotOf_modSlot_ne i j f s.part hj)
  exact ⟨by rw [same, slotOf_modSlot_same], by rw [same]; rfl, kept⟩

theorem writeStateOctet_freed {i : SlotNo} {p : Part} (h : (slotOf p i).state = .done) : writeStateOctet i 0 p = setSlotState i .free p := by
  simp [writeStateOctet, h]

/-- The bits of a number built from a list of flags, the first lowest. -/
theorem flags_testBit {α : Type} (flag : α → Bool) (l : List α) (n : Nat) :
    (l.foldr (fun x acc => 2 * acc + (if flag x then 1 else 0)) 0).testBit n = (l[n]?.map flag).getD false := by
  induction l generalizing n with
  | nil => simp
  | cons x l ih =>
    have split : 2 * (l.foldr (fun x acc => 2 * acc + (if flag x then 1 else 0)) 0) + (if flag x then 1 else 0) =
        Nat.bit (flag x) (l.foldr (fun x acc => 2 * acc + (if flag x then 1 else 0)) 0) := by
      cases flag x <;> simp [Nat.bit]
    rw [List.foldr_cons, split]
    cases n with
    | zero => simp
    | succ n => rw [Nat.testBit_bit_succ, ih]; simp

theorem doneMap_bit (w : Window) (i : SlotNo) : (doneMap w).getLsbD i.val = ((w.slots.get i).state == .done) := by
  have hlength : i.val < w.slots.toList.length := by simp
  rw [doneMap, BitVec.getLsbD_ofNat, flags_testBit (fun x : Slot => x.state == .done), List.getElem?_eq_getElem hlength]
  simp [Vector.get]

theorem orderSlotFree_frees {s : State} (hready : Ready s) {i : SlotNo} (h : (slotOf s.part i).state = .done) :
    After (.orderSlotFree i) s (fun t =>
      slotOf t.part i = { slotOf s.part i with state := .free } ∧ WindowFrame i s t ∧
      t.part.window.intake = s.part.window.intake ∧ t.part.window.attention = s.part.window.attention ∧
      (doneMap t.part.window).getLsbD i.val = false ∧ Frame [.window] s t) := by
  obtain ⟨slot, intake, window, attention, frame⟩ := modSlot_writes hready i (fun x => { x with state := .free })
  have run : exec (.orderSlotFree i) s = .next { s with part := finish (modSlot i (fun x => { x with state := .free }) s.part) } := by
    show occurs (fun _ => true) (writeStateOctet i 0) s = _
    rw [occurs_acts hready.1 rfl, writeStateOctet_freed h]
    rfl
  generalize finish (modSlot i (fun x => { x with state := .free }) s.part) = q at slot intake window attention frame run
  have free : (q.window.slots.get i).state = .free := congrArg Slot.state slot
  have undone : (doneMap q.window).getLsbD i.val = false := by rw [doneMap_bit, free]; rfl
  exact ⟨_, run, slot, window, intake, attention, undone, frame⟩

end Sys2Proof.Machine

/-! Host writes at the slots of the window (R171, R188, R192). -/

namespace Sys2Proof.Machine

/-! ### RECEIVE_SLOT_EMPTY -/

theorem writeReceiveState_leaves {r : Fin 4} {b : Byte} {p : Part} (h : (p.messages.slots.get r).state ≠ .full ∨ b ≠ 0) :
    writeReceiveState r b p = p := by
  have : ¬ ((p.messages.slots.get r).state == .full && b == 0) = true := by
    simp only [Bool.and_eq_true, beq_iff_eq]
    rintro ⟨hfull, hzero⟩
    exact h.elim (fun h => h hfull) fun h => h hzero
  rw [writeReceiveState, if_neg this]

theorem writeReceiveState_empties {r : Fin 4} {p : Part} (h : (p.messages.slots.get r).state = .full) :
    writeReceiveState r 0 p = modMsg (modReceive r (fun s => { s with state := .empty })) p := by
  simp [writeReceiveState, h]

theorem receiveSlotEmpty_empties {s : State} (hready : Ready s) {r : Fin 4} (h : (s.part.messages.slots.get r).state = .full) :
    After (.receiveSlotEmpty r) s (fun t =>
      t.part.messages.slots.get r = { s.part.messages.slots.get r with state := .empty } ∧
      (∀ q, q ≠ r → t.part.messages.slots.get q = s.part.messages.slots.get q) ∧
      t.part.messages.receiver = s.part.messages.receiver ∧ Frame [.messages] s t) := by
  have run : exec (.receiveSlotEmpty r) s =
      .next { s with part := finish (modMsg (modReceive r (fun s => { s with state := .empty })) s.part) } := by
    show occurs (fun _ => true) (writeReceiveState r 0) s = _
    rw [occurs_acts hready.1 rfl, writeReceiveState_empties h]
  have quiet : settle 64 (modMsg (modReceive r (fun s => { s with state := .empty })) s.part) =
      modMsg (modReceive r (fun s => { s with state := .empty })) s.part := settle_of_quiet hready.2.1
  have frame : Frame [.messages] s { s with part := finish (modMsg (modReceive r (fun s => { s with state := .empty })) s.part) } := by
    refine frame_finish hready fun b _ hb => ?_
    rw [quiet]
    cases b with
    | messages => simp at hb
    | _ => rfl
  have messages : (finish (modMsg (modReceive r (fun s => { s with state := .empty })) s.part)).messages =
      modReceive r (fun s => { s with state := .empty }) s.part.messages := by rw [finish_messages, quiet]; rfl
  refine ⟨_, run, ?_⟩
  generalize finish (modMsg (modReceive r (fun s => { s with state := .empty })) s.part) = q at frame messages
  dsimp only
  rw [messages]
  exact ⟨modTable_get_same .., fun q hq => modTable_get_ne _ _ _ _ hq, rfl, frame⟩

/-! ### The state octet of an order slot -/

/-- A FREE slot with the octets of its first half-word written. -/
def writtenFirst (i : SlotNo) (d : Half) (lo hi : Bool) (p : Part) : Part :=
  let p := if hi then modSlot i (putSlot 1 (d.extractLsb' 8 8)) p else p
  if lo = true ∧ d.extractLsb' 0 8 = 1 then joinIntake i (setSlotState i .posted p) else p

theorem writeHalf_first {i : SlotNo} {p : Part} (h : (slotOf p i).state = .free) (d : Half) (lo hi : Bool) :
    writeHalf (BitVec.ofNat 13 (32 + 64 * i.val)) d lo hi p = writtenFirst i d lo hi p := by
  rw [writeHalf_slotState, writeSlotOctet_free (by decide) h]
  have posts (q : Part) (hq : (slotOf q i).state = .free) (b : Byte) :
      writeStateOctet i b q = if b = 1 then joinIntake i (setSlotState i .posted q) else q := by
    simp [writeStateOctet, hq]
  have kinded : (slotOf (modSlot i (putSlot 1 (d.extractLsb' 8 8)) p) i).state = .free := by rw [slotOf_modSlot_same]; exact h
  have first := posts p h (d.extractLsb' 0 8)
  have second := posts _ kinded (d.extractLsb' 0 8)
  unfold writtenFirst
  cases lo <;> cases hi <;> simp [first, second]

theorem writtenFirst_slot (i : SlotNo) (d : Half) (lo hi : Bool) (p : Part) (h : (slotOf p i).state = .free) :
    slotOf (writtenFirst i d lo hi p) i = { slotOf p i with
      state := if lo = true ∧ d.extractLsb' 0 8 = 1 then .posted else .free
      kind := if hi then d.extractLsb' 8 8 else (slotOf p i).kind } := by
  have joined (q : Part) : slotOf (joinIntake i q) i = slotOf q i := rfl
  have free : slotOf p i = { slotOf p i with state := .free } := by rw [← h]
  unfold writtenFirst
  by_cases hpost : lo = true ∧ d.extractLsb' 0 8 = 1
  · simp only [if_pos hpost, joined, setSlotState]
    cases hi <;> simp [putSlot]
  · simp only [if_neg hpost]
    cases hi <;> simp [putSlot, ← h]

theorem writtenFirst_window (i : SlotNo) (d : Half) (lo hi : Bool) (p : Part) :
    let q := writtenFirst i d lo hi p
    q = { p with window := q.window } ∧ q.window = { p.window with slots := q.window.slots, intake := q.window.intake } ∧
      (∀ j, j ≠ i → slotOf q j = slotOf p j) ∧
      q.window.intake = p.window.intake ++ (if lo = true ∧ d.extractLsb' 0 8 = 1 then [i] else []) := by
  have joined (q : Part) (j : SlotNo) : slotOf (joinIntake i q) j = slotOf q j := rfl
  unfold writtenFirst
  by_cases hpost : lo = true ∧ d.extractLsb' 0 8 = 1
  · simp only [if_pos hpost]
    cases hi
    · exact ⟨rfl, rfl, fun j hj => slotOf_modSlot_ne i j _ p hj, rfl⟩
    · exact ⟨rfl, rfl, fun j hj => (slotOf_modSlot_ne i j _ _ hj).trans (slotOf_modSlot_ne i j _ p hj), rfl⟩
  · simp only [if_neg hpost, List.append_nil]
    cases hi
    · exact ⟨rfl, rfl, fun j _ => rfl, rfl⟩
    · exact ⟨rfl, rfl, fun j hj => slotOf_modSlot_ne i j _ p hj, rfl⟩

theorem slotAddress_ne (i : SlotNo) {k : Nat} (hk : k < 64) : BitVec.ofNat 13 (32 + 64 * i.val + k) ≠ 0x1FF9 := by
  intro h
  have := congrArg BitVec.toNat h
  simp at this
  omega

theorem hostWrite_first {s : State} (hready : Ready s) (d : Half) (lo hi : Bool) {i : SlotNo} (h : (slotOf s.part i).state = .free) :
    After (.hostWrite (BitVec.ofNat 13 (32 + 64 * i.val)) d lo hi) s (fun t =>
      slotOf t.part i = { slotOf s.part i with
        state := if lo = true ∧ d.extractLsb' 0 8 = 1 then .posted else .free
        kind := if hi then d.extractLsb' 8 8 else (slotOf s.part i).kind } ∧
      t.part.window.intake = s.part.window.intake ++ (if lo = true ∧ d.extractLsb' 0 8 = 1 then [i] else []) ∧ WindowFrame i s t ∧
      t.part.window.attention = s.part.window.attention ∧ Frame [.window] s t) := by
  have run := hostWrite_writes hready.1 (slotAddress_ne i (k := 0) (by omega)) d lo hi
  rw [Nat.add_zero, writeHalf_first h] at run
  have slot := writtenFirst_slot i d lo hi s.part h
  obtain ⟨hq, hwindow, hothers, hintake⟩ := writtenFirst_window i d lo hi s.part
  obtain ⟨same, window, attention, frame⟩ := windowWrite hready hq hwindow hothers
  refine ⟨_, run, ?_, ?_, window, attention, frame⟩
  · show slotOf (finish (writtenFirst i d lo hi s.part)) i = _
    rw [same, slot]
  · show (finish (writtenFirst i d lo hi s.part)).window.intake = _
    rw [same, hintake]

/-- A write to the first half-word of a slot that is not FREE. -/
theorem hostWrite_held {s : State} (hready : Ready s) (d : Half) (lo hi : Bool) {i : SlotNo} (h : (slotOf s.part i).state ≠ .free) :
    (lo = true → exec (.hostWrite (BitVec.ofNat 13 (32 + 64 * i.val)) d lo hi) s =
      occurs (fun _ => true) (writeStateOctet i (d.extractLsb' 0 8)) s) ∧
    (lo = false → exec (.hostWrite (BitVec.ofNat 13 (32 + 64 * i.val)) d lo hi) s = .next s) := by
  have address := slotAddress_ne i (k := 0) (by omega)
  rw [Nat.add_zero] at address
  have written := writeHalf_slotState i d lo hi s.part
  rw [writeSlotOctet_held (by decide) h, ite_self] at written
  refine ⟨fun hlo => hostWrite_occurs hready address ?_, fun hlo => hostWrite_discards hready address ?_⟩
  · rw [written, if_pos hlo]
  · rw [written, if_neg (by simp [hlo])]

end Sys2Proof.Machine

/-! Host writes to the tag, the result, the progress and the parameters of an order slot (R188, R192). -/

namespace Sys2Proof.Machine

/-! ### Octets of a half-word -/

theorem high_append (b c : Byte) : (b ++ c : Half).extractLsb' 8 8 = b := by
  ext i hi
  rw [BitVec.getElem_extractLsb', BitVec.getLsbD_append, if_neg (by omega), Nat.add_sub_cancel_left, BitVec.getLsbD_eq_getElem hi]

theorem low_append (b c : Byte) : (b ++ c : Half).extractLsb' 0 8 = c := by
  ext i hi
  rw [BitVec.getElem_extractLsb', BitVec.getLsbD_append, if_pos (by omega), Nat.zero_add, BitVec.getLsbD_eq_getElem hi]

theorem halves_append (h : Half) : h.extractLsb' 8 8 ++ h.extractLsb' 0 8 = h := by
  ext i hi
  simp only [BitVec.getElem_append, BitVec.getElem_extractLsb']
  split
  · rw [← BitVec.getLsbD_eq_getElem]; simp
  · rw [← BitVec.getLsbD_eq_getElem]; congr 1; omega

theorem putHalf_selected (lo hi : Bool) (d h : Half) :
    (if lo then putHalf false (d.extractLsb' 0 8) (if hi then putHalf true (d.extractLsb' 8 8) h else h)
      else if hi then putHalf true (d.extractLsb' 8 8) h else h) = selected lo hi d h := by
  cases lo <;> cases hi
  · exact (halves_append h).symm
  · rfl
  · rfl
  · show putHalf false _ (putHalf true _ h) = _
    simp only [putHalf, if_true, Bool.false_eq_true, if_false, high_append, selected]

/-! ### The octets of a slot -/

/-- A slot with the octets of half-word `k` written. -/
def putSlotHalf (k : Nat) (d : Half) (lo hi : Bool) (x : Slot) : Slot :=
  let x := if hi then putSlot (2 * k + 1) (d.extractLsb' 8 8) x else x
  if lo then putSlot (2 * k) (d.extractLsb' 0 8) x else x

theorem putSlot_state (j : Nat) (b : Byte) (x : Slot) : (putSlot j b x).state = x.state := by
  unfold putSlot
  (repeat' split) <;> rfl

theorem modSlot_modSlot (i : SlotNo) (f g : Slot → Slot) (p : Part) : modSlot i f (modSlot i g p) = modSlot i (fun x => f (g x)) p := by
  have tables : modTable (modTable p.window.slots i g) i f = modTable p.window.slots i (fun x => f (g x)) := by
    have entry (j : SlotNo) : (modTable (modTable p.window.slots i g) i f).get j = (modTable p.window.slots i (fun x => f (g x))).get j := by
      simp only [modTable_get]
      split <;> rfl
    exact Vector.ext fun j hj => entry ⟨j, hj⟩
  simp only [modSlot, tables]

theorem modSlot_id (i : SlotNo) (p : Part) : modSlot i (fun x => x) p = p := by
  have table : modTable p.window.slots i (fun x => x) = p.window.slots := by
    have entry (j : SlotNo) : (modTable p.window.slots i (fun x => x)).get j = p.window.slots.get j := by rw [modTable_get, ite_self]
    exact Vector.ext fun j hj => entry ⟨j, hj⟩
  simp only [modSlot, table]

theorem writeHalf_slot {i : SlotNo} {k : Nat} (h1 : 1 ≤ k) (hk : k < 64) (d : Half) (lo hi : Bool) (p : Part) :
    writeHalf (BitVec.ofNat 13 (32 + 64 * i.val + k)) d lo hi p =
      if (slotOf p i).state = .free then modSlot i (putSlotHalf k d lo hi) p else p := by
  have address : (BitVec.ofNat 13 (32 + 64 * i.val + k)).toNat = 32 + 64 * i.val + k := by simp; omega
  have octets := writeHalf_octets (a := BitVec.ofNat 13 (32 + 64 * i.val + k)) (low := writeSlotOctet i (2 * k))
    (high := writeSlotOctet i (2 * k + 1)) (fun b q => writeOctet_slot (by omega) (by rw [address]; omega) b q)
    (fun b q => writeOctet_slot (by omega) (by rw [address]; omega) b q) d lo hi p
  rw [octets]
  by_cases hfree : (slotOf p i).state = .free
  · have second : (slotOf (modSlot i (putSlot (2 * k + 1) (d.extractLsb' 8 8)) p) i).state = .free := by
      rw [slotOf_modSlot_same, putSlot_state]; exact hfree
    rw [if_pos hfree, writeSlotOctet_free (by omega) hfree]
    unfold putSlotHalf
    cases lo <;> cases hi
    · exact (modSlot_id i p).symm
    · rfl
    · exact writeSlotOctet_free (by omega) hfree
    · exact (writeSlotOctet_free (by omega) second).trans (modSlot_modSlot ..)
  · rw [if_neg hfree, writeSlotOctet_held (by omega) hfree, ite_self, writeSlotOctet_held (by omega) hfree, ite_self]

/-- A write to any but the first half-word of a slot. -/
theorem hostWrite_slot {s : State} (hready : Ready s) {i : SlotNo} {k : Nat} (h1 : 1 ≤ k) (hk : k < 64) (d : Half) (lo hi : Bool) :
    After (.hostWrite (BitVec.ofNat 13 (32 + 64 * i.val + k)) d lo hi) s (fun t =>
      Frame [.window] s t ∧ WindowFrame i s t ∧ t.part.window.intake = s.part.window.intake ∧
      t.part.window.attention = s.part.window.attention ∧ ((slotOf s.part i).state ≠ .free → t = s) ∧
      ((slotOf s.part i).state = .free → slotOf t.part i = putSlotHalf k d lo hi (slotOf s.part i))) := by
  by_cases hfree : (slotOf s.part i).state = .free
  · have run := hostWrite_writes hready.1 (slotAddress_ne i hk) d lo hi
    rw [writeHalf_slot h1 hk, if_pos hfree] at run
    obtain ⟨slot, intake, window, attention, frame⟩ := modSlot_writes hready i (putSlotHalf k d lo hi)
    exact ⟨_, run, frame, window, intake, attention, fun h => absurd hfree h, fun _ => slot⟩
  · have run := hostWrite_discards hready (slotAddress_ne i hk) (d := d) (lo := lo) (hi := hi) (by rw [writeHalf_slot h1 hk, if_neg hfree])
    have frame : Frame [.window] s s := ⟨rfl, rfl, rfl, rfl, hready.2, fun b _ _ => by cases b <;> rfl⟩
    exact ⟨s, run, frame, ⟨fun _ _ => rfl, rfl, rfl, rfl, rfl⟩, rfl, rfl, fun _ => rfl, fun h => absurd h hfree⟩

theorem putSlotHalf_tag (d : Half) (lo hi : Bool) (x : Slot) : putSlotHalf 1 d lo hi x = { x with tag := selected lo hi d x.tag } := by
  rw [← putHalf_selected]
  cases lo <;> cases hi <;> rfl

theorem putSlotHalf_result (d : Half) (lo hi : Bool) (x : Slot) : putSlotHalf 2 d lo hi x = { x with
    result := if lo then d.extractLsb' 0 8 else x.result, detail := if hi then d.extractLsb' 8 8 else x.detail } := by
  cases lo <;> cases hi <;> rfl

theorem putSlotHalf_progress (d : Half) (lo hi : Bool) (x : Slot) :
    putSlotHalf 3 d lo hi x = { x with progress := selected lo hi d x.progress } := by
  rw [← putHalf_selected]
  cases lo <;> cases hi <;> rfl

/-! ### The parameters -/

theorem putSlot_param {j : Nat} (hj : j < 120) (b : Byte) (x : Slot) : putSlot (j + 8) b x = { x with params := x.params.set j b } := by
  simp [putSlot, hj]

theorem octet_set {x : Slot} {v : Vector Byte 120} {j : Nat} (hj : j < 120) (b : Byte) (n : Nat) :
    octet { x with params := v.set j b } n = if n = j then b.toNat else octet { x with params := v } n := by
  simp only [octet, Vector.toList_set]
  split
  next h => subst h; simp [List.getD_eq_getElem?_getD, hj]
  next h => simp [List.getD_eq_getElem?_getD, List.getElem?_set_ne (Ne.symm h)]

theorem putSlotHalf_params {j : Nat} (hj : j < 60) (d : Half) (lo hi : Bool) (x : Slot) :
    putSlotHalf (4 + j) d lo hi x = { x with params := (putSlotHalf (4 + j) d lo hi x).params } ∧
    ∀ n, octet (putSlotHalf (4 + j) d lo hi x) n =
      if lo = true ∧ n = 2 * j then (d.extractLsb' 0 8).toNat else if hi = true ∧ n = 2 * j + 1 then (d.extractLsb' 8 8).toNat else octet x n := by
  have low : 2 * (4 + j) = 2 * j + 8 := by omega
  unfold putSlotHalf
  simp only [low, putSlot_param (show 2 * j + 1 < 120 by omega), putSlot_param (show 2 * j < 120 by omega)]
  refine ⟨by cases lo <;> cases hi <;> rfl, fun n => ?_⟩
  cases lo <;> cases hi <;> simp [octet_set (show 2 * j + 1 < 120 by omega), octet_set (show 2 * j < 120 by omega)]

end Sys2Proof.Machine

/-! Host writes to the registers and to the offsets that take none; the settlement of ORDER_SLOT_FREE, RECEIVE_SLOT_EMPTY and HOST_WRITE. -/

namespace Sys2Proof.Machine

/-! ### PART_CONTROL (R190, R198) -/

theorem writeHalf_control (d : Half) (lo hi : Bool) (p : Part) :
    writeHalf 0x1FF9 d lo hi p = if lo then setAttnEnable (d.getLsbD 1) p else p := by
  have high (b : Byte) (q : Part) : writeOctet (2 * (0x1FF9 : BitVec 13).toNat + 1) b q = q := writeOctet_nothing (by decide) b q
  have low (b : Byte) (q : Part) : writeOctet (2 * (0x1FF9 : BitVec 13).toNat) b q = setAttnEnable (b.getLsbD 1) q := rfl
  have octets := writeHalf_octets (low := fun b q => setAttnEnable (b.getLsbD 1) q) (high := fun _ q => q) high low d lo hi p
  rw [octets, ite_self]
  simp

theorem hostWrite_control {s : State} (hready : Ready s) (d : Half) (lo hi : Bool) :
    exec (.hostWrite 0x1FF9 d lo hi) s =
      .next (if lo && d.getLsbD 0 then beginSoftReset { s with part := finish (if lo then setAttnEnable (d.getLsbD 1) s.part else s.part) }
        else { s with part := finish (if lo then setAttnEnable (d.getLsbD 1) s.part else s.part) }) := by
  show Host.Outcome.next (hostWrite 0x1FF9 d lo hi s) = _
  have place : (2 * (0x1FF9 : BitVec 13).toNat == 0x3FF2) = true := by decide
  rw [hostWrite, hready.1, writeHalf_control, place, Bool.true_and]
  rfl

theorem hostWrite_control_cases {s : State} (hready : Ready s) (d : Half) (lo hi : Bool) :
    (lo = false → exec (.hostWrite 0x1FF9 d lo hi) s = .next s) ∧
    (lo = true → d.getLsbD 0 = false → exec (.hostWrite 0x1FF9 d lo hi) s = exec (.attnEnable (d.getLsbD 1)) s) ∧
    (lo = true → d.getLsbD 0 = true →
      ∃ u, exec (.attnEnable (d.getLsbD 1)) s = .next u ∧ exec (.hostWrite 0x1FF9 d lo hi) s = exec .softReset u) := by
  have enabled : exec (.attnEnable (d.getLsbD 1)) s = .next { s with part := finish (setAttnEnable (d.getLsbD 1) s.part) } := by
    show occurs (fun _ => true) (setAttnEnable (d.getLsbD 1)) s = _
    exact occurs_acts hready.1 rfl
  rw [hostWrite_control hready, enabled]
  refine ⟨fun hlo => ?_, fun hlo hbit => ?_, fun hlo hbit => ⟨_, rfl, ?_⟩⟩
  · simp [hlo, finish_of_steady hready.2]
  · rw [hlo, hbit]; rfl
  · show _ = Host.Outcome.next (if s.before.isSome then _ else beginSoftReset _)
    rw [hlo, hbit, hready.1]
    rfl

/-! ### ATTENTION and ATTENTION_MASK (R190, R191) -/

theorem clearAttention_twice (a b : Half) (p : Part) : clearAttention a (clearAttention b p) = clearAttention (a ||| b) p := by
  have bits (x : Half) : x &&& ~~~b &&& ~~~a = x &&& ~~~(a ||| b) := by rw [BitVec.not_or, BitVec.and_assoc, BitVec.and_comm (~~~b)]
  simp only [clearAttention, bits]

theorem halfOf_selected (lo hi : Bool) (d : Half) :
    (if lo then halfOf false (d.extractLsb' 0 8) else 0) ||| (if hi then halfOf true (d.extractLsb' 8 8) else 0) = selected lo hi d 0 := by
  have low (b : Byte) : halfOf false b = (0 : Byte) ++ b := rfl
  have high (b : Byte) : halfOf true b = b ++ (0 : Byte) := rfl
  have zero : (0 : Half) = (0 : Byte) ++ (0 : Byte) := rfl
  have joined (a b : Byte) : ((0 : Byte) ++ b : Half) ||| (a ++ (0 : Byte) : Half) = a ++ b := by
    ext i hi
    rw [BitVec.getElem_or, BitVec.getElem_append, BitVec.getElem_append, BitVec.getElem_append]
    split <;> simp
  simp only [selected, low, high]
  cases lo <;> cases hi
  · rfl
  · exact joined _ 0
  · exact joined 0 _
  · exact joined _ _

theorem writeHalf_attention (d : Half) (lo hi : Bool) (p : Part) : writeHalf 0x1FFA d lo hi p = clearAttention (selected lo hi d 0) p := by
  have octets := writeHalf_octets (a := 0x1FFA) (low := fun b q => clearAttention (halfOf false b) q)
    (high := fun b q => clearAttention (halfOf true b) q) (fun _ _ => rfl) (fun _ _ => rfl) d lo hi p
  have bits (x : Half) : x &&& ~~~0 = x := by rw [show (~~~0 : Half) = BitVec.allOnes 16 by decide, BitVec.and_allOnes]
  have none : clearAttention 0 p = p := by simp only [clearAttention, bits]
  rw [octets, ← halfOf_selected]
  cases lo <;> cases hi
  · simp only [Bool.false_eq_true, if_false, BitVec.or_self, none]
  · simp
  · simp
  · exact clearAttention_twice ..

/-- The mask keeps thirteen bits whether its octets are written together or one after the other. -/
theorem setMask_halves (b c : Byte) (p : Part) :
    setMask (putHalf false c (setMask (putHalf true b p.window.attentionMask) p).window.attentionMask)
      (setMask (putHalf true b p.window.attentionMask) p) = setMask (b ++ c) p := by
  have bits (h : Half) : (((b ++ h.extractLsb' 0 8 : Half) &&& 0x1FFF).extractLsb' 8 8 ++ c : Half) &&& 0x1FFF = (b ++ c : Half) &&& 0x1FFF := by
    ext i hi
    rw [BitVec.getElem_and, BitVec.getElem_and, BitVec.getElem_append, BitVec.getElem_append]
    split
    · rfl
    next h =>
      rw [BitVec.getElem_extractLsb', BitVec.getLsbD_and, BitVec.getLsbD_append, if_neg (by omega)]
      have place : 8 + (i - 8) = i := by omega
      rw [place, BitVec.getLsbD_eq_getElem (show i - 8 < 8 by omega), BitVec.getLsbD_eq_getElem hi, Bool.and_assoc, Bool.and_self]
  simp only [setMask, putHalf, if_true, Bool.false_eq_true, if_false, bits]

theorem writeHalf_mask (d : Half) (lo hi : Bool) (p : Part) :
    writeHalf 0x1FFB d lo hi p = if lo || hi then setMask (selected lo hi d p.window.attentionMask) p else p := by
  have octets := writeHalf_octets (a := 0x1FFB) (low := fun b q => setMask (putHalf false b q.window.attentionMask) q)
    (high := fun b q => setMask (putHalf true b q.window.attentionMask) q) (fun _ _ => rfl) (fun _ _ => rfl) d lo hi p
  rw [octets]
  cases lo <;> cases hi
  · rfl
  · rfl
  · rfl
  · exact setMask_halves ..

/-! ### The settlement -/

theorem receiveAddress (r : Fin 4) : (BitVec.ofNat 13 (0xF80 + 36 * r.val)).toNat = 0xF80 + 36 * r.val := by simp; omega

theorem hostWrite_receive {s : State} (hready : Ready s) (d : Half) (lo hi : Bool) (r : Fin 4) :
    (lo = true → d.extractLsb' 0 8 = 0 →
      exec (.hostWrite (BitVec.ofNat 13 (0xF80 + 36 * r.val)) d lo hi) s = exec (.receiveSlotEmpty r) s) ∧
    (lo = false ∨ d.extractLsb' 0 8 ≠ 0 → exec (.hostWrite (BitVec.ofNat 13 (0xF80 + 36 * r.val)) d lo hi) s = .next s) := by
  have address : BitVec.ofNat 13 (0xF80 + 36 * r.val) ≠ 0x1FF9 := by
    intro h
    have := congrArg BitVec.toNat h
    rw [receiveAddress] at this
    simp at this
    omega
  have octets := writeHalf_octets (a := BitVec.ofNat 13 (0xF80 + 36 * r.val)) (low := writeReceiveState r) (high := fun _ q => q)
    (fun b q => writeOctet_nothing (by rw [receiveAddress]; omega) b q) (fun b q => writeOctet_receive (by rw [receiveAddress]; omega) b q)
    d lo hi s.part
  rw [ite_self] at octets
  refine ⟨fun hlo hzero => ?_, fun h => hostWrite_discards hready address ?_⟩
  · rw [if_pos hlo, hzero] at octets
    exact hostWrite_occurs hready address octets
  · rw [octets]
    split
    next hlo => exact writeReceiveState_leaves (.inr (h.resolve_left (by rw [hlo]; decide)))
    · rfl

theorem hostWrite_unassigned {s : State} (hready : Ready s) (d : Half) (lo hi : Bool) {a : BitVec 13}
    (h : a.toNat < 32 ∨ (0x820 ≤ a.toNat ∧ a.toNat < 0xF80) ∨ (0xF80 ≤ a.toNat ∧ a.toNat < 0x1010 ∧ (a.toNat - 0xF80) % 36 ≠ 0) ∨
      (0x1010 ≤ a.toNat ∧ a.toNat < 0x1FF9) ∨ 0x1FFC ≤ a.toNat) : exec (.hostWrite a d lo hi) s = .next s := by
  have address : a ≠ 0x1FF9 := by
    intro e
    rw [e] at h
    revert h
    decide
  have octets := writeHalf_octets (a := a) (low := fun _ q => q) (high := fun _ q => q)
    (fun b q => writeOctet_nothing (by omega) b q) (fun b q => writeOctet_nothing (by omega) b q) d lo hi s.part
  exact hostWrite_discards hready address (by rw [octets, ite_self, ite_self])

theorem hostWrite_heldCases {s : State} (hready : Ready s) (d : Half) (lo hi : Bool) {i : SlotNo} (h : (slotOf s.part i).state ≠ .free) :
    let written := exec (.hostWrite (BitVec.ofNat 13 (32 + 64 * i.val)) d lo hi) s
    (lo = true → d.extractLsb' 0 8 = 3 → (slotOf s.part i).state ∈ [.posted, .taken] → written = exec (.orderWithdraw i) s) ∧
    (lo = true → d.extractLsb' 0 8 = 0 → (slotOf s.part i).state = .done → written = exec (.orderSlotFree i) s) ∧
    (lo = false ∨ (¬ (d.extractLsb' 0 8 = 3 ∧ (slotOf s.part i).state ∈ [.posted, .taken]) ∧
      ¬ (d.extractLsb' 0 8 = 0 ∧ (slotOf s.part i).state = .done)) → written = .next s) := by
  obtain ⟨acts, stays⟩ := hostWrite_held hready d lo hi h
  refine ⟨fun hlo hoctet _ => ?_, fun hlo hoctet _ => ?_, fun hnone => ?_⟩
  · exact (acts hlo).trans (by rw [hoctet]; rfl)
  · exact (acts hlo).trans (by rw [hoctet]; rfl)
  · cases hlo : lo with
    | false => exact hlo ▸ stays hlo
    | true =>
      obtain ⟨hwithdraw, hdone⟩ := hnone.resolve_left (by rw [hlo]; decide)
      exact hlo ▸ (acts hlo).trans (discards hready (writeStateOctet_discards h hwithdraw hdone))

theorem hostWrite_fields {s : State} (hready : Ready s) (d : Half) (lo hi : Bool) (i : SlotNo) (j : Fin 3) :
    After (.hostWrite (BitVec.ofNat 13 (33 + 64 * i.val + j.val)) d lo hi) s (fun t =>
      let old := slotOf s.part i
      let new := slotOf t.part i
      Frame [.window] s t ∧ WindowFrame i s t ∧ t.part.window.intake = s.part.window.intake ∧
      t.part.window.attention = s.part.window.attention ∧ (old.state ≠ .free → t = s) ∧
      (old.state = .free →
        (j = 0 → new = { old with tag := selected lo hi d old.tag }) ∧
        (j = 1 → new = { old with
          result := if lo then d.extractLsb' 0 8 else old.result, detail := if hi then d.extractLsb' 8 8 else old.detail }) ∧
        (j = 2 → new = { old with progress := selected lo hi d old.progress }))) := by
  have place : 33 + 64 * i.val + j.val = 32 + 64 * i.val + (1 + j.val) := by omega
  rw [place]
  obtain ⟨t, run, frame, window, intake, attention, held, free⟩ := hostWrite_slot hready (i := i) (k := 1 + j.val) (by omega) (by omega) d lo hi
  refine ⟨t, run, frame, window, intake, attention, held, fun hfree => ?_⟩
  have slot := free hfree
  refine ⟨fun hj => ?_, fun hj => ?_, fun hj => ?_⟩
  · rw [slot, hj]; exact putSlotHalf_tag ..
  · rw [slot, hj]; exact putSlotHalf_result ..
  · rw [slot, hj]; exact putSlotHalf_progress ..

theorem hostWrite_params {s : State} (hready : Ready s) (d : Half) (lo hi : Bool) (i : SlotNo) (j : Fin 60) :
    After (.hostWrite (BitVec.ofNat 13 (36 + 64 * i.val + j.val)) d lo hi) s (fun t =>
      Frame [.window] s t ∧ WindowFrame i s t ∧ t.part.window.intake = s.part.window.intake ∧
      ((slotOf s.part i).state ≠ .free → t = s) ∧
      ((slotOf s.part i).state = .free →
        slotOf t.part i = { slotOf s.part i with params := (slotOf t.part i).params } ∧
        octet (slotOf t.part i) (2 * j.val) = (if lo then (d.extractLsb' 0 8).toNat else octet (slotOf s.part i) (2 * j.val)) ∧
        octet (slotOf t.part i) (2 * j.val + 1) =
          (if hi then (d.extractLsb' 8 8).toNat else octet (slotOf s.part i) (2 * j.val + 1)) ∧
        (∀ k : Fin 120, k.val / 2 ≠ j.val → octet (slotOf t.part i) k.val = octet (slotOf s.part i) k.val))) := by
  have place : 36 + 64 * i.val + j.val = 32 + 64 * i.val + (4 + j.val) := by omega
  rw [place]
  obtain ⟨t, run, frame, window, intake, -, held, free⟩ := hostWrite_slot hready (i := i) (k := 4 + j.val) (by omega) (by omega) d lo hi
  obtain ⟨params, octets⟩ := putSlotHalf_params j.isLt d lo hi (slotOf s.part i)
  refine ⟨t, run, frame, window, intake, held, fun hfree => ?_⟩
  rw [free hfree]
  refine ⟨params, ?_, ?_, fun k hk => ?_⟩
  · rw [octets]; simp
  · rw [octets, if_neg (by omega)]; simp
  · rw [octets, if_neg (by omega), if_neg (by omega)]

/-- Settles O37: each octet of a host write is judged alone by its offset, and the event's end leaves what it has written. -/
theorem slotsAndHostWrites : Obligations.SlotsAndHostWrites := by
  refine ⟨fun s hready => ⟨fun i => ⟨fun h => ?_, orderSlotFree_frees hready⟩, fun r => ⟨fun h => ?_, receiveSlotEmpty_empties hready⟩⟩,
    fun d lo hi s hready => ⟨fun i h => hostWrite_first hready d lo hi h, fun i h => hostWrite_heldCases hready d lo hi h,
      hostWrite_fields hready d lo hi, hostWrite_params hready d lo hi, hostWrite_receive hready d lo hi,
      hostWrite_control_cases hready d lo hi, ?_, fun h => ?_, fun hlo hhi => ?_, fun a h => hostWrite_unassigned hready d lo hi h⟩⟩
  · refine discards hready ?_
    by_cases hfree : (slotOf s.part i).state = .free
    · simp [writeStateOctet, hfree]
    · exact writeStateOctet_discards hfree (fun e => absurd e.1 (by decide)) fun e => h e.2
  · exact discards hready (writeReceiveState_leaves (.inl h))
  · exact hostWrite_occurs hready (by decide) (writeHalf_attention ..)
  · refine hostWrite_occurs hready (by decide) ((writeHalf_mask ..).trans (if_pos ?_))
    simpa using h
  · exact hostWrite_discards hready (by decide) (by rw [writeHalf_mask, hlo, hhi]; rfl)

end Sys2Proof.Machine

/-! ORDER_WITHDRAW (R192, R195). -/

namespace Sys2Proof.Machine

theorem orderWithdraw_runs {s : State} (hready : Ready s) {i : SlotNo} {q : Part} (h : writeStateOctet i 3 s.part = q) :
    exec (.orderWithdraw i) s = .next { s with part := finish q } := by
  show occurs (fun _ => true) (writeStateOctet i 3) s = _
  rw [occurs_acts hready.1 rfl, h]

section
variable {i : SlotNo} {p : Part}

theorem writeStateOctet_ignores (h : (slotOf p i).state ∈ [SlotState.free, .withdraw, .done]) : writeStateOctet i 3 p = p := by
  simp only [List.mem_cons, List.not_mem_nil, or_false] at h
  obtain h | h | h := h <;> simp [writeStateOctet, h]

theorem writeStateOctet_unposts (h : (slotOf p i).state = .posted) : writeStateOctet i 3 p = answer i .withdrawn 0 (leaveIntake i p) := by
  simp [writeStateOctet, h]

/-- The part in which the slot of a held order shows WITHDRAW. -/
def withdrawing (i : SlotNo) (p : Part) : Part := setSlotState i .withdraw p

@[simp] theorem slotOf_withdrawing (i : SlotNo) (p : Part) : slotOf (withdrawing i p) i = { slotOf p i with state := .withdraw } :=
  slotOf_modSlot_same i _ p

theorem slotOf_withdrawing_ne {j : SlotNo} (h : j ≠ i) : slotOf (withdrawing i p) j = slotOf p j := slotOf_modSlot_ne i j _ p h

theorem withdrawing_same {b : Block} (h : b ≠ .window) : Part.same b p (withdrawing i p) := by
  cases b with
  | window => exact absurd rfl h
  | _ => rfl

/-- A held order's block is told of the withdraw, by the order's kind (R195). -/
theorem writeStateOctet_tells {k : Byte} {f : SlotNo → Part → Part} (h : (slotOf p i).state = .taken) (hkind : (slotOf p i).kind = k)
    (hf : (k, f) ∈ [((0x31 : Byte), withdrawMove), (0x51, withdrawStart), (0x52, fun _ p => p), (0x60, withdrawMessage), (0x70, withdrawCall)]) :
    writeStateOctet i 3 p = f i (withdrawing i p) := by
  have told : writeStateOctet i 3 p = tellWithdraw i (withdrawing i p) := by simp [writeStateOctet, h, withdrawing]
  have kind : (slotOf (withdrawing i p) i).kind = k := by rw [slotOf_withdrawing]; exact hkind
  rw [told, tellWithdraw, kind]
  simp only [List.mem_cons, List.not_mem_nil, or_false, Prod.mk.injEq] at hf
  obtain ⟨rfl, rfl⟩ | ⟨rfl, rfl⟩ | ⟨rfl, rfl⟩ | ⟨rfl, rfl⟩ | ⟨rfl, rfl⟩ := hf <;> rfl

end

/-! ### An order answered WITHDRAWN -/

/-- The answer WITHDRAWN, where nothing is judged after it. -/
theorem withdrawn_finish {i : SlotNo} {s : State} {q : Part} {changed : List Block} (hready : Ready s)
    (hsettle : settle 64 (answer i .withdrawn 0 q) = { answer i .withdrawn 0 q with work := {} })
    (hslot : ∃ st, slotOf q i = { slotOf s.part i with state := st }) (hothers : ∀ j, j ≠ i → slotOf q j = slotOf s.part j)
    (hwindow : q.window = { s.part.window with slots := q.window.slots, intake := q.window.intake })
    (hkept : ∀ b, b ≠ .window → b ∉ changed → Part.same b s.part q) :
    slotOf (finish (answer i .withdrawn 0 q)) i =
        { slotOf s.part i with state := .done, result := asOctet Result.withdrawn.code, detail := 0 } ∧
      WindowFrame i s { s with part := finish (answer i .withdrawn 0 q) } ∧
      (finish (answer i .withdrawn 0 q)).window.intake = q.window.intake ∧
      (finish (answer i .withdrawn 0 q)).window.attention = s.part.window.attention ||| 0x0001 ∧
      Frame (.window :: changed) s { s with part := finish (answer i .withdrawn 0 q) } := by
  obtain ⟨st, hslot⟩ := hslot
  refine ⟨?_, ⟨fun j hj => ?_, ?_, ?_, ?_, ?_⟩, ?_, ?_, frame_finish hready fun b _ hb => ?_⟩
  · rw [slotOf_finish, hsettle]
    exact (slotOf_answer_same i .withdrawn 0 q).trans (by rw [hslot]; rfl)
  · show slotOf (finish _) j = _
    rw [slotOf_finish, hsettle]
    exact (slotOf_answer_ne i j .withdrawn 0 q hj).trans (hothers j hj)
  · rw [finish_window, hsettle]
    show q.window.latch = _
    rw [hwindow]
  · rw [finish_window, hsettle]
    show q.window.attentionMask = _
    rw [hwindow]
  · rw [finish_window, hsettle]
    show q.window.attnEnable = _
    rw [hwindow]
  · rw [finish_window, hsettle]
    show q.window.softResets = _
    rw [hwindow]
  · rw [finish_window, hsettle]; rfl
  · rw [finish_window, hsettle]
    show q.window.attention ||| _ = _
    rw [hwindow]
    rfl
  · simp only [List.mem_cons, not_or] at hb
    obtain ⟨hne, hb⟩ := hb
    have kept := same_answer i .withdrawn 0 hne (hkept b hne hb)
    rw [hsettle]
    cases b with
    | window => exact absurd rfl hne
    | _ => exact kept

theorem answer_settles {i : SlotNo} {q : Part} (h : q.work = {}) :
    settle 64 (answer i .withdrawn 0 q) = { answer i .withdrawn 0 q with work := {} } := by
  rw [settle_of_quiet (p := answer i .withdrawn 0 q) h]
  have worked : (answer i .withdrawn 0 q).work = {} := h
  rw [← worked]

/-- The message channel after a withdraw of a MESSAGE_SEND (R168). -/
def withdrawnMessages (i : SlotNo) (m : Messages) : Messages :=
  if transferring i m then offerNew .abandoning m else { m with waiting := m.waiting.filter (fun w => w.slot != i) }

theorem withdrawMessage_eq (i : SlotNo) (p : Part) : withdrawMessage i p = answer i .withdrawn 0 (modMsg (withdrawnMessages i) p) := by
  unfold withdrawMessage modMsg withdrawnMessages
  split <;> rfl

/-- The answer to the order and the halt of its channel do not meet. -/
theorem restIn_answer (n : ChannelNo) (st : DoorState) (i : SlotNo) (r : Result) (d : Nat) (p : Part) :
    restIn n st (answer i r d p) = answer i r d (restIn n st p) := by
  have same : channel (answer i r d p) n = channel p n := rfl
  simp only [restIn, same]
  split <;> rfl

theorem haltChannel_answer (n : ChannelNo) (i : SlotNo) (r : Result) (d : Nat) (p : Part) :
    haltChannel n (answer i r d p) = answer i r d (haltChannel n p) := by
  have same : channel (answer i r d p) n = channel p n := rfl
  simp only [haltChannel, same]
  split
  · rfl
  · split
    · rfl
    · exact restIn_answer n _ i r d (leaveQueue n (stopOutputs n (modChannel n (fun c => { c with target := none, waits := .none }) p)))

/-- A halt calls for no judgement but the Door Sequencer's. -/
theorem haltChannel_calls (n : ChannelNo) (p : Part) :
    (haltChannel n p).work.launch = p.work.launch ∧ (haltChannel n p).work.arbiter = p.work.arbiter := by
  simp only [haltChannel, restIn]
  (repeat' split) <;> exact ⟨rfl, rfl⟩

section
variable {i : SlotNo} {s : State} (hready : Ready s)
include hready

/-- An order still POSTED (R195). -/
theorem posted_withdrawn (h : (slotOf s.part i).state = .posted) :
    After (.orderWithdraw i) s (fun t =>
      slotOf t.part i = { slotOf s.part i with state := .done, result := asOctet Result.withdrawn.code, detail := 0 } ∧
      t.part.window.intake = s.part.window.intake.filter (fun j => j != i) ∧ WindowFrame i s t ∧
      t.part.window.attention = s.part.window.attention ||| 0x0001 ∧ Frame [.window] s t) := by
  have kept : ∀ b, b ≠ Block.window → b ∉ ([] : List Block) → Part.same b s.part (leaveIntake i s.part) := by
    intro b hb _
    cases b with
    | window => exact absurd rfl hb
    | _ => rfl
  obtain ⟨slot, window, intake, attention, frame⟩ := withdrawn_finish (q := leaveIntake i s.part) hready
    (answer_settles hready.2.1) ⟨_, rfl⟩ (fun _ _ => rfl) rfl kept
  exact ⟨_, orderWithdraw_runs hready (writeStateOctet_unposts h), slot, intake, window, attention, frame⟩

/-! ### LINE_PROBE and MESSAGE_SEND -/

theorem probe_goesOn (h : (slotOf s.part i).state = .taken) (hkind : (slotOf s.part i).kind = 0x52) :
    After (.orderWithdraw i) s (fun t =>
      slotOf t.part i = { slotOf s.part i with state := .withdraw } ∧ WindowFrame i s t ∧ Frame [.window] s t) := by
  obtain ⟨slot, -, window, -, frame⟩ := modSlot_writes hready i (fun x => { x with state := .withdraw })
  exact ⟨_, orderWithdraw_runs hready (writeStateOctet_tells (f := fun _ p => p) h hkind (by simp)), slot, window, frame⟩

theorem message_withdrawn (h : (slotOf s.part i).state = .taken) (hkind : (slotOf s.part i).kind = 0x60) :
    After (.orderWithdraw i) s (fun t =>
      slotOf t.part i = { slotOf s.part i with state := .done, result := asOctet Result.withdrawn.code, detail := 0 } ∧
      WindowFrame i s t ∧ Frame [.window, .messages] s t ∧ t.part.messages = withdrawnMessages i s.part.messages) := by
  have told := writeStateOctet_tells (f := withdrawMessage) h hkind (by simp)
  rw [withdrawMessage_eq] at told
  have quiet : (modMsg (withdrawnMessages i) (withdrawing i s.part)).work = {} := hready.2.1
  have kept : ∀ b, b ≠ Block.window → b ∉ [Block.messages] → Part.same b s.part (modMsg (withdrawnMessages i) (withdrawing i s.part)) := by
    intro b hb hm
    cases b with
    | window | messages => simp at hb hm
    | _ => rfl
  obtain ⟨slot, window, -, -, frame⟩ := withdrawn_finish hready (answer_settles quiet) ⟨_, slotOf_withdrawing i s.part⟩
    (fun j hj => slotOf_withdrawing_ne hj) rfl kept
  refine ⟨_, orderWithdraw_runs hready told, slot, window, frame, ?_⟩
  dsimp only
  rw [finish_messages, answer_settles quiet]
  rfl

/-! ### CALL_PLACE (R183) -/

theorem call_withdrawn {v : VoiceNo} (h : (slotOf s.part i).state = .taken) (hkind : (slotOf s.part i).kind = 0x70)
    (hplaced : placedCall s.part i = some v) :
    After (.orderWithdraw i) s (fun t =>
      (slotOf t.part i).state = .done ∧ (slotOf t.part i).result = asOctet Result.withdrawn.code ∧ Frame [.window, .calls] s t ∧
      (callSlot t.part v).reason = .orderClear ∧ (callSlot t.part v).ownSeize = false ∧ (callSlot t.part v).order = none ∧
      (callSlot t.part v).state = (if awaitedStands (callSlot s.part v) then .clearing else .idle)) := by
  have owned : (callSlot s.part v).order = some i := by simpa using List.find?_some hplaced
  set p := withdrawing i s.part with hp
  have told : writeStateOctet i 3 s.part = answerCall v .withdrawn 0 (clearByValley v .orderClear p) := by
    have placed : placedCall p i = some v := hplaced
    rw [writeStateOctet_tells (f := withdrawCall) h hkind (by simp), withdrawCall, placed]
  have cleared := clearByValley_slot v .orderClear p
  have own : (callSlot p v) = callSlot s.part v := rfl
  rw [own] at cleared
  have order : (callSlot (clearByValley v .orderClear p) v).order = some i := by rw [cleared]; split <;> exact owned
  have slot := answerCall_slotOf_same (p := clearByValley v .orderClear p) .withdrawn 0 order
  have call := answerCall_slot v .withdrawn 0 (clearByValley v .orderClear p)
  rw [cleared] at call
  have keeps := (clearByValley_kept v .orderClear p)
  have keeps' := answerCall_kept v .withdrawn 0 (clearByValley v .orderClear p)
  simp only [CallKeeps] at keeps keeps'
  have quiet : (answerCall v .withdrawn 0 (clearByValley v .orderClear p)).work = {} := by
    simp only [keeps', keeps]; exact hready.2.1
  have kept : ∀ b ∉ [Block.window, .calls], Part.same b s.part (answerCall v .withdrawn 0 (clearByValley v .orderClear p)) := by
    intro b hb
    cases b with
    | window | calls => simp at hb
    | _ => simp only [Part.same, keeps', keeps]; rfl
  generalize answerCall v .withdrawn 0 (clearByValley v .orderClear p) = q at told slot call quiet kept
  refine ⟨_, orderWithdraw_runs hready told, ?_, ?_, frame_finish hready fun b _ hb => ?_, ?_⟩
  · rw [slotOf_finish, settle_of_quiet quiet, slot]
  · rw [slotOf_finish, settle_of_quiet quiet, slot]
  · rw [settle_of_quiet quiet]; exact kept b hb
  · have after := callSlot_finish q v
    rw [settle_of_quiet quiet, call] at after
    dsimp only
    rw [after]
    split <;> simp [clearingSlot, idleSlot, CallSlot.ownSeize]

/-! ### LINE_START (R159) -/

theorem start_withdrawn (h : (slotOf s.part i).state = .taken) (hkind : (slotOf s.part i).kind = 0x51)
    (hstart : s.part.line.startOrder = some i) (hstate : s.part.line.state = .probing ∨ s.part.line.state = .training) :
    After (.orderWithdraw i) s (fun t =>
      (slotOf t.part i).state = .done ∧ (slotOf t.part i).result = asOctet Result.withdrawn.code ∧
      Frame [.window, .line, .sup, .rope] s t ∧ t.part.line.state = .down ∧ t.part.line.startOrder = none ∧ t.part.line.notes = [] ∧
      t.part.line.probe = none ∧ t.part.line.diagnosis = s.part.line.diagnosis ∧
      t.part.line.lastProbe = s.part.line.lastProbe ∧ t.part.line.probesSent = s.part.line.probesSent ∧
      t.part.line.backoff = (if s.part.line.config.autoStart then some (s.part.clock.now + ms 5000) else none)) := by
  set p := withdrawing i s.part with hp
  set stopped := modLine stopFrames (answer i .withdrawn 0 (modLine (fun l => { l with startOrder := none }) p)) with hstopped
  have told : writeStateOctet i 3 s.part = startBackoff (changeLine .down 0 stopped) := by
    have owner : p.line.startOrder = some i := hstart
    rw [writeStateOctet_tells (f := withdrawStart) h hkind (by simp), ← hp, withdrawStart, owner, if_pos (by simp), answerStart, owner]
    rfl
  have atRest : stopped.line.state = .probing ∨ stopped.line.state = .training := hstate
  obtain ⟨rested, -⟩ := changeLine_rest (st := .down) (r := 0) (p := stopped) (by rintro e; rw [e] at atRest; simp at atRest)
    (by rintro e; rw [e] at atRest; simp at atRest) (by decide)
  have line := changeLine_line .down 0 stopped
  have slot : slotOf stopped i = { slotOf p i with state := .done, result := asOctet Result.withdrawn.code, detail := 0 } :=
    slotOf_answer_same i .withdrawn 0 _
  have same {b : Block} (hb : b ∉ [Block.window, .line, .sup, .rope]) : Part.same b s.part (changeLine .down 0 stopped) := by
    refine same_trans ?_ (rested.same hb)
    cases b with
    | window | line | sup | rope => simp at hb
    | _ => rfl
  have quiet : (changeLine .down 0 stopped).work = {} := rested.2.2.2.2.2.2.2.2.2.2.1.trans hready.2.1
  have clock : (changeLine .down 0 stopped).clock = s.part.clock := rested.1
  have slots : slotOf (changeLine .down 0 stopped) i = slotOf stopped i := by
    obtain ⟨-, -, -, -, -, -, -, -, -, -, -, ⟨hslots, -⟩, -⟩ := rested
    rw [slotOf, hslots, slotOf]
  generalize changeLine .down 0 stopped = q at told line same quiet clock slots
  have calm : settle 64 (startBackoff q) = startBackoff q := settle_of_quiet quiet
  have kept : ∀ b ∉ [Block.window, .line, .sup, .rope], Part.same b s.part (startBackoff q) := by
    intro b hb
    have sameQ := same hb
    cases b with
    | window | line | sup | rope => simp at hb
    | _ => exact sameQ
  have after : (startBackoff q).line =
      { q.line with backoff := if q.line.config.autoStart then some (q.clock.now + ms 5000) else none } := rfl
  rw [line, clock] at after
  have slot' : slotOf (startBackoff q) i = slotOf stopped i := slots
  refine ⟨_, orderWithdraw_runs hready told, ?_, ?_, frame_finish hready fun b _ hb => ?_, ?_⟩
  · rw [slotOf_finish, calm, slot', slot]
  · rw [slotOf_finish, calm, slot', slot]
  · rw [calm]; exact kept b hb
  · dsimp only
    rw [finish_line, calm, after]
    exact ⟨rfl, rfl, rfl, rfl, rfl, rfl, rfl, rfl⟩

/-! ### DOOR_MOVE (R91, R98) -/

theorem move_withdrawn {n : ChannelNo}
    (hactions : ∀ a ∈ s.part.sequencer.actions, a.dueWaiting = false) (h : (slotOf s.part i).state = .taken)
    (hkind : (slotOf s.part i).kind = 0x31) (hmoved : movedChannel s.part i = some n) :
    After (.orderWithdraw i) s (fun t =>
      slotOf t.part i = { slotOf s.part i with state := .done, result := asOctet Result.withdrawn.code, detail := 0 } ∧
      WindowFrame i s t ∧ Frame [.window, .doors] s t ∧ (∀ m, m ≠ n → channel t.part m = channel s.part m) ∧
      channel t.part n = haltedChannel { channel s.part n with owner := .none } ∧
      t.part.doors.queue = if (channel s.part n).state.atRest = true ∨ (channel s.part n).state = .locking then s.part.doors.queue
        else s.part.doors.queue.filter (fun r => r != .door n)) := by
  set p := withdrawing i s.part with hp
  set freed := modChannel n (fun c => { c with owner := .none }) p with hfreed
  have told : writeStateOctet i 3 s.part = answer i .withdrawn 0 (haltChannel n freed) := by
    have moved : movedChannel p i = some n := hmoved
    rw [writeStateOctet_tells (f := withdrawMove) h hkind (by simp), ← hp, withdrawMove, moved]
    exact haltChannel_answer n i .withdrawn 0 freed
  have chan := channel_haltChannel n n freed
  have others (m : ChannelNo) (hm : m ≠ n) : channel (haltChannel n freed) m = channel s.part m := by
    rw [channel_haltChannel, channel_modChannel_ne _ _ _ _ hm, hfreed, channel_modChannel_ne _ _ _ _ hm]; rfl
  have queue := haltChannel_queue n freed
  have own : channel freed n = { channel s.part n with owner := .none } := channel_modChannel_same n _ p
  rw [channel_modChannel_same, own] at chan
  rw [own] at queue
  have waiting : freed.doors.queue = s.part.doors.queue := rfl
  rw [waiting] at queue
  obtain ⟨keeps, hsup, hrope, hcalls, hcabins, hwindow, hsequencer⟩ := haltChannel_kept n freed
  obtain ⟨hlaunch, harbiter⟩ := haltChannel_calls n freed
  simp only [DoorKeeps] at keeps
  have kept : ∀ b, b ≠ Block.window → b ∉ [Block.doors] → Part.same b s.part (haltChannel n freed) := by
    intro b hb hm
    cases b with
    | window | doors => simp at hb hm
    | _ => simp only [Part.same, keeps, hsup, hrope, hcalls, hcabins, hsequencer]; rfl
  generalize haltChannel n freed = q at told chan others queue kept hwindow hsequencer hlaunch harbiter
  have calm : settle 64 (answer i .withdrawn 0 q) = { answer i .withdrawn 0 q with work := {} } := by
    have worked : freed.work = {} := hready.2.1
    rw [worked] at hlaunch harbiter
    exact settle_waitless hlaunch harbiter fun a ha => hactions a (by rw [answer_sequencer, hsequencer] at ha; exact ha)
  obtain ⟨slot, window, -, -, frame⟩ := withdrawn_finish hready calm (q := q) ⟨.withdraw, by rw [slotOf, hwindow]; exact slotOf_withdrawing i s.part⟩
    (fun j hj => by rw [slotOf, hwindow]; exact slotOf_withdrawing_ne hj) (by rw [hwindow]; rfl) kept
  refine ⟨_, orderWithdraw_runs hready told, slot, window, frame, fun m hm => ?_, ?_, ?_⟩
  all_goals dsimp only
  · rw [channel_finish, calm]; exact others m hm
  · rw [channel_finish, calm]; exact chan
  · rw [finish_doors, calm]; exact queue

end

/-- Settles O36. -/
theorem orderWithdrawActsByTheSlot : Obligations.OrderWithdrawActsByTheSlot := by
  refine ⟨fun i s hready => ⟨fun h => ?_, posted_withdrawn hready, probe_goesOn hready, fun h hkind => ?_, fun v => call_withdrawn hready,
    start_withdrawn hready⟩, fun i s n hready _ hactions h hkind hmoved => ?_⟩
  · exact discards hready (writeStateOctet_ignores h)
  · obtain ⟨t, run, slot, window, frame, messages⟩ := message_withdrawn hready h hkind
    refine ⟨t, run, slot, window, frame, fun transfer => ?_, fun transfer => ?_⟩
    · rw [messages, withdrawnMessages, if_neg (by rw [transfer]; decide)]
    · rw [messages, withdrawnMessages, if_pos transfer]
      exact ⟨rfl, rfl, rfl, rfl⟩
  · obtain ⟨t, run, slot, window, frame, others, chan, queue⟩ := move_withdrawn hready hactions h hkind hmoved
    refine ⟨t, run, slot, window, frame, others, fun hlocking => ⟨?_, ?_⟩, fun hrest => ⟨?_, ?_⟩, fun hmoves hlocking => ⟨?_, ?_⟩⟩
    · rw [queue, if_pos (.inr hlocking)]
    · rw [chan, haltedChannel, if_neg (by rw [hlocking]; decide), if_pos hlocking]
    · rw [queue, if_pos (.inl hrest)]
    · rw [chan, haltedChannel, if_pos hrest]
    · rw [chan, haltedChannel, if_neg (by rw [hmoves]; decide), if_neg hlocking, haltedState_eq]
    · rw [queue, if_neg (by rw [hmoves]; simp [hlocking])]
      simp

end Sys2Proof.Machine

/-! CONVERTER_SCAN, CONVERTER_FAULT and the grip test window (R51 to R59). -/

namespace Sys2Proof.Machine

/-! ### The active profile while no switch is pending -/

/-- With no switch pending none becomes pending, and the active profile is the same. -/
def ProfileStands (u v : Supervisor) : Prop := u.pendingSwitch = none → v.pendingSwitch = none ∧ activeProfile v = activeProfile u

theorem ProfileStands.refl (u : Supervisor) : ProfileStands u u := fun h => ⟨h, rfl⟩

theorem ProfileStands.trans {u v w : Supervisor} (h : ProfileStands u v) (g : ProfileStands v w) : ProfileStands u w := fun e =>
  ⟨(g (h e).1).1, (g (h e).1).2.trans (h e).2⟩

theorem enterMode_profile (m : Mode) (p : Part) : ProfileStands p.sup (enterMode m p).sup := by
  by_cases h : p.sup.mode = m
  · rw [enterMode_same h]; exact .refl _
  · intro none
    rw [enterMode_sup h]
    simp only [enteredSup, switchedSup, none, stopModeTimers]
    (repeat' split) <;> exact ⟨rfl, rfl⟩

theorem changeMode_profile (m : Mode) (p : Part) : ProfileStands p.sup (changeMode m p).sup := by
  have entered := enterMode_profile m p
  unfold changeMode standstillEvent
  dsimp only
  split
  · split
    · exact entered.trans (enterMode_profile _ _)
    · exact entered
  · exact entered

theorem report_profile (k : CauseKind) (n : Nat) (c : Category) (b : Bool) (p : Part) : ProfileStands p.sup (report k n c b p).sup := by
  have noted : ProfileStands p.sup (causeNoted k n c b p).sup := by
    intro none
    rw [causeNoted, attend_sup, modSup_sup, enterCause_kept]
    exact ⟨none, rfl⟩
  rw [report_eq]
  exact noted.trans (changeMode_profile _ _)

theorem gone_profile (k : CauseKind) (n : Nat) (p : Part) : (gone k n p).sup.pendingSwitch = p.sup.pendingSwitch ∧
    activeProfile (gone k n p).sup = activeProfile p.sup := by
  rw [gone_sup]
  exact ⟨rfl, rfl⟩

/-! ### What a scan leaves -/

/-- Besides the codes and the grip test a scan changes only what its causes do, and leaves RUN where it calls for a judgement. -/
structure ScanKeeps (p q : Part) : Prop where
  clock : q.clock = p.clock
  track : q.track = p.track
  launch : q.launch = p.launch
  doors : q.doors = p.doors
  sequencer : q.sequencer = p.sequencer
  line : q.line = p.line
  messages : q.messages = p.messages
  arbiterCall : q.work.arbiter = p.work.arbiter
  sequencerCall : q.work.sequencer = p.work.sequencer
  stays : StaysOrStops p q
  remembers : Remembers p q

theorem ScanKeeps.trans {p q r : Part} (h : ScanKeeps p q) (g : ScanKeeps q r) : ScanKeeps p r where
  clock := g.clock.trans h.clock
  track := g.track.trans h.track
  launch := g.launch.trans h.launch
  doors := g.doors.trans h.doors
  sequencer := g.sequencer.trans h.sequencer
  line := g.line.trans h.line
  messages := g.messages.trans h.messages
  arbiterCall := g.arbiterCall.trans h.arbiterCall
  sequencerCall := g.sequencerCall.trans h.sequencerCall
  stays := h.stays.trans g.stays
  remembers := h.remembers.trans g.remembers

/-- Work that touches the codes, the records, the grip test and ATTENTION alone. -/
theorem scanKeeps_of_eq {p q : Part} (h : q = { p with sensors := q.sensors, cabins := q.cabins, grip := q.grip, window := q.window })
    (hbits : BitsStay p.window q.window) : ScanKeeps p q := by
  rw [h] at *
  exact ⟨rfl, rfl, rfl, rfl, rfl, rfl, rfl, rfl, rfl, .inl ⟨rfl, rfl⟩, .of_eq rfl rfl hbits⟩

theorem ScanKeeps.refl (p : Part) : ScanKeeps p p := scanKeeps_of_eq rfl (.of_eq rfl)

theorem attend_scan (a : Attn) (p : Part) : ScanKeeps p (attend a p) := scanKeeps_of_eq rfl (attend_bitsStay a p)

theorem report_scan (k : CauseKind) (n : Nat) (c : Category) (b : Bool) (p : Part) : ScanKeeps p (report k n c b p) := by
  obtain ⟨hclock, htrack, -, -, -, hlaunch, hdoors, hsequencer, hline, hmessages, -, harb, hseq, -⟩ := report_kept k n c b p
  exact ⟨hclock, htrack, hlaunch, hdoors, hsequencer, hline, hmessages, harb, hseq, .inr (report_stops k n c b p), report_remembers ..⟩

theorem Undisturbed.scan {p q : Part} (h : Undisturbed p q) (remembers : Remembers p q) : ScanKeeps p q := by
  obtain ⟨⟨hclock, htrack, -, -, -, hlaunch, hdoors, hsequencer, hline, hmessages, -⟩, -, hwork, hmode, -⟩ := h
  exact ⟨hclock, htrack, hlaunch, hdoors, hsequencer, hline, hmessages, by rw [hwork], by rw [hwork], .inl ⟨hwork, hmode⟩, remembers⟩

theorem gone_scan {k : CauseKind} (hk : k ≠ .trackOverflow) (n : Nat) (p : Part) : ScanKeeps p (gone k n p) :=
  (gone_undisturbed k n p).scan (gone_remembers hk n p)

theorem setCaps_scan (c : Caps) (p : Part) : ScanKeeps p (setCaps c p) := (setCaps_undisturbed c p).scan (setCaps_remembers c p)

/-- The condition CONVERTER_FAULT is as it was. -/
def FaultStands (p q : Part) : Prop := ConditionPresent .converterFault 0 q.sup ↔ ConditionPresent .converterFault 0 p.sup

theorem FaultStands.trans {p q r : Part} (h : FaultStands p q) (g : FaultStands q r) : FaultStands p r := Iff.trans g h

theorem report_fault {k : CauseKind} (hk : CauseKind.converterFault ≠ k) (n : Nat) (c : Category) (b : Bool) (p : Part) :
    FaultStands p (report k n c b p) := report_present_other hk 0 n c b p

theorem refreshWindCap_scan (p : Part) : ScanKeeps p (refreshWindCap p) := setCaps_scan _ p

theorem setCaps_fault (c : Caps) (p : Part) : FaultStands p (setCaps c p) := by
  have present : (setCaps c p).sup.present = p.sup.present := by
    rw [setCaps_sup]
    split <;> rfl
  rw [FaultStands, ConditionPresent, present]

/-! ### The tension and wind checks -/

/-- The tension check without a change, and with one. -/
theorem tensionCheck_cases (p : Part) : ScanKeeps p (tensionCheck p) ∧ FaultStands p (tensionCheck p) ∧
    ProfileStands p.sup (tensionCheck p).sup ∧ (tensionCheck p).cabins = p.cabins ∧ (tensionCheck p).grip = p.grip ∧
    (tensionCheck p).sensors =
      { p.sensors with tension := tensionAfter (activeProfile p.sup) (p.sensors.codes.get 9).toNat p.sensors.tension } := by
  set new := tensionAfter (activeProfile p.sup) (p.sensors.codes.get 9).toNat p.sensors.tension with hnew
  set q := attend .sensor { p with sensors := { p.sensors with tension := new } } with hq
  have shown : ScanKeeps p q := scanKeeps_of_eq rfl (attend_bitsStay .sensor p)
  set r := (match p.sensors.tension.source with
    | none => q
    | some src => gone .tensionLimit src q) with hr
  have ended : ScanKeeps q r ∧ FaultStands q r ∧ ProfileStands q.sup r.sup ∧ r.cabins = q.cabins ∧ r.grip = q.grip ∧
      r.sensors = q.sensors := by
    rw [hr]
    split
    · exact ⟨.refl q, Iff.rfl, .refl _, rfl, rfl, rfl⟩
    · exact ⟨gone_scan (by decide) .., gone_present_other (by decide) .., fun h => ⟨(gone_profile ..).1.trans h, (gone_profile ..).2⟩,
        by simp, by simp, by simp⟩
  have told : ScanKeeps r (match new.source with | none => r | some src => report .tensionLimit src .service true r) ∧
      FaultStands r (match new.source with | none => r | some src => report .tensionLimit src .service true r) ∧
      ProfileStands r.sup (match new.source with | none => r | some src => report .tensionLimit src .service true r).sup ∧
      (match new.source with | none => r | some src => report .tensionLimit src .service true r).cabins = r.cabins ∧
      (match new.source with | none => r | some src => report .tensionLimit src .service true r).grip = r.grip ∧
      (match new.source with | none => r | some src => report .tensionLimit src .service true r).sensors = r.sensors := by
    split
    · exact ⟨.refl r, Iff.rfl, .refl _, rfl, rfl, rfl⟩
    · exact ⟨report_scan .., report_fault (by decide) .., report_profile .tensionLimit _ .service true r, by simp, by simp, by simp⟩
  have eq : tensionCheck p = if new == p.sensors.tension then p
      else match new.source with | none => r | some src => report .tensionLimit src .service true r := rfl
  rw [eq]
  split
  next h =>
    have same : new = p.sensors.tension := by simpa using h
    exact ⟨.refl p, Iff.rfl, .refl _, rfl, rfl, by rw [same]⟩
  next =>
    generalize (match new.source with | none => r | some src => report .tensionLimit src .service true r) = w at told ⊢
    obtain ⟨keeps, fault, profile, cabins, grip, sensors⟩ := ended
    obtain ⟨keeps', fault', profile', cabins', grip', sensors'⟩ := told
    exact ⟨(shown.trans keeps).trans keeps', fault.trans fault', profile.trans profile', cabins'.trans cabins, grip'.trans grip,
      sensors'.trans sensors⟩

theorem windCheck_cases (p : Part) : ScanKeeps p (windCheck p) ∧ FaultStands p (windCheck p) ∧ (windCheck p).cabins = p.cabins ∧
    (windCheck p).grip = p.grip ∧ (windCheck p).sensors = { p.sensors with
      windHigh := windAfter (activeProfile p.sup) (p.sensors.codes.get 10).toNat p.sensors.windHigh
      lastWind := p.sensors.codes.get 10 } := by
  unfold windCheck
  dsimp only
  split
  · refine ⟨ScanKeeps.trans ?_ (refreshWindCap_scan _), ?_, by simp, by simp, by simp⟩
    · exact scanKeeps_of_eq rfl (attend_bitsStay .sensor p)
    · exact setCaps_fault _ _
  · exact ⟨scanKeeps_of_eq rfl (.of_eq rfl), Iff.rfl, rfl, rfl, rfl⟩

/-- The checks made on fresh codes (R54, R55). -/
def freshChecks (p : Part) : Part := windCheck (tensionCheck p)

/-! ### The grip test -/

/-- The closes counted, of every result. -/
def Grip.closes (g : Grip) : Nat := g.passes + g.fails + g.incompletes

theorem count16_le (n : Nat) : count16 n ≤ n + 1 := by
  unfold count16 countTo
  split <;> omega

theorem countGrip_cases (r : GripResult) (g : Grip) : (countGrip r g).window = g.window ∧ (countGrip r g).last = g.last ∧
    (countGrip r g).closes ≤ g.closes + 1 := by
  have passes := count16_le g.passes
  have fails := count16_le g.fails
  have incompletes := count16_le g.incompletes
  cases r <;> refine ⟨rfl, rfl, ?_⟩ <;> simp only [countGrip, Grip.closes] <;> omega

/-- What the view shows of a window that closes (R59). -/
def closedWindow (w : GripWindow) (doubled : Bool) (now : Time) : GripLast :=
  { result := gripResult w doubled, cabin := w.cabin, codes := w.codes, closed := now
    forceMin := (w.forces.getD (0, 0)).1, forceMax := (w.forces.getD (0, 0)).2 }

/-- A window that closes, before its result is reported. -/
def gripClosed (doubled : Bool) (w : GripWindow) (p : Part) : Part :=
  attend .grip (modCabin w.cabin (fun c => { c with
    grip := gripResult w doubled, gripMin := (w.forces.getD (0, 0)).1, gripMax := (w.forces.getD (0, 0)).2 })
    { p with grip := countGrip (gripResult w doubled) { p.grip with window := none, last := closedWindow w doubled p.clock.now } })

/-- A result other than PASS is reported (R59). -/
def gripReported (r : GripResult) (k : Nat) (p : Part) : Part :=
  match r with
  | .fail => report .gripFail k .fast false p
  | .incomplete => report .gripIncomplete k .service false p
  | _ => p

theorem closeGrip_open {doubled : Bool} {w : GripWindow} {p : Part} (h : p.grip.window = some w) :
    closeGrip doubled p = gripReported (gripResult w doubled) w.cabin (gripClosed doubled w p) := by
  rw [closeGrip, h]
  rfl

theorem modCabin_cabins (k : Nat) (f : CabinRecord → CabinRecord) (p : Part) : modCabin k f p = { p with cabins := (modCabin k f p).cabins } := by
  unfold modCabin
  split <;> rfl

theorem gripClosed_keeps (doubled : Bool) (w : GripWindow) (p : Part) : ScanKeeps p (gripClosed doubled w p) ∧
    FaultStands p (gripClosed doubled w p) ∧ (gripClosed doubled w p).sensors = p.sensors ∧
    (gripClosed doubled w p).grip = countGrip (gripResult w doubled) { p.grip with window := none, last := closedWindow w doubled p.clock.now } ∧
    (gripClosed doubled w p).window.attention.getLsbD 12 = true := by
  rw [gripClosed, modCabin_cabins]
  exact ⟨scanKeeps_of_eq rfl (attend_bitsStay .grip _), Iff.rfl, rfl, rfl, by simp [attend, Attn.bit]⟩

theorem gripReported_keeps (r : GripResult) (k : Nat) (p : Part) : ScanKeeps p (gripReported r k p) ∧ FaultStands p (gripReported r k p) ∧
    (gripReported r k p).sensors = p.sensors ∧ (gripReported r k p).grip = p.grip ∧ (gripReported r k p).cabins = p.cabins := by
  cases r with
  | none | pass => exact ⟨.refl p, Iff.rfl, rfl, rfl, rfl⟩
  | fail | incomplete => exact ⟨report_scan .., report_fault (by decide) .., by simp [gripReported], by simp [gripReported], by simp [gripReported]⟩

theorem gripReported_enters (k : Nat) (p : Part) :
    (CauseEntered .gripFail k (gripReported .fail k p).sup ∧ FastEntered (gripReported .fail k p).sup) ∧
      CauseEntered .gripIncomplete k (gripReported .incomplete k p).sup :=
  ⟨⟨report_entered .gripFail k .fast false p, report_fast .gripFail k false p⟩, report_entered .gripIncomplete k .service false p⟩

/-- What a window that closes leaves (R59). -/
theorem closeGrip_closes {doubled : Bool} {w : GripWindow} {p : Part} (h : p.grip.window = some w) :
    ScanKeeps p (closeGrip doubled p) ∧ FaultStands p (closeGrip doubled p) ∧ (closeGrip doubled p).sensors = p.sensors ∧
      (closeGrip doubled p).grip.window = none ∧ (closeGrip doubled p).grip.last = closedWindow w doubled p.clock.now ∧
      (closeGrip doubled p).grip.closes ≤ p.grip.closes + 1 ∧ (closeGrip doubled p).window.attention.getLsbD 12 = true ∧
      (gripResult w doubled = .fail → CauseEntered .gripFail w.cabin (closeGrip doubled p).sup ∧ FastEntered (closeGrip doubled p).sup) ∧
      (gripResult w doubled = .incomplete → CauseEntered .gripIncomplete w.cabin (closeGrip doubled p).sup) ∧
      (isCabin w.cabin = true → (cabin (closeGrip doubled p) w.cabin).grip = gripResult w doubled ∧
        (cabin (closeGrip doubled p) w.cabin).gripMin = (w.forces.getD (0, 0)).1 ∧
        (cabin (closeGrip doubled p) w.cabin).gripMax = (w.forces.getD (0, 0)).2) := by
  obtain ⟨keeps, fault, sensors, grip, bit⟩ := gripClosed_keeps doubled w p
  obtain ⟨keeps', fault', sensors', grip', cabins⟩ := gripReported_keeps (gripResult w doubled) w.cabin (gripClosed doubled w p)
  obtain ⟨failed, incomplete⟩ := gripReported_enters w.cabin (gripClosed doubled w p)
  obtain ⟨hwindow, hlast, hcloses⟩ := countGrip_cases (gripResult w doubled) { p.grip with window := none, last := closedWindow w doubled p.clock.now }
  have record : isCabin w.cabin = true → cabin (gripClosed doubled w p) w.cabin = { cabin p w.cabin with
      grip := gripResult w doubled, gripMin := (w.forces.getD (0, 0)).1, gripMax := (w.forces.getD (0, 0)).2 } :=
    fun hk => cabin_modCabin_same w.cabin _ _ hk
  rw [closeGrip_open h]
  refine ⟨keeps.trans keeps', fault.trans fault', sensors'.trans sensors, ?_, ?_, ?_, keeps'.remembers.bits 12 bit, fun hr => ?_,
    fun hr => ?_, fun hk => ?_⟩
  · rw [grip', grip, hwindow]
  · rw [grip', grip, hlast]
  · rw [grip', grip]
    exact hcloses
  · rw [hr]; exact failed
  · rw [hr]; exact incomplete
  · rw [cabin_of_cabins_eq cabins, record hk]
    exact ⟨rfl, rfl, rfl⟩

/-- The window with one sample more (R57). -/
def sampledWindow (x : Sensors) (w : GripWindow) : GripWindow := countGripSample (x.mark == .fresh) (converterFaultPresent x) (x.codes.get 8).toNat w

theorem countGripSample_cases (fresh fault : Bool) (code : Nat) (w : GripWindow) :
    (countGripSample fresh fault code w).cabin = w.cabin ∧ (countGripSample fresh fault code w).target = w.target ∧
      (countGripSample fresh fault code w).samples = w.samples + 1 ∧ (countGripSample fresh fault code w).codes ≤ w.codes + 1 ∧
      (w.faultSeen = true → (countGripSample fresh fault code w).faultSeen = true) := by
  unfold countGripSample
  cases fresh
  · exact ⟨rfl, rfl, rfl, Nat.le_succ _, fun h => by simp [h]⟩
  · exact ⟨rfl, rfl, rfl, Nat.le_refl _, fun h => by simp [h]⟩

theorem gripSample_keeps (p : Part) : ScanKeeps p (gripSample p) ∧ FaultStands p (gripSample p) ∧ (gripSample p).sensors = p.sensors := by
  unfold gripSample
  split
  · exact ⟨.refl p, Iff.rfl, rfl⟩
  next w _ =>
    split
    · have taken : ScanKeeps p { p with grip := { p.grip with window := some (sampledWindow p.sensors w) } } := scanKeeps_of_eq rfl (.of_eq rfl)
      dsimp only
      split
      · obtain ⟨keeps, fault, sensors, -⟩ := closeGrip_closes (doubled := false) (w := sampledWindow p.sensors w)
          (p := { p with grip := { p.grip with window := some (sampledWindow p.sensors w) } }) rfl
        exact ⟨taken.trans keeps, fault, sensors⟩
      · exact ⟨taken, Iff.rfl, rfl⟩
    · exact ⟨.refl p, Iff.rfl, rfl⟩

/-- The sample that reaches the grip samples closes the window. -/
theorem gripSample_closes {w : GripWindow} {p : Part} (h : p.grip.window = some w) (hearlier : earlier w.opened p.clock.now = true)
    (htarget : w.target ≤ w.samples + 1) : gripSample p =
      closeGrip false { p with grip := { p.grip with window := some (sampledWindow p.sensors w) } } := by
  obtain ⟨-, target, samples, -⟩ := countGripSample_cases (p.sensors.mark == .fresh) (converterFaultPresent p.sensors) (p.sensors.codes.get 8).toNat w
  simp only [gripSample, h, hearlier, if_true, target, samples, htarget]
  rfl

end Sys2Proof.Machine

/-! CONVERTER_SCAN, CONVERTER_FAULT and GRIP_SAMPLES_REACHED: the whole scan (R51 to R59). -/

namespace Sys2Proof.Machine

/-! ### The stages of a scan -/

/-- The codes are taken. -/
def scanTaken (a : ScanAnswers) (p : Part) : Part :=
  { p with sensors := scanSensors a p.sensors, clock := { p.clock with scanTaken := true } }

/-- CONVERTER_FAULT as it was and as the scan leaves it (R52). -/
def faultJudged (was is : Bool) (p : Part) : Part :=
  if is && !was then report .converterFault 0 .service true (attend .sensor p)
  else if was && !is then gone .converterFault 0 (attend .sensor p)
  else p

/-- The part at the grip test of a scan. -/
def scanChecked (a : ScanAnswers) (p : Part) : Part :=
  let q := faultJudged (converterFaultPresent p.sensors) (converterFaultPresent (scanSensors a p.sensors)) (scanTaken a p)
  if scanGood a then freshChecks q else q

theorem scanTick_eq (a : ScanAnswers) (p : Part) : scanTick a p = gripSample (scanChecked a p) := rfl

theorem faultJudged_keeps (was is : Bool) (p : Part) : ScanKeeps p (faultJudged was is p) ∧
    (faultJudged was is p).sensors = p.sensors ∧ (faultJudged was is p).cabins = p.cabins ∧ (faultJudged was is p).grip = p.grip := by
  unfold faultJudged
  split
  · exact ⟨(attend_scan .sensor p).trans (report_scan ..), by simp, by simp, by simp⟩
  · split
    · exact ⟨(attend_scan .sensor p).trans (gone_scan (by decide) ..), by simp, by simp, by simp⟩
    · exact ⟨.refl p, rfl, rfl, rfl⟩

theorem faultJudged_begins (p : Part) : CauseEntered .converterFault 0 (faultJudged false true p).sup ∧
    ConditionPresent .converterFault 0 (faultJudged false true p).sup ∧
    (faultJudged false true p).window.attention.getLsbD 6 = true ∧ (faultJudged false true p).sup.mode.isRunning = false := by
  have bit : (attend .sensor p).window.attention.getLsbD 6 = true := by simp [attend, Attn.bit]
  exact ⟨report_entered .converterFault 0 .service true (attend .sensor p), report_present .converterFault 0 .service (attend .sensor p),
    report_bitsStay .converterFault 0 .service true (attend .sensor p) 6 bit,
    report_not_running .converterFault 0 .service true (attend .sensor p)⟩

theorem faultJudged_ends (p : Part) : ¬ ConditionPresent .converterFault 0 (faultJudged true false p).sup :=
  not_present_gone .converterFault 0 (attend .sensor p)

theorem faultJudged_profile (was : Bool) (p : Part) : (faultJudged was false p).sup.pendingSwitch = p.sup.pendingSwitch ∧
    activeProfile (faultJudged was false p).sup = activeProfile p.sup := by
  cases was
  · exact ⟨rfl, rfl⟩
  · exact gone_profile .converterFault 0 (attend .sensor p)

theorem scanTaken_keeps {p q : Part} {a : ScanAnswers} (h : ScanKeeps (scanTaken a p) q) : StaysOrStops p q ∧ Remembers p q ∧
    q.clock = { p.clock with scanTaken := true } ∧ q.work.arbiter = p.work.arbiter ∧ q.work.sequencer = p.work.sequencer ∧
    ∀ b ∉ [Block.window, .clock, .cabins, .rope, .sensors, .grip, .launch, .doors, .sup, .calls], Part.same b p q := by
  refine ⟨h.stays, ?_, h.clock, h.arbiterCall, h.sequencerCall, fun b hb => ?_⟩
  · have taken : Remembers p (scanTaken a p) := .of_eq rfl rfl (.of_eq rfl)
    exact taken.trans h.remembers
  · cases b with
    | track => exact h.track
    | sequencer => exact h.sequencer
    | line => exact h.line
    | messages => exact h.messages
    | _ => simp at hb

theorem scanChecked_keeps (a : ScanAnswers) (p : Part) : ScanKeeps (scanTaken a p) (scanChecked a p) ∧
    (scanChecked a p).cabins = p.cabins ∧ (scanChecked a p).grip = p.grip := by
  obtain ⟨keeps, -, cabins, grip⟩ := faultJudged_keeps (converterFaultPresent p.sensors)
    (converterFaultPresent (scanSensors a p.sensors)) (scanTaken a p)
  unfold scanChecked
  dsimp only
  generalize faultJudged _ _ (scanTaken a p) = q at keeps cabins grip ⊢
  split
  · obtain ⟨tension, -, -, tcabins, tgrip, -⟩ := tensionCheck_cases q
    obtain ⟨wind, -, wcabins, wgrip, -⟩ := windCheck_cases (tensionCheck q)
    exact ⟨(keeps.trans tension).trans wind, (wcabins.trans tcabins).trans cabins, (wgrip.trans tgrip).trans grip⟩
  · exact ⟨keeps, cabins, grip⟩

/-- A failed scan (R51, R52). -/
theorem scanChecked_failed {a : ScanAnswers} (h : scanGood a = false) (p : Part) :
    scanChecked a p = faultJudged (converterFaultPresent p.sensors) (converterFaultPresent (scanSensors a p.sensors)) (scanTaken a p) := by
  simp [scanChecked, h]

/-- A good scan: the codes are fresh, no fault is present, and tension and wind are checked (R51, R54, R55). -/
theorem scanChecked_good {a : ScanAnswers} (h : scanGood a = true) (p : Part) :
    (∃ prof, (p.sup.pendingSwitch = none → prof = activeProfile p.sup) ∧
      (scanChecked a p).sensors = { scanSensors a p.sensors with
        tension := tensionAfter (activeProfile p.sup) ((scanSensors a p.sensors).codes.get 9).toNat p.sensors.tension
        windHigh := windAfter prof ((scanSensors a p.sensors).codes.get 10).toNat p.sensors.windHigh
        lastWind := (scanSensors a p.sensors).codes.get 10 }) ∧
      (p.sensors.failRun = 3 → ¬ ConditionPresent .converterFault 0 (scanChecked a p).sup) := by
  have clear : converterFaultPresent (scanSensors a p.sensors) = false := by simp [scanSensors, h, converterFaultPresent]
  have kept : (scanSensors a p.sensors).tension = p.sensors.tension ∧ (scanSensors a p.sensors).windHigh = p.sensors.windHigh := by
    simp [scanSensors, h]
  obtain ⟨-, sensors, -, -⟩ := faultJudged_keeps (converterFaultPresent p.sensors) false (scanTaken a p)
  obtain ⟨pending, profile⟩ := faultJudged_profile (converterFaultPresent p.sensors) (scanTaken a p)
  have ended : p.sensors.failRun = 3 →
      ¬ ConditionPresent .converterFault 0 (faultJudged (converterFaultPresent p.sensors) false (scanTaken a p)).sup := by
    intro hrun
    have was : converterFaultPresent p.sensors = true := by simp [converterFaultPresent, hrun]
    rw [was]
    exact faultJudged_ends _
  have eq : scanChecked a p = freshChecks (faultJudged (converterFaultPresent p.sensors) false (scanTaken a p)) := by
    simp [scanChecked, h, clear]
  have sup : (scanTaken a p).sup = p.sup := rfl
  have taken : (scanTaken a p).sensors = scanSensors a p.sensors := rfl
  rw [sup] at pending profile
  rw [taken] at sensors
  rw [eq]
  generalize faultJudged (converterFaultPresent p.sensors) false (scanTaken a p) = q at sensors pending profile ended ⊢
  obtain ⟨-, tfault, tprofile, -, -, tsensors⟩ := tensionCheck_cases q
  obtain ⟨-, wfault, -, -, wsensors⟩ := windCheck_cases (tensionCheck q)
  refine ⟨⟨activeProfile (tensionCheck q).sup, fun hnone => ?_, ?_⟩, fun hrun => ?_⟩
  · exact (tprofile (pending.trans hnone)).2.trans profile
  · rw [freshChecks, wsensors, tsensors, profile, sensors]
    simp only [kept]
  · exact fun hpresent => ended hrun (tfault.mp (wfault.mp hpresent))

/-! ### The tables of R54 and R55 -/

theorem tensionAfter_table {f : Profile} (c : Nat) (t : Tension) (h : f.tensionLow ≤ f.tensionHigh) :
    (c < f.tensionLow → tensionAfter f c t = .below) ∧ (f.tensionHigh < c → tensionAfter f c t = .above) ∧
    (f.tensionLow + f.tensionHysteresis ≤ c → c + f.tensionHysteresis ≤ f.tensionHigh → tensionAfter f c t = .gone) ∧
    (f.tensionLow ≤ c → c ≤ f.tensionHigh → (c < f.tensionLow + f.tensionHysteresis ∨ f.tensionHigh < c + f.tensionHysteresis) →
      tensionAfter f c t = t) := by
  unfold tensionAfter
  cases t <;> dsimp only <;>
    (refine ⟨fun _ => ?_, fun _ => ?_, fun _ _ => ?_, fun _ _ _ => ?_⟩ <;> (repeat' split) <;> simp_all <;> omega)

theorem windAfter_table (f : Profile) (c : Nat) (high : Bool) :
    (f.windThreshold ≤ c → windAfter f c high = true) ∧ (c + f.windHysteresis < f.windThreshold → windAfter f c high = false) ∧
    (c < f.windThreshold → f.windThreshold ≤ c + f.windHysteresis → windAfter f c high = high) := by
  unfold windAfter
  cases high <;> refine ⟨fun _ => ?_, fun _ => ?_, fun _ _ => ?_⟩ <;> simp <;> omega

/-! ### The commands -/

theorem scanGood_iff (a : ScanAnswers) : scanGood a = true ↔ ∀ k : Fin 11, (a.get k).isSome = true := by
  rw [scanGood, List.all_eq_true]
  refine ⟨fun h k => h _ (Vector.mem_toList_iff.mpr (Vector.getElem_mem k.isLt)), fun h c hc => ?_⟩
  obtain ⟨i, hi, rfl⟩ := Vector.mem_iff_getElem.mp (Vector.mem_toList_iff.mp hc)
  exact h ⟨i, hi⟩

theorem scanSensors_good {a : ScanAnswers} (h : scanGood a = true) (x : Sensors) :
    scanSensors a x = { x with codes := mapTable (fun c => c.getD 0) a, mark := .fresh, everGood := true, failRun := 0 } := by
  simp [scanSensors, h]

theorem scanSensors_failed {a : ScanAnswers} (h : scanGood a = false) (x : Sensors) :
    scanSensors a x = { x with
      mark := if x.mark == .notRead then .notRead else .held, failRun := countTo 3 x.failRun, failTally := count16 x.failTally } := by
  simp [scanSensors, h]

theorem scanTick_sensors (a : ScanAnswers) (p : Part) : (scanTick a p).sensors = (scanChecked a p).sensors :=
  (gripSample_keeps (scanChecked a p)).2.2

theorem scanTick_keeps (a : ScanAnswers) (p : Part) : ScanKeeps (scanTaken a p) (scanTick a p) :=
  (scanChecked_keeps a p).1.trans (gripSample_keeps (scanChecked a p)).1

/-- The judgements after a scan touch Launch Control and the start queue alone. -/
theorem scanTick_settles {a : ScanAnswers} {p : Part} (h : p.work = {}) : LaunchAlone (scanTick a p) (settle 64 (scanTick a p)) := by
  obtain ⟨stays, -, -, harb, hseq, -⟩ := scanTaken_keeps (scanTick_keeps a p)
  exact settle_stops h stays harb hseq

theorem scan_frame {a : ScanAnswers} {s : State} (hready : Ready s) :
    Frame [.window, .clock, .cabins, .rope, .sensors, .grip, .launch, .doors, .sup, .calls] s { s with part := finish (scanTick a s.part) } := by
  obtain ⟨-, -, -, -, -, same⟩ := scanTaken_keeps (scanTick_keeps a s.part)
  exact (scanTick_settles hready.2.1).frame hready (fun b _ => same b) (by decide) (by decide)

/-- The blocks that an obligation reads, as the scan's own work leaves them. -/
theorem scan_finish {a : ScanAnswers} {p : Part} (h : p.work = {}) :
    (finish (scanTick a p)).clock = (scanTick a p).clock ∧ (finish (scanTick a p)).sensors = (scanTick a p).sensors ∧
      (finish (scanTick a p)).grip = (scanTick a p).grip ∧ (finish (scanTick a p)).cabins = (scanTick a p).cabins ∧
      (finish (scanTick a p)).window.attention = (scanTick a p).window.attention ∧
      CausesKept (scanTick a p).sup (finish (scanTick a p)).sup ∧ (finish (scanTick a p)).sup.mode = (scanTick a p).sup.mode := by
  obtain ⟨alone, -⟩ := scanTick_settles (a := a) h
  generalize scanTick a p = q at alone ⊢
  rw [finish_clock, finish_sensors, finish_grip, finish_cabins, finish_window, finish_sup, alone]
  exact ⟨rfl, rfl, rfl, rfl, rfl, ⟨rfl, rfl, rfl, rfl, rfl, rfl, rfl, rfl⟩, rfl⟩

end Sys2Proof.Machine

/-! The converter scan and the grip test (R51 to R59): the obligation. -/

namespace Sys2Proof.Machine

section
variable {a : ScanAnswers} {s : State} (hready : Ready s)
include hready

theorem goodScan_shows (hgood : scanGood a = true) {t : State} (part : t.part = finish (scanTick a s.part)) :
    (∀ k : Fin 11, a.get k = some (t.part.sensors.codes.get k)) ∧ t.part.sensors.mark = .fresh ∧ t.part.sensors.failRun = 0 ∧
      t.part.sensors.everGood = true ∧ t.part.sensors.failTally = s.part.sensors.failTally ∧
      t.part.sensors.switches = s.part.sensors.switches ∧
      t.part.sensors.tension =
        tensionAfter (activeProfile s.part.sup) (t.part.sensors.codes.get 9).toNat s.part.sensors.tension ∧
      (s.part.sup.pendingSwitch = none → t.part.sensors.windHigh =
        windAfter (activeProfile s.part.sup) (t.part.sensors.codes.get 10).toNat s.part.sensors.windHigh) ∧
      (s.part.sensors.failRun = 3 → ¬ ConditionPresent .converterFault 0 t.part.sup) := by
  obtain ⟨⟨prof, profile, checked⟩, ended⟩ := scanChecked_good hgood s.part
  obtain ⟨-, fault, -⟩ := gripSample_keeps (scanChecked a s.part)
  obtain ⟨-, fsensors, -, -, -, causes, -⟩ := scan_finish (a := a) hready.2.1
  rw [scanTick_sensors, checked, scanSensors_good hgood] at fsensors
  rw [part, fsensors]
  refine ⟨fun k => ?_, rfl, rfl, rfl, rfl, rfl, rfl, fun hnone => ?_, fun hrun hpresent => ended hrun (fault.mp ?_)⟩
  · obtain ⟨c, hc⟩ := Option.isSome_iff_exists.mp ((scanGood_iff a).mp hgood k)
    rw [hc]
    show _ = some ((mapTable (fun c => c.getD 0) a).get k)
    rw [mapTable_get, hc]
    rfl
  · rw [← profile hnone]
  · rw [ConditionPresent, causes.2.1, scanTick_eq] at hpresent
    exact hpresent

theorem failedScan_shows (hfailed : scanGood a = false) {t : State} (part : t.part = finish (scanTick a s.part)) :
    t.part.sensors = scanSensors a s.part.sensors := by
  obtain ⟨-, sensors, -, -⟩ := faultJudged_keeps (converterFaultPresent s.part.sensors)
    (converterFaultPresent (scanSensors a s.part.sensors)) (scanTaken a s.part)
  obtain ⟨-, fsensors, -⟩ := scan_finish (a := a) hready.2.1
  rw [part, fsensors, scanTick_sensors, scanChecked_failed hfailed, sensors]
  rfl

/-- The third failed scan in a row (R52). -/
theorem converterFault_reports (h : converterFails a s.part = true) : After (.converterFault a) s (fun t =>
    exec (.converterScan a) s = .next t ∧ t.part.sensors.failRun = 3 ∧ CauseEntered .converterFault 0 t.part.sup ∧
    ConditionPresent .converterFault 0 t.part.sup ∧ t.part.window.attention.getLsbD 6 = true ∧ t.part.sup.mode.isRunning = false) := by
  have parts := h
  simp only [converterFails, Bool.and_eq_true, Bool.not_eq_true', beq_iff_eq] at parts
  obtain ⟨⟨hdue, hfailed⟩, hrun⟩ := parts
  have sensors := failedScan_shows hready hfailed (t := { s with part := finish (scanTick a s.part) }) rfl
  have run : (scanSensors a s.part.sensors).failRun = 3 := by rw [scanSensors_failed hfailed]; simp [hrun, countTo]
  have begins := faultJudged_begins (scanTaken a s.part)
  have checked : scanChecked a s.part = faultJudged false true (scanTaken a s.part) := by
    rw [scanChecked_failed hfailed]
    simp [converterFaultPresent, run, hrun]
  rw [← checked] at begins
  obtain ⟨entered, present, bit, running⟩ := begins
  obtain ⟨keeps, fault, -⟩ := gripSample_keeps (scanChecked a s.part)
  have remembers := keeps.remembers
  obtain ⟨-, -, -, -, attention, causes, mode⟩ := scan_finish (a := a) hready.2.1
  have kept := fault.mpr present
  rw [← scanTick_eq] at remembers kept
  refine ⟨_, occurs_acts hready.1 h, occurs_acts hready.1 hdue, by rw [sensors, run], ?_⟩
  dsimp only
  rw [attention, mode]
  exact ⟨causes.entered (remembers.entered entered), causes.present kept, remembers.bits 6 bit, remembers.stopped running⟩

/-- The sample that closes the window (R57, R59). -/
theorem gripReached_closes (h : gripReached s.part = true) : After (.gripSamplesReached a) s (fun t =>
    exec (.converterScan a) s = .next t ∧ t.part.grip.window = none ∧ t.part.window.attention.getLsbD 12 = true ∧
    t.part.grip.last.closed = s.part.clock.now ∧ t.part.grip.closes ≤ s.part.grip.closes + 1 ∧
    (∀ w ∈ s.part.grip.window, t.part.grip.last.cabin = w.cabin ∧
      (w.codes + 1 < 4 → t.part.grip.last.result = .incomplete) ∧ (w.faultSeen = true → t.part.grip.last.result = .incomplete) ∧
      (t.part.grip.last.result = .fail → CauseEntered .gripFail w.cabin t.part.sup ∧ FastEntered t.part.sup) ∧
      (t.part.grip.last.result = .incomplete → CauseEntered .gripIncomplete w.cabin t.part.sup) ∧
      (isCabin w.cabin = true → (cabin t.part w.cabin).grip = t.part.grip.last.result ∧
        (cabin t.part w.cabin).gripMin = t.part.grip.last.forceMin ∧ (cabin t.part w.cabin).gripMax = t.part.grip.last.forceMax))) := by
  have parts := h
  rw [gripReached, Bool.and_eq_true] at parts
  obtain ⟨hdue, hwindow⟩ := parts
  obtain ⟨keeps, cabins, grip⟩ := scanChecked_keeps a s.part
  cases hw : s.part.grip.window with
  | none => rw [hw] at hwindow; cases hwindow
  | some w =>
    simp only [hw, Bool.and_eq_true, decide_eq_true_eq] at hwindow
    obtain ⟨hearlier, htarget⟩ := hwindow
    have clock : (scanChecked a s.part).clock.now = s.part.clock.now := by rw [keeps.clock]; rfl
    set v := sampledWindow (scanChecked a s.part).sensors w with hv
    obtain ⟨vcabin, -, -, vcodes, vfault⟩ : v.cabin = w.cabin ∧ v.target = w.target ∧ v.samples = w.samples + 1 ∧
      v.codes ≤ w.codes + 1 ∧ (w.faultSeen = true → v.faultSeen = true) := countGripSample_cases ..
    have closes := gripSample_closes (p := scanChecked a s.part) (by rw [grip, hw]) (by rw [clock]; exact hearlier) htarget
    obtain ⟨-, -, -, window, last, count, bit, failed, incomplete, record⟩ := closeGrip_closes (doubled := false) (w := v)
      (p := { scanChecked a s.part with grip := { (scanChecked a s.part).grip with window := some v } }) rfl
    rw [← hv] at closes
    rw [← closes, ← scanTick_eq] at window last count bit failed incomplete record
    obtain ⟨-, -, fgrip, fcabins, attention, causes, -⟩ := scan_finish (a := a) hready.2.1
    have stood : (scanChecked a s.part).grip.closes = s.part.grip.closes := by rw [grip]
    refine ⟨_, occurs_acts hready.1 h, occurs_acts hready.1 hdue, ?_⟩
    dsimp only
    rw [fgrip, attention, window, last]
    refine ⟨rfl, bit, clock, stood ▸ count, ?_⟩
    rintro x ⟨⟩
    rw [vcabin] at failed incomplete record
    refine ⟨vcabin, fun hcodes => ?_, fun hfault => ?_, fun hfail => ?_, fun hinc => causes.entered (incomplete hinc), fun hk => ?_⟩
    · simp [closedWindow, gripResult, show v.codes < 4 by omega]
    · simp [closedWindow, gripResult, vfault hfault]
    · obtain ⟨entered, fast⟩ := failed hfail
      exact ⟨causes.entered entered, causes.fast fast⟩
    · rw [cabin_of_cabins_eq fcabins]
      exact record hk

end

/-- Settles O53. -/
theorem converterScanAndGrip : Obligations.ConverterScanAndGrip := by
  refine ⟨fun a s hready hdue => ?_, fun a s hready => ⟨converterFault_reports hready, gripReached_closes hready⟩,
    fun w doubled lo hi hforces => ⟨fun h => ?_, fun hcodes hfault hdoubled => ?_⟩⟩
  · obtain ⟨clock, -⟩ := scan_finish (a := a) hready.2.1
    rw [(scanTick_keeps a s.part).clock] at clock
    set t : State := { s with part := finish (scanTick a s.part) } with ht
    refine ⟨t, occurs_acts hready.1 hdue, scan_frame hready, clock, ?_, fun hall => ?_, fun hfail => ?_⟩
    · cases hgood : scanGood a with
      | true =>
        obtain ⟨-, -, -, -, -, switches, -⟩ := goodScan_shows hready hgood (t := t) rfl
        exact switches
      | false =>
        rw [failedScan_shows hready hgood (t := t) rfl, scanSensors_failed hgood]
    · obtain ⟨codes, mark, run, good, tally, -, tension, wind, ended⟩ := goodScan_shows hready ((scanGood_iff a).mpr hall) (t := t) rfl
      refine ⟨codes, mark, run, good, tally, fun hband => ?_, fun hnone => ?_, ended⟩
      · rw [tension]
        exact tensionAfter_table _ _ hband
      · rw [wind hnone]
        exact windAfter_table _ _ _
    · have hgood : scanGood a = false := by
        obtain ⟨k, hk⟩ := hfail
        by_contra h
        rw [Bool.not_eq_false, scanGood_iff] at h
        rw [h k] at hk
        cases hk
      rw [failedScan_shows hready hgood (t := t) rfl, scanSensors_failed hgood]
      refine ⟨rfl, ?_, rfl, rfl, rfl, rfl, rfl⟩
      dsimp only
      split <;> simp
  · simp only [gripResult]
    rw [if_pos (by simpa [or_assoc] using h)]
  · simp [gripResult, hforces, hfault, hdoubled, show ¬ w.codes < 4 by omega]

end Sys2Proof.Machine

/-! ACTION_DUE: the judgement of the due actions (R106 to R108, R111). -/

namespace Sys2Proof.Machine

/-! ### What a judgement leaves in the list -/

/-- The actions that have reached their due time are DUE_WAITING, and what is DUE_WAITING is a cabin action (R106, R108). -/
def DuesTaken (now : Time) (l : List Action) : Prop :=
  ∀ a ∈ l, (reached now a.due = true → a.dueWaiting = true) ∧ (a.dueWaiting = true → a.isCabin = true)

/-- Every action kept was not taken up, or is a cabin action made DUE_WAITING. -/
theorem judgeActions_keeps (b : Bool) (served : List ChannelNo) (l : List Action) (p : Part) :
    ∀ x ∈ (judgeActions b served l p).1, ∃ a ∈ l, (x = a ∧ takenUp b p.clock.now a = false) ∨
      (x = { a with dueWaiting := true } ∧ a.isCabin = true) := by
  induction l generalizing served p with
  | nil => intro x hx; cases hx
  | cons a t ih =>
    have later {q : Part} {served : List ChannelNo} (hq : q.clock = p.clock) : ∀ x ∈ (judgeActions b served t q).1, ∃ c ∈ a :: t,
        (x = c ∧ takenUp b p.clock.now c = false) ∨ (x = { c with dueWaiting := true } ∧ c.isCabin = true) := by
      intro x hx
      obtain ⟨c, hc, h⟩ := ih served q x hx
      rw [hq] at h
      exact ⟨c, List.mem_cons_of_mem _ hc, h⟩
    have issued : (issueAction a p).clock = p.clock := by simp
    unfold judgeActions
    split
    next h =>
      intro x hx
      obtain rfl | hx := List.mem_cons.mp hx
      · exact ⟨x, List.mem_cons_self, .inl ⟨rfl, by simpa using h⟩⟩
      · exact later rfl x hx
    · split
      · exact later rfl
      · split
        · exact later issued
        next hgate =>
          split
          · exact later issued
          · intro x hx
            obtain rfl | hx := List.mem_cons.mp hx
            · exact ⟨a, List.mem_cons_self, .inr ⟨rfl, by simpa using hgate⟩⟩
            · exact later rfl x hx

theorem judgeSequencer_actions (b : Bool) (p : Part) :
    (judgeSequencer b p).sequencer.actions = (judgeActions b [] p.sequencer.actions p).1 := rfl

theorem duesTaken_first (p : Part) : DuesTaken p.clock.now (judgeSequencer true p).sequencer.actions := by
  intro x hx
  rw [judgeSequencer_actions] at hx
  obtain ⟨a, -, ⟨rfl, h⟩ | ⟨rfl, h⟩⟩ := judgeActions_keeps true [] p.sequencer.actions p x hx
  · simp only [takenUp, Bool.true_and, Bool.or_eq_false_iff] at h
    obtain ⟨hwaiting, hdue⟩ := h
    exact ⟨fun e => absurd (hdue.symm.trans e) Bool.false_ne_true, fun e => absurd (hwaiting.symm.trans e) Bool.false_ne_true⟩
  · exact ⟨fun _ => rfl, fun _ => h⟩

theorem duesTaken_later {now : Time} {p : Part} (h : DuesTaken now p.sequencer.actions) :
    DuesTaken now (judgeSequencer false p).sequencer.actions := by
  intro x hx
  rw [judgeSequencer_actions] at hx
  obtain ⟨a, ha, ⟨rfl, -⟩ | ⟨rfl, hcabin⟩⟩ := judgeActions_keeps false [] p.sequencer.actions p x hx
  · exact h x ha
  · exact ⟨fun _ => rfl, fun _ => hcabin⟩

theorem handGrant_actions (r : Requester) (p : Part) : (handGrant r p).sequencer.actions = p.sequencer.actions := by
  cases r with
  | retainer => simp [handGrant]
  | door n => simp [handGrant]

theorem judgeArbiter_actions (p : Part) : (judgeArbiter p).sequencer.actions = p.sequencer.actions := by
  unfold judgeArbiter
  split
  · rfl
  · split
    · exact handGrant_actions _ _
    · rfl

theorem duesTaken_settleOnce {now : Time} {p : Part} (h : DuesTaken now p.sequencer.actions) :
    DuesTaken now (settleOnce p).sequencer.actions := by
  unfold settleOnce
  split
  · simpa using h
  · split
    · rw [judgeArbiter_actions]; exact h
    · split
      · exact duesTaken_later (p := { p with work := { p.work with sequencer := false } }) h
      · exact h

theorem duesTaken_settle {now : Time} {p : Part} (h : DuesTaken now p.sequencer.actions) :
    DuesTaken now (settle 64 p).sequencer.actions :=
  settle_keeps (P := fun q => DuesTaken now q.sequencer.actions) (fun _ hq => duesTaken_settleOnce hq)
    (fun q hq => by simpa using hq) 64 h

theorem actionDue_takes {s : State} (hready : Ready s) (hdue : anyActionDue s.part = true) : After .actionDue s (fun t =>
    (∀ a ∈ t.part.sequencer.actions, reached s.part.clock.now a.due = true → a.dueWaiting = true) ∧
    (∀ a ∈ t.part.sequencer.actions, a.dueWaiting = true → a.isCabin = false → a ∈ s.part.sequencer.actions) ∧
    t.part.track = s.part.track ∧ t.part.line = s.part.line ∧ t.part.messages = s.part.messages ∧ t.part.clock = s.part.clock ∧
    t.part.sensors = s.part.sensors ∧ OnlyDoorsChange s t) := by
  have taken := duesTaken_settle (duesTaken_first s.part)
  have still : (finish (judgeSequencer true s.part)).still = s.part.still := by rw [still_finish, still_judgeSequencer]
  obtain ⟨hclock, htrack, hsensors, -, hline, hmessages, -⟩ := still_fields still
  refine ⟨_, occurs_acts hready.1 hdue, fun a ha => ?_, fun a ha hwaiting hgate => ?_, htrack, hline, hmessages, hclock, hsensors,
    fun j => still_cabins still j⟩
  · rw [finish_sequencer] at ha
    exact (taken a ha).1
  · rw [finish_sequencer] at ha
    rw [(taken a ha).2 hwaiting] at hgate
    cases hgate

/-! ### One action alone -/

section
variable {s : State} (hready : Ready s) (hdue : anyActionDue s.part = true) {a : Action} (halone : s.part.sequencer.actions = [a])
  (hwaits : a.dueWaiting = false)
include hdue halone hwaits

theorem action_takenUp : takenUp true s.part.clock.now a = true := by
  rw [anyActionDue, halone] at hdue
  simpa [takenUp, hwaits] using hdue

theorem judge_drops (h : conditionHolds s.part a = false) :
    judgeSequencer true s.part = modSeq (fun q => { q with actions := [], conditionDrops := count16 q.conditionDrops }) s.part := by
  simp [judgeSequencer, halone, judgeActions, action_takenUp hdue halone hwaits, h, dropCondition, modSeq]

theorem judge_holds (h : conditionHolds s.part a = true) (hcabin : a.isCabin = true) (hmeets : issuable s.part a = false) :
    judgeSequencer true s.part = modSeq (fun q => { q with actions := [{ a with dueWaiting := true }] }) s.part := by
  simp [judgeSequencer, halone, judgeActions, action_takenUp hdue halone hwaits, h, hcabin, hmeets, modSeq]

theorem judge_issues (h : conditionHolds s.part a = true) (hmeets : a.isCabin = true → issuable s.part a = true) :
    judgeSequencer true s.part = modSeq (fun q => { q with actions := [] }) (issueAction a s.part) := by
  cases hcabin : a.isCabin with
  | false => simp [judgeSequencer, halone, judgeActions, action_takenUp hdue halone hwaits, h, hcabin]
  | true => simp [judgeSequencer, halone, judgeActions, action_takenUp hdue halone hwaits, h, hcabin, hmeets hcabin]

end

theorem issuable_iff (p : Part) (a : Action) : issuable p a = true ↔ (channel p a.channel).state = .atA ∧
    ∃ e, entryOf p a.ref = some e ∧ e.segment = (channel p a.channel).config.reach := by
  rw [issuable, Bool.and_eq_true, beq_iff_eq]
  refine and_congr_right fun _ => ?_
  cases he : entryOf p a.ref with
  | none => simp
  | some e => simp [reachOf]

end Sys2Proof.Machine

/-! ACTION_DUE: one action dropped, kept, issued or handed back (R106 to R108, R111). -/

namespace Sys2Proof.Machine

/-! ### The issue of an action (R107) -/

/-- The part in which an action's record in flight is made. -/
def actionFlown (a : Action) (p : Part) : Part :=
  modSeq (fun q => { q with flights := modTable q.flights a.channel (fun _ => some (flightOf a p.clock.now)) }) p

/-- The part in which an action has claimed its channel. -/
def actionClaimed (a : Action) (p : Part) : Part :=
  modChannel a.channel (fun c => { c with owner := .action, retriesUsed := 0, target := some a.target }) (actionFlown a p)

section
variable {a : Action} {p : Part}

theorem channel_actionClaimed : channel (actionClaimed a p) a.channel =
    { channel p a.channel with owner := .action, retriesUsed := 0, target := some a.target } :=
  channel_modChannel_same a.channel _ (actionFlown a p)

theorem takeOperation_action (h : (channel p a.channel).owner = .none) :
    takeOperation a.channel a.target (claimForAction a) p = operateTakeover a.channel a.target (actionClaimed a p) := by
  have claimed : modChannel a.channel (fun c => { c with retriesUsed := 0, target := some a.target })
      (claimForAction a (tellOwner a.channel .interrupted p)) = actionClaimed a p := by
    rw [tellOwner_none h]
    show modChannel a.channel _ (modChannel a.channel _ (modSeq _ (modChannel a.channel _ p))) = _
    have swap (f : Sequencer → Sequencer) (g : Channel → Channel) : modSeq f (modChannel a.channel g p) = modChannel a.channel g (modSeq f p) := rfl
    rw [swap, modChannel_modChannel, modChannel_modChannel]
    rfl
  rw [takeOperation, claimed]

/-- A resting channel away from the target, without a lock to release, waits for a start. -/
theorem issueAction_waits (hclosed : (channel p a.channel).closed = false) (howner : (channel p a.channel).owner = .none)
    (hrest : (channel p a.channel).state.atRest = true) (haway : (channel p a.channel).state ≠ a.target.atState)
    (hlock : (channel p a.channel).config.locking = false) :
    issueAction a p = enterWaiting a.channel .move (actionClaimed a p) := by
  have state : (channel (actionClaimed a p) a.channel).state = (channel p a.channel).state := by rw [channel_actionClaimed]
  have config : (channel (actionClaimed a p) a.channel).config = (channel p a.channel).config := by rw [channel_actionClaimed]
  rw [issueAction, hclosed, if_neg (by decide), takeOperation_action howner, operateTakeover_rests (by rw [state]; exact hrest), operateFromRest]
  simp only [state, config, beq_iff_eq, haway, if_false, hlock, Bool.and_false, Bool.false_eq_true]

/-- A closed channel hands the action back (R107). -/
theorem issueAction_handsBack (h : (channel p a.channel).closed = true) :
    issueAction a p = handOutcome a.channel .notTaken (actionFlown a p) := by
  rw [issueAction, h, if_pos rfl]
  rfl

end

/-- The part in which the only action of the list has been handed back. -/
def actionBack (a : Action) (p : Part) : Part :=
  { p with sequencer := { p.sequencer with
      actions := [], flights := modTable p.sequencer.flights a.channel (fun _ => none), notTaken := count16 p.sequencer.notTaken } }

theorem handOutcome_back (a : Action) (p : Part) :
    modSeq (fun q => { q with actions := [] }) (handOutcome a.channel .notTaken (actionFlown a p)) =
      if a.isCabin && isCabin a.cabin then attend .door (setDoor a.cabin .unknown (actionBack a p)) else actionBack a p := by
  have flight : (actionFlown a p).sequencer.flights.get a.channel = some (flightOf a p.clock.now) := modTable_get_same ..
  have ended : ({ actionFlown a p with sequencer := { countOutcome .notTaken { (actionFlown a p).sequencer with
      flights := modTable (actionFlown a p).sequencer.flights a.channel (fun _ => none) } with actions := [] } } : Part) = actionBack a p := by
    rw [actionFlown, modSeq]
    dsimp only
    rw [modTable_modTable]
    rfl
  have written (q : Part) : modSeq (fun x => { x with actions := [] }) (attend .door (setDoor a.cabin .unknown q)) =
      attend .door (setDoor a.cabin .unknown (modSeq (fun x => { x with actions := [] }) q)) := by
    unfold setDoor modCabin
    split <;> rfl
  rw [handOutcome, flight]
  simp only [flightOf, Bool.not_false, Bool.and_true]
  split
  · rw [← ended, writeOutcome]
    exact written _
  · exact ended

/-- A channel that waits for the start of an action's motion. -/
def channelIssued (a : Action) (c : Channel) : Channel :=
  moveWaiting .move { c with owner := .action, retriesUsed := 0, target := some a.target }

/-- The part in which the only action of the list waits for its start. -/
def actionWaiting (a : Action) (p : Part) : Part :=
  { p with
    doors := { p.doors with channels := modTable p.doors.channels a.channel (channelIssued a), queue := p.doors.queue ++ [.door a.channel] }
    sequencer := { p.sequencer with
      actions := [], flights := modTable p.sequencer.flights a.channel (fun _ => some (flightOf a p.clock.now)) }
    work := { p.work with arbiter := true } }

theorem actionWaiting_eq (a : Action) (p : Part) :
    modSeq (fun q => { q with actions := [] }) (enterWaiting a.channel .move (actionClaimed a p)) = actionWaiting a p := by
  rw [enterWaiting_eq, actionClaimed, modChannel, actionFlown, modSeq]
  dsimp only
  rw [modTable_modTable]
  rfl

theorem channel_actionWaiting (a : Action) (p : Part) :
    channel (actionWaiting a p) a.channel = channelIssued a (channel p a.channel) := modTable_get_same ..

theorem actionWaiting_flights (a : Action) (p : Part) :
    (actionWaiting a p).sequencer.flights.get a.channel = some (flightOf a p.clock.now) := modTable_get_same ..

section
variable {s : State} (hready : Ready s) (hdue : anyActionDue s.part = true)
include hready hdue

/-- The judgement that changes the Door Sequencer alone. -/
theorem action_rests {f : Sequencer → Sequencer} (h : judgeSequencer true s.part = modSeq f s.part) : After .actionDue s (fun t =>
    Frame [.sequencer] s t ∧ t.part.sequencer = f s.part.sequencer) := by
  have quiet : (modSeq f s.part).work = {} := hready.2.1
  refine ⟨{ s with part := finish (modSeq f s.part) }, ?_, frame_finish hready fun b _ hb => ?_, ?_⟩
  · show occurs _ _ s = _
    rw [occurs_acts hready.1 hdue, h]
  · rw [settle_of_quiet quiet]
    cases b <;> simp at hb <;> rfl
  · dsimp only
    rw [finish_sequencer, settle_of_quiet quiet]
    rfl

variable {a : Action} (halone : s.part.sequencer.actions = [a]) (hwaits : a.dueWaiting = false)
include halone hwaits

/-- A resting channel away from its target, with a start left, moves for the Door Sequencer (R84, R107). -/
theorem action_moves (hholds : conditionHolds s.part a = true) (hmeets : a.isCabin = true → issuable s.part a = true)
    (hclosed : (channel s.part a.channel).closed = false) (howner : (channel s.part a.channel).owner = .none)
    (hrest : (channel s.part a.channel).state.atRest = true) (haway : (channel s.part a.channel).state ≠ a.target.atState)
    (hlock : (channel s.part a.channel).config.locking = false) (hqueue : s.part.doors.queue = [])
    (hroom : budgetRoom s.part.doors s.part.clock.now = true) (hlimit : (channel s.part a.channel).limit a.target = false) :
    After .actionDue s (fun t =>
      Frame [.doors, .sequencer] s t ∧ t.part.sequencer.actions = [] ∧
      t.part.sequencer.flights.get a.channel = some (flightOf a s.part.clock.now) ∧
      (channel t.part a.channel).owner = .action ∧ (channel t.part a.channel).target = some a.target ∧
      (channel t.part a.channel).state = a.target.movingState ∧ (channel t.part a.channel).motor = some a.target) := by
  have body := judge_issues hdue halone hwaits hholds hmeets
  rw [issueAction_waits hclosed howner hrest haway hlock] at body
  rw [actionWaiting_eq] at body
  have chan := channel_actionWaiting a s.part
  have flight := actionWaiting_flights a s.part
  have work : (actionWaiting a s.part).work = { arbiter := true } := by
    show ({ s.part.work with arbiter := true } : Work) = _
    rw [hready.2.1]
  have queue : (actionWaiting a s.part).doors.queue = [.door a.channel] := by
    show s.part.doors.queue ++ _ = _
    rw [hqueue]; rfl
  have room : budgetRoom (actionWaiting a s.part).doors (actionWaiting a s.part).clock.now = true := hroom
  have actions : (actionWaiting a s.part).sequencer.actions = [] := rfl
  have rest : ∀ b ∉ [Block.doors, .sequencer], Part.same b s.part (doorGranted a.channel (actionWaiting a s.part)) := by
    intro b hb
    cases b <;> simp at hb <;> rfl
  generalize actionWaiting a s.part = W at chan flight work queue actions rest room body
  have heading : headingOf (channel W a.channel) = a.target := by rw [chan]; rfl
  have settled : settle 64 W = doorGranted a.channel W := by
    refine settle_starts work queue room ?_
    rw [heading, chan]
    revert hlimit; cases a.target <;> exact id
  have moved : channel (doorGranted a.channel W) a.channel = motionStarted W.clock.now (channel W a.channel) := modTable_get_same ..
  refine ⟨{ s with part := finish W }, ?_, frame_finish hready fun b _ hb => ?_, ?_, ?_, ?_⟩
  · show occurs _ _ s = _
    rw [occurs_acts hready.1 hdue, body]
  · rw [settled]
    exact rest b hb
  · dsimp only
    rw [finish_sequencer, settled]
    exact actions
  · dsimp only
    rw [finish_sequencer, settled]
    exact flight
  · dsimp only
    rw [channel_finish, settled, moved, chan]
    exact ⟨rfl, rfl, rfl, rfl⟩

/-- A closed channel hands the action back as not taken (R107, R111). -/
theorem action_handedBack (hholds : conditionHolds s.part a = true)
    (hmeets : a.isCabin = true → issuable s.part a = true ∧ ∀ r ∈ s.part.doors.queue, r = .retainer)
    (hclosed : (channel s.part a.channel).closed = true) : After .actionDue s (fun t =>
      Frame [.window, .cabins, .launch, .doors, .sequencer, .sup] s t ∧ t.part.sequencer.actions = [] ∧
      t.part.sequencer.flights.get a.channel = none ∧ t.part.sequencer.notTaken = count16 s.part.sequencer.notTaken ∧
      (a.isCabin = true → isCabin a.cabin = true → (cabin t.part a.cabin).door = .unknown ∧ t.part.window.attention.getLsbD 5 = true)) := by
  have body := judge_issues hdue halone hwaits hholds fun h => (hmeets h).1
  rw [issueAction_handsBack hclosed, handOutcome_back] at body
  have flight : (actionBack a s.part).sequencer.flights.get a.channel = none := modTable_get_same ..
  have rest : ∀ b ∉ [Block.sequencer], Part.same b s.part (actionBack a s.part) := by
    intro b hb
    cases b <;> simp at hb <;> rfl
  cases hbound : a.isCabin && isCabin a.cabin with
  | false =>
    rw [hbound, if_neg (by decide)] at body
    have quiet : settle 64 (actionBack a s.part) = actionBack a s.part := settle_of_quiet (p := actionBack a s.part) hready.2.1
    refine ⟨{ s with part := finish (actionBack a s.part) }, ?_, frame_finish hready fun b _ hb => ?_, ?_, ?_, ?_, fun h1 h2 => ?_⟩
    · show occurs _ _ s = _
      rw [occurs_acts hready.1 hdue, body]
    · rw [quiet]
      exact rest b (by rintro h; exact hb (by simp at h; subst h; decide))
    · dsimp only; rw [finish_sequencer, quiet]; rfl
    · dsimp only; rw [finish_sequencer, quiet]; exact flight
    · dsimp only; rw [finish_sequencer, quiet]; rfl
    · rw [h1, h2] at hbound; cases hbound
  | true =>
    rw [hbound, if_pos rfl] at body
    obtain ⟨hcabin, hnumber⟩ := Bool.and_eq_true_iff.mp hbound
    obtain ⟨-, hqueue⟩ := hmeets hcabin
    have calm : NothingWaits (attend .door (setDoor a.cabin .unknown (actionBack a s.part))) :=
      ⟨by simpa [actionBack] using hqueue, by simp [actionBack]⟩
    obtain ⟨kept, -⟩ := settle_calm calm
    have door : (cabin (attend .door (setDoor a.cabin .unknown (actionBack a s.part))) a.cabin).door = .unknown := by
      have same : cabin (attend .door (setDoor a.cabin .unknown (actionBack a s.part))) a.cabin =
        cabin (setDoor a.cabin .unknown (actionBack a s.part)) a.cabin := rfl
      rw [same, cabin_setDoor_same hnumber]
    have bit : (attend .door (setDoor a.cabin .unknown (actionBack a s.part))).window.attention.getLsbD 5 = true := by
      simp [attend, Attn.bit]
    have sequencer : (attend .door (setDoor a.cabin .unknown (actionBack a s.part))).sequencer = (actionBack a s.part).sequencer := by simp
    have rest' : ∀ b ∉ [Block.window, .cabins, .sequencer], Part.same b s.part (attend .door (setDoor a.cabin .unknown (actionBack a s.part))) := by
      intro b hb
      cases b <;> simp at hb <;> simp [Part.same, actionBack]
    generalize attend .door (setDoor a.cabin .unknown (actionBack a s.part)) = q at body kept door bit sequencer rest'
    have cabins : (settle 64 q).cabins = q.cabins := kept.same (b := .cabins) (by decide)
    have after : (settle 64 q).sequencer = (actionBack a s.part).sequencer := (kept.same (b := .sequencer) (by decide)).trans sequencer
    have kept' := kept
    obtain ⟨-, bits, -⟩ := kept
    refine ⟨{ s with part := finish q }, ?_, frame_finish hready fun b _ hb => ?_, ?_, ?_, ?_, fun _ _ => ⟨?_, ?_⟩⟩
    · show occurs _ _ s = _
      rw [occurs_acts hready.1 hdue, body]
    · refine same_trans (rest' b ?_) (kept'.same ?_)
      · intro h; exact hb (by revert h; cases b <;> decide)
      · intro h; exact hb (by revert h; cases b <;> decide)
    · dsimp only; rw [finish_sequencer, after]; rfl
    · dsimp only; rw [finish_sequencer, after]; exact flight
    · dsimp only; rw [finish_sequencer, after]; rfl
    · dsimp only; rw [cabin_finish, cabin_of_cabins_eq cabins]; exact door
    · dsimp only; rw [finish_window]; exact bits 5 bit

end

/-- Settles O54. -/
theorem actionDueIssuesOrDrops : Obligations.ActionDueIssuesOrDrops := by
  intro s hready hdue
  refine ⟨actionDue_takes hready hdue, fun a halone hwaits => ?_⟩
  intro meetsItsCabin
  refine ⟨fun hholds => ?_, fun hholds hcabin haway => ?_, fun hholds hmeets => ?_, fun hholds hmeets => ?_⟩
  · exact action_rests hready hdue (judge_drops hdue halone hwaits hholds)
  · have hmeets : issuable s.part a = false := by
      rw [← Bool.not_eq_true, issuable_iff]
      exact haway
    exact action_rests hready hdue (judge_holds hdue halone hwaits hholds hcabin hmeets)
  · exact action_moves hready hdue halone hwaits hholds fun h => (issuable_iff s.part a).mpr (hmeets h)
  · exact action_handedBack hready hdue halone hwaits hholds fun h => ⟨(issuable_iff s.part a).mpr (hmeets h).1, (hmeets h).2⟩

end Sys2Proof.Machine

/-! One cause and its condition through work that neither reports nor ends it. -/

namespace Sys2Proof.Machine

/-- The listed causes of one kind and source, and whether its condition is present, are as they were. -/
def CauseStands (k : CauseKind) (n : Nat) (u v : Supervisor) : Prop :=
  (ConditionPresent k n v ↔ ConditionPresent k n u) ∧
    v.causes.filter (fun c => c.names k n) = u.causes.filter (fun c => c.names k n)

section
variable {k : CauseKind} {n : Nat}

namespace CauseStands

theorem refl (u : Supervisor) : CauseStands k n u u := ⟨Iff.rfl, rfl⟩

theorem trans {u v w : Supervisor} (h : CauseStands k n u v) (g : CauseStands k n v w) : CauseStands k n u w :=
  ⟨g.1.trans h.1, g.2.trans h.2⟩

theorem of_kept {u v : Supervisor} (h : CausesKept u v) : CauseStands k n u v := by
  obtain ⟨causes, present, -⟩ := h
  exact ⟨by rw [ConditionPresent, present], by rw [causes]⟩

theorem of_eq {u v : Supervisor} (h : v = u) : CauseStands k n u v := by rw [h]; exact refl u

end CauseStands

/-! ### Reports and ends of another cause -/

/-- A kind and source other than those looked at. -/
def OtherCause (k : CauseKind) (n : Nat) (l : CauseKind) (m : Nat) : Prop := l ≠ k ∨ m ≠ n

variable {l : CauseKind} {m : Nat} (h : OtherCause k n l m)
include h

theorem cause_unnamed {c : Cause} (hc : c.names l m = true) : c.names k n = false := by
  simp only [Cause.names, Bool.and_eq_true, beq_iff_eq] at hc
  obtain ⟨hkind, hsource⟩ := hc
  obtain hk | hn := h
  · simp [Cause.names, hkind, hk]
  · simp [Cause.names, hsource, hn]

theorem present_unnamed {c : PresentCause} (hc : c.names l m = true) : c.names k n = false := by
  simp only [PresentCause.names, Bool.and_eq_true, beq_iff_eq] at hc
  obtain ⟨hkind, hsource⟩ := hc
  obtain hk | hn := h
  · simp [PresentCause.names, hkind, hk]
  · simp [PresentCause.names, hsource, hn]

theorem filter_map_unnamed {f : Cause → Cause} (hf : ∀ c, (f c).names k n = c.names k n) (t : List Cause) :
    (t.map (fun c => if c.names l m then f c else c)).filter (fun c => c.names k n) = t.filter (fun c => c.names k n) := by
  induction t with
  | nil => rfl
  | cons c t ih =>
    rw [List.map_cons]
    by_cases hc : c.names l m = true
    · have out := cause_unnamed h hc
      rw [if_pos hc, List.filter_cons_of_neg (by rw [hf, out]; decide), List.filter_cons_of_neg (by rw [out]; decide), ih]
    · rw [if_neg hc, List.filter_cons, List.filter_cons, ih]

theorem placePresent_any_other (c : Category) (now : Time) (listed : Bool) (t : List PresentCause) :
    (placePresent l m c now listed t).any (fun x => x.names k n) = t.any (fun x => x.names k n) := by
  unfold placePresent
  split
  · rw [List.any_map]
    refine List.any_congr rfl fun x => ?_
    dsimp only [Function.comp]
    split <;> rfl
  · have out : ({ kind := l, source := m, category := c, firstTime := now, listed := listed } : PresentCause).names k n = false :=
      present_unnamed h (by simp [PresentCause.names])
    rw [List.any_append, List.any_cons, out]
    simp

theorem enterCause_causeStands (c : Category) (b : Bool) (now : Time) (u : Supervisor) :
    CauseStands k n u (enterCause l m c b now u) := by
  have placed (listed : Bool) : (if b then placePresent l m c now listed u.present else u.present).any (fun x => x.names k n) =
      u.present.any (fun x => x.names k n) := by
    split
    · exact placePresent_any_other h ..
    · rfl
  unfold enterCause
  split
  · exact ⟨by simp only [ConditionPresent, placed], filter_map_unnamed h (f := fun x => { x with
      category := x.category.max c, repeats := countTo 255 x.repeats, present := x.present || b }) (fun _ => rfl) u.causes⟩
  · split
    · have out : ({ kind := l, source := m, category := c, firstTime := now, present := b } : Cause).names k n = false :=
        cause_unnamed h (by simp [Cause.names])
      refine ⟨by simp only [ConditionPresent, placed], ?_⟩
      rw [List.filter_append, List.filter_cons_of_neg (by rw [out]; decide), List.filter_nil, List.append_nil]
    · exact ⟨by simp only [ConditionPresent, placed], rfl⟩

theorem report_causeStands (c : Category) (b : Bool) (p : Part) : CauseStands k n p.sup (report l m c b p).sup := by
  rw [report_eq]
  exact (enterCause_causeStands h c b p.clock.now p.sup).trans (.of_kept (changeMode_kept_causes _ _))

theorem gone_causeStands (p : Part) : CauseStands k n p.sup (gone l m p).sup := by
  have causes : (gone l m p).sup.causes = p.sup.causes.map (fun c => if c.names l m then { c with present := false } else c) := by
    unfold gone
    dsimp only
    split <;> rfl
  refine ⟨?_, by rw [causes]; exact filter_map_unnamed h (f := fun x => { x with present := false }) (fun _ => rfl) p.sup.causes⟩
  rw [ConditionPresent, gone_sup_present, List.any_filter, ConditionPresent]
  have same (x : PresentCause) : (!x.names l m && x.names k n) = x.names k n := by
    by_cases hx : x.names l m = true
    · rw [present_unnamed h hx, Bool.and_false]
    · simp [eq_false_of_ne_true hx]
  simp only [same]

end

theorem setCaps_causeStands {k : CauseKind} {n : Nat} (c : Caps) (p : Part) : CauseStands k n p.sup (setCaps c p).sup := by
  rw [setCaps_sup]
  split
  · exact .refl _
  · exact ⟨Iff.rfl, rfl⟩

/-! ### The judgements of an event: only DOOR_FAULT and RELEASE_TIMEOUT are reported or ended -/

section
variable {k : CauseKind} {n : Nat} (hdoor : k ≠ .doorFault) (hrelease : k ≠ .releaseTimeout)

theorem operateTakeover_sup (i : ChannelNo) (e : End) (p : Part) : (operateTakeover i e p).sup = p.sup := by
  simp only [operateTakeover, turnBack, retarget, operateFromRest]
  (repeat' split) <;> simp

theorem takeOperation_action_sup (a : Action) (i : ChannelNo) (e : End) (p : Part) : (takeOperation i e (claimForAction a) p).sup = p.sup := by
  rw [takeOperation, operateTakeover_sup]
  simp [claimForAction, modSeq]

theorem issueAction_sup (a : Action) (p : Part) : (issueAction a p).sup = p.sup := by
  unfold issueAction
  split
  · simp [modSeq]
  · exact takeOperation_action_sup ..

theorem judgeActions_sup (b : Bool) (served : List ChannelNo) (l : List Action) (p : Part) : (judgeActions b served l p).2.sup = p.sup := by
  induction l generalizing served p with
  | nil => rfl
  | cons a t ih =>
    unfold judgeActions
    split
    · exact ih ..
    · split
      · exact ih ..
      · split
        · exact (ih ..).trans (issueAction_sup ..)
        · split
          · exact (ih ..).trans (issueAction_sup ..)
          · exact ih ..

theorem judgeSequencer_sup (b : Bool) (p : Part) : (judgeSequencer b p).sup = p.sup := judgeActions_sup ..

include hdoor

theorem enterFault_causeStands (i : ChannelNo) (why : DoorReason) (p : Part) : CauseStands k n p.sup (enterFault i why p).sup := by
  unfold enterFault
  dsimp only
  have other : OtherCause k n .doorFault i.val := .inl hdoor.symm
  split
  · exact CauseStands.trans (.of_eq (by simp [stopOutputs])) (setCaps_causeStands ..)
  · exact (CauseStands.trans (.of_eq (by simp [stopOutputs])) (report_causeStands other ..)).trans (setCaps_causeStands ..)

theorem arriveReversal_causeStands (i : ChannelNo) (p : Part) : CauseStands k n p.sup (arriveReversal i p).sup := by
  unfold arriveReversal
  dsimp only
  split
  · exact .of_eq (by simp [stopOutputs])
  · split
    · exact .of_eq (by simp [stopOutputs])
    · exact CauseStands.trans (.of_eq (by simp [stopOutputs])) (enterFault_causeStands hdoor ..)

theorem startMotion_causeStands (i : ChannelNo) (p : Part) : CauseStands k n p.sup (startMotion i p).sup := by
  rw [startMotion_eq]
  split
  · split
    · exact arriveReversal_causeStands hdoor i (modChannel i _ p)
    · exact .of_eq (by simp)
  · exact .of_eq rfl

include hrelease

omit hdoor in
theorem judgeWatch_causeStands (p : Part) : CauseStands k n p.sup (judgeWatch p).sup := by
  have other : OtherCause k n .releaseTimeout 2 := .inl hrelease.symm
  unfold judgeWatch
  split
  · exact report_causeStands other .service true (modLaunch (fun l => { l with watchFault := true }) p)
  · split
    · exact gone_causeStands other (modLaunch (fun l => { l with watchFault := false }) p)
    · exact .refl _

omit hdoor in
theorem grantRetainer_causeStands (p : Part) : CauseStands k n p.sup (grantRetainer p).sup := by
  have called (q : Part) : CauseStands k n q.sup (callLaunch (judgeWatch q)).sup := judgeWatch_causeStands hrelease q
  unfold grantRetainer
  split
  · exact (CauseStands.of_eq (modLaunch_sup ..)).trans (called _)
  · exact .refl _

theorem judgeArbiter_causeStands (p : Part) : CauseStands k n p.sup (judgeArbiter p).sup := by
  unfold judgeArbiter
  split
  · exact .refl _
  next r rest _ =>
    split
    · cases r with
      | retainer => exact grantRetainer_causeStands hrelease { p with doors := recordGrant .retainer p.clock.now { p.doors with queue := rest } }
      | door i => exact startMotion_causeStands hdoor i { p with doors := recordGrant (.door i) p.clock.now { p.doors with queue := rest } }
    · exact .refl _

theorem settleOnce_causeStands (p : Part) : CauseStands k n p.sup (settleOnce p).sup := by
  unfold settleOnce
  split
  · exact .of_eq (by simp)
  · split
    · exact judgeArbiter_causeStands hdoor hrelease { p with work := { p.work with arbiter := false } }
    · split
      · exact .of_eq (judgeSequencer_sup ..)
      · exact .refl _

theorem finish_causeStands (p : Part) : CauseStands k n p.sup (finish p).sup := by
  have settled : CauseStands k n p.sup (settle 64 p).sup := settle_keeps (P := fun q => CauseStands k n p.sup q.sup)
    (fun q hq => hq.trans (settleOnce_causeStands hdoor hrelease q)) (fun q hq => hq.trans (.of_eq (by simp))) 64 (.refl _)
  rw [finish_sup]
  exact settled

end

end Sys2Proof.Machine

/-! What reports, ends of conditions and judgements leave of the rope, the drive word, the handsets and the course of a stop. -/

namespace Sys2Proof.Machine

/-- The rope but for C_eff and the noted entry, the drive word, the handsets, and a mode in which no later report moves the station. -/
structure StopHolds (p q : Part) : Prop where
  rope : RopeSteady p q
  word : q.sup.driveWord = p.sup.driveWord ∧ q.sup.driveSequence = p.sup.driveSequence
  hooks : ∀ v, (callSlot q v).hook = (callSlot p v).hook ∧ (callSlot q v).hookInput = (callSlot p v).hookInput
  run : q.sup.mode = .run → p.sup.mode = .run
  rests : p.sup.mode ∈ [Mode.off, .stopped, .stoppingFast] → q.sup.mode = p.sup.mode
  stands : p.rope.standstill = true → p.sup.mode.isStopping = false → q.sup.mode.isStopping = false
  remembers : Remembers p q

theorem RopeSteady.standstill {p q : Part} (h : RopeSteady p q) : q.rope.standstill = p.rope.standstill := by rw [h]

namespace StopHolds
variable {p q r : Part}

theorem trans (h : StopHolds p q) (g : StopHolds q r) : StopHolds p r where
  rope := h.rope.trans g.rope
  word := ⟨g.word.1.trans h.word.1, g.word.2.trans h.word.2⟩
  hooks v := ⟨(g.hooks v).1.trans (h.hooks v).1, (g.hooks v).2.trans (h.hooks v).2⟩
  run e := h.run (g.run e)
  rests e := (g.rests (h.rests e ▸ e)).trans (h.rests e)
  stands e m := g.stands (h.rope.standstill.trans e) (h.stands e m)
  remembers := h.remembers.trans g.remembers

theorem of_eq (hsup : q.sup = p.sup) (hrope : q.rope = p.rope) (hcalls : q.calls = p.calls) (hbits : BitsStay p.window q.window) :
    StopHolds p q where
  rope := by rw [RopeSteady, hrope]
  word := by rw [hsup]; exact ⟨rfl, rfl⟩
  hooks v := by rw [callSlot_of_calls_eq hcalls]; exact ⟨rfl, rfl⟩
  run e := by rw [← hsup]; exact e
  rests _ := by rw [hsup]
  stands _ m := by rw [hsup]; exact m
  remembers := .of_eq hsup hrope hbits

theorem refl (p : Part) : StopHolds p p := of_eq rfl rfl rfl (fun _ h => h)

/-- A change of causes and caps alone leaves the mode and the drive word. -/
theorem of_undisturbed (h : Undisturbed p q) (hrope : RopeSteady p q) (hword : q.sup.driveWord = p.sup.driveWord ∧
    q.sup.driveSequence = p.sup.driveSequence) (remembers : Remembers p q) : StopHolds p q where
  rope := hrope
  word := hword
  hooks v := by rw [callSlot_of_calls_eq h.2.1]; exact ⟨rfl, rfl⟩
  run e := by rw [← h.2.2.2.1]; exact e
  rests _ := h.2.2.2.1
  stands _ m := by rw [h.2.2.2.1]; exact m
  remembers := remembers

end StopHolds

/-! ### Reports -/

theorem enteredSup_word (m : Mode) (u : Supervisor) : (enteredSup m u).driveWord = u.driveWord ∧
    (enteredSup m u).driveSequence = u.driveSequence := by
  unfold enteredSup stopModeTimers switchedSup
  dsimp only
  (repeat' split) <;> exact ⟨rfl, rfl⟩

theorem enterMode_word (m : Mode) (p : Part) : (enterMode m p).sup.driveWord = p.sup.driveWord ∧
    (enterMode m p).sup.driveSequence = p.sup.driveSequence := by
  by_cases h : p.sup.mode = m
  · rw [enterMode_same h]; exact ⟨rfl, rfl⟩
  · rw [enterMode_sup h]; exact enteredSup_word m p.sup

theorem standstillEvent_word (p : Part) : (standstillEvent p).sup.driveWord = p.sup.driveWord ∧
    (standstillEvent p).sup.driveSequence = p.sup.driveSequence := by
  unfold standstillEvent
  split
  · exact enterMode_word ..
  · exact ⟨rfl, rfl⟩

theorem changeMode_word (m : Mode) (p : Part) : (changeMode m p).sup.driveWord = p.sup.driveWord ∧
    (changeMode m p).sup.driveSequence = p.sup.driveSequence := by
  obtain ⟨word, sequence⟩ := enterMode_word m p
  obtain ⟨word', sequence'⟩ := standstillEvent_word (enterMode m p)
  unfold changeMode
  dsimp only
  split
  · exact ⟨word'.trans word, sequence'.trans sequence⟩
  · exact ⟨word, sequence⟩

theorem report_word (k : CauseKind) (n : Nat) (c : Category) (b : Bool) (p : Part) :
    (report k n c b p).sup.driveWord = p.sup.driveWord ∧ (report k n c b p).sup.driveSequence = p.sup.driveSequence := by
  obtain ⟨word, sequence⟩ := changeMode_word (modeAfterCause p.sup.mode c) (causeNoted k n c b p)
  have noted : (causeNoted k n c b p).sup.driveWord = p.sup.driveWord ∧ (causeNoted k n c b p).sup.driveSequence = p.sup.driveSequence := by
    rw [causeNoted, attend_sup, modSup_sup, enterCause_kept]
    exact ⟨rfl, rfl⟩
  rw [report_eq]
  exact ⟨word.trans noted.1, sequence.trans noted.2⟩

/-- A call that an alert call request begins keeps its handset. -/
theorem AlertsAlone.hooks {p q : Part} (h : AlertsAlone p q) (v : VoiceNo) :
    (callSlot q v).hook = (callSlot p v).hook ∧ (callSlot q v).hookInput = (callSlot p v).hookInput := by
  by_cases hv : v = 0
  · subst hv
    obtain same | ⟨-, ends, begun⟩ := h.first
    · rw [same]; exact ⟨rfl, rfl⟩
    · rw [begun]; exact ⟨rfl, rfl⟩
  · rw [h.other v hv]; exact ⟨rfl, rfl⟩

/-- The mode after a report where no stop is under way, or no later report moves it (R121, R122). -/
theorem modeAfterCause_rests {m : Mode} (h : m ∈ [Mode.off, .stopped, .stoppingFast]) (c : Category) :
    m.isRunning = false ∧ modeAfterCause m c = m := by
  cases m <;> simp at h <;> cases c <;> exact ⟨rfl, rfl⟩

theorem modeAfterCause_stands {m : Mode} (hrun : m.isRunning = false) (h : m.isStopping = false) (c : Category) :
    (modeAfterCause m c).isStopping = false := by
  cases m with
  | off | ready | stopped => cases c <;> rfl
  | starting | run => cases hrun
  | stoppingService | stoppingFast => cases h

theorem report_holds (k : CauseKind) (n : Nat) (c : Category) (b : Bool) (p : Part) : StopHolds p (report k n c b p) where
  rope := report_rope k n c b p
  word := report_word k n c b p
  hooks := (report_alone k n c b p).hooks
  run e := absurd e (report_stops k n c b p)
  rests e := by
    obtain ⟨running, same⟩ := modeAfterCause_rests e c
    rw [report_mode, running, same]
    rfl
  stands e m := by
    rw [report_mode, e]
    cases hrun : p.sup.mode.isRunning with
    | true => rfl
    | false => exact modeAfterCause_stands hrun m c
  remembers := report_remembers k n c b p

theorem gone_holds {k : CauseKind} (hk : k ≠ .trackOverflow) (n : Nat) (p : Part) : StopHolds p (gone k n p) :=
  .of_undisturbed (gone_undisturbed k n p) (by rw [RopeSteady]; simp) (by rw [gone_sup]; exact ⟨rfl, rfl⟩) (gone_remembers hk n p)

theorem setCaps_holds (c : Caps) (p : Part) : StopHolds p (setCaps c p) := by
  refine .of_undisturbed (setCaps_undisturbed c p) ?_ ?_ (setCaps_remembers c p)
  · unfold setCaps
    split
    · rfl
    · exact (composeCeiling_rope _).1
  · rw [setCaps_sup]
    split <;> exact ⟨rfl, rfl⟩

theorem Works.holds {p q : Part} (h : Works p q) : StopHolds p q :=
  h.relates (S := StopHolds) (fun _ _ h => .of_eq h.sup h.rope h.calls h.bits) report_holds (fun n p => gone_holds (by decide) n p)
    (fun c p _ => setCaps_holds c p) (fun h g => h.trans g)

/-- The end of an event sets the pins and the tones besides. -/
theorem finish_holds (p : Part) : StopHolds p (finish p) := by
  have settled : StopHolds p (settle 64 p) := (works_settle p).holds
  refine ⟨?_, ?_, fun v => ?_, ?_, ?_, ?_, finish_remembers p⟩
  · rw [RopeSteady, finish_rope]; exact settled.rope
  · rw [finish_sup]; exact settled.word
  · rw [callSlot_finish]; exact settled.hooks v
  · rw [finish_sup]; exact settled.run
  · rw [finish_sup]; exact settled.rests
  · rw [finish_sup]; exact settled.stands

/-! ### RETCLOSED through the judgements -/

theorem judgeWatch_retInput (p : Part) : (judgeWatch p).launch.retInput = p.launch.retInput := by
  unfold judgeWatch
  (repeat' split) <;> simp [modLaunch]

theorem judgeArbiter_retInput (p : Part) : (judgeArbiter p).launch.retInput = p.launch.retInput := by
  unfold judgeArbiter
  split
  · rfl
  next r rest _ =>
    split
    · cases r with
      | door i => simp [handGrant]
      | retainer =>
        simp only [handGrant, grantRetainer, callArbiter_launch]
        split
        · rw [callLaunch_launch, judgeWatch_retInput]; rfl
        · rfl
    · rfl

theorem settle_retInput (p : Part) : (settle 64 p).launch.retInput = p.launch.retInput := by
  have judged (q : Part) : (judgeLaunch q).launch.retInput = q.launch.retInput := by
    unfold judgeLaunch
    dsimp only
    (repeat' split) <;> simp [modLaunch, requestRelease, removeRequest]
  refine settle_keeps (P := fun q => q.launch.retInput = p.launch.retInput) (fun q hq => ?_) (fun q hq => (judged q).trans hq) 64 rfl
  unfold settleOnce
  (repeat' split)
  · exact (judged _).trans hq
  · exact (judgeArbiter_retInput _).trans hq
  · simpa using hq
  · exact hq

end Sys2Proof.Machine

/-! The stages of a sample tick, and the notices that its rope measurement delivers (R25 to R44). -/

namespace Sys2Proof.Machine

/-! ### A FAST cause stays noted -/

/-- What is noted of a FAST cause stays. -/
def FastStays (p q : Part) : Prop := FastEntered p.sup → FastEntered q.sup

theorem Category.max_fast (c : Category) : Category.max .fast c = .fast := by cases c <;> rfl

theorem enterCause_fastStays (k : CauseKind) (n : Nat) (c : Category) (b : Bool) (now : Time) {u : Supervisor} (h : FastEntered u) :
    FastEntered (enterCause k n c b now u) := by
  have listed (l : List Cause) (hl : l.any (fun x => x.category == .fast) = true) :
      (repeatCause k n c b l).any (fun x => x.category == .fast) = true := by
    obtain ⟨x, hx, hfast⟩ := List.any_eq_true.mp hl
    refine List.any_eq_true.mpr ⟨_, List.mem_map_of_mem hx, ?_⟩
    split
    · rw [eq_of_beq hfast]
      simp [Category.max_fast]
    · exact hfast
  simp only [FastEntered, fastHeld, Bool.or_eq_true] at h ⊢
  unfold enterCause
  split
  · exact h.imp (listed _) id
  · split
    · exact h.imp (fun hl => by rw [List.any_append, hl, Bool.true_or]) id
    · exact h.imp id fun hn => by simp [hn]

theorem report_fastStays (k : CauseKind) (n : Nat) (c : Category) (b : Bool) (p : Part) : FastStays p (report k n c b p) := fun h => by
  rw [report_eq]
  exact (changeMode_kept_causes _ _).fast (enterCause_fastStays k n c b p.clock.now h)

theorem gone_fastStays (k : CauseKind) (n : Nat) (p : Part) : FastStays p (gone k n p) := by
  have causes : (gone k n p).sup.causes = p.sup.causes.map (fun c => if c.names k n then { c with present := false } else c) := by
    unfold gone
    dsimp only
    split <;> rfl
  have note : (gone k n p).sup.fastNote = p.sup.fastNote := by rw [gone_sup]
  intro h
  simp only [FastEntered, fastHeld, causes, note, List.any_map] at h ⊢
  rw [← h]
  congr 1
  refine List.any_congr rfl fun x => ?_
  dsimp only [Function.comp]
  split <;> rfl

theorem setCaps_fastStays (c : Caps) (p : Part) : FastStays p (setCaps c p) := by
  intro h
  rw [setCaps_sup]
  split
  · exact h
  · exact h

theorem Works.fastStays {p q : Part} (h : Works p q) : FastStays p q :=
  h.relates (S := FastStays) (fun _ _ h e => by rw [h.sup]; exact e) report_fastStays (fun n p => gone_fastStays _ n p)
    (fun c p _ => setCaps_fastStays c p) (fun h g e => g (h e))

theorem finish_fastStays (p : Part) : FastStays p (finish p) := fun h => by
  rw [finish_sup]
  exact (works_settle p).fastStays h

/-! ### Notices -/

/-- The kind and source that a notice reports or ends. -/
def Notice.cause : Notice → CauseKind × Nat
  | .report k n _ _ => (k, n)
  | .gone k n => (k, n)

theorem deliver_holds {n : Notice} (h : n.cause.1 ≠ .trackOverflow) (p : Part) : StopHolds p (deliver p n) := by
  cases n with
  | report k m c b => exact report_holds ..
  | gone k m => exact gone_holds h ..

theorem deliver_fastStays (n : Notice) (p : Part) : FastStays p (deliver p n) := by
  cases n with
  | report k m c b => exact report_fastStays k m c b p
  | gone k m => exact gone_fastStays k m p

theorem deliver_causeStands {k : CauseKind} {m : Nat} {n : Notice} (h : OtherCause k m n.cause.1 n.cause.2) (p : Part) :
    CauseStands k m p.sup (deliver p n).sup := by
  cases n with
  | report l j c b => exact report_causeStands h ..
  | gone l j => exact gone_causeStands h ..

theorem delivered_holds {l : List Notice} (h : ∀ n ∈ l, n.cause.1 ≠ .trackOverflow) (p : Part) : StopHolds p (l.foldl deliver p) := by
  induction l generalizing p with
  | nil => exact .refl p
  | cons n l ih => exact (deliver_holds (h n List.mem_cons_self) p).trans (ih (fun x hx => h x (List.mem_cons_of_mem _ hx)) _)

theorem delivered_fastStays (l : List Notice) (p : Part) : FastStays p (l.foldl deliver p) := by
  induction l generalizing p with
  | nil => exact fun h => h
  | cons n l ih => exact fun h => ih _ (deliver_fastStays n p h)

theorem delivered_causeStands {k : CauseKind} {m : Nat} {l : List Notice} (h : ∀ n ∈ l, OtherCause k m n.cause.1 n.cause.2) (p : Part) :
    CauseStands k m p.sup (l.foldl deliver p).sup := by
  induction l generalizing p with
  | nil => exact .refl _
  | cons n l ih => exact (deliver_causeStands (h n List.mem_cons_self) p).trans (ih (fun x hx => h x (List.mem_cons_of_mem _ hx)) _)

/-- A report among the notices, with none of the same cause behind it. -/
theorem delivered_reports {k : CauseKind} {m : Nat} {c : Category} {l t : List Notice} (ht : ∀ n ∈ t, OtherCause k m n.cause.1 n.cause.2)
    (hkinds : ∀ n ∈ t, n.cause.1 ≠ .trackOverflow) (p : Part) :
    CauseEntered k m ((l ++ .report k m c true :: t).foldl deliver p).sup ∧
      ConditionPresent k m ((l ++ .report k m c true :: t).foldl deliver p).sup ∧
      ((l ++ .report k m c true :: t).foldl deliver p).sup.mode.isRunning = false ∧
      ((l ++ .report k m c true :: t).foldl deliver p).window.attention.getLsbD 2 = true := by
  rw [List.foldl_append, List.foldl_cons]
  generalize l.foldl deliver p = q
  have later := (delivered_holds hkinds (deliver q (.report k m c true))).remembers
  have stands := delivered_causeStands ht (deliver q (.report k m c true))
  exact ⟨later.entered (report_entered k m c true q), stands.1.mpr (report_present k m c q),
    later.stopped (report_not_running k m c true q), later.bits 2 (report_attention k m c true q)⟩

/-- An end among the notices, with none of the same cause behind it. -/
theorem delivered_ends {k : CauseKind} {m : Nat} {l t : List Notice} (ht : ∀ n ∈ t, OtherCause k m n.cause.1 n.cause.2) (p : Part) :
    ¬ ConditionPresent k m ((l ++ .gone k m :: t).foldl deliver p).sup := by
  rw [List.foldl_append, List.foldl_cons]
  generalize l.foldl deliver p = q
  exact fun h => not_present_gone k m q ((delivered_causeStands ht (deliver q (.gone k m))).1.mp h)

/-! ### The notices of a sample -/

/-- The ENCODER_FAULT situation of a rope (R30). -/
def situationOf (r : Rope) : Nat := faultSituation r.e1.faulted r.e2.faulted

/-- The notices of the slip check (R38). -/
def slipNotices (before after : Bool) : List Notice :=
  if after && !before then [.report .ropeSlip 0 .fast true] else if !after && before then [.gone .ropeSlip 0] else []

/-- The notices of a sample, by the rope before it and after it. -/
def sampleNotices (r s : Rope) : List Notice :=
  encoderNotices (situationOf r) (situationOf s) ++ slipNotices r.slipPresent s.slipPresent ++
    runNotices .rollback 5 r.rollRun s.rollRun ++ runNotices .overspeed 50 r.overRun s.overRun

theorem ropeSample_notices (prof : Profile) (c : Nat) (m : Mode) (now : Time) (i1 i2 : EncoderInterval) (r : Rope) :
    (ropeSample prof c m now i1 i2 r).notices = sampleNotices r (ropeSample prof c m now i1 i2 r).rope := by
  have e1 : (ropeSample prof c m now i1 i2 r).rope.e1 = settleEncoder (r.e1.watch r.started i1) := by
    rw [ropeSample_rope]
    exact (sampleMeasured_kept prof i1 i2 r).1
  have e2 : (ropeSample prof c m now i1 i2 r).rope.e2 = settleEncoder (r.e2.watch r.started i2) := by
    rw [ropeSample_rope]
    exact (sampleMeasured_kept prof i1 i2 r).2.1
  rw [sampleNotices, situationOf, situationOf, e1, e2]
  rfl

theorem ropeSample_standstill (prof : Profile) (c : Nat) (m : Mode) (now : Time) (i1 i2 : EncoderInterval) (r : Rope) :
    (ropeSample prof c m now i1 i2 r).standstill = ((ropeSample prof c m now i1 i2 r).rope.standstill && !r.standstill) := rfl

theorem encoderNotices_cause {a b : Nat} : ∀ n ∈ encoderNotices a b, n.cause.1 = .encoderFault := by
  unfold encoderNotices
  intro n hn
  split at hn
  · cases hn
  · rw [List.mem_append] at hn
    obtain hn | hn := hn <;> split at hn <;> simp at hn <;> rw [hn] <;> rfl

theorem slipNotices_cause {a b : Bool} : ∀ n ∈ slipNotices a b, n.cause = (.ropeSlip, 0) := by
  cases a <;> cases b <;> simp [slipNotices, Notice.cause]

theorem runNotices_cause {k : CauseKind} {m a b : Nat} : ∀ n ∈ runNotices k m a b, n.cause = (k, 0) := by
  unfold runNotices
  intro n hn
  split at hn
  · simp at hn; rw [hn]; rfl
  · split at hn
    · simp at hn; rw [hn]; rfl
    · cases hn

theorem sampleNotices_kinds (r s : Rope) : ∀ n ∈ sampleNotices r s, n.cause.1 ∈ [CauseKind.encoderFault, .ropeSlip, .rollback, .overspeed] := by
  intro n hn
  simp only [sampleNotices, List.mem_append] at hn
  obtain ((h | h) | h) | h := hn
  · rw [encoderNotices_cause n h]; decide
  · rw [slipNotices_cause n h]; decide
  · rw [runNotices_cause n h]; decide
  · rw [runNotices_cause n h]; decide

theorem sampleNotices_overflow (r s : Rope) : ∀ n ∈ sampleNotices r s, n.cause.1 ≠ .trackOverflow := by
  intro n hn h
  have kinds := sampleNotices_kinds r s n hn
  rw [h] at kinds
  exact absurd kinds (by decide)

/-! ### The stages of a sample tick -/

/-- The part in which the computation of a sample has been stored (log entry 85). -/
def ropeStored (x : SampleInputs) (p : Part) : Part :=
  { sampledInputs x p with rope := ropeAfter x p, launch := { (sampledInputs x p).launch with gapRestarted := false } }

/-- The part in which the notices of a sample have been delivered. -/
def ropeTold (x : SampleInputs) (p : Part) : Part := (sampleNotices p.rope (ropeAfter x p)).foldl deliver (ropeStored x p)

/-- The publication of a sample: the start-up ends, Launch Control judges, and the standstill event follows (R34). -/
def ropePublished (standstill : Bool) (p : Part) : Part :=
  if standstill then standstillEvent (callLaunch (startComplete p)) else callLaunch (startComplete p)

theorem sampleStep_stages (x : SampleInputs) (p : Part) :
    sampleStep x p = ropePublished ((ropeAfter x p).standstill && !p.rope.standstill) (ropeTold x p) := by
  have profile : activeProfile (sampledInputs x p).sup = activeProfile p.sup := by simp [activeProfile]
  have ceiling : (sampledInputs x p).sup.ceiling = p.sup.ceiling := by simp
  have mode : (sampledInputs x p).sup.mode = p.sup.mode := by simp
  have now : (sampledInputs x p).clock.now = p.clock.now := by simp
  have rope : (sampledInputs x p).rope = p.rope := by simp
  have notices := ropeSample_notices (activeProfile p.sup) p.sup.ceiling p.sup.mode p.clock.now x.enc1 x.enc2 p.rope
  have standstill := ropeSample_standstill (activeProfile p.sup) p.sup.ceiling p.sup.mode p.clock.now x.enc1 x.enc2 p.rope
  have after : ropeAfter x p =
    (ropeSample (activeProfile p.sup) p.sup.ceiling p.sup.mode p.clock.now x.enc1 x.enc2 p.rope).rope := rfl
  rw [← after] at notices standstill
  rw [sampleStep_eq, ropeTick, profile, ceiling, mode, now, rope, ropeTold, ropeStored, ropePublished, after]
  generalize ropeSample (activeProfile p.sup) p.sup.ceiling p.sup.mode p.clock.now x.enc1 x.enc2 p.rope = res at notices standstill after ⊢
  rw [after] at notices standstill
  dsimp only
  rw [notices, standstill]

end Sys2Proof.Machine

/-! The publication of a sample, and STANDSTILL, STANDSTILL_BY_TIME, START_FAILED and LINK_GRACE_EXPIRY (R42, R43, R119, R122, R134). -/

namespace Sys2Proof.Machine

/-! ### A change of mode that is no report -/

/-- What the entry into a mode other than STOPPING_FAST leaves. -/
structure ModeKeeps (p q : Part) : Prop where
  rope : RopeSteady p q
  causes : CausesKept p.sup q.sup
  word : q.sup.driveWord = p.sup.driveWord ∧ q.sup.driveSequence = p.sup.driveSequence
  calls : q.calls = p.calls
  bits : BitsStay p.window q.window

theorem ModeKeeps.refl (p : Part) : ModeKeeps p p := ⟨rfl, ⟨rfl, rfl, rfl, rfl, rfl, rfl, rfl, rfl⟩, ⟨rfl, rfl⟩, rfl, fun _ h => h⟩

theorem CausesKept.trans {u v w : Supervisor} (h : CausesKept u v) (g : CausesKept v w) : CausesKept u w := by
  simp only [CausesKept] at h g ⊢
  simp [h, g]

theorem ModeKeeps.trans {p q r : Part} (h : ModeKeeps p q) (g : ModeKeeps q r) : ModeKeeps p r :=
  ⟨h.rope.trans g.rope, h.causes.trans g.causes, ⟨g.word.1.trans h.word.1, g.word.2.trans h.word.2⟩, g.calls.trans h.calls,
    h.bits.trans g.bits⟩

theorem enterMode_keeps {m : Mode} (hm : m ≠ .stoppingFast) (p : Part) : ModeKeeps p (enterMode m p) :=
  ⟨enterMode_rope m p, enterMode_kept_causes m p, enterMode_word m p, enterMode_calls hm p, enterMode_bitsStay m p⟩

/-- The mode in which a stop ends (R122). -/
def stopEnd (u : Supervisor) : Mode := if causesStand u then .stopped else .ready

theorem stopEnd_cases (u : Supervisor) : stopEnd u = .stopped ∨ stopEnd u = .ready := by
  unfold stopEnd
  split <;> simp

theorem standstillEvent_stops {p : Part} (h : p.sup.mode.isStopping = true) : standstillEvent p = enterMode (stopEnd p.sup) p := by
  rw [standstillEvent, if_pos h, stopEnd]

theorem standstillEvent_rests {p : Part} (h : p.sup.mode.isStopping = false) : standstillEvent p = p := by
  rw [standstillEvent, h, if_neg (by decide)]

theorem standstillEvent_keeps (p : Part) : ModeKeeps p (standstillEvent p) := by
  by_cases h : p.sup.mode.isStopping = true
  · rw [standstillEvent_stops h]
    refine enterMode_keeps ?_ p
    obtain e | e := stopEnd_cases p.sup <;> rw [e] <;> decide
  · rw [standstillEvent_rests (eq_false_of_ne_true h)]
    exact .refl p

theorem standstillEvent_mode (p : Part) :
    (standstillEvent p).sup.mode = if p.sup.mode.isStopping then stopEnd p.sup else p.sup.mode := by
  split
  next h => rw [standstillEvent_stops h, enterMode_mode]
  next h => rw [standstillEvent_rests (eq_false_of_ne_true h)]

/-- After the standstill event no stop is under way. -/
theorem standstillEvent_ends (p : Part) : (standstillEvent p).sup.mode.isStopping = false := by
  rw [standstillEvent_mode]
  split
  · obtain e | e := stopEnd_cases p.sup <;> rw [e] <;> rfl
  next h => exact eq_false_of_ne_true h

/-! ### The publication -/

/-- The sample that ends a start-up (R119). -/
def completes (p : Part) : Bool := p.sup.mode == .starting && !p.rope.view.invalid && 50 ≤ p.rope.view.v

theorem startComplete_eq (p : Part) : startComplete p = if completes p then enterMode .run p else p := by
  rw [startComplete, completes, changeMode_enters (.inl rfl)]

theorem startComplete_keeps (p : Part) : ModeKeeps p (startComplete p) := by
  rw [startComplete_eq]
  split
  · exact enterMode_keeps (by decide) p
  · exact .refl p

theorem startComplete_mode (p : Part) : (startComplete p).sup.mode = if completes p then .run else p.sup.mode := by
  rw [startComplete_eq]
  split
  · exact enterMode_mode ..
  · rfl

theorem completes_starting {p : Part} (h : completes p = true) : p.sup.mode = .starting ∧ p.rope.view.invalid = false ∧ 50 ≤ p.rope.view.v := by
  simp only [completes, Bool.and_eq_true, beq_iff_eq, Bool.not_eq_true', decide_eq_true_eq] at h
  exact ⟨h.1.1, h.1.2, h.2⟩

theorem completes_not_running {p : Part} (h : p.sup.mode.isRunning = false) : completes p = false := by
  cases hc : completes p with
  | false => rfl
  | true =>
    rw [(completes_starting hc).1] at h
    cases h

theorem callLaunch_keeps (p : Part) : ModeKeeps p (callLaunch p) :=
  ⟨rfl, ⟨rfl, rfl, rfl, rfl, rfl, rfl, rfl, rfl⟩, ⟨rfl, rfl⟩, rfl, fun _ h => h⟩

theorem ropePublished_keeps (b : Bool) (p : Part) : ModeKeeps p (ropePublished b p) := by
  have completed : ModeKeeps p (callLaunch (startComplete p)) := (startComplete_keeps p).trans (callLaunch_keeps _)
  unfold ropePublished
  split
  · exact completed.trans (standstillEvent_keeps _)
  · exact completed

/-- Outside a start-up that ends the mode is that of the stop's end, or the same. -/
theorem ropePublished_mode {b : Bool} {p : Part} (h : completes p = false) : (ropePublished b p).sup.mode =
    if b = true ∧ p.sup.mode.isStopping = true then stopEnd p.sup else p.sup.mode := by
  have same : startComplete p = p := by rw [startComplete_eq, h, if_neg (by decide)]
  rw [ropePublished, same]
  cases b with
  | false => simp
  | true =>
    rw [if_pos rfl, standstillEvent_mode]
    by_cases hs : p.sup.mode.isStopping = true <;> simp [hs, stopEnd, causesStand]

theorem ropePublished_completes {b : Bool} {p : Part} (h : completes p = true) : ropePublished b p = callLaunch (enterMode .run p) := by
  have entered : startComplete p = enterMode .run p := by rw [startComplete_eq, if_pos h]
  have mode : (callLaunch (enterMode .run p)).sup.mode = .run := enterMode_mode .run p
  rw [ropePublished, entered]
  split
  · exact standstillEvent_rests (by rw [mode]; rfl)
  · rfl

/-! ### STANDSTILL (R42, R122) -/

/-- What is stored of a sample. -/
theorem ropeStored_rope (x : SampleInputs) (p : Part) : (ropeStored x p).rope = ropeAfter x p := rfl

theorem ropeStored_sup (x : SampleInputs) (p : Part) : (ropeStored x p).sup = { p.sup with
    driveWord := some { ceiling := p.sup.ceiling, sequence := p.sup.driveSequence }
    driveSequence := (p.sup.driveSequence + 1) % 4 } := by
  simp [ropeStored]

theorem ropeTold_holds (x : SampleInputs) (p : Part) : StopHolds (ropeStored x p) (ropeTold x p) :=
  delivered_holds (sampleNotices_overflow _ _) (ropeStored x p)

/-- The rope at the end of the sample, but for C_eff and the noted entry. -/
theorem sampleStep_rope (x : SampleInputs) (p : Part) : (finish (sampleStep x p)).rope = { ropeAfter x p with
    ceff := (finish (sampleStep x p)).rope.ceff, stopEntry := (finish (sampleStep x p)).rope.stopEntry } := by
  have told := (ropeTold_holds x p).rope
  have published := (ropePublished_keeps ((ropeAfter x p).standstill && !p.rope.standstill) (ropeTold x p)).rope
  rw [← sampleStep_stages] at published
  exact (told.trans published).trans (finish_holds (sampleStep x p)).rope

theorem settleStandstill_reaches {invalid : Bool} {v : Int} {run : Nat} {declared : Bool} (hrun : run < 100)
    (h : (settleStandstill invalid v run declared).1 = 100) : (settleStandstill invalid v run declared).2 = true := by
  unfold settleStandstill at h ⊢
  split at h
  · cases h
  · split at h
    · dsimp only at h
      simp_all
    · cases h

theorem standstillReached_declares {x : SampleInputs} {p : Part} (h : standstillReached x p = true) : sampleDue p = true ∧
    (ropeAfter x p).standstill = true ∧ (ropeAfter x p).view.standstill = true := by
  simp only [standstillReached, Bool.and_eq_true, decide_eq_true_eq, beq_iff_eq] at h
  obtain ⟨⟨hdue, hrun⟩, hreached⟩ := h
  refine ⟨hdue, ?_⟩
  rw [ropeAfter, ropeSample_rope] at hreached ⊢
  have declared := settleStandstill_reaches hrun hreached
  dsimp only [ropeViewOf]
  rw [declared]
  exact ⟨rfl, rfl⟩

theorem standstill_declared {x : SampleInputs} {s : State} (hready : Ready s) (h : standstillReached x s.part = true) :
    After (.standstill x) s (fun t =>
      exec (.sampleTick x) s = .next t ∧ t.part.rope.standstill = true ∧ t.part.rope.view.standstill = true ∧
      (s.part.rope.standstill = false → t.part.sup.mode.isStopping = false)) := by
  obtain ⟨hdue, declared, shown⟩ := standstillReached_declares h
  have rope := sampleStep_rope x s.part
  refine ⟨_, occurs_acts hready.1 h, occurs_acts hready.1 hdue, ?_, ?_, fun hbefore => ?_⟩
  all_goals dsimp only
  · rw [rope]; exact declared
  · rw [rope]; exact shown
  · have stage := sampleStep_stages x s.part
    rw [declared, hbefore] at stage
    have stopped : (sampleStep x s.part).sup.mode.isStopping = false := by
      rw [stage]
      exact standstillEvent_ends _
    have told := (ropeTold_holds x s.part).rope.standstill
    have published := (ropePublished_keeps true (ropeTold x s.part)).rope.standstill
    have stands : (sampleStep x s.part).rope.standstill = true := by
      rw [stage]
      exact published.trans (told.trans declared)
    exact (finish_holds (sampleStep x s.part)).stands stands stopped

/-! ### The timers of the Supervisor (R43, R119, R134) -/

/-- A change of the Supervisor that leaves RUN, where no door is asked for anything: the judgements touch Launch Control and the start
queue alone. -/
theorem supervisor_occurs {g : Part → Bool} {f : Part → Part} {s : State} (hready : Ready s) (hg : g s.part = true)
    (hkeeps : SupKeeps s.part (f s.part)) (hcalls : (f s.part).calls = s.part.calls) (hstays : StaysOrStops s.part (f s.part)) :
    ∃ t, occurs g f s = .next t ∧ Frame [.window, .rope, .launch, .doors, .sup] s t ∧
      t.part.sup = { (f s.part).sup with svcStop := svcStopFor (f s.part).sup, fastStop := fastStopFor (f s.part).sup } ∧
      t.part.rope = (f s.part).rope ∧ t.part.window.attention = (f s.part).window.attention := by
  have alone : LaunchAlone (f s.part) (settle 64 (f s.part)) := by
    obtain ⟨-, -, -, -, -, -, -, -, -, -, -, harb, hseq, -⟩ := hkeeps
    exact settle_stops hready.2.1 hstays harb hseq
  have same : ∀ b ∉ [Block.window, .rope, .launch, .doors, .sup], Part.same b s.part (f s.part) := by
    intro b hb
    obtain ⟨h1, h2, h3, h4, h5, -, -, h8, h9, h10, -⟩ := hkeeps
    cases b with
    | window | rope | launch | doors | sup => simp at hb
    | calls => exact hcalls
    | _ => assumption
  obtain ⟨t, run, frame, part⟩ := occurs_alone hready hg alone same (by decide) (by decide)
  have settled := alone.1
  refine ⟨t, run, frame, ?_, ?_, ?_⟩
  · rw [part, finish_sup, settled]
  · rw [part, finish_rope, settled]
  · rw [part, finish_window, settled]

theorem standstillByTime_declares {s : State} (hready : Ready s) (hinvalid : s.part.rope.view.invalid = true)
    (hstopping : s.part.sup.mode.isStopping = true) (hbefore : s.part.rope.standstill = false)
    (hentry : ∀ e ∈ s.part.rope.stopEntry, reached s.part.clock.now (e + ms 30000) = true) (hnoted : s.part.rope.stopEntry ≠ none) :
    After .standstillByTime s (fun t =>
      t.part.rope.standstill = true ∧ t.part.sup.mode = (if causesStand s.part.sup then .stopped else .ready) ∧
      t.part.sup.svcStop = false ∧ t.part.sup.causes = s.part.sup.causes ∧ Frame [.window, .rope, .launch, .doors, .sup] s t) := by
  have due : standByTimeDue s.part = true := by
    obtain ⟨e, he⟩ := Option.ne_none_iff_exists'.mp hnoted
    simp [standByTimeDue, standstillByTimeDue, hinvalid, hstopping, hbefore, he, hentry e he]
  set q : Part := { s.part with rope := { s.part.rope with standstill := true } } with hq
  have declared : declareStandstill s.part = standstillEvent q := rfl
  obtain ⟨rope, causes, -, calls, -⟩ := standstillEvent_keeps q
  have mode := standstillEvent_mode q
  have stopping : q.sup.mode.isStopping = true := hstopping
  rw [if_pos stopping] at mode
  have keeps : SupKeeps s.part (declareStandstill s.part) := by
    rw [declared]
    have kept := standstillEvent_kept q
    exact kept
  have stops : StaysOrStops s.part (declareStandstill s.part) := by
    right
    rw [declared, mode]
    obtain e | e := stopEnd_cases q.sup <;> rw [e] <;> decide
  obtain ⟨t, run, frame, sup, trope, -⟩ := supervisor_occurs hready due keeps (by rw [declared]; exact calls) stops
  refine ⟨t, run, ?_, ?_, ?_, ?_, frame⟩
  · rw [trope, declared, rope.standstill]
  · rw [sup, declared]; exact mode
  · rw [sup, declared]
    dsimp only
    rw [svcStopFor, mode]
    obtain e | e := stopEnd_cases q.sup <;> rw [e] <;> rfl
  · rw [sup, declared]; exact causes.1

/-- The start-up timer and the link grace end with the entry into a mode that does not run (R119, R134). -/
theorem enterMode_timers {m : Mode} (hm : m.isRunning = false) {p : Part} (h : p.sup.mode ≠ m) :
    (enterMode m p).sup.startTimer = none ∧ (enterMode m p).sup.graceTimer = none := by
  have mode : (if p.sup.mode = .run then switchedSup { p.sup with mode := m } else { p.sup with mode := m }).mode = m := by
    split
    · exact (switchedSup_kept _).2
    · rfl
  have starting : m ≠ .starting := by rintro rfl; cases hm
  rw [enterMode_sup h]
  simp only [enteredSup, stopModeTimers, mode, hm, beq_iff_eq, starting, if_false, Bool.false_eq_true, and_self]

theorem changeMode_timers {p : Part} (h : p.sup.mode.isRunning = true) :
    (changeMode .stoppingService p).sup.startTimer = none ∧ (changeMode .stoppingService p).sup.graceTimer = none := by
  have away : p.sup.mode ≠ .stoppingService := by intro e; rw [e] at h; cases h
  have old : p.sup.mode.isStopping = false := by revert h; cases p.sup.mode <;> decide
  cases hs : p.rope.standstill with
  | false =>
    rw [changeMode_enters (.inr (.inr hs))]
    exact enterMode_timers rfl away
  | true =>
    rw [changeMode_ends rfl old hs]
    have mode : (enterMode .stoppingService p).sup.mode = .stoppingService := enterMode_mode ..
    split
    · exact enterMode_timers rfl (by rw [mode]; decide)
    · exact enterMode_timers rfl (by rw [mode]; decide)

/-- A SERVICE cause in STARTING or RUN (R121, R122). -/
theorem service_stops (k : CauseKind) (n : Nat) (b : Bool) {p : Part} (h : p.sup.mode.isRunning = true) :
    (report k n .service b p).sup.mode = (if p.rope.standstill then .stopped else .stoppingService) ∧
      (report k n .service b p).sup.ceiling = 0 ∧ (report k n .service b p).sup.startTimer = none ∧
      (report k n .service b p).sup.graceTimer = none ∧ (report k n .service b p).rope.stopEntry = some p.clock.now := by
  have stop : modeAfterCause p.sup.mode .service = .stoppingService := by revert h; cases p.sup.mode <;> decide
  have away : p.sup.mode ≠ modeAfterCause p.sup.mode .service := by rw [stop]; intro e; rw [e] at h; cases h
  have old : p.sup.mode.isStopping = false := by revert h; cases p.sup.mode <;> decide
  have noted : (causeNoted k n .service b p).sup.mode = p.sup.mode := causeNoted_mode k n .service b p
  obtain ⟨start, grace⟩ := changeMode_timers (p := causeNoted k n .service b p) (by rw [noted]; exact h)
  have entry := changeMode_stopEntry (m := .stoppingService) (p := causeNoted k n .service b p) rfl (by rw [noted]; exact old)
  have whole := report_eq k n .service b p
  rw [stop] at whole
  refine ⟨?_, (report_composed away).zero (report_not_running ..), by rw [whole]; exact start, by rw [whole]; exact grace,
    by rw [whole]; exact entry⟩
  rw [report_mode, h, stop, Bool.true_and]

/-- A timer of the Supervisor that reports a SERVICE cause in STARTING or RUN. -/
theorem timer_reports {g : Part → Bool} {k : CauseKind} {n : Nat} {b : Bool} {s : State} {q : Part} (hready : Ready s)
    (hg : g s.part = true) (hq : q = { s.part with sup := q.sup }) (hmode : q.sup.mode = s.part.sup.mode)
    (hrun : s.part.sup.mode.isRunning = true) {f : Part → Part} (hf : f s.part = report k n .service b q) :
    ∃ t, occurs g f s = .next t ∧ Frame [.window, .rope, .launch, .doors, .sup] s t ∧
      CausesKept (report k n .service b q).sup t.part.sup ∧
      t.part.sup.mode = (if s.part.rope.standstill then .stopped else .stoppingService) ∧ t.part.sup.startTimer = none ∧
      t.part.sup.graceTimer = none ∧ t.part.sup.ceiling = 0 ∧ t.part.rope.stopEntry = some s.part.clock.now ∧
      t.part.window.attention.getLsbD 2 = true := by
  obtain ⟨mode, ceiling, start, grace, entry⟩ := service_stops k n b (p := q) (by rw [hmode]; exact hrun)
  have calls := report_service_calls k n b q
  have keeps := report_kept k n .service b q
  have bit := report_attention k n .service b q
  have stops : StaysOrStops s.part (f s.part) := .inr (by rw [hf]; exact report_stops k n .service b q)
  rw [← hf] at mode ceiling start grace entry calls keeps bit ⊢
  have rope : q.rope = s.part.rope := by rw [hq]
  have clock : q.clock = s.part.clock := by rw [hq]
  rw [rope] at mode
  rw [clock] at entry
  have keeps' : SupKeeps s.part (f s.part) := by rw [hq] at keeps; exact keeps
  have calls' : (f s.part).calls = s.part.calls := by rw [calls, hq]
  obtain ⟨t, run, frame, sup, trope, attention⟩ := supervisor_occurs hready hg keeps' calls' stops
  refine ⟨t, run, frame, ?_, ?_, ?_, ?_, ?_, by rw [trope]; exact entry, by rw [attention]; exact bit⟩
  all_goals rw [sup]
  · exact ⟨rfl, rfl, rfl, rfl, rfl, rfl, rfl, rfl⟩
  · exact mode
  · exact start
  · exact grace
  · exact ceiling

/-- Settles O43. -/
theorem standstillStartAndLinkTimers : Obligations.StandstillStartAndLinkTimers := by
  refine ⟨fun x s hready => ⟨standstill_declared hready, standstillByTime_declares hready⟩,
    fun s hready => ⟨fun hmode htimer => ?_, fun hrun htimer => ?_⟩⟩
  · have due : startOver s.part = true := by simp [startOver, hmode, htimer]
    obtain ⟨t, run, frame, causes, mode, start, -, ceiling, entry, bit⟩ := timer_reports (k := .startFailed) (n := 0) (b := false)
      (f := report .startFailed 0 .service false) hready due rfl rfl (by rw [hmode]; rfl) rfl
    exact ⟨t, run, causes.entered (report_entered .startFailed 0 .service false s.part), mode, start, ceiling, entry, bit, frame⟩
  · have due : graceOver s.part = true := by simp [graceOver, hrun, htimer]
    obtain ⟨t, run, frame, causes, mode, -, grace, ceiling, -, -⟩ := timer_reports (k := .linkLost) (n := 0) (b := true)
      (f := graceEnds) (q := modSup (fun u => { u with graceTimer := none }) s.part) hready due rfl rfl hrun rfl
    exact ⟨t, run, causes.entered (report_entered ..), causes.present (report_present ..), mode, grace, ceiling, frame⟩

end Sys2Proof.Machine

/-! ENCODER_FAULTED, ENCODER_RETURNED, ROLLBACK, OVERSPEED and the slip condition (R27, R30, R38, R39, R41). -/

namespace Sys2Proof.Machine

/-! ### From the delivered notices to the end of the event -/

section
variable (x : SampleInputs) (p : Part)

/-- Whatever the publication and the judgements do, what the notices have told stands. -/
theorem sampleStep_tells : (∀ k n, CauseEntered k n (ropeTold x p).sup → CauseEntered k n (finish (sampleStep x p)).sup) ∧
    (∀ k n, k ≠ .doorFault → k ≠ .releaseTimeout → CauseStands k n (ropeTold x p).sup (finish (sampleStep x p)).sup) ∧
    (FastEntered (ropeTold x p).sup → FastEntered (finish (sampleStep x p)).sup) ∧
    BitsStay (ropeTold x p).window (finish (sampleStep x p)).window := by
  have published := ropePublished_keeps ((ropeAfter x p).standstill && !p.rope.standstill) (ropeTold x p)
  have ended := (finish_holds (sampleStep x p)).remembers
  rw [← sampleStep_stages] at published
  exact ⟨fun k n h => ended.entered (published.causes.entered h),
    fun k n hd hr => (CauseStands.of_kept published.causes).trans (finish_causeStands hd hr _),
    fun h => finish_fastStays _ (published.causes.fast h), published.bits.trans ended.bits⟩

/-- A station that has stopped running at the notices does not run at the end of the event. -/
theorem sampleStep_not_running (h : (ropeTold x p).sup.mode.isRunning = false) :
    (finish (sampleStep x p)).sup.mode.isRunning = false := by
  refine (finish_holds (sampleStep x p)).remembers.stopped ?_
  rw [sampleStep_stages, ropePublished_mode (completes_not_running h)]
  split
  · obtain e | e := stopEnd_cases (ropeTold x p).sup <;> rw [e] <;> rfl
  · exact h

end

/-- A report among a sample's notices, as the event leaves it. -/
theorem sample_reports {x : SampleInputs} {p : Part} {k : CauseKind} {n : Nat} {c : Category} {l t : List Notice}
    (h : sampleNotices p.rope (ropeAfter x p) = l ++ .report k n c true :: t) (ht : ∀ y ∈ t, OtherCause k n y.cause.1 y.cause.2)
    (hd : k ≠ .doorFault) (hr : k ≠ .releaseTimeout) :
    CauseEntered k n (finish (sampleStep x p)).sup ∧ ConditionPresent k n (finish (sampleStep x p)).sup ∧
      (finish (sampleStep x p)).sup.mode.isRunning = false ∧ (finish (sampleStep x p)).window.attention.getLsbD 2 = true := by
  have kinds := sampleNotices_overflow p.rope (ropeAfter x p)
  obtain ⟨entered, present, running, bit⟩ := delivered_reports (l := l) (c := c) ht
    (fun y hy => kinds y (by rw [h]; exact List.mem_append_right _ (List.mem_cons_of_mem _ hy))) (ropeStored x p)
  rw [← h, ← ropeTold] at entered present running bit
  obtain ⟨entered', stands', -, bits'⟩ := sampleStep_tells x p
  exact ⟨entered' k n entered, (stands' k n hd hr).1.mpr present, sampleStep_not_running x p running, bits' 2 bit⟩

/-- An end among a sample's notices. -/
theorem sample_ends {x : SampleInputs} {p : Part} {k : CauseKind} {n : Nat} {l t : List Notice}
    (h : sampleNotices p.rope (ropeAfter x p) = l ++ .gone k n :: t) (ht : ∀ y ∈ t, OtherCause k n y.cause.1 y.cause.2)
    (hd : k ≠ .doorFault) (hr : k ≠ .releaseTimeout) : ¬ ConditionPresent k n (finish (sampleStep x p)).sup := by
  have gone := delivered_ends (l := l) ht (ropeStored x p)
  rw [← h, ← ropeTold] at gone
  obtain ⟨-, stands', -⟩ := sampleStep_tells x p
  exact fun e => gone ((stands' k n hd hr).1.mp e)

/-! ### The encoders (R30) -/

theorem situation_faults {a b c d : Bool} (h : ((!a && c) || (!b && d)) = true) :
    faultSituation c d ≠ 0 ∧ faultSituation c d ≠ faultSituation a b := by
  revert a b c d; decide

theorem situation_returns {a b c d : Bool} (h : ((a && !c) || (b && !d)) = true) :
    faultSituation a b ≠ 0 ∧ faultSituation c d ≠ faultSituation a b := by
  revert a b c d; decide

theorem encoderNotices_faults {a b : Nat} (hb : b ≠ 0) (h : b ≠ a) : encoderNotices a b =
    (if a = 0 then [] else [.gone .encoderFault a]) ++ [.report .encoderFault b (if b == 3 then .fast else .service) true] := by
  have hne : (a == b) = false := by simpa using h.symm
  simp [encoderNotices, hne, hb]

theorem encoderNotices_leaves {a b : Nat} (ha : a ≠ 0) (h : b ≠ a) : ∃ t, encoderNotices a b = .gone .encoderFault a :: t ∧
    ∀ y ∈ t, y.cause = (.encoderFault, b) := by
  have hne : (a == b) = false := by simpa using h.symm
  refine ⟨if b == 0 then [] else [.report .encoderFault b (if b == 3 then .fast else .service) true], by simp [encoderNotices, hne, ha], ?_⟩
  intro y hy
  split at hy
  · cases hy
  · rw [List.mem_singleton.mp hy]; rfl

/-- The notices behind those of the encoders. -/
def laterNotices (r s : Rope) : List Notice :=
  slipNotices r.slipPresent s.slipPresent ++ (runNotices .rollback 5 r.rollRun s.rollRun ++ runNotices .overspeed 50 r.overRun s.overRun)

theorem sampleNotices_split (r s : Rope) : sampleNotices r s = encoderNotices (situationOf r) (situationOf s) ++ laterNotices r s := by
  simp only [sampleNotices, laterNotices, List.append_assoc]

theorem laterNotices_kind (r s : Rope) : ∀ y ∈ laterNotices r s, y.cause.1 ≠ .encoderFault := by
  intro y hy
  simp only [laterNotices, List.mem_append] at hy
  obtain h | h | h := hy
  · rw [slipNotices_cause y h]; decide
  · rw [runNotices_cause y h]; decide
  · rw [runNotices_cause y h]; decide

theorem later_other {r s : Rope} {n : Nat} : ∀ y ∈ laterNotices r s, OtherCause .encoderFault n y.cause.1 y.cause.2 :=
  fun y hy => .inl (laterNotices_kind r s y hy)

/-- The ENCODER_FAULT condition of a situation that is left ends (R30). -/
theorem situation_leaves {x : SampleInputs} {p : Part} (ha : situationOf p.rope ≠ 0) (h : situationOf (ropeAfter x p) ≠ situationOf p.rope) :
    ¬ ConditionPresent .encoderFault (situationOf p.rope) (finish (sampleStep x p)).sup := by
  obtain ⟨t, ht, hcause⟩ := encoderNotices_leaves ha h
  refine sample_ends (l := []) (t := t ++ laterNotices p.rope (ropeAfter x p)) ?_ (fun y hy => ?_) (by decide) (by decide)
  · rw [sampleNotices_split, ht]; rfl
  · obtain hy | hy := List.mem_append.mp hy
    · rw [hcause y hy]; exact .inr h
    · exact later_other y hy

/-- The ENCODER_FAULT condition of a situation that begins is reported (R30). -/
theorem situation_begins {x : SampleInputs} {p : Part} (hb : situationOf (ropeAfter x p) ≠ 0)
    (h : situationOf (ropeAfter x p) ≠ situationOf p.rope) :
    CauseEntered .encoderFault (situationOf (ropeAfter x p)) (finish (sampleStep x p)).sup ∧
      ConditionPresent .encoderFault (situationOf (ropeAfter x p)) (finish (sampleStep x p)).sup := by
  have list : sampleNotices p.rope (ropeAfter x p) = (if situationOf p.rope = 0 then [] else [.gone .encoderFault (situationOf p.rope)]) ++
      .report .encoderFault (situationOf (ropeAfter x p)) (if situationOf (ropeAfter x p) == 3 then .fast else .service) true ::
        laterNotices p.rope (ropeAfter x p) := by
    rw [sampleNotices_split, encoderNotices_faults hb h, List.append_assoc]
    rfl
  obtain ⟨entered, present, -⟩ := sample_reports list later_other (by decide) (by decide)
  exact ⟨entered, present⟩

theorem ropeAfter_source (x : SampleInputs) (p : Part) :
    (ropeAfter x p).source = chooseSource (ropeAfter x p).e1.faulted (ropeAfter x p).e2.faulted := by
  rw [ropeAfter, ropeSample_rope]
  obtain ⟨e1, e2, source, -⟩ := sampleMeasured_kept (activeProfile p.sup) x.enc1 x.enc2 p.rope
  dsimp only
  rw [e1, e2, source]
  rfl

/-- What the rope shows at the end of the event of the encoders. -/
theorem sampleStep_encoders (x : SampleInputs) (p : Part) : (finish (sampleStep x p)).rope.e1 = (ropeAfter x p).e1 ∧
    (finish (sampleStep x p)).rope.e2 = (ropeAfter x p).e2 ∧ (finish (sampleStep x p)).rope.source = (ropeAfter x p).source ∧
    (finish (sampleStep x p)).rope.view = (ropeAfter x p).view ∧
    (finish (sampleStep x p)).rope.slipPresent = (ropeAfter x p).slipPresent := by
  rw [sampleStep_rope]
  exact ⟨rfl, rfl, rfl, rfl, rfl⟩

/-! ### The runs (R39, R41) -/

theorem runNotices_reports {k : CauseKind} {n a b : Nat} (ha : a < n) (hb : n ≤ b) : runNotices k n a b = [.report k 0 .fast true] := by
  simp [runNotices, ha, hb]

theorem ropeAfter_rolls {x : SampleInputs} {p : Part} (h : 5 ≤ (ropeAfter x p).rollRun) : (ropeAfter x p).view.v < 0 := by
  rw [ropeAfter, ropeSample_rope] at h ⊢
  dsimp only [ropeViewOf] at h ⊢
  split at h
  next hrun =>
    simp only [Bool.and_eq_true, decide_eq_true_eq] at hrun
    omega
  next => omega

theorem ropeAfter_overruns {x : SampleInputs} {p : Part} (h : 50 ≤ (ropeAfter x p).overRun) : 0 < (ropeAfter x p).view.v := by
  rw [ropeAfter, ropeSample_rope] at h ⊢
  dsimp only [ropeViewOf] at h ⊢
  split at h
  next hrun =>
    simp only [Bool.and_eq_true, decide_eq_true_eq] at hrun
    omega
  next => omega

theorem rollback_reports {x : SampleInputs} {p : Part} (ha : p.rope.rollRun < 5) (hb : 5 ≤ (ropeAfter x p).rollRun) :
    CauseEntered .rollback 0 (finish (sampleStep x p)).sup ∧ ConditionPresent .rollback 0 (finish (sampleStep x p)).sup ∧
      (finish (sampleStep x p)).sup.mode.isRunning = false := by
  have list : sampleNotices p.rope (ropeAfter x p) = (encoderNotices (situationOf p.rope) (situationOf (ropeAfter x p)) ++
      slipNotices p.rope.slipPresent (ropeAfter x p).slipPresent) ++
        .report .rollback 0 .fast true :: runNotices .overspeed 50 p.rope.overRun (ropeAfter x p).overRun := by
    rw [sampleNotices, runNotices_reports ha hb, List.append_assoc _ [_]]
    rfl
  obtain ⟨entered, present, running, -⟩ := sample_reports list
    (fun y hy => .inl (by rw [runNotices_cause y hy]; decide)) (by decide) (by decide)
  exact ⟨entered, present, running⟩

theorem overspeed_reports {x : SampleInputs} {p : Part} (ha : p.rope.overRun < 50) (hb : 50 ≤ (ropeAfter x p).overRun) :
    CauseEntered .overspeed 0 (finish (sampleStep x p)).sup ∧ ConditionPresent .overspeed 0 (finish (sampleStep x p)).sup ∧
      (finish (sampleStep x p)).sup.mode.isRunning = false := by
  have list : sampleNotices p.rope (ropeAfter x p) = (encoderNotices (situationOf p.rope) (situationOf (ropeAfter x p)) ++
      slipNotices p.rope.slipPresent (ropeAfter x p).slipPresent ++ runNotices .rollback 5 p.rope.rollRun (ropeAfter x p).rollRun) ++
        [.report .overspeed 0 .fast true] := by
    rw [sampleNotices, runNotices_reports ha hb]
  obtain ⟨entered, present, running, -⟩ := sample_reports list (fun y hy => nomatch hy) (by decide) (by decide)
  exact ⟨entered, present, running⟩

end Sys2Proof.Machine

/-! The slip condition in a sample tick (R38), and the obligation on the rope's reports. -/

namespace Sys2Proof.Machine

/-! ### The slip check -/

/-- A slip that is found is found on a valid speed of 500 mm/s or more, by two healthy encoders (R38). -/
theorem ropeAfter_slips {x : SampleInputs} {p : Part} (h : (ropeAfter x p).slipPresent = true) :
    situationOf (ropeAfter x p) = 0 ∧ (ropeAfter x p).view.slipMade = true ∧ (ropeAfter x p).standstill = false := by
  obtain ⟨e1, e2, -⟩ := sampleMeasured_kept (activeProfile p.sup) x.enc1 x.enc2 p.rope
  rw [situationOf]
  rw [ropeAfter, ropeSample_rope] at h ⊢
  dsimp only [ropeViewOf] at h ⊢
  rw [e1, e2]
  rw [Bool.and_eq_true] at h
  obtain ⟨checked, -⟩ := h
  have made := checked
  rw [sampleChecked_eq] at checked
  obtain ⟨healthy1, healthy2, source, fast, -⟩ := of_decide_eq_true checked
  refine ⟨by rw [healthy1, healthy2]; rfl, made, ?_⟩
  have valid : (sampleSource x.enc1 x.enc2 p.rope == .none) = false := by simpa using source
  rw [valid, (settleStandstill_valid (run := p.rope.standRun) (declared := p.rope.standstill)).2 (by omega)]
  rfl

theorem runs_other {r s : Rope} : ∀ y ∈ runNotices .rollback 5 r.rollRun s.rollRun ++ runNotices .overspeed 50 r.overRun s.overRun,
    OtherCause .ropeSlip 0 y.cause.1 y.cause.2 := by
  intro y hy
  obtain hy | hy := List.mem_append.mp hy
  · rw [runNotices_cause y hy]; exact .inl (by decide)
  · rw [runNotices_cause y hy]; exact .inl (by decide)

theorem encoder_other {a b : Nat} : ∀ y ∈ encoderNotices a b, OtherCause .ropeSlip 0 y.cause.1 y.cause.2 :=
  fun y hy => .inl (by rw [encoderNotices_cause y hy]; decide)

section
variable {x : SampleInputs} {p : Part}

/-- The notices around that of the slip check. -/
theorem sampleNotices_slip {l : List Notice} (h : slipNotices p.rope.slipPresent (ropeAfter x p).slipPresent = l) :
    sampleNotices p.rope (ropeAfter x p) = encoderNotices (situationOf p.rope) (situationOf (ropeAfter x p)) ++
      (l ++ (runNotices .rollback 5 p.rope.rollRun (ropeAfter x p).rollRun ++
        runNotices .overspeed 50 p.rope.overRun (ropeAfter x p).overRun)) := by
  rw [sampleNotices_split, laterNotices, h]

/-- The encoders' notices at two healthy encoders end a condition at most: the mode stands. -/
theorem healthy_mode (a : Nat) (q : Part) : ((encoderNotices a 0).foldl deliver q).sup.mode = q.sup.mode := by
  by_cases h : a = 0
  · simp [encoderNotices, h]
  · have notices : encoderNotices a 0 = [.gone .encoderFault a] := by simp [encoderNotices, h]
    rw [notices]
    show (gone .encoderFault a q).sup.mode = _
    rw [gone_sup]

/-- The mode after a FAST cause, as the table of R121 has it where no standstill stands declared. -/
def fastMode : Mode → Mode
  | .off => .off
  | .ready | .stopped => .stopped
  | .starting | .run | .stoppingService | .stoppingFast => .stoppingFast

theorem fastMode_eq (m : Mode) : modeAfterCause m .fast = fastMode m ∧ fastMode m ∈ [Mode.off, .stopped, .stoppingFast] ∧
    (fastMode m).isRunning = false := by
  cases m <;> exact ⟨rfl, by decide, rfl⟩

/-- The slip begins: the mode follows the table of R121. -/
theorem slip_mode (hbefore : p.rope.slipPresent = false) (hafter : (ropeAfter x p).slipPresent = true) :
    (finish (sampleStep x p)).sup.mode = fastMode p.sup.mode ∧ FastEntered (finish (sampleStep x p)).sup := by
  obtain ⟨situation, -, standing⟩ := ropeAfter_slips hafter
  have list := sampleNotices_slip (x := x) (p := p) (l := [.report .ropeSlip 0 .fast true]) (by rw [hbefore, hafter]; rfl)
  obtain ⟨table, rests, running⟩ := fastMode_eq p.sup.mode
  have kinds := sampleNotices_overflow p.rope (ropeAfter x p)
  rw [list] at kinds
  set q := (encoderNotices (situationOf p.rope) (situationOf (ropeAfter x p))).foldl deliver (ropeStored x p) with hq
  have mode : q.sup.mode = p.sup.mode := by
    rw [hq, situation, healthy_mode, ropeStored_sup]
  have stand : q.rope.standstill = false := by
    have holds := delivered_holds (l := encoderNotices (situationOf p.rope) (situationOf (ropeAfter x p)))
      (fun y hy => kinds y (List.mem_append_left _ hy)) (ropeStored x p)
    rw [← hq] at holds
    exact holds.rope.standstill.trans standing
  have reported : (report .ropeSlip 0 .fast true q).sup.mode = fastMode p.sup.mode := by
    rw [report_mode, mode, stand, Bool.and_false, table]
    rfl
  have told : ropeTold x p = (runNotices .rollback 5 p.rope.rollRun (ropeAfter x p).rollRun ++
      runNotices .overspeed 50 p.rope.overRun (ropeAfter x p).overRun).foldl deliver (report .ropeSlip 0 .fast true q) := by
    rw [ropeTold, list, List.foldl_append, ← hq]
    rfl
  have later := delivered_holds (l := runNotices .rollback 5 p.rope.rollRun (ropeAfter x p).rollRun ++
      runNotices .overspeed 50 p.rope.overRun (ropeAfter x p).overRun)
    (fun y hy => kinds y (List.mem_append_right _ (List.mem_append_right _ hy))) (report .ropeSlip 0 .fast true q)
  have noted := delivered_fastStays (runNotices .rollback 5 p.rope.rollRun (ropeAfter x p).rollRun ++
      runNotices .overspeed 50 p.rope.overRun (ropeAfter x p).overRun) _ (report_fast .ropeSlip 0 true q)
  have toldMode := later.rests (by rw [reported]; exact rests)
  rw [← told] at toldMode noted
  rw [reported] at toldMode
  have stepMode : (sampleStep x p).sup.mode = fastMode p.sup.mode := by
    rw [sampleStep_stages, ropePublished_mode (completes_not_running (by rw [toldMode]; exact running)), standing, Bool.false_and,
      if_neg (by simp), toldMode]
  refine ⟨((finish_holds (sampleStep x p)).rests (by rw [stepMode]; exact rests)).trans stepMode, ?_⟩
  obtain ⟨-, -, fast, -⟩ := sampleStep_tells x p
  exact fast noted

theorem slip_begins (hbefore : p.rope.slipPresent = false) (hafter : (ropeAfter x p).slipPresent = true) :
    CauseEntered .ropeSlip 0 (finish (sampleStep x p)).sup ∧ ConditionPresent .ropeSlip 0 (finish (sampleStep x p)).sup ∧
      (finish (sampleStep x p)).window.attention.getLsbD 2 = true := by
  have list := sampleNotices_slip (x := x) (p := p) (l := [.report .ropeSlip 0 .fast true]) (by rw [hbefore, hafter]; rfl)
  obtain ⟨entered, present, -, bit⟩ := sample_reports list runs_other (by decide) (by decide)
  exact ⟨entered, present, bit⟩

/-- The causes of a gone condition are listed as GONE, and STOP_CAUSE is set where one was PRESENT (R127). -/
theorem gone_lists (k : CauseKind) (n : Nat) (p : Part) :
    (gone k n p).sup.causes.filter (fun c => c.names k n) = (p.sup.causes.filter (fun c => c.names k n)).map (fun c => { c with present := false }) ∧
      ((p.sup.causes.filter (fun c => c.names k n)).any (fun c => c.present) = true →
        (gone k n p).window.attention.getLsbD 2 = true) := by
  have causes : (gone k n p).sup.causes = p.sup.causes.map (fun c => if c.names k n then { c with present := false } else c) := by
    unfold gone
    dsimp only
    split <;> rfl
  refine ⟨?_, fun h => ?_⟩
  · rw [causes]
    induction p.sup.causes with
    | nil => rfl
    | cons c l ih =>
      rw [List.map_cons]
      by_cases hc : c.names k n = true
      · have named : ({ c with present := false } : Cause).names k n = true := hc
        rw [if_pos hc, List.filter_cons, if_pos named, List.filter_cons, if_pos hc, List.map_cons, ih]
      · rw [if_neg hc, List.filter_cons, if_neg hc, List.filter_cons, if_neg hc, ih]
  · have becomes : p.sup.causes.any (fun c => c.names k n && c.present) = true := by
      rw [← h, List.any_filter]
    rw [gone, becomes]
    simp [attend, Attn.bit]

theorem slip_ends (hbefore : p.rope.slipPresent = true) (hafter : (ropeAfter x p).slipPresent = false) :
    ¬ ConditionPresent .ropeSlip 0 (finish (sampleStep x p)).sup ∧
      (finish (sampleStep x p)).sup.causes.filter (fun c => c.names .ropeSlip 0) =
        (p.sup.causes.filter (fun c => c.names .ropeSlip 0)).map (fun c => { c with present := false }) ∧
      ((p.sup.causes.filter (fun c => c.names .ropeSlip 0)).any (fun c => c.present) = true →
        (finish (sampleStep x p)).window.attention.getLsbD 2 = true) := by
  have list := sampleNotices_slip (x := x) (p := p) (l := [.gone .ropeSlip 0]) (by rw [hbefore, hafter]; rfl)
  refine ⟨sample_ends list runs_other (by decide) (by decide), ?_⟩
  set q := (encoderNotices (situationOf p.rope) (situationOf (ropeAfter x p))).foldl deliver (ropeStored x p) with hq
  have first : CauseStands .ropeSlip 0 p.sup q.sup := by
    refine CauseStands.trans (v := (ropeStored x p).sup) ?_ (delivered_causeStands encoder_other (ropeStored x p))
    rw [ropeStored_sup]
    exact ⟨Iff.rfl, rfl⟩
  have told : ropeTold x p = (runNotices .rollback 5 p.rope.rollRun (ropeAfter x p).rollRun ++
      runNotices .overspeed 50 p.rope.overRun (ropeAfter x p).overRun).foldl deliver (gone .ropeSlip 0 q) := by
    rw [ropeTold, list, List.foldl_append, ← hq]
    rfl
  have kinds := sampleNotices_overflow p.rope (ropeAfter x p)
  rw [list] at kinds
  have bits := (delivered_holds (l := runNotices .rollback 5 p.rope.rollRun (ropeAfter x p).rollRun ++
      runNotices .overspeed 50 p.rope.overRun (ropeAfter x p).overRun)
    (fun y hy => kinds y (List.mem_append_right _ (List.mem_append_right _ hy))) (gone .ropeSlip 0 q)).remembers.bits
  have later := delivered_causeStands (runs_other (r := p.rope) (s := ropeAfter x p)) (gone .ropeSlip 0 q)
  rw [← told] at bits later
  obtain ⟨-, stands, -, bits'⟩ := sampleStep_tells x p
  obtain ⟨-, listed⟩ := later.trans (stands .ropeSlip 0 (by decide) (by decide))
  obtain ⟨gone, bit⟩ := gone_lists .ropeSlip 0 q
  refine ⟨by rw [listed, gone, first.2], fun h => bits' 2 (bits 2 (bit ?_))⟩
  rw [first.2]
  exact h

theorem slip_stands (h : p.rope.slipPresent = (ropeAfter x p).slipPresent) :
    CauseStands .ropeSlip 0 p.sup (finish (sampleStep x p)).sup := by
  have list := sampleNotices_slip (x := x) (p := p) (l := []) (by rw [h]; cases (ropeAfter x p).slipPresent <;> rfl)
  have stored : CauseStands .ropeSlip 0 p.sup (ropeStored x p).sup := by
    rw [ropeStored_sup]
    exact ⟨Iff.rfl, rfl⟩
  have told : CauseStands .ropeSlip 0 (ropeStored x p).sup (ropeTold x p).sup := by
    rw [ropeTold, list]
    refine delivered_causeStands (fun y hy => ?_) _
    obtain hy | hy := List.mem_append.mp hy
    · exact encoder_other y hy
    · exact runs_other y hy
  obtain ⟨-, stands, -⟩ := sampleStep_tells x p
  exact (stored.trans told).trans (stands .ropeSlip 0 (by decide) (by decide))

end

/-- Settles O42: the notices of a sample follow from the rope before and after it, and each is delivered. -/
theorem ropeRunsAreReported : Obligations.RopeRunsAreReported := by
  intro x s hready situation slip
  obtain ⟨e1, e2, source, view, present⟩ := sampleStep_encoders x s.part
  have after : situation (finish (sampleStep x s.part)).rope = situationOf (ropeAfter x s.part) := by
    show faultSituation _ _ = _
    rw [e1, e2]; rfl
  have chosen : (finish (sampleStep x s.part)).rope.source =
      chooseSource (finish (sampleStep x s.part)).rope.e1.faulted (finish (sampleStep x s.part)).rope.e2.faulted := by
    rw [source, e1, e2, ropeAfter_source]
  refine ⟨fun h => ?_, fun h => ?_, fun h => ?_, fun h => ?_, fun hdue => ?_⟩
  · have parts := h
    rw [encoderFaults, Bool.and_eq_true] at parts
    obtain ⟨hdue, hfault⟩ := parts
    obtain ⟨begun, changed⟩ := situation_faults hfault
    obtain ⟨entered, condition⟩ := situation_begins begun changed
    refine ⟨_, occurs_acts hready.1 h, occurs_acts hready.1 hdue, ?_⟩
    dsimp only
    rw [after]
    exact ⟨changed, chosen, entered, condition, fun ha => situation_leaves ha changed⟩
  · have parts := h
    rw [encoderReturns, Bool.and_eq_true] at parts
    obtain ⟨hdue, hreturn⟩ := parts
    obtain ⟨stood, changed⟩ := situation_returns hreturn
    have left := situation_leaves stood changed
    refine ⟨_, occurs_acts hready.1 h, occurs_acts hready.1 hdue, ?_⟩
    dsimp only
    exact ⟨left, chosen⟩
  · have parts := h
    simp only [rollbackReached, Bool.and_eq_true, decide_eq_true_eq] at parts
    obtain ⟨⟨hdue, hbefore⟩, hreached⟩ := parts
    obtain ⟨entered, condition, running⟩ := rollback_reports hbefore hreached
    refine ⟨_, occurs_acts hready.1 h, occurs_acts hready.1 hdue, entered, condition, ?_, running⟩
    dsimp only
    rw [view]
    exact ropeAfter_rolls hreached
  · have parts := h
    simp only [overspeedReached, Bool.and_eq_true, decide_eq_true_eq] at parts
    obtain ⟨⟨hdue, hbefore⟩, hreached⟩ := parts
    obtain ⟨entered, condition, running⟩ := overspeed_reports hbefore hreached
    refine ⟨_, occurs_acts hready.1 h, occurs_acts hready.1 hdue, entered, condition, ?_, running⟩
    dsimp only
    rw [view]
    exact ropeAfter_overruns hreached
  · refine ⟨_, occurs_acts hready.1 hdue, present, fun hbefore hafter => ?_, fun hbefore hafter => ?_, fun hsame => ?_⟩
    · rw [present] at hafter
      obtain ⟨entered, condition, bit⟩ := slip_begins hbefore hafter
      obtain ⟨mode, fast⟩ := slip_mode hbefore hafter
      obtain ⟨-, made, -⟩ := ropeAfter_slips hafter
      refine ⟨entered, condition, fast, bit, by dsimp only; rw [view]; exact made, ?_⟩
      dsimp only
      rw [mode]
      cases s.part.sup.mode <;> rfl
    · rw [present] at hafter
      exact slip_ends hbefore hafter
    · rw [present] at hsame
      obtain ⟨condition, listed⟩ := slip_stands hsame
      exact ⟨listed, condition⟩

end Sys2Proof.Machine

/-! What SAMPLE_TICK takes of the inputs, and how it ends a start-up (R1, R25, R46, R50, R64, R119, R133, R175). -/

namespace Sys2Proof.Machine

/-! ### The inputs that a sample debounces -/

/-- A pass over a whole table reaches each entry once. -/
theorem foldl_modTable_get {α : Type} {n : Nat} (f : Fin n → α → α) {l : List (Fin n)} (hl : l.Nodup) (t : Vector α n) (k : Fin n) :
    (l.foldl (fun t i => modTable t i (f i)) t).get k = if k ∈ l then f k (t.get k) else t.get k := by
  induction l generalizing t with
  | nil => rfl
  | cons i l ih =>
    obtain ⟨fresh, rest⟩ := List.nodup_cons.mp hl
    rw [List.foldl_cons, ih rest, modTable_get]
    by_cases hk : k = i
    · subst hk
      simp [fresh]
    · simp [hk]

theorem foldl_finRange_get {α : Type} {n : Nat} (f : Fin n → α → α) (t : Vector α n) (k : Fin n) :
    ((List.finRange n).foldl (fun t i => modTable t i (f i)) t).get k = f k (t.get k) := by
  rw [foldl_modTable_get f (List.nodup_finRange n), if_pos (List.mem_finRange k)]

theorem sampleDetectors_get (x : SampleInputs) (p : Part) (k : Fin 7) : (sampleDetectors x p).track.detectors.get k =
    sampleDetector p.clock.now p.sensors.lockSense.high (x.detectors.getLsbD k.val) (p.track.detectors.get k) := by
  have folded (lock : Bool) (l : List (Fin 7)) (q : Part) :
      (l.foldl (fun p i => modTrack (fun t => { t with
        detectors := modTable t.detectors i (sampleDetector p.clock.now lock (x.detectors.getLsbD i.val)) }) p) q).track.detectors =
        l.foldl (fun t i => modTable t i (sampleDetector q.clock.now lock (x.detectors.getLsbD i.val))) q.track.detectors := by
    induction l generalizing q with
    | nil => rfl
    | cons i l ih => rw [List.foldl_cons, List.foldl_cons, ih]; rfl
  rw [sampleDetectors, folded]
  exact foldl_finRange_get (fun i => sampleDetector p.clock.now p.sensors.lockSense.high (x.detectors.getLsbD i.val)) _ k

theorem sampleSwitches_get (x : SampleInputs) (p : Part) (k : Fin 8) : (sampleSwitches x p).sensors.switches.get k =
    { p.sensors.switches.get k with input := (p.sensors.switches.get k).input.sample (x.switches.getLsbD k.val) } := by
  have folded (f : Fin 8 → Switch → Switch) (l : List (Fin 8)) (q : Part) :
      (l.foldl (fun p i => modSwitch i (f i) p) q).sensors.switches = l.foldl (fun t i => modTable t i (f i)) q.sensors.switches := by
    induction l generalizing q with
    | nil => rfl
    | cons i l ih => rw [List.foldl_cons, List.foldl_cons, ih]; rfl
  rw [sampleSwitches, folded, foldl_finRange_get]

theorem sampleSwitches_lockSense (x : SampleInputs) (p : Part) :
    (sampleSwitches x p).sensors.lockSense = p.sensors.lockSense.sample x.lockSense := by
  have folded (f : Fin 8 → Switch → Switch) (l : List (Fin 8)) (q : Part) :
      (l.foldl (fun p i => modSwitch i (f i) p) q).sensors.lockSense = q.sensors.lockSense := by
    induction l generalizing q with
    | nil => rfl
    | cons i l ih => rw [List.foldl_cons, ih]; rfl
  exact folded _ _ _

theorem sampleOthers_kept (x : SampleInputs) (p : Part) :
    (sampleOthers x p).sensors = p.sensors ∧ (sampleOthers x p).track = p.track := ⟨rfl, rfl⟩

theorem sampleOthers_callSlot (x : SampleInputs) (p : Part) (v : VoiceNo) :
    callSlot (sampleOthers x p) v = sampleHook (x.hooks.getLsbD v.val) (callSlot p v) := by
  match v with
  | 0 =>
    rw [sampleOthers, callSlot_modCall_ne 1 0 _ _ (by decide), callSlot_modCall_same]
    rfl
  | 1 =>
    rw [sampleOthers, callSlot_modCall_same, callSlot_modCall_ne 0 1 _ _ (by decide)]
    rfl

section
variable (x : SampleInputs) (p : Part)

theorem sampledInputs_lockSense : (sampledInputs x p).sensors.lockSense = p.sensors.lockSense.sample x.lockSense := by
  rw [sampledInputs, (sampleOthers_kept _ _).1]
  simp only [sampleDetectors_kept, sampleSwitches_lockSense]
  rfl

theorem sampledInputs_switch (k : Fin 8) : (sampledInputs x p).sensors.switches.get k =
    { p.sensors.switches.get k with input := (p.sensors.switches.get k).input.sample (x.switches.getLsbD k.val) } := by
  rw [sampledInputs, (sampleOthers_kept _ _).1]
  simp only [sampleDetectors_kept, sampleSwitches_get]
  rfl

theorem sampledInputs_detector (k : Fin 7) : (sampledInputs x p).track.detectors.get k =
    sampleDetector p.clock.now (sampledInputs x p).sensors.lockSense.high (x.detectors.getLsbD k.val) (p.track.detectors.get k) := by
  rw [sampledInputs_lockSense, sampledInputs, (sampleOthers_kept _ _).2, sampleDetectors_get, sampleSwitches_lockSense]
  simp only [sampleSwitches_kept]
  rfl

theorem sampledInputs_track :
    (sampledInputs x p).track = { p.track with detectors := (sampledInputs x p).track.detectors } := by
  rw [sampledInputs, (sampleOthers_kept _ _).2, sampleDetectors_part]
  simp only [sampleSwitches_kept]
  rfl

theorem sampledInputs_hook (v : VoiceNo) :
    callSlot (sampledInputs x p) v = sampleHook (x.hooks.getLsbD v.val) (callSlot p v) := by
  rw [sampledInputs, sampleOthers_callSlot]
  refine congrArg _ (callSlot_of_calls_eq ?_ v)
  simp only [sampleDetectors_kept, sampleSwitches_kept]
  rfl

/-- What the sample leaves of the part beside its rope, its causes and its mode is what the inputs left. -/
theorem sampleStep_still : (finish (sampleStep x p)).still = (sampledInputs x p).still := by
  have delivered (l : List Notice) (q : Part) : (l.foldl deliver q).still = q.still := by
    induction l generalizing q with
    | nil => rfl
    | cons n l ih =>
      rw [List.foldl_cons, ih]
      cases n with
      | report k n c b => exact still_report k n c b q
      | gone k n => exact still_gone k n q
  have completed (q : Part) : (startComplete q).still = q.still := by
    rw [startComplete_eq]
    split
    · exact still_enterMode .run q
    · rfl
  rw [still_finish, sampleStep_stages, ropePublished, ropeTold]
  split
  · rw [still_standstillEvent, still_callLaunch, completed, delivered]; rfl
  · rw [still_callLaunch, completed, delivered]; rfl

theorem sampleStep_retInput : (finish (sampleStep x p)).launch.retInput = p.launch.retInput.sample x.retClosed := by
  rw [finish_launch, settle_retInput, sampleStep_eq]
  simp

theorem sampleStep_drive : (finish (sampleStep x p)).sup.driveWord = some { ceiling := p.sup.ceiling, sequence := p.sup.driveSequence } ∧
    (finish (sampleStep x p)).sup.driveSequence = (p.sup.driveSequence + 1) % 4 := by
  have told := (ropeTold_holds x p).word
  have published := (ropePublished_keeps ((ropeAfter x p).standstill && !p.rope.standstill) (ropeTold x p)).word
  rw [← sampleStep_stages] at published
  obtain ⟨word, sequence⟩ := (finish_holds (sampleStep x p)).word
  rw [ropeStored_sup] at told
  exact ⟨word.trans (published.1.trans told.1), sequence.trans (published.2.trans told.2)⟩

theorem sampleStep_hook (v : VoiceNo) :
    (callSlot (finish (sampleStep x p)) v).hook = (sampleHook (x.hooks.getLsbD v.val) (callSlot p v)).hook ∧
      (callSlot (finish (sampleStep x p)) v).hookInput = (callSlot p v).hookInput.sample (x.hooks.getLsbD v.val) := by
  have told := (ropeTold_holds x p).hooks v
  have published := (ropePublished_keeps ((ropeAfter x p).standstill && !p.rope.standstill) (ropeTold x p)).calls
  rw [← sampleStep_stages] at published
  obtain ⟨hook, input⟩ := (finish_holds (sampleStep x p)).hooks v
  have stored : callSlot (ropeStored x p) v = sampleHook (x.hooks.getLsbD v.val) (callSlot p v) := sampledInputs_hook x p v
  rw [stored] at told
  rw [callSlot_of_calls_eq published] at hook input
  exact ⟨hook.trans told.1, input.trans told.2⟩

/-! ### The rope of the sample -/

theorem ropeAfter_started : (ropeAfter x p).started = true ∧ (ropeAfter x p).view.sampleTime = p.clock.now := by
  rw [ropeAfter, ropeSample_rope]
  dsimp only [ropeViewOf]
  rw [sampleMeasured_eq]
  exact ⟨rfl, rfl⟩

theorem ropeAfter_gap : ∀ inc ∈ (ropeAfter x p).window.head?,
    ((ropeAfter x p).gapAcc : Int) = max 0 (min 2000000000 ((p.rope.gapAcc : Int) + inc.um)) := by
  obtain ⟨-, -, -, window, gap, -⟩ := sampleMeasured_kept (activeProfile p.sup) x.enc1 x.enc2 p.rope
  rw [ropeAfter, ropeSample_rope]
  dsimp only
  rw [window, gap]
  intro inc hinc
  have head : sampleIncrement (activeProfile p.sup) x.enc1 x.enc2 p.rope = inc := by simpa using hinc
  rw [settleGap_eq, head]

end

/-! ### The end of a start-up (R119) -/

/-- The notices of a sample that reports nothing end conditions alone. -/
def Notice.ends : Notice → Bool
  | .report .. => false
  | .gone .. => true

theorem delivered_quiet {l : List Notice} (h : ∀ n ∈ l, n.ends = true) (p : Part) :
    (l.foldl deliver p).rope = p.rope ∧
      (l.foldl deliver p).sup = { p.sup with causes := (l.foldl deliver p).sup.causes, present := (l.foldl deliver p).sup.present } := by
  induction l generalizing p with
  | nil => exact ⟨rfl, rfl⟩
  | cons n l ih =>
    rw [List.foldl_cons]
    obtain ⟨rope, sup⟩ := ih (fun m hm => h m (List.mem_cons_of_mem _ hm)) (deliver p n)
    cases n with
    | report k n c b => exact nomatch h (.report k n c b) List.mem_cons_self
    | gone k n =>
      obtain ⟨-, -, kept, -⟩ := gone_kept k n p
      have first := gone_sup k n p
      refine ⟨rope.trans kept, ?_⟩
      rw [show deliver p (.gone k n) = gone k n p from rfl] at sup ⊢
      generalize (List.foldl deliver (gone k n p) l).sup = u at sup ⊢
      rw [sup, first]

theorem runNotices_ends {k : CauseKind} {n a b : Nat} (h : ¬ (a < n ∧ n ≤ b)) : ∀ y ∈ runNotices k n a b, y.ends = true := by
  have none : (decide (a < n) && decide (n ≤ b)) = false := by simpa using h
  unfold runNotices
  rw [none]
  intro y hy
  split at hy
  · contradiction
  · split at hy <;> simp at hy
    rw [hy]; rfl

/-- A sample that reports no cause ends conditions at most. -/
theorem sampleNotices_ends {x : SampleInputs} {p : Part} (hdue : sampleDue p = true) (h : ¬ SampleReports x p) :
    ∀ n ∈ sampleNotices p.rope (ropeAfter x p), n.ends = true := by
  simp only [SampleReports, not_or, rollbackReached, overspeedReached, hdue, Bool.true_and, Bool.and_eq_true, decide_eq_true_eq] at h
  obtain ⟨encoders, slip, roll, fast⟩ := h
  intro n hn
  simp only [sampleNotices, List.mem_append] at hn
  obtain ((hn | hn) | hn) | hn := hn
  · unfold encoderNotices at hn
    by_cases same : situationOf p.rope = situationOf (ropeAfter x p)
    · simp [same] at hn
    · have none : situationOf (ropeAfter x p) = 0 := by
        by_contra begun
        exact encoders ⟨begun, fun e => same e.symm⟩
      rw [none] at hn
      simp at hn
      rw [hn.2]; rfl
  · unfold slipNotices at hn
    split at hn
    next begun =>
      obtain ⟨now, before⟩ : (ropeAfter x p).slipPresent = true ∧ p.rope.slipPresent = false := by simpa using begun
      exact absurd ⟨before, now⟩ slip
    next => split at hn <;> simp at hn; rw [hn]; rfl
  · exact runNotices_ends roll n hn
  · exact runNotices_ends fast n hn

/-- A new situation of the encoders stops the station (R30). -/
theorem encoders_stop {x : SampleInputs} {p : Part} (begun : situationOf (ropeAfter x p) ≠ 0)
    (changed : situationOf (ropeAfter x p) ≠ situationOf p.rope) : (finish (sampleStep x p)).sup.mode.isRunning = false := by
  have notices : sampleNotices p.rope (ropeAfter x p) = (if situationOf p.rope = 0 then [] else [.gone .encoderFault (situationOf p.rope)]) ++
      .report .encoderFault (situationOf (ropeAfter x p)) (if situationOf (ropeAfter x p) == 3 then .fast else .service) true ::
        laterNotices p.rope (ropeAfter x p) := by
    rw [sampleNotices_split, encoderNotices_faults begun changed, List.append_assoc]
    rfl
  exact (sample_reports notices later_other (by decide) (by decide)).2.2.1

/-- A sample that reports a cause leaves a station that does not run (R121). -/
theorem sample_reports_stops {x : SampleInputs} {p : Part} (h : SampleReports x p) :
    (finish (sampleStep x p)).sup.mode.isRunning = false := by
  obtain ⟨begun, changed⟩ | ⟨before, after⟩ | roll | fast := h
  · exact encoders_stop begun changed
  · rw [(slip_mode before after).1]
    exact (fastMode_eq p.sup.mode).2.2
  · simp only [rollbackReached, Bool.and_eq_true, decide_eq_true_eq] at roll
    exact (rollback_reports roll.1.2 roll.2).2.2
  · simp only [overspeedReached, Bool.and_eq_true, decide_eq_true_eq] at fast
    exact (overspeed_reports fast.1.2 fast.2).2.2

section
variable {x : SampleInputs} {p : Part} (hdue : sampleDue p = true) (hquiet : ¬ SampleReports x p)
include hdue hquiet

/-- The notices of a sample that reports nothing leave the rope's computation, the mode and its timers. -/
theorem ropeTold_quiet : (ropeTold x p).rope = ropeAfter x p ∧ (ropeTold x p).sup = { (ropeStored x p).sup with
    causes := (ropeTold x p).sup.causes, present := (ropeTold x p).sup.present } :=
  delivered_quiet (sampleNotices_ends hdue hquiet) (ropeStored x p)

theorem ropeTold_mode : (ropeTold x p).sup.mode = p.sup.mode ∧ (ropeTold x p).sup.startTimer = p.sup.startTimer := by
  rw [(ropeTold_quiet hdue hquiet).2, ropeStored_sup]
  exact ⟨rfl, rfl⟩

theorem ropeTold_completes (h : p.sup.mode = .starting) : completes (ropeTold x p) = true ↔
    (ropeAfter x p).view.invalid = false ∧ 50 ≤ (ropeAfter x p).view.v := by
  rw [completes, (ropeTold_mode hdue hquiet).1, (ropeTold_quiet hdue hquiet).1, h]
  simp

/-- A start-up that is not over goes on with its timer. -/
theorem starting_goes_on (hstarting : p.sup.mode = .starting)
    (h : ¬ ((ropeAfter x p).view.invalid = false ∧ 50 ≤ (ropeAfter x p).view.v)) :
    sampleStep x p = callLaunch (ropeTold x p) := by
  have goes : completes (ropeTold x p) = false := by
    rw [← Bool.not_eq_true, ropeTold_completes hdue hquiet hstarting]
    exact h
  have mode : (callLaunch (ropeTold x p)).sup.mode = .starting := (ropeTold_mode hdue hquiet).1.trans hstarting
  rw [sampleStep_stages, ropePublished, startComplete_eq, goes, if_neg Bool.false_ne_true,
    standstillEvent_rests (by rw [mode]; rfl), ite_self]

end

theorem enterMode_run {p : Part} (h : p.sup.mode = .starting) : (enterMode .run p).sup.mode = .run ∧
    (enterMode .run p).sup.startTimer = none ∧ Composed (enterMode .run p).sup ∧ (enterMode .run p).window.attention.getLsbD 1 = true := by
  have changes : p.sup.mode ≠ .run := by rw [h]; decide
  refine ⟨enterMode_mode .run p, ?_, enterMode_composed changes, (enterMode_called changes).2⟩
  rw [enterMode_sup changes, enteredSup, if_neg changes]
  rfl

/-- Where nothing waits the end of an event leaves the mode, its timer and C, and no attention bit falls. -/
theorem finish_calm_mode {p : Part} (h : NothingWaits p) : (finish p).sup.mode = p.sup.mode ∧
    (finish p).sup.startTimer = p.sup.startTimer ∧ (Composed p.sup → Composed (finish p).sup) ∧ BitsStay p.window (finish p).window := by
  obtain ⟨⟨-, bits, -, -, -, -, -, -, -, -, sup, -⟩, -⟩ := settle_calm h
  rw [finish_sup, finish_window]
  generalize (settle 64 p).window = w at bits
  generalize settle 64 p = q at sup
  rw [sup]
  exact ⟨rfl, rfl, id, bits⟩

section
variable {x : SampleInputs} {p : Part}

theorem sampleStep_nothingWaits (h : NothingWaits p) : NothingWaits (sampleStep x p) := by
  have kept : (sampleStep x p).doors = p.doors ∧ (sampleStep x p).sequencer = p.sequencer := by
    rw [sampleStep_eq]; simp
  rw [NothingWaits, kept.1, kept.2]
  exact h

/-- A start-up ends in RUN at the first quiet sample that publishes a valid 50 mm/s (R119). -/
theorem starting_ends (hdue : sampleDue p = true) (hquiet : ¬ SampleReports x p) (hstarting : p.sup.mode = .starting)
    (hwaits : NothingWaits p) : let t := finish (sampleStep x p)
    if (ropeAfter x p).view.invalid = false ∧ 50 ≤ (ropeAfter x p).view.v then
      t.sup.mode = .run ∧ t.sup.startTimer = none ∧ CeilingStands t.sup ∧ t.window.attention.getLsbD 1 = true
    else t.sup.mode = .starting ∧ t.sup.startTimer = p.sup.startTimer := by
  obtain ⟨mode, timer, composed, bits⟩ := finish_calm_mode (sampleStep_nothingWaits (x := x) hwaits)
  obtain ⟨toldMode, toldTimer⟩ := ropeTold_mode hdue hquiet
  dsimp only
  rw [mode, timer, ceilingStands_iff]
  split
  next fast =>
    have step : sampleStep x p = callLaunch (enterMode .run (ropeTold x p)) := by
      rw [sampleStep_stages, ropePublished_completes ((ropeTold_completes hdue hquiet hstarting).mpr fast)]
    obtain ⟨runs, ended, stands, bit⟩ := enterMode_run (toldMode.trans hstarting)
    rw [step] at composed bits ⊢
    exact ⟨runs, ended, composed stands, bits 1 bit⟩
  next slow =>
    rw [starting_goes_on hdue hquiet hstarting slow]
    exact ⟨toldMode.trans hstarting, toldTimer⟩

/-- A sample brings the station to RUN from STARTING alone, on a valid speed of 50 mm/s or more. -/
theorem sampleStep_run (hdue : sampleDue p = true) (h : (finish (sampleStep x p)).sup.mode = .run) : p.sup.mode = .run ∨
    (p.sup.mode = .starting ∧ (finish (sampleStep x p)).rope.view.invalid = false ∧ 50 ≤ (finish (sampleStep x p)).rope.view.v) := by
  have step := (finish_holds (sampleStep x p)).run h
  by_cases reports : SampleReports x p
  · have stops := sample_reports_stops reports
    rw [h] at stops
    cases stops
  obtain ⟨toldMode, -⟩ := ropeTold_mode hdue reports
  rw [(sampleStep_encoders x p).2.2.2.1]
  rw [sampleStep_stages] at step
  by_cases hc : completes (ropeTold x p) = true
  · have starting := toldMode.symm.trans (completes_starting hc).1
    exact .inr ⟨starting, (ropeTold_completes hdue reports starting).mp hc⟩
  · rw [ropePublished_mode (by simpa using hc)] at step
    split at step
    · obtain e | e := stopEnd_cases (ropeTold x p).sup <;> rw [e] at step <;> cases step
    · exact .inl (toldMode.symm.trans step)

end

/-- Settles O41, by the stages of a sample: the inputs, the notices of its rope, the publication and the end of the event. -/
theorem sampleTickTakesTheInputs : Obligations.SampleTickTakesTheInputs := by
  intro x s hready hdue
  have hstill := sampleStep_still x s.part
  obtain ⟨hclock, htrack, hsensors, hgrip, hline, hmessages, -⟩ := still_fields hstill
  have hcabins := still_cabins hstill
  have inputs := sampledInputs_kept x s.part
  obtain ⟨iclock, -, -, -, -, -, -, icabins, -, igrip, -, -, -, -, iline, imessages, -⟩ := inputs
  have hrope := sampleStep_rope x s.part
  obtain ⟨started, time⟩ := ropeAfter_started x s.part
  have gap := ropeAfter_gap x s.part
  have hret := sampleStep_retInput x s.part
  obtain ⟨word, sequence⟩ := sampleStep_drive x s.part
  have hooks := sampleStep_hook x s.part
  have run := sampleStep_run (x := x) hdue
  have start := fun hs hw hq => starting_ends (x := x) hdue hq hs hw
  have stops := sample_reports_stops (x := x) (p := s.part)
  have steady := finish_steady (sampleStep x s.part)
  have detectors := sampledInputs_detector x s.part
  have switches := sampledInputs_switch x s.part
  have lock := sampledInputs_lockSense x s.part
  refine ⟨_, occurs_acts hready.1 hdue, ?_⟩
  dsimp only at start ⊢
  generalize finish (sampleStep x s.part) = q at *
  refine ⟨⟨rfl, rfl, rfl, rfl, steady, fun b _ hb => ?_⟩, fun j => ?_, hclock.trans iclock, ?_, fun k => ?_, ?_, fun k => ?_, hret, word, sequence,
    ?_, ?_, rfl, hrope, ?_, fun v => ?_, start, run, stops⟩
  · cases b with
    | grip => exact hgrip.trans igrip
    | line => exact hline.trans iline
    | messages => exact hmessages.trans imessages
    | _ => exact absurd (by decide) hb
  · rw [← icabins]; exact hcabins j
  · rw [htrack]; exact sampledInputs_track x s.part
  · rw [htrack, hsensors, detectors k]
    refine ⟨rfl, ?_⟩
    exact if_congr (by simp [sampleDetector]) rfl rfl
  · rw [hsensors]; exact lock
  · rw [hsensors]; exact switches k
  · rw [hrope]; exact started
  · rw [hrope]; exact time
  · rw [hrope]; exact gap
  · obtain ⟨hook, input⟩ := hooks v
    refine ⟨input, ?_⟩
    rw [hook, input]
    dsimp only [sampleHook]
    simp only [Option.isNone_iff_eq_none]

end Sys2Proof.Machine

/-! Work on one door channel leaves the others, and what a step samples of every channel; so do the judgements at the end of an event. -/

namespace Sys2Proof.Machine

/-- What only a step and a configuration change of a channel: its inputs and its configuration. -/
def Channel.seen (c : Channel) : Bool × Debounce × Debounce × Debounce × DoorConfig := (c.started, c.limA, c.limB, c.lockSns, c.config)

/-- The DOOR cap stands for a channel in FAULT with cap on fault yes (R93). -/
def CapStands (m : ChannelNo) (p : Part) : Prop :=
  (channel p m).state = .fault → (channel p m).config.capOnFault = true → p.sup.caps.door = true

/-- The work on channel `n`: the other channels stay, none of them joins the start queue, and what is seen of `n` stays. -/
structure Plies (n : ChannelNo) (p q : Part) : Prop where
  others : ∀ m, m ≠ n → channel q m = channel p m
  seen : (channel q n).seen = (channel p n).seen
  queue : ∀ m, m ≠ n → .door m ∈ q.doors.queue → .door m ∈ p.doors.queue
  cap : ∀ m, m ≠ n → CapStands m p → CapStands m q

namespace Plies
variable {n : ChannelNo} {p q r : Part}

theorem refl (n : ChannelNo) (p : Part) : Plies n p p := ⟨fun _ _ => rfl, rfl, fun _ _ h => h, fun _ _ h => h⟩

theorem trans (h : Plies n p q) (g : Plies n q r) : Plies n p r :=
  ⟨fun m hm => (g.others m hm).trans (h.others m hm), g.seen.trans h.seen, fun m hm hr => h.queue m hm (g.queue m hm hr),
    fun m hm hc => g.cap m hm (h.cap m hm hc)⟩

theorem of_doors (hd : q.doors = p.doors) (hc : q.sup.caps = p.sup.caps) : Plies n p q :=
  ⟨fun m _ => channel_of_doors_eq hd m, by rw [channel_of_doors_eq hd], fun m _ h => by rwa [← hd],
    fun m _ h => by rw [CapStands, channel_of_doors_eq hd, hc]; exact h⟩

theorem modChannel (f : Channel → Channel) (p : Part) (h : ∀ c, (f c).seen = c.seen := by exact fun _ => rfl) :
    Plies n p (modChannel n f p) :=
  ⟨fun m hm => channel_modChannel_ne n m f p hm, by rw [channel_modChannel_same, h], fun _ _ h => h,
    fun m hm hc => by rw [CapStands, channel_modChannel_ne n m f p hm]; exact hc⟩

/-- The seen inputs and configurations of all channels. -/
theorem all_seen (h : Plies n p q) (m : ChannelNo) : (channel q m).seen = (channel p m).seen := by
  by_cases hm : m = n
  · rw [hm]; exact h.seen
  · rw [h.others m hm]

end Plies

section
variable (n : ChannelNo)

theorem plies_report (k : CauseKind) (s : Nat) (c : Category) (b : Bool) (p : Part) : Plies n p (report k s c b p) :=
  .of_doors (report_kept k s c b p).2.2.2.2.2.2.1 (report_caps k s c b p)

theorem plies_tellOwner (o : DoorOutcome) (p : Part) : Plies n p (tellOwner n o p) := by
  have freed : Plies n p (modChannel n (fun c => { c with owner := .none }) p) := .modChannel _ p
  obtain ⟨-, doors, sup, -⟩ := tellOwner_kept n o p
  exact freed.trans (.of_doors doors (by rw [sup]; rfl))

theorem plies_endOperation (o : DoorOutcome) (p : Part) : Plies n p (endOperation n o p) :=
  (plies_tellOwner n o p).trans (.modChannel _ _)

theorem plies_joinQueue (p : Part) : Plies n p (joinQueue n p) := by
  refine ⟨fun _ _ => rfl, rfl, fun m hm h => ?_, fun _ _ h => h⟩
  obtain h | h := List.mem_append.mp h
  · exact h
  · rw [List.mem_singleton, Requester.door.injEq] at h
    exact absurd h hm

theorem plies_leaveQueue (p : Part) : Plies n p (leaveQueue n p) :=
  ⟨fun _ _ => rfl, rfl, fun _ _ h => (List.mem_filter.mp h).1, fun _ _ h => h⟩

theorem plies_stopOutputs (p : Part) : Plies n p (stopOutputs n p) := .modChannel _ p

theorem plies_restIn (st : DoorState) (p : Part) : Plies n p (restIn n st p) := by
  have entered : Plies n p (modChannel n (fun c => { c with state := st }) p) := .modChannel _ p
  unfold restIn
  dsimp only
  split
  · exact entered.trans (.of_doors rfl rfl)
  · exact entered

theorem refreshDoorCap_caps (p : Part) : (refreshDoorCap p).doors = p.doors ∧ (refreshDoorCap p).sup.caps = { p.sup.caps with
    door := p.doors.channels.toList.any (fun c => c.state == .fault && c.config.capOnFault) } :=
  ⟨by simp, by rw [refreshDoorCap, setDoorCap, setCaps_caps]⟩

/-- The DOOR cap, once refreshed, stands for every channel in FAULT with cap on fault yes. -/
theorem refreshDoorCap_stands (p : Part) (m : ChannelNo) : CapStands m (refreshDoorCap p) := by
  obtain ⟨doors, caps⟩ := refreshDoorCap_caps p
  intro hfault hcap
  rw [channel_of_doors_eq doors] at hfault hcap
  rw [caps]
  refine List.any_eq_true.mpr ⟨channel p m, ?_, by rw [hfault, hcap]; rfl⟩
  exact Vector.mem_toList_iff.mpr (Vector.getElem_mem m.isLt)

theorem plies_refreshDoorCap (p : Part) : Plies n p (refreshDoorCap p) :=
  ⟨fun m _ => channel_of_doors_eq (refreshDoorCap_caps p).1 m, by rw [channel_of_doors_eq (refreshDoorCap_caps p).1],
    fun m _ h => by rwa [(refreshDoorCap_caps p).1] at h, fun m _ _ => refreshDoorCap_stands p m⟩

/-- A fault before its report: outputs off, the entry out of the queue, the reason noted, the owner told (R93). -/
def faultNoted (n : ChannelNo) (why : DoorReason) (p : Part) : Part :=
  attend .door (endOperation n (.failed why)
    (modChannel n (fun c => { c with state := .fault, lastReason := why, faults := count16 c.faults }) (leaveQueue n (stopOutputs n p))))

theorem enterFault_eq (why : DoorReason) (p : Part) : enterFault n why p = refreshDoorCap
    (match (channel (faultNoted n why p) n).config.category.toCategory with
    | none => faultNoted n why p
    | some cat => report .doorFault n.val cat true (faultNoted n why p)) := rfl

theorem plies_faultNoted (why : DoorReason) (p : Part) : Plies n p (faultNoted n why p) :=
  (plies_stopOutputs n p).trans <| (plies_leaveQueue n _).trans <| (Plies.modChannel _ _).trans <|
    (plies_endOperation n _ _).trans (.of_doors rfl rfl)

theorem plies_enterFault (why : DoorReason) (p : Part) : Plies n p (enterFault n why p) := by
  rw [enterFault_eq]
  refine ((plies_faultNoted n why p).trans ?_).trans (plies_refreshDoorCap n _)
  split
  · exact .refl n _
  · exact plies_report ..

theorem plies_enterWaiting (m : Motion) (p : Part) : Plies n p (enterWaiting n m p) :=
  (Plies.modChannel _ p).trans (plies_joinQueue n _)

theorem plies_finishAt (e : End) (o : DoorOutcome) (p : Part) : Plies n p (finishAt n e o p) :=
  (plies_restIn n _ p).trans (plies_endOperation n o _)

theorem plies_enterLocking (p : Part) : Plies n p (enterLocking n p) := by
  have noted : Plies n p (modChannel n (fun c => { c with
    state := .locking, waits := .none, motor := none, lockRel := false, since := p.clock.now }) p) := .modChannel _ p
  unfold enterLocking
  dsimp only
  split
  · exact noted.trans (plies_finishAt ..)
  · exact noted

theorem plies_enterUnlocking (p : Part) : Plies n p (enterUnlocking n p) := by
  have noted : Plies n p (modChannel n (fun c => { c with state := .unlocking, lockRel := true, since := p.clock.now }) p) :=
    .modChannel _ p
  unfold enterUnlocking
  dsimp only
  split
  · exact noted
  · exact noted.trans (plies_enterWaiting ..)

theorem plies_arriveMove (e : End) (p : Part) : Plies n p (arriveMove n e p) := by
  unfold arriveMove
  dsimp only
  refine (plies_stopOutputs n p).trans ?_
  split
  · exact plies_enterLocking n _
  · split
    · exact (plies_endOperation n _ _).trans ((Plies.modChannel _ _).trans (plies_enterWaiting ..))
    · exact plies_finishAt n _ _ _

theorem plies_retryMove (p : Part) : Plies n p (retryMove n p) := by
  have counted : Plies n p (modChannel n (fun c => { c with retriesUsed := c.retriesUsed + 1 }) p) := .modChannel _ p
  unfold retryMove
  dsimp only
  refine counted.trans ?_
  generalize modChannel n _ p = q
  have shown (i : SlotNo) (k : Nat) : Plies n q (setProgress i k q) := .of_doors rfl rfl
  split
  · exact (shown _ _).trans (plies_enterWaiting ..)
  · exact plies_enterWaiting ..

theorem plies_enterDwell (p : Part) : Plies n p (enterDwell n p) := by
  have noted : Plies n p (modChannel n (fun c => { c with state := .reopenDwell, waits := .none, since := p.clock.now }) p) :=
    .modChannel _ p
  unfold enterDwell
  dsimp only
  split
  · exact noted.trans (plies_retryMove n _)
  · exact noted

theorem plies_arriveReversal (p : Part) : Plies n p (arriveReversal n p) := by
  unfold arriveReversal
  dsimp only
  refine (plies_stopOutputs n p).trans ?_
  split
  · exact plies_enterDwell n _
  · split
    · exact (Plies.modChannel _ _).trans ((plies_finishAt ..).trans (.of_doors rfl rfl))
    · exact plies_enterFault n _ _

theorem plies_startMotion (p : Part) : Plies n p (startMotion n p) := by
  have begun : Plies n p (modChannel n (motionStarted p.clock.now) p) := .modChannel _ p
  rw [startMotion_eq]
  split
  · split
    · exact begun.trans (plies_arriveReversal n _)
    · exact begun.trans (plies_arriveMove n _ _)
  · exact begun

theorem plies_operateFromRest (t : End) (p : Part) : Plies n p (operateFromRest n t p) := by
  unfold operateFromRest
  dsimp only
  split
  · exact plies_finishAt ..
  · split
    · exact plies_enterUnlocking n p
    · exact plies_enterWaiting ..

theorem plies_turnBack (t : End) (p : Part) : Plies n p (turnBack n t p) := by
  unfold turnBack
  dsimp only
  refine (plies_stopOutputs n p).trans ?_
  split
  · exact plies_arriveMove n _ _
  · exact plies_enterWaiting ..

theorem plies_retarget (t : End) (p : Part) : Plies n p (retarget n t p) := by
  unfold retarget
  split
  · exact (plies_leaveQueue n p).trans (plies_arriveMove n _ _)
  · exact .modChannel _ p

theorem plies_operateTakeover (t : End) (p : Part) : Plies n p (operateTakeover n t p) := by
  unfold operateTakeover
  dsimp only
  split
  · split
    · exact .refl n p
    · exact plies_enterLocking n p
  · exact plies_retarget ..
  · split
    · exact .refl n p
    · exact plies_turnBack ..
  · split
    · exact .refl n p
    · exact plies_turnBack ..
  · split
    · exact .modChannel _ p
    · exact plies_turnBack ..
  · split
    · exact plies_finishAt ..
    · exact plies_enterWaiting ..
  · split
    · exact .refl n p
    · exact plies_enterUnlocking n p
  · exact plies_operateFromRest ..

end

theorem plies_claimForAction (a : Action) (p : Part) : Plies a.channel p (claimForAction a p) :=
  Plies.trans (q := modSeq (fun s => { s with flights := modTable s.flights a.channel (fun _ => some (flightOf a p.clock.now)) }) p)
    (.of_doors rfl rfl) (.modChannel _ _)

theorem plies_takeOperation (n : ChannelNo) (t : End) {claim : Part → Part} (hclaim : ∀ p, Plies n p (claim p)) (p : Part) :
    Plies n p (takeOperation n t claim p) :=
  (plies_tellOwner n _ p).trans <| (hclaim _).trans <| (Plies.modChannel _ _).trans (plies_operateTakeover n t _)

/-- An action issued to a channel that is closed is handed back, and no channel changes (R81, R93, R111). -/
theorem issueAction_closed {a : Action} {p : Part} (h : (channel p a.channel).closed = true) :
    (issueAction a p).doors = p.doors ∧ (issueAction a p).sup = p.sup := by
  rw [issueAction, if_pos h]
  exact ⟨(handOutcome_kept ..).2.1, (handOutcome_kept ..).2.2.1⟩

theorem plies_issueAction (a : Action) (p : Part) : Plies a.channel p (issueAction a p) := by
  by_cases h : (channel p a.channel).closed = true
  · obtain ⟨doors, sup⟩ := issueAction_closed h
    exact .of_doors doors (by rw [sup])
  · rw [issueAction, if_neg h]
    exact plies_takeOperation a.channel a.target (plies_claimForAction a) p

/-! ### The judgements -/

/-- What the judgements leave: what is seen of every channel; and a channel in FAULT that waits for no start, with its DOOR cap. -/
structure Spares (n : ChannelNo) (p q : Part) : Prop where
  seen : ∀ m, (channel q m).seen = (channel p m).seen
  fault : (channel p n).state = .fault → .door n ∉ p.doors.queue →
    channel q n = channel p n ∧ .door n ∉ q.doors.queue ∧ (CapStands n p → CapStands n q)

namespace Spares
variable {n : ChannelNo} {p q r : Part}

theorem refl (n : ChannelNo) (p : Part) : Spares n p p := ⟨fun _ => rfl, fun _ h => ⟨rfl, h, id⟩⟩

theorem trans (h : Spares n p q) (g : Spares n q r) : Spares n p r := by
  refine ⟨fun m => (g.seen m).trans (h.seen m), fun hstate hqueue => ?_⟩
  obtain ⟨same, free, cap⟩ := h.fault hstate hqueue
  obtain ⟨same', free', cap'⟩ := g.fault (by rw [same]; exact hstate) free
  exact ⟨same'.trans same, free', fun hc => cap' (cap hc)⟩

theorem of_channels (hd : q.doors.channels = p.doors.channels) (hc : q.sup.caps = p.sup.caps)
    (hq : ∀ m, .door m ∈ q.doors.queue → .door m ∈ p.doors.queue) : Spares n p q := by
  have same (m : ChannelNo) : channel q m = channel p m := by rw [channel, hd, channel]
  exact ⟨fun m => by rw [same], fun _ h => ⟨same n, fun h' => h (hq n h'), fun h => by rw [CapStands, same, hc]; exact h⟩⟩

theorem of_doors (hd : q.doors = p.doors) (hc : q.sup.caps = p.sup.caps) : Spares n p q :=
  .of_channels (by rw [hd]) hc (fun _ h => by rwa [← hd])

end Spares

theorem Plies.spares {m n : ChannelNo} {p q : Part} (h : Plies m p q) (hne : n ≠ m) : Spares n p q :=
  ⟨h.all_seen, fun _ hqueue => ⟨h.others n hne, fun hq => hqueue (h.queue n hne hq), h.cap n hne⟩⟩

section
variable (n : ChannelNo)

theorem spares_judgeLaunch (p : Part) : Spares n p (judgeLaunch p) := by
  have sup : (judgeLaunch p).sup = p.sup := by
    unfold judgeLaunch
    dsimp only
    (repeat' split) <;> simp [modLaunch, requestRelease, removeRequest]
  refine .of_channels ?_ (by rw [sup]) fun m hm => ?_
  · unfold judgeLaunch
    dsimp only
    (repeat' split) <;> simp [modLaunch, requestRelease, removeRequest]
  · revert hm
    unfold judgeLaunch
    dsimp only
    (repeat' split) <;> simp [modLaunch, requestRelease, removeRequest]

theorem judgeWatch_caps (p : Part) : (judgeWatch p).sup.caps = p.sup.caps := by
  unfold judgeWatch
  split
  · exact report_caps ..
  · split
    · rw [gone_sup]; rfl
    · rfl

theorem spares_grantRetainer (p : Part) : Spares n p (grantRetainer p) := by
  unfold grantRetainer
  split
  · exact .of_doors (by simp) (judgeWatch_caps _)
  · exact .refl n p

theorem spares_handGrant {r : Requester} (h : r ≠ .door n) (p : Part) : Spares n p (handGrant r p) := by
  cases r with
  | door m => exact (plies_startMotion m p).spares fun e => h (by rw [e])
  | retainer => exact spares_grantRetainer n p

theorem spares_judgeArbiter (p : Part) : Spares n p (judgeArbiter p) := by
  unfold judgeArbiter
  split
  · exact .refl n p
  next r rest hqueue =>
    split
    · have recorded : Spares n p { p with doors := recordGrant r p.clock.now { p.doors with queue := rest } } :=
        .of_channels rfl rfl fun m hm => by rw [hqueue]; exact List.mem_cons_of_mem _ hm
      by_cases hr : r = .door n
      · subst hr
        exact ⟨fun m => ((plies_startMotion n _).all_seen m).trans (recorded.seen m),
          fun _ hfree => absurd (by rw [hqueue]; exact List.mem_cons_self) hfree⟩
      · exact (recorded.trans (spares_handGrant n hr _)).trans (.of_doors rfl rfl)
    · exact .refl n p

theorem spares_issueAction (a : Action) (p : Part) : Spares n p (issueAction a p) := by
  by_cases hn : n = a.channel
  · subst hn
    refine ⟨(plies_issueAction a p).all_seen, fun hstate hqueue => ?_⟩
    obtain ⟨doors, sup⟩ := issueAction_closed (a := a) (p := p) (by simp [Channel.closed, hstate])
    exact (Spares.of_doors (n := a.channel) doors (by rw [sup])).fault hstate hqueue
  · exact (plies_issueAction a p).spares hn

theorem spares_judgeActions (b : Bool) (l : List Action) (served : List ChannelNo) (p : Part) :
    Spares n p (judgeActions b served l p).2 := by
  induction l generalizing served p with
  | nil => exact .refl n p
  | cons a t ih =>
    unfold judgeActions
    dsimp only
    split
    · exact ih _ _
    · split
      · exact Spares.trans (q := dropCondition p) (.of_doors rfl rfl) (ih _ _)
      · split
        · exact (spares_issueAction n a p).trans (ih _ _)
        · split
          · exact (spares_issueAction n a p).trans (ih _ _)
          · exact ih _ _

theorem spares_judgeSequencer (b : Bool) (p : Part) : Spares n p (judgeSequencer b p) :=
  (spares_judgeActions n b p.sequencer.actions [] p).trans (.of_doors rfl rfl)

theorem spares_settle (p : Part) : Spares n p (settle 64 p) := by
  refine settle_keeps (P := Spares n p) (fun q hq => hq.trans ?_) (fun q hq => hq.trans (spares_judgeLaunch n q)) 64 (.refl n p)
  have noted (w : Work) : Spares n q { q with work := w } := .of_doors rfl rfl
  unfold settleOnce
  split
  · exact (noted _).trans (spares_judgeLaunch n _)
  · split
    · exact (noted _).trans (spares_judgeArbiter n _)
    · split
      · exact (noted _).trans (spares_judgeSequencer n false _)
      · exact .refl n q

theorem spares_finish (p : Part) : Spares n p (finish p) :=
  (spares_settle n p).trans (.of_doors (finish_doors p) (by rw [finish_sup]))

end

end Sys2Proof.Machine

/-! What each act of a door channel makes of the channel itself, as a function of the channel and the present time (R83 to R93). -/

namespace Sys2Proof.Machine

/-- The operation has ended: nobody owns the channel, and no target or motion is left. -/
def endedChannel (c : Channel) : Channel := { c with owner := .none, target := none, waits := .none }

/-- Motor and lock release off. -/
def stoppedChannel (c : Channel) : Channel := { c with motor := none, lockRel := false }

/-- The operation has ended at the end `e`. -/
def doneChannel (e : End) (c : Channel) : Channel := endedChannel { c with state := e.atState }

/-- Left its end, with reason LEFT_END (R92). -/
def leftChannel (c : Channel) : Channel := endedChannel { c with state := .unknown, lastReason := .leftEnd }

/-- In FAULT (R93). -/
def faultedChannel (why : DoorReason) (c : Channel) : Channel :=
  endedChannel { stoppedChannel c with state := .fault, lastReason := why, faults := count16 c.faults }

/-- In LOCKING, or AT_A at once where the lock is sensed (R86). -/
def lockedChannel (now : Time) (c : Channel) : Channel :=
  let d := { c with state := .locking, waits := .none, motor := none, lockRel := false, since := now }
  if c.lockSns.high then doneChannel .a d else d

/-- A cabin operator's automatic return (R85). -/
def returningChannel (c : Channel) : Channel :=
  moveWaiting .move { c with state := .atB, target := some .a, owner := .automatic, retriesUsed := 0 }

/-- Arrived at the end `e` of a move (R85). -/
def arrivedChannel (now : Time) (e : End) (c : Channel) : Channel :=
  if c.config.locking && e == .a then lockedChannel now (stoppedChannel c)
  else if c.config.kind.isCabin && e == .b then returningChannel (endedChannel (stoppedChannel c))
  else doneChannel e (stoppedChannel c)

/-- A retry waits for its start (R89). -/
def retriedChannel (c : Channel) : Channel := moveWaiting .move { c with retriesUsed := c.retriesUsed + 1 }

/-- In REOPEN_DWELL, or at its retry at once where the dwell is 0 (R89). -/
def dwelledChannel (now : Time) (c : Channel) : Channel :=
  let d := { c with state := .reopenDwell, waits := .none, since := now }
  if c.config.reopenDwell == 0 then retriedChannel d else d

/-- Arrived at the open end of a reversal (R89). -/
def reversedChannel (now : Time) (c : Channel) : Channel :=
  if c.retriesUsed < c.config.retries then dwelledChannel now (stoppedChannel c)
  else if c.config.kind.isCabin then doneChannel .a { stoppedChannel c with lastReason := .obstruction }
  else faultedChannel .obstruction (stoppedChannel c)

/-- The limits found in UNKNOWN or HALTED (R92). -/
def foundChannel (c : Channel) : Channel :=
  if c.limA.high && !c.limB.high then { c with state := .atA }
  else if c.limB.high && !c.limA.high then { c with state := .atB }
  else c

/-- LOCKREL dropped with LIMA (R83). -/
def droppedChannel (c : Channel) : Channel := if c.limA.high then c else { c with lockRel := false }

/-- The channel after its limits are judged (R85, R89, R92). -/
def limitsJudged (now : Time) (c : Channel) : Channel :=
  if c.state == .fault then c
  else if c.limA.high && c.limB.high then faultedChannel .bothLimits c
  else
    match c.state with
    | .atA => if c.limA.high then c else leftChannel c
    | .locking => if c.limA.high then c else leftChannel c
    | .atB => if c.limB.high then c else leftChannel c
    | .unknown => foundChannel c
    | .halted => foundChannel c
    | .movingToA => if c.limA.high then arrivedChannel now .a c else droppedChannel c
    | .movingToB => if c.limB.high then arrivedChannel now .b c else droppedChannel c
    | .reversing => if c.limit c.config.openEnd then reversedChannel now c else c
    | _ => c

/-- The channel after its lock is judged (R83, R86). -/
def lockJudged (c : Channel) : Channel :=
  match c.state with
  | .locking => if c.lockSns.high then doneChannel .a c else c
  | .unlocking => if c.lockSns.high then c else moveWaiting .move c
  | _ => c

/-- The inputs taken (R78). -/
def sampledChannel (x : ChannelInputs) (c : Channel) : Channel :=
  { c with
    started := true
    limA := debounceDoor c.started x.limA c.limA
    limB := debounceDoor c.started x.limB c.limB
    lockSns := debounceDoor c.started x.lockSns c.lockSns }

section
variable (n : ChannelNo) (p : Part)

theorem channel_finishAt (e : End) (o : DoorOutcome) : channel (finishAt n e o p) n = doneChannel e (channel p n) := by
  rw [finishAt, channel_endOperation_same, standAt, channel_restIn_same]
  rfl

theorem channel_enterFault (why : DoorReason) : channel (enterFault n why p) n = faultedChannel why (channel p n) := by
  have noted : channel (faultNoted n why p) n = faultedChannel why (channel p n) := by
    rw [faultNoted, channel_attend, channel_endOperation_same, channel_modChannel_same, channel_leaveQueue, channel_stopOutputs_same]
    rfl
  rw [enterFault_eq, channel_of_doors_eq (refreshDoorCap_caps _).1]
  split
  · exact noted
  · rw [channel_of_doors_eq (report_kept ..).2.2.2.2.2.2.1]; exact noted

theorem channel_enterWaiting_own (m : Motion) : channel (enterWaiting n m p) n = moveWaiting m (channel p n) := by
  rw [enterWaiting, channel_joinQueue, channel_modChannel_same]
  rfl

theorem channel_leaveEnd : channel (leaveEnd n p) n = leftChannel (channel p n) := by
  rw [leaveEnd, channel_attend, channel_endOperation_same, channel_modChannel_same]
  rfl

theorem channel_enterLocking : channel (enterLocking n p) n = lockedChannel p.clock.now (channel p n) := by
  unfold enterLocking lockedChannel
  dsimp only
  rw [channel_modChannel_same]
  split
  · rw [channel_finishAt, channel_modChannel_same]
  · rw [channel_modChannel_same]

theorem channel_arriveMove (e : End) : channel (arriveMove n e p) n = arrivedChannel p.clock.now e (channel p n) := by
  have now : (stopOutputs n p).clock.now = p.clock.now := rfl
  unfold arriveMove arrivedChannel
  dsimp only
  rw [channel_stopOutputs_same]
  dsimp only
  split
  · rw [channel_enterLocking, channel_stopOutputs_same, now]; rfl
  · split
    · rw [automaticReturn, channel_enterWaiting_own, channel_modChannel_same, channel_endOperation_same, channel_stopOutputs_same]
      rfl
    · rw [channel_finishAt, channel_stopOutputs_same]; rfl

theorem channel_retryMove : channel (retryMove n p) n = retriedChannel (channel p n) := by
  unfold retryMove
  dsimp only
  rw [channel_enterWaiting_own]
  refine congrArg _ ?_
  split
  · exact channel_modChannel_same ..
  · exact channel_modChannel_same ..

theorem channel_enterDwell : channel (enterDwell n p) n = dwelledChannel p.clock.now (channel p n) := by
  unfold enterDwell dwelledChannel
  dsimp only
  rw [channel_modChannel_same]
  dsimp only
  split
  · rw [channel_retryMove, channel_modChannel_same]
  · rw [channel_modChannel_same]

theorem channel_arriveReversal : channel (arriveReversal n p) n = reversedChannel p.clock.now (channel p n) := by
  have now : (stopOutputs n p).clock.now = p.clock.now := rfl
  unfold arriveReversal reversedChannel
  dsimp only
  rw [channel_stopOutputs_same]
  dsimp only
  split
  · rw [channel_enterDwell, channel_stopOutputs_same, now]; rfl
  · split
    · rw [channel_attend, channel_finishAt, channel_modChannel_same, channel_stopOutputs_same]; rfl
    · rw [channel_enterFault, channel_stopOutputs_same]; rfl

theorem channel_findLimit : channel (findLimit n p) n = foundChannel (channel p n) := by
  unfold findLimit foundChannel
  dsimp only
  split
  · rw [standAt, channel_restIn_same]; rfl
  · split
    · rw [standAt, channel_restIn_same]; rfl
    · rfl

theorem channel_dropLockRel : channel (dropLockRel n p) n = droppedChannel (channel p n) := by
  unfold dropLockRel droppedChannel
  split
  · rfl
  · rw [channel_modChannel_same]

theorem channel_judgeLimits : channel (judgeLimits n p) n = limitsJudged p.clock.now (channel p n) := by
  unfold judgeLimits limitsJudged
  dsimp only
  split
  · rfl
  · split
    · rw [channel_enterFault]
    · cases (channel p n).state with
      | atA | locking | atB => dsimp only; split; exacts [rfl, channel_leaveEnd n p]
      | unknown | halted => exact channel_findLimit n p
      | movingToA | movingToB => dsimp only; split; exacts [channel_arriveMove n p _, channel_dropLockRel n p]
      | reversing => dsimp only; split; exacts [channel_arriveReversal n p, rfl]
      | fault | waitingStart | unlocking | reopenDwell => rfl

theorem channel_judgeLock : channel (judgeLock n p) n = lockJudged (channel p n) := by
  unfold judgeLock lockJudged
  dsimp only
  cases (channel p n).state with
  | locking => dsimp only; split; exacts [channel_finishAt n p .a .done, rfl]
  | unlocking => dsimp only; split; exacts [rfl, channel_enterWaiting_own n p .move]
  | _ => rfl

theorem channel_sampleChannel (x : ChannelInputs) : channel (sampleChannel n x p) n = sampledChannel x (channel p n) :=
  channel_modChannel_same ..

/-- The channel when its timers are judged. -/
def beforeChannel (now : Time) (x : ChannelInputs) (c : Channel) : Channel := lockJudged (limitsJudged now (sampledChannel x c))

theorem channel_beforeTimers (x : ChannelInputs) :
    channel (beforeTimers n x p) n = beforeChannel p.clock.now x (channel p n) := by
  rw [beforeTimers, channel_judgeLock, channel_judgeLimits, channel_sampleChannel]
  rfl

end

end Sys2Proof.Machine

/-! A door channel's fault to the end of its event, and what leaves only the channel changed (R87 to R93). -/

namespace Sys2Proof.Machine

/-- The door's work ends no condition but those of the releases. -/
theorem Works.present {p q : Part} (h : Works p q) {k : CauseKind} {n : Nat} (hk : k ≠ .releaseTimeout) :
    ConditionPresent k n p.sup → ConditionPresent k n q.sup :=
  Told.relates (S := fun p q => ConditionPresent k n p.sup → ConditionPresent k n q.sup) (fun _ _ h g => by rw [h.sup]; exact g)
    (fun l m c b _ g => report_keeps_present l m c b g) (fun m _ g => gone_keeps_present hk.symm m g)
    (fun c p _ g => (setCaps_causeStands c p).1.mpr g) (fun h g e => g (h e)) h

theorem finish_present (p : Part) {k : CauseKind} {n : Nat} (hk : k ≠ .releaseTimeout) (h : ConditionPresent k n p.sup) :
    ConditionPresent k n (finish p).sup := by
  rw [finish_sup]
  exact (works_settle p).present hk h

section
variable (n : ChannelNo) (why : DoorReason) (p : Part)

theorem queued_faultNoted : queued n (faultNoted n why p) = 0 := by
  rw [faultNoted, queued_attend, queued_endOperation, queued_modChannel, queued_leaveQueue_same]

/-- A fault as it enters: out of the start queue, announced, reported by the configured category, with its DOOR cap (R93). -/
theorem enterFault_reports : .door n ∉ (enterFault n why p).doors.queue ∧ (enterFault n why p).window.attention.getLsbD 5 = true ∧
    CapStands n (enterFault n why p) ∧ ((channel p n).config.category ≠ .none →
      CauseEntered .doorFault n.val (enterFault n why p).sup ∧ ConditionPresent .doorFault n.val (enterFault n why p).sup) := by
  have bit : (faultNoted n why p).window.attention.getLsbD 5 = true := by
    simp [faultNoted, attend, Attn.bit]
  have seen := (plies_faultNoted n why p).seen
  have config : (channel (faultNoted n why p) n).config = (channel p n).config := by
    rw [Channel.seen, Channel.seen] at seen
    simp only [Prod.mk.injEq] at seen
    exact seen.2.2.2.2
  have free : .door n ∉ (faultNoted n why p).doors.queue := List.count_eq_zero.mp (queued_faultNoted n why p)
  rw [enterFault_eq, config]
  generalize faultNoted n why p = q at bit free
  have kept (r : Part) : (refreshDoorCap r).doors = r.doors ∧ BitsStay r.window (refreshDoorCap r).window :=
    ⟨(refreshDoorCap_caps r).1, (setCaps_remembers _ r).bits⟩
  cases hcat : (channel p n).config.category.toCategory with
  | none =>
    refine ⟨by rw [(kept q).1]; exact free, (kept q).2 5 bit, refreshDoorCap_stands _ n, fun hne => ?_⟩
    obtain ⟨cat, some⟩ := toCategory_some hne
    rw [hcat] at some
    cases some
  | some cat =>
    have doors : (report .doorFault n.val cat true q).doors = q.doors := (report_kept ..).2.2.2.2.2.2.1
    refine ⟨by rw [(kept _).1, doors]; exact free, (kept _).2 5 (report_bitsStay _ _ _ _ q 5 bit), refreshDoorCap_stands _ n, fun _ => ?_⟩
    exact ⟨(setCaps_remembers _ _).entered (report_entered ..), (setCaps_causeStands _ _).1.mpr (report_present ..)⟩

/-- A fault at the end of its event. -/
theorem fault_finishes : let t := finish (enterFault n why p)
    channel t n = faultedChannel why (channel p n) ∧ .door n ∉ t.doors.queue ∧ t.window.attention.getLsbD 5 = true ∧
      ((channel p n).config.category ≠ .none → CauseEntered .doorFault n.val t.sup ∧ ConditionPresent .doorFault n.val t.sup) ∧
      ((channel p n).config.capOnFault = true → t.sup.caps.door = true) := by
  obtain ⟨free, bit, stands, told⟩ := enterFault_reports n why p
  have entered := channel_enterFault n p why
  have spares := spares_finish n (enterFault n why p)
  have remembers := finish_remembers (enterFault n why p)
  have present := finish_present (enterFault n why p) (k := .doorFault) (n := n.val) (by decide)
  dsimp only
  generalize finish (enterFault n why p) = t at spares remembers present
  generalize enterFault n why p = q at *
  have state : (channel q n).state = .fault := by rw [entered]; rfl
  obtain ⟨same, out, cap⟩ := spares.fault state free
  refine ⟨same.trans entered, out, remembers.bits 5 bit, fun h => ⟨remembers.entered (told h).1, present (told h).2⟩, fun h => ?_⟩
  refine cap stands ?_ ?_
  · rw [same, entered]; rfl
  · rw [same, entered]; exact h

end

/-! ### Work that changes one channel alone -/

/-- All but the channel is as before. -/
def Alone (n : ChannelNo) (p q : Part) : Prop := q = modChannel n (fun _ => channel q n) p

theorem alone_modChannel (n : ChannelNo) (f : Channel → Channel) (p : Part) : Alone n p (modChannel n f p) := by
  rw [Alone, channel_modChannel_same]
  exact modChannel_congr rfl

theorem Alone.refl (n : ChannelNo) (p : Part) : Alone n p p := (modChannel_self rfl).symm

theorem Alone.trans {n : ChannelNo} {p q r : Part} (h : Alone n p q) (g : Alone n q r) : Alone n p r := by
  rw [Alone] at *
  calc r = modChannel n (fun _ => channel r n) q := g
    _ = modChannel n (fun _ => channel r n) (modChannel n (fun _ => channel q n) p) := congrArg _ h
    _ = modChannel n (fun _ => channel r n) p := modChannel_modChannel ..

/-! ### The states that the limits and the lock lead to -/

/-- The channel moves or dwells (R87, R89). -/
def DoorState.underWay (s : DoorState) : Bool := s == .movingToA || s == .movingToB || s == .reopenDwell

section
variable (now : Time) (c : Channel)

theorem lockedChannel_state : (lockedChannel now c).state.underWay = false ∧ (lockedChannel now c).faults = c.faults := by
  unfold lockedChannel
  dsimp only
  split
  · exact ⟨rfl, rfl⟩
  · exact ⟨rfl, rfl⟩

theorem arrivedChannel_state (e : End) :
    (arrivedChannel now e c).state.underWay = false ∧ (arrivedChannel now e c).faults = c.faults := by
  unfold arrivedChannel
  split
  · exact lockedChannel_state now (stoppedChannel c)
  · split
    · exact ⟨rfl, rfl⟩
    · exact ⟨by cases e <;> rfl, rfl⟩

theorem dwelledChannel_faults : (dwelledChannel now c).faults = c.faults := by
  unfold dwelledChannel
  dsimp only
  split <;> rfl

theorem reversedChannel_faults : (reversedChannel now c).state = .fault ∨ (reversedChannel now c).faults = c.faults := by
  unfold reversedChannel
  split
  · exact .inr (dwelledChannel_faults ..)
  · split
    · exact .inr rfl
    · exact .inl rfl

theorem foundChannel_faults : (foundChannel c).faults = c.faults := by
  unfold foundChannel
  (repeat' split) <;> rfl

theorem droppedChannel_faults : (droppedChannel c).faults = c.faults := by
  unfold droppedChannel
  split <;> rfl

/-- The limits fault a channel or leave its count of faults. -/
theorem limitsJudged_faults : (limitsJudged now c).state = .fault ∨ (limitsJudged now c).faults = c.faults := by
  unfold limitsJudged
  split
  · exact .inr rfl
  · split
    · exact .inl rfl
    · cases c.state with
      | atA | locking | atB => dsimp only; split <;> exact .inr rfl
      | unknown | halted => exact .inr (foundChannel_faults c)
      | movingToA | movingToB =>
        dsimp only
        split
        · exact .inr (arrivedChannel_state now c _).2
        · exact .inr (droppedChannel_faults c)
      | reversing =>
        dsimp only
        split
        · exact reversedChannel_faults now c
        · exact .inr rfl
      | fault | waitingStart | unlocking | reopenDwell => exact .inr rfl

theorem lockJudged_faults : (lockJudged c).faults = c.faults ∧ (c.state = .fault → (lockJudged c).state = .fault) := by
  refine ⟨?_, fun h => by rw [lockJudged, h]; exact h⟩
  unfold lockJudged
  (repeat' split) <;> rfl

theorem beforeChannel_faults (x : ChannelInputs) (h : (beforeChannel now x c).state ≠ .fault) :
    (beforeChannel now x c).faults = c.faults := by
  obtain ⟨same, fault⟩ := lockJudged_faults (limitsJudged now (sampledChannel x c))
  obtain faulted | kept := limitsJudged_faults now (sampledChannel x c)
  · exact absurd (fault faulted) h
  · exact same.trans kept

end

section
variable {n : ChannelNo} {p : Part}

/-- What the limits make of a channel in the state `st` where they are not both active (R85, R89, R92). -/
def limitsAct (n : ChannelNo) (st : DoorState) (p : Part) : Part :=
  match st with
  | .atA | .locking => if (channel p n).limA.high then p else leaveEnd n p
  | .atB => if (channel p n).limB.high then p else leaveEnd n p
  | .unknown | .halted => findLimit n p
  | .movingToA => if (channel p n).limA.high then arriveMove n .a p else dropLockRel n p
  | .movingToB => if (channel p n).limB.high then arriveMove n .b p else dropLockRel n p
  | .reversing => if (channel p n).limit (channel p n).config.openEnd then arriveReversal n p else p
  | .fault | .waitingStart | .unlocking | .reopenDwell => p

theorem judgeLimits_at {st : DoorState} (hstate : (channel p n).state = st) (hfault : st ≠ .fault)
    (hboth : ¬ ((channel p n).limA.high && (channel p n).limB.high) = true) : judgeLimits n p = limitsAct n st p := by
  unfold judgeLimits
  dsimp only
  rw [if_neg (by simpa [hstate] using hfault), if_neg hboth, hstate]
  cases st <;> rfl

/-- The work changes the channel alone, and keeps its target and its retries. -/
structure Carries (n : ChannelNo) (p q : Part) : Prop where
  alone : Alone n p q
  target : (channel q n).target = (channel p n).target
  retries : (channel q n).retriesUsed = (channel p n).retriesUsed

theorem Carries.of_eq {q : Part} (h : q = p) : Carries n p q := by
  rw [h]; exact ⟨.refl n p, rfl, rfl⟩

theorem Carries.trans {q r : Part} (h : Carries n p q) (g : Carries n q r) : Carries n p r :=
  ⟨h.alone.trans g.alone, g.target.trans h.target, g.retries.trans h.retries⟩

theorem carries_modChannel (f : Channel → Channel) (h : ∀ c, (f c).target = c.target ∧ (f c).retriesUsed = c.retriesUsed) :
    Carries n p (modChannel n f p) :=
  ⟨alone_modChannel n f p, by rw [channel_modChannel_same]; exact (h _).1, by rw [channel_modChannel_same]; exact (h _).2⟩

theorem findLimit_underWay (h : (channel (findLimit n p) n).state.underWay = true) : Carries n p (findLimit n p) := by
  rw [channel_findLimit] at h
  unfold foundChannel at h
  unfold findLimit
  dsimp only
  split at h
  · cases h
  next ha =>
    rw [if_neg ha]
    split at h
    · cases h
    next hb => rw [if_neg hb]; exact .of_eq rfl

theorem enterDwell_underWay (h : (channel (enterDwell n p) n).state.underWay = true) : Carries n p (enterDwell n p) := by
  rw [channel_enterDwell] at h
  unfold dwelledChannel at h
  dsimp only at h
  split at h
  · cases h
  next dwell =>
    unfold enterDwell
    dsimp only
    rw [channel_modChannel_same, if_neg dwell]
    exact carries_modChannel _ fun _ => ⟨rfl, rfl⟩

theorem arriveReversal_underWay (h : (channel (arriveReversal n p) n).state.underWay = true) : Carries n p (arriveReversal n p) := by
  by_cases left : (channel p n).retriesUsed < (channel p n).config.retries
  · have dwells : arriveReversal n p = enterDwell n (stopOutputs n p) := by
      unfold arriveReversal
      dsimp only
      rw [channel_stopOutputs_same, if_pos left]
    rw [dwells] at h ⊢
    have stopped : Carries n p (stopOutputs n p) := carries_modChannel _ fun _ => ⟨rfl, rfl⟩
    exact stopped.trans (enterDwell_underWay h)
  · rw [channel_arriveReversal, reversedChannel, if_neg left] at h
    split at h <;> cases h

theorem dropLockRel_carries : Carries n p (dropLockRel n p) := by
  unfold dropLockRel
  split
  · exact .of_eq rfl
  · exact carries_modChannel _ fun _ => ⟨rfl, rfl⟩

/-- A channel that moves or dwells after its limits are judged has changed alone, and keeps its target and its retries. -/
theorem judgeLimits_underWay (h : (channel (judgeLimits n p) n).state.underWay = true) : Carries n p (judgeLimits n p) := by
  have ended {q : Part} (e : judgeLimits n p = q) (hq : (channel q n).state.underWay = false) : Carries n p (judgeLimits n p) := by
    rw [e, hq] at h; cases h
  by_cases fault : (channel p n).state = .fault
  · exact .of_eq (by simp [judgeLimits, fault])
  by_cases both : ((channel p n).limA.high && (channel p n).limB.high) = true
  · exact ended (q := enterFault n .bothLimits p) (by simp only [judgeLimits]; rw [if_neg (by simpa using fault), if_pos both])
      (by rw [channel_enterFault]; rfl)
  cases hstate : (channel p n).state with
  | fault => exact absurd hstate fault
  | waitingStart | unlocking | reopenDwell =>
    exact .of_eq (judgeLimits_at hstate (by decide) both)
  | unknown | halted =>
    have limits : judgeLimits n p = findLimit n p := judgeLimits_at hstate (by decide) both
    rw [limits] at h ⊢
    exact findLimit_underWay h
  | atA | locking =>
    have limits : judgeLimits n p = if (channel p n).limA.high then p else leaveEnd n p := judgeLimits_at hstate (by decide) both
    split at limits
    · exact .of_eq limits
    · exact ended limits (by rw [channel_leaveEnd]; rfl)
  | atB =>
    have limits : judgeLimits n p = if (channel p n).limB.high then p else leaveEnd n p := judgeLimits_at hstate (by decide) both
    split at limits
    · exact .of_eq limits
    · exact ended limits (by rw [channel_leaveEnd]; rfl)
  | movingToA =>
    have limits : judgeLimits n p = if (channel p n).limA.high then arriveMove n .a p else dropLockRel n p := judgeLimits_at hstate (by decide) both
    split at limits
    · exact ended limits (by rw [channel_arriveMove]; exact (arrivedChannel_state ..).1)
    · rw [limits]; exact dropLockRel_carries
  | movingToB =>
    have limits : judgeLimits n p = if (channel p n).limB.high then arriveMove n .b p else dropLockRel n p := judgeLimits_at hstate (by decide) both
    split at limits
    · exact ended limits (by rw [channel_arriveMove]; exact (arrivedChannel_state ..).1)
    · rw [limits]; exact dropLockRel_carries
  | reversing =>
    have limits : judgeLimits n p = if (channel p n).limit (channel p n).config.openEnd then arriveReversal n p else p := judgeLimits_at hstate (by decide) both
    split at limits
    · rw [limits] at h ⊢
      exact arriveReversal_underWay h
    · exact .of_eq limits

theorem judgeLock_underWay (h : (channel (judgeLock n p) n).state.underWay = true) : judgeLock n p = p := by
  rw [channel_judgeLock] at h
  unfold lockJudged at h
  unfold judgeLock
  dsimp only
  generalize (channel p n).state = st at h
  cases st with
  | locking =>
    dsimp only at h ⊢
    split at h
    · cases h
    next lock => exact if_neg lock
  | unlocking =>
    dsimp only at h ⊢
    split at h
    next lock => exact if_pos lock
    next => cases h
  | _ => rfl

theorem beforeTimers_underWay {x : ChannelInputs} (h : (channel (beforeTimers n x p) n).state.underWay = true) :
    Carries n p (beforeTimers n x p) := by
  have lock := judgeLock_underWay h
  rw [beforeTimers] at h ⊢
  rw [lock] at h ⊢
  have sampled : Carries n p (sampleChannel n x p) := carries_modChannel _ fun _ => ⟨rfl, rfl⟩
  exact sampled.trans (judgeLimits_underWay h)

end

end Sys2Proof.Machine

/-! The door timers and the obstruction, each the whole step of its channel (R83, R86 to R89). -/

namespace Sys2Proof.Machine

/-- The step of channel `n` noted as taken (log entry 5). -/
def stepNoted (n : ChannelNo) (p : Part) : Part := { p with clock := { p.clock with stepsTaken := p.clock.stepsTaken.set n true } }

theorem channelStep_eq (n : ChannelNo) (x : ChannelInputs) (p : Part) : channelStep n x p =
    if (channel p n).config.kind = .none then
      let c := sampledChannel x (channel p n)
      restIn n (noneState c.limA.high c.limB.high) (sampleChannel n x (stepNoted n p))
    else judgeCurrent n (judgeTimers n (beforeTimers n x (stepNoted n p))) := by
  have step : channelStep n x p = if (channel (sampleChannel n x (stepNoted n p)) n).config.kind == .none then
      restIn n (noneState (channel (sampleChannel n x (stepNoted n p)) n).limA.high (channel (sampleChannel n x (stepNoted n p)) n).limB.high)
        (sampleChannel n x (stepNoted n p))
      else judgeCurrent n (judgeTimers n (beforeTimers n x (stepNoted n p))) := rfl
  rw [step, channel_sampleChannel]
  exact if_congr (by rw [beq_iff_eq]; rfl) rfl rfl

theorem channelStep_judges {n : ChannelNo} {x : ChannelInputs} {p : Part} (h : (channel p n).config.kind ≠ .none) :
    channelStep n x p = judgeCurrent n (judgeTimers n (beforeTimers n x (stepNoted n p))) := by
  rw [channelStep_eq, if_neg h]

section
variable {n : ChannelNo}

theorem seen_config {c d : Channel} (h : c.seen = d.seen) : c.config = d.config := by
  simp only [Channel.seen, Prod.mk.injEq] at h
  exact h.2.2.2.2

theorem beforeTimers_now (x : ChannelInputs) (p : Part) : (beforeTimers n x p).clock = p.clock := by
  rw [beforeTimers]
  simp

theorem judgeCurrent_unwatched {p : Part} (h : watchesCurrent (channel p n) = false) : judgeCurrent n p = p := by
  unfold judgeCurrent
  dsimp only
  rw [h, if_neg Bool.false_ne_true]

theorem watchesCurrent_moving {c : Channel} (h : watchesCurrent c = true) : c.state = .movingToA ∨ c.state = .movingToB := by
  simp only [watchesCurrent, Bool.and_eq_true, beq_iff_eq] at h
  rw [h.1]
  cases c.config.closingEnd
  · exact .inl rfl
  · exact .inr rfl

theorem unwatched {c : Channel} (h : c.state.underWay = false) : watchesCurrent c = false := by
  by_contra watches
  obtain e | e := watchesCurrent_moving (by simpa using watches) <;> rw [e] at h <;> cases h

/-! ### The lock time and the travel limit -/

theorem judgeTimers_travel {p : Part} (h : travelOver (channel p n) p.clock.now = true) : judgeTimers n p = enterFault n .travelTimeout p := by
  unfold judgeTimers
  dsimp only
  rw [if_pos h]

theorem judgeTimers_lock {p : Part} (h : lockTimeOver (channel p n) p.clock.now = true) : judgeTimers n p = enterFault n .lockTimeout p := by
  have still : travelOver (channel p n) p.clock.now = false := by
    simp only [lockTimeOver, Bool.and_eq_true, Bool.or_eq_true, beq_iff_eq] at h
    obtain e | e := h.1 <;> simp [travelOver, DoorState.inMotion, e]
  unfold judgeTimers
  dsimp only
  rw [if_neg (by simp [still]), if_pos h]

theorem plies_leaveEnd (p : Part) : Plies n p (leaveEnd n p) :=
  (Plies.modChannel _ p).trans ((plies_endOperation n _ _).trans (.of_doors rfl rfl))

theorem plies_limitsAct (st : DoorState) (p : Part) : Plies n p (limitsAct n st p) := by
  have find : Plies n p (findLimit n p) := by
    unfold findLimit
    dsimp only
    split
    · exact plies_restIn ..
    · split
      · exact plies_restIn ..
      · exact .refl n p
  have drop : Plies n p (dropLockRel n p) := by
    unfold dropLockRel
    split
    · exact .refl n p
    · exact .modChannel _ p
  cases st with
  | fault | waitingStart | unlocking | reopenDwell => exact .refl n p
  | unknown | halted => exact find
  | atA | locking | atB => unfold limitsAct; dsimp only; split; exacts [.refl n p, plies_leaveEnd p]
  | movingToA | movingToB => unfold limitsAct; dsimp only; split; exacts [plies_arriveMove n _ p, drop]
  | reversing => unfold limitsAct; dsimp only; split; exacts [plies_arriveReversal n p, .refl n p]

theorem plies_judgeLimits (p : Part) : Plies n p (judgeLimits n p) := by
  by_cases fault : (channel p n).state = .fault
  · rw [show judgeLimits n p = p by simp [judgeLimits, fault]]
    exact .refl n p
  by_cases both : ((channel p n).limA.high && (channel p n).limB.high) = true
  · have faults : judgeLimits n p = enterFault n .bothLimits p := by
      simp only [judgeLimits]
      rw [if_neg (by simpa using fault), if_pos both]
    rw [faults]
    exact plies_enterFault ..
  · rw [judgeLimits_at rfl fault both]
    exact plies_limitsAct ..

theorem plies_judgeLock (p : Part) : Plies n p (judgeLock n p) := by
  unfold judgeLock
  dsimp only
  split
  · split
    · exact plies_finishAt ..
    · exact .refl n p
  · split
    · exact .refl n p
    · exact plies_enterWaiting ..
  · exact .refl n p

theorem beforeTimers_seen (x : ChannelInputs) (p : Part) :
    (channel (beforeTimers n x p) n).seen = (sampledChannel x (channel p n)).seen := by
  rw [beforeTimers, (plies_judgeLock _).seen, (plies_judgeLimits _).seen, channel_sampleChannel]

/-- A step whose timers fault its channel. -/
theorem step_faults {x : ChannelInputs} {p : Part} {why : DoorReason} (hkind : (channel p n).config.kind ≠ .none)
    (hstate : (beforeChannel p.clock.now x (channel p n)).state ≠ .fault)
    (h : judgeTimers n (beforeTimers n x (stepNoted n p)) = enterFault n why (beforeTimers n x (stepNoted n p))) :
    let t := finish (channelStep n x p)
    (channel t n).state = .fault ∧ (channel t n).lastReason = why ∧ (channel t n).motor = none ∧ (channel t n).lockRel = false ∧
      (channel t n).owner = .none ∧ (channel t n).faults = count16 (channel p n).faults ∧ .door n ∉ t.doors.queue ∧
      t.window.attention.getLsbD 5 = true ∧
      ((channel p n).config.category ≠ .none → CauseEntered .doorFault n.val t.sup ∧ ConditionPresent .doorFault n.val t.sup) ∧
      ((channel p n).config.capOnFault = true → t.sup.caps.door = true) := by
  have before : channel (beforeTimers n x (stepNoted n p)) n = beforeChannel p.clock.now x (channel p n) :=
    channel_beforeTimers n (stepNoted n p) x
  have config : (channel (beforeTimers n x (stepNoted n p)) n).config = (channel p n).config := by
    have kept := seen_config (beforeTimers_seen (n := n) x (stepNoted n p))
    exact kept
  have faults : (channel (beforeTimers n x (stepNoted n p)) n).faults = (channel p n).faults := by
    rw [before]; exact beforeChannel_faults p.clock.now (channel p n) x hstate
  have step : channelStep n x p = enterFault n why (beforeTimers n x (stepNoted n p)) := by
    rw [channelStep_judges hkind, h]
    exact judgeCurrent_unwatched (unwatched (by rw [channel_enterFault]; rfl))
  rw [step]
  generalize beforeTimers n x (stepNoted n p) = q at config faults
  obtain ⟨entered, free, bit, told, cap⟩ := fault_finishes n why q
  rw [config] at told cap
  dsimp only
  refine ⟨?_, ?_, ?_, ?_, ?_, ?_, free, bit, told, cap⟩ <;> rw [entered]
  · rfl
  · rfl
  · rfl
  · rfl
  · rfl
  · rw [← faults]; rfl

/-! ### The dwell and the obstruction -/

/-- A channel that has joined an empty start queue alone: it waits where the budget has no start left, and moves otherwise (R84). -/
theorem joins_finish {p : Part} {m : Motion} (hwork : p.work = {}) (hqueue : p.doors.queue = []) :
    (budgetRoom p.doors p.clock.now = false → channel (finish (enterWaiting n m p)) n = moveWaiting m (channel p n) ∧
      (finish (enterWaiting n m p)).doors.queue = [.door n]) ∧
    (budgetRoom p.doors p.clock.now = true → (channel p n).limit (headingOf (moveWaiting m (channel p n))) = false →
      channel (finish (enterWaiting n m p)) n = motionStarted p.clock.now (moveWaiting m (channel p n))) := by
  have own := channel_enterWaiting_own n p m
  have work : (enterWaiting n m p).work = { arbiter := true } := by
    rw [enterWaiting_eq, hwork]
  have queue : (enterWaiting n m p).doors.queue = [.door n] := by
    rw [enterWaiting_eq, hqueue]; rfl
  have room : budgetRoom (enterWaiting n m p).doors (enterWaiting n m p).clock.now = budgetRoom p.doors p.clock.now := rfl
  have now : (enterWaiting n m p).clock.now = p.clock.now := rfl
  refine ⟨fun h => ?_, fun h limit => ?_⟩
  · rw [channel_finish, finish_doors, settle_no_room work (.inr (by rw [room]; exact h))]
    exact ⟨own, queue⟩
  · rw [channel_finish, settle_starts work queue (by rw [room]; exact h) (by rw [own]; exact limit), doorGranted, now]
    generalize enterWaiting n m p = q at own
    rw [← own]
    exact modTable_get_same ..

/-- A retry of a channel alone in the start queue (R89). -/
theorem retry_finishes {p : Part} (hwork : p.work = {}) (hqueue : p.doors.queue = []) :
    (budgetRoom p.doors p.clock.now = false → channel (finish (retryMove n p)) n = retriedChannel (channel p n) ∧
      (finish (retryMove n p)).doors.queue = [.door n]) ∧
    (budgetRoom p.doors p.clock.now = true → ∀ e, (channel p n).target = some e → (channel p n).limit e = false →
      channel (finish (retryMove n p)) n = motionStarted p.clock.now (retriedChannel (channel p n))) := by
  have split : ∃ q, retryMove n p = enterWaiting n .move q ∧ q.work = {} ∧ q.doors.queue = [] ∧ q.clock = p.clock ∧
      budgetRoom q.doors p.clock.now = budgetRoom p.doors p.clock.now ∧
      channel q n = { channel p n with retriesUsed := (channel p n).retriesUsed + 1 } := by
    unfold retryMove
    dsimp only
    split
    · exact ⟨_, rfl, hwork, hqueue, rfl, rfl, channel_modChannel_same ..⟩
    · exact ⟨_, rfl, hwork, hqueue, rfl, rfl, channel_modChannel_same ..⟩
  obtain ⟨q, hq, work, queue, clock, room, own⟩ := split
  obtain ⟨waits, moves⟩ := joins_finish (n := n) (m := .move) work queue
  rw [clock, room, own] at waits moves
  rw [hq]
  refine ⟨waits, fun h e target limit => moves h ?_⟩
  have heading : headingOf (retriedChannel (channel p n)) = e := headingOf_target target (fun h => nomatch h)
  show (channel p n).limit (headingOf (retriedChannel (channel p n))) = false
  rw [heading]
  exact limit

/-- The part at the timers of a step, where the channel moves or dwells: nothing else has changed but the note of the step. -/
theorem underWay_alone {x : ChannelInputs} {p : Part} (h : (channel (beforeTimers n x p) n).state.underWay = true) :
    let q := beforeTimers n x (stepNoted n p)
    channel q n = channel (beforeTimers n x p) n ∧ q = modChannel n (fun _ => channel (beforeTimers n x p) n) (stepNoted n p) ∧
      (channel q n).target = (channel p n).target ∧ (channel q n).retriesUsed = (channel p n).retriesUsed := by
  have same : channel (beforeTimers n x (stepNoted n p)) n = channel (beforeTimers n x p) n := by
    rw [channel_beforeTimers, channel_beforeTimers]
    rfl
  rw [← same] at h
  obtain ⟨alone, target, retries⟩ := beforeTimers_underWay h
  refine ⟨same, ?_, target, retries⟩
  rw [← same]
  exact alone

theorem judgeTimers_dwell {p : Part} (h : dwellOver (channel p n) p.clock.now = true) : judgeTimers n p = retryMove n p := by
  have state : (channel p n).state = .reopenDwell := by
    simp only [dwellOver, Bool.and_eq_true, beq_iff_eq] at h
    exact h.1
  unfold judgeTimers
  dsimp only
  rw [if_neg (by simp [travelOver, DoorState.inMotion, state]), if_neg (by simp [lockTimeOver, state]), if_pos h]

/-- The dwell of a channel that steps ends (R89). -/
theorem dwell_ends {x : ChannelInputs} {p : Part} (hwork : p.work = {}) (hqueue : p.doors.queue = [])
    (hkind : (channel p n).config.kind ≠ .none) (h : dwellOver (channel (beforeTimers n x p) n) p.clock.now = true) :
    let t := finish (channelStep n x p)
    (budgetRoom p.doors p.clock.now = false → (channel t n).state = .waitingStart ∧ (channel t n).waits = .move ∧
      t.doors.queue = [.door n] ∧ (channel t n).retriesUsed = (channel p n).retriesUsed + 1) ∧
    (∀ e, budgetRoom p.doors p.clock.now = true → (channel p n).target = some e → (channel (beforeTimers n x p) n).limit e = false →
      (channel t n).state = e.movingState ∧ (channel t n).motor = some e ∧
      (channel t n).retriesUsed = (channel p n).retriesUsed + 1 ∧ (channel t n).lastGrant = p.clock.now) := by
  have state : (channel (beforeTimers n x p) n).state = .reopenDwell := by
    simp only [dwellOver, Bool.and_eq_true, beq_iff_eq] at h
    exact h.1
  obtain ⟨same, alone, target, retries⟩ := underWay_alone (n := n) (x := x) (p := p) (by rw [state]; rfl)
  rw [channelStep_judges hkind]
  generalize beforeTimers n x (stepNoted n p) = q at same alone target retries
  generalize channel (beforeTimers n x p) n = b at *
  have work : q.work = {} := by rw [alone]; exact hwork
  have queue : q.doors.queue = [] := by rw [alone]; exact hqueue
  have now : q.clock.now = p.clock.now := by rw [alone]; rfl
  have room : budgetRoom q.doors p.clock.now = budgetRoom p.doors p.clock.now := by rw [alone]; rfl
  rw [judgeTimers_dwell (by rw [same, now]; exact h), judgeCurrent_unwatched (unwatched (by rw [channel_retryMove]; rfl))]
  obtain ⟨waits, moves⟩ := retry_finishes (n := n) work queue
  rw [now, room] at waits moves
  rw [← same]
  generalize finish (retryMove n q) = t at waits moves
  dsimp only
  refine ⟨fun h => ?_, fun e h he limit => ?_⟩
  · obtain ⟨own, entry⟩ := waits h
    rw [own]
    exact ⟨rfl, rfl, entry, congrArg (· + 1) retries⟩
  · have aimed := target.trans he
    have heading : headingOf (retriedChannel (channel q n)) = e := headingOf_target aimed (fun h => nomatch h)
    rw [moves h e aimed limit, motionStarted, heading]
    exact ⟨rfl, rfl, congrArg (· + 1) retries, rfl⟩

/-! ### The obstruction (R88) -/

/-- A channel that moves after its timers are judged moved before, within its travel limit. -/
theorem judgeTimers_moving {p : Part} (h : (channel (judgeTimers n p) n).state = .movingToA ∨
    (channel (judgeTimers n p) n).state = .movingToB) : judgeTimers n p = p ∧ travelOver (channel p n) p.clock.now = false := by
  have other {st : DoorState} (e : (channel (judgeTimers n p) n).state = st) (ha : st ≠ .movingToA) (hb : st ≠ .movingToB) : False :=
    h.elim (fun g => ha (e.symm.trans g)) (fun g => hb (e.symm.trans g))
  by_cases travel : travelOver (channel p n) p.clock.now = true
  · exact (other (st := .fault) (by rw [judgeTimers_travel travel, channel_enterFault]; rfl) (by decide) (by decide)).elim
  by_cases lock : lockTimeOver (channel p n) p.clock.now = true
  · exact (other (st := .fault) (by rw [judgeTimers_lock lock, channel_enterFault]; rfl) (by decide) (by decide)).elim
  by_cases dwell : dwellOver (channel p n) p.clock.now = true
  · exact (other (st := .waitingStart) (by rw [judgeTimers_dwell dwell, channel_retryMove]; rfl) (by decide) (by decide)).elim
  refine ⟨?_, by simpa using travel⟩
  unfold judgeTimers
  dsimp only
  rw [if_neg travel, if_neg lock, if_neg dwell]

theorem judgeTimers_within {p : Part} (h : (channel p n).state = .movingToA ∨ (channel p n).state = .movingToB)
    (htravel : travelOver (channel p n) p.clock.now = false) : judgeTimers n p = p := by
  have lock : lockTimeOver (channel p n) p.clock.now = false := by
    obtain h | h := h <;> simp [lockTimeOver, h]
  have dwell : dwellOver (channel p n) p.clock.now = false := by
    obtain h | h := h <;> simp [dwellOver, h]
  unfold judgeTimers
  dsimp only
  rw [htravel, lock, dwell]
  rfl

theorem judgeCurrent_obstructed {p : Part} {run : Nat} (hw : watchesCurrent (channel p n) = true)
    (hrun : obstructionAfter (channel p n) (codesFresh p) (channelCode p n) p.clock.now = run) (h2 : 2 ≤ run) :
    judgeCurrent n p = enterWaiting n .reversal (stopOutputs n (modChannel n (fun c => { c with obstructionRun := run }) p)) := by
  unfold judgeCurrent
  dsimp only
  rw [if_pos hw, hrun, if_pos h2]

/-- The channel stopped by an obstruction, which waits for its reversal. -/
def obstructedChannel (run : Nat) (c : Channel) : Channel := moveWaiting .reversal (stoppedChannel { c with obstructionRun := run })

/-- An obstruction of a channel that steps: it waits for its reversal, and reverses at once where a start is left (R88). -/
theorem obstruction_acts {x : ChannelInputs} {p : Part} (hwork : p.work = {}) (hqueue : p.doors.queue = [])
    (hkind : (channel p n).config.kind ≠ .none) (hwatch : watchesCurrent (channel (judgeTimers n (beforeTimers n x p)) n) = true)
    (hrun : 2 ≤ obstructionAfter (channel (judgeTimers n (beforeTimers n x p)) n) (codesFresh (judgeTimers n (beforeTimers n x p)))
      (channelCode (judgeTimers n (beforeTimers n x p)) n) (judgeTimers n (beforeTimers n x p)).clock.now) :
    let t := finish (channelStep n x p)
    (budgetRoom p.doors p.clock.now = false → (channel t n).state = .waitingStart ∧ (channel t n).waits = .reversal ∧
      (channel t n).motor = none ∧ 2 ≤ (channel t n).obstructionRun ∧ t.doors.queue = [.door n]) ∧
    (budgetRoom p.doors p.clock.now = true → (channel (beforeTimers n x p) n).limit (channel p n).config.openEnd = false →
      (channel t n).state = .reversing ∧ (channel t n).motor = some (channel p n).config.openEnd ∧ (channel t n).obstructionRun = 0) := by
  obtain ⟨timed, travel⟩ := judgeTimers_moving (watchesCurrent_moving hwatch)
  rw [timed] at hwatch hrun
  have moving := watchesCurrent_moving hwatch
  have config : (channel (beforeTimers n x p) n).config = (channel p n).config := by
    have kept := seen_config (beforeTimers_seen (n := n) x p)
    exact kept
  have underWay : (channel (beforeTimers n x p) n).state.underWay = true := by
    obtain e | e := moving <;> rw [e] <;> rfl
  obtain ⟨same, alone, -, -⟩ := underWay_alone (n := n) (x := x) (p := p) underWay
  have unstepped := (beforeTimers_underWay underWay).alone
  rw [channelStep_judges hkind]
  generalize beforeTimers n x (stepNoted n p) = q at same alone
  have fresh : codesFresh q = codesFresh (beforeTimers n x p) := by rw [alone, unstepped]; rfl
  have code : channelCode q n = channelCode (beforeTimers n x p) n := by rw [alone, unstepped]; rfl
  have now' : (beforeTimers n x p).clock.now = p.clock.now := by rw [beforeTimers_now]
  have work : q.work = {} := by rw [alone]; exact hwork
  have queue : q.doors.queue = [] := by rw [alone]; exact hqueue
  have now : q.clock.now = p.clock.now := by rw [alone]; rfl
  have room : budgetRoom q.doors p.clock.now = budgetRoom p.doors p.clock.now := by rw [alone]; rfl
  rw [now'] at travel hrun
  rw [judgeTimers_within (by rw [same]; exact moving) (by rw [same, now]; exact travel),
    judgeCurrent_obstructed (by rw [same]; exact hwatch) rfl (by rw [same, fresh, code, now]; exact hrun), same, fresh, code, now]
  generalize obstructionAfter _ _ _ _ = run at hrun
  obtain ⟨waits, moves⟩ := joins_finish (n := n) (m := .reversal)
    (p := stopOutputs n (modChannel n (fun c => { c with obstructionRun := run }) q)) work queue
  have own : channel (stopOutputs n (modChannel n (fun c => { c with obstructionRun := run }) q)) n =
      stoppedChannel { channel (beforeTimers n x p) n with obstructionRun := run } := by
    rw [channel_stopOutputs_same, channel_modChannel_same, same]
    rfl
  have room' : budgetRoom (stopOutputs n (modChannel n (fun c => { c with obstructionRun := run }) q)).doors
      (stopOutputs n (modChannel n (fun c => { c with obstructionRun := run }) q)).clock.now = budgetRoom p.doors p.clock.now := by
    rw [← room, ← now]; rfl
  rw [own, room'] at waits moves
  generalize finish (enterWaiting n .reversal _) = t at waits moves
  dsimp only
  refine ⟨fun h => ?_, fun h limit => ?_⟩
  · obtain ⟨waiting, entry⟩ := waits h
    rw [waiting]
    exact ⟨rfl, rfl, rfl, hrun, entry⟩
  · have opened : headingOf (moveWaiting .reversal (stoppedChannel { channel (beforeTimers n x p) n with obstructionRun := run })) =
        (channel p n).config.openEnd := by rw [← config]; rfl
    rw [opened] at moves
    rw [moves h limit, motionStarted, opened]
    exact ⟨rfl, rfl, rfl⟩

end

/-- Settles O52, each event by what the timers or the current make of the channel, and the judgement of the start queue behind it. -/
theorem doorTimersAndObstruction : Obligations.DoorTimersAndObstruction := by
  intro n x s hready faulted
  have work : s.part.work = {} := hready.2.1
  have due {b : Bool} (h : (stepJudged n s.part && b) = true) :
      stepDue n s.part = true ∧ (channel s.part n).config.kind ≠ .none ∧ b = true := by
    simpa [stepJudged, and_assoc] using h
  have before : channel (beforeTimers n x (stepNoted n s.part)) n = channel (beforeTimers n x s.part) n := by
    rw [channel_beforeTimers, channel_beforeTimers]
    rfl
  have now : (beforeTimers n x (stepNoted n s.part)).clock.now = s.part.clock.now := by
    rw [beforeTimers_now]
    rfl
  refine ⟨fun h => ?_, fun h => ?_, fun h hqueue => ?_, fun h hqueue => ?_⟩
  · obtain ⟨hstep, hkind, passed⟩ := due h
    have state : (beforeChannel s.part.clock.now x (channel s.part n)).state ≠ .fault := by
      rw [← channel_beforeTimers]
      intro e
      simp [lockTimeOver, e] at passed
    obtain ⟨fault, reason, motor, lock, owner, faults, free, bit, told, cap⟩ :=
      step_faults hkind state (judgeTimers_lock (by rw [before, now]; exact passed))
    exact ⟨_, occurs_acts hready.1 h, fault, reason, motor, lock, owner, faults, free, bit, occurs_acts hready.1 hstep, told, cap⟩
  · obtain ⟨hstep, hkind, passed⟩ := due h
    have state : (beforeChannel s.part.clock.now x (channel s.part n)).state ≠ .fault := by
      rw [← channel_beforeTimers]
      intro e
      simp [travelOver, DoorState.inMotion, e] at passed
    obtain ⟨fault, reason, motor, lock, owner, faults, free, bit, told, cap⟩ :=
      step_faults hkind state (judgeTimers_travel (by rw [before, now]; exact passed))
    exact ⟨_, occurs_acts hready.1 h, fault, reason, motor, lock, owner, faults, free, bit, occurs_acts hready.1 hstep, told, cap⟩
  · obtain ⟨hstep, hkind, passed⟩ := due h
    exact ⟨_, occurs_acts hready.1 h, occurs_acts hready.1 hstep, dwell_ends work hqueue hkind passed⟩
  · have parts := h
    simp only [obstructionDue, stepJudged, Bool.and_eq_true, decide_eq_true_eq, bne_iff_ne] at parts
    obtain ⟨⟨⟨hstep, hkind⟩, watches⟩, run⟩ := parts
    exact ⟨_, occurs_acts hready.1 h, occurs_acts hready.1 hstep, obstruction_acts work hqueue hkind watches run⟩

end Sys2Proof.Machine

/-! One step of a door channel, by its limits (R78, R81, R85, R92, R93). -/

namespace Sys2Proof.Machine

/-- The channel's inputs taken, and the step noted. -/
def stepSampled (n : ChannelNo) (x : ChannelInputs) (p : Part) : Part := sampleChannel n x (stepNoted n p)

section
variable {n : ChannelNo} {x : ChannelInputs} {p : Part}

theorem channel_stepSampled : channel (stepSampled n x p) n = sampledChannel x (channel p n) :=
  channel_sampleChannel n (stepNoted n p) x

theorem plies_judgeTimers (p : Part) : Plies n p (judgeTimers n p) := by
  unfold judgeTimers
  dsimp only
  split
  · exact plies_enterFault ..
  · split
    · exact plies_enterFault ..
    · split
      · exact plies_retryMove ..
      · exact .refl n p

theorem plies_judgeCurrent (p : Part) : Plies n p (judgeCurrent n p) := by
  unfold judgeCurrent
  dsimp only
  split
  · split
    · exact (Plies.modChannel _ p).trans ((plies_stopOutputs n _).trans (plies_enterWaiting ..))
    · exact .modChannel _ p
  · exact .refl n p

theorem plies_channelStep : Plies n (stepSampled n x p) (channelStep n x p) := by
  rw [channelStep_eq]
  split
  · exact plies_restIn ..
  · exact (plies_judgeLimits _).trans ((plies_judgeLock _).trans ((plies_judgeTimers _).trans (plies_judgeCurrent _)))

/-- What the step has seen of its channel. -/
theorem channelStep_seen : (channel (finish (channelStep n x p)) n).seen = (sampledChannel x (channel p n)).seen := by
  rw [(spares_finish n _).seen, plies_channelStep.seen, channel_stepSampled]

theorem channelStep_still : (finish (channelStep n x p)).still = (stepNoted n p).still := by
  have sampled : (sampleChannel n x (stepNoted n p)).still = (stepNoted n p).still := still_modChannel ..
  rw [still_finish, channelStep_eq]
  split
  · dsimp only
    rw [still_restIn, sampled]
  · rw [beforeTimers, still_judgeCurrent, still_judgeTimers, still_judgeLock, still_judgeLimits, sampled]

/-! ### A channel of kind NONE (R81) -/

/-- An entry into a state of rest, in an event that calls nothing else and finds no action waiting that it would judge. -/
theorem restIn_settles {st : DoorState} {q : Part} (hwork : q.work = {})
    (h : st ≠ .atA ∨ (channel q n).state = .atA ∨ ∀ a ∈ q.sequencer.actions, a.dueWaiting = false) :
    settle 64 (restIn n st q) = modChannel n (fun c => { c with state := st }) q := by
  have moved : (modChannel n (fun c => { c with state := st }) q).work = {} := hwork
  by_cases calls : (st == .atA && (channel q n).state != .atA) = true
  · have called : restIn n st q = callSequencer (modChannel n (fun c => { c with state := st }) q) := by
      unfold restIn
      dsimp only
      rw [if_pos calls]
    have waits : ∀ a ∈ q.sequencer.actions, a.dueWaiting = false := by
      simp only [Bool.and_eq_true, beq_iff_eq, bne_iff_ne] at calls
      exact (h.resolve_left (fun e => e calls.1)).resolve_left calls.2
    rw [called]
    generalize hm : modChannel n _ q = m at moved
    have actions : m.sequencer.actions = q.sequencer.actions := by rw [← hm]; rfl
    rw [settle_waitless (p := callSequencer m) (by rw [callSequencer, moved]) (by rw [callSequencer, moved])
      (by rw [show (callSequencer m).sequencer = m.sequencer from rfl, actions]; exact waits)]
    cases m
    cases moved
    rfl
  · have stays : restIn n st q = modChannel n (fun c => { c with state := st }) q := by
      unfold restIn
      dsimp only
      rw [if_neg calls]
    rw [stays, settle_of_quiet moved]

theorem noneState_atA {a b : Bool} (h : noneState a b = .atA) : a = true ∧ b = false := by
  cases a <;> cases b <;> simp [noneState] at h ⊢

theorem none_follows {s : State} (hready : Ready s) (hkind : (channel s.part n).config.kind = .none)
    (hcalls : (channel s.part n).state = .atA ∨ (sampledChannel x (channel s.part n)).limA.high = false ∨
      (sampledChannel x (channel s.part n)).limB.high = true ∨ ∀ a ∈ s.part.sequencer.actions, a.dueWaiting = false) :
    Frame [.clock, .doors] s { s with part := finish (channelStep n x s.part) } ∧
      channel (finish (channelStep n x s.part)) n = { sampledChannel x (channel s.part n) with
        state := noneState (sampledChannel x (channel s.part n)).limA.high (sampledChannel x (channel s.part n)).limB.high } := by
  have own := channel_stepSampled (n := n) (x := x) (p := s.part)
  have step : channelStep n x s.part = restIn n
      (noneState (sampledChannel x (channel s.part n)).limA.high (sampledChannel x (channel s.part n)).limB.high) (stepSampled n x s.part) := by
    rw [channelStep_eq, if_pos hkind]
    rfl
  have settled : settle 64 (channelStep n x s.part) = modChannel n (fun c => { c with
      state := noneState (sampledChannel x (channel s.part n)).limA.high (sampledChannel x (channel s.part n)).limB.high })
      (stepSampled n x s.part) := by
    rw [step]
    refine restIn_settles hready.2.1 ?_
    rw [own]
    obtain there | low | both | waits := hcalls
    · exact .inr (.inl there)
    · exact .inl fun e => by rw [(noneState_atA e).1] at low; cases low
    · exact .inl fun e => by rw [(noneState_atA e).2] at both; cases both
    · exact .inr (.inr waits)
  refine ⟨frame_finish hready fun b _ hb => ?_, ?_⟩
  · rw [settled]
    cases b <;> simp at hb <;> rfl
  · rw [channel_finish, settled, channel_modChannel_same, own]

/-! ### A channel that its limits bring to rest -/

/-- At rest or in the start queue: no lock, timer or current is judged. -/
def DoorState.awaits (s : DoorState) : Bool := s.atRest || s == .waitingStart

/-- Nothing more of the step acts on a channel that its limits have brought to rest or to the start queue. -/
theorem channelStep_limits {q : Part} (hkind : (channel p n).config.kind ≠ .none) (h : judgeLimits n (stepSampled n x p) = q)
    (hq : (channel q n).state.awaits = true) : channelStep n x p = q := by
  have rests : (channel q n).state.underWay = false ∧ (channel q n).state.inMotion = false ∧ (channel q n).state ≠ .locking ∧
      (channel q n).state ≠ .unlocking ∧ (channel q n).state ≠ .reopenDwell := by
    generalize (channel q n).state = st at hq
    revert hq
    cases st <;> decide
  obtain ⟨still, motion, locking, unlocking, dwell⟩ := rests
  have lock : judgeLock n q = q := by
    unfold judgeLock
    dsimp only
    split
    · contradiction
    · contradiction
    · rfl
  have timers : judgeTimers n q = q := by
    unfold judgeTimers
    dsimp only
    rw [if_neg (by simp [travelOver, motion]), if_neg (by simp [lockTimeOver, locking, unlocking]), if_neg (by simp [dwellOver, dwell])]
  have before : beforeTimers n x (stepNoted n p) = q := by
    rw [beforeTimers, show sampleChannel n x (stepNoted n p) = stepSampled n x p from rfl, h, lock]
  rw [channelStep_judges hkind, before, timers, judgeCurrent_unwatched (unwatched still)]

/-! ### Telling the owner at the end of an operation -/

theorem answered_slot (j : SlotNo) (r : Result) (d : Nat) (q : Part) : (slotOf (answer j r d q) j).state = .done ∧
    (slotOf (answer j r d q) j).result = asOctet r.code ∧ (slotOf (answer j r d q) j).detail = asOctet d := by
  rw [slotOf_answer_same]
  exact ⟨rfl, rfl, rfl⟩

/-- The order that owns the channel is answered by the end of its operation (R98). -/
theorem endOperation_answers {q : Part} {o : DoorOutcome} {j : SlotNo} (h : (channel q n).owner = .order j) :
    (slotOf (endOperation n o q) j).state = .done ∧ (slotOf (endOperation n o q) j).result = asOctet (moveAnswer o).1.code ∧
      (slotOf (endOperation n o q) j).detail = asOctet (moveAnswer o).2 := by
  have told : slotOf (endOperation n o q) j = slotOf (tellOwner n o q) j := rfl
  rw [told, tellOwner_order h]
  exact answered_slot j _ _ _

theorem endOperation_calm {q : Part} (o : DoorOutcome) (h : NothingWaits q) : NothingWaits (endOperation n o q) := by
  have queue : (endOperation n o q).doors.queue = q.doors.queue := by
    show (tellOwner n o q).doors.queue = _
    rw [(tellOwner_kept n o q).2.1]; rfl
  have actions : (endOperation n o q).sequencer.actions = q.sequencer.actions := by simp
  rw [NothingWaits, queue, actions]
  exact h

/-- Where nothing waits the end of the event leaves the channels and the order slots. -/
theorem finish_calm_doors {q : Part} (h : NothingWaits q) :
    (∀ m, channel (finish q) m = channel q m) ∧ (∀ j, slotOf (finish q) j = slotOf q j) := by
  obtain ⟨⟨window, -, -, -, -, -, -, -, channels, -⟩, -⟩ := settle_calm h
  refine ⟨fun m => ?_, fun j => ?_⟩
  · rw [channel_finish, channel, channels, channel]
  · rw [slotOf_finish, slotOf, window, slotOf]

theorem nothingWaits_sampled (h : NothingWaits p) : NothingWaits (stepSampled n x p) := h

/-! ### Arrivals (R85) -/

theorem notBoth {c : Channel} (h : c.limA.high = false ∨ c.limB.high = false) : ¬ (c.limA.high && c.limB.high) = true := by
  obtain h | h := h <;> simp [h]

/-- The limits found at the target of a move. -/
theorem judgeLimits_arrives {e : End} (hstate : (channel p n).state = e.movingState)
    (hthere : (sampledChannel x (channel p n)).limit e = true) (haway : (sampledChannel x (channel p n)).limit e.other = false) :
    judgeLimits n (stepSampled n x p) = arriveMove n e (stepSampled n x p) := by
  have state : (channel (stepSampled n x p) n).state = e.movingState := by rw [channel_stepSampled]; exact hstate
  rw [← channel_stepSampled (n := n)] at hthere haway
  cases e with
  | a => exact (judgeLimits_at state (by decide) (notBoth (.inr haway))).trans (if_pos hthere)
  | b => exact (judgeLimits_at state (by decide) (notBoth (.inl haway))).trans (if_pos hthere)

/-- A gate without a lock at the end that it reaches stands there, done. -/
theorem gate_arrives {e : End} (hkind : (channel p n).config.kind = .platformGate) (hlock : e = .a → (channel p n).config.locking = false)
    (hstate : (channel p n).state = e.movingState) (hwaits : NothingWaits p)
    (hthere : (sampledChannel x (channel p n)).limit e = true) (haway : (sampledChannel x (channel p n)).limit e.other = false) :
    let t := finish (channelStep n x p)
    (channel t n).state = e.atState ∧ (channel t n).motor = none ∧ (channel t n).lockRel = false ∧ (channel t n).target = none ∧
      (channel t n).owner = .none ∧
      (∀ j, (channel p n).owner = .order j → (slotOf t j).state = .done ∧ (slotOf t j).result = 0 ∧ (slotOf t j).detail = 0) := by
  have stopped : channel (stopOutputs n (stepSampled n x p)) n = stoppedChannel (sampledChannel x (channel p n)) := by
    rw [channel_stopOutputs_same, channel_stepSampled]; rfl
  have limits : judgeLimits n (stepSampled n x p) = finishAt n e .done (stopOutputs n (stepSampled n x p)) := by
    rw [judgeLimits_arrives hstate hthere haway, arriveMove, stopped, if_neg, if_neg]
    · simp [stoppedChannel, sampledChannel, hkind, DoorKind.isCabin]
    · cases e with
      | a => simp [stoppedChannel, sampledChannel, hlock rfl]
      | b => simp
  have own : channel (finishAt n e .done (stopOutputs n (stepSampled n x p))) n =
      doneChannel e (stoppedChannel (sampledChannel x (channel p n))) := by rw [channel_finishAt, stopped]
  have step := channelStep_limits (by rw [hkind]; decide) limits (by rw [own]; cases e <;> rfl)
  have owner : (channel (standAt n e (stopOutputs n (stepSampled n x p))) n).owner = (channel p n).owner := by
    rw [standAt, channel_restIn_same, stopped]; rfl
  have waits : NothingWaits (standAt n e (stopOutputs n (stepSampled n x p))) := by
    obtain ⟨-, doors, -, -, -, -, -, sequencer, -⟩ := standAt_kept n e (stopOutputs n (stepSampled n x p))
    rw [NothingWaits, doors, sequencer]
    exact hwaits
  obtain ⟨channels, slots⟩ := finish_calm_doors (endOperation_calm (n := n) .done waits)
  rw [step]
  rw [finishAt] at own ⊢
  dsimp only
  rw [channels, own]
  refine ⟨rfl, rfl, rfl, rfl, rfl, fun j hj => ?_⟩
  rw [slots]
  exact endOperation_answers (owner.trans hj)

/-- A channel in the start queue while the budget has no start left and no action waits due: the judgements leave every channel. -/
structure Stands (n : ChannelNo) (r q : Part) : Prop where
  channels : q.doors.channels = r.doors.channels
  slots : q.window.slots = r.window.slots
  queue : .door n ∈ q.doors.queue
  room : budgetRoom q.doors q.clock.now = false
  waits : ∀ a ∈ q.sequencer.actions, a.dueWaiting = false

theorem Stands.of_eq {r q q' : Part} (h : Stands n r q) (hd : q'.doors = q.doors) (hs : q'.window = q.window) (hc : q'.clock = q.clock)
    (ha : q'.sequencer = q.sequencer) : Stands n r q' :=
  ⟨by rw [hd, h.channels], by rw [hs, h.slots], by rw [hd]; exact h.queue, by rw [hd, hc]; exact h.room, by rw [ha]; exact h.waits⟩

theorem stands_judgeLaunch {r q : Part} (h : Stands n r q) : Stands n r (judgeLaunch q) := by
  have queue : .door n ∈ (judgeLaunch q).doors.queue ∧
      (judgeLaunch q).doors = { q.doors with queue := (judgeLaunch q).doors.queue } ∧
      (judgeLaunch q).window = q.window ∧ (judgeLaunch q).clock = q.clock ∧ (judgeLaunch q).sequencer = q.sequencer := by
    have member := h.queue
    unfold judgeLaunch
    dsimp only
    (repeat' split) <;> simp [modLaunch, requestRelease, removeRequest, member]
  obtain ⟨member, doors, window, clock, sequencer⟩ := queue
  refine ⟨by rw [doors]; exact h.channels, by rw [window]; exact h.slots, member, ?_, by rw [sequencer]; exact h.waits⟩
  rw [doors, clock]
  exact h.room

theorem stands_settle {r : Part} (h : Stands n r r) : Stands n r (settle 64 r) := by
  refine settle_keeps (P := Stands n r) (fun q hq => ?_) (fun q hq => stands_judgeLaunch hq) 64 h
  have noted (w : Work) : Stands n r { q with work := w } := hq.of_eq rfl rfl rfl rfl
  unfold settleOnce
  split
  · exact stands_judgeLaunch (noted _)
  · split
    · have full : judgeArbiter { q with work := { q.work with arbiter := false } } = { q with work := { q.work with arbiter := false } } := by
        unfold judgeArbiter
        split
        · rfl
        · exact if_neg (by rw [show budgetRoom _ _ = false from hq.room]; exact Bool.false_ne_true)
      rw [full]
      exact noted _
    · split
      · rw [judgeSequencer_waitless (p := { q with work := { q.work with sequencer := false } }) hq.waits]
        exact noted _
      · exact hq

theorem budgetRoom_congr {q r : Part} {now : Time} (hh : r.doors.history = q.doors.history) (hb : r.doors.budget = q.doors.budget)
    (hw : r.doors.window = q.doors.window) : budgetRoom r.doors now = budgetRoom q.doors now := by
  rw [budgetRoom, grantsCounted, hh, hb, hw, budgetRoom, grantsCounted]

theorem return_stands {q : Part} (hroom : budgetRoom q.doors q.clock.now = false) (hwaits : ∀ a ∈ q.sequencer.actions, a.dueWaiting = false) :
    Stands n (automaticReturn n q) (automaticReturn n q) :=
  ⟨rfl, rfl, List.mem_append_right _ List.mem_cons_self, hroom, hwaits⟩

/-- A cabin operator at B hands its arrival on and waits for its automatic return (R85). -/
theorem cabin_arrives (hkind : (channel p n).config.kind.isCabin = true) (hstate : (channel p n).state = .movingToB)
    (hwaits : NothingWaits p) (hroom : budgetRoom p.doors p.clock.now = false)
    (hthere : (sampledChannel x (channel p n)).limB.high = true) (haway : (sampledChannel x (channel p n)).limA.high = false) :
    let t := finish (channelStep n x p)
    (channel t n).state = .waitingStart ∧ (channel t n).waits = .move ∧ (channel t n).target = some .a ∧
      (channel t n).owner = .automatic ∧ (channel t n).motor = none ∧ .door n ∈ t.doors.queue ∧
      (∀ j, (channel p n).owner = .order j → (slotOf t j).state = .done ∧ (slotOf t j).result = 0) := by
  have stopped : channel (stopOutputs n (stepSampled n x p)) n = stoppedChannel (sampledChannel x (channel p n)) := by
    rw [channel_stopOutputs_same, channel_stepSampled]; rfl
  have kind : ((stoppedChannel (sampledChannel x (channel p n))).config.locking && End.b == .a) ≠ true := by simp
  have limits : judgeLimits n (stepSampled n x p) =
      automaticReturn n (endOperation n .reachedB (stopOutputs n (stepSampled n x p))) := by
    rw [judgeLimits_arrives (e := .b) hstate hthere haway, arriveMove, stopped, if_neg kind, if_pos]
    simp [stoppedChannel, sampledChannel, hkind]
  have own : channel (automaticReturn n (endOperation n .reachedB (stopOutputs n (stepSampled n x p)))) n =
      returningChannel (endedChannel (stoppedChannel (sampledChannel x (channel p n)))) := by
    rw [automaticReturn, channel_enterWaiting_own, channel_modChannel_same, channel_endOperation_same, stopped]
    rfl
  have operator : (channel p n).config.kind ≠ .none := by
    intro e
    rw [e] at hkind
    cases hkind
  have step := channelStep_limits operator limits (by rw [own]; rfl)
  have answers (j : SlotNo) (hj : (channel p n).owner = .order j) :=
    endOperation_answers (n := n) (q := stopOutputs n (stepSampled n x p)) (o := .reachedB) (j := j) (by rw [stopped]; exact hj)
  obtain ⟨clock, -, -, -, -, -, -, -, history, budget, window, -, -, -, actions, -⟩ :=
    (endOperation_kept n .reachedB (stopOutputs n (stepSampled n x p))).1
  have stands : Stands n (automaticReturn n (endOperation n .reachedB (stopOutputs n (stepSampled n x p))))
      (automaticReturn n (endOperation n .reachedB (stopOutputs n (stepSampled n x p)))) := by
    refine return_stands ?_ (by rw [actions]; exact hwaits.2)
    rw [clock, budgetRoom_congr history budget window]
    exact hroom
  obtain ⟨channels, slots, queue, -, -⟩ := stands_settle stands
  have ownSettled := (congrArg (fun t => t.get n) channels).trans own
  have slot (j : SlotNo) : slotOf (finish (automaticReturn n (endOperation n .reachedB (stopOutputs n (stepSampled n x p))))) j =
      slotOf (endOperation n .reachedB (stopOutputs n (stepSampled n x p))) j :=
    (slotOf_finish _ j).trans (congrArg (fun t => t.get j) slots)
  rw [step]
  dsimp only
  rw [channel_finish, finish_doors]
  generalize settle 64 _ = t at ownSettled queue
  rw [show channel t n = _ from ownSettled]
  refine ⟨rfl, rfl, rfl, rfl, rfl, queue, fun j hj => ?_⟩
  obtain ⟨done, result, -⟩ := answers j hj
  rw [slot]
  exact ⟨done, result⟩

/-! ### A door away from its end (R92) -/

theorem leaves_end (hkind : (channel p n).config.kind ≠ .none)
    (hleft : ((channel p n).state = .atA ∧ (sampledChannel x (channel p n)).limA.high = false) ∨
      ((channel p n).state = .atB ∧ (sampledChannel x (channel p n)).limB.high = false) ∨
      ((channel p n).state = .locking ∧ (sampledChannel x (channel p n)).limA.high = false)) :
    channelStep n x p = leaveEnd n (stepSampled n x p) := by
  have state : (channel (stepSampled n x p) n).state = (channel p n).state := by rw [channel_stepSampled]; rfl
  have gone : (channel (leaveEnd n (stepSampled n x p)) n).state.awaits = true := by rw [channel_leaveEnd]; rfl
  rw [← channel_stepSampled (n := n)] at hleft
  refine channelStep_limits hkind ?_ gone
  obtain ⟨hs, low⟩ | ⟨hs, low⟩ | ⟨hs, low⟩ := hleft
  · exact (judgeLimits_at (state.trans hs) (by decide) (notBoth (.inl low))).trans (if_neg (by rw [low]; decide))
  · exact (judgeLimits_at (state.trans hs) (by decide) (notBoth (.inr low))).trans (if_neg (by rw [low]; decide))
  · exact (judgeLimits_at (state.trans hs) (by decide) (notBoth (.inl low))).trans (if_neg (by rw [low]; decide))

/-- The end of an operation on which no cabin action is in flight calls no judgement. -/
theorem endOperation_work {q : Part} (o : DoorOutcome) (h : ∀ f ∈ q.sequencer.flights.get n, f.isCabin = false) :
    (endOperation n o q).work = q.work := by
  show (tellOwner n o q).work = q.work
  unfold tellOwner
  dsimp only
  split
  · rfl
  · rfl
  · rfl
  · unfold handOutcome
    split
    · rfl
    next f hf =>
      dsimp only
      rw [if_neg]
      · rfl
      · have gate := h f hf
        simp [gate]

theorem left_finishes (hwork : p.work = {}) (hkind : (channel p n).config.kind ≠ .none)
    (hleft : ((channel p n).state = .atA ∧ (sampledChannel x (channel p n)).limA.high = false) ∨
      ((channel p n).state = .atB ∧ (sampledChannel x (channel p n)).limB.high = false) ∨
      ((channel p n).state = .locking ∧ (sampledChannel x (channel p n)).limA.high = false))
    (hwaits : NothingWaits p ∨ ∀ f ∈ p.sequencer.flights.get n, f.isCabin = false) :
    let t := finish (channelStep n x p)
    (channel t n).state = .unknown ∧ (channel t n).lastReason = .leftEnd ∧ (channel t n).target = none ∧ (channel t n).owner = .none ∧
      (channel t n).motor = (channel p n).motor ∧ t.window.attention.getLsbD 5 = true ∧
      (∀ j, (channel p n).owner = .order j → (slotOf t j).state = .done ∧ (slotOf t j).result = asOctet Result.failed.code ∧
        (slotOf t j).detail = 5) := by
  have step := leaves_end hkind hleft
  have own : channel (leaveEnd n (stepSampled n x p)) n = leftChannel (sampledChannel x (channel p n)) := by
    rw [channel_leaveEnd, channel_stepSampled]
  have bit : (leaveEnd n (stepSampled n x p)).window.attention.getLsbD 5 = true := by
    simp [leaveEnd, attend, Attn.bit]
  have answers (j : SlotNo) (hj : (channel p n).owner = .order j) : (slotOf (leaveEnd n (stepSampled n x p)) j).state = .done ∧
      (slotOf (leaveEnd n (stepSampled n x p)) j).result = asOctet Result.failed.code ∧
      (slotOf (leaveEnd n (stepSampled n x p)) j).detail = 5 := by
    rw [leaveEnd, slotOf_attend]
    refine endOperation_answers ?_
    rw [channel_modChannel_same, channel_stepSampled]
    exact hj
  have settled : (∀ m, channel (finish (leaveEnd n (stepSampled n x p))) m = channel (leaveEnd n (stepSampled n x p)) m) ∧
      (∀ j, slotOf (finish (leaveEnd n (stepSampled n x p))) j = slotOf (leaveEnd n (stepSampled n x p)) j) := by
    obtain waits | gates := hwaits
    · exact finish_calm_doors (endOperation_calm (n := n) (.failed .leftEnd)
        (q := modChannel n (fun c => { c with state := .unknown, lastReason := .leftEnd }) (stepSampled n x p)) waits)
    · have quiet : (leaveEnd n (stepSampled n x p)).work = {} := (endOperation_work (.failed .leftEnd)
        (q := modChannel n (fun c => { c with state := .unknown, lastReason := .leftEnd }) (stepSampled n x p)) gates).trans hwork
      have same := settle_of_quiet quiet
      exact ⟨fun m => by rw [channel_finish, same], fun j => by rw [slotOf_finish, same]⟩
  have bits := (finish_remembers (leaveEnd n (stepSampled n x p))).bits 5 bit
  obtain ⟨channels, slots⟩ := settled
  rw [step]
  dsimp only
  rw [channels, own]
  refine ⟨rfl, rfl, rfl, rfl, rfl, bits, fun j hj => ?_⟩
  rw [slots]
  exact answers j hj

theorem both_fault (hkind : (channel p n).config.kind ≠ .none) (hstate : (channel p n).state ≠ .fault)
    (ha : (sampledChannel x (channel p n)).limA.high = true) (hb : (sampledChannel x (channel p n)).limB.high = true) :
    channelStep n x p = enterFault n .bothLimits (stepSampled n x p) := by
  have own := channel_stepSampled (n := n) (x := x) (p := p)
  refine channelStep_limits hkind ?_ (by rw [channel_enterFault]; rfl)
  unfold judgeLimits
  dsimp only
  rw [own, if_neg (by simpa [sampledChannel] using hstate), if_pos (by rw [ha, hb]; rfl)]

end

/-- Settles O51: the step sees its inputs, and each case of the limits brings the channel to rest or to the start queue. -/
theorem doorChannelStepFollowsTheLimits : Obligations.DoorChannelStepFollowsTheLimits := by
  intro n x s hready hdue c a b l
  have quiet : s.part.work = {} := hready.2.1
  have seen := channelStep_seen (n := n) (x := x) (p := s.part)
  have hstill := channelStep_still (n := n) (x := x) (p := s.part)
  obtain ⟨clock, track, sensors, grip, line, messages, -⟩ := still_fields hstill
  have cabins := still_cabins hstill
  have taken : (stepNoted n s.part).clock.stepsTaken.get n = true := by simp [stepNoted, vector_get_eq]
  refine ⟨_, occurs_acts hready.1 hdue, ?_⟩
  dsimp only
  have inputs := seen
  simp only [Channel.seen, Prod.mk.injEq] at inputs
  obtain ⟨started, limA, limB, lock, config⟩ := inputs
  refine ⟨limA, limB, lock, started, config, ?_, ?_, track, line, messages, grip, sensors, cabins, fun hkind hcalls => ?_,
    fun hkind hwaits hstate hlock ha hb => ?_, fun hkind hwaits hstate hb ha => ?_, fun hkind hwaits hstate hb ha hroom => ?_,
    fun hkind hleft hwaits => ?_, fun hkind hstate ha hb => ?_⟩
  · rw [clock]; exact taken
  · rw [clock]; rfl
  · obtain ⟨frame, follows⟩ := none_follows (n := n) (x := x) hready hkind hcalls
    refine ⟨frame, follows.trans ?_⟩
    rw [noneState_eq]
    rfl
  · exact gate_arrives (e := .a) hkind (fun _ => hlock) hstate hwaits ha hb
  · exact gate_arrives (e := .b) hkind (fun e => nomatch e) hstate hwaits hb ha
  · exact cabin_arrives hkind hstate hwaits hroom hb ha
  · exact left_finishes quiet hkind hleft (hwaits.imp_right And.right)
  · have step := both_fault hkind hstate ha hb
    obtain ⟨entered, free, -, told, -⟩ := fault_finishes n .bothLimits (stepSampled n x s.part)
    have own := channel_stepSampled (n := n) (x := x) (p := s.part)
    rw [own] at entered told
    rw [step, entered]
    exact ⟨rfl, rfl, rfl, rfl, rfl, rfl, free, told⟩

end Sys2Proof.Machine

/-! Octets that stand from an offset on: how the fields, records and tables of a view are read one after another (section 11.6). -/

namespace Sys2Proof.Machine

/-- The octets of the list stand from the offset on. -/
def At (o : Nat → Byte) (off : Nat) (l : List Byte) : Prop := ∀ k, k < l.length → o (off + k) = l.getD k 0

section
variable {o : Nat → Byte} {off : Nat}

theorem at_append {l m : List Byte} : At o off (l ++ m) ↔ At o off l ∧ At o (off + l.length) m := by
  refine ⟨fun h => ⟨fun k hk => ?_, fun k hk => ?_⟩, fun ⟨hl, hm⟩ k hk => ?_⟩
  · rw [h k (by rw [List.length_append]; omega), getD_left _ _ _ hk]
  · rw [Nat.add_assoc, h (l.length + k) (by rw [List.length_append]; omega), getD_right _ _ _ _ rfl]
  · by_cases hleft : k < l.length
    · rw [hl k hleft, getD_left _ _ _ hleft]
    · obtain ⟨j, rfl⟩ := Nat.exists_eq_add_of_le (Nat.le_of_not_lt hleft)
      rw [← Nat.add_assoc, hm j (by rw [List.length_append] at hk; omega), getD_right _ _ _ _ rfl]

theorem at_one {b : Byte} : At o off [b] ↔ o off = b := by
  refine ⟨fun h => h 0 Nat.one_pos, fun h k hk => ?_⟩
  obtain rfl : k = 0 := by simpa using hk
  exact h

theorem at_cons {b : Byte} {l : List Byte} : At o off (b :: l) ↔ o off = b ∧ At o (off + 1) l := by
  rw [← at_one, ← List.singleton_append, at_append]
  rfl

theorem at_o8 {n : Nat} : At o off (o8 n) ↔ Has8 o off n := at_one

/-- The upper part of a number and its lowest octet. -/
theorem append_ofNat (w n : Nat) : BitVec.ofNat w (n / 256) ++ BitVec.ofNat 8 n = BitVec.ofNat (w + 8) n := by
  apply BitVec.eq_of_toNat_eq
  have low : n % 2 ^ 8 < 2 ^ 8 := Nat.mod_lt _ (by decide)
  rw [BitVec.toNat_append, BitVec.toNat_ofNat, BitVec.toNat_ofNat, BitVec.toNat_ofNat, ← Nat.shiftLeft_add_eq_or_of_lt low,
    Nat.shiftLeft_eq, Nat.pow_add, Nat.mul_comm (2 ^ w) (2 ^ 8), Nat.mod_mul]
  norm_num
  ring

theorem append_injective {w : Nat} {a c : BitVec w} {b d : Byte} (h : a ++ b = c ++ d) : a = c ∧ b = d := by
  have numbers := congrArg BitVec.toNat h
  rw [BitVec.toNat_append, BitVec.toNat_append, ← Nat.shiftLeft_add_eq_or_of_lt b.isLt, ← Nat.shiftLeft_add_eq_or_of_lt d.isLt,
    Nat.shiftLeft_eq, Nat.shiftLeft_eq] at numbers
  have hb := b.isLt
  have hd := d.isLt
  exact ⟨BitVec.eq_of_toNat_eq (by omega), BitVec.eq_of_toNat_eq (by omega)⟩

theorem append_iff {w : Nat} {a : BitVec w} {b : Byte} (n : Nat) :
    a ++ b = BitVec.ofNat (w + 8) n ↔ a = BitVec.ofNat w (n / 256) ∧ b = BitVec.ofNat 8 n := by
  rw [← append_ofNat]
  exact ⟨append_injective, fun ⟨ha, hb⟩ => by rw [ha, hb]⟩

theorem at_o16 {n : Nat} : At o off (o16 n) ↔ Has16 o off (BitVec.ofNat 16 n) := by
  rw [o16, at_cons, at_one, Has16, append_iff (w := 8)]
  exact and_comm

theorem at_o16s {n : Int} : At o off (o16s n) ↔ Has16 o off (BitVec.ofInt 16 n) := by
  rw [o16s, at_o16, BitVec.ofNat_toNat, BitVec.setWidth_eq]

theorem at_o32 {n : Nat} : At o off (o32 n) ↔ Has32 o off (BitVec.ofNat 32 n) := by
  have low : n / 65536 = n / 256 / 256 := by omega
  rw [o32, at_append, o16, o16, at_cons, at_one, at_cons, at_one, Has32, append_iff (w := 24), append_iff (w := 16), append_iff (w := 8), low]
  tauto

theorem at_oTime {t : Time} : At o off (oTime t) ↔ Has32 o off t := by
  rw [oTime, at_o32, BitVec.ofNat_toNat, BitVec.setWidth_eq]

theorem at_pad {n : Nat} : At o off (pad n) ↔ Zeros o off (off + n) := by
  rw [At, Zeros, pad_length]
  refine ⟨fun h j => ?_, fun h k hk => ?_⟩
  · rw [h j.val (by have := j.isLt; omega), pad_getD]
  · rw [pad_getD]
    exact h ⟨k, by omega⟩

theorem at_vector {n : Nat} {v : Vector Byte n} : At o off v.toList ↔ ∀ j : Fin n, o (off + j.val) = v.get j := by
  have value (j : Nat) (h : j < n) : v.toList.getD j 0 = v.get ⟨j, h⟩ := by
    rw [vector_get_eq]
    simp [List.getD_eq_getElem?_getD, h]
  rw [At, Vector.length_toList]
  exact ⟨fun h j => by rw [h j.val j.isLt, value j.val j.isLt], fun h k hk => by rw [h ⟨k, hk⟩, value k hk]⟩

/-- The octets of a table: one row after another, and 0 in the room left. -/
theorem at_table {α : Type} {f : α → List Byte} {l : List α} {room size : Nat} {shows : (Nat → Byte) → α → Prop}
    (hf : ∀ y, (f y).length = size) (hshows : ∀ (r : Nat → Byte) (x : α), At r 0 (f x) → shows r x)
    (h : At o off (table f l room size)) :
    Rows o off size room l shows := by
  intro j
  have octets (k : Nat) (hk : k < size) : o (off + size * j.val + k) = (table f l room size).getD (size * j.val + k) 0 := by
    rw [Nat.add_assoc]
    refine h _ ?_
    rw [table_length f l room size hf]
    calc size * j.val + k < size * (j.val + 1) := by rw [Nat.mul_add]; omega
      _ ≤ size * room := Nat.mul_le_mul_left _ j.isLt
  cases hrow : l[j.val]? with
  | none =>
    intro k
    have hk : k.val < size := by have := k.isLt; omega
    rw [octets k.val hk, table_getD f l room size j.val k.val hf j.isLt hk, hrow]
  | some x =>
    refine hshows _ x fun k hk => ?_
    rw [hf] at hk
    rw [Nat.zero_add, octets k hk, table_getD f l room size j.val k hf j.isLt hk, hrow]

/-- The octets of the rows of a vector. -/
theorem at_flatMap {α : Type} {n size : Nat} {f : α → List Byte} {v : Vector α n} (hf : ∀ y, (f y).length = size)
    (h : At o off (v.toList.flatMap f)) (j : Fin n) : At o (off + size * j.val) (f (v.get j)) := by
  intro k hk
  rw [hf] at hk
  have row : v.toList[j.val]? = some (v.get j) := by
    rw [vector_get_eq]
    simp
  rw [Nat.add_assoc, h, flatMap_getD f size k hk v.toList j.val (v.get j) (fun y _ => hf y) row]
  rw [flatMap_length_of f size _ (fun y _ => hf y), Vector.length_toList]
  calc size * j.val + k < size * (j.val + 1) := by rw [Nat.mul_add]; omega
    _ ≤ size * n := Nat.mul_le_mul_left _ j.isLt

theorem flatMap_vector_length {α : Type} {n size : Nat} {f : α → List Byte} {v : Vector α n} (hf : ∀ y, (f y).length = size) :
    (v.toList.flatMap f).length = size * n := by
  rw [flatMap_length_of f size _ (fun y _ => hf y), Vector.length_toList]

/-- A view that is read octet by octet, and 0 beyond it. -/
theorem at_view {l : List Byte} {size : Nat} (h : ∀ k, k < size → o k = l.getD k 0) (hl : l.length ≤ size) :
    At o 0 l ∧ Zeros o l.length size := by
  refine ⟨fun k hk => ?_, fun j => ?_⟩
  · rw [Nat.zero_add]
    exact h k (by omega)
  · rw [h _ (by have := j.isLt; omega)]
    simp [List.getD_eq_getElem?_getD]

end

end Sys2Proof.Machine

/-! The views of the lists, the doors and the sensors, octet by octet (section 11.6). -/

namespace Sys2Proof.Machine

theorem has8_congr {o : Nat → Byte} {off n m : Nat} (h : Has8 o off n) (e : n = m) : Has8 o off m := e ▸ h

/-! ### Flags and codes -/

theorem bitAt_eq (b : Bool) (n : Nat) : bitAt b n = 2 ^ n * b.toNat := by
  cases b <;> simp [bitAt]

theorem bitsOf_nil : bitsOf [] = 0 := rfl

theorem bitsOf_cons (b : Bool) (l : List Bool) : bitsOf (b :: l) = b.toNat + 2 * bitsOf l := by
  cases b <;> rfl

theorem summitMark_code (m : SummitMark) : m.code = [SummitMark.none, .passed, .missed].idxOf m := by cases m <;> rfl

theorem faultCategory_code (c : FaultCategory) : c.code = [FaultCategory.none, .service, .fast].idxOf c := by cases c <;> rfl

theorem doorState_code (s : DoorState) : s.code = [DoorState.unknown, .atA, .atB, .unlocking, .waitingStart, .movingToA, .movingToB,
    .reversing, .reopenDwell, .locking, .halted, .fault].idxOf s := by cases s <;> rfl

theorem doorReason_code (r : DoorReason) :
    r.code = [DoorReason.none, .travelTimeout, .lockTimeout, .obstruction, .bothLimits, .leftEnd].idxOf r := by cases r <;> rfl

theorem motion_code (m : Motion) : m.code = [Motion.none, .move, .reversal].idxOf m := by cases m <;> rfl

theorem targetCode_eq (t : Option End) : targetCode t = [none, some End.a, some .b].idxOf t := by
  match t with
  | none => rfl
  | some .a => rfl
  | some .b => rfl

theorem settledCode_eq (v : Option Bool) : settledCode v = [none, some true, some false].idxOf v := by
  match v with
  | none => rfl
  | some true => rfl
  | some false => rfl

theorem codeMark_code (m : CodeMark) : m.code = [CodeMark.notRead, .fresh, .held].idxOf m := by cases m <;> rfl

section
variable {o : Nat → Byte}

/-! ### The station queue and the line roster -/

theorem queueShown {p : Part} (h : ∀ k, k < 0x40 → o k = (queueView p).getD k 0) : QueueShown o p := by
  have row (e : QueueEntry) : (o8 e.cabin ++ o8 e.segment ++ o16 e.entered.toNat).length = 4 := rfl
  have length : (queueView p).length ≤ 0x40 := by
    rw [queueView, List.length_append, table_length _ _ _ 4 row]
    exact Nat.le_refl _
  obtain ⟨octets, -⟩ := at_view h length
  simp only [queueView, segmentPair, at_append, at_o8, List.length_append, o8_length, Nat.reduceAdd, and_assoc] at octets
  obtain ⟨count, first, second, third, rows⟩ := octets
  refine ⟨count, first, second, third, at_table row (fun r e he => ?_) rows⟩
  simp only [at_append, at_o8, at_o16, List.length_append, o8_length, Nat.reduceAdd, and_assoc, BitVec.ofNat_toNat] at he
  exact he

theorem rosterShown {p : Part} (h : ∀ k, k < 0x208 → o k = (rosterView p).getD k 0) : RosterShown o p := by
  have row (e : RosterEntry) : (o8 e.cabin ++ o8 e.mark.code ++ o16 e.seconds).length = 4 := rfl
  have length : (rosterView p).length ≤ 0x208 := by
    rw [rosterView, List.length_append, table_length _ _ _ 4 row]
    exact Nat.le_refl _
  obtain ⟨octets, -⟩ := at_view h length
  simp only [rosterView, at_append, at_o8, at_pad, List.length_append, o8_length, pad_length, Nat.reduceAdd, and_assoc] at octets
  obtain ⟨count, missed, zeros, rows⟩ := octets
  refine ⟨count, missed, zeros, at_table row (fun r e he => ?_) rows⟩
  simp only [at_append, at_o8, at_o16, List.length_append, o8_length, Nat.reduceAdd, and_assoc, summitMark_code] at he
  exact he

/-! ### The door channels and the door program -/

theorem queuePlace_eq (d : Doors) (n : ChannelNo) :
    queuePlace d n = if .door n ∈ d.queue then d.queue.idxOf (.door n) + 1 else 0 := by
  unfold queuePlace
  split
  next h => rw [if_neg fun member => by simpa using List.findIdx?_eq_none_iff.mp h _ member]
  next i h =>
    obtain ⟨bound, place⟩ := List.findIdx?_eq_some_iff_findIdx_eq.mp h
    have index : d.queue.idxOf (.door n) = i := place
    rw [if_pos (List.idxOf_lt_length_iff.mp (by rw [index]; exact bound)), index]

theorem channelView_length (p : Part) (n : ChannelNo) : (channelView p n).length = 32 := by
  unfold channelView
  dsimp only
  simp only [List.length_append, o8_length, o16_length, oTime_length]

theorem channelCode_eq (p : Part) (n : ChannelNo) : channelCode p n = (p.sensors.codes.toList.getD n.val 0).toNat := by
  rw [channelCode, vector_get_eq]
  have bound : n.val < 11 := by omega
  simp [List.getD_eq_getElem?_getD, bound]

/-- The mark of a fresh code in bit 12 of its half-word. -/
theorem bitAt_fresh (m : CodeMark) : bitAt (m == .fresh) 12 = if m = .fresh then 4096 else 0 := by cases m <;> rfl

theorem channelShown {p : Part} {n : ChannelNo} (h : At o 0 (channelView p n)) : ChannelShown o p n := by
  unfold channelView at h
  unfold ChannelShown
  rw [queuePlace_eq, channelCode_eq] at h
  dsimp only at h ⊢
  generalize channel p n = c at *
  generalize (if Requester.door n ∈ p.doors.queue then _ else 0) = place at *
  simp only [List.append_assoc, at_append, at_o8, at_o16, at_oTime, o8_length, o16_length, Nat.reduceAdd, faultCategory_code, doorState_code,
    targetCode_eq, motion_code, doorReason_code, bitAt_fresh] at h
  obtain ⟨kind, closing, limit, dwell, retries, lock, lockTime, threshold, reach, category, cap, state, target, owner, slot, queued, used,
    bits, rest⟩ := h
  refine ⟨has8_congr kind ?_, has8_congr closing ?_, limit, dwell, retries, has8_congr lock ?_, lockTime, threshold, reach, category,
    has8_congr cap ?_, state, target, owner, slot, queued, used, has8_congr bits ?_, rest⟩
  · cases c.config.kind <;> rfl
  · cases c.config.closingEnd <;> rfl
  · simp [bitsOf_cons, bitsOf_nil, bitAt_eq]
  · simp [bitsOf_cons, bitsOf_nil, bitAt_eq]
  · simp only [bitsOf_cons, bitsOf_nil, bitAt_eq, Debounce.high]
    ring

/-- A door program entry and its count. -/
theorem programEntryShown {e : Option ProgramEntry} {made : Nat} (h : At o 0 (programView e made)) : ProgramEntryShown o e made := by
  cases e with
  | none =>
    simp only [programView, at_append, at_pad, at_o16, pad_length, Nat.zero_add] at h
    exact h
  | some e =>
    simp only [programView, List.append_assoc, at_append, at_o8, at_o16, o8_length, o16_length, Nat.reduceAdd] at h
    obtain ⟨trigger, door, action, condition, delay, count⟩ := h
    refine ⟨⟨trigger, door, has8_congr action ?_, has8_congr condition ?_, delay⟩, count⟩
    · cases e.action <;> rfl
    · cases e.condition <;> rfl

theorem programView_length (e : Option ProgramEntry) (made : Nat) : (programView e made).length = 8 := by
  cases e <;> rfl

end

end Sys2Proof.Machine

/-! The views of the sensors, the rope, the supervisor and the line, octet by octet (section 11.6). -/

namespace Sys2Proof.Machine

theorem gripResult_code (g : GripResult) : g.code = [GripResult.none, .pass, .fail, .incomplete].idxOf g := by cases g <;> rfl

theorem causeKind_code (k : CauseKind) :
    k.code = 1 + [CauseKind.ropeSlip, .rollback, .overspeed, .encoderFault, .ropePosition, .brittleLoop, .converterFault, .tensionLimit,
      .gripFail, .gripIncomplete, .doorFault, .cabinDoorUnlocked, .holdOverflow, .trackOverflow, .sequenceFault, .releaseTimeout,
      .summitStop, .summitFastStop, .linkLost, .startFailed, .hostFastStop].idxOf k := by
  cases k <;> rfl

theorem diagnosis_code (d : Diagnosis) :
    d.code = [Diagnosis.none, .summitUnpowered, .lineOpen, .trainingFailed, .lost, .quality].idxOf d := by
  cases d <;> rfl

theorem callState_code (s : CallState) :
    s.code = [CallState.unavailable, .idle, .seizing, .ringingOut, .ringingIn, .connected, .clearing].idxOf s := by
  cases s <;> rfl

theorem hookCode_eq (v : Option Bool) : hookCode v = [none, some false, some true].idxOf v := by
  match v with
  | none => rfl
  | some false => rfl
  | some true => rfl

section
variable {o : Nat → Byte}

/-! ### Sensors and rope -/

theorem switchCode_inFault (s : Switch) : bitAt s.inFault 6 = if s.kind ≠ .general ∧ s.value = some false then 64 else 0 := by
  simp [bitAt, Switch.inFault]

theorem converterHealthy_code (u : Sensors) : bitAt (converterHealthy u) 0 = if u.everGood = true ∧ u.failRun ≠ 3 then 1 else 0 := by
  simp [bitAt, converterHealthy, converterFaultPresent]

theorem switches_length (v : Vector Switch 8) : (v.toList.flatMap switchView).length = 8 :=
  flatMap_vector_length (size := 1) fun _ => rfl

theorem changes_length (v : Vector Switch 8) : (v.toList.flatMap fun c => o16 c.changes).length = 16 :=
  flatMap_vector_length (size := 2) fun _ => rfl

theorem codes_length (v : Vector (BitVec 12) 11) (mark : Nat) : (v.toList.flatMap fun c => o16 (c.toNat + 4096 * mark)).length = 22 :=
  flatMap_vector_length (size := 2) fun _ => rfl

theorem sensorView_length (p : Part) : (sensorView p).length = 54 := by
  unfold sensorView
  dsimp only
  simp only [List.length_append, o8_length, o16_length, switches_length, changes_length, codes_length]

theorem sensorsShown {p : Part} (h : ∀ k, k < 0x40 → o k = (sensorView p).getD k 0) : SensorsShown o p.sensors := by
  obtain ⟨octets, zeros⟩ := at_view h (by rw [sensorView_length]; decide)
  rw [sensorView_length] at zeros
  unfold sensorView at octets
  dsimp only at octets
  generalize p.sensors = u at *
  simp only [List.append_assoc, at_append, at_o8, at_o16, o8_length, o16_length, switches_length, changes_length, codes_length, Nat.reduceAdd,
    settledCode_eq, converterHealthy_code, BitVec.ofNat_toNat] at octets
  obtain ⟨switches, changes, codes, lock, health, fails, tension, windHigh, wind⟩ := octets
  refine ⟨fun k => ⟨?_, ?_⟩, fun k => ?_, lock, health, fails, has8_congr tension ?_, has8_congr windHigh ?_, wind, zeros⟩
  · have row := at_flatMap (size := 1) (f := switchView) (fun _ => rfl) switches k
    rw [Nat.one_mul, Nat.zero_add, switchView, at_o8, settledCode_eq, faultCategory_code, switchCode_inFault] at row
    refine has8_congr row ?_
    cases (u.switches.get k).kind <;> rfl
  · exact at_o16.mp (at_flatMap (size := 2) (f := fun c : Switch => o16 c.changes) (fun _ => rfl) changes k)
  · have row := at_o16.mp (at_flatMap (size := 2) (f := fun c : BitVec 12 => o16 (c.toNat + 4096 * u.mark.code)) (fun _ => rfl) codes k)
    rwa [codeMark_code] at row
  · cases u.tension <;> rfl
  · simp [bitsOf_cons, bitsOf_nil, bitAt_eq]

theorem ropeShown {v : RopeView} (h : ∀ k, k < 0x40 → o k = (ropeView v).getD k 0) : RopeShown o v := by
  have length : (ropeView v).length = 32 := by
    unfold ropeView
    simp only [List.length_append, o8_length, o16_length, o16s_length, o32_length, oTime_length]
  obtain ⟨octets, zeros⟩ := at_view h (by rw [length]; decide)
  rw [length] at zeros
  unfold ropeView at octets
  simp only [List.append_assoc, at_append, at_o8, at_o16, at_o16s, at_o32, at_oTime, o8_length, o16_length, o16s_length, o32_length,
    Nat.reduceAdd] at octets
  obtain ⟨speed, bits, source, faulted, run, d1, d2, t1, t2, ceff, gap, slip, roll, overspeed, time⟩ := octets
  refine ⟨speed, has8_congr bits ?_, has8_congr source ?_, has8_congr faulted ?_, run, d1, d2, t1, t2, ceff, gap, slip, roll, overspeed,
    time, zeros⟩
  · simp only [bitsOf_cons, bitsOf_nil, bitAt_eq]
    ring
  · cases v.source <;> rfl
  · simp only [bitsOf_cons, bitsOf_nil, bitAt_eq]
    ring

/-! ### Stop causes and profiles -/

theorem causesShown {u : Supervisor} (h : ∀ k, k < 0xC8 → o k = (causesView u).getD k 0) : CausesShown o u := by
  have row (c : Cause) : (causeView c).length = 12 := rfl
  have length : (causesView u).length ≤ 0xC8 := by
    rw [causesView, List.length_append, table_length _ _ _ 12 row]
    exact Nat.le_refl _
  obtain ⟨octets, -⟩ := at_view h length
  unfold causesView at octets
  simp only [List.append_assoc, at_append, at_o8, at_pad, o8_length, pad_length, Nat.reduceAdd] at octets
  obtain ⟨count, bits, lost, unlisted, zeros, rows⟩ := octets
  refine ⟨count, has8_congr bits ?_, lost, unlisted, zeros, at_table row (fun r c hc => ?_) rows⟩
  · simp only [bitsOf_cons, bitsOf_nil, bitAt_eq]
    ring
  · unfold causeView at hc
    simp only [List.append_assoc, at_append, at_o8, at_oTime, at_pad, o8_length, oTime_length, Nat.reduceAdd, causeKind_code] at hc
    obtain ⟨kind, source, category, present, time, repeats, room⟩ := hc
    refine ⟨kind, source, has8_congr category ?_, has8_congr present ?_, time, repeats, room⟩
    · cases c.category <;> rfl
    · simp [bitsOf_cons, bitsOf_nil, bitAt_eq]

theorem profileShown {f : Profile} (h : ∀ k, k < 0x40 → o k = (profileView f).getD k 0) : ProfileShown o f := by
  have length : (profileView f).length = 50 := by
    unfold profileView
    simp only [List.length_append, o8_length, o16_length, o32_length]
  obtain ⟨octets, zeros⟩ := at_view h (by rw [length]; decide)
  rw [length] at zeros
  unfold profileView at octets
  simp only [List.append_assoc, at_append, at_o8, at_o16, at_o32, o8_length, o16_length, o32_length, Nat.reduceAdd] at octets
  obtain ⟨h0, h2, h4, sMin, h10, h12, h14, h16, h18, h20, h22, h24, h26, h28, h30, h32, h34, h36, h38, h40, samples,
    h43, h45, h47, alert⟩ := octets
  refine ⟨?_, sMin, samples, has8_congr alert ?_, zeros⟩
  · simp only [List.forall_mem_cons, List.not_mem_nil, IsEmpty.forall_iff, implies_true, and_true]
    exact ⟨h0, h2, h4, h10, h12, h14, h16, h18, h20, h22, h24, h26, h28, h30, h32, h34, h36, h38, h40, h43, h45, h47⟩
  · simp [bitsOf_cons, bitsOf_nil, bitAt_eq]

/-! ### The line and the calls -/

theorem qualityCount_eq (l : Line) : qualityCount l = l.qualityWindow.count true := by
  rw [qualityCount, List.count]
  congr 1
  funext b
  cases b <;> rfl

theorem lineShown {l : Line} (h : ∀ k, k < 0x30 → o k = (lineView l).getD k 0) : LineShown o l := by
  have length : (lineView l).length = 48 := by
    unfold lineView
    simp only [List.length_append, o8_length, o16_length, o32_length, oTime_length, List.length_cons, List.length_nil]
  obtain ⟨octets, -⟩ := at_view h (by rw [length])
  unfold lineView at octets
  simp only [List.append_assoc, at_append, at_cons, at_o8, at_o16, at_o32, at_oTime, o8_length, o16_length, o32_length, oTime_length,
    List.length_cons, List.length_nil, Nat.reduceAdd, diagnosis_code, qualityCount_eq, BitVec.ofNat_toNat, BitVec.setWidth_eq] at octets
  obtain ⟨state, rate, diagnosis, probe, ceiling, attempts, threshold, sleep, ⟨first, second, mask, -⟩, priority, auto, rest⟩ := octets
  refine ⟨has8_congr state ?_, rate, diagnosis, has8_congr probe ?_, ceiling, attempts, threshold, sleep, first, second, mask, priority,
    has8_congr auto ?_, rest⟩
  · cases l.state <;> rfl
  · cases l.lastProbe <;> rfl
  · simp [bitsOf_cons, bitsOf_nil, bitAt_eq]

theorem callView_length (c : CallSlot) : (callView c).length = 8 := by
  unfold callView
  simp only [List.length_append, o8_length, o16_length]

theorem ownSeize_eq (c : CallSlot) :
    c.ownSeize = decide (c.state ∈ [.seizing, .ringingOut] ∨ c.state = .connected ∧ c.role = .caller) := by
  rw [Bool.eq_iff_iff]
  simp [CallSlot.ownSeize]

theorem ownAnswer_eq (c : CallSlot) : c.ownAnswer = decide (c.state = .connected ∧ c.role = .answerer) := by
  rw [Bool.eq_iff_iff]
  simp [CallSlot.ownAnswer]

theorem callOwner_eq (order : Option SlotNo) : callOwner order = (order.map fun i => i.val).getD 255 := by cases order <;> rfl

theorem callShown {off : Nat} {c : CallSlot} (h : At o off (callView c)) : CallShown (fun k => o (off + k)) c := by
  unfold callView at h
  simp only [List.append_assoc, at_append, at_o8, at_o16, o8_length, o16_length, Nat.add_assoc, Nat.reduceAdd, callState_code, callOwner_eq,
    hookCode_eq, ownSeize_eq, ownAnswer_eq] at h
  obtain ⟨state, origin, order, reason, duration, bits, run⟩ := h
  refine ⟨state, has8_congr origin ?_, order, has8_congr reason ?_, duration, has8_congr bits ?_, run⟩
  · congr 1
    · cases c.originator <;> rfl
    · cases c.role <;> rfl
  · cases c.reason <;> rfl
  · simp only [bitsOf_cons, bitsOf_nil, bitAt_eq]
    ring

theorem callsShown {p : Part} (h : ∀ k, k < 0x20 → o k = (callsView p).getD k 0) : CallsShown o p := by
  have length : (callsView p).length = 26 := by
    unfold callsView
    simp only [List.length_append, o16_length, callView_length]
  obtain ⟨octets, zeros⟩ := at_view h (by rw [length]; decide)
  rw [length] at zeros
  unfold callsView at octets
  simp only [List.append_assoc, at_append, at_o16, o16_length, callView_length, Nat.reduceAdd] at octets
  obtain ⟨first, connects, won, lost, lapses, second, limit⟩ := octets
  have firstShown := callShown first
  simp only [Nat.zero_add] at firstShown
  exact ⟨firstShown, connects, won, lost, lapses, callShown second, limit, zeros⟩

end

end Sys2Proof.Machine

/-! The views of the messages, the grip test, the launch, the start arbiter and the pending actions, octet by octet (section 11.6). -/

namespace Sys2Proof.Machine

theorem holdReason_code (h : HoldReason) :
    h.code = [HoldReason.mode, .empty, .unidentified, .door, .s5Occupied, .gap, .speed, .inProgress, .none].idxOf h := by
  cases h <;> rfl

theorem targetCode_some (e : End) : targetCode (some e) = 1 + [End.a, .b].idxOf e := by cases e <;> rfl

theorem requester_code (r : Requester) : r.code = requesterNumber r := by cases r <;> rfl

theorem positionOf_eq (p : Part) (ref : Option Nat) : positionOf p ref = positionShown p ref := by
  cases ref with
  | none => rfl
  | some serial =>
    unfold positionOf positionShown
    dsimp only
    have index : (p.track.queue.map fun e => e.serial).idxOf serial = p.track.queue.findIdx fun e => e.serial == serial := by
      rw [List.idxOf, List.findIdx_map]
      rfl
    split
    next h =>
      refine (if_neg fun member => ?_).symm
      obtain ⟨e, he, hserial⟩ := List.mem_map.mp member
      simpa [hserial] using List.findIdx?_eq_none_iff.mp h e he
    next i h =>
      obtain ⟨bound, place⟩ := List.findIdx?_eq_some_iff_findIdx_eq.mp h
      rw [if_pos (List.idxOf_lt_length_iff.mp (by rw [index, place, List.length_map]; exact bound)), index, place]

section
variable {o : Nat → Byte}

/-! ### Receive slots, grip test and launch -/

theorem receiveView_length (s : ReceiveSlot) : (receiveView s).length = 72 := by
  unfold receiveView
  simp only [List.length_append, o8_length, pad_length, List.length_cons, List.length_nil, Vector.length_toList]

theorem receiveShown {s : ReceiveSlot} (h : At o 0 (receiveView s)) : ReceiveShown o s := by
  unfold receiveView at h
  simp only [List.append_assoc, at_append, at_one, at_o8, at_pad, at_vector, o8_length, pad_length, List.length_cons, List.length_nil,
    Vector.length_toList, Nat.reduceAdd] at h
  obtain ⟨state, type, length, room, octets, zeros⟩ := h
  refine ⟨has8_congr state ?_, type, length, room 0, octets, zeros⟩
  cases s.state <;> rfl

theorem windowView_length (w : Option GripWindow) : (windowView w).length = 13 := by cases w <;> rfl

theorem gripShown {g : Grip} (h : ∀ k, k < 0x40 → o k = (gripView g).getD k 0) : GripShown o g := by
  have length : (gripView g).length = 30 := by
    unfold gripView
    simp only [List.length_append, o8_length, o16_length, oTime_length, windowView_length]
  obtain ⟨octets, zeros⟩ := at_view h (by rw [length]; decide)
  rw [length] at zeros
  unfold gripView at octets
  simp only [List.append_assoc, at_append, at_o8, at_o16, at_oTime, o8_length, o16_length, oTime_length, windowView_length, Nat.reduceAdd,
    gripResult_code] at octets
  obtain ⟨window, result, cabin, codes, closed, least, most, passes, fails, incompletes⟩ := octets
  refine ⟨?_, result, cabin, codes, closed, least, most, passes, fails, incompletes, zeros⟩
  cases hw : g.window with
  | none =>
    rw [hw] at window
    exact at_pad.mp window
  | some w =>
    rw [hw] at window
    simp only [windowView, List.append_assoc, at_append, at_o8, at_o16, at_oTime, o8_length, o16_length, oTime_length, Nat.reduceAdd] at window
    obtain ⟨isOpen, cabin, samples, codes, opened, least, most, seen⟩ := window
    refine ⟨isOpen, cabin, samples, codes, opened, ?_, ?_, has8_congr seen ?_⟩
    · exact least.trans (by cases w.forces <;> rfl)
    · exact most.trans (by cases w.forces <;> rfl)
    · simp [bitsOf_cons, bitsOf_nil, bitAt_eq]

theorem launchShown {l : Launch} (h : ∀ k, k < 0x40 → o k = (launchView l).getD k 0) : LaunchShown o l := by
  have length : (launchView l).length = 28 := by
    unfold launchView
    simp only [List.length_append, o8_length, o16_length, oTime_length]
  obtain ⟨octets, zeros⟩ := at_view h (by rw [length]; decide)
  rw [length] at zeros
  unfold launchView at octets
  simp only [List.append_assoc, at_append, at_o8, at_o16, at_oTime, o8_length, o16_length, oTime_length, Nat.reduceAdd, holdReason_code,
    settledCode_eq] at octets
  obtain ⟨state, requested, hold, bits, asked, granted, changed, moved, noted, releases, passage, timeouts, uncommanded⟩ := octets
  refine ⟨has8_congr state ?_, requested, hold, has8_congr bits ?_, asked, granted, changed, moved, noted, releases, passage, timeouts,
    uncommanded, zeros⟩
  · cases l.state <;> rfl
  · simp only [bitsOf_cons, bitsOf_nil, bitAt_eq]
    congr 1
    · congr 1
      ring

/-! ### The start arbiter and the pending actions -/

theorem arbiterShown {d : Doors} (h : ∀ k, k < 0x40 → o k = (arbiterView d).getD k 0) : ArbiterShown o d := by
  have requesters := table_length (fun r : Requester => o8 r.code) d.queue 9 1 fun _ => rfl
  have times := table_length (fun g : Grant => oTime g.time) d.history 8 4 fun _ => rfl
  have holders := table_length (fun g : Grant => o8 g.requester.code) d.history 8 1 fun _ => rfl
  have length : (arbiterView d).length = 58 := by
    unfold arbiterView
    simp only [List.length_append, o8_length, o16_length, pad_length, requesters, times, holders]
  obtain ⟨octets, zeros⟩ := at_view h (by rw [length]; decide)
  rw [length] at zeros
  unfold arbiterView at octets
  simp only [List.append_assoc, at_append, at_o8, at_o16, at_pad, o8_length, o16_length, pad_length, requesters, times, holders, Nat.reduceAdd,
    Nat.reduceMul] at octets
  obtain ⟨budget, count, window, queue, room, given, room', history, named, grants⟩ := octets
  refine ⟨budget, count, window, at_table (fun _ => rfl) (fun r x hx => ?_) queue, room 0, given, room' 0,
    at_table (fun _ => rfl) (fun r g hg => at_oTime.mp hg) history, at_table (fun _ => rfl) (fun r g hg => ?_) named, grants, zeros⟩
  · rw [at_o8, requester_code] at hx
    exact hx
  · rw [at_o8, requester_code] at hg
    exact hg

theorem actionRow {p : Part} {a : Action} (h : At o 0 (actionView p a)) :
    Has8 o 0 a.entry ∧ Has8 o 1 a.channel.val ∧ Has8 o 2 (1 + [End.a, .b].idxOf a.target) ∧ Has8 o 3 (bitsOf [a.isCabin]) ∧
      Has32 o 4 a.due ∧ Has8 o 8 a.cabin ∧ Has8 o 9 (positionShown p a.ref) ∧ Has8 o 10 (bitsOf [a.dueWaiting]) ∧ o 11 = 0 := by
  unfold actionView at h
  simp only [List.append_assoc, at_append, at_o8, at_oTime, at_pad, o8_length, oTime_length, Nat.reduceAdd, targetCode_some,
    positionOf_eq] at h
  obtain ⟨entry, door, target, flag, due, cabin, position, waits, room⟩ := h
  refine ⟨entry, door, target, has8_congr flag ?_, due, cabin, position, has8_congr waits ?_, room 0⟩
  · simp [bitsOf_cons, bitsOf_nil, bitAt_eq]
  · simp [bitsOf_cons, bitsOf_nil, bitAt_eq]

theorem flightView_length (f : Option Flight) : (flightView f).length = 8 := by cases f <;> rfl

theorem confirmationView_length (c : Option Confirmation) : (confirmationView c).length = 10 := by cases c <;> rfl

theorem actionView_length (p : Part) (a : Action) : (actionView p a).length = 12 := rfl

theorem actionsShown {p : Part} (h : ∀ k, k < 0x1A0 → o k = (actionsView p).getD k 0) : ActionsShown o p := by
  have actions := table_length (actionView p) p.sequencer.actions Config.actionsMax 12 (actionView_length p)
  have flights := flatMap_vector_length (v := p.sequencer.flights) flightView_length
  have length : (actionsView p).length = 292 := by
    unfold actionsView
    dsimp only
    simp only [List.length_append, o8_length, o16_length, pad_length, actions, flights, confirmationView_length]
    rfl
  obtain ⟨octets, zeros⟩ := at_view h (by rw [length]; decide)
  rw [length] at zeros
  unfold actionsView at octets
  dsimp only at octets
  simp only [List.append_assoc, at_append, at_o8, at_o16, at_pad, o8_length, o16_length, pad_length, actions, flights, Config.actionsMax,
    Nat.reduceAdd, Nat.reduceMul] at octets
  obtain ⟨count, room, rows, inFlight, h260, h262, h264, h266, h268, h270, h272, h274, h276, h278, h280, last⟩ := octets
  refine ⟨count, room, at_table (actionView_length p) (fun r a ha => actionRow ha) rows, fun n => ?_, ?_, ?_, zeros⟩
  · have flight := at_flatMap flightView_length inFlight n
    have shift (a k : Nat) : a + 8 * n.val + k = a + k + 8 * n.val := Nat.add_right_comm _ _ _
    cases hf : p.sequencer.flights.get n with
    | none =>
      rw [hf, flightView, at_pad, Nat.add_right_comm] at flight
      exact flight
    | some f =>
      rw [hf] at flight
      simp only [flightView, List.append_assoc, at_append, at_o8, at_oTime, at_pad, o8_length, pad_length, shift,
        Nat.reduceAdd] at flight
      obtain ⟨entry, cabin, late, zero, issued⟩ := flight
      refine ⟨entry, cabin, has8_congr late ?_, zero ⟨0, by omega⟩, ?_⟩
      · simp [bitsOf_cons, bitsOf_nil, bitAt_eq]
      · simpa only [Has32, shift, Nat.reduceAdd] using issued
  · simp only [List.forall_mem_cons, List.not_mem_nil, IsEmpty.forall_iff, implies_true, and_true]
    exact ⟨h260, h262, h264, h266, h268, h270, h272, h274, h276, h278, h280⟩
  · cases hc : p.sequencer.lastConfirmation with
    | none =>
      rw [hc] at last
      exact at_pad.mp last
    | some c =>
      rw [hc] at last
      simp only [confirmationView, List.append_assoc, at_append, at_o8, at_o16, at_oTime, at_pad, o8_length, o16_length, pad_length,
        Nat.reduceAdd] at last
      obtain ⟨cabin, zero, attendant, zeros, time⟩ := last
      exact ⟨cabin, zero 0, attendant, zeros, time⟩

end

end Sys2Proof.Machine

/-! The octets of the window view by view, as the host reads them (sections 11.1 and 11.6). -/

namespace Sys2Proof.Machine

section
variable (r : Bool) (p : Part)

/-- The octets of a view of the window, from its base on. -/
theorem octetShown_view {base size : Nat} {l : List Byte} (hsize : base + size ≤ 16384)
    (h : ∀ j, j < size → windowOctet r p (base + j) = l.getD j 0) (k : Nat) (hk : k < size) : octetShown r p (base + k) = l.getD k 0 := by
  rw [octetShown_eq r p _ (by omega), h k hk]

/-- The octets of a record of a table of the window, as the map gives them. -/
theorem windowOctet_record {n base size : Nat} {f : Fin n → List Byte}
    (h : ∀ j, j < size * n → windowOctet r p (base + j) = recordOctet size j (recordOf f)) (hf : ∀ i, (f i).length = size) (i : Fin n) :
    At (fun k => windowOctet r p (base + size * i.val + k)) 0 (f i) := by
  intro k hk
  rw [hf] at hk
  have inside : size * i.val + k < size * n := by
    calc size * i.val + k < size * (i.val + 1) := by rw [Nat.mul_add]; omega
      _ ≤ size * n := Nat.mul_le_mul_left _ i.isLt
  dsimp only
  rw [Nat.zero_add, Nat.add_assoc, h _ inside, recordOctet_at size k f i hk]

/-- The octets of a record of a table of the window, as the host reads them. -/
theorem octetShown_record {n base size : Nat} {f : Fin n → List Byte} (hsize : base + size * n ≤ 16384)
    (h : ∀ j, j < size * n → windowOctet r p (base + j) = recordOctet size j (recordOf f)) (hf : ∀ i, (f i).length = size) (i : Fin n) :
    At (fun k => octetShown r p (base + size * i.val + k)) 0 (f i) := by
  intro k hk
  rw [← windowOctet_record r p h hf i k hk]
  have last : size * i.val + size ≤ size * n := by
    calc size * i.val + size = size * (i.val + 1) := by ring
      _ ≤ size * n := Nat.mul_le_mul_left _ i.isLt
  rw [hf] at hk
  exact octetShown_eq r p _ (by omega)

theorem viewsShown : ViewsShown (octetShown r p) p :=
  ⟨queueShown (octetShown_view r p (by decide) fun j hj => windowOctet_queue r p j hj),
    rosterShown (octetShown_view r p (by decide) fun j hj => windowOctet_roster r p j hj),
    fun n => channelShown (octetShown_record r p (by decide) (fun j hj => windowOctet_channels r p j hj) (channelView_length p) n),
    fun e => programEntryShown (octetShown_record r p (f := fun i => programView (p.sequencer.program.get i) (p.sequencer.made.get i))
      (by decide) (fun j hj => windowOctet_program r p j hj) (fun _ => programView_length _ _) e),
    sensorsShown (octetShown_view r p (by decide) fun j hj => windowOctet_sensors r p j hj),
    ropeShown (octetShown_view r p (by decide) fun j hj => windowOctet_rope r p j hj),
    causesShown (octetShown_view r p (by decide) fun j hj => windowOctet_causes r p j hj),
    profileShown (octetShown_view r p (by decide) fun j hj => windowOctet_profileA r p j hj),
    profileShown (octetShown_view r p (by decide) fun j hj => windowOctet_profileB r p j hj),
    lineShown (octetShown_view r p (by decide) fun j hj => windowOctet_line r p j hj),
    callsShown (octetShown_view r p (by decide) fun j hj => windowOctet_calls r p j hj),
    fun i => receiveShown (octetShown_record r p (f := fun i => receiveView (p.messages.slots.get i))
      (by decide) (fun j hj => windowOctet_receive r p j hj) (fun _ => receiveView_length _) i),
    gripShown (octetShown_view r p (by decide) fun j hj => windowOctet_grip r p j hj),
    launchShown (octetShown_view r p (by decide) fun j hj => windowOctet_launch r p j hj),
    arbiterShown (octetShown_view r p (by decide) fun j hj => windowOctet_arbiter r p j hj),
    actionsShown (octetShown_view r p (by decide) fun j hj => windowOctet_actions r p j hj)⟩

end

end Sys2Proof.Machine

/-! The header, the order slots, the cabin table and the registers, a half-word at a time, and the half-word read latch (O39). -/

namespace Sys2Proof.Machine

section
variable (r : Bool) (p : Part)

/-- The half-word at offset `m` of a view, from the octets of the view. -/
theorem windowHalf_from (base m n : Nat) (hn : 2 * n = base + m) (bound : n < 8192) :
    windowHalf r p (BitVec.ofNat 13 n) = windowOctet r p (base + (m + 1)) ++ windowOctet r p (base + m) := by
  have number : (BitVec.ofNat 13 n).toNat = n := by simp; omega
  rw [windowHalf, number, hn, Nat.add_assoc]

theorem bitAt_ite (b : Bool) (n : Nat) : bitAt b n = if b = true then 2 ^ n else 0 := rfl

/-! ### The header -/

theorem mode_code (m : Mode) : m.code = [Mode.off, .ready, .starting, .run, .stoppingService, .stoppingFast, .stopped].idxOf m := by
  cases m <;> rfl

theorem longOrdersHeld_eq (w : Window) : longOrdersHeld w = w.slots.toList.countP (fun x => decide
    (x.state ∈ [.taken, .withdraw] ∧ x.kind ∈ [0x31, 0x51, 0x52, 0x60, 0x70])) := by
  rw [longOrdersHeld]
  congr 1
  funext x
  rw [Bool.eq_iff_iff]
  simp [Slot.held, isLongKind, or_assoc]

theorem longOrdersHeld_le (w : Window) : longOrdersHeld w ≤ 32 := by
  refine List.countP_le_length.trans ?_
  rw [Vector.length_toList]

/-- Two half-words are four octets. -/
theorem four_octets (a b c d : Byte) : (a ++ b) ++ (c ++ d) = a ++ b ++ c ++ d := (BitVec.append_assoc (x₁ := a ++ b)).symm

theorem headerView_length : (headerView p).length = 25 := by
  unfold headerView
  simp only [List.length_append, o8_length, o16_length, o16s_length, o32_length, oTime_length, pad_length]

theorem header_halves :
    let half := fun n : Nat => windowHalf r p (BitVec.ofNat 13 n)
    half 0 = 1 ∧
     half 1 = pair ([Mode.off, .ready, .starting, .run, .stoppingService, .stoppingFast, .stopped].idxOf p.sup.mode)
       ((if p.sup.active = .b then 1 else 0) + (if p.sup.pendingSwitch.isSome then 2 else 0)) ∧
     half 2 = pair ([LineState.down, .probing, .training, .up, .dormant].idxOf p.line.state) p.line.rate ∧
     half 3 = pair ([Diagnosis.none, .summitUnpowered, .lineOpen, .trainingFailed, .lost, .quality].idxOf p.line.diagnosis)
       ((if p.sup.svcStop then 1 else 0) + (if p.sup.fastStop then 2 else 0)) ∧
     half 5 ++ half 4 = p.clock.now ∧ half 6 = BitVec.ofNat 16 p.window.softResets ∧
     half 7 = pair ((if p.sup.caps.wind then 1 else 0) + (if p.sup.caps.hold then 2 else 0) + (if p.sup.caps.door then 4 else 0) +
       (if p.sup.caps.link then 8 else 0)) 0 ∧
     (∀ i : SlotNo, (half 9 ++ half 8).getLsbD i.val = decide ((slotOf p i).state = .done)) ∧
     half 10 = BitVec.ofNat 16 p.sup.ceiling ∧ half 11 = BitVec.ofInt 16 p.rope.view.v ∧
     (half 12).toNat = p.window.slots.toList.countP (fun x => decide
       (x.state ∈ [.taken, .withdraw] ∧ x.kind ∈ [0x31, 0x51, 0x52, 0x60, 0x70])) ∧
     (∀ j : Fin 19, half (13 + j.val) = 0) := by
  intro half
  have place (m n : Nat) (hn : 2 * n = m) (bound : n < 8192) : half n = windowOctet r p (m + 1) ++ windowOctet r p m := by
    have h := windowHalf_from r p 0 m n (by omega) bound
    rwa [Nat.zero_add, Nat.zero_add] at h
  obtain ⟨octets, zeros⟩ := at_view (o := windowOctet r p) (fun k hk => windowOctet_header r p k hk)
    (by rw [headerView_length]; decide)
  rw [headerView_length] at zeros
  unfold headerView at octets
  simp only [List.append_assoc, at_append, at_o8, at_o16, at_o16s, at_o32, at_oTime, at_pad, o8_length, o16_length, o16s_length, o32_length,
    oTime_length, pad_length, Nat.reduceAdd, mode_code, diagnosis_code, BitVec.ofNat_toNat, BitVec.setWidth_eq] at octets
  obtain ⟨version, mode, profile, line, rate, diagnosis, pins, time, resets, caps, room, done, ceiling, speed, held⟩ := octets
  refine ⟨?_, ?_, ?_, ?_, ?_, ?_, ?_, fun i => ?_, ?_, ?_, ?_, fun j => ?_⟩
  · exact (place 0 0 rfl (by decide)).trans version
  · rw [place 2 1 rfl (by decide), mode, profile]
    simp only [bitAt_ite, beq_iff_eq]
    rfl
  · rw [place 4 2 rfl (by decide), line, rate]
    cases p.line.state <;> rfl
  · rw [place 6 3 rfl (by decide), diagnosis, pins]
    rfl
  · rw [place 10 5 rfl (by decide), place 8 4 rfl (by decide), four_octets]
    exact time
  · exact (place 12 6 rfl (by decide)).trans resets
  · rw [place 14 7 rfl (by decide), caps, show windowOctet r p (14 + 1) = 0 from room 0]
    rfl
  · rw [place 18 9 rfl (by decide), place 16 8 rfl (by decide), four_octets]
    refine (congrArg (BitVec.getLsbD · i.val) done).trans ?_
    rw [doneMap_bit]
    rfl
  · exact (place 20 10 rfl (by decide)).trans ceiling
  · exact (place 22 11 rfl (by decide)).trans speed
  · have few := longOrdersHeld_le p.window
    rw [place 24 12 rfl (by decide), held, show windowOctet r p (24 + 1) = 0 from zeros 0, ← longOrdersHeld_eq,
      BitVec.toNat_append, asOctet, BitVec.toNat_ofNat]
    simp
    omega
  · have bound := j.isLt
    rw [place (26 + 2 * j.val) (13 + j.val) (by omega) (by omega)]
    have low := zeros ⟨1 + 2 * j.val, by omega⟩
    have high := zeros ⟨2 + 2 * j.val, by omega⟩
    dsimp only at low high
    rw [show 26 + 2 * j.val = 25 + (1 + 2 * j.val) by omega, low, show 25 + (1 + 2 * j.val) + 1 = 25 + (2 + 2 * j.val) by omega, high]
    rfl

/-! ### Order slots and cabin records -/

theorem slotState_code (s : SlotState) : s.code = [SlotState.free, .posted, .taken, .withdraw, .done].idxOf s := by cases s <;> rfl

theorem slotView_length (s : Slot) : (slotView s).length = 128 := by
  unfold slotView
  simp only [List.length_append, o8_length, o16_length, List.length_cons, List.length_nil, Vector.length_toList]

theorem octet_param (s : Slot) (j : Nat) (h : j < 120) : asOctet (octet s j) = s.params.get ⟨j, h⟩ := by
  rw [octet, vector_get_eq]
  simp [List.getD_eq_getElem?_getD, h]

theorem slot_halves (i : SlotNo) :
    let half := fun n : Nat => windowHalf r p (BitVec.ofNat 13 n)
    half (32 + 64 * i.val) = (slotOf p i).kind ++
       asOctet ([SlotState.free, .posted, .taken, .withdraw, .done].idxOf (slotOf p i).state) ∧
     half (33 + 64 * i.val) = (slotOf p i).tag ∧ half (34 + 64 * i.val) = (slotOf p i).detail ++ (slotOf p i).result ∧
     half (35 + 64 * i.val) = (slotOf p i).progress ∧
     ∀ j : Fin 60, half (36 + 64 * i.val + j.val) = pair (octet (slotOf p i) (2 * j.val)) (octet (slotOf p i) (2 * j.val + 1)) := by
  intro half
  have place (m n : Nat) (hn : 2 * n = 64 + 128 * i.val + m) (hm : m < 128) :
      half n = (fun x => windowOctet r p (64 + 128 * i.val + x)) (m + 1) ++ (fun x => windowOctet r p (64 + 128 * i.val + x)) m :=
    windowHalf_from r p (64 + 128 * i.val) m n hn (by omega)
  have octets := windowOctet_record r p (f := fun i => slotView (p.window.slots.get i)) (fun j hj => windowOctet_slots r p j hj)
    (fun _ => slotView_length _) i
  rw [show p.window.slots.get i = slotOf p i from rfl] at octets
  generalize (fun x => windowOctet r p (64 + 128 * i.val + x)) = o at place octets
  generalize slotOf p i = s at *
  unfold slotView at octets
  simp only [List.append_assoc, at_append, at_cons, at_o8, at_o16, at_vector, o8_length, o16_length, List.length_cons, List.length_nil,
    Nat.reduceAdd, slotState_code, BitVec.ofNat_toNat, BitVec.setWidth_eq] at octets
  obtain ⟨state, ⟨kind, -⟩, tag, ⟨result, detail, -⟩, progress, params⟩ := octets
  refine ⟨?_, ?_, ?_, ?_, fun j => ?_⟩
  · rw [place 0 _ (by omega) (by decide), state, kind]
  · exact (place 2 _ (by omega) (by decide)).trans tag
  · rw [place 4 _ (by omega) (by decide), result, detail]
  · exact (place 6 _ (by omega) (by decide)).trans progress
  · have bound := j.isLt
    rw [place (8 + 2 * j.val) _ (by omega) (by omega), pair, octet_param _ _ (by omega), octet_param _ _ (by omega)]
    rw [← params, ← params]
    rfl

theorem cabinView_length (c : CabinRecord) : (cabinView c).length = 16 := by
  unfold cabinView
  simp only [List.length_append, o8_length, o16_length, oTime_length, pad_length]

theorem cabin_halves (k : Fin 128) :
    let half := fun n : Nat => windowHalf r p (BitVec.ofNat 13 n)
    let c := p.cabins.get k
    half (0x820 + 8 * k.val) = pair ((if c.registered then 1 else 0) + (if c.inService then 2 else 0))
       ([Place.unknown, .garaged, .inStation, .onLine].idxOf c.place) ∧
     half (0x821 + 8 * k.val) = pair ([CabinDoor.unknown, .opened, .closed, .locked, .notLocked, .obstructed].idxOf c.door)
       ([GripResult.none, .pass, .fail, .incomplete].idxOf c.grip) ∧
     half (0x822 + 8 * k.val) = BitVec.ofNat 16 c.gripMin ∧ half (0x823 + 8 * k.val) = BitVec.ofNat 16 c.gripMax ∧
     half (0x824 + 8 * k.val) = pair ([SummitMark.none, .passed, .missed].idxOf c.mark)
       ([LaunchNote.notQueued, .queued, .sent, .dropped].idxOf c.note) ∧
     half (0x825 + 8 * k.val) = 0 ∧ half (0x827 + 8 * k.val) ++ half (0x826 + 8 * k.val) = c.lastRelease := by
  intro half c
  have place (m n : Nat) (hn : 2 * n = 0x1040 + 16 * k.val + m) (hm : m < 16) :
      half n = (fun x => windowOctet r p (0x1040 + 16 * k.val + x)) (m + 1) ++ (fun x => windowOctet r p (0x1040 + 16 * k.val + x)) m :=
    windowHalf_from r p (0x1040 + 16 * k.val) m n hn (by omega)
  have octets := windowOctet_record r p (f := fun i => cabinView (p.cabins.get i)) (fun j hj => windowOctet_cabins r p j hj)
    (fun _ => cabinView_length _) k
  rw [show p.cabins.get k = c from rfl] at octets
  generalize (fun x => windowOctet r p (0x1040 + 16 * k.val + x)) = o at place octets
  clear_value c
  unfold cabinView at octets
  simp only [List.append_assoc, at_append, at_o8, at_o16, at_oTime, at_pad, o8_length, o16_length, pad_length, Nat.reduceAdd, gripResult_code,
    summitMark_code] at octets
  obtain ⟨flags, whereabouts, door, grip, least, most, mark, note, room, released⟩ := octets
  refine ⟨?_, ?_, ?_, ?_, ?_, ?_, ?_⟩
  · rw [place 0 _ (by omega) (by decide), flags, whereabouts]
    cases c.place <;> rfl
  · rw [place 2 _ (by omega) (by decide), door, grip]
    cases c.door <;> rfl
  · exact (place 4 _ (by omega) (by decide)).trans least
  · exact (place 6 _ (by omega) (by decide)).trans most
  · rw [place 8 _ (by omega) (by decide), mark, note]
    cases c.note <;> rfl
  · rw [place 10 _ (by omega) (by decide), show o (10 + 1) = 0 from room 1, show o 10 = 0 from room 0]
    rfl
  · rw [place 14 _ (by omega) (by decide), place 12 _ (by omega) (by decide), four_octets]
    exact released

/-! ### Registers and unassigned offsets -/

theorem register_halves :
    let half := fun n : Nat => windowHalf r p (BitVec.ofNat 13 n)
    half 0x1FF8 = 0x0A01 ∧ half 0x1FF9 = pair ((if r then 1 else 0) + (if p.window.attnEnable then 2 else 0)) 0 ∧
      half 0x1FFA = p.window.attention ∧ half 0x1FFB = p.window.attentionMask := by
  intro half
  have place (m n : Nat) (hn : 2 * n = 0x3FF0 + m) (hm : m < 8) :
      half n = (fun x => windowOctet r p (0x3FF0 + x)) (m + 1) ++ (fun x => windowOctet r p (0x3FF0 + x)) m :=
    windowHalf_from r p 0x3FF0 m n hn (by omega)
  obtain ⟨octets, -⟩ := at_view (o := fun k => windowOctet r p (0x3FF0 + k)) (l := registersView r p.window)
    (fun k hk => windowOctet_registers r p k hk) (Nat.le_refl _)
  unfold registersView at octets
  simp only [List.append_assoc, at_append, at_o16, o16_length, Nat.reduceAdd, BitVec.ofNat_toNat, BitVec.setWidth_eq] at octets
  obtain ⟨part, control, attention, mask⟩ := octets
  refine ⟨(place 0 _ rfl (by decide)).trans part, ?_, (place 4 _ rfl (by decide)).trans attention, (place 6 _ rfl (by decide)).trans mask⟩
  refine ((place 2 _ rfl (by decide)).trans control).trans ?_
  cases r <;> cases p.window.attnEnable <;> rfl

/-- The offsets that the map of section 11.1 does not assign. -/
def Unassigned (off : Nat) : Prop :=
  (0x1A88 ≤ off ∧ off < 0x1B00) ∨ (0x1E08 ≤ off ∧ off < 0x1E10) ∨ (0x1EE0 ≤ off ∧ off < 0x1F00) ∨
    (0x2280 ≤ off ∧ off < 0x3FF0) ∨ 0x3FF8 ≤ off

theorem windowOctet_unassigned {off : Nat} (h : Unassigned off) : windowOctet r p off = 0 := by
  unfold windowOctet
  obtain h | h | h | h | h := h
  · repeat rw [if_neg (by omega)]
    rw [if_pos (by omega)]
  · repeat rw [if_neg (by omega)]
    rw [if_pos (by omega)]
  · repeat rw [if_neg (by omega)]
    rw [if_pos (by omega)]
  · repeat rw [if_neg (by omega)]
    rw [if_pos (by omega)]
  · repeat rw [if_neg (by omega)]

theorem windowHalf_unassigned {a : BitVec 13} (low : Unassigned (2 * a.toNat)) (high : Unassigned (2 * a.toNat + 1)) :
    windowHalf r p a = 0 := by
  rw [windowHalf, windowOctet_unassigned r p low, windowOctet_unassigned r p high]
  rfl

end

/-! ### The read latch (R189) -/

section
variable {s : State} {a : BitVec 13}

/-- A read of a half-word that the latch does not hold. -/
theorem hostRead_other (hbefore : s.before = none) (hlatch : ∀ l ∈ s.part.window.latch, l.addr ≠ a) :
    hostRead a s = { s with busData := windowHalf false s.part a, part := setLatch (latchAfter s.part a) s.part } := by
  have value : readsAs s a = windowHalf false s.part a := by rw [readsAs, readPart, hbefore]; rfl
  unfold hostRead
  rw [if_neg (by rw [hbefore]; decide), value]
  cases hl : s.part.window.latch with
  | none => rfl
  | some l => exact if_neg (by simpa using hlatch l hl)

/-- A read of the half-word that the latch holds. -/
theorem hostRead_held (hbefore : s.before = none) {l : Latch} (hl : s.part.window.latch = some l) (ha : l.addr = a) :
    hostRead a s = { s with busData := l.value, part := setLatch none s.part } := by
  unfold hostRead
  rw [if_neg (by rw [hbefore]; decide), hl]
  exact if_pos (by simpa using ha)

theorem latched_low_read_of_long (hbefore : s.before = none) (hlong : isLongField (2 * a.toNat) = true)
    (hlatch : ∀ l ∈ s.part.window.latch, l.addr ≠ a) : After (.latchedLowRead a) s (fun t =>
      t.busData = windowHalf false s.part a ∧
      t = { s with busData := t.busData, part := { s.part with window := { s.part.window with
        latch := some { addr := a + 1, value := windowHalf false s.part (a + 1) } } } }) := by
  refine ⟨hostRead a s, rfl, ?_⟩
  rw [hostRead_other hbefore hlatch, latchAfter, if_pos hlong]
  exact ⟨rfl, rfl⟩

theorem latched_low_read_of_short (hbefore : s.before = none) (hshort : isLongField (2 * a.toNat) = false)
    (hlatch : ∀ l ∈ s.part.window.latch, l.addr ≠ a) :
    After (.latchedLowRead a) s (fun t => t = { s with busData := windowHalf false s.part a }) := by
  refine ⟨hostRead a s, rfl, ?_⟩
  rw [hostRead_other hbefore hlatch, latchAfter, if_neg (by rw [hshort]; decide)]
  rfl

end

/-- Settles O39: the reads by the cases of the latch, and the window view by view from the map of section 11.1. -/
theorem latchedReadsReturnOneMoment : Obligations.LatchedReadsReturnOneMoment := by
  refine ⟨fun a s hbefore => ⟨latched_low_read_of_long hbefore, latched_low_read_of_short hbefore, fun l hl ha => ?_⟩, fun p r => ?_⟩
  · exact ⟨hostRead a s, rfl, hostRead_held hbefore hl ha⟩
  · obtain ⟨part, control, attention, mask⟩ := register_halves r p
    refine ⟨header_halves r p, slot_halves r p, cabin_halves r p, viewsShown r p, part, control, attention, mask, fun a ha => ?_⟩
    have bound := a.isLt
    exact windowHalf_unassigned r p (by unfold Unassigned; omega) (by unfold Unassigned; omega)

end Sys2Proof.Machine
